-- ==== Sys2Proof/Word.lean ====
section
/-! DEFINITION. The word types of the register space and of the memories, and their plainest
arithmetic: bytes are numbered from the least significant (R3). -/

namespace Sys2Proof

/-- One byte. -/
abbrev Byte := BitVec 8

/-- One register of the 64 MiB register space (R5). -/
abbrev Word := BitVec 32

/-- A 64-bit quantity: a register pair of R6. -/
abbrev Dword := BitVec 64

/-- The number of bytes a KiB holds (R2). -/
abbrev kib : Nat := 1024

/-- The number of bytes a MiB holds (R2). -/
abbrev mib : Nat := 1048576

/-- Wall ticks in one microsecond (R16). -/
abbrev us : Nat := 600

/-- Wall ticks in one millisecond (R16). -/
abbrev ms : Nat := 600000

end Sys2Proof
end

