-- ==== Sys2Proof/Machine/Sparse.lean ====
section
/-! DEFINITION. Sparse tables and memories as plain data: a list of (key, entry) pairs with strictly
rising keys; a key that is not listed holds the table's default. The deck, the external memory, the host
memory behind port 0, the flash and the register file are all held this way. -/

namespace Sys2Proof.Machine

/-- A sparse table: keys strictly rising, unlisted keys at a default that its reader names. -/
abbrev Sparse (α : Type) := List (Nat × α)

/-- A byte-addressed memory: `Host.Cell` is `Nat × BitVec 8`. -/
abbrev Memory := List Host.Cell

/-- The entry listed at a key, if any. -/
def Sparse.find {α : Type} : Sparse α → Nat → Option α
  | [], _ => none
  | (k, v) :: m, a => if k = a then some v else Sparse.find m a

/-- The entry at a key, the default where none is listed. -/
def Sparse.get {α : Type} (d : α) (m : Sparse α) (a : Nat) : α := (Sparse.find m a).getD d

/-- The table without a key. -/
def Sparse.erase {α : Type} (m : Sparse α) (a : Nat) : Sparse α := m.filter fun c => c.1 ≠ a

/-- Insertion of a key that is not listed, keeping the keys rising. -/
def Sparse.insert {α : Type} (m : Sparse α) (a : Nat) (v : α) : Sparse α :=
  match m with
  | [] => [(a, v)]
  | c :: m' => if a < c.1 then (a, v) :: c :: m' else c :: Sparse.insert m' a v

/-- List an entry at a key, whatever stood there. -/
def Sparse.set {α : Type} (m : Sparse α) (a : Nat) (v : α) : Sparse α := Sparse.insert (Sparse.erase m a) a v

/-- Write an entry in canonical form: writing the default removes the key. -/
def Sparse.put {α : Type} [DecidableEq α] (d : α) (m : Sparse α) (a : Nat) (v : α) : Sparse α :=
  if v = d then Sparse.erase m a else Sparse.set m a v

/-- Remove every key of `[a, a + n)`. -/
def Sparse.clear {α : Type} (m : Sparse α) (a n : Nat) : Sparse α :=
  m.filter fun c => ¬ (a ≤ c.1 ∧ c.1 < a + n)

/-- Keys strictly rise. -/
def Sparse.rising {α : Type} : Sparse α → Bool
  | [] => true
  | [_] => true
  | c :: c' :: m => decide (c.1 < c'.1) && Sparse.rising (c' :: m)

/-- The canonical form of a memory whose unlisted bytes read `d`. -/
def Memory.wf (d : Byte) (m : Memory) : Bool := Sparse.rising m && m.all fun c => c.2 ≠ d

/-- The byte at an address, `d` where nothing is listed. -/
def readByte (d : Byte) (m : Memory) (a : Nat) : Byte := Sparse.get d m a

/-- `n` bytes from an address upwards. -/
def readBytes (d : Byte) (m : Memory) (a : Nat) : Nat → List Byte
  | 0 => []
  | n + 1 => readByte d m a :: readBytes d m (a + 1) n

/-- Write bytes from an address upwards. -/
def writeBytes (d : Byte) (m : Memory) (a : Nat) : List Byte → Memory
  | [] => m
  | b :: bs => writeBytes d (Sparse.put d m a b) (a + 1) bs

/-- The number that bytes spell, least significant first (R4: structures held in memory). -/
def leNat : List Byte → Nat
  | [] => 0
  | b :: bs => b.toNat + 256 * leNat bs

/-- The number that bytes spell, most significant first (R4: formats of the serial fabric). -/
def beNat (bs : List Byte) : Nat := bs.foldl (fun n b => 256 * n + b.toNat) 0

/-- `n` bytes of a number, least significant first. -/
def leBytes : Nat → Nat → List Byte
  | 0, _ => []
  | n + 1, v => BitVec.ofNat 8 v :: leBytes n (v / 256)

/-- `n` bytes of a number, most significant first. -/
def beBytes (n v : Nat) : List Byte := (leBytes n v).reverse

/-- A slice of a byte list: `n` bytes from offset `o`, short where the list ends. -/
def bytesAt (bs : List Byte) (o n : Nat) : List Byte := (bs.drop o).take n

/-- A little-endian field of a byte list. -/
def leAt (bs : List Byte) (o n : Nat) : Nat := leNat (bytesAt bs o n)

/-- A big-endian field of a byte list. -/
def beAt (bs : List Byte) (o n : Nat) : Nat := beNat (bytesAt bs o n)

/-- The bits `[lo + w − 1 : lo]` of a number (R3). -/
def bits (n lo w : Nat) : Nat := n / 2 ^ lo % 2 ^ w

/-- Pad a byte list with zeros to a length. -/
def padTo (n : Nat) (bs : List Byte) : List Byte := bs ++ List.replicate (n - bs.length) 0

/-- The number of a boolean. -/
def b2n (b : Bool) : Nat := if b then 1 else 0

/-- Two's complement: the integer that the low `w` bits of a number spell (R11). -/
def sInt (w n : Nat) : Int := if 2 ^ (w - 1) ≤ n % 2 ^ w then (n % 2 ^ w : Int) - 2 ^ w else (n % 2 ^ w : Int)

/-- The `w` bits that spell an integer in two's complement. -/
def uNat (w : Nat) (i : Int) : Nat := (i % (2 ^ w : Int)).toNat

/-- `sat(x, lo, hi)` of R12. -/
def sat (x lo hi : Int) : Int := if x < lo then lo else if hi < x then hi else x

end Sys2Proof.Machine
end

