-- ==== Sys2Proof/Machine/Types.lean ====
section
/-! DEFINITION. The names and records that both the commands and the state are made of: access paths,
planks and messages of the fabric, time planks, packets of the network, coded slices. -/

namespace Sys2Proof

open Sys2Proof.Machine

/-- An access path of R6: the PCIe port, the SPI port, or one of the four entries of HIF_REMOTE_NODE. -/
inductive Path where
  | pcie
  | spi
  | remote (entry : Fin 4)
deriving DecidableEq, Repr

/-- The host port of a path (Table 2-1). -/
def Path.port : Path → Nat
  | .pcie => 0
  | .spi => 1
  | .remote _ => 2

/-- A number for each path: 0 PCIe, 1 SPI, 2 + k entry k of HIF_REMOTE_NODE. -/
def Path.num : Path → Nat
  | .pcie => 0
  | .spi => 1
  | .remote e => 2 + e.val

/-- A 66-bit block on a lane (R174): its sync header, 1 for data, 2 for control, anything else invalid; and its eight bytes,
descrambled. A block of an uncorrectable codeword has an invalid header (R177). -/
structure Block where
  sync  : BitVec 2
  bytes : List Byte
deriving DecidableEq, Repr

/-- A bit of a line of external memory: its beat and its DQ (R394). -/
abbrev BitAt := Nat × Nat

/-- A block on a lane as a receiver's lock sees it: the sync headers that came last, oldest first, and where its last MARKER
stands in the lane's blocks (R176, R182). -/
structure LaneIn where
  heads  : List (BitVec 2)
  marker : Nat
deriving DecidableEq, Repr

/-- A measurement of an offset sampler (R187): lane of the port, eye, phase in 1/128 UI, offset in 2 mV, mismatches. -/
structure EyePoint where
  lane  : Nat
  eye   : Nat
  phase : Int
  volt  : Int
  errs  : Nat
deriving DecidableEq, Repr

/-- A long plank of Table 7-3: its header fields and its LEN valid payload bytes. `rsv` gathers the
reserved header bits: byte 0 [1:0], bytes 5–6 [15:12], bytes 8–9 [15:9], from the least significant. -/
structure Plank where
  typ     : Nat
  vc      : Nat
  hops    : Nat
  src     : Nat
  dst     : Nat
  stream  : Nat
  flags   : Nat
  lseq    : Nat
  tag     : Nat
  rsv     : Nat
  payload : List Byte
deriving DecidableEq, Repr

/-- A LINK plank of Table 7-5. `rsv` gathers its reserved bits. -/
structure LinkPlank where
  nak0   : Bool
  nak2   : Bool
  ack0   : Nat
  ack2   : Nat
  freed0 : Nat
  freed1 : Nat
  freed2 : Nat
  sent1  : Nat
  rsv    : Nat
deriving DecidableEq, Repr

/-- The content of a CAP plank (R183). -/
structure CapInfo where
  device   : Nat
  role     : Nat
  rateMax  : Nat
  width    : Nat
  footing  : Bool
  bypassEn : Bool
  seen     : Bool
  port     : Nat
  node     : Nat
deriving DecidableEq, Repr

/-- The five transmitter taps of R188, in units of 1/64 of full swing. -/
structure Taps where
  pre2  : Nat
  pre1  : Nat
  main  : Nat
  post1 : Nat
  post2 : Nat
deriving DecidableEq, Repr

/-- The payload of a TIME plank (Table 8-6). Stamps are in 1/16 tick (R234). -/
structure TimeInfo where
  tx       : Nat
  seq      : Nat
  echoTx   : Nat
  echoSeq  : Nat
  echoRx   : Nat
  root     : Nat
  rootPri  : Nat
  locked   : Bool
  holdover : Bool
  isRoot   : Bool
  steps    : Nat
  rootSeq  : Nat
  parent   : Nat
deriving DecidableEq, Repr

/-- A message of R213 on VC0 or VC2, whole: its planks joined. `resp` is FLAGS [6], `typ` is FLAGS
[5:0] (Table 8-2), `seq` is MSG_SEQ and `arg` is TAG [23:0]. -/
structure Msg where
  vc      : Nat
  src     : Nat
  dst     : Nat
  hops    : Nat
  resp    : Bool
  typ     : Nat
  seq     : Nat
  arg     : Nat
  payload : List Byte
deriving DecidableEq, Repr

/-- What training finds on a DDR5 channel (R391, R392): whether it trained, its speed (0 4800, 1 5600, 2 6400), x8
devices, their density in Gb, modules, package ranks per module and logical ranks per package rank. -/
structure ChannelPop where
  trained  : Bool
  speed    : Nat
  x8       : Bool
  density  : Nat
  modules  : Nat
  packages : Nat
  logical  : Nat
deriving DecidableEq, Repr

/-- The format of an SDI signal (R98): the row of Table 4-1 (0 ST 292-1, 1 ST 424, 2 ST 2081-1, 3 ST 2082-1, 4 ST
2082-12), picture size, frames per second rounded up, 4:4:4 sampling, RGB, 12 bits, and the scan (0 progressive, 1 PsF, 2
interlaced). -/
structure SdiFormat where
  standard : Nat
  width    : Nat
  height   : Nat
  rate     : Nat
  full     : Bool
  rgb      : Bool
  deep     : Bool
  scan     : Nat
deriving DecidableEq, Repr

/-- An Ethernet frame as ST 2110-20 reception sees it (R103, R104): whether it is IPv6 or has IPv4 options, addresses,
UDP port, RTP payload type, marker and timestamp, whether its sample rows are of an interlaced or PsF picture, and its
sample rows: row, first pixel, samples in the order of ST 2110-20 (4:2:2: Cb, Y, Cr, Y for two pixels; 4:4:4: Cb, Y, Cr or
R, G, B for each pixel). -/
structure EthPacket where
  ipv6    : Bool
  options : Bool
  dst     : BitVec 32
  src     : BitVec 32
  udp     : BitVec 16
  pt      : BitVec 7
  marker  : Bool
  time    : BitVec 32
  fields  : Bool
  rows    : List (Nat × Nat × List Nat)
deriving DecidableEq, Repr

/-- A PTP message as a port receives it (R106): Sync, with the two-step flag; the Follow_Up of a two-step master; the
Delay_Resp that answers the Delay_Req of its number. Each carries its domain, its number, a time of the master in
nanoseconds (none in the Sync of a two-step master counts) and its correction in 2^-16 ns. -/
inductive PtpKind where
  | sync (twoStep : Bool)
  | followUp
  | delayResp
deriving DecidableEq, Repr

/-- See `PtpKind`. -/
structure PtpMsg where
  kind   : PtpKind
  domain : Nat
  seq    : BitVec 16
  time   : Nat
  corr   : Int
deriving DecidableEq, Repr

end Sys2Proof
end

