-- ==== Sys2Proof/Syntax.lean ====
section
/-! DEFINITION. The commands of the block: one constructor for every row of spec/opcode_table.json, in the
table's order. Operands name what comes from outside: the access path and the value of a register access,
the queue and the tag of a fetched command, the port and the plank of a span, a measured quantity. -/

namespace Sys2Proof

open Sys2Proof.Machine

/-- The rows of the operation table. -/
inductive Instr where
  /-- REGISTER_WRITE (R5): A host write to a register that has no row of its own changes the whole registers it covers, subject to access codes and reserved encodings. -/
  | registerWrite (p : Path) (addr : Nat) (bytes : List Byte)
  /-- READ_CLEAR (R7): A read of an RC field returns its value and then clears it, keeping a concurrent hardware increment or set. -/
  | readClear (p : Path) (addr width meets : Nat)
  /-- PAIR_LO_READ (R6): Reading NAME_LO returns bits 31:0 and latches bits 63:32 into the snapshot of the access path. -/
  | pairLoRead (p : Path) (addr : Nat)
  /-- PAIR_LO_WRITE (R6): Writing NAME_LO stages the low half for the access path, with no other effect. -/
  | pairLoWrite (p : Path) (addr : Nat) (v : Word)
  /-- PAIR_HI_WRITE (R6): Writing NAME_HI commits both halves of a 64-bit pair in one step and clears the path's staged half. -/
  | pairHiWrite (p : Path) (addr : Nat) (v : Word)
  /-- BAR2_READ (R29): A host read of deck through BAR2 returns the data, or zero with EV_DECK_REFUSED when protection refuses it. -/
  | bar2Read (addr width : Nat)
  /-- BAR2_WRITE (R29): A host write of deck through BAR2 stores the data, or has no effect and raises EV_DECK_REFUSED when protection refuses it. -/
  | bar2Write (addr : Nat) (bytes : List Byte)
  /-- DECK_DATA_READ (R45): A read of HIF_DECK_DATA moves one deck word under the BAR2 refusals and advances HIF_DECK_ADDR. -/
  | deckDataRead (p : Path)
  /-- DECK_DATA_WRITE (R45): A write of HIF_DECK_DATA stores one deck word under the BAR2 refusals and advances HIF_DECK_ADDR. -/
  | deckDataWrite (p : Path) (v : Word)
  /-- PORT_DISABLE (R521): Clearing a port's enable bit disables its queues and event ring as a FN_HIF reset does for that port. -/
  | portDisable (p : Path) (port : Fin 3)
  /-- PORT_ENABLE (R521): Setting a port's enable bit makes the port accept accesses again, leaving its queues and ring disabled. -/
  | portEnable (p : Path) (port : Fin 3)
  /-- QUEUE_ENABLE (R50): A write of ENABLE = 1 to a queue checks ring placement and, if accepted, zeroes its indices and starts it afresh. -/
  | queueEnable (p : Path) (q : Fin 24) (v : Word)
  /-- QUEUE_DISABLE (R49): Clearing a queue's ENABLE stops fetching at once and discards unfetched entries without completion. -/
  | queueDisable (p : Path) (q : Fin 24) (v : Word)
  /-- EVENT_RING_ENABLE (R50): Enabling an event ring checks placement, zeroes its head and SEQ and writes any events held until a ring is enabled. -/
  | eventRingEnable (p : Path) (ring : Fin 3) (v : Word)
  /-- EVENT_RING_DISABLE (R57): Clearing an event ring's ENABLE stops events being raised for that port. -/
  | eventRingDisable (p : Path) (ring : Fin 3) (v : Word)
  /-- SQ_DOORBELL (R52): A write of HIF_Q_SQ_TAIL makes new commands outstanding, or sets ERR when the index is not below the ring size. -/
  | sqDoorbell (p : Path) (q : Fin 24) (v : Word)
  /-- CQ_HEAD_WRITE (R59): A write of HIF_Q_CQ_HEAD frees completion slots and re-arms notification for the ring's vector. -/
  | cqHeadWrite (p : Path) (q : Fin 24) (v : Word)
  /-- EV_HEAD_WRITE (R58): A write of HIF_EV_HEAD frees event slots, ends loss counting and re-arms notification. -/
  | evHeadWrite (p : Path) (ring : Fin 3) (v : Word)
  /-- COMMAND_FETCH (R48): Once a completion slot can be reserved, Jeori fetches the next command round-robin and runs the general checks of Table 2-7. -/
  | commandFetch
  /-- COMMAND_START_AT_TIME (R52): A fetched command held by FENCE or AT_TIME starts once its condition is met, setting LATE_START if START_TIME had passed. -/
  | commandStartAtTime (q : Fin 24) (tag : Nat)
  /-- CMD_NOP (R53): CMD_NOP completes ST_OK once started, marking a point in the queue with FENCE. -/
  | cmdNop (q : Fin 24) (tag : Nat)
  /-- CMD_ABORT (R55): CMD_ABORT is accepted at the target's command port and discards, cancels, or schedules a stop of the target, or finds it done. -/
  | cmdAbort (q : Fin 24) (tag : Nat)
  /-- SAFE_POINT_STOP (R55): A running command with an accepted abort reaches its next safe point, stops, and completes ST_ABORTED before its aborts. -/
  | safePointStop (q : Fin 24) (tag n : Nat)
  /-- FN_RESET (R62): A write of FNT_CTRL[n].RST starts a per-function reset, cancelling outstanding commands with ST_FN_RESET. -/
  | fnReset (p : Path) (n : Fin 48) (v : Word)
  /-- FN_RESET_DONE (R62): A per-function reset ends, RST reads 0 and EV_FN_RESET_DONE is raised. -/
  | fnResetDone (n : Fin 48)
  /-- MODE_FOLLOW (R37): With no frame cadence, MODE_ACT takes MODE_REQ within 1,024 CLK_CTL cycles of the write. -/
  | modeFollow (n : Fin 48)
  /-- ASSIST_LATE (R38): A period's deadline passes without a host decision, so the function applies its last decision, raises EV_ASSIST_LATE and counts ASSIST_MISS. -/
  | assistLate (n : Fin 48) (period : Nat)
  /-- DECIDE_CFG (R92): CMD_DECIDE for FN_CFG gives HOLD or GO for a frame's pending load. -/
  | decideCfg (q : Fin 24) (tag : Nat)
  /-- DECIDE_ING_SDI (R110): CMD_DECIDE for FN_ING_SDI gives a per-layer PRIMARY or BACKUP source mask for a frame. -/
  | decideIngSdi (q : Fin 24) (tag : Nat)
  /-- DECIDE_PTP (R118): CMD_DECIDE for FN_PTP gives the servo frequency correction for one sync interval. -/
  | decidePtp (q : Fin 24) (tag : Nat)
  /-- DECIDE_RATE (R163): CMD_DECIDE for FN_RATE gives a list of layer, QP and first-slice-row entries for a frame. -/
  | decideRate (q : Fin 24) (tag : Nat)
  /-- DECIDE_ENC (R167): CMD_DECIDE for FN_ENC gives per-layer column masks of forced intra refreshes for a frame. -/
  | decideEnc (q : Fin 24) (tag : Nat)
  /-- DECIDE_LNK (R191): CMD_DECIDE for FN_LNK gives FAIL or ACCEPT for the rate-ladder step now held. -/
  | decideLnk (q : Fin 24) (tag : Nat)
  /-- DECIDE_SPAN (R206): CMD_DECIDE for FN_SPAN gives a mask of degraded ports to retrain at a frame start. -/
  | decideSpan (q : Fin 24) (tag : Nat)
  /-- DECIDE_TIM (R239): CMD_DECIDE for FN_TIM gives the wall-time rate correction for a frame. -/
  | decideTim (q : Fin 24) (tag : Nat)
  /-- DECIDE_DEC (R265): CMD_DECIDE for FN_DEC lists streams for which refresh requests are sent at a frame start. -/
  | decideDec (q : Fin 24) (tag : Nat)
  /-- DECIDE_CMP (R298): CMD_DECIDE for FN_CMP gives a mask choosing hide or repeat for late layers in a frame. -/
  | decideCmp (q : Fin 24) (tag : Nat)
  /-- DECIDE_COR (R314): CMD_DECIDE for FN_COR gives the brightness for a frame. -/
  | decideCor (q : Fin 24) (tag : Nat)
  /-- DECIDE_STR (R350): CMD_DECIDE for FN_STR gives the hybrid-drive request mask and fan phases for a frame. -/
  | decideStr (q : Fin 24) (tag : Nat)
  /-- DECIDE_THERM (R351): CMD_DECIDE for FN_THERM gives per-fan derating targets, combined by the lower-of rule. -/
  | decideTherm (q : Fin 24) (tag : Nat)
  /-- DECIDE_DIA (R387): CMD_DECIDE for FN_DIA gives a row mask and ALL flag of probes for a frame. -/
  | decideDia (q : Fin 24) (tag : Nat)
  /-- DECIDE_MEM (R411): CMD_DECIDE for FN_MEM names ranks to retrain in a frame. -/
  | decideMem (q : Fin 24) (tag : Nat)
  /-- DECIDE_DECK (R412): CMD_DECIDE for FN_DECK gives the deck arbitration weights for a frame. -/
  | decideDeck (q : Fin 24) (tag : Nat)
  /-- DECIDE_LDG (R421): CMD_DECIDE for FN_LDG gives a mask of quantities to repair at a frame start. -/
  | decideLdg (q : Fin 24) (tag : Nat)
  /-- DECIDE_RED (R440): CMD_DECIDE for FN_RED gives per-entry claim and fence masks for a frame. -/
  | decideRed (q : Fin 24) (tag : Nat)
  /-- DECIDE_PWR (R452): CMD_DECIDE for FN_PWR gives HOLD or RESUME after a brown-out recovery. -/
  | decidePwr (q : Fin 24) (tag : Nat)
  /-- BAY_FAULT (R23): A girder fault or local SRAM uncorrectable error sets BAY_ERR, puts the bay in FAULT and raises EV_BAY_FAULT and EV_FN_FAULT. -/
  | bayFault (b : Fin 16) (lsram : Bool)
  /-- BAY_WATCHDOG (R23): A kernel makes no progress for 1 ms, so WDOG is set and the bay enters FAULT. -/
  | bayWatchdog (b : Fin 16)
  /-- BAY_LOAD_DONE (R87): A bay finishes loading its kernel or self-test from KSTORE and leaves LOADING for IDLE. -/
  | bayLoadDone (b : Fin 16) (ok : Bool)
  /-- TOLLHOUSE_RESTART (R30): The tollhouse restarts, stopping command processing, event delivery and presentation while fixed logic keeps running. -/
  | tollhouseRestart
  /-- TOLLHOUSE_RESTART_END (R520): A tollhouse restart ends and held completions, held events and any EV_EVENT_LOST are written in order. -/
  | tollhouseRestartEnd
  /-- TOLLHOUSE_START (R471): At tollhouse start the recovery ROM marks TRIED slots BAD, chooses and verifies the active slot, or enters recovery. -/
  | tollhouseStart
  /-- COMMIT_WINDOW_CLOSE (R360): The commit window of the next frame closes and mode requests, loads, hard sets, chosen inputs and decisions are sampled. -/
  | commitWindowClose
  /-- FRAME_START (R363): At a scheduled frame start wall time the pier takes one outcome of Table 13-2, swapping, repeating or going dark. -/
  | frameStart (bad : List Nat)
  /-- PROVISIONAL_START (R366): With no accepted closure by S_prev + T_MAX the device makes a provisional frame start. -/
  | provisionalStart (bad : List Nat)
  /-- CMD_CFG_STAGE (R84): CMD_CFG_STAGE writes a chunk of a bit-stream into the staging area and checks the trailer at LAST. -/
  | cmdCfgStage (q : Fin 24) (tag : Nat)
  /-- CMD_CFG_STAGE_FLASH (R84): CMD_CFG_STAGE_FLASH stages a firmware slot's bit-stream and checks its trailer. -/
  | cmdCfgStageFlash (q : Fin 24) (tag : Nat)
  /-- CMD_CFG_VERIFY (R85): CMD_CFG_VERIFY runs the checks of Table 3-11 on a complete stage, making it VERIFIED or FAILED. -/
  | cmdCfgVerify (q : Fin 24) (tag : Nat)
  /-- CMD_CFG_APPLY (R86): CMD_CFG_APPLY moves a verified stage to PENDING, or refuses a role change outside P2 Dark. -/
  | cmdCfgApply (q : Fin 24) (tag : Nat)
  /-- CMD_CFG_SVN_RAISE (R72): CMD_CFG_SVN_RAISE fuses a higher minimum security version. -/
  | cmdCfgSvnRaise (q : Fin 24) (tag : Nat)
  /-- CFG_APPLY_NO_CADENCE (R86): With no frame cadence a pending load takes effect within 1,024 CLK_CTL cycles of acceptance or START_TIME. -/
  | cfgApplyNoCadence
  /-- CFG_AUTOLOAD (R91): In HW mode after start-up Jeori stages, verifies and applies the active slot's bit-stream by itself. -/
  | cfgAutoload
  /-- SDI_LOCK (R100): An SDI receiver locks and reports its format, refusing interlaced signals with EV_ING_FORMAT. -/
  | sdiLock (idx : Fin 32) (std : Fin 256) (f : SdiFormat)
  /-- SDI_LOCK_LOSS (R111): An SDI receiver or quad group loses lock, the source is lost and EV_ING_LOSS is raised. -/
  | sdiLockLoss (idx : Fin 32)
  /-- FLOW_TIMEOUT (R111): A flow delivers no packet for 2 frame periods and its source is lost. -/
  | flowTimeout (k : Fin 64)
  /-- SOURCE_FRAME_COMPLETE (R112): A source frame becomes complete in the frame synchroniser, restoring a lost source with EV_ING_RESTORED. -/
  | sourceFrameComplete (idx : Fin 96) (crcErr overflow : Nat)
  /-- SOURCE_FRAME_START (R114): The ingest reports a cadence source frame start stamp to FN_TIM. -/
  | sourceFrameStart (idx : Fin 96) (rows : List (List Nat))
  /-- ANC_PACKET (R101): An ancillary packet is copied raw to the host ring, or counted in ANC_LOST when the ring is full. -/
  | ancPacket (idx : Fin 32) (bytes : List Byte) (full : Bool)
  /-- ETH_PACKET (R104): An Ethernet packet is matched to a flow and its samples placed, or dropped and counted. -/
  | ethPacket (e : Fin 8) (p : EthPacket)
  /-- PTP_MESSAGE (R106): A PTP event message is timestamped and processed by the ST 2059-2 servo. -/
  | ptpMessage (e : Fin 8) (m : PtpMsg)
  /-- IGMP_JOIN (R105): The firmware sends an IGMPv3 join within 10 ms of a flow being enabled. -/
  | igmpJoin (k : Fin 64)
  /-- IGMP_QUERY (R105): An IGMP query is answered by repeating the joins. -/
  | igmpQuery (e : Fin 8)
  /-- ARP_REQUEST (R105): The firmware answers ARP for a port's own address. -/
  | arpRequest (e : Fin 8) (ip : Nat)
  /-- SLICE_ROW_DEADLINE (R113): A SLICE-mode encode deadline passes with rows unwritten, which are taken from the previous frame and counted in ING_TORN. -/
  | sliceRowDeadline (l : Fin 63) (row written : Nat)
  /-- CMD_ING_PLAY (R116): CMD_ING_PLAY plays a stored clip on a layer, one picture per frame, rewriting counters. -/
  | cmdIngPlay (q : Fin 24) (tag : Nat)
  /-- SLICE_ALLOCATE (R150): Once its predecessors are allocated, slice j − 8 is complete and its rows are available, a slice is handed to a free encoder with its cap and QP. -/
  | sliceAllocate (l : Fin 63) (c : Fin 64) (written : Nat)
  /-- SLICE_ENCODE_DONE (R151): A slice encoder completes a slice, which is handed to plank packing in stream order. -/
  | sliceEncodeDone (l : Fin 63) (c : Fin 64) (row : Nat) (blocks : List (List Bool)) (lost : List Nat)
  /-- ENC_OVERRUN (R168): Row 0 of the next picture is ready while slices remain unallocated, so they are emitted as fill slices. -/
  | encOverrun (l : Fin 63) (written : Nat)
  /-- CMD_ENC_REFRESH (R166): CMD_ENC_REFRESH schedules forced intra refreshes for the columns in its mask. -/
  | cmdEncRefresh (q : Fin 24) (tag : Nat)
  /-- CDR_LOCK (R182): Every lane of a port in DETECT gains CDR lock and the port moves to LOCK. -/
  | cdrLock (k : Fin 16)
  /-- BLOCK_LOCK (R182): Lanes gain block lock and alignment and the port moves to CAP. -/
  | blockLock (k : Fin 16) (lanes : List LaneIn)
  /-- BLOCK_LOCK_LOSS (R204): Block lock is lost on a lane for over 1 µs and the port goes to DETECT with EV_SPAN_DOWN. -/
  | blockLockLoss (lane : Fin 128) (heads : List (BitVec 2))
  /-- BRINGUP_TIMEOUT (R182): DETECT, LOCK or CAP lasts longer than 2 ms and the port goes to WAIT. -/
  | bringupTimeout (k : Fin 16)
  /-- WAIT_END (R182): A port's 10 ms in WAIT ends and it returns to DETECT. -/
  | waitEnd (k : Fin 16)
  /-- CAP_PLANK_SEND (R183): A port in CAP sends a CAP plank every 10 µs. -/
  | capPlankSend (k : Fin 16)
  /-- CAP_PLANK (R183): A received CAP plank advances the exchange, or takes an UP port down. -/
  | capPlank (k : Fin 16) (blocks : List Block)
  /-- STEP_PROPOSE (R184): A STEP PROPOSE is exchanged and both ends retune to the next rate. -/
  | stepPropose (k : Fin 16) (blocks : List Block)
  /-- STEP_TXREQ (R188): A TXREQ plank asks the far transmitter to apply tap values, ignored if invalid or under TX_MANUAL. -/
  | stepTxreq (k : Fin 16) (blocks : List Block)
  /-- EYE_CHECK_DONE (R187): A step's eye check ends and the end votes, or raises EV_LNK_STEP and holds its vote in ASSIST mode. -/
  | eyeCheckDone (k : Fin 16) (points : List EyePoint)
  /-- STEP_RESULT (R184): A STEP RESULT is received and the step passes or fails, leading to the next step, fallback or UP. -/
  | stepResult (k : Fin 16) (blocks : List Block)
  /-- STEP_TIMEOUT (R184): A step has not passed within 6 ms of PROPOSE and fails. -/
  | stepTimeout (k : Fin 16)
  /-- SPAN_ENABLE_WRITE (R182): A write of SPN_CFG.EN starts bring-up on a bound port or disables it at once. -/
  | spanEnableWrite (p : Path) (k : Fin 16) (v : Word)
  /-- SPAN_RETRAIN_WRITE (R204): Setting SPN_CFG.RETRAIN takes the port down to DETECT for a retrain. -/
  | spanRetrainWrite (p : Path) (k : Fin 16)
  /-- CMD_SPAN_RETRAIN (R207): CMD_SPAN_RETRAIN retrains a port and completes when it is UP. -/
  | cmdSpanRetrain (q : Fin 24) (tag : Nat)
  /-- SPAN_INJECT (R193): A write of SPN_INJ corrupts the next DATA plank CRC or suppresses the next LINK plank. -/
  | spanInject (p : Path) (k : Fin 16) (v : Word)
  /-- LANE_INJECT_ONE (R193): A write of LNE_INJ.ONE flips one transmitted line bit. -/
  | laneInjectOne (p : Path) (lane : Fin 128)
  /-- PRBS_LOCK (R192): A PRBS checker locks after 64 correct bits and starts counting. -/
  | prbsLock (lane : Fin 128) (l : List Bool)
  /-- EYE_SCAN_START (R190): A write of LNE_EYE_CTRL.START begins, restarts or queues an offset-sampler scan. -/
  | eyeScanStart (p : Path) (lane : Fin 128) (v : Word)
  /-- EYE_SCAN_DONE (R190): An eye scan ends, setting DONE and LNE_EYE_ERR. -/
  | eyeScanDone (lane : Fin 128) (count : Nat)
  /-- FEC_UNCORRECTABLE (R177): A PAM4 codeword is uncorrectable and its planks are discarded, taking the port down beyond 8 per ms. -/
  | fecUncorrectable (lane : Fin 128) (symbols : List (BitVec 10))
  /-- PLANK_SEND (R195): At a plank boundary the port sends the first ready item in the arbitration order, spending a credit for new DATA. -/
  | plankSend (k sub : Fin 16)
  /-- LINK_PLANK_SEND (R181): A LINK plank falls due after a field change or 1,024 blocks and is sent. -/
  | linkPlankSend (k : Fin 16)
  /-- LINK_PLANK (R181): A received LINK plank updates ACKs, NAKs, credits and VC1 gaps. -/
  | linkPlank (k : Fin 16) (blocks : List Block)
  /-- DATA_PLANK (R196): A VC0 or VC2 DATA plank is accepted in sequence and forwarded or delivered, or discarded and NAKed. -/
  | dataPlank (k : Fin 16) (blocks : List Block)
  /-- VC1_PLANK (R227): A VC1 plank is checked for gaps, filtered by lease and interest, forwarded on group ports and delivered locally. -/
  | vc1Plank (k : Fin 16) (blocks : List Block)
  /-- REPLAY_TIMEOUT (R196): No ACK progress for REPLAY_TO makes the sender replay from the oldest plank. -/
  | replayTimeout (k : Fin 16) (vc2 : Bool)
  /-- VC1_STALL_TIMEOUT (R199): A VC1 copy waits beyond VC1_STALL and is dropped for that port with EV_SPAN_STALL. -/
  | vc1StallTimeout (k : Fin 16)
  /-- ROUTE_WAIT_TIMEOUT (R200): A VC0 or VC2 plank waits 1 ms for a down port and is dropped. -/
  | routeWaitTimeout (k : Fin 16) (vc2 : Bool)
  /-- SPAN_FABRIC_STOP (R230): The span fabric stops and the bypass monitor holds bound transmitters in electrical idle. -/
  | spanFabricStop
  /-- BYPASS_ENTER (R230): The span fabric has been stopped 100 µs, or P3 is entered, and bypass joins the latched port pairs. -/
  | bypassEnter
  /-- BYPASS_EXIT (R230): The span fabric has run 10 ms outside P3, bypass ends and the ports go to DETECT. -/
  | bypassExit
  /-- PROBE (R220): A received PROBE prompts an ANNOUNCE or a direct ANNOUNCE to a new master, or resolves a master conflict. -/
  | probe
  /-- ANNOUNCE (R220): An ANNOUNCE is filled in by the proxy and forwarded, or at the master leads to an address choice. -/
  | announce
  /-- ASSIGN (R220): An ASSIGN is relayed by the proxy, and the named device takes its address and sends HELLO and PROBE. -/
  | assign
  /-- HELLO (R220): A HELLO sets SPN_STATUS.PEER of the receiving port. -/
  | hello
  /-- LINKS (R220): A LINKS message updates the master's topology map, or raises EV_VIA_LINKS in ASSIST. -/
  | links
  /-- SETTLE_EXPIRY (R223): SETTLE passes without new ANNOUNCE or LINKS and the master computes and sends routes. -/
  | settleExpiry
  /-- ROUTES (R225): A ROUTES message writes the unpinned route entries it carries, or is refused with ERR 0x02. -/
  | routes
  /-- REG_READ (R217): A permitted REG_READ request reads registers and returns their values. -/
  | regRead
  /-- REG_WRITE (R217): A permitted REG_WRITE request writes registers in ascending order and answers empty. -/
  | regWrite
  /-- NOTIFY (R59): A received NOTIFY plank raises EV_VIA_NOTIFY. -/
  | notify
  /-- SUBSCRIBE (R229): A received SUBSCRIBE replaces the port's interest mask. -/
  | subscribe
  /-- SUBSCRIBE_SEND (R229): A device sends its interest announcement within 20 µs of a change or every 100 ms. -/
  | subscribeSend (k : Fin 16)
  /-- REFRESH_REQ (R166): A received REFRESH_REQ schedules or joins a forced column refresh, or raises EV_ENC_REFRESH_REQ in ASSIST. -/
  | refreshReq
  /-- MESSAGE_RESPONSE (R216): A response to a VC0 or VC2 message ends its end-to-end tracking and completes its command. -/
  | messageResponse
  /-- E2E_TIMEOUT (R216): E2E_TO passes without a response, so the message is resent or given up with EV_VIA_E2E_FAIL. -/
  | e2eTimeout
  /-- CMD_VIA_DISCOVER (R219): CMD_VIA_DISCOVER starts a discovery from the master. -/
  | cmdViaDiscover (q : Fin 24) (tag : Nat)
  /-- CMD_VIA_ASSIGN (R222): CMD_VIA_ASSIGN sends an ASSIGN for an announced serial. -/
  | cmdViaAssign (q : Fin 24) (tag : Nat)
  /-- CMD_VIA_ROUTES (R225): CMD_VIA_ROUTES sends a ROUTES message to a node. -/
  | cmdViaRoutes (q : Fin 24) (tag : Nat)
  /-- CMD_VIA_FORGET (R223): CMD_VIA_FORGET releases a reserved address. -/
  | cmdViaForget (q : Fin 24) (tag : Nat)
  /-- CMD_VIA_REG (R246): CMD_VIA_REG sends a REG_READ or REG_WRITE to a node. -/
  | cmdViaReg (q : Fin 24) (tag : Nat)
  /-- TIME_PLANK_SEND (R235): Every INTERVAL × 1,024 ticks an UP port sends a TIME plank. -/
  | timePlankSend (k sub : Fin 16)
  /-- TIME_PLANK (R236): A received TIME plank yields delay and offset, updates offers, parent, lock state, rate and any step. -/
  | timePlank (k sub : Fin 16) (blocks : List Block)
  /-- OFFER_EXPIRY (R237): A port's offer lapses for lack of TIME planks or ROOT_SEQ progress, changing parent or entering HOLDOVER. -/
  | offerExpiry (k : Fin 16)
  /-- HOLDOVER_EXPIRY (R238): HOLD_MAX passes in HOLDOVER and the device goes to FREE. -/
  | holdoverExpiry
  /-- WALL_TIME_WRITE (R240): A host write of TIM_WALL sets wall time in ROOT or FREE with no cadence, and is ignored otherwise. -/
  | wallTimeWrite (p : Path) (v : Word)
  /-- FT_SYNC_EDGE (R233): A peer samples FT_SYNC high and sets its wall count from the keystone's edge. -/
  | ftSyncEdge
  /-- SLICE_DECODE_START (R247): A whole slice with its reference rows ready starts on a free slice decoder. -/
  | sliceDecodeStart
  /-- SLICE_DECODE_DONE (R258): A slice decoder finishes, closing or starting pictures and delivering the slice to the composer. -/
  | sliceDecodeDone (idx : Nat) (bound : Option Nat)
  /-- CMD_DEC_REQUEST (R265): CMD_DEC_REQUEST sends a refresh request for a stream. -/
  | cmdDecRequest (q : Fin 24) (tag : Nat)
  /-- CMD_CMP_COMMIT (R275): CMD_CMP_COMMIT validates and holds a descriptor generation, opening needed decoder contexts. -/
  | cmdCmpCommit (q : Fin 24) (tag : Nat)
  /-- CMD_CMP_ALLOC (R286): CMD_CMP_ALLOC allocates a zeroed layer buffer and returns its handle. -/
  | cmdCmpAlloc (q : Fin 24) (tag : Nat)
  /-- CMD_CMP_WRITE (R287): CMD_CMP_WRITE writes a rectangle of pixels into a live handle. -/
  | cmdCmpWrite (q : Fin 24) (tag : Nat)
  /-- CMD_CMP_FREE (R288): CMD_CMP_FREE makes a handle stale and returns or defers its pages. -/
  | cmdCmpFree (q : Fin 24) (tag : Nat)
  /-- CMD_CMP_LUT (R280): CMD_CMP_LUT loads a pre-LUT, post-LUT or filter set and records its CRC. -/
  | cmdCmpLut (q : Fin 24) (tag : Nat)
  /-- CMD_CMP_PARAPET (R284): CMD_CMP_PARAPET verifies and accepts a signed parapet record. -/
  | cmdCmpParapet (q : Fin 24) (tag : Nat)
  /-- BAND_COMPOSE (R289): Once its inputs are decoded a band is composed, corrected and written to the back buffer with its record. -/
  | bandCompose (k : Nat)
  /-- BAND_RECOMPOSE (R293): A band composed under the wrong generation or inputs is recomposed ahead of new work. -/
  | bandRecompose
  /-- CMD_COR_LOAD (R316): CMD_COR_LOAD writes a chunk of a correction image in order. -/
  | cmdCorLoad (q : Fin 24) (tag : Nat)
  /-- COR_IMAGE_COMPLETE (R316): After LAST, the check, band index and CRC finish, the image completes and EV_COR_READY is raised. -/
  | corImageComplete
  /-- CMD_COR_PATCH (R318): CMD_COR_PATCH holds a patch of image 1 or 2 for the next frame start. -/
  | cmdCorPatch (q : Fin 24) (tag : Nat)
  /-- REFRESH_START (R331): A refresh of the frame begins at its scheduled tick. -/
  | refreshStart
  /-- ROW_SLOT_START (R332): A row slot starts and runs its plane schedule of commands, shifts and BLANK pulses. -/
  | rowSlotStart (under : Bool) (mis : List (Nat × Nat × Nat)) (flags bad : List Nat)
  /-- TE_RISE (R346): A memory fan's TE rises, recording its delay and ending a TE miss episode. -/
  | teRise (f : Fin 16)
  /-- TE_WINDOW_EXPIRY (R346): TE_WIN passes after SYNC without a TE rise, counting a miss and raising EV_STR_TE. -/
  | teWindowExpiry (f : Fin 16)
  /-- THERM_SAMPLE (R343): Every 1 ms each THERM input is sampled and averaged, raising sensor fault and knee events. -/
  | thermSample (xs : List Nat)
  /-- TJ_SAMPLE (R344): Junction sensors are read and reaching TJ_STOP blanks the strands with EV_THERM_TJ_STOP. -/
  | tjSample (t : Int)
  /-- TJ_COOLDOWN_EXPIRY (R344): The junction has stayed below TJ_STOP − TJ_HYST for 1 s, so the lamps show again at the next frame start. -/
  | tjCooldownExpiry
  /-- CMD_STR_IREF_TRIM (R342): CMD_STR_IREF_TRIM trims the IREF of each fan of its mask, one per frame. -/
  | cmdStrIrefTrim (q : Fin 24) (tag : Nat)
  /-- IREF_TRIM_DONE (R342): A fan's 2 ms trim ends, new trims are stored and the fan resumes. -/
  | irefTrimDone (gain ratio : Fin 256)
  /-- CADENCE_DECISION (R356): A keystone decides a frame's start at s_prev, on a new source stamp or at the flywheel deadline, updating lag. -/
  | cadenceDecision
  /-- VOTE_WAIT_EXPIRY (R426): The vote wait ends and the keystone adopts the leader's start or keeps its own. -/
  | voteWaitExpiry
  /-- CLOSURE_ISSUE (R426): At S − LEAD a keystone broadcasts its closure. -/
  | closureIssue
  /-- PROPOSE (R426): A keystone receives another keystone's PROPOSE for a frame. -/
  | propose
  /-- CLOSURE (R428): A received closure is counted toward quorum and, on acceptance, schedules the frame and confirms a generation. -/
  | closure
  /-- EPOCH_START (R379): A diagnostic epoch starts, shifting SEEN bits and ageing unmeasured OK lamps to UNVERIFIED. -/
  | epochStart
  /-- PROBE_ROUND_START (R381): Every PROBE_INT a probe round begins over rows with due lamps, or NO_SLOT is reported. -/
  | probeRoundStart
  /-- PIN_TEST_REQUEST (R382): Every PIN_INT a pin test is requested in HW mode. -/
  | pinTestRequest
  /-- PIN_TEST_END (R382): A pin test's last frame ends and EV_DIA_PIN_TEST reports its result. -/
  | pinTestEnd
  /-- CMD_DIA_PIN_TEST (R382): CMD_DIA_PIN_TEST requests or joins a pin test. -/
  | cmdDiaPinTest (q : Fin 24) (tag : Nat)
  /-- DIA_OP_REMOVE (R385): CMD_DIA_REMOVE with REMOVE sets REMOVED on a range of lamps at the next frame start. -/
  | diaOpRemove (q : Fin 24) (tag : Nat)
  /-- DIA_OP_RESTORE (R385): CMD_DIA_REMOVE with RESTORE clears REMOVED on a range, keeping STATE. -/
  | diaOpRestore (q : Fin 24) (tag : Nat)
  /-- DIA_OP_FORGET (R385): CMD_DIA_REMOVE with FORGET clears REMOVED and resets STATE to UNVERIFIED. -/
  | diaOpForget (q : Fin 24) (tag : Nat)
  /-- CMD_DIA_READ (R377): CMD_DIA_READ returns bytes of the lamp table. -/
  | cmdDiaRead (q : Fin 24) (tag : Nat)
  /-- REMOVED_SAVE (R386): Within 10 s of a change the REMOVED bits are written to the active slot's settings. -/
  | removedSave
  /-- MEM_TRAINING_DONE (R392): DDR5 training ends and the usable channel set is reported by EV_MEM_TRAINED. -/
  | memTrainingDone (pops : List ChannelPop)
  /-- DRAM_REFRESH_DUE (R398): A bank's refresh interval passes and a same-bank refresh is issued or owed during panic. -/
  | dramRefreshDue (c : Fin 4) (rank : Fin 16) (bank : Fin 4) (panic : Bool)
  /-- MEM_SENSOR_READ (R398): Every 10 ms module temperatures are read, changing tREFI and raising EV_MEM_HOT. -/
  | memSensorRead (temps : List Nat)
  /-- NEIGHBOUR_REFRESH (R399): A sampled activated row gets a refresh-management command within 4 µs. -/
  | neighbourRefresh (c : Fin 4)
  /-- RANK_RETRAIN_DUE (R400): A rank's retrain interval or temperature drift is reached and it is retrained, late if panic delayed it. -/
  | rankRetrainDue (c : Fin 4) (rank : Fin 16) (panic : Bool)
  /-- MEM_REQUEST_TIMEOUT (R402): A memory request unserved for 200 µs completes poisoned. -/
  | memRequestTimeout (port : Fin 8) (line : Nat) (write : Bool)
  /-- CE_HOUR_BOUNDARY (R403): At a wall-time hour boundary devices over CE_LIMIT are marked with EV_MEM_ERASE and counts restart. -/
  | ceHourBoundary
  /-- MEM_PATROL_SCRUB (R405): The patrol scrub port reads a line in its cycle of every line per HOURS. -/
  | memPatrolScrub (line : Nat) (flips : List BitAt)
  /-- DECK_SCRUB (R409): Patrol scrub reads a deck word in its cycle of SCRUB_MS. -/
  | deckScrub (word : Nat) (err : Fin 3)
  /-- CMD_MEM_WRITE (R410): CMD_MEM_WRITE writes the payload into a MEDIA partition of external memory. -/
  | cmdMemWrite (q : Fin 24) (tag : Nat)
  /-- CMD_MEM_READ (R410): CMD_MEM_READ returns bytes of a MEDIA or FSYNC partition. -/
  | cmdMemRead (q : Fin 24) (tag : Nat) (errs : List (Nat × List BitAt))
  /-- LEDGER_AUDIT (R418): 1,536 ticks after a frame start, or every 1 ms with no cadence, each enabled quantity is audited. -/
  | ledgerAudit
  /-- CMD_LDG_AUDIT (R424): CMD_LDG_AUDIT runs audits of the named quantities at once. -/
  | cmdLdgAudit (q : Fin 24) (tag : Nat)
  /-- LEASE_PLANK (R432): A received lease plank is accepted or refused under Table 17-3, acknowledged and forwarded. -/
  | leasePlank (k : Fin 16) (blocks : List Block)
  /-- LEASE_ACK (R431): The holder receives a LEASE_ACK and counts it for the frame. -/
  | leaseAck
  /-- LEASE_EXPIRY (R433): GRACE passes after the start of frame R + 4 without renewal and the lease expires with EV_RED_EXPIRED. -/
  | leaseExpiry (e : Fin 16)
  /-- LEASE_CLAIM (R434): An end whose view has expired, after any extra wait, sends a CLAIM with a higher EPOCH. -/
  | leaseClaim (e : Fin 16)
  /-- CLAIM_GAP_EXPIRY (R434): CLAIM_GAP passes after a claim and the new holder starts its streams intra and renews. -/
  | claimGapExpiry (e : Fin 16)
  /-- CMD_RED_HANDOVER (R439): CMD_RED_HANDOVER sends HANDOVER_REQ to force a handover of a segment. -/
  | cmdRedHandover (q : Fin 24) (tag : Nat)
  /-- HANDOVER_REQ (R439): A received HANDOVER_REQ makes the holder release at the next frame start and answer HANDOVER_DONE. -/
  | handoverReq
  /-- HANDOVER_DONE (R439): A received RELEASE or HANDOVER_DONE makes the issuing end claim at once. -/
  | handoverDone
  /-- HANDOVER_TIMEOUT (R439): No release within 4 frames or full acknowledgement within 8 frames completes the handover with failure. -/
  | handoverTimeout
  /-- POWER_ON (R447): Supplies and reference clock reach reset conditions at power-up and device reset ends with CAUSE power-on. -/
  | powerOn (vddq strands : Bool)
  /-- DEVICE_RESET_END (R447): Device reset ends, registers take reset values and EV_PWR_RESET is held. -/
  | deviceResetEnd
  /-- ROOT_PLL_LOCK (R461): The root PLL locks and wall time starts at 0. -/
  | rootPllLock
  /-- RESET_PIN (R453): RESET_N held low at least 1 µs resets the device. -/
  | resetPin
  /-- ROOT_PLL_LOSS (R453): Root PLL out of lock or REFCLK_CORE absent for 10 µs resets the device. -/
  | rootPllLoss
  /-- GLB_RESET_WRITE (R516): A write of GLB_RESET.KEY 0x7240 places DRAM in self-refresh and resets the device within 100 µs. -/
  | glbResetWrite (p : Path) (v : Word)
  /-- SUPPLY_WARN (R449): A supply stays below WARN for 2 µs, a brown-out warning stands and the strands blank. -/
  | supplyWarn (v : Fin 8) (mv : Nat)
  /-- SUPPLY_RECOVER (R450): Every warned supply has stayed above WARN plus hysteresis for 1 ms and RECOVERING is set. -/
  | supplyRecover (low : List Nat)
  /-- SUPPLY_RESET (R451): A supply below RESET for 1 µs resets the device, or stops memory or strands, under Table 18-2. -/
  | supplyReset (v : Fin 8)
  /-- STRAND_SUPPLY_RISE (R447): VDDIO_STR rises and the next frame start becomes a transition frame. -/
  | strandSupplyRise
  /-- CMD_PWR_STATE (R454): CMD_PWR_STATE requests a power state, entering P3 through its entry sequence. -/
  | cmdPwrState (q : Fin 24) (tag : Nat)
  /-- CMD_PWR_WAKE (R456): CMD_PWR_WAKE sends 16 WAKE planks on an UP port. -/
  | cmdPwrWake (q : Fin 24) (tag : Nat)
  /-- WAKE_PIN (R456): WAKE_N held low at least 1 µs wakes a device in P3. -/
  | wakePin
  /-- WAKE_MATCH (R456): Four matching WAKE SSTART blocks within 100 µs wake a device in P3. -/
  | wakeMatch (k : Fin 16) (blocks : List (Nat × Block))
  /-- CADENCE_START (R462): 1 ms after the safe image's timing set is written the firmware makes the first frame start as a transition frame. -/
  | cadenceStart (bad : List Nat)
  /-- BANDGAP_CHECK (R464): Every 1 s the band-gap is measured and a deviation beyond 1 % raises EV_PWR_BANDGAP. -/
  | bandgapCheck (dev : Int)
  /-- CMD_FWU_WRITE (R481): CMD_FWU_WRITE writes a chunk of a slot image into the inactive slot and verifies it at LAST. -/
  | cmdFwuWrite (q : Fin 24) (tag : Nat)
  /-- CMD_FWU_FORWARD (R477): CMD_FWU_FORWARD offers the held image on the ports of its mask. -/
  | cmdFwuForward (q : Fin 24) (tag : Nat)
  /-- CMD_FWU_ACTIVATE (R478): CMD_FWU_ACTIVATE schedules an activation and broadcasts ACTIVATE. -/
  | cmdFwuActivate (q : Fin 24) (tag : Nat)
  /-- CMD_FWU_CANCEL (R478): CMD_FWU_CANCEL cancels the local activation schedule. -/
  | cmdFwuCancel (q : Fin 24) (tag : Nat)
  /-- CMD_FWU_COMMIT (R472): CMD_FWU_COMMIT commits the TRIED active slot to GOOD. -/
  | cmdFwuCommit (q : Fin 24) (tag : Nat)
  /-- CMD_FWU_FALLBACK (R472): CMD_FWU_FALLBACK marks the active slot BAD and restarts the tollhouse when the other slot is GOOD. -/
  | cmdFwuFallback (q : Fin 24) (tag : Nat)
  /-- CMD_FWU_SVN_RAISE (R483): CMD_FWU_SVN_RAISE fuses a higher firmware SVN minimum. -/
  | cmdFwuSvnRaise (q : Fin 24) (tag : Nat)
  /-- FW_COMMIT_TIMER (R472): After COMMIT_S seconds without restart the firmware commits its TRIED slot in HW mode. -/
  | fwCommitTimer
  /-- OFFER (R476): A received OFFER is answered REFUSED, HAVE, BUSY or ACCEPT with RESUME. -/
  | offer
  /-- CHUNK (R476): A received CHUNK is programmed to flash, read back by CRC and forwarded under CUT. -/
  | chunk (bad : Fin 3)
  /-- END (R476): A received END verifies the slot, making it WRITTEN or rejected. -/
  | fwuEnd
  /-- ACTIVATE (R478): A received ACTIVATE schedules the activation or raises EV_FWU_ACT_MISSING. -/
  | activate
  /-- OFFER_RETRY (R477): Every 1 s an offer answered BUSY is retried, up to 60 times. -/
  | offerRetry
  /-- RECOVER_REQ (R480): A received RECOVER_REQ is answered by an OFFER of the GOOD active slot when SERVE is set. -/
  | recoverReq
  /-- RECOVER_REQ_SEND (R480): In recovery the ROM sends RECOVER_REQ on each UP port every 1 s. -/
  | recoverReqSend
  /-- FWU_RECOVER_GO (R480): A write of FWU_RECOVER.GO verifies the deck copy and writes the named slot. -/
  | fwuRecoverGo (p : Path) (v : Word) (bad : Fin 3)
  /-- CHK_PRESET_WRITE (R486): A non-zero PRESET write loads all six parameters of a preset and VAL. -/
  | chkPresetWrite (p : Path) (u : Fin 32) (v : Word)
  /-- CHK_FEED (R488): A write of CHK_FEED feeds 4 bytes to a host unit, or sets COLLIDE while busy. -/
  | chkFeed (p : Path) (u : Fin 32) (v : Word)
  /-- CHK_FEED1 (R488): A write of CHK_FEED1 feeds one byte to a host unit. -/
  | chkFeed1 (p : Path) (u : Fin 32) (v : Word)
  /-- CHK_LOAD (R488): A write of CHK_CTRL.LOAD loads VAL with INIT. -/
  | chkLoad (p : Path) (u : Fin 32) (v : Word)
  /-- CHK_RUN_COMPUTE (R489): CMD_CHK_RUN with COMPUTE feeds LEN bytes and returns the result. -/
  | chkRunCompute (q : Fin 24) (tag : Nat)
  /-- CHK_RUN_APPEND (R489): CMD_CHK_RUN with APPEND copies the data and appends the CRC bytes. -/
  | chkRunAppend (q : Fin 24) (tag : Nat)
  /-- CHK_RUN_CHECK (R489): CMD_CHK_RUN with CHECK compares the computed CRC with the trailing bytes. -/
  | chkRunCheck (q : Fin 24) (tag : Nat)
  /-- CHK_RUN_CHECK_STRIP (R489): CMD_CHK_RUN with CHECK_STRIP checks the CRC and copies the data without it. -/
  | chkRunCheckStrip (q : Fin 24) (tag : Nat)
  /-- GPIO_SET (R517): A write of GLB_GPIO_SET sets the OUT bits written as 1. -/
  | gpioSet (p : Path) (v : Word)
  /-- GPIO_CLR (R517): A write of GLB_GPIO_CLR clears the OUT bits written as 1. -/
  | gpioClr (p : Path) (v : Word)
  /-- PCIE_LINK_CHANGE (R46): The PCIe link comes up or goes down, and HIF_PORT_CFG.PCIE_UP follows it. -/
  | pcieLinkChange (up : Bool)
  /-- SUPPLY_RETURN_AFTER_RESET (R451): VDDQ or VDDIO_STR, having crossed RESET, has stayed above WARN plus hysteresis for 1 ms, so FN_MEM retrains or the next frame start becomes a transition frame. -/
  | supplyReturnAfterReset (v : Fin 8)
  /-- FWU_ACTIVATE_AT (R479): While FN_TIM runs no cadence, wall time reaches AT and the inactive slot takes GEN and TRIAL before the tollhouse restarts. -/
  | fwuActivateAt
deriving DecidableEq, Repr

end Sys2Proof
end

