-- ==== Sys2Proof/Config.lean ====
section
/-! DEFINITION. What an implementation fixes and what the spec leaves open: constants without a body, so
that no proof can see their value. A statement about the block holds whatever they are. -/

namespace Sys2Proof

/-- The n-th free value that the model draws where the spec leaves a value open; the state counts the draws
(log entry 2). -/
opaque Config.freeValue : Nat → Nat

/-- The four Stoltil public keys in the recovery ROM (R75), X then Y: the spec does not print them. -/
opaque Config.stoltilKey : Nat → List Byte

/-- The sample of R343, in 1/16 °C, for the ratio x in 1/65,536, NTC_REF_RATIO and BETA. The spec gives the
formula over the reals (a logarithm) and a tolerance of 0.25 °C; which value within it the device holds is not
stated (log entry 4). -/
opaque Config.ntcTemp : Nat → Nat → Nat → Int

end Sys2Proof
end

