-- ==== Sys2Proof/Machine/Crypto.lean ====
section
/-! DEFINITION. SHA-384 and ECDSA over P-384, which the bit-stream, the parapet record and the firmware
image name (R70, R71, R272, R284, R469). The spec names the two algorithms and the octet order of SEC 1; the
algorithms themselves are taken from their public standards (PRESUMED, log entry 3). -/

namespace Sys2Proof.Machine

/-! ### SHA-384 -/

/-- The integer k-th root by bisection: the greatest r with r ^ k at most n, below 2 ^ bits. -/
def kthRoot (k n : Nat) : Nat → Nat → Nat
  | 0, r => r
  | b + 1, r => kthRoot k n b (if (r + 2 ^ b) ^ k ≤ n then r + 2 ^ b else r)

/-- Whether a number of at least 2 has no divisor from 2 to itself less one. -/
def isPrime (n : Nat) : Bool := (List.range n).all fun d => d < 2 || n % d ≠ 0

/-- The first 80 primes. -/
def primes80 : List Nat := (List.range 410).filter fun n => 2 ≤ n && isPrime n

/-- The 80 round constants: the first 64 bits of the fractional parts of the cube roots of the primes. -/
def shaK : List Nat := primes80.map fun p => kthRoot 3 (p * 2 ^ 192) 67 0 % 2 ^ 64

/-- The initial value of SHA-384: fractional parts of the square roots of the 9th to the 16th prime. -/
def shaInit : List Nat := ((primes80.drop 8).take 8).map fun p => kthRoot 2 (p * 2 ^ 128) 67 0 % 2 ^ 64

/-- Rotate a 64-bit word right. -/
def ror64 (n x : Nat) : Nat := (x / 2 ^ n + x * 2 ^ (64 - n)) % 2 ^ 64

/-- Exclusive or of three rotations, the last a shift where `shift`. -/
def sigma (a b c : Nat) (shift : Bool) (x : Nat) : Nat :=
  ror64 a x ^^^ ror64 b x ^^^ (if shift then x / 2 ^ c else ror64 c x)

/-- The message schedule, newest word first. -/
def shaSchedule : Nat → List Nat → List Nat
  | 0, w => w
  | n + 1, w => shaSchedule n
      ((sigma 19 61 6 true (w.getD 1 0) + w.getD 6 0 + sigma 1 8 7 true (w.getD 14 0) + w.getD 15 0) % 2 ^ 64 :: w)

/-- One round over the eight working words. -/
def shaRound (st : List Nat) (k w : Nat) : List Nat :=
  match st with
  | [a, b, c, d, e, f, g, h] =>
    let t1 := (h + sigma 14 18 41 false e + ((e &&& f) ^^^ ((2 ^ 64 - 1 - e) &&& g)) + k + w) % 2 ^ 64
    let t2 := (sigma 28 34 39 false a + ((a &&& b) ^^^ (a &&& c) ^^^ (b &&& c))) % 2 ^ 64
    [(t1 + t2) % 2 ^ 64, a, b, c, (d + t1) % 2 ^ 64, e, f, g]
  | _ => st

/-- One block of 128 bytes. -/
def shaBlock (st : List Nat) (block : List Byte) : List Nat :=
  let w := (shaSchedule 64 (((List.range 16).map fun i => beAt block (8 * i) 8).reverse)).reverse
  let out := (shaK.zip w).foldl (fun st p => shaRound st p.1 p.2) st
  (st.zip out).map fun p => (p.1 + p.2) % 2 ^ 64

/-- The blocks of a padded message in turn. -/
def shaBlocks : Nat → List Nat → List Byte → List Nat
  | 0, st, _ => st
  | n + 1, st, bs => shaBlocks n (shaBlock st (bs.take 128)) (bs.drop 128)

/-- SHA-384: 48 octets, most significant first. -/
def sha384 (msg : List Byte) : List Byte :=
  let zeros := (128 - (msg.length + 17) % 128) % 128
  let padded := msg ++ [0x80] ++ List.replicate zeros 0 ++ beBytes 16 (8 * msg.length)
  ((shaBlocks (padded.length / 128) shaInit padded).take 6).flatMap (beBytes 8)

/-! ### ECDSA over P-384 -/

/-- The field prime. -/
def p384 : Nat := 2 ^ 384 - 2 ^ 128 - 2 ^ 96 + 2 ^ 32 - 1

/-- The order of the group. -/
def n384 : Nat :=
  0xffffffffffffffffffffffffffffffffffffffffffffffffc7634d81f4372ddf581a0db248b0a77aecec196accc52973

/-- The constant b of the curve. -/
def b384 : Nat :=
  0xb3312fa7e23ee7e4988e056be3f82d19181d9c6efe8141120314088f5013875ac656398d8a2ed19d2a85c8edd3ec2aef

/-- The base point. -/
def g384 : Nat × Nat :=
  (0xaa87ca22be8b05378eb1c71ef320ad746e1d3b628ba79b9859f741e082542a385502f25dbf55296c3a545e3872760ab7,
   0x3617de4a96262c6f5d9e98bf9292dc29f8f41dbd289a147ce9da3113b5f0b8c00a60b1ce1d7e819d7a431d7c90ea0e5f)

/-- A power modulo `m`, by the `n` low bits of the exponent. -/
def powMod (m b : Nat) : Nat → Nat → Nat
  | 0, _ => 1
  | n + 1, e =>
    let h := powMod m (b * b % m) n (e / 2)
    if e % 2 = 1 then h * b % m else h

/-- The inverse modulo a prime. -/
def invMod (m x : Nat) : Nat := powMod m (x % m) 384 (m - 2)

/-- A point of the curve; none is the point at infinity. -/
abbrev Point := Option (Nat × Nat)

/-- Point addition. -/
def addPoint : Point → Point → Point
  | none, q => q
  | p, none => p
  | some (x1, y1), some (x2, y2) =>
    if x1 = x2 ∧ (y1 + y2) % p384 = 0 then none
    else
      let l := if x1 = x2 then (3 * x1 * x1 + (p384 - 3)) * invMod p384 (2 * y1) % p384
        else (y2 + (p384 - y1)) * invMod p384 (x2 + (p384 - x1)) % p384
      let x3 := (l * l + (p384 - x1) + (p384 - x2)) % p384
      some (x3, (l * (x1 + (p384 - x3)) + (p384 - y1)) % p384)

/-- A multiple of a point by the `n` low bits of the scalar. -/
def mulPoint : Nat → Nat → Point → Point
  | 0, _, _ => none
  | n + 1, k, q =>
    let h := mulPoint n (k / 2) (addPoint q q)
    if k % 2 = 1 then addPoint h q else h

/-- Whether a point of the field lies on the curve. -/
def onCurve (x y : Nat) : Bool :=
  decide (x < p384) && decide (y < p384) && decide (y * y % p384 = (x * x * x + (p384 - 3) * x + b384) % p384)

/-- ECDSA verification: a public key X then Y, a signature r then s, over the SHA-384 digest of a message. -/
def ecdsaVerify (key sig digest : List Byte) : Bool :=
  let x := beAt key 0 48
  let y := beAt key 48 48
  let r := beAt sig 0 48
  let t := beAt sig 48 48
  let z := beNat digest
  if onCurve x y && decide (0 < r) && decide (r < n384) && decide (0 < t) && decide (t < n384) then
    let w := invMod n384 t
    match addPoint (mulPoint 384 (z * w % n384) (some g384)) (mulPoint 384 (r * w % n384) (some (x, y))) with
    | some (px, _) => decide (px % n384 = r)
    | none => false
  else false

end Sys2Proof.Machine
end

