-- ==== Sys2Proof/Machine/Galois.lean ====
section
/-! DEFINITION. Arithmetic in GF(2^n) and Reed-Solomon codes over it: the codes of PAM4 lanes (R177) and of memory lines
(R394). -/

namespace Sys2Proof.Machine

/-- A field GF(2^bits), generated by a polynomial. -/
structure Field2 where
  bits : Nat
  poly : Nat
deriving DecidableEq, Repr

/-- GF(2^10) with x^10 + x^3 + 1 (R177). -/
def f10 : Field2 := ⟨10, 0x409⟩

/-- GF(2^16) with x^16 + x^12 + x^3 + x + 1 (R394). -/
def f16 : Field2 := ⟨16, 0x1100B⟩

/-- The double of an element: its product with α. -/
def gfDouble (f : Field2) (a : Nat) : Nat := if 2 ^ f.bits ≤ 2 * a then (2 * a) ^^^ f.poly else 2 * a

/-- The product of two elements, over the bits of the second. -/
def gfMulBits (f : Field2) : Nat → Nat → Nat → Nat
  | 0, _, _ => 0
  | n + 1, a, b => (if b % 2 = 1 then a else 0) ^^^ gfMulBits f n (gfDouble f a) (b / 2)

/-- The product of two elements. -/
def gfMul (f : Field2) (a b : Nat) : Nat := gfMulBits f f.bits (a % 2 ^ f.bits) b

/-- A power of an element. -/
def gfPow (f : Field2) (a : Nat) : Nat → Nat
  | 0 => 1
  | n + 1 => gfMul f a (gfPow f a n)

/-- The value of a polynomial, highest coefficient first. -/
def gfEval (f : Field2) (x : Nat) (cs : List Nat) : Nat := cs.foldl (fun v c => gfMul f v x ^^^ c) 0

/-- The product of a polynomial, highest coefficient first, and x + a. -/
def gfTimes (f : Field2) (p : List Nat) (a : Nat) : List Nat :=
  List.zipWith (· ^^^ ·) (p ++ [0]) (0 :: p.map (gfMul f a))

/-- The generator polynomial of a code: the roots α^0, α^1, … of its `n` check symbols. -/
def rsGenerator (f : Field2) (n : Nat) : List Nat := (List.range n).foldl (fun p j => gfTimes f p (gfPow f 2 j)) [1]

/-- The check symbols of a message: the remainder of its division by the generator; `r` are those so far. -/
def rsParity (f : Field2) (g : List Nat) : List Nat → List Nat → List Nat
  | r, [] => r
  | r, m :: ms =>
    let q := m ^^^ r.headD 0
    rsParity f g (List.zipWith (· ^^^ ·) (r.drop 1 ++ [0]) (g.map (gfMul f q))) ms

/-- A message with its `n` check symbols after it. -/
def rsEncode (f : Field2) (n : Nat) (m : List Nat) : List Nat :=
  m ++ rsParity f ((rsGenerator f n).drop 1) (List.replicate n 0) m

/-- The `n` syndromes of a received word, the first symbol the highest coefficient. -/
def rsSyndromes (f : Field2) (n : Nat) (cs : List Nat) : List Nat := (List.range n).map fun j => gfEval f (gfPow f 2 j) cs

end Sys2Proof.Machine
end

