-- ==== Sys2Proof/Machine/Regs.lean ====
section
/-! DEFINITION. The registers of Table 22-2 and the fields of the chapters' register tables: where each
lies (block base of Table 22-1 plus offset, stride of an indexed register, bits), and what its register
holds after reset (the Reset columns, R10). Written from the tables of spec/, one line a field. -/

namespace Sys2Proof.Machine

/-- A field of a 32-bit register: the byte address of instance 0, the step between instances, the
least significant bit, the width, and the reset value of the WHOLE register it lies in (R5, R10). -/
structure Fld where
  base   : Nat
  stride : Nat
  lo     : Nat
  width  : Nat
  rst    : Nat
deriving DecidableEq, Repr

/-- A 64-bit register pair of R6: the byte address of `_LO` of instance 0, the step between instances,
the reset value. -/
structure PairReg where
  base   : Nat
  stride : Nat
  rst    : Nat
deriving DecidableEq, Repr

/-- The byte address of instance `i` of the register that holds the field. -/
def Fld.addr (f : Fld) (i : Nat) : Nat := f.base + f.stride * i

/-- The byte address of `_LO` of instance `i` of a pair. -/
def PairReg.addr (p : PairReg) (i : Nat) : Nat := p.base + p.stride * i

/-! GLB_ID: Table 22-3 of spec/22_register_map.md. -/
def GLB_ID.DEVICE : Fld := ⟨0, 0, 0, 16, 0x53547240⟩
def GLB_ID.VENDOR : Fld := ⟨0, 0, 16, 16, 0x53547240⟩

/-! GLB_REV: Table 22-3 of spec/22_register_map.md. -/
def GLB_REV.MINOR : Fld := ⟨4, 0, 0, 8, 0⟩
def GLB_REV.MAJOR : Fld := ⟨4, 0, 8, 8, 0⟩

/-! GLB_STRAP: Table 22-3 of spec/22_register_map.md. -/
def GLB_STRAP.HOST_SEL : Fld := ⟨0x10, 0, 0, 2, 0⟩
def GLB_STRAP.FT_ID : Fld := ⟨0x10, 0, 2, 3, 0⟩
def GLB_STRAP.VIO33 : Fld := ⟨0x10, 0, 5, 1, 0⟩

/-! GLB_CLK: Table 22-3 of spec/22_register_map.md. -/
def GLB_CLK.ROOT_LOCK : Fld := ⟨0x14, 0, 0, 1, 0x500000⟩
def GLB_CLK.CORE_REF : Fld := ⟨0x14, 0, 1, 1, 0x500000⟩
def GLB_CLK.LANE_REF : Fld := ⟨0x14, 0, 4, 4, 0x500000⟩
def GLB_CLK.STR_DIV : Fld := ⟨0x14, 0, 16, 9, 0x500000⟩

/-! GLB_RESET: Table 22-3 of spec/22_register_map.md. -/
def GLB_RESET.KEY : Fld := ⟨0x18, 0, 0, 16, 0⟩

/-! GLB_UNMAPPED: Table 22-3 of spec/22_register_map.md. -/
def GLB_UNMAPPED.COUNT : Fld := ⟨0x1c, 0, 0, 32, 0⟩

/-! GLB_UNMAPPED_ADDR: Table 22-3 of spec/22_register_map.md. -/
def GLB_UNMAPPED_ADDR.ADDR : Fld := ⟨0x20, 0, 0, 26, 0⟩

/-! GLB_GPIO_DIR: Table 22-3 of spec/22_register_map.md. -/
def GLB_GPIO_DIR.DIR : Fld := ⟨0x80, 0, 0, 32, 0⟩

/-! GLB_GPIO_OUT: Table 22-3 of spec/22_register_map.md. -/
def GLB_GPIO_OUT.OUT : Fld := ⟨0x84, 0, 0, 32, 0⟩

/-! GLB_GPIO_SET: Table 22-3 of spec/22_register_map.md. -/
def GLB_GPIO_SET.SET : Fld := ⟨0x88, 0, 0, 32, 0⟩

/-! GLB_GPIO_CLR: Table 22-3 of spec/22_register_map.md. -/
def GLB_GPIO_CLR.CLR : Fld := ⟨0x8c, 0, 0, 32, 0⟩

/-! GLB_GPIO_IN: Table 22-3 of spec/22_register_map.md. -/
def GLB_GPIO_IN.IN : Fld := ⟨0x90, 0, 0, 32, 0⟩

/-! GLB_SERIAL: Table 22-3 of spec/22_register_map.md. -/
def GLB_SERIAL.SERIAL : PairReg := ⟨8, 0, 0⟩

/-! GLB_SCRATCH: Table 22-3 of spec/22_register_map.md. -/
def GLB_SCRATCH.DATA : Fld := ⟨0x40, 4, 0, 32, 0⟩

/-! FNT_CTRL: Table 1-13 of spec/01_architecture.md. -/
def FNT_CTRL.MODE_REQ : Fld := ⟨0x10000, 0x10, 0, 1, 0⟩
def FNT_CTRL.RST : Fld := ⟨0x10000, 0x10, 8, 1, 0⟩

/-! FNT_STATUS: Table 1-14 of spec/01_architecture.md. -/
def FNT_STATUS.MODE_ACT : Fld := ⟨0x10004, 0x10, 0, 1, 0⟩
def FNT_STATUS.MODE_PEND : Fld := ⟨0x10004, 0x10, 1, 1, 0⟩
def FNT_STATUS.STATE : Fld := ⟨0x10004, 0x10, 5, 3, 0⟩
def FNT_STATUS.ASSIST_MISS : Fld := ⟨0x10004, 0x10, 8, 8, 0⟩
def FNT_STATUS.DETAIL : Fld := ⟨0x10004, 0x10, 16, 16, 0⟩

/-! HIF_PORT_CFG: Table 2-3 of spec/02_host_control.md. -/
def HIF_PORT_CFG.PCIE_EN : Fld := ⟨0x20000, 0, 0, 1, 0⟩
def HIF_PORT_CFG.SPI_EN : Fld := ⟨0x20000, 0, 1, 1, 0⟩
def HIF_PORT_CFG.REMOTE_EN : Fld := ⟨0x20000, 0, 2, 1, 0⟩
def HIF_PORT_CFG.PCIE_WIDTH : Fld := ⟨0x20000, 0, 4, 2, 0⟩
def HIF_PORT_CFG.PCIE_UP : Fld := ⟨0x20000, 0, 6, 1, 0⟩

/-! HIF_REMOTE_NODE: Table 2-3 of spec/02_host_control.md. -/
def HIF_REMOTE_NODE.NODE : Fld := ⟨0x20010, 4, 0, 12, 0⟩

/-! HIF_DECK_ADDR: Table 22-4 of spec/22_register_map.md. -/
def HIF_DECK_ADDR.ADDR : Fld := ⟨0x20020, 0, 2, 24, 0⟩

/-! HIF_DECK_DATA: Table 22-4 of spec/22_register_map.md. -/
def HIF_DECK_DATA.DATA : Fld := ⟨0x20024, 0, 0, 32, 0⟩

/-! HIF_EV_VEC: Table 2-10 of spec/02_host_control.md. -/
def HIF_EV_VEC.VEC : Fld := ⟨0x20100, 4, 0, 6, 0⟩

/-! HIF_Q_CFG: Table 2-4 of spec/02_host_control.md. -/
def HIF_Q_CFG.ENABLE : Fld := ⟨0x21000, 0x20, 0, 1, 0⟩
def HIF_Q_CFG.CFG_ERR : Fld := ⟨0x21000, 0x20, 1, 1, 0⟩
def HIF_Q_CFG.SQ_SIZE : Fld := ⟨0x21000, 0x20, 8, 4, 0⟩
def HIF_Q_CFG.CQ_SIZE : Fld := ⟨0x21000, 0x20, 12, 4, 0⟩
def HIF_Q_CFG.VEC : Fld := ⟨0x21000, 0x20, 16, 6, 0⟩

/-! HIF_Q_SQ_BASE: Table 2-4 of spec/02_host_control.md. -/
def HIF_Q_SQ_BASE.BASE : PairReg := ⟨0x21004, 0x20, 0⟩

/-! HIF_Q_CQ_BASE: Table 2-4 of spec/02_host_control.md. -/
def HIF_Q_CQ_BASE.BASE : PairReg := ⟨0x2100c, 0x20, 0⟩

/-! HIF_Q_SQ_TAIL: Table 2-4 of spec/02_host_control.md. -/
def HIF_Q_SQ_TAIL.TAIL : Fld := ⟨0x21014, 0x20, 0, 12, 0⟩

/-! HIF_Q_CQ_HEAD: Table 2-4 of spec/02_host_control.md. -/
def HIF_Q_CQ_HEAD.HEAD : Fld := ⟨0x21018, 0x20, 0, 12, 0⟩

/-! HIF_Q_STATUS: Table 2-4 of spec/02_host_control.md. -/
def HIF_Q_STATUS.SQ_HEAD : Fld := ⟨0x2101c, 0x20, 0, 12, 0⟩
def HIF_Q_STATUS.STALLED : Fld := ⟨0x2101c, 0x20, 12, 1, 0⟩
def HIF_Q_STATUS.ERR : Fld := ⟨0x2101c, 0x20, 13, 1, 0⟩

/-! HIF_EV_CFG: Table 2-10 of spec/02_host_control.md. -/
def HIF_EV_CFG.ENABLE : Fld := ⟨0x21400, 0x20, 0, 1, 0⟩
def HIF_EV_CFG.CFG_ERR : Fld := ⟨0x21400, 0x20, 1, 1, 0⟩
def HIF_EV_CFG.SIZE : Fld := ⟨0x21400, 0x20, 8, 4, 0⟩

/-! HIF_EV_BASE: Table 2-10 of spec/02_host_control.md. -/
def HIF_EV_BASE.BASE : PairReg := ⟨0x21404, 0x20, 0⟩

/-! HIF_EV_HEAD: Table 2-10 of spec/02_host_control.md. -/
def HIF_EV_HEAD.HEAD : Fld := ⟨0x2140c, 0x20, 0, 12, 0⟩

/-! HIF_EV_LOST: Table 2-10 of spec/02_host_control.md. -/
def HIF_EV_LOST.LOST : Fld := ⟨0x21410, 0x20, 0, 32, 0⟩

/-! HIF_EV_MASK: Table 2-10 of spec/02_host_control.md. -/
def HIF_EV_MASK.MASK : PairReg := ⟨0x21414, 0x20, 0⟩

/-! CFG_STATUS: Table 3-13 of spec/03_bitstream.md. -/
def CFG_STATUS.STAGE : Fld := ⟨0x30000, 0, 0, 3, 0x30⟩
def CFG_STATUS.IN_FORCE : Fld := ⟨0x30000, 0, 3, 1, 0x30⟩
def CFG_STATUS.ROLE : Fld := ⟨0x30000, 0, 4, 2, 0x30⟩
def CFG_STATUS.UNOWNED : Fld := ⟨0x30000, 0, 6, 1, 0x30⟩
def CFG_STATUS.PARTIAL : Fld := ⟨0x30000, 0, 7, 1, 0x30⟩
def CFG_STATUS.LAST_ERR : Fld := ⟨0x30000, 0, 8, 8, 0x30⟩

/-! CFG_STAGED_LEN: Table 3-13 of spec/03_bitstream.md. -/
def CFG_STAGED_LEN.LEN : Fld := ⟨0x30004, 0, 0, 32, 0⟩

/-! CFG_ID: Table 3-13 of spec/03_bitstream.md. -/
def CFG_ID.BUILD_ID : PairReg := ⟨0x30010, 0, 0⟩

/-! CFG_HASH: Table 3-13 of spec/03_bitstream.md. -/
def CFG_HASH.HASH : Fld := ⟨0x30020, 4, 0, 32, 0⟩

/-! CFG_OWNER_HASH: Table 3-13 of spec/03_bitstream.md. -/
def CFG_OWNER_HASH.HASH : Fld := ⟨0x30060, 4, 0, 32, 0⟩

/-! CFG_SVN: Table 3-13 of spec/03_bitstream.md. -/
def CFG_SVN.MIN : Fld := ⟨0x300a0, 0, 0, 8, 0⟩
def CFG_SVN.CUR : Fld := ⟨0x300a0, 0, 8, 8, 0⟩

/-! CFG_VENDOR_REVOKE: Table 3-13 of spec/03_bitstream.md. -/
def CFG_VENDOR_REVOKE.REVOKE : Fld := ⟨0x300a4, 0, 0, 4, 0⟩

/-! CHK_CFG: Table 20-3 of spec/20_check_units.md. -/
def CHK_CFG.WIDTH : Fld := ⟨0x40000, 0x40, 0, 7, 0x1a0⟩
def CHK_CFG.REFIN : Fld := ⟨0x40000, 0x40, 7, 1, 0x1a0⟩
def CHK_CFG.REFOUT : Fld := ⟨0x40000, 0x40, 8, 1, 0x1a0⟩
def CHK_CFG.PRESET : Fld := ⟨0x40000, 0x40, 12, 4, 0x1a0⟩
def CHK_CFG.OWNED : Fld := ⟨0x40000, 0x40, 16, 1, 0x1a0⟩

/-! CHK_POLY: Table 20-3 of spec/20_check_units.md. -/
def CHK_POLY.POLY : PairReg := ⟨0x40008, 0x40, 0x4c11db7⟩

/-! CHK_INIT: Table 20-3 of spec/20_check_units.md. -/
def CHK_INIT.INIT : PairReg := ⟨0x40010, 0x40, 0xffffffff⟩

/-! CHK_XOROUT: Table 20-3 of spec/20_check_units.md. -/
def CHK_XOROUT.XOROUT : PairReg := ⟨0x40018, 0x40, 0xffffffff⟩

/-! CHK_VAL: Table 20-3 of spec/20_check_units.md. -/
def CHK_VAL.VAL : PairReg := ⟨0x40020, 0x40, 0xffffffff⟩

/-! CHK_FEED: Table 20-3 of spec/20_check_units.md. -/
def CHK_FEED.DATA : Fld := ⟨0x40028, 0x40, 0, 32, 0⟩

/-! CHK_FEED1: Table 20-3 of spec/20_check_units.md. -/
def CHK_FEED1.DATA : Fld := ⟨0x4002c, 0x40, 0, 8, 0⟩

/-! CHK_RESULT: Table 20-3 of spec/20_check_units.md. -/
def CHK_RESULT.RES : PairReg := ⟨0x40030, 0x40, 0⟩

/-! CHK_STATUS: Table 20-3 of spec/20_check_units.md. -/
def CHK_STATUS.BUSY : Fld := ⟨0x40038, 0x40, 0, 1, 0⟩
def CHK_STATUS.COLLIDE : Fld := ⟨0x40038, 0x40, 1, 1, 0⟩
def CHK_STATUS.MISMATCH : Fld := ⟨0x40038, 0x40, 2, 1, 0⟩

/-! CHK_CTRL: Table 20-3 of spec/20_check_units.md. -/
def CHK_CTRL.LOAD : Fld := ⟨0x4003c, 0x40, 0, 1, 0⟩

/-! PWR_STATE: Table 18-9 of spec/18_power_startup.md. -/
def PWR_STATE.STATE : Fld := ⟨0x50000, 0, 0, 3, 0⟩
def PWR_STATE.PEND : Fld := ⟨0x50000, 0, 3, 1, 0⟩

/-! PWR_RESET_LOG: Table 18-9 of spec/18_power_startup.md. -/
def PWR_RESET_LOG.CAUSE : Fld := ⟨0x50004, 0, 0, 3, 0⟩
def PWR_RESET_LOG.SUPPLY : Fld := ⟨0x50004, 0, 4, 3, 0⟩

/-! PWR_BROWN: Table 18-9 of spec/18_power_startup.md. -/
def PWR_BROWN.ACTIVE : Fld := ⟨0x50008, 0, 0, 1, 0⟩
def PWR_BROWN.RECOVERING : Fld := ⟨0x50008, 0, 1, 1, 0⟩
def PWR_BROWN.FRAMES : Fld := ⟨0x50008, 0, 16, 16, 0⟩

/-! PWR_BG: Table 18-9 of spec/18_power_startup.md. -/
def PWR_BG.DEV : Fld := ⟨0x5000c, 0, 0, 16, 0⟩
def PWR_BG.FAULT : Fld := ⟨0x5000c, 0, 16, 1, 0⟩

/-! PWR_SAFE: Table 18-9 of spec/18_power_startup.md. -/
def PWR_SAFE.INDEX : Fld := ⟨0x50010, 0, 0, 6, 0⟩
def PWR_SAFE.SHOWN : Fld := ⟨0x50010, 0, 8, 1, 0⟩
def PWR_SAFE.VALID : Fld := ⟨0x50010, 0, 9, 1, 0⟩

/-! PWR_RELAY: Table 18-9 of spec/18_power_startup.md. -/
def PWR_RELAY.LATCHED : Fld := ⟨0x50014, 0, 0, 1, 0⟩
def PWR_RELAY.FUSED : Fld := ⟨0x50014, 0, 1, 1, 0⟩
def PWR_RELAY.WAKE_NODE : Fld := ⟨0x50014, 0, 4, 12, 0⟩

/-! PWR_THERM_CFG: Table 12-10 of spec/12_strand_drive.md. -/
def PWR_THERM_CFG.KNEE : Fld := ⟨0x50400, 0, 0, 8, 0x20001446⟩
def PWR_THERM_CFG.SLOPE : Fld := ⟨0x50400, 0, 8, 8, 0x20001446⟩
def PWR_THERM_CFG.FLOOR : Fld := ⟨0x50400, 0, 16, 16, 0x20001446⟩

/-! PWR_THERM_SPLIT: Table 12-10 of spec/12_strand_drive.md. -/
def PWR_THERM_SPLIT.IREF_FLOOR : Fld := ⟨0x50404, 0, 0, 16, 0x106000⟩
def PWR_THERM_SPLIT.STEP : Fld := ⟨0x50404, 0, 16, 16, 0x106000⟩

/-! PWR_THERM_STOP: Table 12-10 of spec/12_strand_drive.md. -/
def PWR_THERM_STOP.TJ_STOP : Fld := ⟨0x50408, 0, 0, 8, 0xa6e⟩
def PWR_THERM_STOP.TJ_HYST : Fld := ⟨0x50408, 0, 8, 8, 0xa6e⟩

/-! PWR_NTC_CFG: Table 12-10 of spec/12_strand_drive.md. -/
def PWR_NTC_CFG.BETA : Fld := ⟨0x5040c, 0, 0, 16, 0x80000d6b⟩
def PWR_NTC_CFG.NTC_REF_RATIO : Fld := ⟨0x5040c, 0, 16, 16, 0x80000d6b⟩

/-! PWR_THERM_TJ: Table 12-10 of spec/12_strand_drive.md. -/
def PWR_THERM_TJ.TJ : Fld := ⟨0x50410, 0, 0, 16, 0⟩

/-! PWR_SUP_CFG: Table 18-9 of spec/18_power_startup.md. -/
def PWR_SUP_CFG.WARN : Fld := ⟨0x50100, 0x10, 0, 5, 0xa⟩

/-! PWR_SUP_STAT: Table 18-9 of spec/18_power_startup.md. -/
def PWR_SUP_STAT.MV : Fld := ⟨0x50104, 0x10, 0, 16, 0⟩
def PWR_SUP_STAT.BELOW_WARN : Fld := ⟨0x50104, 0x10, 16, 1, 0⟩

/-! PWR_SUP_CNT: Table 18-9 of spec/18_power_startup.md. -/
def PWR_SUP_CNT.WARNS : Fld := ⟨0x50108, 0x10, 0, 16, 0⟩

/-! PWR_THERM_T: Table 12-10 of spec/12_strand_drive.md. -/
def PWR_THERM_T.TEMP : Fld := ⟨0x50440, 4, 0, 16, 0⟩
def PWR_THERM_T.FAULT : Fld := ⟨0x50440, 4, 16, 1, 0⟩

/-! PWR_THERM_D: Table 12-10 of spec/12_strand_drive.md. -/
def PWR_THERM_D.D : Fld := ⟨0x50480, 4, 0, 16, 0x80008000⟩
def PWR_THERM_D.D_IREF : Fld := ⟨0x50480, 4, 16, 16, 0x80008000⟩

/-! FWU_CFG: Table 19-8 of spec/19_firmware_update.md. -/
def FWU_CFG.RX_EN : Fld := ⟨0x60000, 0, 0, 1, 0x3c03⟩
def FWU_CFG.SERVE : Fld := ⟨0x60000, 0, 1, 1, 0x3c03⟩
def FWU_CFG.CUT : Fld := ⟨0x60000, 0, 2, 1, 0x3c03⟩
def FWU_CFG.COMMIT_S : Fld := ⟨0x60000, 0, 8, 8, 0x3c03⟩

/-! FWU_STATUS: Table 19-8 of spec/19_firmware_update.md. -/
def FWU_STATUS.ACTIVE : Fld := ⟨0x60004, 0, 0, 2, 0⟩
def FWU_STATUS.RECOVERY : Fld := ⟨0x60004, 0, 2, 1, 0⟩
def FWU_STATUS.SCHED : Fld := ⟨0x60004, 0, 3, 1, 0⟩
def FWU_STATUS.XFER : Fld := ⟨0x60004, 0, 4, 3, 0⟩
def FWU_STATUS.RX_PORT : Fld := ⟨0x60004, 0, 8, 4, 0⟩

/-! FWU_SLOT: Table 19-8 of spec/19_firmware_update.md. -/
def FWU_SLOT.STATE : Fld := ⟨0x60010, 8, 0, 8, 0xff⟩

/-! FWU_GEN: Table 19-8 of spec/19_firmware_update.md. -/
def FWU_GEN.GEN : Fld := ⟨0x60014, 8, 0, 32, 0xffffffff⟩

/-! FWU_VER: Table 19-8 of spec/19_firmware_update.md. -/
def FWU_VER.VERSION : Fld := ⟨0x60020, 4, 0, 32, 0⟩

/-! FWU_SVN: Table 19-8 of spec/19_firmware_update.md. -/
def FWU_SVN.MIN : Fld := ⟨0x60030, 0, 0, 8, 0⟩
def FWU_SVN.CUR : Fld := ⟨0x60030, 0, 8, 8, 0⟩

/-! FWU_WRITTEN: Table 19-8 of spec/19_firmware_update.md. -/
def FWU_WRITTEN.LEN : Fld := ⟨0x60034, 0, 0, 25, 0⟩

/-! FWU_AT: Table 19-8 of spec/19_firmware_update.md. -/
def FWU_AT.AT : PairReg := ⟨0x60038, 0, 0⟩

/-! FWU_RECOVER: Table 19-8 of spec/19_firmware_update.md. -/
def FWU_RECOVER.LEN : Fld := ⟨0x60040, 0, 0, 25, 0⟩
def FWU_RECOVER.SLOT : Fld := ⟨0x60040, 0, 25, 1, 0⟩
def FWU_RECOVER.GO : Fld := ⟨0x60040, 0, 26, 1, 0⟩

/-! FWU_RECOVER_ERR: Table 19-8 of spec/19_firmware_update.md. -/
def FWU_RECOVER_ERR.ERR : Fld := ⟨0x60044, 0, 0, 8, 0⟩

/-! LNE_CFG: Table 7-11 of spec/07_span_links.md. -/
def LNE_CFG.PRBS_SEL : Fld := ⟨0x80000, 0x400, 0, 3, 0⟩
def LNE_CFG.PRBS_GEN : Fld := ⟨0x80000, 0x400, 3, 1, 0⟩
def LNE_CFG.PRBS_CHK : Fld := ⟨0x80000, 0x400, 4, 1, 0⟩
def LNE_CFG.EQ_HOLD : Fld := ⟨0x80000, 0x400, 5, 1, 0⟩
def LNE_CFG.TX_MANUAL : Fld := ⟨0x80000, 0x400, 6, 1, 0⟩

/-! LNE_STATUS: Table 7-11 of spec/07_span_links.md. -/
def LNE_STATUS.CDR_LOCK : Fld := ⟨0x80004, 0x400, 0, 1, 0⟩
def LNE_STATUS.BLOCK_LOCK : Fld := ⟨0x80004, 0x400, 1, 1, 0⟩
def LNE_STATUS.PRBS_LOCK : Fld := ⟨0x80004, 0x400, 2, 1, 0⟩
def LNE_STATUS.BOUND : Fld := ⟨0x80004, 0x400, 3, 1, 0⟩
def LNE_STATUS.PORT : Fld := ⟨0x80004, 0x400, 4, 4, 0⟩
def LNE_STATUS.RATE : Fld := ⟨0x80004, 0x400, 8, 3, 0⟩

/-! LNE_TXEQ: Table 7-11 of spec/07_span_links.md. -/
def LNE_TXEQ.PRE2 : Fld := ⟨0x80008, 0x400, 0, 3, 0x43420⟩
def LNE_TXEQ.PRE1 : Fld := ⟨0x80008, 0x400, 3, 5, 0x43420⟩
def LNE_TXEQ.MAIN : Fld := ⟨0x80008, 0x400, 8, 7, 0x43420⟩
def LNE_TXEQ.POST1 : Fld := ⟨0x80008, 0x400, 15, 5, 0x43420⟩
def LNE_TXEQ.POST2 : Fld := ⟨0x80008, 0x400, 20, 3, 0x43420⟩

/-! LNE_TXEQ_ACT: Table 7-11 of spec/07_span_links.md. -/
def LNE_TXEQ_ACT.TAPS : Fld := ⟨0x8000c, 0x400, 0, 23, 0x43420⟩

/-! LNE_RXEQ: Table 7-11 of spec/07_span_links.md. -/
def LNE_RXEQ.CTLE : Fld := ⟨0x80010, 0x400, 0, 5, 0⟩

/-! LNE_EYE_CTRL: Table 7-11 of spec/07_span_links.md. -/
def LNE_EYE_CTRL.PHASE : Fld := ⟨0x80020, 0x400, 0, 7, 0⟩
def LNE_EYE_CTRL.VOFF : Fld := ⟨0x80020, 0x400, 8, 8, 0⟩
def LNE_EYE_CTRL.EYE : Fld := ⟨0x80020, 0x400, 16, 2, 0⟩
def LNE_EYE_CTRL.DWELL : Fld := ⟨0x80020, 0x400, 20, 4, 0⟩
def LNE_EYE_CTRL.START : Fld := ⟨0x80020, 0x400, 24, 1, 0⟩
def LNE_EYE_CTRL.DONE : Fld := ⟨0x80020, 0x400, 25, 1, 0⟩

/-! LNE_EYE_ERR: Table 7-11 of spec/07_span_links.md. -/
def LNE_EYE_ERR.ERR : Fld := ⟨0x80024, 0x400, 0, 32, 0⟩

/-! LNE_PRBS_ERR: Table 7-11 of spec/07_span_links.md. -/
def LNE_PRBS_ERR.ERR : Fld := ⟨0x80028, 0x400, 0, 32, 0⟩

/-! LNE_INJ: Table 7-11 of spec/07_span_links.md. -/
def LNE_INJ.ONE : Fld := ⟨0x80038, 0x400, 0, 1, 0⟩
def LNE_INJ.RATE : Fld := ⟨0x80038, 0x400, 1, 4, 0⟩

/-! LNE_FEC: Table 7-11 of spec/07_span_links.md. -/
def LNE_FEC.CORR_SYM : Fld := ⟨0x8003c, 0x400, 0, 16, 0⟩
def LNE_FEC.UNCORR : Fld := ⟨0x8003c, 0x400, 16, 16, 0⟩

/-! LNE_PRBS_BITS: Table 7-11 of spec/07_span_links.md. -/
def LNE_PRBS_BITS.BITS : PairReg := ⟨0x80030, 0x400, 0⟩

/-! LNE_DFE: Table 7-11 of spec/07_span_links.md. -/
def LNE_DFE.TAP : Fld := ⟨0x80040, 4, 0, 8, 0⟩

/-! SPN_CFG: Table 7-12 of spec/07_span_links.md. -/
def SPN_CFG.EN : Fld := ⟨0xa0000, 0x1000, 0, 1, 0x190a0120⟩
def SPN_CFG.RETRAIN : Fld := ⟨0xa0000, 0x1000, 1, 1, 0x190a0120⟩
def SPN_CFG.VC0_SHARE : Fld := ⟨0xa0000, 0x1000, 4, 4, 0x190a0120⟩
def SPN_CFG.VC2_MIN : Fld := ⟨0xa0000, 0x1000, 8, 4, 0x190a0120⟩
def SPN_CFG.REPLAY_TO : Fld := ⟨0xa0000, 0x1000, 16, 8, 0x190a0120⟩
def SPN_CFG.VC1_STALL : Fld := ⟨0xa0000, 0x1000, 24, 8, 0x190a0120⟩

/-! SPN_STATUS: Table 7-12 of spec/07_span_links.md. -/
def SPN_STATUS.STATE : Fld := ⟨0xa0004, 0x1000, 0, 4, 0⟩
def SPN_STATUS.RATE : Fld := ⟨0xa0004, 0x1000, 4, 3, 0⟩
def SPN_STATUS.WIDTH : Fld := ⟨0xa0004, 0x1000, 7, 4, 0⟩
def SPN_STATUS.TOP_FAIL : Fld := ⟨0xa0004, 0x1000, 11, 1, 0⟩
def SPN_STATUS.DEGRADED : Fld := ⟨0xa0004, 0x1000, 12, 1, 0⟩
def SPN_STATUS.PEER : Fld := ⟨0xa0004, 0x1000, 16, 12, 0⟩

/-! SPN_EYE_MIN: Table 7-12 of spec/07_span_links.md. -/
def SPN_EYE_MIN.H_MIN : Fld := ⟨0xa0008, 0x1000, 0, 7, 0x40814⟩
def SPN_EYE_MIN.V_MIN_NRZ : Fld := ⟨0xa0008, 0x1000, 8, 8, 0x40814⟩
def SPN_EYE_MIN.V_MIN_PAM4 : Fld := ⟨0xa0008, 0x1000, 16, 8, 0x40814⟩

/-! SPN_LADDER: Table 7-12 of spec/07_span_links.md. -/
def SPN_LADDER.STEP_SEQ : Fld := ⟨0xa000c, 0x1000, 0, 16, 0x700000⟩
def SPN_LADDER.TOP : Fld := ⟨0xa000c, 0x1000, 16, 3, 0x700000⟩
def SPN_LADDER.LAST_FAIL : Fld := ⟨0xa000c, 0x1000, 20, 3, 0x700000⟩

/-! SPN_CREDIT_A: Table 7-12 of spec/07_span_links.md. -/
def SPN_CREDIT_A.CR0 : Fld := ⟨0xa0010, 0x1000, 0, 9, 0⟩
def SPN_CREDIT_A.CR1 : Fld := ⟨0xa0010, 0x1000, 16, 9, 0⟩

/-! SPN_CREDIT_B: Table 7-12 of spec/07_span_links.md. -/
def SPN_CREDIT_B.CR2 : Fld := ⟨0xa0014, 0x1000, 0, 9, 0⟩

/-! SPN_CRC_ERR: Table 7-12 of spec/07_span_links.md. -/
def SPN_CRC_ERR.COUNT : Fld := ⟨0xa0020, 0x1000, 0, 32, 0⟩

/-! SPN_REPLAY: Table 7-12 of spec/07_span_links.md. -/
def SPN_REPLAY.COUNT : Fld := ⟨0xa0024, 0x1000, 0, 32, 0⟩

/-! SPN_VC1_GAP: Table 7-12 of spec/07_span_links.md. -/
def SPN_VC1_GAP.COUNT : Fld := ⟨0xa0028, 0x1000, 0, 32, 0⟩

/-! SPN_VC1_DROP: Table 7-12 of spec/07_span_links.md. -/
def SPN_VC1_DROP.COUNT : Fld := ⟨0xa002c, 0x1000, 0, 32, 0⟩

/-! SPN_DROP: Table 7-12 of spec/07_span_links.md. -/
def SPN_DROP.COUNT : Fld := ⟨0xa0030, 0x1000, 0, 32, 0⟩

/-! SPN_INJ: Table 7-12 of spec/07_span_links.md. -/
def SPN_INJ.VC : Fld := ⟨0xa0040, 0x1000, 0, 2, 0⟩
def SPN_INJ.CRC : Fld := ⟨0xa0040, 0x1000, 2, 1, 0⟩
def SPN_INJ.LINK : Fld := ⟨0xa0040, 0x1000, 3, 1, 0⟩

/-! VIA_CFG: Table 8-9 of spec/08_viaduct.md. -/
def VIA_CFG.MASTER : Fld := ⟨0xc0000, 0, 0, 1, 0xa14ff02⟩
def VIA_CFG.LEARN : Fld := ⟨0xc0000, 0, 1, 1, 0xa14ff02⟩
def VIA_CFG.HOPS_INIT : Fld := ⟨0xc0000, 0, 8, 8, 0xa14ff02⟩
def VIA_CFG.SETTLE : Fld := ⟨0xc0000, 0, 16, 8, 0xa14ff02⟩
def VIA_CFG.E2E_TO : Fld := ⟨0xc0000, 0, 24, 8, 0xa14ff02⟩

/-! VIA_SELF: Table 8-9 of spec/08_viaduct.md. -/
def VIA_SELF.ADDR : Fld := ⟨0xc0004, 0, 0, 12, 0⟩
def VIA_SELF.PREF : Fld := ⟨0xc0004, 0, 16, 12, 0⟩

/-! VIA_STATUS: Table 8-9 of spec/08_viaduct.md. -/
def VIA_STATUS.DISC : Fld := ⟨0xc0008, 0, 0, 3, 0⟩
def VIA_STATUS.UPPORT : Fld := ⟨0xc0008, 0, 4, 4, 0⟩
def VIA_STATUS.DEPTH : Fld := ⟨0xc0008, 0, 8, 1, 0⟩
def VIA_STATUS.MASTER : Fld := ⟨0xc0008, 0, 16, 12, 0⟩

/-! VIA_NODES: Table 8-9 of spec/08_viaduct.md. -/
def VIA_NODES.COUNT : Fld := ⟨0xc000c, 0, 0, 13, 0⟩

/-! VIA_CNT_E2E: Table 8-9 of spec/08_viaduct.md. -/
def VIA_CNT_E2E.RETRY : Fld := ⟨0xc0010, 0, 0, 16, 0⟩
def VIA_CNT_E2E.FAIL : Fld := ⟨0xc0010, 0, 16, 16, 0⟩

/-! VIA_CNT_DROP: Table 8-9 of spec/08_viaduct.md. -/
def VIA_CNT_DROP.NOROUTE : Fld := ⟨0xc0014, 0, 0, 16, 0⟩
def VIA_CNT_DROP.HOPS : Fld := ⟨0xc0014, 0, 16, 16, 0⟩

/-! VIA_PORT_CFG: Table 8-9 of spec/08_viaduct.md. -/
def VIA_PORT_CFG.SUB_EN : Fld := ⟨0xc0100, 4, 0, 1, 0⟩

/-! VIA_LAYER_GROUP: Table 8-9 of spec/08_viaduct.md. -/
def VIA_LAYER_GROUP.GROUP : Fld := ⟨0xc0200, 4, 0, 8, 0⟩

/-! VIA_ROUTE: Table 8-9 of spec/08_viaduct.md. -/
def VIA_ROUTE.PORT : Fld := ⟨0xc1000, 4, 0, 4, 0⟩
def VIA_ROUTE.VALID : Fld := ⟨0xc1000, 4, 4, 1, 0⟩
def VIA_ROUTE.PINNED : Fld := ⟨0xc1000, 4, 5, 1, 0⟩
def VIA_ROUTE.LEARNED : Fld := ⟨0xc1000, 4, 6, 1, 0⟩
def VIA_ROUTE.ALT : Fld := ⟨0xc1000, 4, 8, 4, 0⟩
def VIA_ROUTE.ALT_VALID : Fld := ⟨0xc1000, 4, 12, 1, 0⟩
def VIA_ROUTE.DIST : Fld := ⟨0xc1000, 4, 16, 12, 0⟩

/-! VIA_GROUP: Table 8-9 of spec/08_viaduct.md. -/
def VIA_GROUP.PORTS : Fld := ⟨0xc5000, 4, 0, 16, 0⟩

/-! VIA_SUB: Table 8-9 of spec/08_viaduct.md. -/
def VIA_SUB.INTEREST : Fld := ⟨0xc6000, 4, 0, 32, 0⟩

/-! TIM_WALL: Table 8-10 of spec/08_viaduct.md. -/
def TIM_WALL.WALL : PairReg := ⟨0xe0000, 0, 0⟩

/-! TIM_CFG: Table 8-10 of spec/08_viaduct.md. -/
def TIM_CFG.ROOT_EN : Fld := ⟨0xe0008, 0, 0, 1, 0x83108002⟩
def TIM_CFG.STEP_EN : Fld := ⟨0xe0008, 0, 1, 1, 0x83108002⟩
def TIM_CFG.FT_SYNC_EN : Fld := ⟨0xe0008, 0, 2, 1, 0x83108002⟩
def TIM_CFG.PRI : Fld := ⟨0xe0008, 0, 8, 8, 0x83108002⟩
def TIM_CFG.INTERVAL : Fld := ⟨0xe0008, 0, 16, 6, 0x83108002⟩
def TIM_CFG.KP : Fld := ⟨0xe0008, 0, 24, 4, 0x83108002⟩
def TIM_CFG.KI : Fld := ⟨0xe0008, 0, 28, 4, 0x83108002⟩

/-! TIM_LOCK: Table 8-10 of spec/08_viaduct.md. -/
def TIM_LOCK.LOCK_IN : Fld := ⟨0xe000c, 0, 0, 8, 0x2581e06⟩
def TIM_LOCK.LOCK_OUT : Fld := ⟨0xe000c, 0, 8, 8, 0x2581e06⟩
def TIM_LOCK.STEP_LIMIT : Fld := ⟨0xe000c, 0, 16, 16, 0x2581e06⟩

/-! TIM_STATUS: Table 8-10 of spec/08_viaduct.md. -/
def TIM_STATUS.STATE : Fld := ⟨0xe0010, 0, 0, 3, 0⟩
def TIM_STATUS.LOCKED : Fld := ⟨0xe0010, 0, 3, 1, 0⟩
def TIM_STATUS.PARENT : Fld := ⟨0xe0010, 0, 4, 4, 0⟩
def TIM_STATUS.PARENT_FT : Fld := ⟨0xe0010, 0, 8, 1, 0⟩
def TIM_STATUS.STEPS : Fld := ⟨0xe0010, 0, 16, 12, 0⟩

/-! TIM_ROOT: Table 8-10 of spec/08_viaduct.md. -/
def TIM_ROOT.ROOT : Fld := ⟨0xe0014, 0, 0, 12, 0⟩
def TIM_ROOT.PRI : Fld := ⟨0xe0014, 0, 16, 8, 0⟩

/-! TIM_ERR: Table 8-10 of spec/08_viaduct.md. -/
def TIM_ERR.ERR : Fld := ⟨0xe0018, 0, 0, 32, 0⟩

/-! TIM_RATE: Table 8-10 of spec/08_viaduct.md. -/
def TIM_RATE.RATE : Fld := ⟨0xe001c, 0, 0, 32, 0⟩

/-! TIM_HOLD: Table 8-10 of spec/08_viaduct.md. -/
def TIM_HOLD.HOLD_MAX : Fld := ⟨0xe0020, 0, 0, 16, 0x3e8⟩

/-! TIM_FT: Table 8-10 of spec/08_viaduct.md. -/
def TIM_FT.FT_DELAY : Fld := ⟨0xe0024, 0, 0, 16, 0⟩

/-! TIM_CAD_CFG: Table 13-7 of spec/13_scanout.md. -/
def TIM_CAD_CFG.MODE : Fld := ⟨0xe0100, 0, 0, 1, 0⟩

/-! TIM_T_NOM: Table 13-7 of spec/13_scanout.md. -/
def TIM_T_NOM.T_NOM : Fld := ⟨0xe0104, 0, 0, 32, 0x989680⟩

/-! TIM_T_MIN: Table 13-7 of spec/13_scanout.md. -/
def TIM_T_MIN.T_MIN : Fld := ⟨0xe0108, 0, 0, 32, 0x989680⟩

/-! TIM_T_MAX: Table 13-7 of spec/13_scanout.md. -/
def TIM_T_MAX.T_MAX : Fld := ⟨0xe010c, 0, 0, 32, 0x9eb100⟩

/-! TIM_CAD_LEAD: Table 13-7 of spec/13_scanout.md. -/
def TIM_CAD_LEAD.LEAD : Fld := ⟨0xe0110, 0, 0, 24, 0x927c0⟩

/-! TIM_CAD_OFFSET: Table 13-7 of spec/13_scanout.md. -/
def TIM_CAD_OFFSET.OFFSET : Fld := ⟨0xe0114, 0, 0, 24, 0x124f80⟩

/-! TIM_CAD_STATUS: Table 13-7 of spec/13_scanout.md. -/
def TIM_CAD_STATUS.STATE : Fld := ⟨0xe0118, 0, 0, 2, 0⟩
def TIM_CAD_STATUS.LAGGING : Fld := ⟨0xe0118, 0, 2, 1, 0⟩
def TIM_CAD_STATUS.SRC_OUT : Fld := ⟨0xe0118, 0, 3, 1, 0⟩

/-! TIM_LAG: Table 13-7 of spec/13_scanout.md. -/
def TIM_LAG.LAG : Fld := ⟨0xe011c, 0, 0, 32, 0⟩

/-! TIM_SCAN_CFG: Table 13-7 of spec/13_scanout.md. -/
def TIM_SCAN_CFG.ABORT_LIM : Fld := ⟨0xe0138, 0, 0, 4, 2⟩

/-! TIM_CNT_PRES: Table 13-7 of spec/13_scanout.md. -/
def TIM_CNT_PRES.COUNT : Fld := ⟨0xe0140, 0, 0, 32, 0⟩

/-! TIM_CNT_REPEAT: Table 13-7 of spec/13_scanout.md. -/
def TIM_CNT_REPEAT.COUNT : Fld := ⟨0xe0144, 0, 0, 32, 0⟩

/-! TIM_CNT_DROP: Table 13-7 of spec/13_scanout.md. -/
def TIM_CNT_DROP.COUNT : Fld := ⟨0xe0148, 0, 0, 32, 0⟩

/-! TIM_CNT_ABORT: Table 13-7 of spec/13_scanout.md. -/
def TIM_CNT_ABORT.COUNT : Fld := ⟨0xe014c, 0, 0, 32, 0⟩

/-! TIM_CNT_UNDERRUN: Table 13-7 of spec/13_scanout.md. -/
def TIM_CNT_UNDERRUN.COUNT : Fld := ⟨0xe0150, 0, 0, 32, 0⟩

/-! TIM_CNT_DARK: Table 13-7 of spec/13_scanout.md. -/
def TIM_CNT_DARK.COUNT : Fld := ⟨0xe0154, 0, 0, 32, 0⟩

/-! TIM_FRAME: Table 13-7 of spec/13_scanout.md. -/
def TIM_FRAME.FRAME : PairReg := ⟨0xe0120, 0, 0⟩

/-! TIM_START: Table 13-7 of spec/13_scanout.md. -/
def TIM_START.START : PairReg := ⟨0xe0128, 0, 0⟩

/-! TIM_NEXT: Table 13-7 of spec/13_scanout.md. -/
def TIM_NEXT.NEXT : PairReg := ⟨0xe0130, 0, 0⟩

/-! TIM_PORT_DELAY: Table 8-10 of spec/08_viaduct.md. -/
def TIM_PORT_DELAY.DELAY : Fld := ⟨0xe0200, 0x10, 0, 24, 0⟩

/-! TIM_ASYM: Table 8-10 of spec/08_viaduct.md. -/
def TIM_ASYM.ASYM : Fld := ⟨0xe0204, 0x10, 0, 16, 0⟩

/-! ING_LAYER_SRC: Table 4-5 of spec/04_ingest.md. -/
def ING_LAYER_SRC.KIND : Fld := ⟨0x100000, 4, 0, 3, 0xff0000⟩
def ING_LAYER_SRC.SLICE : Fld := ⟨0x100000, 4, 3, 1, 0xff0000⟩
def ING_LAYER_SRC.PRIMARY : Fld := ⟨0x100000, 4, 8, 8, 0xff0000⟩
def ING_LAYER_SRC.BACKUP : Fld := ⟨0x100000, 4, 16, 8, 0xff0000⟩
def ING_LAYER_SRC.HOLD : Fld := ⟨0x100000, 4, 24, 8, 0xff0000⟩

/-! ING_CADENCE: Table 4-5 of spec/04_ingest.md. -/
def ING_CADENCE.LAYER : Fld := ⟨0x100100, 0, 0, 6, 0⟩

/-! ING_SDI_CFG: Table 4-5 of spec/04_ingest.md. -/
def ING_SDI_CFG.EN : Fld := ⟨0x100200, 0x10, 0, 1, 0⟩
def ING_SDI_CFG.QUAD : Fld := ⟨0x100200, 0x10, 1, 1, 0⟩
def ING_SDI_CFG.DIV : Fld := ⟨0x100200, 0x10, 2, 1, 0⟩
def ING_SDI_CFG.ANC_EN : Fld := ⟨0x100200, 0x10, 3, 1, 0⟩
def ING_SDI_CFG.MATRIX : Fld := ⟨0x100200, 0x10, 4, 1, 0⟩

/-! ING_SDI_STATUS: Table 4-5 of spec/04_ingest.md. -/
def ING_SDI_STATUS.LOCK : Fld := ⟨0x100204, 0x10, 0, 1, 0⟩
def ING_SDI_STATUS.FMT_OK : Fld := ⟨0x100204, 0x10, 1, 1, 0⟩
def ING_SDI_STATUS.STD : Fld := ⟨0x100204, 0x10, 8, 8, 0⟩
def ING_SDI_STATUS.CRC_ERR : Fld := ⟨0x100204, 0x10, 16, 16, 0⟩

/-! ING_SDI_ANC: Table 4-5 of spec/04_ingest.md. -/
def ING_SDI_ANC.ANC_LOST : Fld := ⟨0x100208, 0x10, 0, 16, 0⟩

/-! ING_ETH_CFG: Table 4-5 of spec/04_ingest.md. -/
def ING_ETH_CFG.EN : Fld := ⟨0x100800, 0x20, 0, 1, 4⟩
def ING_ETH_CFG.MODE : Fld := ⟨0x100800, 0x20, 1, 1, 4⟩
def ING_ETH_CFG.FEC25 : Fld := ⟨0x100800, 0x20, 2, 1, 4⟩

/-! ING_ETH_IP: Table 4-5 of spec/04_ingest.md. -/
def ING_ETH_IP.IP : Fld := ⟨0x100804, 0x20, 0, 32, 0⟩

/-! ING_ETH_DROP: Table 4-5 of spec/04_ingest.md. -/
def ING_ETH_DROP.DROP : Fld := ⟨0x100808, 0x20, 0, 32, 0⟩

/-! ING_FLOW_CFG: Table 4-5 of spec/04_ingest.md. -/
def ING_FLOW_CFG.EN : Fld := ⟨0x101000, 0x20, 0, 1, 0x6000⟩
def ING_FLOW_CFG.PORT : Fld := ⟨0x101000, 0x20, 1, 3, 0x6000⟩
def ING_FLOW_CFG.FMT : Fld := ⟨0x101000, 0x20, 4, 2, 0x6000⟩
def ING_FLOW_CFG.RGB : Fld := ⟨0x101000, 0x20, 6, 1, 0x6000⟩
def ING_FLOW_CFG.MATRIX : Fld := ⟨0x101000, 0x20, 7, 1, 0x6000⟩
def ING_FLOW_CFG.PT : Fld := ⟨0x101000, 0x20, 8, 7, 0x6000⟩

/-! ING_FLOW_DST: Table 4-5 of spec/04_ingest.md. -/
def ING_FLOW_DST.DST_IP : Fld := ⟨0x101004, 0x20, 0, 32, 0⟩

/-! ING_FLOW_SRC: Table 4-5 of spec/04_ingest.md. -/
def ING_FLOW_SRC.SRC_IP : Fld := ⟨0x101008, 0x20, 0, 32, 0⟩

/-! ING_FLOW_PORT: Table 4-5 of spec/04_ingest.md. -/
def ING_FLOW_PORT.UDP : Fld := ⟨0x10100c, 0x20, 0, 16, 0⟩

/-! ING_FLOW_SIZE: Table 4-5 of spec/04_ingest.md. -/
def ING_FLOW_SIZE.WIDTH : Fld := ⟨0x101010, 0x20, 0, 13, 0⟩
def ING_FLOW_SIZE.HEIGHT : Fld := ⟨0x101010, 0x20, 16, 13, 0⟩

/-! ING_STAT: Table 4-5 of spec/04_ingest.md. -/
def ING_STAT.REPEAT : Fld := ⟨0x102000, 0x10, 0, 16, 0⟩
def ING_STAT.DROP : Fld := ⟨0x102000, 0x10, 16, 16, 0⟩

/-! ING_TORN: Table 4-5 of spec/04_ingest.md. -/
def ING_TORN.TORN : Fld := ⟨0x102004, 0x10, 0, 32, 0⟩

/-! ENC_GLOBAL: Table 6-5 of spec/06_encoder.md. -/
def ENC_GLOBAL.REQ_GAP : Fld := ⟨0x120000, 0, 0, 4, 0x400004⟩
def ENC_GLOBAL.SLICE_WAIT : Fld := ⟨0x120000, 0, 16, 16, 0x400004⟩

/-! ENC_STATUS: Table 6-5 of spec/06_encoder.md. -/
def ENC_STATUS.ACTIVE : Fld := ⟨0x120004, 0, 0, 9, 0⟩

/-! ENC_LAYER_CFG: Table 6-5 of spec/06_encoder.md. -/
def ENC_LAYER_CFG.EN : Fld := ⟨0x120100, 0x20, 0, 1, 0x183c00⟩
def ENC_LAYER_CFG.CFG_ERR : Fld := ⟨0x120100, 0x20, 1, 1, 0x183c00⟩
def ENC_LAYER_CFG.REFRESH : Fld := ⟨0x120100, 0x20, 8, 8, 0x183c00⟩
def ENC_LAYER_CFG.QP_INIT : Fld := ⟨0x120100, 0x20, 16, 6, 0x183c00⟩

/-! ENC_LAYER_QP: Table 6-5 of spec/06_encoder.md. -/
def ENC_LAYER_QP.QP_MIN : Fld := ⟨0x120104, 0x20, 0, 6, 0x2f00⟩
def ENC_LAYER_QP.QP_MAX : Fld := ⟨0x120104, 0x20, 8, 6, 0x2f00⟩

/-! ENC_LAYER_RATE: Table 6-5 of spec/06_encoder.md. -/
def ENC_LAYER_RATE.TARGET : Fld := ⟨0x120108, 0x20, 0, 12, 0x43c001e0⟩
def ENC_LAYER_RATE.PEAK : Fld := ⟨0x120108, 0x20, 16, 12, 0x43c001e0⟩
def ENC_LAYER_RATE.BUCKET : Fld := ⟨0x120108, 0x20, 28, 4, 0x43c001e0⟩

/-! ENC_LAYER_STAT: Table 6-5 of spec/06_encoder.md. -/
def ENC_LAYER_STAT.FLOOR_PIC : Fld := ⟨0x12010c, 0x20, 0, 16, 0⟩
def ENC_LAYER_STAT.OVERRUN : Fld := ⟨0x12010c, 0x20, 16, 16, 0⟩

/-! ENC_LAYER_REQ: Table 6-5 of spec/06_encoder.md. -/
def ENC_LAYER_REQ.FORCED : Fld := ⟨0x120110, 0x20, 0, 16, 0⟩
def ENC_LAYER_REQ.REQ_JOINED : Fld := ⟨0x120110, 0x20, 16, 16, 0⟩

/-! ENC_LAYER_PIC: Table 6-5 of spec/06_encoder.md. -/
def ENC_LAYER_PIC.PIC_CNT : Fld := ⟨0x120114, 0x20, 0, 16, 0⟩

/-! DEC_CFG: Table 9-4 of spec/09_decoder.md. -/
def DEC_CFG.REQ_EN : Fld := ⟨0x140000, 0, 0, 1, 0x801⟩
def DEC_CFG.REQ_REPEAT : Fld := ⟨0x140000, 0, 8, 8, 0x801⟩

/-! DEC_STATUS: Table 9-4 of spec/09_decoder.md. -/
def DEC_STATUS.OPEN : Fld := ⟨0x140004, 0, 0, 12, 0⟩
def DEC_STATUS.TAINTED : Fld := ⟨0x140004, 0, 16, 12, 0⟩

/-! DEC_LOAD: Table 9-4 of spec/09_decoder.md. -/
def DEC_LOAD.BOOKED : Fld := ⟨0x140008, 0, 0, 16, 0⟩
def DEC_LOAD.BAYS : Fld := ⟨0x140008, 0, 16, 5, 0⟩

/-! DEC_CNT_LOSS: Table 9-4 of spec/09_decoder.md. -/
def DEC_CNT_LOSS.LOSS : Fld := ⟨0x140010, 0, 0, 32, 0⟩

/-! DEC_CNT_VIOL: Table 9-4 of spec/09_decoder.md. -/
def DEC_CNT_VIOL.VIOL : Fld := ⟨0x140014, 0, 0, 16, 0⟩
def DEC_CNT_VIOL.DISCARD : Fld := ⟨0x140014, 0, 16, 16, 0⟩

/-! DEC_CNT_CONCEAL: Table 9-4 of spec/09_decoder.md. -/
def DEC_CNT_CONCEAL.ROWS : Fld := ⟨0x140018, 0, 0, 32, 0⟩

/-! DEC_CNT_REQ: Table 9-4 of spec/09_decoder.md. -/
def DEC_CNT_REQ.SENT : Fld := ⟨0x14001c, 0, 0, 16, 0⟩
def DEC_CNT_REQ.BOUND : Fld := ⟨0x14001c, 0, 16, 16, 0⟩

/-! DEC_CTX_SEL: Table 9-4 of spec/09_decoder.md. -/
def DEC_CTX_SEL.CTX : Fld := ⟨0x140020, 0, 0, 12, 0⟩

/-! DEC_CTX_STATE: Table 9-4 of spec/09_decoder.md. -/
def DEC_CTX_STATE.STATE : Fld := ⟨0x140024, 0, 0, 2, 0⟩
def DEC_CTX_STATE.TAINT : Fld := ⟨0x140024, 0, 2, 1, 0⟩
def DEC_CTX_STATE.HELD : Fld := ⟨0x140024, 0, 3, 1, 0⟩
def DEC_CTX_STATE.STREAM : Fld := ⟨0x140024, 0, 16, 12, 0⟩

/-! DEC_CTX_PIC: Table 9-4 of spec/09_decoder.md. -/
def DEC_CTX_PIC.HELD_PIC : Fld := ⟨0x140028, 0, 0, 16, 0⟩
def DEC_CTX_PIC.TAINT_ROWS : Fld := ⟨0x140028, 0, 16, 10, 0⟩

/-! DEC_LAYER_CFG: Table 9-4 of spec/09_decoder.md. -/
def DEC_LAYER_CFG.IN_KIB : Fld := ⟨0x140100, 4, 0, 10, 0x80⟩

/-! DEC_TAINT: Table 9-4 of spec/09_decoder.md. -/
def DEC_TAINT.TAINT : Fld := ⟨0x141000, 4, 0, 32, 0⟩

/-! CMP_STATUS: Table 10-8 of spec/10_composition.md. -/
def CMP_STATUS.FRONT : Fld := ⟨0x180000, 0, 0, 1, 0⟩
def CMP_STATUS.CONFIRMED : Fld := ⟨0x180000, 0, 1, 1, 0⟩
def CMP_STATUS.PENDING : Fld := ⟨0x180000, 0, 2, 2, 0⟩
def CMP_STATUS.VISIBLE : Fld := ⟨0x180000, 0, 4, 5, 0⟩
def CMP_STATUS.IN_FORCE : Fld := ⟨0x180000, 0, 9, 1, 0⟩

/-! CMP_GEN: Table 10-8 of spec/10_composition.md. -/
def CMP_GEN.FORCE : Fld := ⟨0x180004, 0, 0, 32, 0⟩

/-! CMP_GEN_LAST: Table 10-8 of spec/10_composition.md. -/
def CMP_GEN_LAST.LAST : Fld := ⟨0x180008, 0, 0, 32, 0⟩

/-! CMP_SPEC: Table 10-8 of spec/10_composition.md. -/
def CMP_SPEC.BANDS : Fld := ⟨0x180020, 0, 0, 16, 0⟩
def CMP_SPEC.RECOMP : Fld := ⟨0x180020, 0, 16, 16, 0⟩

/-! CMP_MISS: Table 10-8 of spec/10_composition.md. -/
def CMP_MISS.UNKNOWN : Fld := ⟨0x180024, 0, 0, 16, 0⟩
def CMP_MISS.TAINT : Fld := ⟨0x180024, 0, 16, 16, 0⟩

/-! CMP_HANDLES: Table 10-8 of spec/10_composition.md. -/
def CMP_HANDLES.LIVE : Fld := ⟨0x180030, 0, 0, 13, 0⟩
def CMP_HANDLES.DEFERRED : Fld := ⟨0x180030, 0, 16, 13, 0⟩

/-! CMP_POOL: Table 10-8 of spec/10_composition.md. -/
def CMP_POOL.FREE_PAGES : Fld := ⟨0x180034, 0, 0, 32, 0⟩

/-! CMP_PARAPET: Table 10-8 of spec/10_composition.md. -/
def CMP_PARAPET.ACTIVE : Fld := ⟨0x180300, 0, 0, 1, 0⟩
def CMP_PARAPET.SAFE : Fld := ⟨0x180300, 0, 1, 1, 0⟩
def CMP_PARAPET.INDEX : Fld := ⟨0x180300, 0, 8, 8, 0⟩

/-! CMP_HASH: Table 10-8 of spec/10_composition.md. -/
def CMP_HASH.HASH : PairReg := ⟨0x180010, 0, 0⟩

/-! CMP_LATE: Table 10-8 of spec/10_composition.md. -/
def CMP_LATE.FRAMES : Fld := ⟨0x180100, 4, 0, 16, 0⟩
def CMP_LATE.NOW : Fld := ⟨0x180100, 4, 16, 1, 0⟩

/-! CMP_LUT_CRC: Table 10-8 of spec/10_composition.md. -/
def CMP_LUT_CRC.CRC : Fld := ⟨0x180200, 4, 0, 32, 0⟩

/-! CMP_PARAPET_SEQ: Table 10-8 of spec/10_composition.md. -/
def CMP_PARAPET_SEQ.SEQ : PairReg := ⟨0x180304, 0, 0⟩

/-! CMP_PARAPET_KEY: Table 10-8 of spec/10_composition.md. -/
def CMP_PARAPET_KEY.HASH : Fld := ⟨0x180320, 4, 0, 32, 0⟩

/-! CMP_SRC_CROP: Table 10-8 of spec/10_composition.md. -/
def CMP_SRC_CROP.X : Fld := ⟨0x180400, 0x10, 0, 16, 0⟩
def CMP_SRC_CROP.Y : Fld := ⟨0x180400, 0x10, 16, 16, 0⟩

/-! CMP_SRC_CSIZE: Table 10-8 of spec/10_composition.md. -/
def CMP_SRC_CSIZE.W : Fld := ⟨0x180404, 0x10, 0, 16, 0⟩
def CMP_SRC_CSIZE.H : Fld := ⟨0x180404, 0x10, 16, 16, 0⟩

/-! CMP_SRC_DECL: Table 10-8 of spec/10_composition.md. -/
def CMP_SRC_DECL.W : Fld := ⟨0x180408, 0x10, 0, 16, 0⟩
def CMP_SRC_DECL.H : Fld := ⟨0x180408, 0x10, 16, 16, 0⟩

/-! CMP_SRC_FILT: Table 10-8 of spec/10_composition.md. -/
def CMP_SRC_FILT.SET : Fld := ⟨0x18040c, 0x10, 0, 3, 0x30⟩
def CMP_SRC_FILT.TAPS_V : Fld := ⟨0x18040c, 0x10, 4, 3, 0x30⟩
def CMP_SRC_FILT.ERR : Fld := ⟨0x18040c, 0x10, 7, 1, 0x30⟩

/-! CMP_SIG_EN: Table 10-8 of spec/10_composition.md. -/
def CMP_SIG_EN.EN : PairReg := ⟨0x180800, 0, 0⟩

/-! CMP_SIG_MIS: Table 10-8 of spec/10_composition.md. -/
def CMP_SIG_MIS.MIS : PairReg := ⟨0x180808, 0, 0⟩

/-! CMP_SIG_FRAME: Table 10-8 of spec/10_composition.md. -/
def CMP_SIG_FRAME.FRAME : PairReg := ⟨0x180810, 0, 0⟩

/-! CMP_SIG_RECT: Table 10-8 of spec/10_composition.md. -/
def CMP_SIG_RECT.X : Fld := ⟨0x181000, 0x10, 0, 16, 0⟩
def CMP_SIG_RECT.Y : Fld := ⟨0x181000, 0x10, 16, 16, 0⟩

/-! CMP_SIG_SIZE: Table 10-8 of spec/10_composition.md. -/
def CMP_SIG_SIZE.W : Fld := ⟨0x181004, 0x10, 0, 16, 0⟩
def CMP_SIG_SIZE.H : Fld := ⟨0x181004, 0x10, 16, 16, 0⟩

/-! CMP_SIG_EXP: Table 10-8 of spec/10_composition.md. -/
def CMP_SIG_EXP.EXP : Fld := ⟨0x181008, 0x10, 0, 32, 0⟩

/-! CMP_SIG_VAL: Table 10-8 of spec/10_composition.md. -/
def CMP_SIG_VAL.VAL : Fld := ⟨0x18100c, 0x10, 0, 32, 0⟩

/-! COR_CFG: Table 11-4 of spec/11_correction.md. -/
def COR_CFG.DITHER : Fld := ⟨0x1c0000, 0, 0, 2, 2⟩

/-! COR_BRIGHT: Table 11-4 of spec/11_correction.md. -/
def COR_BRIGHT.TARGET : Fld := ⟨0x1c0004, 0, 0, 16, 0x8000⟩
def COR_BRIGHT.RAMP : Fld := ⟨0x1c0004, 0, 16, 16, 0x8000⟩

/-! COR_BRIGHT_ACT: Table 11-4 of spec/11_correction.md. -/
def COR_BRIGHT_ACT.ACT : Fld := ⟨0x1c0008, 0, 0, 16, 0x8000⟩

/-! COR_STATUS: Table 11-4 of spec/11_correction.md. -/
def COR_STATUS.MAP_OK : Fld := ⟨0x1c000c, 0, 0, 1, 0⟩
def COR_STATUS.COEF_OK : Fld := ⟨0x1c000c, 0, 1, 1, 0⟩
def COR_STATUS.GAIN_OK : Fld := ⟨0x1c000c, 0, 2, 1, 0⟩
def COR_STATUS.LOADING : Fld := ⟨0x1c000c, 0, 3, 1, 0⟩
def COR_STATUS.PATCHES : Fld := ⟨0x1c000c, 0, 4, 3, 0⟩

/-! COR_LOADED: Table 11-4 of spec/11_correction.md. -/
def COR_LOADED.LEN : Fld := ⟨0x1c0010, 0, 0, 24, 0⟩
def COR_LOADED.IMAGE : Fld := ⟨0x1c0010, 0, 24, 2, 0⟩

/-! COR_LAMPS: Table 11-4 of spec/11_correction.md. -/
def COR_LAMPS.COUNT : Fld := ⟨0x1c0014, 0, 0, 21, 0⟩

/-! COR_USED: Table 11-4 of spec/11_correction.md. -/
def COR_USED.USED : Fld := ⟨0x1c0018, 0, 0, 21, 0⟩

/-! COR_OUTSIDE: Table 11-4 of spec/11_correction.md. -/
def COR_OUTSIDE.COUNT : Fld := ⟨0x1c001c, 0, 0, 21, 0⟩

/-! COR_CLIP: Table 11-4 of spec/11_correction.md. -/
def COR_CLIP.COUNT : Fld := ⟨0x1c0020, 0, 0, 32, 0⟩

/-! COR_SEAM: Table 11-4 of spec/11_correction.md. -/
def COR_SEAM.GAIN : Fld := ⟨0x1c0100, 4, 0, 16, 0x8000⟩

/-! COR_DERATE: Table 11-4 of spec/11_correction.md. -/
def COR_DERATE.FACTOR : Fld := ⟨0x1c0200, 4, 0, 16, 0x8000⟩

/-! STR_GLOBAL: Table 12-9 of spec/12_strand_drive.md. -/
def STR_GLOBAL.VIO33 : Fld := ⟨0x200000, 0, 0, 1, 0⟩

/-! STR_TIMING: Table 12-9 of spec/12_strand_drive.md. -/
def STR_TIMING.K : Fld := ⟨0x200004, 0, 0, 6, 0xa⟩
def STR_TIMING.DIAG : Fld := ⟨0x200004, 0, 6, 1, 0xa⟩

/-! STR_REFRESH: Table 12-9 of spec/12_strand_drive.md. -/
def STR_REFRESH.T_REF : Fld := ⟨0x200008, 0, 0, 20, 0x2625a⟩

/-! STR_SCAN: Table 12-9 of spec/12_strand_drive.md. -/
def STR_SCAN.ROWS : Fld := ⟨0x20000c, 0, 0, 6, 0xb40f⟩
def STR_SCAN.POL : Fld := ⟨0x20000c, 0, 6, 1, 0xb40f⟩
def STR_SCAN.DEAD : Fld := ⟨0x20000c, 0, 8, 10, 0xb40f⟩

/-! STR_PLANE: Table 12-9 of spec/12_strand_drive.md. -/
def STR_PLANE.P : Fld := ⟨0x200010, 0, 0, 5, 0x780c0c⟩
def STR_PLANE.PW_MIN : Fld := ⟨0x200010, 0, 8, 8, 0x780c0c⟩
def STR_PLANE.SETTLE : Fld := ⟨0x200010, 0, 16, 10, 0x780c0c⟩

/-! STR_LIMIT: Table 12-9 of spec/12_strand_drive.md. -/
def STR_LIMIT.U_LIMIT : Fld := ⟨0x200014, 0, 0, 12, 0⟩
def STR_LIMIT.PHASE_MAX : Fld := ⟨0x200014, 0, 16, 12, 0⟩

/-! STR_STATUS: Table 12-9 of spec/12_strand_drive.md. -/
def STR_STATUS.STATE : Fld := ⟨0x200018, 0, 0, 3, 0⟩
def STR_STATUS.HARD_PEND : Fld := ⟨0x200018, 0, 3, 1, 0⟩
def STR_STATUS.TIM_ERR : Fld := ⟨0x200018, 0, 4, 4, 0⟩

/-! STR_UNIT: Table 12-9 of spec/12_strand_drive.md. -/
def STR_UNIT.U : Fld := ⟨0x20001c, 0, 0, 12, 0⟩
def STR_UNIT.G : Fld := ⟨0x20001c, 0, 16, 7, 0⟩

/-! STR_NREF: Table 12-9 of spec/12_strand_drive.md. -/
def STR_NREF.N_R : Fld := ⟨0x200020, 0, 0, 16, 0⟩

/-! STR_DRIVE: Table 12-9 of spec/12_strand_drive.md. -/
def STR_DRIVE.HYB : Fld := ⟨0x200024, 0, 0, 16, 0⟩

/-! STR_BROWN_BLANK: Table 12-9 of spec/12_strand_drive.md. -/
def STR_BROWN_BLANK.EN : Fld := ⟨0x200028, 0, 0, 1, 1⟩

/-! STR_TE_CFG: Table 12-9 of spec/12_strand_drive.md. -/
def STR_TE_CFG.TE_WIN : Fld := ⟨0x20002c, 0, 0, 16, 0x258⟩

/-! STR_FAN_CFG: Table 12-9 of spec/12_strand_drive.md. -/
def STR_FAN_CFG.MODE : Fld := ⟨0x200100, 0x20, 0, 2, 0x80700⟩
def STR_FAN_CFG.COLS : Fld := ⟨0x200100, 0x20, 8, 7, 0x80700⟩
def STR_FAN_CFG.RET_DLY : Fld := ⟨0x200100, 0x20, 16, 6, 0x80700⟩

/-! STR_FAN_SINK: Table 12-9 of spec/12_strand_drive.md. -/
def STR_FAN_SINK.WORD0 : Fld := ⟨0x200104, 0x20, 0, 16, 0xdc0⟩
def STR_FAN_SINK.WORD1 : Fld := ⟨0x200104, 0x20, 16, 16, 0xdc0⟩

/-! STR_FAN_PHASE: Table 12-9 of spec/12_strand_drive.md. -/
def STR_FAN_PHASE.PHASE : Fld := ⟨0x200108, 0x20, 0, 12, 0⟩

/-! STR_FAN_IREF: Table 12-9 of spec/12_strand_drive.md. -/
def STR_FAN_IREF.CODE : Fld := ⟨0x20010c, 0x20, 0, 12, 0⟩
def STR_FAN_IREF.ACT : Fld := ⟨0x20010c, 0x20, 16, 12, 0⟩

/-! STR_FAN_STATUS: Table 12-9 of spec/12_strand_drive.md. -/
def STR_FAN_STATUS.SINK_ERR : Fld := ⟨0x200110, 0x20, 0, 1, 0⟩
def STR_FAN_STATUS.TE_MISS : Fld := ⟨0x200110, 0x20, 1, 1, 0⟩

/-! STR_FAN_TE: Table 12-9 of spec/12_strand_drive.md. -/
def STR_FAN_TE.DELAY : Fld := ⟨0x200114, 0x20, 0, 16, 0⟩
def STR_FAN_TE.COUNT : Fld := ⟨0x200114, 0x20, 16, 8, 0⟩
def STR_FAN_TE.MISS : Fld := ⟨0x200114, 0x20, 24, 8, 0⟩

/-! STR_IREF_TRIM: Table 12-9 of spec/12_strand_drive.md. -/
def STR_IREF_TRIM.GAIN_TRIM : Fld := ⟨0x200118, 0x20, 0, 8, 0x8080⟩
def STR_IREF_TRIM.RATIO_TRIM : Fld := ⟨0x200118, 0x20, 8, 8, 0x8080⟩
def STR_IREF_TRIM.TRIMMED : Fld := ⟨0x200118, 0x20, 16, 1, 0x8080⟩

/-! STR_STRAND_EN: Table 12-9 of spec/12_strand_drive.md. -/
def STR_STRAND_EN.EN : Fld := ⟨0x200400, 4, 0, 32, 0xffffffff⟩

/-! STR_DESKEW: Table 12-9 of spec/12_strand_drive.md. -/
def STR_DESKEW.TAP : Fld := ⟨0x200800, 4, 0, 5, 0⟩

/-! STR_ECHO_ERR: Table 12-9 of spec/12_strand_drive.md. -/
def STR_ECHO_ERR.COUNT : Fld := ⟨0x201000, 4, 0, 16, 0⟩

/-! DIA_CFG: Table 14-3 of spec/14_lamp_diagnostics.md. -/
def DIA_CFG.PROBE_EN : Fld := ⟨0x240000, 0, 0, 1, 0x6b⟩
def DIA_CFG.PIN_EN : Fld := ⟨0x240000, 0, 1, 1, 0x6b⟩
def DIA_CFG.CONFIRM : Fld := ⟨0x240000, 0, 2, 2, 0x6b⟩
def DIA_CFG.AUTO_REMOVE : Fld := ⟨0x240000, 0, 4, 3, 0x6b⟩

/-! DIA_TIME: Table 14-3 of spec/14_lamp_diagnostics.md. -/
def DIA_TIME.PROBE_INT : Fld := ⟨0x240004, 0, 0, 8, 0x3c1e0a⟩
def DIA_TIME.VERIFY_AGE : Fld := ⟨0x240004, 0, 8, 8, 0x3c1e0a⟩
def DIA_TIME.PIN_INT : Fld := ⟨0x240004, 0, 16, 16, 0x3c1e0a⟩

/-! DIA_STATUS: Table 14-3 of spec/14_lamp_diagnostics.md. -/
def DIA_STATUS.CFG_ERR : Fld := ⟨0x240008, 0, 0, 1, 0⟩
def DIA_STATUS.KIND : Fld := ⟨0x240008, 0, 1, 2, 0⟩
def DIA_STATUS.ROUND : Fld := ⟨0x240008, 0, 3, 1, 0⟩
def DIA_STATUS.PIN_RUN : Fld := ⟨0x240008, 0, 4, 1, 0⟩
def DIA_STATUS.NO_SLOT : Fld := ⟨0x240008, 0, 5, 1, 0⟩

/-! DIA_REMOVED: Table 14-3 of spec/14_lamp_diagnostics.md. -/
def DIA_REMOVED.COUNT : Fld := ⟨0x240030, 0, 0, 21, 0⟩

/-! DIA_PROBE: Table 14-3 of spec/14_lamp_diagnostics.md. -/
def DIA_PROBE.ROWS : Fld := ⟨0x240034, 0, 0, 16, 0⟩
def DIA_PROBE.SKIPPED : Fld := ⟨0x240034, 0, 16, 16, 0⟩

/-! DIA_CNT: Table 14-3 of spec/14_lamp_diagnostics.md. -/
def DIA_CNT.COUNT : Fld := ⟨0x240010, 4, 0, 21, 0⟩

/-! DIA_PIN_LAST: Table 14-3 of spec/14_lamp_diagnostics.md. -/
def DIA_PIN_LAST.TIME : PairReg := ⟨0x240038, 0, 0⟩

/-! DIA_ROW_LAST: Table 14-3 of spec/14_lamp_diagnostics.md. -/
def DIA_ROW_LAST.TIME : Fld := ⟨0x240100, 4, 0, 32, 0⟩

/-! DIA_STRAND: Table 14-3 of spec/14_lamp_diagnostics.md. -/
def DIA_STRAND.FAULT : Fld := ⟨0x240400, 4, 0, 2, 0⟩
def DIA_STRAND.SELF_RET : Fld := ⟨0x240400, 4, 2, 1, 0⟩
def DIA_STRAND.PART_RET : Fld := ⟨0x240400, 4, 3, 1, 0⟩
def DIA_STRAND.PARTNER : Fld := ⟨0x240400, 4, 16, 9, 0⟩

/-! MEM_CFG: Table 15-7 of spec/15_memory.md. -/
def MEM_CFG.WIDE : Fld := ⟨0x280000, 0, 0, 1, 0x3400815⟩
def MEM_CFG.MAP : Fld := ⟨0x280000, 0, 1, 2, 0x3400815⟩
def MEM_CFG.PAGE : Fld := ⟨0x280000, 0, 3, 2, 0x3400815⟩
def MEM_CFG.NRF_P : Fld := ⟨0x280000, 0, 8, 4, 0x3400815⟩
def MEM_CFG.RETRAIN_INT : Fld := ⟨0x280000, 0, 16, 8, 0x3400815⟩
def MEM_CFG.RETRAIN_DT : Fld := ⟨0x280000, 0, 24, 4, 0x3400815⟩

/-! MEM_STATUS: Table 15-7 of spec/15_memory.md. -/
def MEM_STATUS.TRAINED : Fld := ⟨0x280004, 0, 0, 1, 0⟩
def MEM_STATUS.CHANNELS : Fld := ⟨0x280004, 0, 1, 2, 0⟩
def MEM_STATUS.SPEED : Fld := ⟨0x280004, 0, 3, 2, 0⟩
def MEM_STATUS.WIDE_ACT : Fld := ⟨0x280004, 0, 5, 1, 0⟩
def MEM_STATUS.MAP_ACT : Fld := ⟨0x280004, 0, 6, 2, 0⟩
def MEM_STATUS.PANIC : Fld := ⟨0x280004, 0, 8, 4, 0⟩

/-! MEM_SCRUB: Table 15-7 of spec/15_memory.md. -/
def MEM_SCRUB.HOURS : Fld := ⟨0x280010, 0, 0, 8, 0x4018⟩
def MEM_SCRUB.CE_LIMIT : Fld := ⟨0x280010, 0, 8, 8, 0x4018⟩

/-! MEM_ERR_INFO: Table 15-7 of spec/15_memory.md. -/
def MEM_ERR_INFO.PORT : Fld := ⟨0x280028, 0, 0, 3, 0⟩

/-! DECK_CFG: Table 15-7 of spec/15_memory.md. -/
def DECK_CFG.PANIC_AT : Fld := ⟨0x288000, 0, 0, 4, 0x3e80008⟩
def DECK_CFG.SCRUB_MS : Fld := ⟨0x288000, 0, 16, 16, 0x3e80008⟩

/-! DECK_ARB: Table 15-7 of spec/15_memory.md. -/
def DECK_ARB.W_PLANE : Fld := ⟨0x288004, 0, 0, 4, 0x112444⟩
def DECK_ARB.W_OWN : Fld := ⟨0x288004, 0, 4, 4, 0x112444⟩
def DECK_ARB.W_BAY : Fld := ⟨0x288004, 0, 8, 4, 0x112444⟩
def DECK_ARB.W_FIXED : Fld := ⟨0x288004, 0, 12, 4, 0x112444⟩
def DECK_ARB.W_HOST : Fld := ⟨0x288004, 0, 16, 4, 0x112444⟩
def DECK_ARB.W_SCRUB : Fld := ⟨0x288004, 0, 20, 4, 0x112444⟩

/-! DECK_STATUS: Table 15-7 of spec/15_memory.md. -/
def DECK_STATUS.UC_BANKS : Fld := ⟨0x288008, 0, 0, 16, 0⟩
def DECK_STATUS.PANIC : Fld := ⟨0x288008, 0, 16, 1, 0⟩

/-! DECK_ERR_ADDR: Table 15-7 of spec/15_memory.md. -/
def DECK_ERR_ADDR.ADDR : Fld := ⟨0x28800c, 0, 0, 26, 0⟩
def DECK_ERR_ADDR.CLASS : Fld := ⟨0x28800c, 0, 26, 3, 0⟩

/-! MEM_CAP: Table 15-7 of spec/15_memory.md. -/
def MEM_CAP.CAP : PairReg := ⟨0x280008, 0, 0⟩

/-! MEM_ERR_ADDR: Table 15-7 of spec/15_memory.md. -/
def MEM_ERR_ADDR.ADDR : PairReg := ⟨0x280020, 0, 0⟩

/-! MEM_CH_STATUS: Table 15-7 of spec/15_memory.md. -/
def MEM_CH_STATUS.USED : Fld := ⟨0x280100, 0x20, 0, 1, 0⟩
def MEM_CH_STATUS.FAIL : Fld := ⟨0x280100, 0x20, 1, 1, 0⟩
def MEM_CH_STATUS.X8 : Fld := ⟨0x280100, 0x20, 2, 1, 0⟩
def MEM_CH_STATUS.HOT : Fld := ⟨0x280100, 0x20, 3, 1, 0⟩
def MEM_CH_STATUS.MODULES : Fld := ⟨0x280100, 0x20, 4, 2, 0⟩
def MEM_CH_STATUS.RANKS : Fld := ⟨0x280100, 0x20, 6, 4, 0⟩
def MEM_CH_STATUS.TEMP : Fld := ⟨0x280100, 0x20, 16, 8, 0⟩

/-! MEM_CH_CE: Table 15-7 of spec/15_memory.md. -/
def MEM_CH_CE.CE : Fld := ⟨0x280104, 0x20, 0, 32, 0⟩

/-! MEM_CH_UC: Table 15-7 of spec/15_memory.md. -/
def MEM_CH_UC.UC : Fld := ⟨0x280108, 0x20, 0, 16, 0⟩
def MEM_CH_UC.TIMEOUT : Fld := ⟨0x280108, 0x20, 16, 16, 0⟩

/-! MEM_CH_NRF: Table 15-7 of spec/15_memory.md. -/
def MEM_CH_NRF.SAMPLES : Fld := ⟨0x28010c, 0x20, 0, 32, 0⟩

/-! MEM_CH_RETRAIN: Table 15-7 of spec/15_memory.md. -/
def MEM_CH_RETRAIN.DONE : Fld := ⟨0x280110, 0x20, 0, 16, 0⟩
def MEM_CH_RETRAIN.LATE : Fld := ⟨0x280110, 0x20, 16, 16, 0⟩

/-! MEM_ERASE: Table 15-7 of spec/15_memory.md. -/
def MEM_ERASE.VALID : Fld := ⟨0x280114, 0x20, 0, 1, 0⟩
def MEM_ERASE.SC : Fld := ⟨0x280114, 0x20, 1, 1, 0⟩
def MEM_ERASE.RANK : Fld := ⟨0x280114, 0x20, 2, 4, 0⟩
def MEM_ERASE.DEV : Fld := ⟨0x280114, 0x20, 6, 4, 0⟩

/-! MEM_PORT_CFG: Table 15-7 of spec/15_memory.md. -/
def MEM_PORT_CFG.RT : Fld := ⟨0x280200, 4, 0, 1, 0x1080⟩
def MEM_PORT_CFG.IN_PANIC : Fld := ⟨0x280200, 4, 1, 1, 0x1080⟩
def MEM_PORT_CFG.PANIC : Fld := ⟨0x280200, 4, 4, 4, 0x1080⟩
def MEM_PORT_CFG.WEIGHT : Fld := ⟨0x280200, 4, 8, 8, 0x1080⟩

/-! MEM_PORT_STAT: Table 15-7 of spec/15_memory.md. -/
def MEM_PORT_STAT.PANICS : Fld := ⟨0x280240, 4, 0, 16, 0⟩
def MEM_PORT_STAT.OVERFLOW : Fld := ⟨0x280240, 4, 16, 16, 0⟩

/-! DECK_ECC: Table 15-7 of spec/15_memory.md. -/
def DECK_ECC.CE : Fld := ⟨0x288100, 4, 0, 16, 0⟩
def DECK_ECC.UC : Fld := ⟨0x288100, 4, 16, 16, 0⟩

/-! LDG_CFG: Table 16-5 of spec/16_ledgers.md. -/
def LDG_CFG.EN : Fld := ⟨0x2c0000, 0, 0, 8, 0x1ff⟩
def LDG_CFG.REPAIR : Fld := ⟨0x2c0000, 0, 8, 1, 0x1ff⟩

/-! LDG_STATUS: Table 16-5 of spec/16_ledgers.md. -/
def LDG_STATUS.IMBAL : Fld := ⟨0x2c0004, 0, 0, 8, 0⟩

/-! LDG_SPAN_SEL: Table 16-5 of spec/16_ledgers.md. -/
def LDG_SPAN_SEL.PORT : Fld := ⟨0x2c0200, 0, 0, 4, 0⟩
def LDG_SPAN_SEL.VC : Fld := ⟨0x2c0200, 0, 4, 2, 0⟩

/-! LDG_SPAN_BOOK: Table 16-5 of spec/16_ledgers.md. -/
def LDG_SPAN_BOOK.HELD : Fld := ⟨0x2c0204, 0, 0, 9, 0⟩
def LDG_SPAN_BOOK.OUT : Fld := ⟨0x2c0204, 0, 16, 9, 0⟩

/-! LDG_SPAN_SLOT: Table 16-5 of spec/16_ledgers.md. -/
def LDG_SPAN_SLOT.FREE : Fld := ⟨0x2c0208, 0, 0, 9, 0⟩
def LDG_SPAN_SLOT.USED : Fld := ⟨0x2c0208, 0, 16, 9, 0⟩

/-! LDG_SPAN_AGE: Table 16-5 of spec/16_ledgers.md. -/
def LDG_SPAN_AGE.AGE : Fld := ⟨0x2c020c, 0, 0, 16, 0⟩

/-! LDG_HANDLE_PAGES: Table 16-5 of spec/16_ledgers.md. -/
def LDG_HANDLE_PAGES.USED : Fld := ⟨0x2c0300, 0, 0, 32, 0⟩

/-! LDG_HANDLE_REF: Table 16-5 of spec/16_ledgers.md. -/
def LDG_HANDLE_REF.REFSUM : Fld := ⟨0x2c0304, 0, 0, 32, 0⟩

/-! LDG_HANDLE_BOOK: Table 16-5 of spec/16_ledgers.md. -/
def LDG_HANDLE_BOOK.BOOKSUM : Fld := ⟨0x2c0308, 0, 0, 32, 0⟩

/-! LDG_LAYER_PAGES: Table 16-5 of spec/16_ledgers.md. -/
def LDG_LAYER_PAGES.PAGES : Fld := ⟨0x2c030c, 0, 0, 32, 0⟩

/-! LDG_FRAME_STATE: Table 16-5 of spec/16_ledgers.md. -/
def LDG_FRAME_STATE.PENDING : Fld := ⟨0x2c0420, 0, 0, 1, 0⟩

/-! LDG_CTX: Table 16-5 of spec/16_ledgers.md. -/
def LDG_CTX.FREE : Fld := ⟨0x2c0500, 0, 0, 12, 0xc00⟩

/-! LDG_CTX_BOOKED: Table 16-5 of spec/16_ledgers.md. -/
def LDG_CTX_BOOKED.PAGES : Fld := ⟨0x2c0504, 0, 0, 32, 0⟩

/-! LDG_CTX_ALLOC: Table 16-5 of spec/16_ledgers.md. -/
def LDG_CTX_ALLOC.PAGES : Fld := ⟨0x2c0508, 0, 0, 32, 0⟩

/-! LDG_BACK: Table 16-5 of spec/16_ledgers.md. -/
def LDG_BACK.BANDS : Fld := ⟨0x2c0600, 0, 0, 10, 0⟩
def LDG_BACK.CONFIRMED : Fld := ⟨0x2c0600, 0, 16, 10, 0⟩

/-! LDG_BACK_SWAP: Table 16-5 of spec/16_ledgers.md. -/
def LDG_BACK_SWAP.SWAP_UNCONF : Fld := ⟨0x2c0604, 0, 0, 16, 0⟩

/-! LDG_LEASE: Table 16-5 of spec/16_ledgers.md. -/
def LDG_LEASE.HOLDER : Fld := ⟨0x2c0700, 0, 0, 12, 0⟩
def LDG_LEASE.GAP : Fld := ⟨0x2c0700, 0, 16, 8, 0⟩

/-! LDG_LEASE_CNT: Table 16-5 of spec/16_ledgers.md. -/
def LDG_LEASE_CNT.TWO : Fld := ⟨0x2c0704, 0, 0, 16, 0⟩
def LDG_LEASE_CNT.REFUSED : Fld := ⟨0x2c0704, 0, 16, 16, 0⟩

/-! LDG_FW: Table 16-5 of spec/16_ledgers.md. -/
def LDG_FW.ACTIVE : Fld := ⟨0x2c0800, 0, 0, 2, 0⟩

/-! LDG_AUDIT: Table 16-5 of spec/16_ledgers.md. -/
def LDG_AUDIT.AUDITS : Fld := ⟨0x2c0100, 8, 0, 32, 0⟩

/-! LDG_FAIL: Table 16-5 of spec/16_ledgers.md. -/
def LDG_FAIL.FAILS : Fld := ⟨0x2c0104, 8, 0, 16, 0⟩
def LDG_FAIL.REPAIRS : Fld := ⟨0x2c0104, 8, 16, 16, 0⟩

/-! LDG_ACCEPTED: Table 16-5 of spec/16_ledgers.md. -/
def LDG_ACCEPTED.ACCEPTED : PairReg := ⟨0x2c0400, 0, 0⟩

/-! LDG_PRESENTED: Table 16-5 of spec/16_ledgers.md. -/
def LDG_PRESENTED.PRESENTED : PairReg := ⟨0x2c0408, 0, 0⟩

/-! LDG_UNSHOWN: Table 16-5 of spec/16_ledgers.md. -/
def LDG_UNSHOWN.UNSHOWN : PairReg := ⟨0x2c0410, 0, 0⟩

/-! LDG_RETIRED: Table 16-5 of spec/16_ledgers.md. -/
def LDG_RETIRED.RETIRED : PairReg := ⟨0x2c0418, 0, 0⟩

/-! LDG_ISSUED: Table 16-5 of spec/16_ledgers.md. -/
def LDG_ISSUED.ISSUED : PairReg := ⟨0x2c0428, 0, 0⟩

/-! RED_CFG: Table 17-6 of spec/17_redundancy.md. -/
def RED_CFG.KEY_EN : Fld := ⟨0x2e0000, 0, 0, 1, 0xc8c80310⟩
def RED_CFG.KEY_IDX : Fld := ⟨0x2e0000, 0, 1, 2, 0xc8c80310⟩
def RED_CFG.QUORUM : Fld := ⟨0x2e0000, 0, 3, 2, 0xc8c80310⟩
def RED_CFG.FENCE : Fld := ⟨0x2e0000, 0, 8, 4, 0xc8c80310⟩
def RED_CFG.GRACE : Fld := ⟨0x2e0000, 0, 16, 8, 0xc8c80310⟩
def RED_CFG.CLAIM_GAP : Fld := ⟨0x2e0000, 0, 24, 8, 0xc8c80310⟩

/-! RED_VOTE_CFG: Table 17-6 of spec/17_redundancy.md. -/
def RED_VOTE_CFG.WAIT : Fld := ⟨0x2e0004, 0, 0, 16, 0x6400c8⟩
def RED_VOTE_CFG.TOL : Fld := ⟨0x2e0004, 0, 16, 16, 0x6400c8⟩

/-! RED_STATUS: Table 17-6 of spec/17_redundancy.md. -/
def RED_STATUS.LEADER : Fld := ⟨0x2e0020, 0, 0, 2, 0⟩
def RED_STATUS.AGREE : Fld := ⟨0x2e0020, 0, 2, 3, 0⟩

/-! RED_VOTE_CNT: Table 17-6 of spec/17_redundancy.md. -/
def RED_VOTE_CNT.DISAGREE : Fld := ⟨0x2e0024, 0, 0, 16, 0⟩
def RED_VOTE_CNT.NOQUORUM : Fld := ⟨0x2e0024, 0, 16, 16, 0⟩

/-! RED_FOREIGN: Table 17-6 of spec/17_redundancy.md. -/
def RED_FOREIGN.FOREIGN : Fld := ⟨0x2e0028, 0, 0, 16, 0⟩

/-! RED_KEY: Table 17-6 of spec/17_redundancy.md. -/
def RED_KEY.NODE : Fld := ⟨0x2e0010, 4, 0, 12, 0⟩

/-! RED_SEG_CFG: Table 17-6 of spec/17_redundancy.md. -/
def RED_SEG_CFG.EN : Fld := ⟨0x2e0100, 0x20, 0, 1, 0⟩
def RED_SEG_CFG.PREF : Fld := ⟨0x2e0100, 0x20, 1, 1, 0⟩
def RED_SEG_CFG.SEG : Fld := ⟨0x2e0100, 0x20, 8, 8, 0⟩
def RED_SEG_CFG.GROUP : Fld := ⟨0x2e0100, 0x20, 16, 8, 0⟩

/-! RED_SEG_ENDS: Table 17-6 of spec/17_redundancy.md. -/
def RED_SEG_ENDS.END_A : Fld := ⟨0x2e0104, 0x20, 0, 12, 0⟩
def RED_SEG_ENDS.END_B : Fld := ⟨0x2e0104, 0x20, 16, 12, 0⟩

/-! RED_SEG_PIERS: Table 17-6 of spec/17_redundancy.md. -/
def RED_SEG_PIERS.PIERS : Fld := ⟨0x2e0108, 0x20, 0, 12, 0⟩

/-! RED_SEG_STATUS: Table 17-6 of spec/17_redundancy.md. -/
def RED_SEG_STATUS.STATE : Fld := ⟨0x2e010c, 0x20, 0, 3, 0⟩
def RED_SEG_STATUS.LAST : Fld := ⟨0x2e010c, 0x20, 3, 1, 0⟩
def RED_SEG_STATUS.PORT : Fld := ⟨0x2e010c, 0x20, 4, 4, 0⟩
def RED_SEG_STATUS.HOLDER : Fld := ⟨0x2e010c, 0x20, 16, 12, 0⟩

/-! RED_SEG_EPOCH: Table 17-6 of spec/17_redundancy.md. -/
def RED_SEG_EPOCH.EPOCH : Fld := ⟨0x2e0110, 0x20, 0, 32, 0⟩

/-! RED_SEG_ACK: Table 17-6 of spec/17_redundancy.md. -/
def RED_SEG_ACK.ACKS : Fld := ⟨0x2e0114, 0x20, 0, 12, 0⟩
def RED_SEG_ACK.MISS : Fld := ⟨0x2e0114, 0x20, 16, 8, 0⟩

/-! RED_SEG_RENEW: Table 17-6 of spec/17_redundancy.md. -/
def RED_SEG_RENEW.FRAME : Fld := ⟨0x2e0118, 0x20, 0, 32, 0⟩

/-! BAY_STATUS: Table 1-5 of spec/01_architecture.md. -/
def BAY_STATUS.KIND : Fld := ⟨0x300000, 0x1000, 0, 4, 0⟩
def BAY_STATUS.STATE : Fld := ⟨0x300000, 0x1000, 4, 4, 0⟩
def BAY_STATUS.IN_ROTATION : Fld := ⟨0x300000, 0x1000, 8, 1, 0⟩

/-! BAY_ERR: Table 1-6 of spec/01_architecture.md. -/
def BAY_ERR.ENG_FAULT : Fld := ⟨0x300004, 0x1000, 0, 1, 0⟩
def BAY_ERR.LSRAM_UC : Fld := ⟨0x300004, 0x1000, 1, 1, 0⟩
def BAY_ERR.DECK_UC : Fld := ⟨0x300004, 0x1000, 2, 1, 0⟩
def BAY_ERR.OVERRUN : Fld := ⟨0x300004, 0x1000, 3, 1, 0⟩
def BAY_ERR.WDOG : Fld := ⟨0x300004, 0x1000, 4, 1, 0⟩

/-! BAY_LOAD: Table 1-7 of spec/01_architecture.md. -/
def BAY_LOAD.BUSY : Fld := ⟨0x300008, 0x1000, 0, 16, 0⟩

/-! BAY_SHARE: Table 1-7 of spec/01_architecture.md. -/
def BAY_SHARE.SHARE : Fld := ⟨0x30000c, 0x1000, 0, 8, 0⟩

end Sys2Proof.Machine
end

