-- ==== Sys2Proof/Machine/State.lean ====
section
/-! DEFINITION. The state of the device as plain data: the register file (every register of Table 22-2),
the memories, and what each function holds beyond its registers. A register field is the home of what its
table says it holds; the structures below hold only what the chapters describe and no register shows. -/

namespace Sys2Proof.Machine

/-! ### What leaves the device -/

/-- A plane shown in a slot: its bit, whether at 1/16 range, BLANK fall and rise in ticks from the slot start, and for each
strand of the fan what was shifted, first bit first (R327). -/
structure PlaneOut where
  bit  : Nat
  low  : Bool
  fall : Nat
  rise : Nat
  data : List (List Bool)
deriving DecidableEq, Repr

/-- What the device sends or answers; `State.out` lists it, newest first (the model's own record). -/
inductive Output where
  /-- The bytes that a read through a path returns (R5, R29, R45). -/
  | readData (p : Path) (bytes : List Byte)
  /-- The MSI-X message of a vector (R59). -/
  | msix (vec : Nat)
  /-- A DATA plank leaving a span port, with its CRC-32C (R178, R180). -/
  | dataPlank (k : Nat) (x : Plank) (crc : Word)
  /-- A LINK plank (R181). -/
  | linkPlank (k : Nat) (l : LinkPlank) (crc : Word)
  /-- A CAP plank (R183). -/
  | capPlank (k : Nat) (c : CapInfo) (crc : Word)
  /-- A STEP plank (Table 7-7). -/
  | stepPlank (k op rate arg : Nat) (taps : List Nat) (crc : Word)
  /-- A TIME plank (Table 8-6). -/
  | timePlank (k src : Nat) (t : TimeInfo) (crc : Word)
  /-- One transmitted line bit of a lane flipped (R193). -/
  | flippedBit (lane : Nat)
  /-- From now on one line bit in every 2^(rate + 10) of a lane is flipped; none with rate 0 (R193). -/
  | flippedRate (lane rate : Nat)
  /-- From now on a lane sends a test pattern, PRBS_SEL, in place of its blocks; its blocks again with 0 (R192). -/
  | pattern (lane sel : Nat)
  /-- A row slot with the strands lit: the row, the levels of the SCAN outputs from DEAD to the slot's end (R332), and for each
  direct-mode fan its planes (R335). -/
  | rowSlot (row scan : Nat) (fans : List (Nat × List PlaneOut))
  /-- A diagnostic slot that shows a plane of FN_DIA (R380, R382): the row, the levels of SCAN, and for each direct-mode fan its
  plane at 1/16 range. -/
  | diagSlot (row scan : Nat) (fans : List (Nat × PlaneOut))
  /-- The configuration sequence of R330 on a fan: word 0, and word 1 on a memory fan. -/
  | sinkConfig (fan word0 : Nat) (word1 : Option Nat)
  /-- SYNC and the frame write on a memory-mode fan: its planes, rows from 0 on, bits 15 to 0 of each row, for the 32 strands of
  the fan (R345, R346). -/
  | sync (fan : Nat) (planes : List (List (List Bool)))
  /-- An IGMPv3 source-specific join or leave of a flow (R105). -/
  | igmp (port dst src : Nat) (leave : Bool)
  /-- An answer to ARP for a port's own address (R105). -/
  | arpReply (port ip : Nat)
  /-- A Delay_Req of FN_PTP on a port, with its number (R106). -/
  | delayReq (port seq : Nat)
  /-- An ancillary data packet copied to the host's ring of a receiver (R101). -/
  | ancillary (receiver : Nat) (bytes : List Byte)
  /-- A WAKE plank of Table 18-5 on a port. -/
  | wakePlank (k target key : Nat)
deriving DecidableEq, Repr

/-! ### Host control (spec/02_host_control.md) -/

/-- Where a fetched command stands: held by R52 or FENCE or AT_TIME, started, or running at its function. -/
inductive Phase where
  | waiting | started | running
deriving DecidableEq, Repr

/-- A fetched command that has not completed (Table 2-5); `id` tells it from every other command fetched: a command whose
port was closed runs on under its own number while a later one has its queue, tag and slot (R521, R53). -/
structure Cmd where
  id        : Nat
  q         : Nat
  tag       : Nat
  slot      : Nat
  opcode    : Nat
  flags     : Nat
  startTime : Nat
  payAddr   : Nat
  payLen    : Nat
  operands  : List Byte
  phase     : Phase
  late      : Bool
  dropped   : Bool
  aborts    : List (Nat × Nat)
  since     : Nat
  note      : Nat
deriving DecidableEq, Repr

/-- A completion record before it is posted (Table 2-6). -/
structure Completion where
  q      : Nat
  tag    : Nat
  slot   : Nat
  status : Nat
  late   : Bool
  result : List Byte
deriving DecidableEq, Repr

/-- An event as raised: code, wall time, bytes 16–31 of its record (R57). -/
structure Event where
  code   : Nat
  time   : Nat
  detail : List Byte
deriving DecidableEq, Repr

/-- What Jeori keeps of a queue beyond its registers: completions posted since it was enabled (write
position and PHASE, R50) and whether ENABLE was cleared and waits for fetched commands (R49). -/
structure QueueSt where
  posted   : Nat
  draining : Bool
deriving DecidableEq, Repr

/-- An event ring: records written since it was enabled, next SEQ, whether events are being lost (R58),
the events a tollhouse restart holds for the port and how many came beyond 256 (R520). -/
structure RingSt where
  written : Nat
  seq     : Nat
  losing  : Bool
  held    : List Event
  excess  : Nat
deriving DecidableEq, Repr

/-- A command not yet fetched that an accepted CMD_ABORT discards when it is fetched (R55). -/
structure Discard where
  q      : Nat
  slot   : Nat
  aborts : List (Nat × Nat)
deriving DecidableEq, Repr

/-- Host control: pair snapshots and staged halves per path (R6), host memory behind port 0 and the two
areas (R518), queues, rings, fetched commands and how many have been fetched, notification state. -/
structure HostSt where
  snaps          : Sparse Word
  staged         : Sparse Word
  mem            : Memory
  area           : Memory
  queues         : Sparse QueueSt
  rings          : Sparse RingSt
  cmds           : List Cmd
  fetched        : Nat
  discards       : List Discard
  lastServed     : Nat
  msixSent       : List Nat
  remoteNotified : Bool
  refusedNodes   : List Nat
  untilRing      : List Event
  heldDone       : List Completion
deriving DecidableEq, Repr

/-! ### The function table and the bays (spec/01_architecture.md) -/

/-- A decision accepted under R60 and not yet used: function, PERIOD, the decision's bytes. -/
structure Decision where
  fn     : Nat
  period : Nat
  bytes  : List Byte
deriving DecidableEq, Repr

/-- The function table beyond FNT_CTRL and FNT_STATUS: modes sampled at the last close (R36), decisions
held, the last decision of each function (R38), whether the tollhouse is restarting (R30), when each reset in progress
began, the functions and periods whose deadline has passed without a decision and has not been counted (R38). -/
structure FntSt where
  sampled    : Sparse Bool
  decisions  : List Decision
  last       : Sparse (List Byte)
  restarting : Bool
  resets     : Sparse Nat
  missed     : List (Nat × Nat)
deriving DecidableEq, Repr

/-- A bay beyond its registers: the INSTANCE and the hash of its kernel in force (empty for none), whether it has loaded and
joins at the next frame start (R87), the share in force (R22), whether its work of this frame is late (R23), how many pieces
of work it was given in this frame (R22). -/
structure BaySt where
  kernel  : Nat
  hash    : List Byte
  joining : Bool
  share   : Nat
  late    : Bool
  given   : Nat
deriving DecidableEq, Repr

/-! ### Spans (spec/07_span_links.md) -/

/-- A plank waiting for a VC of an output port, with the receive slot it holds (port and slot number,
R198), the time it began to wait, and whether a retrain keeps it (R205). -/
structure TxItem where
  plank : Plank
  slot  : Option (Nat × Nat)
  since : Nat
  kept  : Bool
deriving DecidableEq, Repr

/-- A used receive slot: its number and VC, how many output copies and local deliveries still hold it,
and when it was filled (R194, R198). -/
structure RxSlot where
  id    : Nat
  vc    : Nat
  left  : Nat
  since : Nat
deriving DecidableEq, Repr

/-- One VC of a port as a sender (R194 to R197): the queue, what awaits an ACK, what a running replay
still has to resend, the next LSEQ, the FREED value last reported by the far end, replay timeouts without
progress, and when progress was last made. -/
structure TxVc where
  queue    : List TxItem
  unacked  : List Plank
  replay   : List Plank
  replayAck : Option Nat
  lseq     : Nat
  freed    : Nat
  timeouts : Nat
  progress : Nat
deriving DecidableEq, Repr

/-- One VC of a port as a receiver: the next LSEQ expected, slots freed since the port came up, whether
a NAK flag stands, whether a discard since the last acceptance has already set it (R196). -/
structure RxVc where
  expect  : Nat
  freed   : Nat
  nak     : Bool
  refused : Bool
deriving DecidableEq, Repr

/-- A rate-ladder step in progress (R184): its rate, since when it runs, this end's eye check and
vote, the far end's vote, the deadline of a vote held in ASSIST, the host's decision, whether it repeats
the check of a lower rate after a failure (R185). -/
structure Step where
  rate     : Nat
  since    : Nat
  eye      : Option Bool
  vote     : Option Bool
  far      : Option Bool
  deadline : Option Nat
  fallback : Bool
deriving DecidableEq, Repr

/-- A span port beyond its registers. `proposed` says that this end has sent PROPOSE for the next step and `farStep` is the
rate that the far end has proposed (R184). `timeAt` are the times at which the VC3 planks still in their buffer came (R195).
`dry` is when the last VC1 credit was spent and `linkAt` when the last LINK plank came (Table 16-1). -/
structure PortSt where
  since      : Nat
  capSent    : Bool
  capSeenOut : Bool
  capGot     : Bool
  capSeenIn  : Bool
  lastCap    : Option Nat
  farRate    : Nat
  farWidth   : Nat
  step       : Option Step
  proposed   : Bool
  farStep    : Option Nat
  tx0        : TxVc
  tx1        : TxVc
  tx2        : TxVc
  rx0        : RxVc
  rx1        : RxVc
  rx2        : RxVc
  slots      : List RxSlot
  nextSlot   : Nat
  recent     : List Nat
  sinceTime  : Nat
  timeDue    : Bool
  linkDue    : Bool
  control    : List Output
  stalling   : Bool
  injCrc     : List Nat
  timeAt     : List Nat
  injLink    : Bool
  replays    : Nat
  uncorr     : Nat
  uncorrAt   : List Nat
  bad        : Nat
  everUp     : Bool
  dry        : Nat
  linkAt     : Nat
deriving DecidableEq, Repr

/-- A PRBS checker: the bits before, newest first, whether it is locked, consecutive correct bits while it is not (R192). -/
structure Checker where
  last : List Bool
  lock : Bool
  run  : Nat
deriving DecidableEq, Repr

/-- A lane beyond its registers: whether a scan runs, whether a START waits for an eye check (R190), the PRBS checker. -/
structure LaneSt where
  scanning : Bool
  waiting  : Bool
  checker  : Checker
deriving DecidableEq, Repr

/-- A port binding in force (Table 3-8). -/
structure Binding where
  first    : Nat
  width    : Nat
  rateMax  : Nat
  footing  : Bool
  bypassEn : Bool
  peer     : Nat
deriving DecidableEq, Repr

/-- The spans: ports and lanes, the bindings in force, the pairs latched in the bypass monitor, when the
span fabric stopped or began to run, whether bypass is in force (R230). -/
structure SpanSt where
  ports    : Sparse PortSt
  lanes    : Sparse LaneSt
  bindings : Sparse Binding
  pairs    : List (Nat × Nat)
  stopped  : Option Nat
  running  : Nat
  bypass   : Bool
  idle     : Bool
deriving DecidableEq, Repr

/-! ### The viaduct (spec/08_viaduct.md) -/

/-- A message that awaits its response (R216): the message, resends made, when it was last sent (none
while 16 others to its destination are unanswered), the command it completes (queue and tag). -/
structure Pending where
  msg   : Msg
  tries : Nat
  sent  : Option Nat
  cmd   : Option (Nat × Nat)
deriving DecidableEq, Repr

/-- A source known to a destination (R216): the last MSG_SEQ values accepted with the response to each. -/
structure Source where
  src  : Nat
  vc   : Nat
  seqs : List (Nat × Option Msg)
  last : Nat
deriving DecidableEq, Repr

/-- A message being put together from its planks (R213). -/
structure Partial where
  port  : Nat
  msg   : Msg
  next  : Nat
deriving DecidableEq, Repr

/-- A device in the master's map (R221, R223). -/
structure NodeSt where
  serial : Nat
  addr   : Nat
  role   : Nat
  proxy  : Nat
  port   : Nat
  ports  : List Nat
  lost   : Bool
  found  : Bool
deriving DecidableEq, Repr

/-- The viaduct: delivered messages that wait for their row, messages awaiting a response, sources known,
partial messages, MSG_SEQ per destination and VC, the last broadcast MSG_SEQ per source and VC, interest
masks per port (streams), what was last announced per port, and the discovery of a master. `moved` says that an ANNOUNCE or LINKS
has come since the master computed routes (R223), `probed` that a first PROBE has come (R220); `owed` are the ports to probe,
`linksOwed` and `searchOwed` the LINKS and the discovery that fell due in a tollhouse restart (R30, R218). -/
structure ViaSt where
  inbox     : List (Nat × Msg)
  pend      : List Pending
  sources   : List Source
  partials  : List Partial
  msgSeq    : Sparse Nat
  bcastSeq  : Sparse Nat
  interest  : Sparse (List Byte)
  announced : Sparse (List Byte)
  announcedAt : Sparse Nat
  steps     : Nat
  nodes     : List NodeSt
  searching : Bool
  quietAt   : Nat
  settle    : Bool
  moved     : Bool
  probed    : Bool
  owed      : List Nat
  linksOwed : Bool
  searchOwed : Bool
  routesSent : Sparse (List Byte)
deriving DecidableEq, Repr

/-! ### Wall time (spec/08_viaduct.md) -/

/-- What a port knows of its neighbour's time (R235 to R237); `sent` counts the TIME planks sent, up to 2. -/
structure TimePort where
  sentSeq   : Nat
  sent      : Nat
  gotTx     : Nat
  gotSeq    : Nat
  gotRx     : Nat
  got       : Bool
  delays    : List Nat
  offer     : Option TimeInfo
  offerAt   : Nat
  rootSeq   : Nat
  rootSeqAt : Nat
  lastSend  : Nat
  lastUse   : Nat
deriving DecidableEq, Repr

/-- Wall time: the count and its 40-bit fraction (R234), the cycles of CLK_PIX counted so far, in which durations are measured, the
servo's accumulator (R239), lock counting (R238), the challenger of R237 and since when it ranks first (16 the device itself),
ROOT_SEQ, when HOLDOVER began, whether no exchange has come since the parent changed, whether the count has just been stepped (R240). -/
structure TimeSt where
  wall      : Nat
  frac      : Nat
  cycles    : Nat
  acc       : Int
  ports     : Sparse TimePort
  good      : Nat
  bad       : Nat
  better    : Option (Nat × Nat)
  rootSeq   : Nat
  rootSeqAt : Nat
  holdSince : Nat
  fresh     : Bool
  stepped   : Bool
deriving DecidableEq, Repr

/-! ### Frame cadence (spec/13_scanout.md) -/

/-- A frame scheduled by an accepted closure (R362) or provisionally (R366): number, start, generation, whether the closure
named a generation held with its hash (R294), whether its commit window has closed, whether it is provisional. -/
structure Sched where
  num   : Nat
  start : Nat
  gen   : Nat
  ok    : Bool
  closed : Bool
  prov  : Bool
deriving DecidableEq, Repr

/-- The cadence of a device: whether it runs (R355), the frame scheduled next, the last closure accepted, the period limits
in force, those written that a close has looked at and those that it took (R370), the cadence settings that a close took
(MODE, LEAD, OFFSET), the frame that the back buffer serves and whether the start of that frame has passed (R364), the
raster: the refresh, the slot, consecutive refreshes with an underrun, one in this refresh, EV_SCAN_UNDERRUN raised, frame
aborted (R367 to R369), standing EV_TIM_FRAME episodes by kind. -/
structure CadSt where
  running  : Bool
  next     : Option Sched
  accepted : Option Nat
  tMin     : Nat
  tNom     : Nat
  tMax     : Nat
  seen     : Nat × Nat × Nat
  soft     : Option (Nat × Nat × Nat)
  set'     : Nat × Nat × Nat
  target   : Nat
  late     : Bool
  refresh  : Nat
  slot     : Nat
  under    : Nat
  underNow : Bool
  underEv  : Bool
  aborted  : Bool
  episodes : List Nat
deriving DecidableEq, Repr

/-- A keystone's own cadence (R356 to R358): the anchor of its latest decision and the frame decided (none before the
first), the newest source stamp since, whether the source is out of limits, the last three stamps. -/
structure KeySt where
  anchor  : Int
  frame   : Option Nat
  stamp   : Option Nat
  srcOut  : Bool
  stamps  : List Nat
deriving DecidableEq, Repr

/-! ### Memories (spec/15_memory.md) -/

/-- The deck and the external memory: data bytes, the addresses of the deck words (in 8-byte words) and of
the lines that read uncorrectable, the reads and writes that R402 poisoned in this frame (port, line, whether a
write), per bank of a rank when its next refresh falls due and per rank how many it owes, per rank its last retrain,
the temperature then and since when a retrain is due, the ranks reported by EV_MEM_RETRAIN_LATE, per channel when
EV_MEM_UC was last raised, the corrected symbols of each device in the hour, the hour, the LFSRs of R399, the
temperature of each module and when it was last read, WIDE and MAP as the last device reset took them (R414), whether VDDQ failed
and the memory is to be trained again (R451). A rank is 16 × channel + 8 × module + rank, a device
has the number 512 × channel + 256 × subchannel + 16 × rank + its place. -/
structure MemSt where
  deck      : Memory
  ext       : Memory
  deckBad   : List Nat
  extBad    : List Nat
  poison    : List (Nat × Nat × Bool)
  due       : Sparse Nat
  owed      : Sparse Nat
  retrained : Sparse Nat
  retrainT  : Sparse Nat
  dueAt     : Sparse Nat
  overdue   : List Nat
  ucAt      : Sparse Nat
  ceHour    : Sparse Nat
  hour      : Nat
  lfsr      : Sparse Nat
  temps     : Sparse Nat
  sensedAt  : Nat
  wide      : Bool
  map'      : Nat
  lost      : Bool
deriving DecidableEq, Repr

/-! ### The bit-stream (spec/03_bitstream.md) -/

/-- A partition in force (Table 3-6), BASE and SIZE in units of 4 KiB. -/
structure Part where
  kind : Nat
  ext  : Bool
  inst : Nat
  base : Nat
  size : Nat
deriving DecidableEq, Repr

/-- A kernel held in KSTORE (R76): INSTANCE, KIND, section hash, byte offset in the partition, length. -/
structure Kernel where
  inst : Nat
  kind : Nat
  hash : List Byte
  off  : Nat
  len  : Nat
deriving DecidableEq, Repr

/-- A BAYMAP entry in force (Table 3-4). -/
structure BayEnt where
  kind   : Nat
  kernel : Nat
deriving DecidableEq, Repr

/-- FN_CFG: what is in force, the stage's TOTAL_LEN, the VERIFY that runs, the APPLY that waits (command, START_TIME, taken at the
last close), the bays that reload and the wall time of the frame start at which the load took effect, whether automatic
loading is still to run (R91). -/
structure CfgSt where
  parts    : List Part
  kernels  : List Kernel
  entries  : Sparse BayEnt
  total    : Nat
  verify   : Option (Nat × Nat)
  apply    : Option (Nat × Nat)
  startAt  : Option Nat
  taken    : Bool
  reload   : List Nat
  at'      : Nat
  auto     : Bool
deriving DecidableEq, Repr

/-! ### Decoder (spec/09_decoder.md) -/

/-- A picture of a column: its counter, its slot of the context (R257), its geometry, the rows decoded with their taint, the
blocks by picture block row × 32 + block column. -/
structure Pic where
  cnt     : Nat
  slot    : Nat
  colW    : Nat
  lastRow : Nat
  rowH    : Option Nat
  deep    : Bool
  rows    : Sparse Bool
  blocks  : Sparse (List Int)
deriving DecidableEq, Repr

/-- A taint episode (R263): the PIC_CNT and cause that began it, the PIC_CNT of its latest cause, the events
raised in it, a request that waits for a source, frames since the last request point, the first clean
picture closed since the latest cause. -/
structure Episode where
  pic0     : Nat
  cause0   : Nat
  latest   : Nat
  damaged  : Bool
  missing  : Bool
  owed     : Bool
  frames   : Nat
  clean    : Option Nat
deriving DecidableEq, Repr

/-- A slice being assembled (R256): the next TAG, the bytes so far. -/
structure Assembly where
  next  : Nat
  bytes : List Byte
deriving DecidableEq, Repr

/-- A decoder context (R249 to R257): `pages` are the pages of REF it takes (R254), `prev` the pictures before the held one,
newest first. -/
structure Ctx where
  state    : Nat
  stream   : Nat
  w        : Nat
  h        : Nat
  cap      : Nat
  used     : Nat
  src      : Option Nat
  asm      : Option Assembly
  overflow : Bool
  cur      : Option Pic
  held     : Option Pic
  prev     : List Pic
  pages    : List Nat
  ep       : Option Episode
deriving DecidableEq, Repr

/-- A whole slice that waits for a slice decoder or is in one: context, bytes, in decode or not, the bay. -/
structure SliceIn where
  ctx     : Nat
  bytes   : List Byte
  running : Bool
  bay     : Nat
deriving DecidableEq, Repr

/-- The decoder: contexts by number, slices in order of arrival. -/
structure DecSt where
  ctxs   : Sparse Ctx
  slices : List SliceIn
deriving DecidableEq, Repr

/-! ### Composition (spec/10_composition.md) -/

/-- A descriptor generation held (R271 to R274): number, DESC_HASH, layer table, local block, the slot and
use count bound for each handle layer, whether a load bars its presentation (R300). -/
structure Gen where
  num   : Nat
  hash  : List Byte
  table : List Byte
  loc   : List Byte
  binds : List (Nat × Nat × Nat)
  barred : Bool
deriving DecidableEq, Repr

/-- A buffer handle's slot (R286 to R288): NAME, size, format, use count, write count, live, whether references hold its
space, its first page, pages and LAYER partition. -/
structure Handle where
  name   : Nat
  w      : Nat
  h      : Nat
  fmt    : Nat
  uses   : Nat
  writes : Nat
  live   : Bool
  space  : Bool
  page   : Nat
  pages  : Nat
  part   : Nat
deriving DecidableEq, Repr

/-- The chosen input of a layer (R290): a picture counter, a write count of a slot, or hidden. -/
inductive Choice where
  | pic (cnt : Nat)
  | buf (slot writes : Nat)
  | hidden
deriving DecidableEq, Repr

/-- The record of a composed band (R289): generation, the input of each layer it used, the parapet SEQ,
whether it read a tainted row, the words at the signature point in raster order. -/
structure Band where
  gen    : Nat
  inputs : List (Nat × Choice)
  seq    : Nat
  taint  : Bool
  words  : List Nat
deriving DecidableEq, Repr

/-- The parapet shown (R284, R285). -/
structure Parapet where
  seq  : Nat
  kind : Nat
  x    : Nat
  y    : Nat
  w    : Nat
  h    : Nat
  pix  : List Byte
deriving DecidableEq, Repr

/-- The composer: generations held oldest first, the one in force, handle slots, the LUT store by slot of
CMP_LUT_CRC, the parapet accepted last and those fixed for the frame, the chosen inputs of the target frame
and of the frame before, whether the ready point has passed, the generation that the target's closure names, the bands of
the back buffer, handles used by the presented frame, standing episodes, the mask of the last decision (R298); while the
target is late (R364), the inputs fixed for the frame after it, and the generation of a late back buffer that was confirmed
before a later closure brought another into force. `need`: the streams that the frame last swapped in needs, if any. -/
structure CmpSt where
  gens      : List Gen
  inForce   : Option Nat
  newest    : Option Nat
  slots     : Sparse Handle
  lut       : Sparse (List Byte)
  parapet   : Option Parapet
  shown     : Option Parapet
  chosen    : Sparse Choice
  before    : Sparse Choice
  ready     : Bool
  named     : Option Nat
  bands     : Sparse Band
  presented : List Nat
  lateEp    : List Nat
  sigEp     : List Nat
  hide      : Option Nat
  after     : Option (Sparse Choice)
  need      : Option (List Nat)
  kept      : Option Gen
deriving DecidableEq, Repr

/-! ### Correction (spec/11_correction.md) -/

/-- A held patch (R318) with the queue and the number of its command. -/
structure Patch where
  q     : Nat
  id    : Nat
  image : Nat
  off   : Nat
  bytes : List Byte
deriving DecidableEq, Repr

/-- FN_COR: the settings that the last close took (TARGET, RAMP, DITHER and the 15 seam gains; none before the first), the
values fixed for the frame in composition (R313), patches held, the image whose load is under way and its command, the images
completed since EV_COR_READY, whether COR_OUTSIDE is to be recounted. -/
structure CorSt where
  soft    : List Nat
  frame   : Nat
  kf      : List Nat
  seams   : List Nat
  dither  : Nat
  removed : List Nat
  patches : List Patch
  loading : Bool
  closing : Option (Nat × Nat)
  fresh   : Nat
  recount : Bool
deriving DecidableEq, Repr

/-! ### Strands and temperatures (spec/12_strand_drive.md) -/

/-- One fan of the hard timing set. -/
structure FanHard where
  mode  : Nat
  cols  : Nat
  word0 : Nat
  word1 : Nat
deriving DecidableEq, Repr

/-- The hard timing set (R326). -/
structure HardSet where
  k       : Nat
  diag    : Bool
  tref    : Nat
  rows    : Nat
  pol     : Nat
  dead    : Nat
  p       : Nat
  pwMin   : Nat
  settle  : Nat
  uLimit  : Nat
  phaseMax : Nat
  fans    : List FanHard
deriving DecidableEq, Repr

/-- What the plane engine and FN_STR keep: the hard set in force (k 0 before the first), the one taken for the
next frame start with its unit and the fans that R336 places in hybrid drive, those of the set in force, the host's
drive request and the phases and codes taken at the last close, the phases in force, the trim command with the fans
still to do and the fan being trimmed since when, SYNC times, fans whose TE has risen since and rises counted,
standing TE and echo episodes, the mismatches of the refresh, consecutive refreshes with and without one, the ball
neighbours that explain every mismatched bit, fans whose read-back is retried, the next fan to read back, refreshes
since a read-back, why the strands are dark: transition frame, brown-out, a reset of FN_STR, strands stopped (P2 and below,
VDDIO_STR absent, recovery), and STR_STRAND_EN, STR_BROWN_BLANK and TE_WIN as the last frame start took them (R347). -/
structure StrSt where
  hard      : HardSet
  next      : Option HardSet
  nextU     : Nat
  nextHyb   : Nat
  need      : Nat
  hostHyb   : Nat
  phaseNext : List Nat
  codeNext  : List Nat
  phases    : List Nat
  trims     : List Nat
  trimCmd   : Option (Nat × Nat)
  trim      : Option (Nat × Nat)
  syncAt    : Sparse Nat
  teRise    : List Nat
  teCount   : Sparse Nat
  teEp      : List Nat
  echoEp    : List Nat
  echoNow   : List Nat
  echoRun   : Sparse Nat
  echoNone  : Sparse Nat
  echoCand  : Sparse (List Nat)
  sinkRetry : List Nat
  readFan   : Nat
  refreshes : Nat
  trans     : Bool
  brown     : Bool
  rst       : Bool
  off       : Bool
  strands   : List Nat
  brownOn   : Bool
  teWin     : Nat
deriving DecidableEq, Repr

/-- FN_THERM: the settings that the last close took (KNEE, SLOPE, FLOOR, IREF_FLOOR, STEP; none before the first), the last
samples of each fan (1/16 °C), faults, knee states, when the junction fell below TJ_STOP − TJ_HYST, the targets d_t of the last
decision, hardware's own in HW mode (R38). -/
structure ThermSt where
  soft    : List Nat
  samples : Sparse (List Int)
  faults  : List Nat
  above   : List Nat
  stopped : Bool
  coolAt  : Option Nat
  resume  : Bool
  host    : List Nat
deriving DecidableEq, Repr

/-! ### Lamp diagnostics (spec/14_lamp_diagnostics.md) -/

/-- What the slot before showed, for the flags that the next one loads (R375): the row, the use (0 content, 1
probe, 2 to 4 the patterns Z, E and D), the lamps that qualified. -/
structure SlotShown where
  row   : Nat
  use   : Nat
  lamps : List Nat
deriving DecidableEq, Repr

/-- A pin test (R382): begun, frames left, patterns shown so far, whether a load of the row was discarded, the lamps
flagged in the row under Z, E and D. -/
structure PinTest where
  begun  : Bool
  frames : Nat
  shown  : Nat
  bad    : Bool
  z      : List Nat
  e      : List Nat
  d      : List Nat
deriving DecidableEq, Repr

/-- FN_DIA: the lamp table (Table 14-1) of the lamps whose byte is not zero, CMD_DIA_REMOVE commands held for the
next frame start, lamps to remove automatically, the pin test and the commands that joined it, rows left in the
probe round, when rounds, epochs and pin tests were last looked for, rows asked for by the decision of the
frame and by that of the next, what the slot before showed, changes to report, when REMOVED last changed without having been
saved, whether NO_SLOT has been reported, when each row was last probed. -/
structure DiaSt where
  lamps     : Sparse Nat
  ops       : List (Nat × Nat)
  removing  : List Nat
  pin       : Option PinTest
  joined    : List (Nat × Nat)
  round     : List Nat
  roundAt   : Nat
  epochAt   : Nat
  pinAt     : Nat
  asked     : List Nat
  askAll    : Bool
  askNext   : List Nat × Bool
  shown     : Option SlotShown
  entered   : Nat
  left      : Nat
  lapsed    : Nat
  lowest    : Option Nat
  unsaved   : Option Nat
  noSlotEp  : Bool
  lastProbe : Sparse Nat
deriving DecidableEq, Repr

/-! ### Ingest (spec/04_ingest.md) -/

/-- A source frame in the frame synchroniser: its number in its source, its start in wall ticks, its format (4:4:4 or
4:2:2, RGB, 12 bits, BT.2020), its rows as received (none for a sample that has not come), whether it is closed and whether it
is complete. -/
structure SrcFrame where
  num    : Nat
  stamp  : Nat
  width  : Nat
  height : Nat
  full   : Bool
  rgb    : Bool
  deep   : Bool
  wide   : Bool
  time   : Nat
  rows   : Sparse (List (Option Nat))
  closed : Bool
  whole  : Bool
deriving DecidableEq, Repr

/-- A source: SDI receiver i, or flow k as 32 + k. The format locked, its frames (newest first, at most three), the number
of the next complete frame, the measured frame period, when its last packet came, whether it is lost, whether a format
refusal has been reported, whether the newest frame's start has been reported. -/
structure Feed where
  fmt      : Option SdiFormat
  frames   : List SrcFrame
  next     : Nat
  period   : Nat
  lastSeen : Nat
  lost     : Bool
  refused  : Bool
  reported : Bool
deriving DecidableEq, Repr

/-- A playback (R116): queue and number of its command, the clip's base in bytes, LOOP, the next picture, whether it has begun. -/
structure Play where
  q    : Nat
  id   : Nat
  base : Nat
  loop : Bool
  next : Nat
  on   : Bool
deriving DecidableEq, Repr

/-- A layer of an abutment: the ING_LAYER_SRC word in force, whether the host has written it since, whether BACKUP is
taken, the frame it reads (with the source it came from), frames repeated since its source was lost, whether the loss has
been reported, whether it shows black, its playback. -/
structure IngLayer where
  word    : Nat
  rebind  : Bool
  backup  : Bool
  frame   : Option SrcFrame
  from'   : Nat
  held    : Nat
  lossEp  : Bool
  black   : Bool
  play    : Option Play
deriving DecidableEq, Repr

/-- A PTP exchange with the master of a port (R106): the number of its Sync, when that was sent (none until the Follow_Up of a
two-step master) and received, the number of the Delay_Req and when it left. -/
structure PtpTrip where
  port : Nat
  seq  : Nat
  t1   : Option Int
  t2   : Int
  req  : Nat
  t3   : Option Int
deriving DecidableEq, Repr

/-- Ingest: sources and layers, the ING_FLOW, ING_SDI_CFG and ING_ETH_CFG words in force for sources in use (R118), flows
joined, and the PTP clock of FN_PTP: its time in units of 1/(3 × 2^40) ns, the frequency correction in parts per 2^40,
whether it has been set, the exchange in progress, the number of the next Delay_Req, the pair (PTP time, wall time) of the last
frame start. -/
structure IngSt where
  sources : Sparse Feed
  layers  : Sparse IngLayer
  words   : Sparse Nat
  joined  : List Nat
  ptp     : Nat
  ptpRate : Int
  ptpSet  : Bool
  trip    : Option PtpTrip
  nextReq : Nat
  pair    : Nat × Nat
deriving DecidableEq, Repr

/-! ### Encoder (spec/06_encoder.md) -/

/-- A picture that a layer encodes: PIC_CNT and REF_CNT, size, whether its streams start with it, whether every slice is intra,
its phase, the source frame (none: black) with the complete frame before it, its scaling (R301), SLICE mode, the slice rows whose
missing rows come from the frame before, the columns forced by a decision; from its first slice on the ENC settings in force (P,
QP_INIT, QP_MIN, QP_MAX, TARGET, PEAK, BUCKET) and, with FN_RATE in ASSIST, the host's QPs as QP and first row (R163, R169). -/
structure EncPic where
  cnt    : Nat
  refc   : Nat
  width  : Nat
  height : Nat
  fresh  : Bool
  intra  : Bool
  phase  : Nat
  src    : Option SrcFrame
  before : Option SrcFrame
  scale  : List Nat
  slice  : Bool
  torn   : Sparse (List Nat)
  forced : List Nat
  fixed  : Bool
  set'   : List Nat
  host   : Option (List (Nat × Nat))
deriving DecidableEq, Repr

/-- A slice allocated (R150): its picture, its number j in the stream, its row, blocks, QP, cap, fill and bucket, whether it must
be intra and whether that is by R148, R166 or R167, what it is (0 coded, 1 all-tail, 2 all SKIP: the fill slices of R168; 3 a
stored slice of a clip, as `bytes`), the slice encoder that has it as 16 × bay + number (256: none), the bits of each block as the
ENC kernel coded it once the encoder is done, f after it once it has been handed on. -/
structure EncSlice where
  pic    : EncPic
  idx    : Nat
  row    : Nat
  n      : Nat
  qp     : Nat
  cap    : Nat
  fill   : Nat
  bkt    : Nat
  intra  : Bool
  must   : Bool
  kind   : Nat
  bytes  : List Byte
  enc    : Nat
  blocks : Option (List (List Bool))
  after  : Option Nat
deriving DecidableEq, Repr

/-- The ring of reference rows of a slice encoder (R153): the picture row of its first row, and its rows, each 256 samples of Y,
of Co and of Cg. -/
structure Ring where
  top  : Int
  rows : List (List Int)
deriving DecidableEq, Repr

/-- A stream: f after the last slice handed on, the last slices allocated (oldest first: the eight before the next and
every one not handed on), the number j of the next slice, its row, the picture in which a floor switch stands, whether the column
is forced in this picture, the complexity records by PIC_CNT × 512 + row, the QPs last used by row, refresh rows carried from an
overrun, the reconstructions of the picture handed on last and of the one before it by PIC_CNT (blocks by picture block row × 32 +
block column), the next plank sequence. -/
structure EncStream where
  f      : Nat
  slices : List EncSlice
  count  : Nat
  row    : Nat
  floor  : Option Nat
  forced : Bool
  recs   : Sparse Nat
  qps    : Sparse Nat
  carry  : List Nat
  recon  : Sparse (Sparse (List Int))
  tag    : Nat
deriving DecidableEq, Repr

/-- A layer of the encoder: whether its streams run, whether the next picture starts them afresh, the picture in progress
and the one that waits, PIC_CNT of the next picture and the one after the last emitted, the phase, the size of the last picture,
pictures begun, when the last forced refresh of each column began (in pictures), forced refreshes scheduled with the command that
asked for each (none for a request), streams whose refresh request was reported in this picture, the picture whose overrun was
last reported, scaling values in force, whether the picture of the wall frame has opened. -/
structure EncLayer where
  on      : Bool
  start   : Bool
  pic     : Option EncPic
  waiting : Option EncPic
  next    : Nat
  last    : Nat
  phase   : Nat
  size    : Nat × Nat
  begun   : Nat
  forced  : Sparse Nat
  asked   : List (Nat × Option (Nat × Nat))
  told    : List Nat
  overrun : Option Nat
  scale   : Option (List Nat)
  opened  : Bool
deriving DecidableEq, Repr

/-- The encoder: layers, streams by stream ID, the QP entries of the frame in ASSIST (layer, QP, first row), the forced
columns of the frame in ASSIST (layer, mask), stream-pictures with a floor switch in this frame and the last, the rings of the
slice encoders as the slices handed on last left them, by 16 × bay + number. -/
structure EncSt where
  layers  : Sparse EncLayer
  streams : Sparse EncStream
  qps     : List (Nat × Nat × Nat)
  columns : List (Nat × Nat)
  floors  : Nat
  floorsLast : Nat
  rings   : Sparse Ring
deriving DecidableEq, Repr

/-! ### Redundancy (spec/17_redundancy.md) -/

/-- A closure or a proposal (Table 17-1). -/
structure Closure where
  key     : Nat
  frame   : Nat
  start   : Nat
  gen     : Nat
  hash    : Nat
  adopted : Bool
deriving DecidableEq, Repr

/-- An entry of RED_SEG_CFG beyond its registers: the view of the lease (0 NONE, 1 HELD, 2 EXPIRED), the last renewed
frame R, the start of frame R + 4, the frame at which
the end that held the lease last claims, when CLAIM_GAP ends, PIC of the last lease plank received, the highest EPOCH
seen, whether a lease plank has been received, acknowledgements of this frame and the frame they name, the node that waits
for a RELEASE, whether the entry has stood enabled at a frame start, whether EV_RED_NO_ACK has been raised. -/
structure SegSt where
  view    : Nat
  frame   : Nat
  due     : Option Nat
  claimAt : Option Nat
  gap     : Option Nat
  pics    : Option (List Nat)
  seen    : Nat
  heard   : Bool
  acks    : Nat
  named   : Nat
  release : Option Nat
  used    : Bool
  noAck   : Bool
deriving DecidableEq, Repr

/-- A handover that this end drives (R439): command, entry, when HANDOVER_REQ went out (in frame numbers), the frame of
the claim once made. -/
structure Handover where
  q     : Nat
  id    : Nat
  seg   : Nat
  sent  : Nat
  claim : Option Nat
deriving DecidableEq, Repr

/-- FN_RED: entries, closures held that have not been accepted, the last ones accepted (newest first), keystones in a standing
episode of disagreement, a keystone's own decision with the moment at which its vote ends, proposals received,
the closure that waits for its issue, the handover in progress, the senders of the VC1 planks accepted in this frame. -/
structure RedSt where
  segs     : Sparse SegSt
  closures : List Closure
  accepted : List Closure
  differ   : List Nat
  own      : Option (Closure × Nat)
  issue    : Option Closure
  props    : List Closure
  handover : Option Handover
  senders  : List Nat
deriving DecidableEq, Repr

/-! ### Power (spec/18_power_startup.md) -/

/-- FN_PWR: the supplies that crossed WARN in the episode that stands, the lowest voltage of each in it (mV), VDDQ and
VDDIO_STR while they have not returned after crossing RESET, the device reset under way (cause and supply), whether the DRAM
went into self-refresh for it, CORE_EN, whether this frame has counted in PWR_BROWN.FRAMES, whether the safe image
waits for first light, when the band-gap was last checked, the bays that wait to be ungated and when the last one was (R502). -/
structure PwrSt where
  warned  : List Nat
  lowest  : Sparse Nat
  down    : List Nat
  hold    : Option (Nat × Nat)
  kept    : Bool
  coreEn  : Bool
  blanked : Bool
  safe    : Bool
  checked : Nat
  ungate  : List Nat
  ungated : Option Nat
deriving DecidableEq, Repr

/-! ### Firmware (spec/19_firmware_update.md) -/

/-- An image being received: the port, IMG_HASH, IMAGE_LEN. -/
structure FwuRx where
  port : Nat
  hash : List Byte
  len  : Nat
deriving DecidableEq, Repr

/-- An offer on a port: the slot offered, whether it was accepted, whether END is out, the next chunk to send, CHUNK
messages unanswered, BUSY answers so far, when the next retry is due. -/
structure FwuOffer where
  slot   : Nat
  taken  : Bool
  ended  : Bool
  next   : Nat
  unans  : Nat
  tries  : Nat
  retry  : Option Nat
deriving DecidableEq, Repr

/-- FN_FWU: whether the ROM has chosen since the tollhouse last stopped, when the running firmware started, the image
received, offers by port, the CMD_FWU_FORWARD in progress (queue, tag, ports that took the image), whether a CMD_FWU_WRITE
sequence is open and for which IMAGE_LEN, when RECOVER_REQ last went out. -/
structure FwuSt where
  started : Bool
  since   : Nat
  rx      : Option FwuRx
  offers  : Sparse FwuOffer
  fwd     : Option (Nat × Nat × Nat)
  writing : Option Nat
  reqAt   : Nat
deriving DecidableEq, Repr

/-! ### Ledgers (spec/16_ledgers.md) -/

/-- FN_LDG: the instances that failed the last audit of their quantity (quantity, instance), whether the audit of the
frame in progress has run, when an audit last ran, whether VC1 planks of two senders were accepted since the last audit, the
frame number last issued, ISSUED less that number as the last audit found it while a cadence ran. -/
structure LdgSt where
  failed  : List (Nat × Nat)
  audited : Bool
  last    : Nat
  two     : Bool
  issued  : Nat
  base    : Option Nat
deriving DecidableEq, Repr

/-! ### Pins and fuses -/

/-- Fuses, loaded into their registers at device reset (R10). -/
structure Fuses where
  rev       : Nat
  serial    : Nat
  owner     : List Byte
  svn       : Nat
  revoke    : Nat
  fwSvn     : Nat
  relay     : Bool
  relayPairs : List (Nat × Nat)
  parapet   : List Byte
deriving DecidableEq, Repr

/-- Pins that a device samples: straps (R10), the sensed strand supply, which pairs of REFCLK_LANE run, the PCIe width,
GPIO levels from outside. -/
structure Pins where
  hostSel   : Nat
  ftId      : Nat
  vio33     : Bool
  laneRef   : Nat
  pcieWidth : Nat
  gpio      : Word
deriving DecidableEq, Repr

/-! ### Boundary scan (spec/21_electrical.md) -/

/-- The states of the TAP controller of IEEE 1149.1 (R499). -/
inductive TapState where
  | testLogicReset | runTestIdle
  | selectDr | captureDr | shiftDr | exit1Dr | pauseDr | exit2Dr | updateDr
  | selectIr | captureIr | shiftIr | exit1Ir | pauseIr | exit2Ir | updateIr
deriving DecidableEq, Repr

/-- The TAP (R499): its controller, whether the boundary register drives the balls (EXTEST), and the levels that its cells hold, by
ball (61 × row + column of R496). Lanes have cells of IEEE 1149.6; the reference clocks, IREF, THERM, THERMD, SUP_SENSE and
LANE_RCAL have none. No row of the table clocks it, and TRST_N, pulled to VSS (Table 21-7), holds it in reset (log entry 158). -/
structure TapSt where
  state  : TapState
  extest : Bool
  cells  : Sparse Bool
deriving DecidableEq, Repr

/-! ### The whole device -/

/-- The state of the device. -/
structure State where
  /-- The commands that wait, first in, first out. -/
  pending : List Instr
  /-- Every register written since reset, by byte address; unlisted registers hold their reset value. -/
  regs    : Sparse Word
  host    : HostSt
  fnt     : FntSt
  bays    : Sparse BaySt
  span    : SpanSt
  via     : ViaSt
  time    : TimeSt
  cad     : CadSt
  key     : KeySt
  mem     : MemSt
  cfg     : CfgSt
  dec     : DecSt
  cmp     : CmpSt
  cor     : CorSt
  str     : StrSt
  therm   : ThermSt
  dia     : DiaSt
  ing     : IngSt
  enc     : EncSt
  red     : RedSt
  pwr     : PwrSt
  fwu     : FwuSt
  ldg     : LdgSt
  /-- The boot flash (R467); an unlisted byte is erased, 0xFF. -/
  flash   : Memory
  fuses   : Fuses
  pins    : Pins
  tap     : TapSt
  /-- What has left the device, newest first. -/
  out     : List Output
  /-- How many free values have been drawn (the model's own counter). -/
  drawn   : Nat
deriving DecidableEq, Repr

/-! ### Why a step stops -/

/-- Why the block stops on its own: no rule of the spec stops it, so there is no fault. -/
inductive Fault
deriving DecidableEq, Repr

/-- Why a command has no meaning. -/
inductive Refusal where
  /-- Raised by the dispatcher for a row that has no meaning yet. Safe: the machine stops. -/
  | notModelled (mnemonic : String)
deriving DecidableEq, Repr

/-! ### After reset -/

/-- An empty send side of a VC. -/
def TxVc.reset : TxVc := ⟨[], [], [], none, 0, 0, 0, 0⟩

/-- An empty receive side of a VC. -/
def RxVc.reset : RxVc := ⟨0, 0, false, false⟩

/-- A span port after reset. -/
def PortSt.reset : PortSt :=
  { since := 0, capSent := false, capSeenOut := false, capGot := false, capSeenIn := false, lastCap := none,
    farRate := 0, farWidth := 0, step := none, proposed := false, farStep := none, timeAt := [],
    tx0 := TxVc.reset, tx1 := TxVc.reset, tx2 := TxVc.reset,
    rx0 := RxVc.reset, rx1 := RxVc.reset, rx2 := RxVc.reset,
    slots := [], nextSlot := 0, recent := [], sinceTime := 32, timeDue := false, linkDue := false,
    control := [], stalling := false, injCrc := [], injLink := false, replays := 0, uncorr := 0,
    uncorrAt := [], bad := 0, everUp := false, dry := 0, linkAt := 0 }

/-- A lane after reset. -/
def LaneSt.reset : LaneSt := ⟨false, false, ⟨[], false, 0⟩⟩

/-- An unused port binding. -/
def Binding.none : Binding := ⟨0, 0, 0, false, false, 0⟩

/-- A queue after reset. -/
def QueueSt.reset : QueueSt := ⟨0, false⟩

/-- An event ring after reset. -/
def RingSt.reset : RingSt := ⟨0, 0, false, [], 0⟩

/-- A bay after reset: no kernel, gated. -/
def BaySt.reset : BaySt := ⟨0xFFFF, [], false, 0, false, 0⟩

/-- What a port knows of time after reset. -/
def TimePort.reset : TimePort := ⟨0, 0, 0, 0, 0, false, [], Option.none, 0, 0, 0, 0, 0⟩

/-- The fuses of a part with no owner, no default pairs and no parapet key. The spec gives fuses no value: DESIGN CHOICE. -/
def Fuses.blank : Fuses :=
  { rev := 0, serial := 0, owner := List.replicate 48 0, svn := 0, revoke := 0, fwSvn := 0, relay := false,
    relayPairs := [], parapet := List.replicate 48 0 }

/-- The default pairs fused at board test, if any (R457). -/
def Fuses.pairs (f : Fuses) : List (Nat × Nat) := if f.relay then f.relayPairs else []

/-- Straps: PCIe and SPI port enabled, footing keystone, 1.8 V strands, every lane reference, PCIe x8. DESIGN CHOICE: the board sets them. -/
def Pins.board : Pins := { hostSel := 3, ftId := 0, vio33 := false, laneRef := 15, pcieWidth := 2, gpio := 0 }

/-- Word `k` of a fused hash, its octets most significant first. -/
def hashWord (h : List Byte) (k : Nat) : Nat := beNat (bytesAt h (4 * k) 4)

/-- The registers whose value after a device reset comes from a fuse, a strap, their index, or the reset itself: the
cause and the supply of PWR_RESET_LOG (R10, R453, R487). -/
def bootWords (f : Fuses) (p : Pins) (cause supply : Nat) : List (Nat × Nat) :=
  [(0x4, f.rev), (0x8, f.serial % 2 ^ 32), (0xC, f.serial / 2 ^ 32),
    (0x10, p.hostSel + 4 * p.ftId + 32 * b2n p.vio33), (0x20000, p.hostSel + 16 * p.pcieWidth),
    (0x30000, 0x30 + 64 * b2n (f.owner.all (· = 0)))] ++
  (List.range 12).map (fun k => (0x30060 + 4 * k, hashWord f.owner k)) ++
  [(0x300A0, f.svn), (0x300A4, f.revoke)] ++
  (List.range 8).flatMap (fun u => [(0x40000 + 0x40 * u, 0x101A0),
    (0x40008 + 0x40 * u, if u = 3 ∨ u = 4 then 0x04C11DB7 else 0x1EDC6F41)]) ++
  [(0x50004, cause + 16 * supply), (0x50014, 2 * b2n f.relay), (0x60030, f.fwSvn)] ++
  (List.range 12).map (fun k => (0x180320 + 4 * k, hashWord f.parapet k)) ++
  [(0x200000, b2n p.vio33), (0x280200, 0x1081), (0x280204, 0x1081), (0x28020C, 0x1081)]

/-- The register file after a device reset. -/
def bootRegs (f : Fuses) (p : Pins) (cause supply : Nat) : Sparse Word :=
  (bootWords f p cause supply).foldl (fun m e => Sparse.set m e.1 (BitVec.ofNat 32 e.2)) []

/-- The timing set that the reset values of the STR registers spell, with no fan in use. -/
def HardSet.reset : HardSet :=
  { k := 10, diag := false, tref := 156250, rows := 16, pol := 0, dead := 180, p := 12, pwMin := 12, settle := 120,
    uLimit := 0, phaseMax := 0, fans := List.replicate 16 ⟨0, 128, 3520, 0⟩ }

/-- The tollhouse starts after a device reset: its work waits until it runs (R462). -/
def FntSt.reset : FntSt := { sampled := [], decisions := [], last := [], restarting := true, resets := [], missed := [] }

/-- Host control after reset. -/
def HostSt.reset : HostSt :=
  { snaps := [], staged := [], mem := [], area := [], queues := [], rings := [], cmds := [], fetched := 0, discards := [], lastServed := 23,
    msixSent := [], remoteNotified := false, refusedNodes := [], untilRing := [], heldDone := [] }

/-- The viaduct after reset. -/
def ViaSt.reset : ViaSt :=
  { inbox := [], pend := [], sources := [], partials := [], msgSeq := [], bcastSeq := [], interest := [], announced := [],
    announcedAt := [], steps := 0, nodes := [], searching := false, quietAt := 0, settle := false, moved := false,
    probed := false, owed := [], linksOwed := false, searchOwed := false, routesSent := [] }

/-- Wall time before the root PLL locks. -/
def TimeSt.reset : TimeSt :=
  { wall := 0, frac := 0, cycles := 0, acc := 0, ports := [], good := 0, bad := 0, better := none, rootSeq := 0, rootSeqAt := 0, holdSince := 0,
    fresh := false, stepped := false }

/-- No frame cadence, the period limits at their reset values. -/
def CadSt.reset : CadSt :=
  { running := false, next := none, accepted := none, tMin := 10000000, tNom := 10000000, tMax := 10400000,
    seen := (10000000, 10000000, 10400000), soft := none, set' := (0, 600000, 1200000), target := 0, late := false,
    refresh := 0, slot := 0, under := 0, underNow := false, underEv := false, aborted := false, episodes := [] }

/-- A keystone's cadence after reset. -/
def KeySt.reset : KeySt := { anchor := 0, frame := none, stamp := none, srcOut := false, stamps := [] }

/-- The memories after reset: nothing written, WIDE and MAP at the reset values of MEM_CFG. -/
def MemSt.reset : MemSt :=
  { deck := [], ext := [], deckBad := [], extBad := [], poison := [], due := [], owed := [], retrained := [], retrainT := [],
    dueAt := [], overdue := [], ucAt := [], ceHour := [], hour := 0, lfsr := [], temps := [], sensedAt := 0, wide := true, map' := 2,
    lost := false }

/-- No bit-stream; automatic loading is still to run (R91). -/
def CfgSt.reset : CfgSt :=
  { parts := [], kernels := [], entries := [], total := 0, verify := none, apply := none, startAt := none, taken := false,
    reload := [], at' := 0, auto := true }

/-- The composer after reset. -/
def CmpSt.reset : CmpSt :=
  { gens := [], inForce := none, newest := none, slots := [], lut := [], parapet := none, shown := none, chosen := [], before := [],
    ready := false, named := none, bands := [], presented := [], lateEp := [], sigEp := [], hide := none,
    after := none, need := none, kept := none }

/-- Correction after reset. -/
def CorSt.reset : CorSt :=
  { soft := [], frame := 0, kf := [], seams := [], dither := 0, removed := [], patches := [], loading := false, closing := none, fresh := 0,
    recount := false }

/-- The strands after reset: stopped. -/
def StrSt.reset : StrSt :=
  { hard := HardSet.reset, next := none, nextU := 0, nextHyb := 0, need := 0, hostHyb := 0, phaseNext := [], codeNext := [],
    phases := [], trims := [], trimCmd := none, trim := none, syncAt := [], teRise := [], teCount := [], teEp := [], echoEp := [],
    echoNow := [], echoRun := [], echoNone := [], echoCand := [], sinkRetry := [], readFan := 0, refreshes := 0, trans := false,
    brown := false, rst := false, off := false, strands := List.replicate 16 0xFFFFFFFF, brownOn := true, teWin := 0x258 }

/-- Temperatures after reset. -/
def ThermSt.reset : ThermSt :=
  { soft := [], samples := [], faults := [], above := [], stopped := false, coolAt := none, resume := false, host := List.replicate 16 32768 }

/-- Lamp diagnostics after reset: every field of the lamp table zero (R386). -/
def DiaSt.reset : DiaSt :=
  { lamps := [], ops := [], removing := [], pin := none, joined := [], round := [], roundAt := 0, epochAt := 0, pinAt := 0,
    asked := [], askAll := false, askNext := ([], false), shown := none, entered := 0, left := 0, lapsed := 0, lowest := none, unsaved := none,
    noSlotEp := false, lastProbe := [] }

/-- Ingest after reset. -/
def IngSt.reset : IngSt :=
  { sources := [], layers := [], words := [], joined := [], ptp := 0, ptpRate := 0, ptpSet := false, trip := none, nextReq := 0,
    pair := (0, 0) }

/-- The supplies are good and CORE_EN is high. -/
def PwrSt.reset : PwrSt :=
  { warned := [], lowest := [], down := [], hold := none, kept := false, coreEn := true, blanked := false, safe := false, checked := 0,
    ungate := [], ungated := none }

/-- Firmware before the ROM has chosen a slot. -/
def FwuSt.reset : FwuSt :=
  { started := false, since := 0, rx := none, offers := [], fwd := none, writing := none, reqAt := 0 }

/-- The fixed bindings of the footing links before any bit-stream is in force (R232). -/
def footingBindings (p : Pins) : Sparse Binding :=
  if p.ftId = 0 then (List.range 7).map fun k => (k, ⟨88 + 4 * k, 1, 3, true, false, 0⟩)
  else [(15, ⟨116, 1, 3, true, false, 0⟩)]

/-- The state right after a device reset of a part with its fuses and pins and its boot flash: EV_PWR_RESET is held with the
cause and the supply (R453). -/
def State.boot (f : Fuses) (p : Pins) (flash : Memory) (cause supply : Nat) : State :=
  { pending := [], regs := bootRegs f p cause supply
    host := { HostSt.reset with untilRing := [⟨0x1903, 0, leBytes 1 cause ++ leBytes 1 supply ++ List.replicate 14 0⟩] }
    fnt := FntSt.reset, bays := []
    span := { ports := [], lanes := [], bindings := footingBindings p, pairs := f.pairs, stopped := some 0,
              running := 0, bypass := false, idle := true }
    via := ViaSt.reset, time := TimeSt.reset, cad := CadSt.reset, key := KeySt.reset, mem := MemSt.reset, cfg := CfgSt.reset
    dec := { ctxs := [], slices := [] }, cmp := CmpSt.reset, cor := CorSt.reset, str := StrSt.reset, therm := ThermSt.reset
    dia := DiaSt.reset, ing := IngSt.reset
    enc := { layers := [], streams := [], qps := [], columns := [], floors := 0, floorsLast := 0, rings := [] }
    red := { segs := [], closures := [], accepted := [], differ := [], own := none, issue := none, props := [], handover := none,
             senders := [] }
    pwr := PwrSt.reset, fwu := FwuSt.reset, ldg := { failed := [], audited := false, last := 0, two := false, issued := 0, base := none }
    flash := flash, fuses := f, pins := p, tap := ⟨.testLogicReset, false, []⟩, out := [], drawn := 0 }

/-- The block right after a power-on reset (CAUSE 0b001), its boot flash erased and no command waiting. -/
def State.reset : State := State.boot Fuses.blank Pins.board [] 1 0

end Sys2Proof.Machine
end

