-- ==== Sys2Proof/Machine/Line.lean ====
section
/-! DEFINITION. What stands on the lanes of a span (R174 to R177, R182, R192): blocks, scrambling, dealing over lanes with
markers, block lock and alignment, the Reed-Solomon check of PAM4 lanes, test patterns. -/

namespace Sys2Proof.Machine

/-! ### Blocks (R174, R175) -/

/-- The sync header of a data block. -/
def dataSync : BitVec 2 := 1
/-- The sync header of a control block. -/
def ctlSync : BitVec 2 := 2

/-- The types of control blocks (Table 7-2). -/
def idleType : Nat := 0x1E
/-- The start of a long plank. -/
def lstartType : Nat := 0xA5
/-- The start of a short plank. -/
def sstartType : Nat := 0xC3
/-- An alignment marker. -/
def markerType : Nat := 0x96

/-- The type of a control block; none for any other block. -/
def blockCtl (b : Block) : Option Nat := if b.sync = ctlSync then some (beAt b.bytes 0 1) else none

/-- A control block of a type. -/
def ctlBlock (t : Nat) (bs : List Byte) : Block := ⟨ctlSync, beBytes 1 t ++ padTo 7 (bs.take 7)⟩

/-- IDLE. -/
def idleBlock : Block := ctlBlock idleType []

/-- MARKER of a lane of a port: lane index, width encoding, marker count. -/
def markerBlock (lane width count : Nat) : Block :=
  ctlBlock markerType (beBytes 1 lane ++ beBytes 1 width ++ beBytes 4 count)

/-- `n` data blocks, filled with zeros after the bytes. -/
def dataBlocks : Nat → List Byte → List Block
  | 0, _ => []
  | n + 1, bs => ⟨dataSync, padTo 8 (bs.take 8)⟩ :: dataBlocks n (bs.drop 8)

/-- The blocks of a plank: 276 bytes as LSTART and 34 data blocks, 20 bytes as SSTART and 2 data blocks (R175). -/
def plankLine (long : Bool) (bs : List Byte) : List Block :=
  ctlBlock (if long then lstartType else sstartType) bs :: dataBlocks (if long then 34 else 2) (bs.drop 7)

/-- The bytes of the first `n` blocks, which must be data blocks; none where one is not. -/
def takeData : Nat → List Block → Option (List Byte)
  | 0, _ => some []
  | _ + 1, [] => none
  | n + 1, b :: bs => if b.sync = dataSync then (takeData n bs).map (padTo 8 (b.bytes.take 8) ++ ·) else none

/-- The plank that blocks of a port's stream carry: whether it is long, and its bytes. MARKERs are taken out first, IDLE before it
is passed over. A block of another type, or an invalid one, in its place discards the plank (R174, R176). -/
def plankIn (l : List Block) : Option (Bool × List Byte) :=
  match (l.filter fun b => blockCtl b ≠ some markerType).dropWhile fun b => blockCtl b = some idleType with
  | [] => none
  | b :: bs =>
    let first := padTo 7 (bytesAt b.bytes 1 7)
    if blockCtl b = some lstartType then (takeData 34 bs).map fun d => (true, first ++ d.take 269)
    else if blockCtl b = some sstartType then (takeData 2 bs).map fun d => (false, first ++ d.take 13)
    else none

/-! ### Scrambling (R174) -/

/-- The 64 bits of a block, each byte least significant bit first. -/
def blockBits (b : Block) : List Bool := (padTo 8 (b.bytes.take 8)).flatMap fun x => (List.range 8).map x.getLsbD

/-- Bits through the self-synchronising scrambler x^58 + x^39 + 1; the state is the last 58 bits sent, newest first. -/
def scramble : List Bool → List Bool → List Bool
  | _, [] => []
  | st, d :: ds =>
    let x := (d ^^ st.getD 38 false) ^^ st.getD 57 false
    x :: scramble ((x :: st).take 58) ds

/-- Bits through the descrambler; its state is the last 58 bits received, newest first. -/
def descramble : List Bool → List Bool → List Bool
  | _, [] => []
  | st, x :: xs => ((x ^^ st.getD 38 false) ^^ st.getD 57 false) :: descramble ((x :: st).take 58) xs

/-! ### Dealing over lanes (R176) -/

/-- How often each lane sends a MARKER, in its own blocks. -/
def markerEvery : Nat := 20480

/-- The blocks of a port's stream that go to one of its `w` lanes. -/
def dealt (w lane : Nat) (stream : List Block) : List Block :=
  (stream.zipIdx.filter fun b => b.2 % w = lane).map (·.1)

/-- A lane's blocks with its MARKERs: `left` blocks stand before the next one, whose count is `count`. -/
def marked (lane width : Nat) : Nat → Nat → List Block → List Block
  | _, _, [] => []
  | 0, count, b :: bs => markerBlock lane width count :: b :: marked lane width (markerEvery - 2) ((count + 1) % 2 ^ 32) bs
  | left + 1, count, b :: bs => b :: marked lane width left count bs

/-- What a lane of a port sends of its stream. -/
def laneLine (w lane width left count : Nat) (stream : List Block) : List Block := marked lane width left count (dealt w lane stream)

/-- The stream that the lanes of a port carry: MARKERs out, block n from lane n mod w. -/
def collected (lanes : List (List Block)) : List Block :=
  let ls := lanes.map fun l => l.filter fun b => blockCtl b ≠ some markerType
  (List.range (ls.map (·.length)).sum).filterMap fun n => (ls.getD (n % ls.length) [])[n / ls.length]?

/-- Lanes can be aligned: their MARKERs stand at most 64 blocks apart. -/
def aligned (ls : List LaneIn) : Bool :=
  ls.all fun a => ls.all fun b => decide (a.marker ≤ b.marker + 64)

/-! ### Block lock (R182) -/

/-- A valid sync header. -/
def headOk (h : BitVec 2) : Bool := decide (h = dataSync) || decide (h = ctlSync)

/-- A receiver's block lock: whether it stands, consecutive valid headers while it does not, the validity of the last 64 headers
while it does, newest first. -/
structure LockRun where
  lock : Bool
  good : Nat
  last : List Bool
deriving DecidableEq, Repr

/-- One sync header: 64 valid ones in a row lock; 16 invalid ones among any 64 end the lock. -/
def LockRun.step (r : LockRun) (h : BitVec 2) : LockRun :=
  if r.lock then
    let l := (headOk h :: r.last).take 64
    if 16 ≤ l.countP (! ·) then ⟨false, 0, []⟩ else { r with last := l }
  else if headOk h then (if 64 ≤ r.good + 1 then ⟨true, 0, []⟩ else { r with good := r.good + 1 })
  else { r with good := 0 }

/-- Whether a receiver with lock has lost it after some sync headers. -/
def unlocks (hs : List (BitVec 2)) : Bool := !(hs.foldl LockRun.step ⟨true, 0, []⟩).lock

/-- Whether a receiver that starts without lock has it after some sync headers. -/
def locks (hs : List (BitVec 2)) : Bool := (hs.foldl LockRun.step ⟨false, 0, []⟩).lock

/-! ### RS(544,514) (R177) -/

/-- Four blocks as one of 257 bits: a 1 and the payloads of four data blocks; else a 0, which of them are data, and the payloads
without the second nibble of the first control block's type, by which no two types differ alone. Its first five bits are
combined with the ninth to thirteenth. -/
def transcode (bs : List Block) : List Bool :=
  let data := bs.map fun b => decide (b.sync = dataSync)
  let l := if data.all id then true :: bs.flatMap blockBits
    else
      let c := data.idxOf false
      false :: data ++ bs.zipIdx.flatMap fun b => if b.2 = c then (blockBits b.1).take 4 ++ (blockBits b.1).drop 8 else blockBits b.1
  (List.zipWith xor (l.take 5) (firstFive l)) ++ l.drop 5
where
  /-- The bits that scramble the first five. -/
  firstFive (l : List Bool) : List Bool := (l.drop 8).take 5

/-- Bits as symbols of 10, the first bit the least significant. -/
def symbolsOf : Nat → List Bool → List Nat
  | 0, _ => []
  | n + 1, l => (l.take 10).foldr (fun b v => b2n b + 2 * v) 0 :: symbolsOf n (l.drop 10)

/-- The codeword of 80 blocks of a PAM4 lane: 20 blocks of 257 bits as 514 symbols, and 30 of parity (R177). -/
def codeword (bs : List Block) : List Nat :=
  let m := symbolsOf 514 ((List.range 20).flatMap fun i => transcode ((bs.drop (4 * i)).take 4))
  rsEncode f10 30 m

/-- The search for the error locator (Berlekamp and Massey): the locator and the one before its last change, lowest coefficient
first, its length, the places since that change and the discrepancy then. -/
structure Locator where
  cur  : List Nat
  old  : List Nat
  len  : Nat
  gap  : Nat
  disc : Nat
deriving DecidableEq, Repr

/-- One syndrome more; `syn` are all of them, `n` is which. -/
def Locator.step (syn : List Nat) (x : Locator) (n : Nat) : Locator :=
  let d := (List.range (x.len + 1)).foldl (fun d i => d ^^^ gfMul f10 (x.cur.getD i 0) (if i ≤ n then syn.getD (n - i) 0 else 0)) 0
  if d = 0 then { x with gap := x.gap + 1 }
  else
    let f := gfMul f10 d (gfPow f10 x.disc 1022)
    let cur := (List.range 31).map fun i => x.cur.getD i 0 ^^^ (if x.gap ≤ i then gfMul f10 f (x.old.getD (i - x.gap) 0) else 0)
    if 2 * x.len ≤ n then ⟨cur, x.cur, n + 1 - x.len, 1, d⟩ else { x with cur := cur, gap := x.gap + 1 }

/-- How many symbols the code corrects in a received codeword: at most 15; none where it is uncorrectable. -/
def corrected (cs : List Nat) : Option Nat :=
  let syn := rsSyndromes f10 30 cs
  if syn.all (· = 0) then some 0
  else
    let x := (List.range 30).foldl (Locator.step syn) ⟨[1], [1], 0, 1, 1⟩
    let roots := (List.range 544).countP fun i => gfEval f10 (gfPow f10 2 ((1023 - i) % 1023)) x.cur.reverse = 0
    if x.len ≤ 15 ∧ roots = x.len then some x.len else none

/-! ### Test patterns (R192) -/

/-- The two taps of a PRBS encoding: x^n + x^m + 1. -/
def prbsTaps (sel : Nat) : Option (Nat × Nat) :=
  match sel with
  | 1 => some (7, 6)
  | 2 => some (9, 5)
  | 3 => some (15, 14)
  | 4 => some (23, 18)
  | 5 => some (31, 28)
  | _ => none

/-- The bit that follows in a pattern; `l` are the bits before, newest first. -/
def prbsNext (t : Nat × Nat) (l : List Bool) : Bool := l.getD (t.1 - 1) false ^^ l.getD (t.2 - 1) false

/-- `n` bits of a pattern from its last bits. -/
def prbsBits (t : Nat × Nat) : Nat → List Bool → List Bool
  | 0, _ => []
  | n + 1, l => let b := prbsNext t l; b :: prbsBits t n ((b :: l).take t.1)

/-- One received bit: the checker after it, and whether the bit was checked and mismatched. Before lock the pattern is predicted
from the bits received, and 64 correct ones lock; from then the checker runs the pattern by itself. -/
def Checker.step (t : Nat × Nat) (x : Checker) (b : Bool) : Checker × Bool × Bool :=
  let p := prbsNext t x.last
  if x.lock then ({ x with last := (p :: x.last).take t.1 }, true, p != b)
  else
    let run := if x.last.length = t.1 ∧ p = b ∧ x.last.any id then x.run + 1 else 0
    ({ last := (b :: x.last).take t.1, lock := decide (64 ≤ run), run := run }, false, false)

/-- Received bits: the checker after them, the checked bits and the mismatched ones. -/
def Checker.feed (t : Nat × Nat) : Checker → List Bool → Checker × Nat × Nat
  | x, [] => (x, 0, 0)
  | x, b :: bs =>
    let (y, checked, wrong) := x.step t b
    let (z, n, e) := Checker.feed t y bs
    (z, n + b2n checked, e + b2n wrong)

/-- The line bits of a lane with LNE_INJ.RATE `k`: one in every 2^(k + 10) is flipped (R193). -/
def flipped (k : Nat) (l : List Bool) : List Bool :=
  l.zipIdx.map fun b => b.1 ^^ (decide (0 < k) && decide ((b.2 + 1) % 2 ^ (k + 10) = 0))

end Sys2Proof.Machine
end

