-- ==== Sys2Proof/Machine/Crc.lean ====
section
/-! DEFINITION. The check-unit computation of R484, the byte order of R485 and the presets of Table 20-1;
the plank CRC-32C of R180 uses the same parameters. -/

namespace Sys2Proof.Machine

/-- The six parameters of a unit (R484). -/
structure CrcParams where
  width  : Nat
  poly   : Nat
  init   : Nat
  xorout : Nat
  refin  : Bool
  refout : Bool
deriving DecidableEq, Repr

/-- The low `n` bits of a number in reverse order (reverse8 and reverse_w of R484). -/
def reverseBits : Nat → Nat → Nat
  | 0, _ => 0
  | n + 1, v => v % 2 * 2 ^ n + reverseBits n (v / 2)

/-- One bit fed to a running value (R484). -/
def crcBit (w poly val bit : Nat) : Nat :=
  let x := (bit + val / 2 ^ (w - 1)) % 2
  let v := val * 2 % 2 ^ w
  if x = 1 then v ^^^ (poly % 2 ^ w) else v

/-- The top `n` bits of a byte fed, most significant first. -/
def crcBits (w poly : Nat) : Nat → Nat → Nat → Nat
  | 0, _, val => val
  | n + 1, b, val => crcBits w poly n b (crcBit w poly val (b / 2 ^ n % 2))

/-- One byte fed (R484). -/
def crcByte (p : CrcParams) (val : Nat) (b : Byte) : Nat :=
  crcBits p.width p.poly 8 (if p.refin then reverseBits 8 b.toNat else b.toNat) val

/-- Bytes fed in order. -/
def crcFeed (p : CrcParams) (val : Nat) (bs : List Byte) : Nat := bs.foldl (crcByte p) val

/-- The result at any moment (R484). -/
def crcResult (p : CrcParams) (val : Nat) : Nat :=
  ((if p.refout then reverseBits p.width val else val) ^^^ p.xorout) % 2 ^ p.width

/-- The number of bytes a CRC occupies (R485). -/
def crcLen (p : CrcParams) : Nat := (p.width + 7) / 8

/-- The bytes of a CRC appended to data (R485). -/
def crcBytes (p : CrcParams) (res : Nat) : List Byte :=
  if p.refout then leBytes (crcLen p) res else beBytes (crcLen p) res

/-- The presets of Table 20-1. -/
def crcPreset : Nat → Option CrcParams
  | 1 => some ⟨32, 0x1EDC6F41, 0xFFFFFFFF, 0xFFFFFFFF, true, true⟩
  | 2 => some ⟨32, 0x04C11DB7, 0xFFFFFFFF, 0xFFFFFFFF, true, true⟩
  | 3 => some ⟨16, 0x1021, 0xFFFF, 0, false, false⟩
  | 4 => some ⟨64, 0x42F0E1EBA9EA3693, 0xFFFFFFFFFFFFFFFF, 0xFFFFFFFFFFFFFFFF, true, true⟩
  | 5 => some ⟨8, 0x07, 0, 0, false, false⟩
  | _ => none

/-- CRC-32C. -/
def crc32cParams : CrcParams := ⟨32, 0x1EDC6F41, 0xFFFFFFFF, 0xFFFFFFFF, true, true⟩

/-- CRC-32. -/
def crc32Params : CrcParams := ⟨32, 0x04C11DB7, 0xFFFFFFFF, 0xFFFFFFFF, true, true⟩

/-- The CRC-32C of bytes, as a number. -/
def crc32c (bs : List Byte) : Nat := crcResult crc32cParams (crcFeed crc32cParams 0xFFFFFFFF bs)

/-- The CRC-32 of bytes, as a number. -/
def crc32 (bs : List Byte) : Nat := crcResult crc32Params (crcFeed crc32Params 0xFFFFFFFF bs)

end Sys2Proof.Machine
end

