-- ==== Sys2Proof/Machine/Ops.lean ====
section
/-! DEFINITION. The named operations over the register file and the memories that every meaning is made
of: fields and pairs of registers, saturating counters, host memory and the two areas, what leaves the
device, wall time. -/

namespace Sys2Proof.Machine

/-! ### Free values -/

/-- The next free value (log entry 2). -/
def State.free (s : State) : Nat := Config.freeValue s.drawn

/-- Count a draw of a free value. -/
def State.draw (s : State) : State := { s with drawn := s.drawn + 1 }

/-! ### Fields of registers -/

/-- A word with the bits `[lo + w − 1 : lo]` replaced. -/
def insertBits (n lo w v : Nat) : Nat := n % 2 ^ lo + v % 2 ^ w * 2 ^ lo + n / 2 ^ (lo + w) * 2 ^ (lo + w)

/-- The register word at an address, its reset value where nothing has written it. -/
def State.word (s : State) (a rst : Nat) : Word := (Sparse.find s.regs a).getD (BitVec.ofNat 32 rst)

/-- A field of instance `i` of a register. -/
def State.fld (s : State) (f : Fld) (i : Nat := 0) : Nat := bits (s.word (f.addr i) f.rst).toNat f.lo f.width

/-- A one-bit field as a boolean. -/
def State.flag (s : State) (f : Fld) (i : Nat := 0) : Bool := s.fld f i = 1

/-- A field read as two's complement (R11). -/
def State.fldS (s : State) (f : Fld) (i : Nat := 0) : Int := sInt f.width (s.fld f i)

/-- Store a register word. -/
def State.setWord (s : State) (a : Nat) (w : Word) : State := { s with regs := Sparse.set s.regs a w }

/-- Set a field of instance `i` of a register; every other field keeps its value. -/
def State.setFld (s : State) (f : Fld) (v : Nat) (i : Nat := 0) : State :=
  s.setWord (f.addr i) (BitVec.ofNat 32 (insertBits (s.word (f.addr i) f.rst).toNat f.lo f.width v))

/-- Set a one-bit field. -/
def State.setFlag (s : State) (f : Fld) (b : Bool) (i : Nat := 0) : State := s.setFld f (b2n b) i

/-- Count in a field that saturates. -/
def State.bump (s : State) (f : Fld) (i : Nat := 0) (n : Nat := 1) : State :=
  s.setFld f (min (s.fld f i + n) (2 ^ f.width - 1)) i

/-- A 64-bit pair as the hardware holds it (R6). -/
def State.pair (s : State) (p : PairReg) (i : Nat := 0) : Nat :=
  (s.word (p.addr i) p.rst).toNat + 2 ^ 32 * (s.word (p.addr i + 4) (p.rst / 2 ^ 32)).toNat

/-- Set both halves of a pair. -/
def State.setPair (s : State) (p : PairReg) (v : Nat) (i : Nat := 0) : State :=
  (s.setWord (p.addr i) (BitVec.ofNat 32 v)).setWord (p.addr i + 4) (BitVec.ofNat 32 (v / 2 ^ 32))

/-! ### Memories of the host ports -/

/-- What a byte of memory that nothing has written reads as (log entry 1). -/
def blank : Byte := 0

/-- The address in the register space at which a port's area begins (R518). -/
def areaBase (p : Nat) : Nat := if p = 1 then 0x28000 else 0x2C000

/-- Bytes of a port's memory: host memory on port 0, the port's 16 KiB area on ports 1 and 2. -/
def State.portRead (s : State) (p a n : Nat) : List Byte :=
  if p = 0 then readBytes blank s.host.mem a n else readBytes blank s.host.area (areaBase p + a) n

/-- Write bytes into the areas of ports 1 and 2, by register-space address. -/
def State.areaWrite (s : State) (a : Nat) (bs : List Byte) : State :=
  { s with host := { s.host with area := writeBytes blank s.host.area a bs } }

/-- Write bytes into a port's memory. -/
def State.portWrite (s : State) (p a : Nat) (bs : List Byte) : State :=
  if p = 0 then { s with host := { s.host with mem := writeBytes blank s.host.mem a bs } }
  else s.areaWrite (areaBase p + a) bs

/-! ### Small things -/

/-- Cycles of CLK_PIX since the device began to run. Every duration is counted in them: a step of the wall count does not
change it (log entry 138). -/
def State.clock (s : State) : Nat := s.time.cycles

/-- Wall time now, in ticks. -/
def State.now (s : State) : Nat := s.time.wall

/-- The stamp of an LSTART block that lies `sub` sixteenths into the present tick (R234). -/
def State.stamp (s : State) (sub : Nat) : Nat := s.time.wall * 16 + sub

/-- Record what leaves the device. -/
def State.emit (s : State) (o : Output) : State := { s with out := o :: s.out }

/-- Whether a tollhouse restart is in progress (R30). -/
def State.restarting (s : State) : Bool := s.fnt.restarting

/-- The state of span port `k`. -/
def State.port (s : State) (k : Nat) : PortSt := Sparse.get PortSt.reset s.span.ports k

/-- Store the state of a span port. -/
def State.setPort (s : State) (k : Nat) (x : PortSt) : State :=
  { s with span := { s.span with ports := Sparse.set s.span.ports k x } }

/-- The binding in force of a span port (R79, R232). -/
def State.binding (s : State) (k : Nat) : Binding := Sparse.get Binding.none s.span.bindings k

/-- The lanes of a WIDTH encoding of Table 3-8. -/
def lanesOf : Nat → Nat
  | 1 => 1
  | 2 => 2
  | 3 => 4
  | 4 => 8
  | _ => 0

/-- The UP state of Table 7-6. -/
def spanUp : Nat := 5

/-- Whether a span port is UP. -/
def State.portUp (s : State) (k : Nat) : Bool := s.fld SPN_STATUS.STATE k = spanUp

/-- The ports `0` to `n − 1` that satisfy a test, lowest first. -/
def portsWhere (n : Nat) (t : Nat → Bool) : List Nat := (List.range n).filter t

/-- A bay's state. -/
def State.bay (s : State) (b : Nat) : BaySt := Sparse.get BaySt.reset s.bays b

/-- Store a bay's state. -/
def State.setBay (s : State) (b : Nat) (x : BaySt) : State := { s with bays := Sparse.set s.bays b x }

/-- A number laid into the bytes of a detail or a result: byte offset, length, value. -/
abbrev ByteField := Nat × Nat × Nat

/-- `n` zero bytes with little-endian fields laid into them (R4). -/
def layBytes (n base : Nat) (fs : List ByteField) : List Byte :=
  fs.foldl (fun bs f =>
    bs.take (f.1 - base) ++ leBytes f.2.1 f.2.2 ++ bs.drop (f.1 - base + f.2.1)) (List.replicate n 0)

/-- The detail of an event, bytes 16 to 31 of its record (R57). -/
def detail (fs : List ByteField) : List Byte := layBytes 16 16 fs

/-- The RESULT of a completion record, bytes 16 to 31 (Table 2-6). -/
def result (fs : List ByteField) : List Byte := layBytes 16 16 fs

end Sys2Proof.Machine
end

