-- ==== Sys2Proof/Machine/Message.lean ====
section
/-! DEFINITION. Planks on their way out: the output queues of the span ports, receive slots, the route of
a unicast plank, messages cut into planks, and the end-to-end rule for those that Table 8-2 answers
(R194 to R200, R213 to R216, R226). -/

namespace Sys2Proof.Machine

/-! ### Planks as bytes -/

/-- Header and payload of a long plank, bytes 0 to 271 (Table 7-3), most significant byte first (R4). -/
def plankBytes (x : Plank) : List Byte :=
  beBytes 1 (x.typ * 16 + x.vc % 4 * 4 + x.rsv % 4) ++ beBytes 1 x.hops ++
  beBytes 3 (x.src * 4096 + x.dst % 4096) ++ beBytes 2 (bits x.rsv 2 4 * 4096 + x.stream % 4096) ++
  beBytes 1 x.flags ++ beBytes 2 (bits x.rsv 6 7 * 512 + x.payload.length) ++
  beBytes 2 x.lseq ++ beBytes 4 x.tag ++ padTo 256 x.payload

/-- The CRC-32C of a long plank (R180). -/
def plankCrc (x : Plank) : Word := BitVec.ofNat 32 (crc32c (plankBytes x))

/-- Bytes 0 to 15 of a short plank of a TYPE: its content from byte 1. -/
def shortBytes (typ : Nat) (content : List Byte) : List Byte :=
  beBytes 1 (typ * 16) ++ padTo 15 content

/-- Bytes 0 to 15 of a LINK plank (Table 7-5). -/
def linkBytes (l : LinkPlank) : List Byte :=
  shortBytes 2 (beBytes 1 (b2n l.nak0 + 2 * b2n l.nak2 + 4 * bits l.rsv 0 6) ++
    beBytes 2 l.ack0 ++ beBytes 2 l.ack2 ++ beBytes 2 (l.freed0 % 4096 + 4096 * bits l.rsv 6 4) ++
    beBytes 2 (l.freed1 % 4096 + 4096 * bits l.rsv 10 4) ++
    beBytes 2 (l.freed2 % 4096 + 4096 * bits l.rsv 14 4) ++ beBytes 2 l.sent1 ++ beBytes 2 (bits l.rsv 18 16))

/-- The CRC-32C of a LINK plank. -/
def linkCrc (l : LinkPlank) : Word := BitVec.ofNat 32 (crc32c (linkBytes l))

/-- The CAP plank that carries a content (R183). -/
def capPlankOf (c : CapInfo) : Plank :=
  { typ := 4, vc := 0, hops := 0, src := 0, dst := 0, stream := 0, flags := 0, lseq := 0, tag := 0, rsv := 0,
    payload := beBytes 2 c.device ++ beBytes 1 c.role ++ beBytes 1 c.rateMax ++ beBytes 1 c.width ++
      beBytes 1 (b2n c.footing + 2 * b2n c.bypassEn + 4 * b2n c.seen) ++ beBytes 1 c.port ++
      beBytes 1 0 ++ beBytes 2 c.node }

/-- The CRC-32C of a CAP plank. -/
def capCrc (c : CapInfo) : Word := plankCrc (capPlankOf c)

/-- Bytes 0 to 15 of a STEP plank (Table 7-7). -/
def stepBytes (op rate arg : Nat) (taps : List Nat) : List Byte :=
  shortBytes 5 (beBytes 1 op ++ beBytes 1 rate ++ beBytes 1 arg ++ taps.flatMap (beBytes 1))

/-- The CRC-32C of a STEP plank. -/
def stepCrc (op rate arg : Nat) (taps : List Nat) : Word := BitVec.ofNat 32 (crc32c (stepBytes op rate arg taps))

/-- Bytes 0 to 15 of a WAKE plank (Table 18-5). -/
def wakeBytes (target key : Nat) : List Byte :=
  shortBytes 6 (beBytes 1 0x5A ++ beBytes 2 (target % 4096) ++ beBytes 3 key)

/-- A stamp in 1/16 tick as the 10 bytes of a TIME plank (R235). -/
def stampBytes (t : Nat) : List Byte := beBytes 8 (t / 16) ++ beBytes 2 (t % 16 * 4096)

/-- The payload of a TIME plank, 48 bytes (Table 8-6). -/
def timeBytes (t : TimeInfo) : List Byte :=
  stampBytes t.tx ++ beBytes 2 t.seq ++ stampBytes t.echoTx ++ beBytes 2 t.echoSeq ++ stampBytes t.echoRx ++
  beBytes 2 t.root ++ beBytes 1 t.rootPri ++
  beBytes 1 (b2n t.locked + 2 * b2n t.holdover + 4 * b2n t.isRoot) ++ beBytes 2 t.steps ++
  beBytes 4 t.rootSeq ++ beBytes 2 t.parent ++ beBytes 2 0

/-- The TIME plank that carries a payload (R212: DST 0x000). -/
def timePlankOf (src : Nat) (t : TimeInfo) : Plank :=
  { typ := 3, vc := 3, hops := 0, src := src, dst := 0, stream := 0, flags := 0, lseq := 0, tag := 0, rsv := 0,
    payload := timeBytes t }

/-- The plank that leaves with an output, and its port, as blocks of the port's stream (R175, R180). -/
def Output.line : Output → Option (Nat × List Block)
  | .dataPlank k x crc => some (k, plankLine true (plankBytes x ++ beBytes 4 crc.toNat))
  | .capPlank k c crc => some (k, plankLine true (plankBytes (capPlankOf c) ++ beBytes 4 crc.toNat))
  | .timePlank k src t crc => some (k, plankLine true (plankBytes (timePlankOf src t) ++ beBytes 4 crc.toNat))
  | .linkPlank k l crc => some (k, plankLine false (linkBytes l ++ beBytes 4 crc.toNat))
  | .stepPlank k op rate arg taps crc => some (k, plankLine false (stepBytes op rate arg taps ++ beBytes 4 crc.toNat))
  | .wakePlank k target key =>
    let bs := wakeBytes target key
    some (k, plankLine false (bs ++ beBytes 4 (crc32c bs)))
  | _ => none

/-! ### Planks from bytes (R178 to R180) -/

/-- The header and the valid payload of a long plank, from its bytes (Table 7-3). -/
def plankOf (bs : List Byte) : Plank :=
  let b0 := beAt bs 0 1
  let len := beAt bs 8 2
  { typ := b0 / 16, vc := b0 / 4 % 4, hops := beAt bs 1 1, src := beAt bs 2 3 / 4096, dst := beAt bs 2 3 % 4096,
    stream := beAt bs 5 2 % 4096, flags := beAt bs 7 1, lseq := beAt bs 10 2, tag := beAt bs 12 4,
    rsv := b0 % 4 + 4 * (beAt bs 5 2 / 4096) + 64 * (len / 512), payload := bytesAt bs 16 (min 256 (len % 512)) }

/-- A LINK plank from its bytes (Table 7-5). -/
def linkOf (bs : List Byte) : LinkPlank :=
  let f := beAt bs 1 1
  { nak0 := f % 2 = 1, nak2 := f / 2 % 2 = 1, ack0 := beAt bs 2 2, ack2 := beAt bs 4 2, freed0 := beAt bs 6 2 % 4096,
    freed1 := beAt bs 8 2 % 4096, freed2 := beAt bs 10 2 % 4096, sent1 := beAt bs 12 2,
    rsv := f / 4 + 64 * (beAt bs 6 2 / 4096) + 1024 * (beAt bs 8 2 / 4096) + 16384 * (beAt bs 10 2 / 4096) + 262144 * beAt bs 14 2 }

/-- The content of a CAP plank from its payload (R183). -/
def capOf (p : List Byte) : CapInfo :=
  let f := beAt p 5 1
  { device := beAt p 0 2, role := beAt p 2 1, rateMax := beAt p 3 1, width := beAt p 4 1, footing := f % 2 = 1,
    bypassEn := f / 2 % 2 = 1, seen := f / 4 % 2 = 1, port := beAt p 6 1, node := beAt p 8 2 }

/-- A stamp in 1/16 tick from its 10 bytes. -/
def stampOf (p : List Byte) (o : Nat) : Nat := 16 * beAt p o 8 + beAt p (o + 8) 2 / 4096

/-- The payload of a TIME plank (Table 8-6). -/
def timeOf (p : List Byte) : TimeInfo :=
  let f := beAt p 37 1
  { tx := stampOf p 0, seq := beAt p 10 2, echoTx := stampOf p 12, echoSeq := beAt p 22 2, echoRx := stampOf p 24,
    root := beAt p 34 2 % 4096, rootPri := beAt p 36 1, locked := f % 2 = 1, holdover := f / 2 % 2 = 1, isRoot := f / 4 % 2 = 1,
    steps := beAt p 38 2, rootSeq := beAt p 40 4, parent := beAt p 44 2 % 4096 }

/-- The taps of a TXREQ (Table 7-7). -/
def tapsAt (bs : List Byte) : Taps := ⟨beAt bs 4 1, beAt bs 5 1, beAt bs 6 1, beAt bs 7 1, beAt bs 8 1⟩

/-- Whether the CRC-32C of a plank passes. -/
def crcGood (long : Bool) (bs : List Byte) : Bool :=
  let n := if long then 272 else 16
  decide (beAt bs n 4 = crc32c (bs.take n))

/-- A STEP plank with an OP, RATE or ARG that Table 7-7 does not list, or a field that is to be 0 and is not. -/
def stepFault (bs : List Byte) : Bool :=
  let op := beAt bs 1 1
  let arg := beAt bs 3 1
  decide (op = 0) || decide (3 < op) || decide (6 < beAt bs 2 1) || decide (beAt bs 9 7 ≠ 0) ||
  (decide (op ≠ 3) && decide (beAt bs 4 5 ≠ 0)) || (decide (op = 1) && decide (arg ≠ 0)) ||
  (decide (op = 2) && decide (1 < arg))

/-- A plank that is discarded and counted in SPN_DROP: a reserved TYPE, a TYPE with the wrong length or VC, a reserved field or
encoding that is not 0, a VC1 plank with DST [11:8] not 0 (R179, R212). -/
def plankFault (long : Bool) (bs : List Byte) : Bool :=
  let x := plankOf bs
  let len := beAt bs 8 2 % 512
  let header := decide (x.rsv ≠ 0) || decide (len = 0) || decide (256 < len)
  let p := x.payload
  match x.typ with
  | 1 => !long || decide (x.vc = 3) || header || (decide (x.vc = 1) && (decide (x.flags % 64 ≠ 0) || decide (255 < x.dst)))
  | 2 => long || decide (x.vc ≠ 0) || decide (x.rsv % 4 ≠ 0) || decide ((linkOf bs).rsv ≠ 0)
  | 3 => !long || decide (x.vc ≠ 3) || header || decide (len ≠ 48) || decide (beAt p 34 2 / 4096 ≠ 0) ||
      decide (beAt p 37 1 / 8 ≠ 0) || decide (beAt p 44 2 / 4096 ≠ 0) || decide (beAt p 46 2 ≠ 0)
  | 4 => !long || decide (x.vc ≠ 0) || header || decide (beAt p 5 1 / 8 ≠ 0)
  | 5 => long || decide (x.vc ≠ 0) || decide (x.rsv % 4 ≠ 0) || stepFault bs
  | 6 => long || decide (x.vc ≠ 0) || decide (x.rsv % 4 ≠ 0) || decide (beAt bs 2 2 / 4096 ≠ 0) || decide (beAt bs 7 9 ≠ 0)
  | _ => true

/-! ### The two sides of a port, by VC -/

/-- The send side of a VC. -/
def PortSt.tx (x : PortSt) (vc : Nat) : TxVc := if vc = 0 then x.tx0 else if vc = 1 then x.tx1 else x.tx2

/-- Replace the send side of a VC. -/
def PortSt.setTx (x : PortSt) (vc : Nat) (t : TxVc) : PortSt :=
  if vc = 0 then { x with tx0 := t } else if vc = 1 then { x with tx1 := t } else { x with tx2 := t }

/-- The receive side of a VC. -/
def PortSt.rx (x : PortSt) (vc : Nat) : RxVc := if vc = 0 then x.rx0 else if vc = 1 then x.rx1 else x.rx2

/-- Replace the receive side of a VC. -/
def PortSt.setRx (x : PortSt) (vc : Nat) (r : RxVc) : PortSt :=
  if vc = 0 then { x with rx0 := r } else if vc = 1 then { x with rx1 := r } else { x with rx2 := r }

/-- The credits a port holds on a VC (SPN_CREDIT_A and _B). -/
def creditFld (vc : Nat) : Fld :=
  if vc = 0 then SPN_CREDIT_A.CR0 else if vc = 1 then SPN_CREDIT_A.CR1 else SPN_CREDIT_B.CR2

/-- The receive slots of a VC (Table 7-9). -/
def slotsOf (vc : Nat) : Nat := if vc = 0 then 56 else if vc = 1 then 455 else if vc = 2 then 113 else 56

/-! ### Receive slots (R198) -/

/-- One output copy or one local delivery of a receive slot has ended; the slot is freed with the last
one, which advances FREED and makes a LINK plank due (R181, R198). -/
def State.releaseSlot (s : State) (slot : Option (Nat × Nat)) : State :=
  match slot with
  | none => s
  | some (k, id) =>
    let x := s.port k
    match x.slots.find? fun r => r.id = id with
    | none => s
    | some r =>
      if 1 < r.left then
        s.setPort k { x with slots := x.slots.map fun c => if c.id = id then { c with left := c.left - 1 } else c }
      else
        let rx := x.rx r.vc
        s.setPort k ({ x with slots := x.slots.filter fun c => c.id ≠ id, linkDue := true }.setRx r.vc
          { rx with freed := (rx.freed + 1) % 4096 })

/-! ### Output queues -/

/-- Queue a plank for an output port. A VC1 copy for a port that is not UP is dropped at once (R199); a
VC0 or VC2 plank waits there up to 1 ms (R200). -/
def State.queuePlank (s : State) (k : Nat) (x : Plank) (slot : Option (Nat × Nat)) : State :=
  if x.vc = 1 ∧ ¬ s.portUp k then (s.bump SPN_VC1_DROP.COUNT k).releaseSlot slot
  else
    let p := s.port k
    let t := p.tx x.vc
    s.setPort k (p.setTx x.vc { t with queue := t.queue ++ [⟨x, slot, s.clock, false⟩] })

/-- The output port of a unicast VC0 or VC2 plank (R226): PORT when UP, else ALT when valid and UP, else
PORT; none without a VALID entry. -/
def State.routePort (s : State) (dst : Nat) : Option Nat :=
  if s.flag VIA_ROUTE.VALID dst then
    let k := s.fld VIA_ROUTE.PORT dst
    let alt := s.fld VIA_ROUTE.ALT dst
    some (if s.portUp k then k else if s.flag VIA_ROUTE.ALT_VALID dst && s.portUp alt then alt else k)
  else none

/-- Send a VC0 or VC2 plank under the route table; without a VALID entry it is discarded and counted. -/
def State.routePlank (s : State) (x : Plank) (slot : Option (Nat × Nat)) : State :=
  match s.routePort x.dst with
  | some k => s.queuePlank k x slot
  | none => (s.bump VIA_CNT_DROP.NOROUTE).releaseSlot slot

/-! ### Messages -/

/-- Where a message goes: the device at the far end of a port, a node, or every node. -/
inductive Dest where
  | neighbour (k : Nat)
  | node (a : Nat)
  | all
deriving DecidableEq, Repr

/-- The device's own address. -/
def State.self (s : State) : Nat := s.fld VIA_SELF.ADDR

/-- A payload cut into segments of at most 256 bytes; at least one (R213). -/
def segments : Nat → List Byte → List (List Byte)
  | 0, bs => [bs]
  | n + 1, bs => if bs.length ≤ 256 then [bs] else bs.take 256 :: segments n (bs.drop 256)

/-- The planks of a message (Table 8-1). A message of more than one plank counts its segments in ARG; segment 0 of a CHUNK
holds 8 bytes (Table 19-6). -/
def msgPlanks (m : Msg) : List Plank :=
  let segs := if m.typ = 0x11 ∧ ¬ m.resp then m.payload.take 8 :: segments 1024 (m.payload.drop 8)
    else segments 1024 (if m.payload = [] then [0] else m.payload)
  let last := segs.length - 1
  segs.zipIdx.map fun c =>
    { typ := 1, vc := m.vc, hops := m.hops, src := m.src, dst := m.dst, stream := 0,
      flags := (if c.2 = last then 128 else 0) + (if m.resp then 64 else 0) + m.typ % 64,
      lseq := 0, tag := m.seq % 256 * 2 ^ 24 + (if last = 0 then m.arg % 2 ^ 24 else c.2), rsv := 0,
      payload := c.1 }

/-- Put the planks of a message on their way: to the neighbour's port, to every UP port for a broadcast,
to the device itself, or under the route table. -/
def State.launch (s : State) (d : Dest) (m : Msg) : State :=
  match d with
  | .neighbour k => (msgPlanks m).foldl (fun s x => s.queuePlank k x none) s
  | .all => (portsWhere 16 s.portUp).foldl
      (fun s k => (msgPlanks m).foldl (fun s x => s.queuePlank k x none) s) s
  | .node a =>
    if a = s.self then { s with via := { s.via with inbox := s.via.inbox ++ [(16, m)] } }
    else (msgPlanks m).foldl (fun s x => s.routePlank x none) s

/-- Send again a message that is kept: one without hops goes to the neighbour of its address (R214, R216). -/
def State.relaunch (s : State) (m : Msg) : State :=
  if m.hops = 0 then
    match (List.range 16).find? fun k => decide (s.fld SPN_STATUS.PEER k = m.dst) && s.portUp k with
    | some k => s.launch (.neighbour k) m
    | none => s
  else s.launch (.node m.dst) m

/-- The DST field of a destination. -/
def State.destAddr (s : State) : Dest → Nat
  | .neighbour k => s.fld SPN_STATUS.PEER k
  | .node a => a
  | .all => 0xFFF

/-- The next message of this device to a destination. -/
def State.newMsg (s : State) (d : Dest) (vc typ arg : Nat) (payload : List Byte) : Msg :=
  let a := s.destAddr d
  let hops := match d with | .neighbour _ => 0 | _ => s.fld VIA_CFG.HOPS_INIT
  ⟨vc, s.self, a, hops, false, typ, Sparse.get 0 s.via.msgSeq (a * 4 + vc), arg, payload⟩

/-- The MSG_SEQ of a destination and VC is taken. -/
def State.seqTaken (s : State) (a vc : Nat) : State :=
  let key := a * 4 + vc
  { s with via := { s.via with msgSeq := Sparse.set s.via.msgSeq key ((Sparse.get 0 s.via.msgSeq key + 1) % 256) } }

/-- A new message of this device: it takes the next MSG_SEQ of its destination and VC and the HOPS of
R214 and R215. Under `track` it is one that Table 8-2 answers: it is kept until its response arrives, and it
waits while 16 others to that destination and VC are unanswered (R216). -/
def State.sendMsg (s : State) (d : Dest) (vc typ arg : Nat) (payload : List Byte) (track : Bool)
    (cmd : Option (Nat × Nat) := none) : State :=
  let a := s.destAddr d
  let m := s.newMsg d vc typ arg payload
  let s := s.seqTaken a vc
  if track then
    let busy : Nat := s.via.pend.countP fun p => decide (p.msg.dst = a ∧ p.msg.vc = vc ∧ p.sent ≠ none)
    let keep (at' : Option Nat) : State :=
      { s with via := { s.via with pend := s.via.pend ++ [{ msg := m, tries := 0, sent := at', cmd := cmd }] } }
    if 16 ≤ busy then keep none else (keep (some s.clock)).launch d m
  else s.launch d m

/-- The answer to a request: RESP = 1, the request's TYPE, MSG_SEQ and ARG, back to its source (log entry 12). -/
def respMsg (s : State) (q : Msg) (payload : List Byte) : Msg :=
  ⟨q.vc, s.self, q.src, s.fld VIA_CFG.HOPS_INIT, true, q.typ, q.seq, q.arg, payload⟩

/-- Keep the answer to a request with its MSG_SEQ. -/
def State.holdAnswer (s : State) (q r : Msg) : State :=
  { s with via := { s.via with sources := s.via.sources.map fun c =>
    if c.src = q.src ∧ c.vc = q.vc then
      { c with seqs := c.seqs.map fun e => if e.1 = q.seq then (e.1, some r) else e } else c } }

/-- Answer a request and keep the answer with its MSG_SEQ, so that a duplicate of the request is answered
again (R216). -/
def State.respond (s : State) (q : Msg) (payload : List Byte) : State :=
  let m := respMsg s q payload
  (s.holdAnswer q m).launch (.node q.src) m

end Sys2Proof.Machine
end

