-- ==== Sys2Proof/Machine/Flags.lean ====
section
/-! DEFINITION. Events and their rings, notification, completions, and the status flags of the function
table: everything that a meaning reports (R36, R48 to R50, R54 to R59, R519, R520). -/

namespace Sys2Proof.Machine

/-! ### Ports and rings -/

/-- The enable bit of host port `p` in HIF_PORT_CFG. -/
def portEnFld (p : Nat) : Fld :=
  if p = 0 then HIF_PORT_CFG.PCIE_EN else if p = 1 then HIF_PORT_CFG.SPI_EN else HIF_PORT_CFG.REMOTE_EN

/-- Whether host port `p` is enabled. -/
def State.portOn (s : State) (p : Nat) : Bool := s.flag (portEnFld p)

/-- The entries of a ring whose size field holds `n` (Tables 2-4 and 2-10). -/
def ringSize (n : Nat) : Nat := 2 ^ (n + 4)

/-- The port of queue `q` (R41). -/
def queuePort (q : Nat) : Nat := q / 8

/-- What the device keeps of queue `q`. -/
def State.queue (s : State) (q : Nat) : QueueSt := Sparse.get QueueSt.reset s.host.queues q

/-- Store what the device keeps of a queue. -/
def State.setQueue (s : State) (q : Nat) (x : QueueSt) : State :=
  { s with host := { s.host with queues := Sparse.set s.host.queues q x } }

/-- What the device keeps of the event ring of port `p`. -/
def State.ring (s : State) (p : Nat) : RingSt := Sparse.get RingSt.reset s.host.rings p

/-- Store what the device keeps of an event ring. -/
def State.setRing (s : State) (p : Nat) (x : RingSt) : State :=
  { s with host := { s.host with rings := Sparse.set s.host.rings p x } }

/-- Entries of the completion ring of queue `q`. -/
def State.cqSize (s : State) (q : Nat) : Nat := ringSize (s.fld HIF_Q_CFG.CQ_SIZE q)

/-- Entries of the submission ring of queue `q`. -/
def State.sqSize (s : State) (q : Nat) : Nat := ringSize (s.fld HIF_Q_CFG.SQ_SIZE q)

/-- Entries of the event ring of port `p`. -/
def State.evSize (s : State) (p : Nat) : Nat := ringSize (s.fld HIF_EV_CFG.SIZE p)

/-- Completion records of queue `q` that the host has not read. -/
def State.cqUnread (s : State) (q : Nat) : Nat :=
  ((s.queue q).posted + s.cqSize q - s.fld HIF_Q_CQ_HEAD.HEAD q % s.cqSize q) % s.cqSize q

/-- Event records of port `p` that the host has not read. -/
def State.evUnread (s : State) (p : Nat) : Nat :=
  ((s.ring p).written + s.evSize p - s.fld HIF_EV_HEAD.HEAD p % s.evSize p) % s.evSize p

/-- HOST_IRQ_N is low while an enabled SPI ring holds a record that its head has not passed (R59). -/
def State.hostIrqLow (s : State) : Bool :=
  (List.range 8).any (fun k => s.flag HIF_Q_CFG.ENABLE (8 + k) && decide (0 < s.cqUnread (8 + k))) ||
  (s.flag HIF_EV_CFG.ENABLE 1 && decide (0 < s.evUnread 1))

/-! ### Notification (R59) -/

/-- Notify port `p` of a record routed to a vector: one MSI-X message per vector, or one notify plank to
every listed remote node, until a head register of the port's rings is written again. -/
def State.notify (s : State) (p vec : Nat) : State :=
  if p = 0 then
    if vec ∈ s.host.msixSent then s
    else State.emit { s with host := { s.host with msixSent := vec :: s.host.msixSent } } (.msix vec)
  else if p = 1 then s
  else if s.host.remoteNotified then s
  else
    let s : State := { s with host := { s.host with remoteNotified := true } }
    ((List.range 4).map (s.fld HIF_REMOTE_NODE.NODE ·)).foldl
      (fun s a => if a = 0 then s else s.sendMsg (.node a) 0 0x09 0 [] false) s

/-- A head register of a ring of port `p` was written: the vectors routed to that ring notify again. -/
def State.rearm (s : State) (p : Nat) (vecs : List Nat) : State :=
  if p = 0 then { s with host := { s.host with msixSent := s.host.msixSent.filter (· ∉ vecs) } }
  else if p = 2 then { s with host := { s.host with remoteNotified := false } }
  else s

/-! ### Events (R57, R58, R520) -/

/-- Write one event record in the next slot of a port's ring with its SEQ and PHASE (R50, R57). -/
def State.putEvent (s : State) (p : Nat) (e : Event) : State :=
  let r := s.ring p
  let n := s.evSize p
  let bytes := leBytes 2 e.code ++ leBytes 1 ((r.written / n + 1) % 2) ++ leBytes 1 0 ++ leBytes 4 r.seq ++
    leBytes 8 e.time ++ padTo 16 e.detail
  ((s.portWrite p (s.pair HIF_EV_BASE.BASE p + 32 * (r.written % n)) bytes).setRing p
    { r with written := r.written + 1, seq := (r.seq + 1) % 2 ^ 32 }).notify p
    (s.fld HIF_EV_VEC.VEC (e.code / 256))

/-- An event that is not written takes its SEQ and counts in HIF_EV_LOST. -/
def State.loseEvent (s : State) (p : Nat) : State :=
  let r := s.ring p
  (s.setRing p { r with seq := (r.seq + 1) % 2 ^ 32, losing := true }).bump HIF_EV_LOST.LOST p

/-- An event for a port whose ring takes it now: written, or lost under R58. -/
def State.deliverEvent (s : State) (p : Nat) (e : Event) : State :=
  if (s.ring p).losing then s.loseEvent p
  else if s.evUnread p + 2 < s.evSize p then s.putEvent p e
  else if s.evUnread p + 2 = s.evSize p then (s.putEvent p ⟨0x0004, s.now, []⟩).loseEvent p
  else s.loseEvent p

/-- Whether an event of a code is raised for port `p` (R57): port and ring enabled, group not withheld. -/
def State.hears (s : State) (p code : Nat) : Bool :=
  s.portOn p && s.flag HIF_EV_CFG.ENABLE p && decide (bits (s.pair HIF_EV_MASK.MASK p) (code / 256) 1 = 0)

/-- Raise an event for one port: held during a tollhouse restart, up to 256 of them (R520). -/
def State.raiseFor (s : State) (e : Event) (p : Nat) : State :=
  if s.hears p e.code then
    if s.restarting then
      let r := s.ring p
      if r.held.length < 256 then s.setRing p { r with held := r.held ++ [e] }
      else (s.setRing p { r with excess := r.excess + 1 }).bump HIF_EV_LOST.LOST p
    else s.deliverEvent p e
  else s

/-- Raise an event now with its detail (R57). -/
def State.raise (s : State) (code : Nat) (fs : List ByteField) : State :=
  [0, 1, 2].foldl (fun s' p => s'.raiseFor ⟨code, s.now, detail fs⟩ p) s

/-- Raise an event that is held until the first event ring is enabled (R57: EV_PWR_RESET and
EV_FWU_RECOVERY). -/
def State.raiseHeld (s : State) (code : Nat) (fs : List ByteField) : State :=
  if [0, 1, 2].any fun p => s.hears p code then s.raise code fs
  else { s with host := { s.host with untilRing := s.host.untilRing ++ [⟨code, s.now, detail fs⟩] } }

/-! ### Completions (R48 to R50, R54, R55) -/

/-- Post a completion record in the completion ring of its queue with PHASE, and notify. -/
def State.postNow (s : State) (c : Completion) : State :=
  let x := s.queue c.q
  let n := s.cqSize c.q
  let p := queuePort c.q
  let bytes := leBytes 2 c.tag ++ leBytes 2 c.status ++ leBytes 2 c.slot ++ leBytes 1 c.q ++
    leBytes 1 ((x.posted / n + 1) % 2 + 2 * b2n c.late) ++ leBytes 8 s.now ++ padTo 16 c.result
  let s := (s.portWrite p (s.pair HIF_Q_CQ_BASE.BASE c.q + 32 * (x.posted % n)) bytes).setQueue c.q
    { x with posted := x.posted + 1 }
  s.notify p (s.fld HIF_Q_CFG.VEC c.q)

/-- A queue whose ENABLE was cleared reads disabled once its last fetched command has completed (R49). -/
def State.drained (s : State) (q : Nat) : State :=
  let x := s.queue q
  if x.draining && s.host.cmds.all (fun c => c.q ≠ q || c.dropped) && s.host.heldDone.all (fun c => c.q ≠ q) then
    (s.setQueue q { x with draining := false }).setFlag HIF_Q_CFG.ENABLE false q
  else s

/-- Remove a command and post its completion: held during a tollhouse restart, discarded when its queue
was disabled by a reset of FN_HIF or with its port. -/
def State.finishOne (s : State) (c : Cmd) (status : Nat) (res : List Byte) : State :=
  let s : State := { s with host := { s.host with
    cmds := s.host.cmds.filter fun d => d.id ≠ c.id } }
  let r : Completion := ⟨c.q, c.tag, c.slot, status, c.late, res⟩
  if c.dropped then s
  else if s.restarting then { s with host := { s.host with heldDone := s.host.heldDone ++ [r] } }
  else (s.postNow r).drained c.q

/-- ST_OK. -/
def stOk : Nat := 0x0000
/-- ST_ABORTED. -/
def stAborted : Nat := 0x0001
/-- ST_ALREADY_DONE. -/
def stAlreadyDone : Nat := 0x0002
/-- ST_RESERVED. -/
def stReserved : Nat := 0x0003
/-- ST_BAD_OPCODE. -/
def stBadOpcode : Nat := 0x0004
/-- ST_TAG_BUSY. -/
def stTagBusy : Nat := 0x0005
/-- ST_BAD_PAYLOAD. -/
def stBadPayload : Nat := 0x0006
/-- ST_FN_ABSENT. -/
def stFnAbsent : Nat := 0x0007
/-- ST_FN_FAULT. -/
def stFnFault : Nat := 0x0008
/-- ST_FN_RESET. -/
def stFnReset : Nat := 0x0009
/-- ST_NOT_ASSIST. -/
def stNotAssist : Nat := 0x000A
/-- ST_TOO_LATE. -/
def stTooLate : Nat := 0x000B
/-- ST_TOO_EARLY. -/
def stTooEarly : Nat := 0x000C
/-- ST_BAD_TARGET. -/
def stBadTarget : Nat := 0x000D

/-- Complete a command, then every CMD_ABORT accepted against it: ST_OK when it completed ST_ABORTED,
ST_ALREADY_DONE otherwise (R55). -/
def State.finish (s : State) (c : Cmd) (status : Nat) (res : List Byte := []) : State :=
  c.aborts.foldl (fun s a =>
    match s.host.cmds.find? fun d => d.q = a.1 ∧ d.id = a.2 ∧ d.opcode = 0x0001 with
    | some d => s.finishOne d (if status = stAborted then stOk else stAlreadyDone) []
    | none => s) (s.finishOne c status res)

/-- The started command of a queue and tag that has an opcode; none while the tollhouse restarts, which processes no
command then (R30). -/
def State.cmd (s : State) (q tag op : Nat) : Option Cmd :=
  if s.restarting then none
  else s.host.cmds.find? fun c => c.q = q ∧ c.tag = tag ∧ c.opcode = op ∧ c.phase = .started

/-- The running command of a queue with its number, of an opcode. -/
def State.cmdAt (s : State) (q id op : Nat) : Option Cmd :=
  s.host.cmds.find? fun c => c.q = q ∧ c.id = id ∧ c.opcode = op ∧ c.phase = .running

/-- The first fetched command that has an opcode and stands in a phase. -/
def State.cmdOf (s : State) (op : Nat) (ph : Phase) : Option Cmd :=
  s.host.cmds.find? fun c => c.opcode = op ∧ c.phase = ph

/-- Replace a fetched command, which stays one of its queue. -/
def State.setCmd (s : State) (c : Cmd) : State :=
  { s with host := { s.host with cmds := s.host.cmds.map fun d =>
    if d.id = c.id then { c with q := d.q } else d } }

/-- A command whose function has taken it and works on it. -/
def State.run (s : State) (c : Cmd) : State := s.setCmd { c with phase := .running, since := s.clock }

/-- The little-endian operand field at record byte `o` (Table 2-5: OPERANDS begin at byte 32). -/
def Cmd.opnd (c : Cmd) (o n : Nat) : Nat := leAt c.operands (o - 32) n

/-- The payload of a command in its port's memory. -/
def State.payload (s : State) (c : Cmd) : List Byte :=
  if bits c.flags 2 1 = 1 then s.portRead (queuePort c.q) c.payAddr c.payLen else []

/-! ### The function table (R36 to R39, R519) -/

/-- FNT_STATUS.STATE ABSENT. -/
def fnAbsent : Nat := 0
/-- FNT_STATUS.STATE IDLE. -/
def fnIdle : Nat := 1
/-- FNT_STATUS.STATE RUN. -/
def fnRun : Nat := 2
/-- FNT_STATUS.STATE RESET. -/
def fnReset : Nat := 3
/-- FNT_STATUS.STATE FAULT. -/
def fnFault : Nat := 4

/-- The low 16 bits of the register that holds a field. -/
def State.low16 (s : State) (f : Fld) : Nat := bits (s.word (f.addr 0) f.rst).toNat 0 16

/-- The mask of the numbers below `n` that satisfy a test. -/
def maskWhere (n : Nat) (t : Nat → Bool) : Nat :=
  ((List.range n).filter t).foldl (fun m k => m + 2 ^ k) 0

/-- DETAIL of FNT_STATUS[n], as each function's chapter defines it; a function whose chapter gives none
reads the field as it stands. -/
def State.detailOf (s : State) (n : Nat) : Nat :=
  match n with
  | 1 => s.low16 CFG_STATUS.STAGE
  | 5 => s.low16 ENC_STATUS.ACTIVE
  | 6 => min s.enc.floorsLast 0xFFFF
  | 7 => maskWhere 16 fun k => s.flag SPN_STATUS.TOP_FAIL k
  | 8 => maskWhere 16 fun k => s.portUp k
  | 9 => s.low16 VIA_STATUS.DISC
  | 10 => s.low16 TIM_STATUS.STATE
  | 11 => s.dec.ctxs.length
  | 12 => s.low16 CMP_STATUS.FRONT
  | 13 => s.low16 COR_STATUS.MAP_OK
  | 14 => s.low16 STR_STATUS.STATE
  | 15 => s.low16 DIA_STATUS.CFG_ERR
  | 16 => s.low16 MEM_STATUS.TRAINED
  | 17 => s.low16 DECK_STATUS.UC_BANKS
  | 18 => s.low16 LDG_STATUS.IMBAL
  | 19 => s.low16 RED_STATUS.LEADER
  | 20 => s.low16 FWU_STATUS.ACTIVE
  | 21 => (List.range 24).countP fun u => s.flag CHK_STATUS.BUSY (8 + u)
  | 24 => s.low16 PWR_STATE.STATE % 16 + 16 * (s.low16 PWR_BROWN.ACTIVE % 4)
  | _ => s.fld FNT_STATUS.DETAIL n

/-- The STATE of function `n`. -/
def State.fnState (s : State) (n : Nat) : Nat := s.fld FNT_STATUS.STATE n

/-- Set the STATE of a function; entering FAULT raises EV_FN_FAULT once with n and DETAIL (R519). -/
def State.setFnState (s : State) (n v : Nat) : State :=
  let t := s.setFld FNT_STATUS.STATE v n
  if v = fnFault ∧ s.fnState n ≠ fnFault then
    t.raise 0x0006 [(16, 1, n), (18, 2, s.detailOf n)]
  else t

/-- Whether function `n` is in ASSIST (MODE_ACT). -/
def State.assist (s : State) (n : Nat) : Bool := s.flag FNT_STATUS.MODE_ACT n

/-- Whether function `n` will be in ASSIST in the frame that starts next: the mode sampled at its close (R36). -/
def State.assistNext (s : State) (n : Nat) : Bool := (Sparse.find s.fnt.sampled n).getD (s.assist n)

/-- MODE_PEND reads 1 while MODE_REQ differs from MODE_ACT. -/
def State.markMode (s : State) (n : Nat) : State :=
  s.setFlag FNT_STATUS.MODE_PEND (s.fld FNT_CTRL.MODE_REQ n ≠ s.fld FNT_STATUS.MODE_ACT n) n

/-- MODE_ACT takes a value; decisions held are discarded on a switch back to HW (R36, R61). On a switch to ASSIST no decision of
an earlier stay in it is the last one: until the host decides, the function's own stands (R38). -/
def State.takeMode (s : State) (n : Nat) (m : Bool) : State :=
  let t := (s.setFlag FNT_STATUS.MODE_ACT m n).markMode n
  if m then (if s.assist n then t else { t with fnt := { t.fnt with last := Sparse.erase t.fnt.last n } })
  else { t with fnt := { t.fnt with decisions := t.fnt.decisions.filter fun d => d.fn ≠ n } }

/-- A missed decision: EV_ASSIST_LATE with the function and the PERIOD, and ASSIST_MISS (R38). -/
def State.missAssist (s : State) (n period : Nat) : State :=
  (s.bump FNT_STATUS.ASSIST_MISS n).raise 0x0001 [(16, 1, n), (20, 4, period)]

/-- The decision held for a function and a PERIOD. -/
def State.decision (s : State) (n period : Nat) : Option (List Byte) :=
  (s.fnt.decisions.find? fun d => d.fn = n ∧ d.period = period).map (·.bytes)

/-- The decision of a function for a PERIOD is used: it leaves the decisions held and becomes the last one (R38). -/
def State.useDecision (s : State) (n period : Nat) : Option (List Byte) × State :=
  match s.decision n period with
  | some bs => (some bs, { s with fnt := { s.fnt with
      decisions := s.fnt.decisions.filter fun d => ¬ (d.fn = n ∧ d.period = period)
      last := Sparse.set s.fnt.last n bs } })
  | none => (none, s)

/-- The PERIOD that names a frame: its number, bits 31:0 (R163). -/
def periodOf (frame : Nat) : Nat := frame % 2 ^ 32

/-- Whether a frame cadence runs (R37, R355). -/
def State.cadence (s : State) : Bool := s.cad.running

/-- The frame number of the frame in progress (R353). -/
def State.frame (s : State) : Nat := s.pair TIM_FRAME.FRAME

end Sys2Proof.Machine
end

