-- ==== Sys2Proof/Machine/Store.lean ====
section
/-! DEFINITION. The deck, the external memory and the partitions in force: reads and writes with their error
rules (R404, R406, R409), and which ranges a host may not touch (R29, R297, R319, R377). -/

namespace Sys2Proof.Machine

/-! ### Partitions (R77) -/

/-- LAMP_BUF. -/
def pkLampBuf : Nat := 1
/-- LAMP_MAP. -/
def pkLampMap : Nat := 2
/-- COEF. -/
def pkCoef : Nat := 3
/-- GAIN. -/
def pkGain : Nat := 4
/-- REF. -/
def pkRef : Nat := 5
/-- LAYER. -/
def pkLayer : Nat := 6
/-- STAGE. -/
def pkStage : Nat := 8
/-- KSTORE. -/
def pkKstore : Nat := 9
/-- FSYNC. -/
def pkFsync : Nat := 10
/-- MEDIA. -/
def pkMedia : Nat := 11
/-- WORK. -/
def pkWork : Nat := 12

/-- The first byte of a partition. -/
def Part.start (p : Part) : Nat := p.base * 4096

/-- The length of a partition in bytes. -/
def Part.bytes (p : Part) : Nat := p.size * 4096

/-- The first partition of a kind in force. -/
def State.part (s : State) (kind : Nat) : Option Part := s.cfg.parts.find? fun p => p.kind = kind

/-- The partitions of a kind in force. -/
def State.partsOf (s : State) (kind : Nat) : List Part := s.cfg.parts.filter fun p => p.kind = kind

/-- The WORK partition of a bay. -/
def State.workOf (s : State) (b : Nat) : Option Part :=
  s.cfg.parts.find? fun p => p.kind = pkWork ∧ p.inst = b

/-- Whether a range of a space meets a partition. -/
def Part.meets (p : Part) (ext : Bool) (a n : Nat) : Bool :=
  p.ext == ext && decide (a < p.start + p.bytes) && decide (p.start < a + n)

/-- Whether a range lies inside a partition of external memory. -/
def Part.holds (p : Part) (a n : Nat) : Bool :=
  p.ext && decide (p.start ≤ a) && decide (a + n ≤ p.start + p.bytes)

/-! ### Bays of a kind -/

/-- The KIND of bay `b` in force. -/
def State.bayKind (s : State) (b : Nat) : Nat := s.fld BAY_STATUS.KIND b

/-- BAY_STATUS.STATE RUN. -/
def bayRun : Nat := 2

/-- The bays of a kind. -/
def State.baysOf (s : State) (kind : Nat) : List Nat := portsWhere 16 fun b => decide (s.bayKind b = kind)

/-- The bays of a kind that are in state RUN. -/
def State.baysRunning (s : State) (kind : Nat) : List Nat :=
  (s.baysOf kind).filter fun b => s.fld BAY_STATUS.STATE b = bayRun

/-- The role in force: 0 abutment, 1 pier, 2 relay, 3 none (Table 3-13). -/
def State.role (s : State) : Nat := s.fld CFG_STATUS.ROLE

/-- Whether the device is a pier. -/
def State.isPier (s : State) : Bool := s.role = 1

/-! ### Memory content -/

/-- Bytes of deck or external memory as stored. -/
def State.memRead (s : State) (ext : Bool) (a n : Nat) : List Byte :=
  readBytes blank (if ext then s.mem.ext else s.mem.deck) a n

/-- Store bytes without any error rule. -/
def State.memPut (s : State) (ext : Bool) (a : Nat) (bs : List Byte) : State :=
  if ext then { s with mem := { s.mem with ext := writeBytes blank s.mem.ext a bs } }
  else { s with mem := { s.mem with deck := writeBytes blank s.mem.deck a bs } }

/-- Set a range to zero. -/
def State.memZero (s : State) (ext : Bool) (a n : Nat) : State :=
  if ext then { s with mem := { s.mem with ext := Sparse.clear s.mem.ext a n } }
  else { s with mem := { s.mem with deck := Sparse.clear s.mem.deck a n } }

/-- The deck words (8-byte indices) that a byte range meets. -/
def wordsOf (a n : Nat) : List Nat := if n = 0 then [] else (List.range ((a + n - 1) / 8 - a / 8 + 1)).map (a / 8 + ·)

/-! ### Deck errors (R409) -/

/-- The class of Table 15-6 of a bay that accesses a bank. -/
def bayClass (bay bank : Nat) : Nat := if bay = bank then 1 else 2

/-- The bank of a deck word. -/
def bankOf (word : Nat) : Nat := word / 0x80000 % 16

/-- A read met an uncorrectable deck word: DECK_UC of the bank's bay, the counters, the address and class of
the reader, EV_DECK_UC. -/
def State.deckUc (s : State) (word cls : Nat) : State :=
  let a := word * 8
  let b := bankOf word
  let s := (s.setFlag BAY_ERR.DECK_UC true b).bump DECK_ECC.UC b
  let s := s.setFld DECK_STATUS.UC_BANKS (s.fld DECK_STATUS.UC_BANKS ||| 2 ^ b)
  let s := (s.setFld DECK_ERR_ADDR.ADDR a).setFld DECK_ERR_ADDR.CLASS cls
  s.raise 0x1201 [(16, 4, a), (20, 1, b), (21, 1, cls)]

/-- The uncorrectable words that a byte range of the deck meets. -/
def State.badWords (s : State) (a n : Nat) : List Nat := (wordsOf a n).filter (· ∈ s.mem.deckBad)

/-- Read deck bytes for a reader of a class: uncorrectable words read zero and are reported. -/
def State.deckRead (s : State) (a n cls : Nat) : List Byte × State :=
  let bad := s.badWords a n
  let bytes := (s.memRead false a n).zipIdx.map fun b => if (a + b.2) / 8 ∈ bad then 0 else b.1
  (bytes, bad.foldl (fun s w => s.deckUc w cls) s)

/-- Write deck bytes for a writer of a class: a word written whole is stored afresh; a narrower write into an
uncorrectable word reports it and leaves it uncorrectable. -/
def State.deckWrite (s : State) (a : Nat) (bs : List Byte) (cls : Nat → Nat) : State :=
  let bad := s.badWords a bs.length
  let whole (w : Nat) : Bool := decide (a ≤ 8 * w) && decide (8 * w + 8 ≤ a + bs.length)
  let s := (bad.filter fun w => ¬ whole w).foldl (fun s w => s.deckUc w (cls (bankOf w))) s
  let s := s.memPut false a bs
  { s with mem := { s.mem with deckBad := s.mem.deckBad.filter fun w => ¬ (w ∈ bad ∧ whole w) } }

/-! ### External lines (R393 to R395, R402, R404) -/

/-- Bytes in a line (R393): 72 in wide-word mode, 64 in data mode. -/
def State.lineBytes (s : State) : Nat := if s.flag MEM_STATUS.WIDE_ACT then 72 else 64

/-- The channels in use, as the number of channel bits of the line index. -/
def State.chBits (s : State) : Nat :=
  match s.fld MEM_STATUS.CHANNELS with | 2 => 1 | 3 => 2 | _ => 0

/-- COL (R396): a row of x4 devices holds 2^7 lines (2,048 columns of a burst of 16), a row of x8 devices 2^6 (log
entry 5). -/
def State.colBits (s : State) : Nat := if s.flag MEM_CH_STATUS.X8 0 then 6 else 7

/-- Where a line lies (R396): subchannel, channel, line of its row, bank group, bank, rank, module, row. -/
structure LineAt where
  sc  : Nat
  ch  : Nat
  col : Nat
  bg  : Nat
  ba  : Nat
  rk  : Nat
  dm  : Nat
  row : Nat
deriving DecidableEq, Repr

/-- A number cut into fields of some widths from bit 0 upwards, and what remains. -/
def cutFields : List Nat → Nat → List Nat
  | [], v => [v]
  | w :: ws, v => v % 2 ^ w :: cutFields ws (v / 2 ^ w)

/-- The place of a line in the order of MAP_ACT (Table 15-3): STREAM takes COL first, SPREAD and HASHED take SC, CH and BG before
it, and HASHED combines BG and BA with bits of ROW. -/
def State.lineAt (s : State) (line : Nat) : LineAt :=
  let map := s.fld MEM_STATUS.MAP_ACT
  let rk := Nat.log2 (s.fld MEM_CH_STATUS.RANKS 0)
  let dm := Nat.log2 (s.fld MEM_CH_STATUS.MODULES 0)
  if map = 0 then
    match cutFields [s.colBits, 1, s.chBits, 3, 2, rk, dm] line with
    | [col, sc, ch, bg, ba, r, m, row] => ⟨sc, ch, col, bg, ba, r, m, row⟩
    | _ => ⟨0, 0, 0, 0, 0, 0, 0, 0⟩
  else
    match cutFields [1, s.chBits, 3, s.colBits, 2, rk, dm] line with
    | [sc, ch, bg, col, ba, r, m, row] =>
      if map = 2 then ⟨sc, ch, col, bg ^^^ (row % 8), ba ^^^ (row / 8 % 4), r, m, row⟩ else ⟨sc, ch, col, bg, ba, r, m, row⟩
    | _ => ⟨0, 0, 0, 0, 0, 0, 0, 0⟩

/-- The channel of a line. -/
def State.channelOf (s : State) (line : Nat) : Nat := (s.lineAt line).ch

/-- The lines that a byte range meets. -/
def State.linesOf (s : State) (a n : Nat) : List Nat :=
  if n = 0 then [] else
    (List.range ((a + n - 1) / s.lineBytes - a / s.lineBytes + 1)).map (a / s.lineBytes + ·)

/-- An uncorrectable or poisoned line was read through a port: counted, its address held, EV_MEM_UC at most
once per channel per millisecond. -/
def State.lineUc (s : State) (line port : Nat) : State :=
  let c := s.channelOf line
  let a := line * s.lineBytes
  let s := ((s.bump MEM_CH_UC.UC c).setPair MEM_ERR_ADDR.ADDR a).setFld MEM_ERR_INFO.PORT port
  match Sparse.find s.mem.ucAt c with
  | some t => if t + ms ≤ s.clock then
      State.raise { s with mem := { s.mem with ucAt := Sparse.set s.mem.ucAt c s.clock } } 0x1102
        [(16, 8, a), (24, 1, port)]
    else s
  | none => State.raise { s with mem := { s.mem with ucAt := Sparse.set s.mem.ucAt c s.clock } } 0x1102
      [(16, 8, a), (24, 1, port)]

/-- Whether external memory answers: trained, and again where VDDQ had failed, and FN_MEM not in reset (R392, R413, R451). -/
def State.extUp (s : State) : Bool := s.flag MEM_STATUS.TRAINED && ! s.mem.lost && decide (s.fnState 16 ≠ fnReset)

/-- The lines of a range that read uncorrectable now: those marked, or all of them while requests complete
poisoned. -/
def State.badLines (s : State) (a n : Nat) : List Nat :=
  if s.extUp then (s.linesOf a n).filter (· ∈ s.mem.extBad) else s.linesOf a n

/-- The lines of a range whose data a reader does not get: the bad lines, and those whose read timed out in this frame
(R402; the timeout has reported them). -/
def State.lostLines (s : State) (a n : Nat) : List Nat :=
  if s.extUp then (s.linesOf a n).filter fun l => l ∈ s.mem.extBad || s.mem.poison.any fun x => x.2 = (l, false)
  else s.linesOf a n

/-- Write external memory through a port: a line written whole is stored afresh; a write of part of a line reads the line first
(R395), and of an uncorrectable one reports that read, the line staying so (log entry 155); a write that is poisoned is not
performed (R402, R413). -/
def State.extWrite (s : State) (a : Nat) (bs : List Byte) (port : Nat) : State :=
  if s.extUp then
    let lb := s.lineBytes
    let skip := (s.mem.poison.filter (·.2.2)).map (·.2.1)
    let whole (l : Nat) : Bool := decide (a ≤ lb * l) && decide (lb * l + lb ≤ a + bs.length)
    let s := ((s.linesOf a bs.length).filter fun l => l ∈ s.mem.extBad && ! whole l && l ∉ skip).foldl
      (fun (s : State) l => s.lineUc l port) s
    let keep := (s.linesOf a bs.length).filter (· ∈ skip)
    let old := keep.map fun l => (lb * l, readBytes blank s.mem.ext (lb * l) lb)
    let s := s.memPut true a bs
    let s := old.foldl (fun (s : State) o => s.memPut true o.1 o.2) s
    { s with mem := { s.mem with extBad := s.mem.extBad.filter fun l => ¬ (whole l && l ∉ skip) } }
  else s

/-- The class of Table 15-6 of a fixed block, in every bank. -/
def fixedClass (_ : Nat) : Nat := 3

/-- Write a partition's space: the deck as a class, which may depend on the bank, external memory through a port. -/
def State.spaceWrite (s : State) (ext : Bool) (a : Nat) (bs : List Byte) (cls : Nat → Nat) (port : Nat) : State :=
  if ext then s.extWrite a bs port else s.deckWrite a bs cls

/-- What a fixed block or a bay reads: bytes of an uncorrectable deck word or external line read zero (R404,
R409). -/
def State.spaceRead (s : State) (ext : Bool) (a n : Nat) : List Byte :=
  if ext then
    let bad := s.lostLines a n
    (s.memRead true a n).zipIdx.map fun b => if (a + b.2) / s.lineBytes ∈ bad then 0 else b.1
  else
    let bad := s.badWords a n
    (s.memRead false a n).zipIdx.map fun b => if (a + b.2) / 8 ∈ bad then 0 else b.1

/-- Report the uncorrectable words or lines that a read of a range meets: deck as a class of the reader in the bank, external
memory as port `port`. -/
def State.reportBad (s : State) (ext : Bool) (a n : Nat) (cls : Nat → Nat) (port : Nat) : State :=
  if ext then (s.badLines a n).foldl (fun s l => s.lineUc l port) s
  else (s.badWords a n).foldl (fun s w => s.deckUc w (cls (bankOf w))) s

/-! ### Which ranges a host may not touch -/

/-- The byte of the deck at which the back half of LAMP_BUF begins. -/
def State.backBase (s : State) : Nat := if s.fld CMP_STATUS.FRONT = 0 then 0x200000 else 0

/-- The byte of the deck at which the front half of LAMP_BUF begins. -/
def State.frontBase (s : State) : Nat := if s.fld CMP_STATUS.FRONT = 0 then 0 else 0x200000

/-- The lowest-numbered COR bay, whose WORK partition holds the lamp table (R377). -/
def State.lampBay (s : State) : Option Nat := (s.baysOf 4).head?

/-- A BAR2 or deck-pair access is refused (R29): reads and writes inside the WORK partition of a CMP bay and of
the lamp table, writes into LAMP_BUF, LAYER and the correction images, reads of the back half of
LAMP_BUF. -/
def State.deckRefused (s : State) (write : Bool) (a n : Nat) : Bool :=
  (s.partsOf pkWork).any (fun p => p.meets false a n && decide (s.bayKind p.inst = 3)) ||
  (match s.lampBay with
    | some b => (match s.workOf b with
      | some p => ({ p with size := min p.size 256 } : Part).meets false a n
      | none => false)
    | none => false) ||
  (if write then
    [pkLampBuf, pkLayer, pkLampMap, pkCoef, pkGain].any fun k => (s.partsOf k).any fun p => p.meets false a n
  else (s.partsOf pkLampBuf).any fun _ =>
    decide (a < s.backBase + 0x200000) && decide (s.backBase < a + n))

/-- A refused deck access raises EV_DECK_REFUSED (R29, Table 2-13). -/
def State.refuseDeck (s : State) (a port : Nat) : State := s.raise 0x0003 [(16, 1, port), (24, 8, a)]

/-! ### Check units (R484, R486, R487) -/

/-- The parameters that unit `u` holds; a WIDTH of 0 is a reserved encoding and never stored. -/
def State.chkParams (s : State) (u : Nat) : CrcParams :=
  ⟨s.fld CHK_CFG.WIDTH u, s.pair CHK_POLY.POLY u, s.pair CHK_INIT.INIT u, s.pair CHK_XOROUT.XOROUT u,
    s.flag CHK_CFG.REFIN u, s.flag CHK_CFG.REFOUT u⟩

/-- The running value of a unit. -/
def State.chkVal (s : State) (u : Nat) : Nat := s.pair CHK_VAL.VAL u

/-- VAL takes a value. -/
def State.setChkVal (s : State) (u v : Nat) : State := s.setPair CHK_VAL.VAL v u

/-- CHK_RESULT: res of R484 from VAL now. -/
def State.chkResult (s : State) (u : Nat) : Nat := crcResult (s.chkParams u) (s.chkVal u)

/-- VAL is loaded with INIT. -/
def State.chkLoad (s : State) (u : Nat) : State := s.setChkVal u (s.pair CHK_INIT.INIT u)

/-- Bytes are fed to a unit in order. -/
def State.chkFeed (s : State) (u : Nat) (bs : List Byte) : State :=
  s.setChkVal u (crcFeed (s.chkParams u) (s.chkVal u) bs)

/-- The six parameters of a unit take those of a preset, and VAL is loaded with INIT (R486). -/
def State.chkPreset (s : State) (u : Nat) (p : CrcParams) : State :=
  let s := ((s.setFld CHK_CFG.WIDTH p.width u).setFlag CHK_CFG.REFIN p.refin u).setFlag CHK_CFG.REFOUT p.refout u
  let s := ((s.setPair CHK_POLY.POLY p.poly u).setPair CHK_INIT.INIT p.init u).setPair CHK_XOROUT.XOROUT p.xorout u
  s.chkLoad u

/-- An internal unit of Table 20-2 computes afresh over bytes; VAL stays for a reader. -/
def State.unitRun (s : State) (u : Nat) (bs : List Byte) : State := (s.chkLoad u).chkFeed u bs

end Sys2Proof.Machine
end

