-- ==== Sys2Proof/Machine/Bays.lean ====
section
/-! DEFINITION. The bays (R19 to R23, R87, R95, R519) and which functions are present: states, faults, rotation and shares,
loading of kernels. -/

namespace Sys2Proof.Machine

/-- GATED. -/
def bayGated : Nat := 0
/-- IDLE. -/
def bayIdle : Nat := 1
/-- LOADING. -/
def bayLoading : Nat := 3
/-- FAULT. -/
def bayFault : Nat := 4
/-- RESET. -/
def bayReset : Nat := 5

/-- The STATE of a bay. -/
def State.bayState (s : State) (b : Nat) : Nat := s.fld BAY_STATUS.STATE b

/-- FNT_STATUS[32 + b].STATE of a bay (R62, R519, log entry 20). -/
def State.bayFn (s : State) (b : Nat) : Nat :=
  if s.fnState (32 + b) = fnReset then fnReset
  else if s.bayKind b = 0 then fnAbsent
  else if s.bayState b = bayFault then fnFault
  else if s.bayState b = bayRun then fnRun
  else fnIdle

/-- A bay enters a state; its function follows. -/
def State.setBayState (s : State) (b st : Nat) : State :=
  let s := s.setFld BAY_STATUS.STATE st b
  s.setFnState (32 + b) (s.bayFn b)

/-! ### Rotation and shares (R22) -/

/-- Whether a bay of a kind that holds work is in its rotation: in ASSIST a share of 0 keeps it out. -/
def State.rotates (s : State) (b : Nat) : Bool :=
  decide (s.bayState b = bayRun) && (!s.assist (32 + b) || decide ((s.bay b).share ≠ 0))

/-- IN_ROTATION of a bay follows its state, its mode and its share. -/
def State.showRotation (s : State) (b : Nat) : State :=
  if s.bayKind b = 0 ∨ s.bayKind b = 6 then s else s.setFlag BAY_STATUS.IN_ROTATION (s.rotates b) b

/-- The bays of a kind that take new work: in RUN and in the rotation. -/
def State.takers (s : State) (kind : Nat) : List Nat :=
  (s.baysRunning kind).filter fun b => s.flag BAY_STATUS.IN_ROTATION b

/-- The weight of a bay: its share in ASSIST; bays in HW mode count alike (log entry 123). -/
def State.weight (s : State) (b : Nat) : Nat := if s.assist (32 + b) then (s.bay b).share else 128

/-- The load that a bay's weight divides: pieces given in the frame in ASSIST, pieces held in HW (log entry 123). -/
def State.burden (s : State) (b held : Nat) : Nat := if s.assist (32 + b) then (s.bay b).given else held

/-- The bay among those given that takes the next piece of work: the least burden for its weight, the lowest-numbered among
equals. -/
def State.nextTaker (s : State) (held : Nat → Nat) (bs : List Nat) : Option Nat :=
  bs.foldl (fun best b =>
    match best with
    | none => some b
    | some c =>
      if (s.burden b (held b) + 1) * s.weight c < (s.burden c (held c) + 1) * s.weight b then some b else some c) none

/-- A bay is given a piece of work. -/
def State.give (s : State) (b : Nat) : State := s.setBay b { s.bay b with given := (s.bay b).given + 1 }

/-- The bays among which the pieces of the frame in progress were divided: those in the rotation, and those whose work of
the frame is late. -/
def State.sharers (s : State) (kind : Nat) : List Nat :=
  (s.baysOf kind).filter fun b => s.flag BAY_STATUS.IN_ROTATION b || (s.bay b).late

/-- The bay at a position of the summed weights. -/
def State.bayAt (s : State) : List Nat → Nat → Option Nat
  | [], _ => none
  | b :: bs, x => if x < s.weight b then some b else State.bayAt s bs (x - s.weight b)

/-- The bay of a kind that holds piece `k` of the `n` pieces of a frame, divided in proportion to the weights. -/
def State.holder (s : State) (kind k n : Nat) : Option Nat :=
  let bs := s.sharers kind
  s.bayAt bs (k * (bs.map s.weight).sum / max n 1)

/-- Whether piece `k` of `n` is done in this frame: some bay holds it, and its work is not late (R23, R87). -/
def State.heldWell (s : State) (kind k n : Nat) : Bool :=
  (s.holder kind k n).any fun b => decide (s.bayState b = bayRun) && ! (s.bay b).late

/-! ### Loads, faults and resets -/

/-- The last reloaded bay has joined: STAGE is EMPTY, EV_CFG_APPLIED, and CMD_CFG_APPLY completes (R87, R95). -/
def State.endApply (s : State) : State :=
  let bad := s.cfg.reload.filter fun b => s.bayState b = bayFault
  let busy := s.cfg.reload.any fun b => decide (s.bayState b = bayLoading ∨ s.bayState b = bayReset) || (s.bay b).joining
  if s.fld CFG_STATUS.STAGE ≠ 7 ∨ busy then s
  else
    let mask (bs : List Nat) : Nat := maskWhere 16 fun b => decide (b ∈ bs)
    let s := (((s.setFld CFG_STATUS.STAGE 0).setFlag CFG_STATUS.PARTIAL false).setFld CFG_STAGED_LEN.LEN 0).raise 0x0201
      [(16, 8, s.cfg.at'), (24, 2, mask s.cfg.reload), (26, 2, mask bad)]
    let cmd := s.cfg.apply.bind fun p => s.cmdAt p.1 p.2 0x0204
    let s : State := { s with cfg := { s.cfg with apply := none, reload := [] } }
    match cmd with
    | some c => (if bad = [] then s else s.setFld CFG_STATUS.LAST_ERR 0x14).finish c (if bad = [] then stOk else 0x0214)
    | none => s

/-- The slices that a decoder bay holds go back to wait for another bay (R268). -/
def State.returnSlices (s : State) (b : Nat) : State :=
  { s with dec := { s.dec with slices := s.dec.slices.map fun x =>
    if x.running ∧ x.bay = b then { x with running := false } else x } }

/-- A slice encoder is coding the slice. -/
def EncSlice.coding (e : EncSlice) : Bool := decide (e.kind = 0) && e.blocks.isNone && decide (e.enc < 256)

/-- Slices of a stream that a bay's encoders are coding. -/
def State.encHeld (s : State) (b : Nat) : Nat :=
  (s.enc.streams.map fun x => x.2.slices.countP fun e => e.coding && decide (e.enc / 16 = b)).sum

/-- ENC_STATUS.ACTIVE counts the slice encoders that are coding. -/
def State.showActive (s : State) : State :=
  s.setFld ENC_STATUS.ACTIVE ((s.enc.streams.map fun x => x.2.slices.countP (·.coding)).sum)

/-- The slices that a bay's encoders are coding are left unfinished (R23): no encoder has them. -/
def State.leaveSlices (s : State) (b : Nat) : State :=
  State.showActive { s with enc := { s.enc with streams := s.enc.streams.map fun x =>
    (x.1, { x.2 with slices := x.2.slices.map fun e => if e.coding ∧ e.enc / 16 = b then { e with enc := 256 } else e }) } }

/-- A bay enters FAULT: it takes no new work, and what it held in the frame is late (R23): its slices wait for the next frame
start, when another bay decodes them (log entry 123), and slices in its encoders become fill slices then (log entry 133). -/
def State.failBay (s : State) (b : Nat) : State :=
  let ran := decide (s.bayState b = bayRun)
  let s := (s.setBay b { s.bay b with joining := false, late := ran }).leaveSlices b
  let s := if s.cadence then s else s.returnSlices b
  (s.setBayState b bayFault).endApply

/-- A bit of BAY_ERR that puts the bay in FAULT is set: EV_BAY_FAULT once (R23). -/
def State.bayError (s : State) (b : Nat) (f : Fld) : State :=
  if s.bayState b = bayGated ∨ s.bayState b = bayReset then s
  else
    let was := s.flag f b
    let s := s.setFlag f true b
    let s := if was then s else s.raise 0x0002 [(16, 1, b), (20, 4, (s.word (BAY_ERR.ENG_FAULT.addr b) 0).toNat)]
    s.failBay b

/-- BAY_FAULT: a girder fault, or an uncorrectable error in a girder's local SRAM. -/
def onBayFault (b : Fin 16) (lsram : Bool) (s : State) : State :=
  s.bayError b (if lsram then BAY_ERR.LSRAM_UC else BAY_ERR.ENG_FAULT)

/-- BAY_WATCHDOG: a kernel made no progress for 1 ms. -/
def onBayWatchdog (b : Fin 16) (s : State) : State := if s.bayState b = bayRun then s.bayError b BAY_ERR.WDOG else s

/-- A bay is gated where it stands: kind NONE always, SPARE in P1 (R21). -/
def State.gated (s : State) (b : Nat) : Bool :=
  decide (s.bayKind b = 0) || (decide (s.bayKind b = 6) && decide (s.fld PWR_STATE.STATE = 1))

/-- A bay begins to load its kernel, or its self-test; one that is gated does neither (R21, R87). -/
def State.beginLoad (s : State) (b : Nat) : State := s.setBayState b (if s.gated b then bayGated else bayLoading)

/-- What a reset of a bay clears (Table 2-12): BAY_ERR, its place in the rotation, the slices it holds. -/
def State.clearBay (s : State) (b : Nat) : State :=
  let s := (s.setWord (BAY_ERR.ENG_FAULT.addr b) 0).setFlag BAY_STATUS.IN_ROTATION false b
  (s.setBay b { s.bay b with joining := false, late := decide (s.bayState b = bayRun) || (s.bay b).late }).returnSlices b |>.leaveSlices b

/-- A load resets a bay and begins to load its kernel (R87). -/
def State.reloadBay (s : State) (b : Nat) : State := (s.clearBay b).beginLoad b

/-- A reset of FN_BAYb: work of the frame is late; STATE reads RESET until the kernel in force begins to reload from KSTORE, at
the next tick (R95, log entry 124). -/
def State.resetBay (s : State) (b : Nat) : State := (s.clearBay b).setBayState b bayReset

/-- The first bay that waits is ungated, 10 µs or more after the one before, and tests itself as it reloads (R87, R502). -/
def State.ungateNext (s : State) : State :=
  match s.pwr.ungate with
  | [] => s
  | b :: rest =>
    if s.pwr.ungated.any fun t => decide (s.clock < t + 10 * us) then s
    else
      let s : State := { s with pwr := { s.pwr with ungate := rest, ungated := some s.clock } }
      if s.bayState b = bayGated ∧ s.bayKind b = 6 then s.reloadBay b else s

/-- The bays in RESET begin to reload, and the next bay is ungated. -/
def State.tickBays (s : State) : State :=
  State.ungateNext <| (List.range 16).foldl (fun (s : State) b => if s.bayState b = bayReset then (s.beginLoad b).endApply else s) s

/-- Loaded bays join their rotations, and an apply in progress may end (R87). -/
def State.joinBays (s : State) : State :=
  let s := (List.range 16).foldl (fun (s : State) b =>
    if (s.bay b).joining then
      let s := s.setBay b { s.bay b with joining := false }
      if s.bayKind b = 6 then s else (s.setBayState b bayRun).showRotation b
    else s) s
  s.endApply

/-- What a frame start does to the bays (R22, R23): work that a faulted bay left unfinished is its OVERRUN and waits for another
bay, shares written take effect, bays in FAULT leave the rotation, loaded bays join. -/
def State.bayFrame (s : State) : State :=
  let s := s.joinBays
  (List.range 16).foldl (fun (s : State) b =>
    let x := s.bay b
    let s := if x.late ∧ s.bayState b = bayFault then (s.setFlag BAY_ERR.OVERRUN true b).returnSlices b else s
    let s := s.setBay b { x with late := false, given := 0, share := s.fld BAY_SHARE.SHARE b }
    s.showRotation b) s

/-- Where the kernel of a bay lies: space, address, length; none for SPARE. -/
def State.kernelAt (s : State) (b : Nat) : Option (Bool × Nat × Nat) :=
  if s.bayKind b = 6 then none
  else match s.cfg.kernels.find? (fun k => k.inst = (s.bay b).kernel), s.part pkKstore with
    | some k, some p => some (p.ext, p.start + k.off, k.len)
    | _, _ => none

/-- BAY_LOAD_DONE: a bay has loaded its kernel from KSTORE, or ended its self-test; it goes to IDLE, or to FAULT where that
failed, and joins at the next frame start, at once where no cadence runs. A load that reads an uncorrectable line or word fails
(Table 15-5, port 6; R409). -/
def onBayLoadDone (b : Fin 16) (ok : Bool) (s : State) : State :=
  let at' := s.kernelAt b
  let bad := at'.any fun k => if k.1 then s.lostLines k.2.1 k.2.2 ≠ [] else s.badWords k.2.1 k.2.2 ≠ []
  if s.bayState b ≠ bayLoading then s
  else
  let s := (match at' with | some k => s.reportBad k.1 k.2.1 k.2.2 (bayClass b) 6 | none => s : State)
  if ! ok ∨ bad then ((s.setFlag BAY_ERR.ENG_FAULT true b).raise 0x0002
      [(16, 1, b), (20, 4, ((s.word (BAY_ERR.ENG_FAULT.addr b) 0).toNat ||| 1))]).failBay b
  else
    let s := (s.setBay b { s.bay b with joining := true }).setBayState b bayIdle
    if s.cadence then s else s.joinBays

/-- Gating under the power states (R21, R454): P1 gates SPARE bays, one in FAULT keeps showing it; leaving P1 they are ungated in
turn. -/
def State.gateBays (s : State) (trim : Bool) : State :=
  let left := (List.range 16).filter fun b => decide (s.bayKind b = 6) && decide (s.bayState b = bayGated) && ! trim
  let s : State := { s with pwr := { s.pwr with ungate := left } }
  (List.range 16).foldl (fun (s : State) b =>
    if s.bayKind b ≠ 6 ∨ ! trim ∨ s.bayState b = bayFault then s
    else ((s.setBay b { s.bay b with joining := false }).setBayState b bayGated).endApply) s

/-! ### Which functions a role uses (log entry 19) -/

/-- The functions that any device uses, with or without a bit-stream: host control, configuration, spans, viaduct, wall
time, the strands of the safe image, memory, deck, ledgers, firmware, check units, temperatures, power. -/
def baseFns : List Nat := [0, 1, 7, 8, 9, 10, 14, 16, 17, 18, 20, 21, 22, 24]

/-- The functions of a role. -/
def roleFns (role : Nat) : List Nat :=
  match role with
  | 0 => [0, 1, 2, 3, 4, 5, 6, 7, 8, 9, 10, 12, 16, 17, 18, 19, 20, 21, 22, 24]
  | 1 => [0, 1, 7, 8, 9, 10, 11, 12, 13, 14, 15, 16, 17, 18, 19, 20, 21, 22, 23, 24]
  | 2 => [0, 1, 7, 8, 9, 10, 16, 17, 18, 20, 21, 22, 24]
  | _ => baseFns

/-- Functions come into use or go out of it; one in RESET or FAULT stays so. -/
def State.usePresent (s : State) : State :=
  (List.range 25).foldl (fun (s : State) n =>
    let here := decide (n ∈ roleFns s.role)
    if here ∧ s.fnState n = fnAbsent then s.setFnState n fnRun
    else if ¬ here ∧ s.fnState n ≠ fnAbsent then s.setFnState n fnAbsent
    else s) s

end Sys2Proof.Machine
end

