-- ==== Sys2Proof/Machine/Mem.lean ====
section
/-! DEFINITION. FN_MEM and FN_DECK (spec/15_memory.md): population and training, refresh, retraining, correctable and
uncorrectable errors, host access to external memory, deck scrub and the arbitration weights. -/

namespace Sys2Proof.Machine

/-! ### Populations and training (R391 to R393) -/

/-- A channel meets the rows of Table 15-1 that concern one channel. -/
def popSupported (c : ChannelPop) : Bool :=
  decide (c.speed ≤ 2) && decide (c.density = 16 ∨ c.density = 32) && decide (c.modules = 1 ∨ c.modules = 2) &&
  decide (c.packages = 1 ∨ c.packages = 2) && decide (c.logical = 1 ∨ c.logical = 2 ∨ c.logical = 4)

/-- Ranks per module, logical ranks included (R396). -/
def popRanks (c : ChannelPop) : Nat := c.packages * c.logical

/-- The data capacity of a channel in GiB: per rank two subchannels of 8 x4 or 4 x8 data devices. -/
def popGib (c : ChannelPop) : Nat := c.modules * popRanks c * ((if c.x8 then 8 else 16) * (c.density / 8))

/-- A channel can be used beside channel 0: it trained, is supported and holds identical modules. -/
def channelGood (pops : List ChannelPop) (c : Nat) : Bool :=
  match pops[c]?, pops[0]? with
  | some x, some y => x.trained && popSupported x && decide (x = y)
  | _, _ => false

/-- The channels that training puts to use: the largest set of Table 15-1 that is good and holds at most 2 TiB. -/
def channelsUsed (pops : List ChannelPop) : Nat :=
  let ok (n : Nat) : Bool :=
    (List.range n).all (channelGood pops) && decide (((pops.head?.map popGib).getD 0) * n ≤ 2048)
  if ok 4 then 4 else if ok 2 then 2 else if ok 1 then 1 else 0

/-- The registers of a channel after training. -/
def State.setChannel (s : State) (pops : List ChannelPop) (used c : Nat) : State :=
  match pops[c]? with
  | none => (s.setFlag MEM_CH_STATUS.USED false c).setFlag MEM_CH_STATUS.FAIL false c
  | some x =>
    let s := (s.setFlag MEM_CH_STATUS.USED (c < used) c).setFlag MEM_CH_STATUS.FAIL (! channelGood pops c) c
    let s := (s.setFlag MEM_CH_STATUS.X8 x.x8 c).setFld MEM_CH_STATUS.MODULES x.modules c
    s.setFld MEM_CH_STATUS.RANKS (popRanks x) c

/-- Every rank counts as retrained now, each channel's LFSR is reseeded (R399) with a value the spec does not give. -/
def State.freshTraining (s : State) : State :=
  let seeds := [0, 1, 2, 3].map fun c => (c, Config.freeValue (s.drawn + c) % 2 ^ 32)
  let ranks := (List.range 64).map fun r => (r, s.clock)
  let temps := (List.range 64).map fun r => (r, Sparse.get 0 s.mem.temps (r / 8))
  { s with drawn := s.drawn + 4, mem := { s.mem with
    lfsr := seeds, retrained := ranks, retrainT := temps, dueAt := [], overdue := [], owed := [], due := [] } }

/-- MEM_TRAINING_DONE: start-up training ends; WIDE and MAP act as the device reset took them (R414), the channels in use and MEM_CAP are known,
EV_MEM_TRAINED is raised. It happens once per device reset, and again after VDDQ has failed (R451). -/
def onMemTrainingDone (pops : List ChannelPop) (s : State) : State :=
  if (! s.mem.lost ∧ (s.flag MEM_STATUS.TRAINED ∨ s.fld MEM_CH_STATUS.FAIL 0 = 1)) ∨ 4 ∈ s.pwr.down then s else
  let s : State := { s with mem := { s.mem with lost := false } }
  let used := channelsUsed pops
  let wide := s.mem.wide
  let s := [0, 1, 2, 3].foldl (fun (s : State) c => s.setChannel pops used c) s
  let gib := ((pops.head?.map popGib).getD 0) * used
  let cap := if wide then gib * 2 ^ 30 / 8 * 9 else gib * 2 ^ 30
  let s := (s.setFlag MEM_STATUS.TRAINED (0 < used)).setFld MEM_STATUS.CHANNELS
    (if used = 4 then 3 else used)
  let s := s.setFld MEM_STATUS.SPEED (if 0 < used then (pops.head?.map ChannelPop.speed).getD 0 else 0)
  let s := (s.setFlag MEM_STATUS.WIDE_ACT wide).setFld MEM_STATUS.MAP_ACT s.mem.map'
  let s := (s.setPair MEM_CAP.CAP cap).freshTraining
  s.raise 0x1101 [(16, 1, 2 ^ used - 1),
    (17, 1, maskWhere 4 fun c => decide (c < pops.length) && ! channelGood pops c), (24, 8, cap)]

/-- A rank of a channel exists: 8 × module + rank. -/
def State.hasRank (s : State) (c r : Nat) : Bool :=
  s.flag MEM_CH_STATUS.USED c && decide (r / 8 < s.fld MEM_CH_STATUS.MODULES c) &&
  decide (r % 8 < s.fld MEM_CH_STATUS.RANKS c)

/-! ### Refresh (R398, R399) -/

/-- tREFI of a channel: 3.9 µs, 1.95 µs above 85 °C. -/
def State.trefi (s : State) (c : Nat) : Nat := if s.flag MEM_CH_STATUS.HOT c then 1170 else 2340

/-- DRAM_REFRESH_DUE: the refresh of a bank of a rank falls due. It is issued, with those owed; while a real-time port of
the channel is in panic the rank owes it, up to four. -/
def onDramRefreshDue (c : Fin 4) (rank : Fin 16) (bank : Fin 4) (panic : Bool) (s : State) : State :=
  let r := 16 * c.val + rank.val
  let k := 4 * r + bank.val
  let at' := (Sparse.find s.mem.due k).getD s.clock
  if ! s.hasRank c rank ∨ s.clock < at' then s else
  let n := Sparse.get 0 s.mem.owed r
  { s with mem := { s.mem with
    due := Sparse.set s.mem.due k (at' + s.trefi c)
    owed := Sparse.put 0 s.mem.owed r (if panic && decide (n < 4) then n + 1 else 0) } }

/-- One sensor reading of a channel: TEMP, HOT and EV_MEM_HOT on a change. -/
def State.senseChannel (s : State) (temps : List Nat) (c : Nat) : State :=
  if ! s.flag MEM_CH_STATUS.USED c then s else
  let t := (List.range (s.fld MEM_CH_STATUS.MODULES c)).foldl (fun m i => max m (temps.getD (2 * c + i) 0)) 0
  let hot := decide (85 < t)
  let was := s.flag MEM_CH_STATUS.HOT c
  let s := (s.setFld MEM_CH_STATUS.TEMP t c).setFlag MEM_CH_STATUS.HOT hot c
  if hot = was then s else s.raise 0x1104 [(16, 1, c), (17, 1, t), (18, 1, b2n hot)]

/-- MEM_SENSOR_READ: every 10 ms the temperature of each module, in °C, module m of channel c at position 2c + m. -/
def onMemSensorRead (temps : List Nat) (s : State) : State :=
  if ! s.flag MEM_STATUS.TRAINED ∨ s.clock < s.mem.sensedAt + 10 * ms then s else
  let ts := (List.range 8).map fun i => (i, temps.getD i 0)
  let s : State := { s with mem := { s.mem with sensedAt := s.clock, temps := ts } }
  [0, 1, 2, 3].foldl (fun (s : State) c => s.senseChannel temps c) s

/-- NEIGHBOUR_REFRESH: a row that R399 sampled gets its refresh-management command. The next value of the channel's
LFSR is not stated. -/
def onNeighbourRefresh (c : Fin 4) (s : State) : State :=
  if ! s.flag MEM_CH_STATUS.USED c ∨ s.fld MEM_CFG.NRF_P = 0 then s else
  let s : State := State.draw { s with mem := { s.mem with
    lfsr := Sparse.set s.mem.lfsr c (s.free % 2 ^ 32) } }
  s.bump MEM_CH_NRF.SAMPLES c

/-! ### Retraining (R400, R411) -/

/-- RETRAIN_INT in ticks. -/
def State.retrainInt (s : State) : Nat := s.fld MEM_CFG.RETRAIN_INT * ms

/-- Since when a retrain of a rank is due: from RETRAIN_INT after the last one, or from when its module's temperature had
moved by RETRAIN_DT, whichever came first. -/
def State.retrainDue (s : State) (r : Nat) : Option Nat :=
  let t := Sparse.get 0 s.mem.temps (r / 8)
  let t0 := Sparse.get 0 s.mem.retrainT r
  let at' := Sparse.get 0 s.mem.retrained r + s.retrainInt
  match Sparse.find s.mem.dueAt r with
  | some d => some d
  | none =>
    if at' ≤ s.clock then some at'
    else if s.fld MEM_CFG.RETRAIN_DT ≤ (t - t0) + (t0 - t) then some s.clock
    else none

/-- A rank is retrained. -/
def State.retrainRank (s : State) (r : Nat) : State :=
  State.bump { s with mem := { s.mem with
    retrained := Sparse.set s.mem.retrained r s.clock
    retrainT := Sparse.set s.mem.retrainT r (Sparse.get 0 s.mem.temps (r / 8))
    dueAt := Sparse.erase s.mem.dueAt r
    overdue := s.mem.overdue.filter (· ≠ r) } } MEM_CH_RETRAIN.DONE (r / 16)

/-- A rank is more than RETRAIN_INT past due. -/
def State.pastDue (s : State) (r : Nat) : Bool :=
  match s.retrainDue r with
  | some d => decide (d + s.retrainInt < s.clock)
  | none => false

/-- The ranks in use that are more than RETRAIN_INT past due. -/
def State.lateRanks (s : State) : List Nat :=
  (List.range 64).filter fun r => s.hasRank (r / 16) (r % 16) && s.pastDue r

/-- RANK_RETRAIN_DUE: a rank whose retrain is due is retrained; during a panic of its channel it waits, up to RETRAIN_INT,
and then runs late. In ASSIST it is not retrained; beyond RETRAIN_INT past due it is reported once. -/
def onRankRetrainDue (c : Fin 4) (rank : Fin 16) (panic : Bool) (s : State) : State :=
  let r := 16 * c.val + rank.val
  if ! s.hasRank c rank then s else
  match s.retrainDue r with
  | none => s
  | some d =>
    let held : State := { s with mem := { s.mem with dueAt := Sparse.set s.mem.dueAt r d } }
    if s.assist 16 then
      if s.pastDue r ∧ r ∉ s.mem.overdue then
        State.raise { held with mem := { held.mem with overdue := r :: s.mem.overdue } } 0x1105
          [(16, 1, c), (17, 1, rank)]
      else held
    else if panic then
      if d + s.retrainInt ≤ s.clock then (s.retrainRank r).bump MEM_CH_RETRAIN.LATE c else held
    else s.retrainRank r

/-- FN_MEM at a frame start: in ASSIST the decision of the frame retrains the ranks it names (R411); reads and writes
poisoned in the frame before are over (R402). -/
def State.memFrame (s : State) (frame : Nat) : State :=
  let s : State := { s with mem := { s.mem with poison := [] } }
  if ! s.assist 16 then s else
  match s.useDecision 16 (periodOf frame) with
  | (none, s) => s
  | (some bs, s) =>
    ((List.range 64).filter fun r => bits (leAt bs 0 8) r 1 = 1 && s.hasRank (r / 16) (r % 16)).foldl
      (fun (s : State) r => s.retrainRank r) s

/-! ### Errors (R393, R403, R404) -/

/-- The device of symbol i: four symbols of an x4 device, eight of an x8 device (R394). -/
def State.symbolDevice (s : State) (c i : Nat) : Nat := if s.flag MEM_CH_STATUS.X8 c then i / 8 else i / 4

/-- The subchannel and the rank (8 × module + rank) of a line. -/
def State.lineRank (s : State) (line : Nat) : Nat × Nat :=
  let p := s.lineAt line
  (p.sc, 8 * p.dm + p.rk)

/-- The symbol that a bit of a line lies in, by its beat and DQ, and its weight there: four beats of an x4 device's four DQ, two of
an x8 device's eight, earlier beats higher. -/
def symbolBit (x8 : Bool) (beat dq : Nat) : Nat × Nat :=
  if x8 then (8 * (dq / 8) + beat / 2, 2 ^ (8 * (1 - beat % 2) + dq % 8))
  else (4 * (dq / 4) + beat / 4, 2 ^ (4 * (3 - beat % 4) + dq % 4))

/-- The 40 error symbols of a line whose bits at some beats and DQ came wrong. -/
def errorSymbols (x8 : Bool) (flips : List BitAt) : List Nat :=
  (List.range 40).map fun i => flips.foldl (fun v f =>
    let b := symbolBit x8 f.1 f.2
    if b.1 = i ∧ f.1 < 16 ∧ f.2 < 40 then v ^^^ b.2 else v) 0

/-- How many check symbols a line has: RS(40,32) in data mode, RS(40,36) in wide-word mode (Table 15-2). -/
def State.checkSymbols (s : State) : Nat := if s.flag MEM_STATUS.WIDE_ACT then 4 else 8

/-- The data symbols of a line: bytes 2i and 2i + 1, the first in [15:8]. -/
def State.dataSymbols (s : State) (line : Nat) : List Nat :=
  let bs := s.memRead true (line * s.lineBytes) s.lineBytes
  (List.range (s.lineBytes / 2)).map fun i => leAt bs (2 * i) 1 * 256 + leAt bs (2 * i + 1) 1

/-- The bytes of data symbols. -/
def symbolBytes (l : List Nat) : List Byte := l.flatMap fun v => [BitVec.ofNat 8 (v / 256), BitVec.ofNat 8 v]

/-- The 40 symbols that a line reads as with some bits wrong: its codeword and the errors. -/
def State.readSymbols (s : State) (line : Nat) (flips : List BitAt) : List Nat :=
  List.zipWith (· ^^^ ·) (rsEncode f16 s.checkSymbols (s.dataSymbols line))
    (errorSymbols (s.flag MEM_CH_STATUS.X8 (s.channelOf line)) flips)

/-- The symbols in error of a line are within what the code corrects (R393): any 4, or those of the marked device and up to
half of what remains; in wide-word mode any 2, or the 4 of a marked x4 device. -/
def State.correctable (s : State) (line : Nat) (syms : List Nat) : Bool :=
  let c := s.channelOf line
  let x8 := s.flag MEM_CH_STATUS.X8 c
  let (sc, rk) := s.lineRank line
  let marked := s.flag MEM_ERASE.VALID c && decide (s.fld MEM_ERASE.SC c = sc ∧ s.fld MEM_ERASE.RANK c = rk)
  let others := if marked then syms.filter fun i => s.symbolDevice c i ≠ s.fld MEM_ERASE.DEV c else syms
  let per := if x8 then 8 else 4
  if s.flag MEM_STATUS.WIDE_ACT then decide (syms.length ≤ 2) || (marked && ! x8 && others.isEmpty)
  else decide (syms.length ≤ 4) || (marked && decide (others.length ≤ (8 - per) / 2))

/-- A key for the corrected symbols of a device in the hour. -/
def State.deviceKey (s : State) (line i : Nat) : Nat :=
  let c := s.channelOf line
  let (sc, rk) := s.lineRank line
  ((c * 2 + sc) * 16 + rk) * 16 + s.symbolDevice c i

/-- A line was read with some bits wrong, each a beat and a DQ: corrected and counted per device, or uncorrectable from now on,
which the port that read it reports; errors that make another codeword of it stand unseen (R394). -/
def State.lineErrors (s : State) (line : Nat) (flips : List BitAt) (port : Nat) : State :=
  let errs := errorSymbols (s.flag MEM_CH_STATUS.X8 (s.channelOf line)) flips
  let syms := (List.range 40).filter fun i => errs.getD i 0 ≠ 0
  let word := s.readSymbols line flips
  if syms.isEmpty then s
  else if (rsSyndromes f16 s.checkSymbols word).all (· = 0) then
    s.memPut true (line * s.lineBytes) (symbolBytes (word.take (s.lineBytes / 2)))
  else if s.correctable line syms then
    let s := s.bump MEM_CH_CE.CE (s.channelOf line)
    syms.foldl (fun (s : State) i =>
      let k := s.deviceKey line i
      { s with mem := { s.mem with ceHour := Sparse.set s.mem.ceHour k (Sparse.get 0 s.mem.ceHour k + 1) } }) s
  else
    let s : State := { s with mem := { s.mem with extBad := line :: s.mem.extBad.filter (· ≠ line) } }
    s.lineUc line port

/-- The ticks of an hour. -/
def hourTicks : Nat := 3600 * 1000 * ms

/-- A device over CE_LIMIT: marked where its channel holds no mark and the mode allows it, else only reported. -/
def State.markDevice (s : State) (k : Nat) : State :=
  let dev := k % 16
  let rk := k / 16 % 16
  let sc := k / 256 % 2
  let c := k / 512
  let free := ! s.flag MEM_ERASE.VALID c && ! (s.flag MEM_STATUS.WIDE_ACT && s.flag MEM_CH_STATUS.X8 c)
  let s := if free then
      (((s.setFlag MEM_ERASE.VALID true c).setFld MEM_ERASE.SC sc c).setFld MEM_ERASE.RANK rk c).setFld MEM_ERASE.DEV dev c
    else s
  s.raise 0x1103 [(16, 1, c), (17, 1, sc), (18, 1, rk), (19, 1, dev), (20, 1, b2n (! free))]

/-- CE_HOUR_BOUNDARY: at a wall-time hour boundary, in HW mode, each device whose corrected symbols reached CE_LIMIT is
marked or reported; the counts restart (R403, R411). -/
def onCeHourBoundary (s : State) : State :=
  if s.now / hourTicks = s.mem.hour then s else
  let hits := (s.mem.ceHour.filter fun x => s.fld MEM_SCRUB.CE_LIMIT ≤ x.2).map (·.1)
  let s : State := { s with mem := { s.mem with ceHour := [], hour := s.now / hourTicks } }
  if s.assist 16 then s else hits.foldl (fun (s : State) k => s.markDevice k) s

/-- MEM_PATROL_SCRUB: port 7 reads a line, of which some bits, each a beat and a DQ, came wrong (R405). -/
def onMemPatrolScrub (line : Nat) (flips : List BitAt) (s : State) : State :=
  if ! s.extUp ∨ s.pair MEM_CAP.CAP ≤ line * s.lineBytes then s
  else if line ∈ s.mem.extBad then s.lineUc line 7
  else s.lineErrors line flips 7

/-- MEM_REQUEST_TIMEOUT: a request of a port unserved for 200 µs completes poisoned (R402): a read as an uncorrectable
line, a write not performed. -/
def onMemRequestTimeout (port : Fin 8) (line : Nat) (write : Bool) (s : State) : State :=
  if ! s.extUp ∨ s.pair MEM_CAP.CAP ≤ line * s.lineBytes then s else
  let s := s.bump MEM_CH_UC.TIMEOUT (s.channelOf line)
  let s : State := { s with mem := { s.mem with poison := s.mem.poison ++ [(port.val, line, write)] } }
  if write then s else s.lineUc line port

/-! ### Host access to external memory (R410) -/

/-- A range lies within partitions, which may follow one another. -/
def coveredBy (parts : List Part) : Nat → Nat → Nat → Bool
  | 0, _, n => decide (n = 0)
  | fuel + 1, a, n =>
    if n = 0 then true else
    match parts.find? fun p => p.ext && decide (p.start ≤ a) && decide (a < p.start + p.bytes) with
    | some p => coveredBy parts fuel (p.start + p.bytes) (n - (p.start + p.bytes - a))
    | none => false

/-- The host may write a range of external memory: within MEDIA. -/
def State.extWritable (s : State) (a n : Nat) : Bool :=
  coveredBy (s.partsOf pkMedia) ((s.partsOf pkMedia).length + 1) a n

/-- The host may read a range of external memory: within MEDIA and FSYNC. -/
def State.extReadable (s : State) (a n : Nat) : Bool :=
  let ps := s.partsOf pkMedia ++ s.partsOf pkFsync
  coveredBy ps (ps.length + 1) a n

/-- The status of a CMD_MEM command whose range is refused; none where the range stands. -/
def State.memRefusal (s : State) (a n : Nat) (write : Bool) : Option Nat :=
  if a % 4 ≠ 0 then some stReserved
  else if ! s.flag MEM_STATUS.TRAINED ∨ s.pair MEM_CAP.CAP < a + n then some 0x1101
  else if ! (if write then s.extWritable a n else s.extReadable a n) then some 0x1102
  else none

/-- CMD_MEM_WRITE. -/
def onCmdMemWrite (q : Fin 24) (tag : Nat) (s : State) : State :=
  match s.cmd q tag 0x1101 with
  | none => s
  | some c =>
    match s.memRefusal (c.opnd 32 8) c.payLen true with
    | some st => s.finish c st
    | none => (s.extWrite (c.opnd 32 8) (s.payload c) 5).finish c stOk

/-- Fill a command's payload with what external memory returns. -/
def State.memFill (s : State) (c : Cmd) (n : Nat) : State :=
  s.portWrite (queuePort c.q) c.payAddr (s.memRead true (c.opnd 32 8) n)

/-- CMD_MEM_READ: `errs` are the errors met on the way, lines with the bits that came wrong, each a beat and a DQ. -/
def onCmdMemRead (q : Fin 24) (tag : Nat) (errs : List (Nat × List BitAt)) (s : State) : State :=
  match s.cmd q tag 0x1102 with
  | none => s
  | some c =>
    let a := c.opnd 32 8
    match s.memRefusal a c.payLen false with
    | some st => s.finish c st
    | none =>
      let was := s.badLines a c.payLen
      let s := was.foldl (fun (s : State) l => s.lineUc l 5) s
      let s := (errs.filter fun e => e.1 ∈ s.linesOf a c.payLen ∧ e.1 ∉ was).foldl
        (fun (s : State) e => s.lineErrors e.1 e.2 5) s
      let s := s.memFill c c.payLen
      match (s.linesOf a c.payLen).find? fun l => l ∈ s.badLines a c.payLen ∨ (5, l, false) ∈ s.mem.poison with
      | some l => s.finish c 0x1103 (result [(16, 8, l * s.lineBytes)])
      | none => s.finish c stOk

/-- The safe points of both commands: after every MiB; RESULT holds the bytes done. -/
def State.memStop (s : State) (c : Cmd) (n : Nat) : State :=
  let write := decide (c.opcode = 0x1101)
  if c.phase = .started ∧ 0 < n ∧ n * mib < c.payLen ∧ s.memRefusal (c.opnd 32 8) c.payLen write = none then
    let s := if write then s.extWrite (c.opnd 32 8) ((s.payload c).take (n * mib)) 5 else s.memFill c (n * mib)
    s.finish c stAborted (result [(24, 8, n * mib)])
  else s

/-! ### Deck (R409, R412) -/

/-- DECK_SCRUB: patrol scrub reads a deck word and finds no error (0), a correctable one (1) or an uncorrectable
one. -/
def onDeckScrub (word : Nat) (err : Fin 3) (s : State) : State :=
  if 0x800000 ≤ word then s
  else if word ∈ s.mem.deckBad then s.deckUc word 5
  else if err = 1 then s.bump DECK_ECC.CE (word / 0x80000)
  else if err = 2 then
    State.deckUc { s with mem := { s.mem with deckBad := word :: s.mem.deckBad } } word 5
  else s

/-- The weights of the classes of Table 15-6 in force (R412): DECK_ARB, or the last decision since ASSIST began (R38). -/
def State.deckWeights (s : State) : List Nat :=
  match if s.assist 17 then Sparse.find s.fnt.last 17 else none with
  | some bs => (bs.take 6).map (·.toNat)
  | none => [s.fld DECK_ARB.W_PLANE, s.fld DECK_ARB.W_OWN, s.fld DECK_ARB.W_BAY, s.fld DECK_ARB.W_FIXED,
      s.fld DECK_ARB.W_HOST, s.fld DECK_ARB.W_SCRUB]

/-- FN_DECK at a frame start: the decision of the frame, if any, becomes the last one. -/
def State.deckFrame (s : State) (frame : Nat) : State :=
  if s.assist 17 then (s.useDecision 17 (periodOf frame)).2 else s

/-- A reset of FN_MEM (Table 2-12): the controller is retrained, content and marks stay. -/
def State.memReset (s : State) : State :=
  let s : State := { s with mem := { s.mem with ceHour := [], poison := [], ucAt := [] } }
  if s.flag MEM_STATUS.TRAINED then s.freshTraining else s

/-- A reset of FN_DECK clears its counters and its status; content stays. -/
def State.deckReset (s : State) : State :=
  (s.setFld DECK_STATUS.UC_BANKS 0).setWord 0x28800C 0

end Sys2Proof.Machine
end

