-- ==== Sys2Proof/Machine/Chk.lean ====
section
/-! DEFINITION. FN_CHK (spec/20_check_units.md): register feeding and the runs of CMD_CHK_RUN. -/

namespace Sys2Proof.Machine

/-! ### Register values (R484) -/

/-- The bits of POLY, INIT, XOROUT and VAL at and above w read zero (R484). -/
def State.chkTrim (s : State) (u : Nat) : State :=
  let m := 2 ^ s.fld CHK_CFG.WIDTH u
  let s := (s.setPair CHK_POLY.POLY (s.pair CHK_POLY.POLY u % m) u).setPair CHK_INIT.INIT (s.pair CHK_INIT.INIT u % m) u
  (s.setPair CHK_XOROUT.XOROUT (s.pair CHK_XOROUT.XOROUT u % m) u).setPair CHK_VAL.VAL (s.pair CHK_VAL.VAL u % m) u

/-! ### Register writes (R487, R488, R491) -/

/-- A write to a register of a unit that a run guards: ignored on an internal unit; ignored and noted in COLLIDE while
the unit is BUSY. -/
def State.chkGuard (s : State) (u : Nat) (act : State → State) : State :=
  if u < 8 then s
  else if s.flag CHK_STATUS.BUSY u then s.setFlag CHK_STATUS.COLLIDE true u
  else act s

/-- A write of CHK_CFG: a non-zero PRESET loads a preset whole, else the fields are stored. -/
def State.writeChkCfg (s : State) (u v : Nat) : State :=
  s.chkGuard u fun s =>
    match crcPreset (bits v 12 4) with
    | some p => s.chkPreset u p
    | none =>
      let w := bits v 0 7
      let s := if 1 ≤ w ∧ w ≤ 64 then s.setFld CHK_CFG.WIDTH w u else s
      ((s.setFld CHK_CFG.REFIN (bits v 7 1) u).setFld CHK_CFG.REFOUT (bits v 8 1) u).chkTrim u

/-- A pair of the unit is written whole (R6): POLY, INIT, XOROUT or VAL. -/
def State.writeChkPair (s : State) (r : PairReg) (u v : Nat) : State :=
  s.chkGuard u fun s => s.setPair r (v % 2 ^ s.fld CHK_CFG.WIDTH u) u

/-- A write of CHK_FEED feeds four bytes, bits [7:0] first. -/
def State.writeChkFeed (s : State) (u v : Nat) : State := s.chkGuard u fun s => s.chkFeed u (leBytes 4 v)

/-- A write of CHK_FEED1 feeds bits [7:0]. -/
def State.writeChkFeed1 (s : State) (u v : Nat) : State := s.chkGuard u fun s => s.chkFeed u (leBytes 1 v)

/-- A write of CHK_CTRL: LOAD = 1 loads VAL with INIT. -/
def State.writeChkCtrl (s : State) (u v : Nat) : State :=
  s.chkGuard u fun s => if v % 2 = 1 then s.chkLoad u else s

/-! ### Runs (R489 to R492) -/

/-- The operands of CMD_CHK_RUN (Table 20-4). -/
structure ChkRun where
  unit : Nat
  op   : Nat
  cont : Bool
  src  : Nat
  dst  : Nat
  len  : Nat
  from' : Nat
  to'  : Nat
deriving DecidableEq, Repr

/-- Read the operands. -/
def chkRunOf (c : Cmd) : ChkRun :=
  ⟨c.opnd 32 1, c.opnd 33 1, decide (c.opnd 34 1 % 2 = 1), bits (c.opnd 34 1) 1 2, bits (c.opnd 34 1) 3 2,
    c.opnd 36 4, c.opnd 40 8, c.opnd 48 8⟩

/-- The bytes of a run that are fed: all, or all but the trailing CRC. -/
def State.chkFed (s : State) (r : ChkRun) : Nat :=
  if r.op < 2 then r.len else r.len - crcLen (s.chkParams r.unit)

/-- The bytes a run writes. -/
def State.chkOut (s : State) (r : ChkRun) : Nat :=
  if r.dst = 0 then 0 else
  match r.op with
  | 1 => r.len + crcLen (s.chkParams r.unit)
  | 3 => r.len - crcLen (s.chkParams r.unit)
  | _ => 0

/-- A byte of a source or a destination is refused (R490): deck by R29 and R297 and beyond 64 MiB, external memory outside
the ranges of R410. -/
def State.chkRefused (s : State) (space : Nat) (write : Bool) (a : Nat) : Bool :=
  match space with
  | 1 => decide (64 * mib ≤ a) || s.deckRefused write a 1
  | 2 => ! s.flag MEM_STATUS.TRAINED || decide (s.pair MEM_CAP.CAP ≤ a) ||
      ! (if write then s.extWritable a 1 else s.extReadable a 1)
  | _ => false

/-- A byte of the source lies in an uncorrectable word or line. -/
def State.chkBad (s : State) (space a : Nat) : Bool :=
  match space with
  | 1 => decide (a / 8 ∈ s.mem.deckBad)
  | 2 => ! (s.lostLines a 1).isEmpty
  | _ => false

/-- Source and destination overlap. -/
def ChkRun.overlap (r : ChkRun) (out : Nat) : Bool :=
  decide (r.src = r.dst) && decide (r.src ≠ 0) && decide (r.from' < r.to' + out) && decide (r.to' < r.from' + r.len)

/-- Where the run stops early: the first byte refused, or read uncorrectable (true). -/
def State.chkStopAt (s : State) (r : ChkRun) : Option (Nat × Bool) :=
  let out := s.chkOut r
  let k := (List.range (max r.len out)).find? fun i =>
    (decide (i < r.len) && (s.chkRefused r.src false (r.from' + i) || s.chkBad r.src (r.from' + i))) ||
    (decide (i < out) && s.chkRefused r.dst true (r.to' + i))
  k.map fun i => (i, ! ((decide (i < r.len) && s.chkRefused r.src false (r.from' + i)) ||
    (decide (i < out) && s.chkRefused r.dst true (r.to' + i))))

/-- The source bytes of a run. -/
def State.chkSource (s : State) (c : Cmd) (r : ChkRun) : List Byte :=
  match r.src with
  | 1 => s.memRead false r.from' r.len
  | 2 => s.memRead true r.from' r.len
  | _ => (s.payload c).take r.len

/-- Bytes written to the destination. -/
def State.chkWrite (s : State) (r : ChkRun) (bs : List Byte) : State :=
  match r.dst with
  | 1 => s.deckWrite r.to' bs fixedClass
  | 2 => s.extWrite r.to' bs 5
  | _ => s

/-- A run proceeds over the first `k` bytes: VAL loaded unless CONT, the bytes fed, the output written. -/
def State.chkProceed (s : State) (c : Cmd) (r : ChkRun) (k : Nat) : State :=
  let src := s.chkSource c r
  let fed := min k (s.chkFed r)
  let s := if r.cont then s else s.chkLoad r.unit
  let s := s.chkFeed r.unit (src.take fed)
  let crc := crcBytes (s.chkParams r.unit) (s.chkResult r.unit)
  let out := if r.op = 1 then src ++ crc else src.take (s.chkFed r)
  if 0 < s.chkOut r then s.chkWrite r (out.take k) else s

/-- A run is over: the unit is no longer BUSY and the command completes; RESULT holds res and the bytes fed. -/
def State.chkEnd (s : State) (c : Cmd) (r : ChkRun) (fed st addr : Nat) : State :=
  let res := result [(16, 8, s.chkResult r.unit), (24, 4, fed), (28, 4, addr)]
  (s.setFlag CHK_STATUS.BUSY false r.unit).finish c st res

/-- A run of an operation, from its start to its completion. -/
def State.chkRun (s : State) (q tag op : Nat) : State :=
  match s.cmd q tag 0x1601 with
  | none => s
  | some c =>
    let r := chkRunOf c
    if r.op ≠ op then s
    else if r.unit < 8 then s.finish c 0x1601
    else if 2 ≤ op ∧ r.len < crcLen (s.chkParams r.unit) then
      (s.setFlag CHK_STATUS.BUSY false r.unit).finish c 0x1604
    else if r.overlap (s.chkOut r) then (s.setFlag CHK_STATUS.BUSY false r.unit).finish c 0x1602
    else match s.chkStopAt r with
    | some (k, uc) =>
      let s := s.chkProceed c r k
      let fed := min k (s.chkFed r)
      if uc then
        let a := r.from' + k
        let at' := if r.src = 1 then a / 8 * 8 else a / s.lineBytes * s.lineBytes % 2 ^ 32
        let s := if r.src = 1 then s.deckUc (a / 8) 3 else if s.badLines a 1 = [] then s else s.lineUc (a / s.lineBytes) 5
        s.chkEnd c r fed 0x1605 at'
      else s.chkEnd c r fed 0x1602 0
    | none =>
      let src := s.chkSource c r
      let n := s.chkFed r
      let s := s.chkProceed c r (max r.len (s.chkOut r))
      if 2 ≤ op ∧ src.drop n ≠ crcBytes (s.chkParams r.unit) (s.chkResult r.unit) then
        (s.setFlag CHK_STATUS.MISMATCH true r.unit).chkEnd c r n 0x1603 0
      else s.chkEnd c r n stOk 0

/-- CHK_RUN_COMPUTE: CMD_CHK_RUN with OP 0. -/
def onChkRunCompute (q : Fin 24) (tag : Nat) (s : State) : State := s.chkRun q tag 0

/-- CHK_RUN_APPEND: CMD_CHK_RUN with OP 1. -/
def onChkRunAppend (q : Fin 24) (tag : Nat) (s : State) : State := s.chkRun q tag 1

/-- CHK_RUN_CHECK: CMD_CHK_RUN with OP 2. -/
def onChkRunCheck (q : Fin 24) (tag : Nat) (s : State) : State := s.chkRun q tag 2

/-- CHK_RUN_CHECK_STRIP: CMD_CHK_RUN with OP 3. -/
def onChkRunCheckStrip (q : Fin 24) (tag : Nat) (s : State) : State := s.chkRun q tag 3

/-- The safe points of a run: after every MiB fed (R492). -/
def State.chkAbort (s : State) (c : Cmd) (n : Nat) : State :=
  let r := chkRunOf c
  if c.phase = .started ∧ 8 ≤ r.unit ∧ 0 < n ∧ n * mib < s.chkFed r ∧ ! r.overlap (s.chkOut r) ∧
      (s.chkStopAt r).all (fun x => decide (n * mib ≤ x.1)) then
    (s.chkProceed c r (n * mib)).chkEnd c r (n * mib) stAborted 0
  else s

/-- The start of CMD_CHK_RUN: the unit is BUSY until it completes (R491). -/
def State.chkStart (s : State) (c : Cmd) : State :=
  let r := chkRunOf c
  if 8 ≤ r.unit ∧ r.unit < 32 then s.setFlag CHK_STATUS.BUSY true r.unit else s

/-- A command to a busy unit waits. -/
def State.chkWaits (s : State) (c : Cmd) : Bool := s.flag CHK_STATUS.BUSY (chkRunOf c).unit

/-- A reset of FN_CHK: units 8 to 31 keep parameters and VAL; BUSY, COLLIDE and MISMATCH clear (R493). -/
def State.chkReset (s : State) : State :=
  (List.range 24).foldl (fun (s : State) u => s.setWord (0x40038 + 0x40 * (8 + u)) 0) s

end Sys2Proof.Machine
end

