-- ==== Sys2Proof/Machine/RegMap.lean ====
section
/-! DEFINITION. The register map as the access rules read it (R5, R7, R9, R514): every register of
Table 22-2 with the access code and the legal encodings of each of its fields. -/

namespace Sys2Proof.Machine

/-- The access codes of Table 0-3. -/
inductive Acc where
  | rw | ro | wo | w1c | w1s | rc
deriving DecidableEq, Repr

/-- One field as the access rules see it: its bits, its code, and the least and the greatest encoding
that is not reserved (R9). -/
structure FieldDesc where
  lo    : Nat
  width : Nat
  acc   : Acc
  least : Nat
  most  : Nat
deriving DecidableEq, Repr

/-- One register (or pair, or indexed register) of Table 22-2. -/
structure RegDesc where
  base   : Nat
  stride : Nat
  count  : Nat
  pair   : Bool
  rst    : Nat
  fields : List FieldDesc
deriving DecidableEq, Repr

/-- The registers of block GLB (Table 22-2). -/
def regsGLB : List RegDesc :=
  [⟨0, 0, 1, false, 0x53547240,
     [⟨0, 16, .ro, 0, 0xffff⟩, ⟨16, 16, .ro, 0, 0xffff⟩]⟩,
   ⟨4, 0, 1, false, 0,
     [⟨0, 8, .ro, 0, 0xff⟩, ⟨8, 8, .ro, 0, 0xff⟩]⟩,
   ⟨0x10, 0, 1, false, 0,
     [⟨0, 2, .ro, 0, 3⟩, ⟨2, 3, .ro, 0, 7⟩, ⟨5, 1, .ro, 0, 1⟩]⟩,
   ⟨0x14, 0, 1, false, 0x500000,
     [⟨0, 1, .ro, 0, 1⟩, ⟨1, 1, .ro, 0, 1⟩, ⟨4, 4, .ro, 0, 0xf⟩, ⟨16, 9, .ro, 0, 0x1ff⟩]⟩,
   ⟨0x18, 0, 1, false, 0,
     [⟨0, 16, .wo, 0, 0xffff⟩]⟩,
   ⟨0x1c, 0, 1, false, 0,
     [⟨0, 32, .rc, 0, 0xffffffff⟩]⟩,
   ⟨0x20, 0, 1, false, 0,
     [⟨0, 26, .ro, 0, 0x3ffffff⟩]⟩,
   ⟨0x80, 0, 1, false, 0,
     [⟨0, 32, .rw, 0, 0xffffffff⟩]⟩,
   ⟨0x84, 0, 1, false, 0,
     [⟨0, 32, .rw, 0, 0xffffffff⟩]⟩,
   ⟨0x88, 0, 1, false, 0,
     [⟨0, 32, .wo, 0, 0xffffffff⟩]⟩,
   ⟨0x8c, 0, 1, false, 0,
     [⟨0, 32, .wo, 0, 0xffffffff⟩]⟩,
   ⟨0x90, 0, 1, false, 0,
     [⟨0, 32, .ro, 0, 0xffffffff⟩]⟩,
   ⟨8, 0, 1, true, 0,
     [⟨0, 64, .ro, 0, 0xffffffffffffffff⟩]⟩,
   ⟨0x40, 4, 4, false, 0,
     [⟨0, 32, .rw, 0, 0xffffffff⟩]⟩]

/-- The registers of block FNT (Table 22-2). -/
def regsFNT : List RegDesc :=
  [⟨0x10000, 0x10, 48, false, 0,
     [⟨0, 1, .rw, 0, 1⟩, ⟨8, 1, .w1s, 0, 1⟩]⟩,
   ⟨0x10004, 0x10, 48, false, 0,
     [⟨0, 1, .ro, 0, 1⟩, ⟨1, 1, .ro, 0, 1⟩, ⟨5, 3, .ro, 0, 7⟩, ⟨8, 8, .rc, 0, 0xff⟩, ⟨16, 16, .ro, 0, 0xffff⟩]⟩]

/-- The registers of block HIF (Table 22-2). -/
def regsHIF : List RegDesc :=
  [⟨0x20000, 0, 1, false, 0,
     [⟨0, 1, .rw, 0, 1⟩, ⟨1, 1, .rw, 0, 1⟩, ⟨2, 1, .rw, 0, 1⟩, ⟨4, 2, .ro, 0, 3⟩, ⟨6, 1, .ro, 0, 1⟩]⟩,
   ⟨0x20010, 4, 4, false, 0,
     [⟨0, 12, .rw, 0, 0xffe⟩]⟩,
   ⟨0x20020, 0, 1, false, 0,
     [⟨2, 24, .rw, 0, 0xffffff⟩]⟩,
   ⟨0x20024, 0, 1, false, 0,
     [⟨0, 32, .rw, 0, 0xffffffff⟩]⟩,
   ⟨0x20100, 4, 49, false, 0,
     [⟨0, 6, .rw, 0, 0x3f⟩]⟩,
   ⟨0x21000, 0x20, 24, false, 0,
     [⟨0, 1, .rw, 0, 1⟩, ⟨1, 1, .ro, 0, 1⟩, ⟨8, 4, .rw, 0, 8⟩, ⟨12, 4, .rw, 0, 8⟩, ⟨16, 6, .rw, 0, 0x3f⟩]⟩,
   ⟨0x21004, 0x20, 24, true, 0,
     [⟨0, 64, .rw, 0, 0xffffffffffffffff⟩]⟩,
   ⟨0x2100c, 0x20, 24, true, 0,
     [⟨0, 64, .rw, 0, 0xffffffffffffffff⟩]⟩,
   ⟨0x21014, 0x20, 24, false, 0,
     [⟨0, 12, .rw, 0, 0xfff⟩]⟩,
   ⟨0x21018, 0x20, 24, false, 0,
     [⟨0, 12, .rw, 0, 0xfff⟩]⟩,
   ⟨0x2101c, 0x20, 24, false, 0,
     [⟨0, 12, .ro, 0, 0xfff⟩, ⟨12, 1, .ro, 0, 1⟩, ⟨13, 1, .w1c, 0, 1⟩]⟩,
   ⟨0x21400, 0x20, 3, false, 0,
     [⟨0, 1, .rw, 0, 1⟩, ⟨1, 1, .ro, 0, 1⟩, ⟨8, 4, .rw, 0, 8⟩]⟩,
   ⟨0x21404, 0x20, 3, true, 0,
     [⟨0, 64, .rw, 0, 0xffffffffffffffff⟩]⟩,
   ⟨0x2140c, 0x20, 3, false, 0,
     [⟨0, 12, .rw, 0, 0xfff⟩]⟩,
   ⟨0x21410, 0x20, 3, false, 0,
     [⟨0, 32, .rc, 0, 0xffffffff⟩]⟩,
   ⟨0x21414, 0x20, 3, true, 0,
     [⟨0, 49, .rw, 0, 0x1ffffffffffff⟩]⟩]

/-- The registers of block CFG (Table 22-2). -/
def regsCFG : List RegDesc :=
  [⟨0x30000, 0, 1, false, 0x30,
     [⟨0, 3, .ro, 0, 7⟩, ⟨3, 1, .ro, 0, 1⟩, ⟨4, 2, .ro, 0, 3⟩, ⟨6, 1, .ro, 0, 1⟩, ⟨7, 1, .ro, 0, 1⟩, ⟨8, 8, .ro, 0, 0xff⟩]⟩,
   ⟨0x30004, 0, 1, false, 0,
     [⟨0, 32, .ro, 0, 0xffffffff⟩]⟩,
   ⟨0x30010, 0, 1, true, 0,
     [⟨0, 64, .ro, 0, 0xffffffffffffffff⟩]⟩,
   ⟨0x30020, 4, 12, false, 0,
     [⟨0, 32, .ro, 0, 0xffffffff⟩]⟩,
   ⟨0x30060, 4, 12, false, 0,
     [⟨0, 32, .ro, 0, 0xffffffff⟩]⟩,
   ⟨0x300a0, 0, 1, false, 0,
     [⟨0, 8, .ro, 0, 0xff⟩, ⟨8, 8, .ro, 0, 0xff⟩]⟩,
   ⟨0x300a4, 0, 1, false, 0,
     [⟨0, 4, .ro, 0, 0xf⟩]⟩]

/-- The registers of block CHK (Table 22-2). -/
def regsCHK : List RegDesc :=
  [⟨0x40000, 0x40, 32, false, 0x1a0,
     [⟨0, 7, .rw, 1, 0x40⟩, ⟨7, 1, .rw, 0, 1⟩, ⟨8, 1, .rw, 0, 1⟩, ⟨12, 4, .wo, 0, 5⟩, ⟨16, 1, .ro, 0, 1⟩]⟩,
   ⟨0x40008, 0x40, 32, true, 0x4c11db7,
     [⟨0, 64, .rw, 0, 0xffffffffffffffff⟩]⟩,
   ⟨0x40010, 0x40, 32, true, 0xffffffff,
     [⟨0, 64, .rw, 0, 0xffffffffffffffff⟩]⟩,
   ⟨0x40018, 0x40, 32, true, 0xffffffff,
     [⟨0, 64, .rw, 0, 0xffffffffffffffff⟩]⟩,
   ⟨0x40020, 0x40, 32, true, 0xffffffff,
     [⟨0, 64, .rw, 0, 0xffffffffffffffff⟩]⟩,
   ⟨0x40028, 0x40, 32, false, 0,
     [⟨0, 32, .wo, 0, 0xffffffff⟩]⟩,
   ⟨0x4002c, 0x40, 32, false, 0,
     [⟨0, 8, .wo, 0, 0xff⟩]⟩,
   ⟨0x40030, 0x40, 32, true, 0,
     [⟨0, 64, .ro, 0, 0xffffffffffffffff⟩]⟩,
   ⟨0x40038, 0x40, 32, false, 0,
     [⟨0, 1, .ro, 0, 1⟩, ⟨1, 1, .w1c, 0, 1⟩, ⟨2, 1, .w1c, 0, 1⟩]⟩,
   ⟨0x4003c, 0x40, 32, false, 0,
     [⟨0, 1, .wo, 0, 1⟩]⟩]

/-- The registers of block PWR (Table 22-2). -/
def regsPWR : List RegDesc :=
  [⟨0x50000, 0, 1, false, 0,
     [⟨0, 3, .ro, 0, 7⟩, ⟨3, 1, .ro, 0, 1⟩]⟩,
   ⟨0x50004, 0, 1, false, 0,
     [⟨0, 3, .ro, 0, 7⟩, ⟨4, 3, .ro, 0, 7⟩]⟩,
   ⟨0x50008, 0, 1, false, 0,
     [⟨0, 1, .ro, 0, 1⟩, ⟨1, 1, .ro, 0, 1⟩, ⟨16, 16, .rc, 0, 0xffff⟩]⟩,
   ⟨0x5000c, 0, 1, false, 0,
     [⟨0, 16, .ro, 0, 0xffff⟩, ⟨16, 1, .ro, 0, 1⟩]⟩,
   ⟨0x50010, 0, 1, false, 0,
     [⟨0, 6, .rw, 0, 0x3f⟩, ⟨8, 1, .ro, 0, 1⟩, ⟨9, 1, .ro, 0, 1⟩]⟩,
   ⟨0x50014, 0, 1, false, 0,
     [⟨0, 1, .ro, 0, 1⟩, ⟨1, 1, .ro, 0, 1⟩, ⟨4, 12, .ro, 0, 0xfff⟩]⟩,
   ⟨0x50400, 0, 1, false, 0x20001446,
     [⟨0, 8, .rw, 0, 0xff⟩, ⟨8, 8, .rw, 0, 0xff⟩, ⟨16, 16, .rw, 0, 0xffff⟩]⟩,
   ⟨0x50404, 0, 1, false, 0x106000,
     [⟨0, 16, .rw, 0, 0xffff⟩, ⟨16, 16, .rw, 0, 0xffff⟩]⟩,
   ⟨0x50408, 0, 1, false, 0xa6e,
     [⟨0, 8, .rw, 0, 0xff⟩, ⟨8, 8, .rw, 0, 0xff⟩]⟩,
   ⟨0x5040c, 0, 1, false, 0x80000d6b,
     [⟨0, 16, .rw, 0, 0xffff⟩, ⟨16, 16, .rw, 0, 0xffff⟩]⟩,
   ⟨0x50410, 0, 1, false, 0,
     [⟨0, 16, .ro, 0, 0xffff⟩]⟩,
   ⟨0x50100, 0x10, 8, false, 0xa,
     [⟨0, 5, .rw, 4, 0x10⟩]⟩,
   ⟨0x50104, 0x10, 8, false, 0,
     [⟨0, 16, .ro, 0, 0xffff⟩, ⟨16, 1, .ro, 0, 1⟩]⟩,
   ⟨0x50108, 0x10, 8, false, 0,
     [⟨0, 16, .rc, 0, 0xffff⟩]⟩,
   ⟨0x50440, 4, 16, false, 0,
     [⟨0, 16, .ro, 0, 0xffff⟩, ⟨16, 1, .ro, 0, 1⟩]⟩,
   ⟨0x50480, 4, 16, false, 0x80008000,
     [⟨0, 16, .ro, 0, 0xffff⟩, ⟨16, 16, .ro, 0, 0xffff⟩]⟩]

/-- The registers of block FWU (Table 22-2). -/
def regsFWU : List RegDesc :=
  [⟨0x60000, 0, 1, false, 0x3c03,
     [⟨0, 1, .rw, 0, 1⟩, ⟨1, 1, .rw, 0, 1⟩, ⟨2, 1, .rw, 0, 1⟩, ⟨8, 8, .rw, 1, 0xff⟩]⟩,
   ⟨0x60004, 0, 1, false, 0,
     [⟨0, 2, .ro, 0, 3⟩, ⟨2, 1, .ro, 0, 1⟩, ⟨3, 1, .ro, 0, 1⟩, ⟨4, 3, .ro, 0, 7⟩, ⟨8, 4, .ro, 0, 0xf⟩]⟩,
   ⟨0x60010, 8, 2, false, 0xff,
     [⟨0, 8, .ro, 0, 0xff⟩]⟩,
   ⟨0x60014, 8, 2, false, 0xffffffff,
     [⟨0, 32, .ro, 0, 0xffffffff⟩]⟩,
   ⟨0x60020, 4, 2, false, 0,
     [⟨0, 32, .ro, 0, 0xffffffff⟩]⟩,
   ⟨0x60030, 0, 1, false, 0,
     [⟨0, 8, .ro, 0, 0xff⟩, ⟨8, 8, .ro, 0, 0xff⟩]⟩,
   ⟨0x60034, 0, 1, false, 0,
     [⟨0, 25, .ro, 0, 0x1ffffff⟩]⟩,
   ⟨0x60038, 0, 1, true, 0,
     [⟨0, 64, .ro, 0, 0xffffffffffffffff⟩]⟩,
   ⟨0x60040, 0, 1, false, 0,
     [⟨0, 25, .rw, 0, 0x1ffffff⟩, ⟨25, 1, .rw, 0, 1⟩, ⟨26, 1, .wo, 0, 1⟩]⟩,
   ⟨0x60044, 0, 1, false, 0,
     [⟨0, 8, .ro, 0, 0xff⟩]⟩]

/-- The registers of block LNE (Table 22-2). -/
def regsLNE : List RegDesc :=
  [⟨0x80000, 0x400, 128, false, 0,
     [⟨0, 3, .rw, 0, 5⟩, ⟨3, 1, .rw, 0, 1⟩, ⟨4, 1, .rw, 0, 1⟩, ⟨5, 1, .rw, 0, 1⟩, ⟨6, 1, .rw, 0, 1⟩]⟩,
   ⟨0x80004, 0x400, 128, false, 0,
     [⟨0, 1, .ro, 0, 1⟩, ⟨1, 1, .ro, 0, 1⟩, ⟨2, 1, .ro, 0, 1⟩, ⟨3, 1, .ro, 0, 1⟩, ⟨4, 4, .ro, 0, 0xf⟩, ⟨8, 3, .ro, 0, 7⟩]⟩,
   ⟨0x80008, 0x400, 128, false, 0x43420,
     [⟨0, 3, .rw, 0, 6⟩, ⟨3, 5, .rw, 0, 0x10⟩, ⟨8, 7, .rw, 0x18, 0x40⟩, ⟨15, 5, .rw, 0, 0x14⟩, ⟨20, 3, .rw, 0, 6⟩]⟩,
   ⟨0x8000c, 0x400, 128, false, 0x43420,
     [⟨0, 23, .ro, 0, 0x7fffff⟩]⟩,
   ⟨0x80010, 0x400, 128, false, 0,
     [⟨0, 5, .ro, 0, 0x1f⟩]⟩,
   ⟨0x80020, 0x400, 128, false, 0,
     [⟨0, 7, .rw, 0, 0x7f⟩, ⟨8, 8, .rw, 0, 0xff⟩, ⟨16, 2, .rw, 0, 2⟩, ⟨20, 4, .rw, 0, 0xc⟩, ⟨24, 1, .wo, 0, 1⟩, ⟨25, 1, .ro, 0, 1⟩]⟩,
   ⟨0x80024, 0x400, 128, false, 0,
     [⟨0, 32, .ro, 0, 0xffffffff⟩]⟩,
   ⟨0x80028, 0x400, 128, false, 0,
     [⟨0, 32, .ro, 0, 0xffffffff⟩]⟩,
   ⟨0x80038, 0x400, 128, false, 0,
     [⟨0, 1, .wo, 0, 1⟩, ⟨1, 4, .rw, 0, 0xf⟩]⟩,
   ⟨0x8003c, 0x400, 128, false, 0,
     [⟨0, 16, .rc, 0, 0xffff⟩, ⟨16, 16, .rc, 0, 0xffff⟩]⟩,
   ⟨0x80030, 0x400, 128, true, 0,
     [⟨0, 64, .ro, 0, 0xffffffffffffffff⟩]⟩,
   ⟨0x80040, 0x400, 128, false, 0,
     [⟨0, 8, .ro, 0, 0xff⟩]⟩,
   ⟨0x80044, 0x400, 128, false, 0,
     [⟨0, 8, .ro, 0, 0xff⟩]⟩,
   ⟨0x80048, 0x400, 128, false, 0,
     [⟨0, 8, .ro, 0, 0xff⟩]⟩,
   ⟨0x8004c, 0x400, 128, false, 0,
     [⟨0, 8, .ro, 0, 0xff⟩]⟩,
   ⟨0x80050, 0x400, 128, false, 0,
     [⟨0, 8, .ro, 0, 0xff⟩]⟩,
   ⟨0x80054, 0x400, 128, false, 0,
     [⟨0, 8, .ro, 0, 0xff⟩]⟩,
   ⟨0x80058, 0x400, 128, false, 0,
     [⟨0, 8, .ro, 0, 0xff⟩]⟩,
   ⟨0x8005c, 0x400, 128, false, 0,
     [⟨0, 8, .ro, 0, 0xff⟩]⟩,
   ⟨0x80060, 0x400, 128, false, 0,
     [⟨0, 8, .ro, 0, 0xff⟩]⟩,
   ⟨0x80064, 0x400, 128, false, 0,
     [⟨0, 8, .ro, 0, 0xff⟩]⟩,
   ⟨0x80068, 0x400, 128, false, 0,
     [⟨0, 8, .ro, 0, 0xff⟩]⟩,
   ⟨0x8006c, 0x400, 128, false, 0,
     [⟨0, 8, .ro, 0, 0xff⟩]⟩]

/-- The registers of block SPN (Table 22-2). -/
def regsSPN : List RegDesc :=
  [⟨0xa0000, 0x1000, 16, false, 0x190a0120,
     [⟨0, 1, .rw, 0, 1⟩, ⟨1, 1, .w1s, 0, 1⟩, ⟨4, 4, .rw, 1, 4⟩, ⟨8, 4, .rw, 1, 4⟩, ⟨16, 8, .rw, 1, 0xff⟩, ⟨24, 8, .rw, 1, 0xff⟩]⟩,
   ⟨0xa0004, 0x1000, 16, false, 0,
     [⟨0, 4, .ro, 0, 0xf⟩, ⟨4, 3, .ro, 0, 7⟩, ⟨7, 4, .ro, 0, 0xf⟩, ⟨11, 1, .ro, 0, 1⟩, ⟨12, 1, .ro, 0, 1⟩, ⟨16, 12, .ro, 0, 0xfff⟩]⟩,
   ⟨0xa0008, 0x1000, 16, false, 0x40814,
     [⟨0, 7, .rw, 0, 0x7f⟩, ⟨8, 8, .rw, 0, 0xff⟩, ⟨16, 8, .rw, 0, 0xff⟩]⟩,
   ⟨0xa000c, 0x1000, 16, false, 0x700000,
     [⟨0, 16, .ro, 0, 0xffff⟩, ⟨16, 3, .ro, 0, 7⟩, ⟨20, 3, .ro, 0, 7⟩]⟩,
   ⟨0xa0010, 0x1000, 16, false, 0,
     [⟨0, 9, .ro, 0, 0x1ff⟩, ⟨16, 9, .ro, 0, 0x1ff⟩]⟩,
   ⟨0xa0014, 0x1000, 16, false, 0,
     [⟨0, 9, .ro, 0, 0x1ff⟩]⟩,
   ⟨0xa0020, 0x1000, 16, false, 0,
     [⟨0, 32, .rc, 0, 0xffffffff⟩]⟩,
   ⟨0xa0024, 0x1000, 16, false, 0,
     [⟨0, 32, .rc, 0, 0xffffffff⟩]⟩,
   ⟨0xa0028, 0x1000, 16, false, 0,
     [⟨0, 32, .rc, 0, 0xffffffff⟩]⟩,
   ⟨0xa002c, 0x1000, 16, false, 0,
     [⟨0, 32, .rc, 0, 0xffffffff⟩]⟩,
   ⟨0xa0030, 0x1000, 16, false, 0,
     [⟨0, 32, .rc, 0, 0xffffffff⟩]⟩,
   ⟨0xa0040, 0x1000, 16, false, 0,
     [⟨0, 2, .wo, 0, 2⟩, ⟨2, 1, .wo, 0, 1⟩, ⟨3, 1, .wo, 0, 1⟩]⟩]

/-- The registers of block VIA (Table 22-2). -/
def regsVIA : List RegDesc :=
  [⟨0xc0000, 0, 1, false, 0xa14ff02,
     [⟨0, 1, .rw, 0, 1⟩, ⟨1, 1, .rw, 0, 1⟩, ⟨8, 8, .rw, 1, 0xff⟩, ⟨16, 8, .rw, 1, 0xff⟩, ⟨24, 8, .rw, 1, 0xff⟩]⟩,
   ⟨0xc0004, 0, 1, false, 0,
     [⟨0, 12, .ro, 0, 0xfff⟩, ⟨16, 12, .rw, 0, 0xffe⟩]⟩,
   ⟨0xc0008, 0, 1, false, 0,
     [⟨0, 3, .ro, 0, 7⟩, ⟨4, 4, .ro, 0, 0xf⟩, ⟨8, 1, .ro, 0, 1⟩, ⟨16, 12, .ro, 0, 0xfff⟩]⟩,
   ⟨0xc000c, 0, 1, false, 0,
     [⟨0, 13, .ro, 0, 0x1fff⟩]⟩,
   ⟨0xc0010, 0, 1, false, 0,
     [⟨0, 16, .rc, 0, 0xffff⟩, ⟨16, 16, .rc, 0, 0xffff⟩]⟩,
   ⟨0xc0014, 0, 1, false, 0,
     [⟨0, 16, .rc, 0, 0xffff⟩, ⟨16, 16, .rc, 0, 0xffff⟩]⟩,
   ⟨0xc0100, 4, 16, false, 0,
     [⟨0, 1, .rw, 0, 1⟩]⟩,
   ⟨0xc0200, 4, 64, false, 0,
     [⟨0, 8, .rw, 0, 0xff⟩]⟩,
   ⟨0xc1000, 4, 4096, false, 0,
     [⟨0, 4, .rw, 0, 0xf⟩, ⟨4, 1, .rw, 0, 1⟩, ⟨5, 1, .rw, 0, 1⟩, ⟨6, 1, .ro, 0, 1⟩, ⟨8, 4, .rw, 0, 0xf⟩, ⟨12, 1, .rw, 0, 1⟩, ⟨16, 12, .ro, 0, 0xfff⟩]⟩,
   ⟨0xc5000, 4, 256, false, 0,
     [⟨0, 16, .rw, 0, 0xffff⟩]⟩,
   ⟨0xc6000, 4, 128, false, 0,
     [⟨0, 32, .ro, 0, 0xffffffff⟩]⟩]

/-- The registers of block TIM (Table 22-2). -/
def regsTIM : List RegDesc :=
  [⟨0xe0000, 0, 1, true, 0,
     [⟨0, 64, .rw, 0, 0xffffffffffffffff⟩]⟩,
   ⟨0xe0008, 0, 1, false, 0x83108002,
     [⟨0, 1, .rw, 0, 1⟩, ⟨1, 1, .rw, 0, 1⟩, ⟨2, 1, .rw, 0, 1⟩, ⟨8, 8, .rw, 0, 0xff⟩, ⟨16, 6, .rw, 1, 0x3f⟩, ⟨24, 4, .rw, 0, 0xf⟩, ⟨28, 4, .rw, 0, 0xf⟩]⟩,
   ⟨0xe000c, 0, 1, false, 0x2581e06,
     [⟨0, 8, .rw, 0, 0xff⟩, ⟨8, 8, .rw, 0, 0xff⟩, ⟨16, 16, .rw, 0, 0xffff⟩]⟩,
   ⟨0xe0010, 0, 1, false, 0,
     [⟨0, 3, .ro, 0, 7⟩, ⟨3, 1, .ro, 0, 1⟩, ⟨4, 4, .ro, 0, 0xf⟩, ⟨8, 1, .ro, 0, 1⟩, ⟨16, 12, .ro, 0, 0xfff⟩]⟩,
   ⟨0xe0014, 0, 1, false, 0,
     [⟨0, 12, .ro, 0, 0xfff⟩, ⟨16, 8, .ro, 0, 0xff⟩]⟩,
   ⟨0xe0018, 0, 1, false, 0,
     [⟨0, 32, .ro, 0, 0xffffffff⟩]⟩,
   ⟨0xe001c, 0, 1, false, 0,
     [⟨0, 32, .ro, 0, 0xffffffff⟩]⟩,
   ⟨0xe0020, 0, 1, false, 0x3e8,
     [⟨0, 16, .rw, 0, 0xffff⟩]⟩,
   ⟨0xe0024, 0, 1, false, 0,
     [⟨0, 16, .rw, 0, 0xffff⟩]⟩,
   ⟨0xe0100, 0, 1, false, 0,
     [⟨0, 1, .rw, 0, 1⟩]⟩,
   ⟨0xe0104, 0, 1, false, 0x989680,
     [⟨0, 32, .rw, 0, 0xffffffff⟩]⟩,
   ⟨0xe0108, 0, 1, false, 0x989680,
     [⟨0, 32, .rw, 0, 0xffffffff⟩]⟩,
   ⟨0xe010c, 0, 1, false, 0x9eb100,
     [⟨0, 32, .rw, 0, 0xffffffff⟩]⟩,
   ⟨0xe0110, 0, 1, false, 0x927c0,
     [⟨0, 24, .rw, 1, 0xffffff⟩]⟩,
   ⟨0xe0114, 0, 1, false, 0x124f80,
     [⟨0, 24, .rw, 0, 0xffffff⟩]⟩,
   ⟨0xe0118, 0, 1, false, 0,
     [⟨0, 2, .ro, 0, 3⟩, ⟨2, 1, .ro, 0, 1⟩, ⟨3, 1, .ro, 0, 1⟩]⟩,
   ⟨0xe011c, 0, 1, false, 0,
     [⟨0, 32, .ro, 0, 0xffffffff⟩]⟩,
   ⟨0xe0138, 0, 1, false, 2,
     [⟨0, 4, .rw, 1, 0xf⟩]⟩,
   ⟨0xe0140, 0, 1, false, 0,
     [⟨0, 32, .rc, 0, 0xffffffff⟩]⟩,
   ⟨0xe0144, 0, 1, false, 0,
     [⟨0, 32, .rc, 0, 0xffffffff⟩]⟩,
   ⟨0xe0148, 0, 1, false, 0,
     [⟨0, 32, .rc, 0, 0xffffffff⟩]⟩,
   ⟨0xe014c, 0, 1, false, 0,
     [⟨0, 32, .rc, 0, 0xffffffff⟩]⟩,
   ⟨0xe0150, 0, 1, false, 0,
     [⟨0, 32, .rc, 0, 0xffffffff⟩]⟩,
   ⟨0xe0154, 0, 1, false, 0,
     [⟨0, 32, .rc, 0, 0xffffffff⟩]⟩,
   ⟨0xe0120, 0, 1, true, 0,
     [⟨0, 64, .ro, 0, 0xffffffffffffffff⟩]⟩,
   ⟨0xe0128, 0, 1, true, 0,
     [⟨0, 64, .ro, 0, 0xffffffffffffffff⟩]⟩,
   ⟨0xe0130, 0, 1, true, 0,
     [⟨0, 64, .ro, 0, 0xffffffffffffffff⟩]⟩,
   ⟨0xe0200, 0x10, 16, false, 0,
     [⟨0, 24, .ro, 0, 0xffffff⟩]⟩,
   ⟨0xe0204, 0x10, 16, false, 0,
     [⟨0, 16, .rw, 0, 0xffff⟩]⟩]

/-- The registers of block ING (Table 22-2). -/
def regsING : List RegDesc :=
  [⟨0x100000, 4, 63, false, 0xff0000,
     [⟨0, 3, .rw, 0, 3⟩, ⟨3, 1, .rw, 0, 1⟩, ⟨8, 8, .rw, 0, 0xff⟩, ⟨16, 8, .rw, 0, 0xff⟩, ⟨24, 8, .rw, 0, 0xff⟩]⟩,
   ⟨0x100100, 0, 1, false, 0,
     [⟨0, 6, .rw, 0, 0x3f⟩]⟩,
   ⟨0x100200, 0x10, 32, false, 0,
     [⟨0, 1, .rw, 0, 1⟩, ⟨1, 1, .rw, 0, 1⟩, ⟨2, 1, .rw, 0, 1⟩, ⟨3, 1, .rw, 0, 1⟩, ⟨4, 1, .rw, 0, 1⟩]⟩,
   ⟨0x100204, 0x10, 32, false, 0,
     [⟨0, 1, .ro, 0, 1⟩, ⟨1, 1, .ro, 0, 1⟩, ⟨8, 8, .ro, 0, 0xff⟩, ⟨16, 16, .rc, 0, 0xffff⟩]⟩,
   ⟨0x100208, 0x10, 32, false, 0,
     [⟨0, 16, .rc, 0, 0xffff⟩]⟩,
   ⟨0x100800, 0x20, 8, false, 4,
     [⟨0, 1, .rw, 0, 1⟩, ⟨1, 1, .rw, 0, 1⟩, ⟨2, 1, .rw, 0, 1⟩]⟩,
   ⟨0x100804, 0x20, 8, false, 0,
     [⟨0, 32, .rw, 0, 0xffffffff⟩]⟩,
   ⟨0x100808, 0x20, 8, false, 0,
     [⟨0, 32, .rc, 0, 0xffffffff⟩]⟩,
   ⟨0x101000, 0x20, 64, false, 0x6000,
     [⟨0, 1, .rw, 0, 1⟩, ⟨1, 3, .rw, 0, 7⟩, ⟨4, 2, .rw, 0, 2⟩, ⟨6, 1, .rw, 0, 1⟩, ⟨7, 1, .rw, 0, 1⟩, ⟨8, 7, .rw, 0, 0x7f⟩]⟩,
   ⟨0x101004, 0x20, 64, false, 0,
     [⟨0, 32, .rw, 0, 0xffffffff⟩]⟩,
   ⟨0x101008, 0x20, 64, false, 0,
     [⟨0, 32, .rw, 0, 0xffffffff⟩]⟩,
   ⟨0x10100c, 0x20, 64, false, 0,
     [⟨0, 16, .rw, 0, 0xffff⟩]⟩,
   ⟨0x101010, 0x20, 64, false, 0,
     [⟨0, 13, .rw, 0x10, 0x1e00⟩, ⟨16, 13, .rw, 0x10, 0x10e0⟩]⟩,
   ⟨0x102000, 0x10, 63, false, 0,
     [⟨0, 16, .rc, 0, 0xffff⟩, ⟨16, 16, .rc, 0, 0xffff⟩]⟩,
   ⟨0x102004, 0x10, 63, false, 0,
     [⟨0, 32, .rc, 0, 0xffffffff⟩]⟩]

/-- The registers of block ENC (Table 22-2). -/
def regsENC : List RegDesc :=
  [⟨0x120000, 0, 1, false, 0x400004,
     [⟨0, 4, .rw, 1, 0xf⟩, ⟨16, 16, .rw, 0, 0xffff⟩]⟩,
   ⟨0x120004, 0, 1, false, 0,
     [⟨0, 9, .ro, 0, 0x1ff⟩]⟩,
   ⟨0x120100, 0x20, 63, false, 0x183c00,
     [⟨0, 1, .rw, 0, 1⟩, ⟨1, 1, .ro, 0, 1⟩, ⟨8, 8, .rw, 0, 0xff⟩, ⟨16, 6, .rw, 0, 0x2f⟩]⟩,
   ⟨0x120104, 0x20, 63, false, 0x2f00,
     [⟨0, 6, .rw, 0, 0x2f⟩, ⟨8, 6, .rw, 0, 0x2f⟩]⟩,
   ⟨0x120108, 0x20, 63, false, 0x43c001e0,
     [⟨0, 12, .rw, 0x10, 0xfff⟩, ⟨16, 12, .rw, 0x3c0, 0xffe⟩, ⟨28, 4, .rw, 1, 8⟩]⟩,
   ⟨0x12010c, 0x20, 63, false, 0,
     [⟨0, 16, .rc, 0, 0xffff⟩, ⟨16, 16, .rc, 0, 0xffff⟩]⟩,
   ⟨0x120110, 0x20, 63, false, 0,
     [⟨0, 16, .rc, 0, 0xffff⟩, ⟨16, 16, .rc, 0, 0xffff⟩]⟩,
   ⟨0x120114, 0x20, 63, false, 0,
     [⟨0, 16, .ro, 0, 0xffff⟩]⟩]

/-- The registers of block DEC (Table 22-2). -/
def regsDEC : List RegDesc :=
  [⟨0x140000, 0, 1, false, 0x801,
     [⟨0, 1, .rw, 0, 1⟩, ⟨8, 8, .rw, 1, 0xff⟩]⟩,
   ⟨0x140004, 0, 1, false, 0,
     [⟨0, 12, .ro, 0, 0xfff⟩, ⟨16, 12, .ro, 0, 0xfff⟩]⟩,
   ⟨0x140008, 0, 1, false, 0,
     [⟨0, 16, .ro, 0, 0xffff⟩, ⟨16, 5, .ro, 0, 0x1f⟩]⟩,
   ⟨0x140010, 0, 1, false, 0,
     [⟨0, 32, .rc, 0, 0xffffffff⟩]⟩,
   ⟨0x140014, 0, 1, false, 0,
     [⟨0, 16, .rc, 0, 0xffff⟩, ⟨16, 16, .rc, 0, 0xffff⟩]⟩,
   ⟨0x140018, 0, 1, false, 0,
     [⟨0, 32, .rc, 0, 0xffffffff⟩]⟩,
   ⟨0x14001c, 0, 1, false, 0,
     [⟨0, 16, .rc, 0, 0xffff⟩, ⟨16, 16, .rc, 0, 0xffff⟩]⟩,
   ⟨0x140020, 0, 1, false, 0,
     [⟨0, 12, .rw, 0, 0xbff⟩]⟩,
   ⟨0x140024, 0, 1, false, 0,
     [⟨0, 2, .ro, 0, 3⟩, ⟨2, 1, .ro, 0, 1⟩, ⟨3, 1, .ro, 0, 1⟩, ⟨16, 12, .ro, 0, 0xfff⟩]⟩,
   ⟨0x140028, 0, 1, false, 0,
     [⟨0, 16, .ro, 0, 0xffff⟩, ⟨16, 10, .ro, 0, 0x3ff⟩]⟩,
   ⟨0x140100, 4, 63, false, 0x80,
     [⟨0, 10, .rw, 1, 0x3ff⟩]⟩,
   ⟨0x141000, 4, 128, false, 0,
     [⟨0, 32, .ro, 0, 0xffffffff⟩]⟩]

/-- The registers of block CMP (Table 22-2). -/
def regsCMP : List RegDesc :=
  [⟨0x180000, 0, 1, false, 0,
     [⟨0, 1, .ro, 0, 1⟩, ⟨1, 1, .ro, 0, 1⟩, ⟨2, 2, .ro, 0, 3⟩, ⟨4, 5, .ro, 0, 0x1f⟩, ⟨9, 1, .ro, 0, 1⟩]⟩,
   ⟨0x180004, 0, 1, false, 0,
     [⟨0, 32, .ro, 0, 0xffffffff⟩]⟩,
   ⟨0x180008, 0, 1, false, 0,
     [⟨0, 32, .ro, 0, 0xffffffff⟩]⟩,
   ⟨0x180020, 0, 1, false, 0,
     [⟨0, 16, .rc, 0, 0xffff⟩, ⟨16, 16, .rc, 0, 0xffff⟩]⟩,
   ⟨0x180024, 0, 1, false, 0,
     [⟨0, 16, .rc, 0, 0xffff⟩, ⟨16, 16, .rc, 0, 0xffff⟩]⟩,
   ⟨0x180030, 0, 1, false, 0,
     [⟨0, 13, .ro, 0, 0x1fff⟩, ⟨16, 13, .ro, 0, 0x1fff⟩]⟩,
   ⟨0x180034, 0, 1, false, 0,
     [⟨0, 32, .ro, 0, 0xffffffff⟩]⟩,
   ⟨0x180300, 0, 1, false, 0,
     [⟨0, 1, .ro, 0, 1⟩, ⟨1, 1, .ro, 0, 1⟩, ⟨8, 8, .ro, 0, 0xff⟩]⟩,
   ⟨0x180010, 0, 1, true, 0,
     [⟨0, 64, .ro, 0, 0xffffffffffffffff⟩]⟩,
   ⟨0x180100, 4, 63, false, 0,
     [⟨0, 16, .rc, 0, 0xffff⟩, ⟨16, 1, .ro, 0, 1⟩]⟩,
   ⟨0x180200, 4, 44, false, 0,
     [⟨0, 32, .ro, 0, 0xffffffff⟩]⟩,
   ⟨0x180304, 0, 1, true, 0,
     [⟨0, 64, .ro, 0, 0xffffffffffffffff⟩]⟩,
   ⟨0x180320, 4, 12, false, 0,
     [⟨0, 32, .ro, 0, 0xffffffff⟩]⟩,
   ⟨0x180400, 0x10, 63, false, 0,
     [⟨0, 16, .rw, 0, 0xffff⟩, ⟨16, 16, .rw, 0, 0xffff⟩]⟩,
   ⟨0x180404, 0x10, 63, false, 0,
     [⟨0, 16, .rw, 0, 0xffff⟩, ⟨16, 16, .rw, 0, 0xffff⟩]⟩,
   ⟨0x180408, 0x10, 63, false, 0,
     [⟨0, 16, .rw, 0, 0xffff⟩, ⟨16, 16, .rw, 0, 0xffff⟩]⟩,
   ⟨0x18040c, 0x10, 63, false, 0x30,
     [⟨0, 3, .rw, 0, 7⟩, ⟨4, 3, .rw, 1, 3⟩, ⟨7, 1, .ro, 0, 1⟩]⟩,
   ⟨0x180800, 0, 1, true, 0,
     [⟨0, 64, .rw, 0, 0xffffffffffffffff⟩]⟩,
   ⟨0x180808, 0, 1, true, 0,
     [⟨0, 64, .w1c, 0, 0xffffffffffffffff⟩]⟩,
   ⟨0x180810, 0, 1, true, 0,
     [⟨0, 64, .ro, 0, 0xffffffffffffffff⟩]⟩,
   ⟨0x181000, 0x10, 64, false, 0,
     [⟨0, 16, .rw, 0, 0xffff⟩, ⟨16, 16, .rw, 0, 0xffff⟩]⟩,
   ⟨0x181004, 0x10, 64, false, 0,
     [⟨0, 16, .rw, 0, 0xffff⟩, ⟨16, 16, .rw, 0, 0xffff⟩]⟩,
   ⟨0x181008, 0x10, 64, false, 0,
     [⟨0, 32, .rw, 0, 0xffffffff⟩]⟩,
   ⟨0x18100c, 0x10, 64, false, 0,
     [⟨0, 32, .ro, 0, 0xffffffff⟩]⟩]

/-- The registers of block COR (Table 22-2). -/
def regsCOR : List RegDesc :=
  [⟨0x1c0000, 0, 1, false, 2,
     [⟨0, 2, .rw, 0, 2⟩]⟩,
   ⟨0x1c0004, 0, 1, false, 0x8000,
     [⟨0, 16, .rw, 0, 0x8000⟩, ⟨16, 16, .rw, 0, 0xffff⟩]⟩,
   ⟨0x1c0008, 0, 1, false, 0x8000,
     [⟨0, 16, .ro, 0, 0xffff⟩]⟩,
   ⟨0x1c000c, 0, 1, false, 0,
     [⟨0, 1, .ro, 0, 1⟩, ⟨1, 1, .ro, 0, 1⟩, ⟨2, 1, .ro, 0, 1⟩, ⟨3, 1, .ro, 0, 1⟩, ⟨4, 3, .ro, 0, 7⟩]⟩,
   ⟨0x1c0010, 0, 1, false, 0,
     [⟨0, 24, .ro, 0, 0xffffff⟩, ⟨24, 2, .ro, 0, 3⟩]⟩,
   ⟨0x1c0014, 0, 1, false, 0,
     [⟨0, 21, .ro, 0, 0x1fffff⟩]⟩,
   ⟨0x1c0018, 0, 1, false, 0,
     [⟨0, 21, .ro, 0, 0x1fffff⟩]⟩,
   ⟨0x1c001c, 0, 1, false, 0,
     [⟨0, 21, .ro, 0, 0x1fffff⟩]⟩,
   ⟨0x1c0020, 0, 1, false, 0,
     [⟨0, 32, .rc, 0, 0xffffffff⟩]⟩,
   ⟨0x1c0100, 0, 1, false, 0x8000,
     [⟨0, 16, .ro, 0, 0xffff⟩]⟩,
   ⟨0x1c0104, 4, 15, false, 0x8000,
     [⟨0, 16, .rw, 0, 0xffff⟩]⟩,
   ⟨0x1c0200, 4, 16, false, 0x8000,
     [⟨0, 16, .ro, 0, 0xffff⟩]⟩]

/-- The registers of block STR (Table 22-2). -/
def regsSTR : List RegDesc :=
  [⟨0x200000, 0, 1, false, 0,
     [⟨0, 1, .ro, 0, 1⟩]⟩,
   ⟨0x200004, 0, 1, false, 0xa,
     [⟨0, 6, .rw, 5, 60⟩, ⟨6, 1, .rw, 0, 1⟩]⟩,
   ⟨0x200008, 0, 1, false, 0x2625a,
     [⟨0, 20, .rw, 78125, 625000⟩]⟩,
   ⟨0x20000c, 0, 1, false, 0xb40f,
     [⟨0, 6, .rw, 0, 0x3f⟩, ⟨6, 1, .rw, 0, 1⟩, ⟨8, 10, .rw, 60, 0x3ff⟩]⟩,
   ⟨0x200010, 0, 1, false, 0x780c0c,
     [⟨0, 5, .rw, 10, 16⟩, ⟨8, 8, .rw, 1, 0xff⟩, ⟨16, 10, .rw, 60, 0x3ff⟩]⟩,
   ⟨0x200014, 0, 1, false, 0,
     [⟨0, 12, .rw, 0, 0xfff⟩, ⟨16, 12, .rw, 0, 0xfff⟩]⟩,
   ⟨0x200018, 0, 1, false, 0,
     [⟨0, 3, .ro, 0, 7⟩, ⟨3, 1, .ro, 0, 1⟩, ⟨4, 4, .ro, 0, 0xf⟩]⟩,
   ⟨0x20001c, 0, 1, false, 0,
     [⟨0, 12, .ro, 0, 0xfff⟩, ⟨16, 7, .ro, 0, 0x7f⟩]⟩,
   ⟨0x200020, 0, 1, false, 0,
     [⟨0, 16, .ro, 0, 0xffff⟩]⟩,
   ⟨0x200024, 0, 1, false, 0,
     [⟨0, 16, .ro, 0, 0xffff⟩]⟩,
   ⟨0x200028, 0, 1, false, 1,
     [⟨0, 1, .rw, 0, 1⟩]⟩,
   ⟨0x20002c, 0, 1, false, 0x258,
     [⟨0, 16, .rw, 0, 0xffff⟩]⟩,
   ⟨0x200100, 0x20, 16, false, 0x80700,
     [⟨0, 2, .rw, 0, 2⟩, ⟨8, 7, .rw, 0, 0x7f⟩, ⟨16, 6, .rw, 0, 0x3f⟩]⟩,
   ⟨0x200104, 0x20, 16, false, 0xdc0,
     [⟨0, 16, .rw, 0, 0x1fff⟩, ⟨16, 16, .rw, 0, 0xffff⟩]⟩,
   ⟨0x200108, 0x20, 16, false, 0,
     [⟨0, 12, .rw, 0, 0xfff⟩]⟩,
   ⟨0x20010c, 0x20, 16, false, 0,
     [⟨0, 12, .rw, 0, 0xfff⟩, ⟨16, 12, .ro, 0, 0xfff⟩]⟩,
   ⟨0x200110, 0x20, 16, false, 0,
     [⟨0, 1, .ro, 0, 1⟩, ⟨1, 1, .ro, 0, 1⟩]⟩,
   ⟨0x200114, 0x20, 16, false, 0,
     [⟨0, 16, .ro, 0, 0xffff⟩, ⟨16, 8, .ro, 0, 0xff⟩, ⟨24, 8, .rc, 0, 0xff⟩]⟩,
   ⟨0x200118, 0x20, 16, false, 0x8080,
     [⟨0, 8, .ro, 0, 0xff⟩, ⟨8, 8, .ro, 0, 0xff⟩, ⟨16, 1, .ro, 0, 1⟩]⟩,
   ⟨0x200400, 4, 16, false, 0xffffffff,
     [⟨0, 32, .rw, 0, 0xffffffff⟩]⟩,
   ⟨0x200800, 4, 512, false, 0,
     [⟨0, 5, .rw, 0, 0x1f⟩]⟩,
   ⟨0x201000, 4, 512, false, 0,
     [⟨0, 16, .rc, 0, 0xffff⟩]⟩]

/-- The registers of block DIA (Table 22-2). -/
def regsDIA : List RegDesc :=
  [⟨0x240000, 0, 1, false, 0x6b,
     [⟨0, 1, .rw, 0, 1⟩, ⟨1, 1, .rw, 0, 1⟩, ⟨2, 2, .rw, 1, 3⟩, ⟨4, 3, .rw, 0, 7⟩]⟩,
   ⟨0x240004, 0, 1, false, 0x3c1e0a,
     [⟨0, 8, .rw, 1, 0xff⟩, ⟨8, 8, .rw, 0, 0xff⟩, ⟨16, 16, .rw, 1, 0xffff⟩]⟩,
   ⟨0x240008, 0, 1, false, 0,
     [⟨0, 1, .ro, 0, 1⟩, ⟨1, 2, .ro, 0, 3⟩, ⟨3, 1, .ro, 0, 1⟩, ⟨4, 1, .ro, 0, 1⟩, ⟨5, 1, .ro, 0, 1⟩]⟩,
   ⟨0x240030, 0, 1, false, 0,
     [⟨0, 21, .ro, 0, 0x1fffff⟩]⟩,
   ⟨0x240034, 0, 1, false, 0,
     [⟨0, 16, .rc, 0, 0xffff⟩, ⟨16, 16, .rc, 0, 0xffff⟩]⟩,
   ⟨0x240010, 4, 7, false, 0,
     [⟨0, 21, .ro, 0, 0x1fffff⟩]⟩,
   ⟨0x240038, 0, 1, true, 0,
     [⟨0, 64, .ro, 0, 0xffffffffffffffff⟩]⟩,
   ⟨0x240100, 4, 64, false, 0,
     [⟨0, 32, .ro, 0, 0xffffffff⟩]⟩,
   ⟨0x240400, 4, 512, false, 0,
     [⟨0, 2, .ro, 0, 3⟩, ⟨2, 1, .ro, 0, 1⟩, ⟨3, 1, .ro, 0, 1⟩, ⟨16, 9, .ro, 0, 0x1ff⟩]⟩]

/-- The registers of block MEM (Table 22-2). -/
def regsMEM : List RegDesc :=
  [⟨0x280000, 0, 1, false, 0x3400815,
     [⟨0, 1, .rw, 0, 1⟩, ⟨1, 2, .rw, 0, 2⟩, ⟨3, 2, .rw, 0, 3⟩, ⟨8, 4, .rw, 0, 0xf⟩, ⟨16, 8, .rw, 1, 0xff⟩, ⟨24, 4, .rw, 1, 0xf⟩]⟩,
   ⟨0x280004, 0, 1, false, 0,
     [⟨0, 1, .ro, 0, 1⟩, ⟨1, 2, .ro, 0, 3⟩, ⟨3, 2, .ro, 0, 3⟩, ⟨5, 1, .ro, 0, 1⟩, ⟨6, 2, .ro, 0, 3⟩, ⟨8, 4, .ro, 0, 0xf⟩]⟩,
   ⟨0x280010, 0, 1, false, 0x4018,
     [⟨0, 8, .rw, 1, 0xff⟩, ⟨8, 8, .rw, 1, 0xff⟩]⟩,
   ⟨0x280028, 0, 1, false, 0,
     [⟨0, 3, .ro, 0, 7⟩]⟩,
   ⟨0x288000, 0, 1, false, 0x3e80008,
     [⟨0, 4, .rw, 1, 0xf⟩, ⟨16, 16, .rw, 1, 0xffff⟩]⟩,
   ⟨0x288004, 0, 1, false, 0x112444,
     [⟨0, 4, .rw, 1, 0xf⟩, ⟨4, 4, .rw, 1, 0xf⟩, ⟨8, 4, .rw, 1, 0xf⟩, ⟨12, 4, .rw, 1, 0xf⟩, ⟨16, 4, .rw, 1, 0xf⟩, ⟨20, 4, .rw, 1, 0xf⟩]⟩,
   ⟨0x288008, 0, 1, false, 0,
     [⟨0, 16, .ro, 0, 0xffff⟩, ⟨16, 1, .ro, 0, 1⟩]⟩,
   ⟨0x28800c, 0, 1, false, 0,
     [⟨0, 26, .ro, 0, 0x3ffffff⟩, ⟨26, 3, .ro, 0, 7⟩]⟩,
   ⟨0x280008, 0, 1, true, 0,
     [⟨0, 64, .ro, 0, 0xffffffffffffffff⟩]⟩,
   ⟨0x280020, 0, 1, true, 0,
     [⟨0, 64, .ro, 0, 0xffffffffffffffff⟩]⟩,
   ⟨0x280100, 0x20, 4, false, 0,
     [⟨0, 1, .ro, 0, 1⟩, ⟨1, 1, .ro, 0, 1⟩, ⟨2, 1, .ro, 0, 1⟩, ⟨3, 1, .ro, 0, 1⟩, ⟨4, 2, .ro, 0, 3⟩, ⟨6, 4, .ro, 0, 0xf⟩, ⟨16, 8, .ro, 0, 0xff⟩]⟩,
   ⟨0x280104, 0x20, 4, false, 0,
     [⟨0, 32, .rc, 0, 0xffffffff⟩]⟩,
   ⟨0x280108, 0x20, 4, false, 0,
     [⟨0, 16, .rc, 0, 0xffff⟩, ⟨16, 16, .rc, 0, 0xffff⟩]⟩,
   ⟨0x28010c, 0x20, 4, false, 0,
     [⟨0, 32, .rc, 0, 0xffffffff⟩]⟩,
   ⟨0x280110, 0x20, 4, false, 0,
     [⟨0, 16, .rc, 0, 0xffff⟩, ⟨16, 16, .rc, 0, 0xffff⟩]⟩,
   ⟨0x280114, 0x20, 4, false, 0,
     [⟨0, 1, .rw, 0, 1⟩, ⟨1, 1, .rw, 0, 1⟩, ⟨2, 4, .rw, 0, 0xf⟩, ⟨6, 4, .rw, 0, 9⟩]⟩,
   ⟨0x280200, 4, 8, false, 0x1080,
     [⟨0, 1, .rw, 0, 1⟩, ⟨1, 1, .ro, 0, 1⟩, ⟨4, 4, .rw, 1, 0xf⟩, ⟨8, 8, .rw, 1, 0xff⟩]⟩,
   ⟨0x280240, 4, 8, false, 0,
     [⟨0, 16, .rc, 0, 0xffff⟩, ⟨16, 16, .rc, 0, 0xffff⟩]⟩,
   ⟨0x288100, 4, 16, false, 0,
     [⟨0, 16, .rc, 0, 0xffff⟩, ⟨16, 16, .rc, 0, 0xffff⟩]⟩]

/-- The registers of block LDG (Table 22-2). -/
def regsLDG : List RegDesc :=
  [⟨0x2c0000, 0, 1, false, 0x1ff,
     [⟨0, 8, .rw, 0, 0xff⟩, ⟨8, 1, .rw, 0, 1⟩]⟩,
   ⟨0x2c0004, 0, 1, false, 0,
     [⟨0, 8, .ro, 0, 0xff⟩]⟩,
   ⟨0x2c0200, 0, 1, false, 0,
     [⟨0, 4, .rw, 0, 0xf⟩, ⟨4, 2, .rw, 0, 3⟩]⟩,
   ⟨0x2c0204, 0, 1, false, 0,
     [⟨0, 9, .ro, 0, 0x1ff⟩, ⟨16, 9, .ro, 0, 0x1ff⟩]⟩,
   ⟨0x2c0208, 0, 1, false, 0,
     [⟨0, 9, .ro, 0, 0x1ff⟩, ⟨16, 9, .ro, 0, 0x1ff⟩]⟩,
   ⟨0x2c020c, 0, 1, false, 0,
     [⟨0, 16, .ro, 0, 0xffff⟩]⟩,
   ⟨0x2c0300, 0, 1, false, 0,
     [⟨0, 32, .ro, 0, 0xffffffff⟩]⟩,
   ⟨0x2c0304, 0, 1, false, 0,
     [⟨0, 32, .ro, 0, 0xffffffff⟩]⟩,
   ⟨0x2c0308, 0, 1, false, 0,
     [⟨0, 32, .ro, 0, 0xffffffff⟩]⟩,
   ⟨0x2c030c, 0, 1, false, 0,
     [⟨0, 32, .ro, 0, 0xffffffff⟩]⟩,
   ⟨0x2c0420, 0, 1, false, 0,
     [⟨0, 1, .ro, 0, 1⟩]⟩,
   ⟨0x2c0500, 0, 1, false, 0xc00,
     [⟨0, 12, .ro, 0, 0xfff⟩]⟩,
   ⟨0x2c0504, 0, 1, false, 0,
     [⟨0, 32, .ro, 0, 0xffffffff⟩]⟩,
   ⟨0x2c0508, 0, 1, false, 0,
     [⟨0, 32, .ro, 0, 0xffffffff⟩]⟩,
   ⟨0x2c0600, 0, 1, false, 0,
     [⟨0, 10, .ro, 0, 0x3ff⟩, ⟨16, 10, .ro, 0, 0x3ff⟩]⟩,
   ⟨0x2c0604, 0, 1, false, 0,
     [⟨0, 16, .ro, 0, 0xffff⟩]⟩,
   ⟨0x2c0700, 0, 1, false, 0,
     [⟨0, 12, .ro, 0, 0xfff⟩, ⟨16, 8, .ro, 0, 0xff⟩]⟩,
   ⟨0x2c0704, 0, 1, false, 0,
     [⟨0, 16, .rc, 0, 0xffff⟩, ⟨16, 16, .rc, 0, 0xffff⟩]⟩,
   ⟨0x2c0800, 0, 1, false, 0,
     [⟨0, 2, .ro, 0, 3⟩]⟩,
   ⟨0x2c0100, 8, 8, false, 0,
     [⟨0, 32, .rc, 0, 0xffffffff⟩]⟩,
   ⟨0x2c0104, 8, 8, false, 0,
     [⟨0, 16, .rc, 0, 0xffff⟩, ⟨16, 16, .rc, 0, 0xffff⟩]⟩,
   ⟨0x2c0400, 0, 1, true, 0,
     [⟨0, 64, .ro, 0, 0xffffffffffffffff⟩]⟩,
   ⟨0x2c0408, 0, 1, true, 0,
     [⟨0, 64, .ro, 0, 0xffffffffffffffff⟩]⟩,
   ⟨0x2c0410, 0, 1, true, 0,
     [⟨0, 64, .ro, 0, 0xffffffffffffffff⟩]⟩,
   ⟨0x2c0418, 0, 1, true, 0,
     [⟨0, 64, .ro, 0, 0xffffffffffffffff⟩]⟩,
   ⟨0x2c0428, 0, 1, true, 0,
     [⟨0, 64, .ro, 0, 0xffffffffffffffff⟩]⟩]

/-- The registers of block RED (Table 22-2). -/
def regsRED : List RegDesc :=
  [⟨0x2e0000, 0, 1, false, 0xc8c80310,
     [⟨0, 1, .rw, 0, 1⟩, ⟨1, 2, .rw, 0, 2⟩, ⟨3, 2, .rw, 1, 2⟩, ⟨8, 4, .rw, 1, 3⟩, ⟨16, 8, .rw, 1, 0xff⟩, ⟨24, 8, .rw, 1, 0xff⟩]⟩,
   ⟨0x2e0004, 0, 1, false, 0x6400c8,
     [⟨0, 16, .rw, 0, 0xffff⟩, ⟨16, 16, .rw, 0, 0xffff⟩]⟩,
   ⟨0x2e0020, 0, 1, false, 0,
     [⟨0, 2, .ro, 0, 3⟩, ⟨2, 3, .ro, 0, 7⟩]⟩,
   ⟨0x2e0024, 0, 1, false, 0,
     [⟨0, 16, .rc, 0, 0xffff⟩, ⟨16, 16, .rc, 0, 0xffff⟩]⟩,
   ⟨0x2e0028, 0, 1, false, 0,
     [⟨0, 16, .rc, 0, 0xffff⟩]⟩,
   ⟨0x2e0010, 4, 3, false, 0,
     [⟨0, 12, .rw, 0, 0xfff⟩]⟩,
   ⟨0x2e0100, 0x20, 16, false, 0,
     [⟨0, 1, .rw, 0, 1⟩, ⟨1, 1, .rw, 0, 1⟩, ⟨8, 8, .rw, 0, 0xff⟩, ⟨16, 8, .rw, 0, 0xff⟩]⟩,
   ⟨0x2e0104, 0x20, 16, false, 0,
     [⟨0, 12, .rw, 0, 0xfff⟩, ⟨16, 12, .rw, 0, 0xfff⟩]⟩,
   ⟨0x2e0108, 0x20, 16, false, 0,
     [⟨0, 12, .rw, 0, 0xfff⟩]⟩,
   ⟨0x2e010c, 0x20, 16, false, 0,
     [⟨0, 3, .ro, 0, 7⟩, ⟨3, 1, .ro, 0, 1⟩, ⟨4, 4, .ro, 0, 0xf⟩, ⟨16, 12, .ro, 0, 0xfff⟩]⟩,
   ⟨0x2e0110, 0x20, 16, false, 0,
     [⟨0, 32, .ro, 0, 0xffffffff⟩]⟩,
   ⟨0x2e0114, 0x20, 16, false, 0,
     [⟨0, 12, .ro, 0, 0xfff⟩, ⟨16, 8, .ro, 0, 0xff⟩]⟩,
   ⟨0x2e0118, 0x20, 16, false, 0,
     [⟨0, 32, .ro, 0, 0xffffffff⟩]⟩]

/-- The registers of block BAY (Table 22-2). -/
def regsBAY : List RegDesc :=
  [⟨0x300000, 0x1000, 16, false, 0,
     [⟨0, 4, .ro, 0, 0xf⟩, ⟨4, 4, .ro, 0, 0xf⟩, ⟨8, 1, .ro, 0, 1⟩]⟩,
   ⟨0x300004, 0x1000, 16, false, 0,
     [⟨0, 1, .w1c, 0, 1⟩, ⟨1, 1, .w1c, 0, 1⟩, ⟨2, 1, .w1c, 0, 1⟩, ⟨3, 1, .w1c, 0, 1⟩, ⟨4, 1, .w1c, 0, 1⟩]⟩,
   ⟨0x300008, 0x1000, 16, false, 0,
     [⟨0, 16, .ro, 0, 0xffff⟩]⟩,
   ⟨0x30000c, 0x1000, 16, false, 0,
     [⟨0, 8, .rw, 0, 0xff⟩]⟩]

/-- The registers of the block that an address lies in (Table 22-1); none outside every block (R514). -/
def blockRegs (a : Nat) : List RegDesc :=
  if a ≤ 0xffff then regsGLB
  else if a ≤ 0x1ffff then regsFNT
  else if a ≤ 0x2ffff then regsHIF
  else if a ≤ 0x3ffff then regsCFG
  else if a ≤ 0x4ffff then regsCHK
  else if a ≤ 0x5ffff then regsPWR
  else if a ≤ 0x7ffff then regsFWU
  else if a ≤ 0x9ffff then regsLNE
  else if a ≤ 0xbffff then regsSPN
  else if a ≤ 0xdffff then regsVIA
  else if a ≤ 0xfffff then regsTIM
  else if a ≤ 0x11ffff then regsING
  else if a ≤ 0x13ffff then regsENC
  else if a ≤ 0x17ffff then regsDEC
  else if a ≤ 0x1bffff then regsCMP
  else if a ≤ 0x1fffff then regsCOR
  else if a ≤ 0x23ffff then regsSTR
  else if a ≤ 0x27ffff then regsDIA
  else if a ≤ 0x2bffff then regsMEM
  else if a ≤ 0x2dffff then regsLDG
  else if a ≤ 0x2fffff then regsRED
  else if a ≤ 0x30ffff then regsBAY
  else []

/-- Whether an address is that of a word of the register, and if so which instance and whether it is
the `_HI` word of a pair. -/
def RegDesc.hit (d : RegDesc) (a : Nat) : Option (Nat × Bool) :=
  let off := a - d.base
  let i := if d.stride = 0 then 0 else off / d.stride
  let r := if d.stride = 0 then off else off % d.stride
  if a < d.base ∨ d.count ≤ i then none
  else if r = 0 then some (i, false)
  else if d.pair ∧ r = 4 then some (i, true)
  else none

/-- The register that holds the aligned word at an address, with the instance and the half. -/
def findReg (a : Nat) : List RegDesc → Option (RegDesc × Nat × Bool)
  | [] => none
  | d :: ds =>
    match d.hit a with
    | some (i, hi) => some (d, i, hi)
    | none => findReg a ds

/-- The register at an aligned byte address of the register space; none where it is unmapped (R514). -/
def regAt (a : Nat) : Option (RegDesc × Nat × Bool) := findReg a (blockRegs a)

/-- The reset value of the word at an address (R10); index-dependent resets stand in `State.reset`. -/
def resetWord (a : Nat) : Word :=
  match regAt a with
  | some (d, _, hi) => BitVec.ofNat 32 (if hi then d.rst / 2 ^ 32 else d.rst)
  | none => 0

end Sys2Proof.Machine
end

