-- ==== Sys2Proof/Machine/Cfg.lean ====
section
/-! DEFINITION. FN_CFG, the structure bit-stream (spec/03_bitstream.md): the container, staging, the checks
of Table 3-11, APPLY, automatic loading. How a load takes effect stands in Load.lean. -/

namespace Sys2Proof.Machine

/-! ### Flash (R467) -/

/-- What an erased byte of flash reads. -/
def erased : Byte := 0xFF

/-- Bytes of the boot flash. -/
def State.flashRead (s : State) (a n : Nat) : List Byte := readBytes erased s.flash a n

/-- Where the lamp calibration store begins (Table 19-1). -/
def calStore : Nat := 0x04400000

/-! ### Stage encodings (Table 3-13) and statuses (Table 3-11) -/

/-- EMPTY. -/
def sgEmpty : Nat := 0
/-- RECEIVING. -/
def sgReceiving : Nat := 1
/-- COMPLETE. -/
def sgComplete : Nat := 2
/-- VERIFYING. -/
def sgVerifying : Nat := 3
/-- VERIFIED. -/
def sgVerified : Nat := 4
/-- FAILED. -/
def sgFailed : Nat := 5
/-- PENDING. -/
def sgPending : Nat := 6
/-- APPLYING. -/
def sgApplying : Nat := 7

/-- The STAGE field. -/
def State.stage (s : State) : Nat := s.fld CFG_STATUS.STAGE

/-- A refused check of Table 3-11: the status, the section-table index, the byte offset in the container. -/
structure CfgFail where
  status  : Nat
  sect : Nat
  offset  : Nat
deriving DecidableEq, Repr

/-- The mark of a failure that lies in no section: the spec does not say which section-table index RESULT holds there, and a free
value stands in its place (log entry 6). -/
def noSection : Nat := 0xFFFF

/-! ### The container (R66 to R68) -/

/-- A section-table entry (Table 3-2), with its index. -/
structure Sect where
  idx  : Nat
  typ  : Nat
  inst : Nat
  off  : Nat
  len  : Nat
  rsv  : Nat
  hash : List Byte
deriving DecidableEq, Repr

/-- The number of sections. -/
def sectCount (bs : List Byte) : Nat := leAt bs 9 1

/-- The section table. -/
def sects (bs : List Byte) : List Sect :=
  (List.range (sectCount bs)).map fun i =>
    let o := 512 + 64 * i
    ⟨i, leAt bs o 2, leAt bs (o + 2) 2, leAt bs (o + 4) 4, leAt bs (o + 8) 4, leAt bs (o + 12) 4, bytesAt bs (o + 16) 48⟩

/-- The bytes of a section. -/
def Sect.body (x : Sect) (bs : List Byte) : List Byte := bytesAt bs x.off x.len

/-- The section of a type, if any. -/
def sectOf (bs : List Byte) (typ : Nat) : Option Sect := (sects bs).find? fun x => x.typ = typ

/-- PARTIAL. -/
def isPartial (bs : List Byte) : Bool := leAt bs 6 2 % 2 = 1

/-- ROLE of the header. -/
def roleOf (bs : List Byte) : Nat := leAt bs 8 1

/-- Bytes that are all zero. -/
def allZero (bs : List Byte) : Bool := bs.all (· = 0)

/-- The message that OWNER_SIG signs, whose digest is the structure hash (R70). -/
def signedPart (bs : List Byte) : List Byte := bs.take 176 ++ bytesAt bs 512 (64 * sectCount bs)

/-- The structure hash. -/
def structHash (bs : List Byte) : List Byte := sha384 (signedPart bs)

/-- The first failing item of a list of (good, failure) pairs. -/
def firstFail : List (Bool × CfgFail) → Option CfgFail
  | [] => none
  | (true, _) :: l => firstFail l
  | (false, f) :: _ => some f

/-! ### Check 1 (R66 to R68, R73, R75) -/

/-- How many sections of a type a container may hold: least and most (Table 3-3). -/
def sectBounds (pier partial' : Bool) (typ : Nat) : Nat × Nat :=
  match typ with
  | 1 => if partial' then (0, 1) else (1, 1)
  | 2 => if partial' then (0, 0) else (0, 1)
  | 3 => if partial' then (0, 0) else (1, 1)
  | 4 => (0, 64)
  | 5 => (0, 1)
  | 6 => if pier then (if partial' then (0, 1) else (1, 1)) else (0, 0)
  | _ => (0, 0)

/-- A KERNEL section follows Table 3-5. Which check refuses one that does not is not stated: check 1 (log entry 127). -/
def kernelForm (k : List Byte) : Bool :=
  decide (128 ≤ k.length) && decide (1 ≤ leAt k 0 2) && decide (leAt k 0 2 ≤ 5) && decide (leAt k 2 2 ≤ 3) &&
  decide (1 ≤ leAt k 8 4) && decide (leAt k 8 4 ≤ mib) && decide (k.length = 128 + leAt k 8 4) &&
  decide (leAt k 12 4 ≤ 65536) && allZero (bytesAt k 16 16)

/-- The sections lie in table order, aligned to 64, without overlap, the padding between them zero; the
byte at which the next one may begin. -/
def sectsPlaced (bs : List Byte) : List Sect → Nat → Option CfgFail
  | [], at' => if allZero (bytesAt bs at' (leAt bs 12 4 - 4 - at')) then none else some ⟨0x0204, noSection, at'⟩
  | x :: xs, at' =>
    if x.off % 64 ≠ 0 ∨ x.off < at' ∨ leAt bs 12 4 < x.off + x.len + 4 ∨ x.rsv ≠ 0 then some ⟨0x0204, x.idx, 512 + 64 * x.idx⟩
    else if ¬ allZero (bytesAt bs at' (x.off - at')) then some ⟨0x0204, x.idx, at'⟩
    else sectsPlaced bs xs (x.off + x.len)

/-- Check 1 of Table 3-11. -/
def check1 (bs : List Byte) : Option CfgFail :=
  let h (ok : Bool) (o : Nat) : Bool × CfgFail := (ok, ⟨0x0204, noSection, o⟩)
  let n := sectCount bs
  let xs := sects bs
  let p := isPartial bs
  match firstFail [
    h (bytesAt bs 0 4 == [0x50, 0x58, 0x42, 0x53]) 0, h (leAt bs 4 2 == 1) 4, h (decide (leAt bs 6 2 ≤ 1)) 6,
    h (decide (roleOf bs ≤ 2)) 8, h (decide (1 ≤ n) && decide (n ≤ 64)) 9, h (decide (leAt bs 10 1 ≤ 64)) 10,
    h (leAt bs 11 1 == 0) 11, h (leAt bs 12 4 == bs.length) 12, h (allZero (bytesAt bs 20 4)) 20,
    h (p || allZero (bytesAt bs 32 48)) 32, h (allZero (bytesAt bs 272 240)) 272,
    h (decide (512 + 64 * n + 4 ≤ bs.length)) 9] with
  | some f => some f
  | none =>
    match sectsPlaced bs xs (512 + 64 * n) with
    | some f => some f
    | none =>
      match xs.find? fun x => decide (x.typ = 0) || decide (6 < x.typ) || (decide (x.typ ≠ 4) && decide (x.inst ≠ 0)) ||
          (decide (x.typ = 4) && (decide (255 < x.inst) || !kernelForm (x.body bs) ||
            decide (1 < xs.countP fun y => y.typ = 4 && y.inst = x.inst))) ||
          decide ((sectBounds (roleOf bs = 1) p x.typ).2 < xs.countP fun y => y.typ = x.typ) with
      | some x => some ⟨0x0204, x.idx, x.off⟩
      | none =>
        if [1, 3, 6].any fun t => decide ((xs.countP fun y => y.typ = t) < (sectBounds (roleOf bs = 1) p t).1) then
          some ⟨0x0204, noSection, 512⟩
        else none

/-! ### Checks 2 to 8 -/

/-- The fused owner-key hash accepts a key (R71). -/
def State.ownerOk (s : State) (key : List Byte) : Bool :=
  allZero s.fuses.owner || sha384 key == s.fuses.owner

/-- A KERNEL sects vendor signature holds under a key that is not revoked (R75). -/
def State.vendorOk (s : State) (k : List Byte) : Bool :=
  let key := leAt k 2 2
  decide (bits (s.fld CFG_VENDOR_REVOKE.REVOKE) key 1 = 0) &&
  ecdsaVerify (Config.stoltilKey key) (bytesAt k 32 96) (sha384 (k.take 32 ++ k.drop 128))

/-- The structure hash in force, octets in order (Table 3-13). -/
def State.hashInForce (s : State) : List Byte := (List.range 12).flatMap fun k => beBytes 4 (s.fld CFG_HASH.HASH k)

/-- Checks 1 to 7 of Table 3-11, which need nothing of what is in force but fuses and the silicon revision. -/
def State.checks1to7 (s : State) (bs : List Byte) : Option CfgFail :=
  match check1 bs with
  | some f => some f
  | none =>
    let h (ok : Bool) (st o : Nat) : Bool × CfgFail := (ok, ⟨st, noSection, o⟩)
    firstFail ([
      h (leAt bs 16 2 == 0x7240) 0x0205 16,
      h (decide (leAt bs 18 2 ≤ s.fuses.rev)) 0x0205 18,
      h (s.ownerOk (bytesAt bs 80 96)) 0x0206 80,
      h (ecdsaVerify (bytesAt bs 80 96) (bytesAt bs 176 96) (structHash bs)) 0x0207 176,
      h (decide (s.fld CFG_SVN.MIN ≤ leAt bs 10 1)) 0x0208 10] ++
      (sects bs).map (fun x => (sha384 (x.body bs) == x.hash, ⟨0x0209, x.idx, x.off⟩)) ++
      ((sects bs).filter fun x => x.typ = 4).map fun x => (s.vendorOk (x.body bs), ⟨0x020A, x.idx, x.off⟩))

/-- Check 8: a partial's BASE_HASH and ROLE are those in force (R83). -/
def State.check8 (s : State) (bs : List Byte) : Option CfgFail :=
  if isPartial bs then
    if ¬ s.flag CFG_STATUS.IN_FORCE ∨ bytesAt bs 32 48 ≠ s.hashInForce then some ⟨0x020B, noSection, 32⟩
    else if roleOf bs ≠ s.role then some ⟨0x020B, noSection, 8⟩
    else none
  else none

/-! ### Check 9: BAYMAP (R74) -/

/-- The kernels of a container: INSTANCE and KIND. -/
def kernelsOf (bs : List Byte) : List (Nat × Nat) :=
  ((sects bs).filter fun x => x.typ = 4).map fun x => (x.inst, leAt (x.body bs) 0 2)

/-- The kinds that a role permits (R74). -/
def kindsOf (role : Nat) : List Nat :=
  match role with
  | 0 => [2, 5, 3, 6, 0]
  | 1 => [1, 3, 4, 6, 0]
  | _ => [0]

/-- The kinds of which a role needs at least one bay (R74). -/
def kindsNeeded (role : Nat) : List Nat :=
  match role with
  | 0 => [2]
  | 1 => [1, 3, 4]
  | _ => []

/-- A BAYMAP entry applies: every one of a full bit-stream, those with CHANGE in a partial. -/
def entryApplies (partial' : Bool) (m : List Byte) (b : Nat) : Bool := !partial' || decide (leAt m (8 * b + 1) 1 % 2 = 1)

/-- The entry of bay `b` after a load. -/
def State.entryAfter (s : State) (bs m : List Byte) (b : Nat) : BayEnt :=
  if entryApplies (isPartial bs) m b then ⟨leAt m (8 * b) 1, leAt m (8 * b + 2) 2⟩
  else Sparse.get ⟨0, 0xFFFF⟩ s.cfg.entries b

/-- Check 9 of Table 3-11. -/
def State.check9 (s : State) (bs : List Byte) : Option CfgFail :=
  match sectOf bs 1 with
  | none => none
  | some x =>
    let m := x.body bs
    let p := isPartial bs
    let fail (o : Nat) : CfgFail := ⟨0x020C, x.idx, x.off + o⟩
    if x.len ≠ 128 then some (fail 0) else
    let kernels := kernelsOf bs ++ (if p then s.cfg.kernels.map fun k => (k.inst, k.kind) else [])
    let good (b : Nat) : Bool :=
      let kind := leAt m (8 * b) 1
      let kernel := leAt m (8 * b + 2) 2
      let flags := leAt m (8 * b + 1) 1
      decide (flags ≤ (if p then 1 else 0)) && allZero (bytesAt m (8 * b + 5) 3) &&
      (!entryApplies p m b ||
        (decide (kind ∈ kindsOf (roleOf bs)) &&
          (if kind = 0 ∨ kind = 6 then decide (kernel = 0xFFFF) else decide ((kernel, kind) ∈ kernels))))
    match (List.range 16).find? fun b => !good b with
    | some b => some (fail (8 * b))
    | none =>
      if (kindsNeeded (roleOf bs)).all fun k => (List.range 16).any fun b => decide ((s.entryAfter bs m b).kind = k) then none
      else some (fail 0)

/-! ### Check 10: PART and KSTORE (R76 to R78) -/

/-- The entries of a PART section. -/
def partsIn (m : List Byte) : List Part :=
  (List.range (m.length / 16)).map fun i =>
    ⟨leAt m (16 * i) 1, decide (leAt m (16 * i + 1) 1 = 1), leAt m (16 * i + 2) 2, leAt m (16 * i + 4) 4, leAt m (16 * i + 8) 4⟩

/-- The roles, the permitted spaces (deck, external) and whether exactly one is needed (Table 3-7). -/
def partRule (kind : Nat) : List Nat × Bool × Bool × Bool :=
  match kind with
  | 1 => ([1], true, false, true)
  | 2 => ([1], true, false, true)
  | 3 => ([1], true, false, true)
  | 4 => ([1], true, false, true)
  | 5 => ([1], true, true, false)
  | 6 => ([0, 1], true, true, false)
  | 7 => ([0, 1, 2], true, false, true)
  | 8 => ([0, 1, 2], true, true, true)
  | 9 => ([0, 1, 2], true, true, false)
  | 10 => ([0], false, true, false)
  | 11 => ([0], false, true, false)
  | 12 => ([0, 1], true, true, false)
  | _ => ([], false, false, false)

/-- Two partitions overlap. -/
def Part.overlaps (p q : Part) : Bool :=
  p.ext == q.ext && decide (p.base < q.base + q.size) && decide (q.base < p.base + p.size)

/-- First fit of a kernel in KSTORE among the kernels held there. -/
def firstFit (room len : Nat) (held : List Kernel) : Option Nat :=
  let free (o : Nat) : Bool := decide (o + len ≤ room) && held.all fun k => decide (o + len ≤ k.off) || decide (k.off + k.len ≤ o)
  (0 :: held.map fun k => k.off + k.len).foldl (fun best o =>
    if free o then (match best with | some b => some (min b o) | none => some o) else best) none

/-- The kernels of a container placed in table order, first fit, after those held (R76). -/
def placeKernels (room : Nat) (bs : List Byte) : List Sect → List Kernel → Option (List Kernel)
  | [], held => some held
  | x :: xs, held =>
    match firstFit room x.len held with
    | some o => placeKernels room bs xs (held ++ [⟨x.inst, leAt (x.body bs) 0 2, x.hash, o, x.len⟩])
    | none => none

/-- Check 10 of Table 3-11. It also refuses a partial that uses again an INSTANCE in use, for which the spec names no check (R76,
log entry 127). -/
def State.check10 (s : State) (bs : List Byte) : Option CfgFail :=
  let ks := (sects bs).filter fun x => x.typ = 4
  if isPartial bs then
    let clash := ks.find? fun x => s.cfg.kernels.any fun k => k.inst = x.inst
    let room := match s.part pkKstore with | some p => p.bytes | none => 0
    match clash with
    | some x => some ⟨0x020D, x.idx, x.off⟩
    | none => match placeKernels room bs ks s.cfg.kernels with
      | some _ => none
      | none => some ⟨0x020D, (ks.head?.map (·.idx)).getD noSection, (ks.head?.map (·.off)).getD 512⟩
  else
    match sectOf bs 3 with
    | none => none
    | some x =>
      let m := x.body bs
      let ps := partsIn m
      let role := roleOf bs
      let fail (o : Nat) : CfgFail := ⟨0x020D, x.idx, x.off + o⟩
      let good (p : Part × Nat) : Bool :=
        let q := p.1
        let i := p.2
        let r := partRule q.kind
        decide (role ∈ r.1) && decide (leAt m (16 * i + 1) 1 ≤ 1) && (if q.ext then r.2.2.1 else r.2.1) && decide (1 ≤ q.size) &&
        allZero (bytesAt m (16 * i + 12) 4) && decide (q.kind ≠ 1 ∨ (q.base = 0 ∧ q.size = 1024)) &&
        decide (q.kind ≠ 12 ∨ q.inst < 16) && decide (q.kind ≠ 7 ∨ 32 ≤ q.size) &&
        (if q.ext then s.flag MEM_STATUS.TRAINED && decide (q.start + q.bytes ≤ s.pair MEM_CAP.CAP)
          else decide (q.base + q.size ≤ 16384)) &&
        ps.zipIdx.all fun c => decide (c.2 = i) || (!q.overlaps c.1 && decide ¬ (c.1.kind = q.kind ∧ c.1.inst = q.inst))
      if 64 < ps.length ∨ x.len % 16 ≠ 0 then some (fail 0) else
      match ps.zipIdx.find? fun p => !good p with
      | some p => some (fail (16 * p.2))
      | none =>
        let count (k : Nat) : Nat := ps.countP fun p => p.kind = k
        let once := (List.range 13).all fun k =>
          !((partRule k).2.2.2 && decide (role ∈ (partRule k).1)) || decide (count k = 1)
        let sum : Nat := (ks.map (·.len)).foldl (· + ·) 0
        let runs := match sectOf bs 1 with
          | some b => (List.range 16).any fun i => decide (leAt (b.body bs) (8 * i) 1 ∉ [0, 6])
          | none => false
        let kroom : Nat := ((ps.filter fun p => p.kind = 9).map Part.bytes).foldl (· + ·) 0
        if once && decide (count 9 ≤ 1) && (!runs || decide (count 9 = 1)) && decide (sum ≤ kroom) then none else some (fail 0)

/-! ### Check 11: ROUTE (R79, R80) -/

/-- The binding of span port `k` in a ROUTE section (Table 3-8). -/
def bindingIn (m : List Byte) (k : Nat) : Binding :=
  let f := leAt m (8 * k + 3) 1
  ⟨leAt m (8 * k) 1, leAt m (8 * k + 1) 1, leAt m (8 * k + 2) 1, decide (f % 2 = 1), decide (f / 2 % 2 = 1), leAt m (8 * k + 4) 1⟩

/-- The lanes of a binding. -/
def Binding.lanes (x : Binding) : List Nat := (List.range (lanesOf x.width)).map (x.first + ·)

/-- The entries of a PARAM section: address and value. -/
def paramsIn (m : List Byte) : List (Nat × Nat) :=
  (List.range (m.length / 8)).map fun i => (leAt m (8 * i) 4, leAt m (8 * i + 4) 4)

/-- The lanes that something other than a span port holds (R79): PCIe at its strapped width, SDI receivers
and Ethernet ports that PARAM enables. A 25GBASE-R port holds the first lane of its quad. -/
def State.takenLanes (s : State) (params : List (Nat × Nat)) : List Nat :=
  let last (a : Nat) : Option Nat := (params.reverse.find? fun p => p.1 = a).map (·.2)
  let pcie := match s.pins.pcieWidth with
    | 0 => [120]
    | 1 => [120, 121, 122, 123]
    | _ => (List.range 8).map (120 + ·)
  pcie ++
  ((List.range 32).filter fun i => (last (ING_SDI_CFG.EN.addr i)).any fun v => decide (bits v ING_SDI_CFG.EN.lo 1 = 1)) ++
  ((List.range 8).flatMap fun e =>
    match last (ING_ETH_CFG.EN.addr e) with
    | some v =>
      if bits v ING_ETH_CFG.EN.lo 1 = 1 then
        (if bits v ING_ETH_CFG.MODE.lo ING_ETH_CFG.MODE.width = 0 then (List.range 4).map (32 + 4 * e + ·) else [32 + 4 * e])
      else []
    | none => [])

/-- Check 11 of Table 3-11. Without a ROUTE a partial keeps the bindings in force, whose lanes its PARAM must leave alone. -/
def State.check11 (s : State) (bs : List Byte) : Option CfgFail :=
  match sectOf bs 2 with
  | none =>
    match sectOf bs 5 with
    | some p =>
      let taken := s.takenLanes (paramsIn (p.body bs))
      if isPartial bs ∧ (List.range 16).any (fun k => (s.binding k).lanes.any (· ∈ taken)) then some ⟨0x020E, p.idx, p.off⟩ else none
    | none => none
  | some x =>
    let m := x.body bs
    let n := leAt m 128 4
    let fail (o : Nat) : CfgFail := ⟨0x020E, x.idx, x.off + o⟩
    let taken := s.takenLanes (match sectOf bs 5 with | some p => paramsIn (p.body bs) | none => [])
    let bs' : List (Binding × Nat) := (List.range 16).map fun k => (bindingIn m k, k)
    if x.len < 136 ∨ 4352 < n ∨ x.len ≠ 136 + 8 * n ∨ leAt m 132 4 ≠ 0 then some (fail 128) else
    let good (p : Binding × Nat) : Bool :=
      let c := p.1
      let k := p.2
      decide (c.width ≤ 4) && decide (leAt m (8 * k + 3) 1 ≤ 3) && allZero (bytesAt m (8 * k + 5) 3) && decide (c.rateMax ≤ 6) &&
      (decide (c.width = 0) ||
        (decide (c.first % lanesOf c.width = 0) && decide (c.first + lanesOf c.width ≤ 128) &&
          c.lanes.all (fun l => decide (l ∉ taken) && bs'.all fun d => decide (d.2 = k) || decide (l ∉ d.1.lanes)))) &&
      (!c.bypassEn || (bs'.any fun d => decide (d.2 = c.peer) && decide (d.1.width = c.width) &&
        decide (d.1.peer = k)))
    match bs'.find? fun p => !good p with
    | some p => some (fail (8 * p.2))
    | none =>
      match (List.range n).find? fun i =>
          let o := 136 + 8 * i
          let key := leAt m o 2
          decide (leAt m (o + 4) 4 ≠ 0) || (if key / 2 ^ 15 = 0 then decide (bits key 12 3 ≠ 0) else decide (bits key 8 7 ≠ 0)) with
      | some i => some (fail (136 + 8 * i))
      | none => none

/-! ### Check 12: PARAM (R81) -/

/-- Whether an address lies in a register of `n` instances `stride` apart. -/
def inRegs (a base stride n : Nat) : Bool :=
  decide (base ≤ a) && decide (a < base + stride * (n - 1) + 4) && decide ((a - base) % stride < 4)

/-- The registers that PARAM may set (R81 and the words of each chapter): chapters that list them permit those
alone; a chapter that says nothing permits every register of its block. CMP_SIG_SIZE goes with CMP_SIG_RECT (R302, log entry
127). -/
def paramMay (a : Nat) : Bool :=
  if a < 0x10000 then false                                   -- GLB
  else if a < 0x20000 then decide (a % 16 = 0)                   -- FNT_CTRL
  else if a < 0x40000 then false                              -- HIF, CFG
  else if a < 0x50000 then                                    -- CHK: CFG, POLY, INIT, XOROUT of units 8 to 31
    decide (8 ≤ (a - 0x40000) / 0x40) && decide ((a % 0x40) ∈ [0, 8, 0xC, 0x10, 0x14, 0x18, 0x1C])
  else if a < 0x60000 then                                    -- PWR: SUP_CFG, SAFE, thermal RW registers
    decide (a = 0x50010) || inRegs a PWR_SUP_CFG.WARN.base 0x10 8 ||
    decide (a ∈ [PWR_THERM_CFG.KNEE.base, PWR_THERM_SPLIT.STEP.base, PWR_THERM_STOP.TJ_STOP.base, PWR_NTC_CFG.BETA.base])
  else if a < 0x80000 then false                              -- FWU
  else if a < 0xA0000 then true                               -- LNE
  else if a < 0xC0000 then !inRegs a SPN_INJ.VC.base SPN_INJ.VC.stride 16
  else if a < 0xE0000 then true                               -- VIA
  else if a < 0x100000 then                                   -- TIM: all of chapter 8; of chapter 13 the listed ones
    decide (a < TIM_CAD_CFG.MODE.base) || decide (a ∈ [TIM_T_NOM.T_NOM.base, TIM_T_MIN.T_MIN.base, TIM_T_MAX.T_MAX.base,
      TIM_CAD_CFG.MODE.base, TIM_CAD_LEAD.LEAD.base, TIM_CAD_OFFSET.OFFSET.base, TIM_SCAN_CFG.ABORT_LIM.base]) ||
    decide (TIM_CNT_DARK.COUNT.base < a)
  else if a < 0x180000 then true                              -- ING, ENC, DEC
  else if a < 0x1C0000 then                                   -- CMP
    decide (CMP_SRC_CROP.X.base ≤ a) && decide (a < CMP_SRC_CROP.X.base + 0x400) ||
    decide (a = CMP_SIG_EN.EN.base) || decide (a = CMP_SIG_EN.EN.base + 4) ||
    inRegs a CMP_SIG_RECT.X.base 0x10 64 || inRegs a CMP_SIG_SIZE.W.base 0x10 64 || inRegs a CMP_SIG_EXP.EXP.base 0x10 64
  else if a < 0x200000 then                                   -- COR
    decide (a ∈ [COR_CFG.DITHER.base, COR_BRIGHT.TARGET.base]) || inRegs a (COR_SEAM.GAIN.base + 4) COR_SEAM.GAIN.stride 15
  else if a < 0x240000 then                                   -- STR: every RW field
    (regAt a).any fun x => x.1.fields.any fun f => f.acc = .rw
  else if a < 0x280000 then decide (a ∈ [DIA_CFG.CONFIRM.base, DIA_TIME.PROBE_INT.base])
  else if a < 0x2C0000 then                                   -- MEM
    decide (a ∈ [MEM_SCRUB.HOURS.base, DECK_CFG.PANIC_AT.base, DECK_ARB.W_OWN.base]) || inRegs a MEM_PORT_CFG.RT.base 4 8
  else if a < 0x2E0000 then decide (a = LDG_CFG.EN.base)
  else if a < 0x300000 then                                   -- RED
    decide (a ∈ [RED_CFG.QUORUM.base, RED_VOTE_CFG.WAIT.base]) || inRegs a RED_KEY.NODE.base 4 3 ||
    inRegs a RED_SEG_CFG.EN.base 0x20 16 || inRegs a RED_SEG_ENDS.END_A.base 0x20 16 || inRegs a RED_SEG_PIERS.PIERS.base 0x20 16
  else true                                                   -- BAY

/-- One field of a register word under a write: its access code, a reserved encoding leaves it. -/
def writeField (v : Nat) (w : Nat) (f : FieldDesc) : Nat :=
  let x := bits v f.lo f.width
  let old := bits w f.lo f.width
  match f.acc with
  | .rw => if f.least ≤ x ∧ x ≤ f.most then insertBits w f.lo f.width x else w
  | .w1c => insertBits w f.lo f.width (old - (old &&& x))
  | .w1s => insertBits w f.lo f.width (old ||| x)
  | _ => w

/-- A value places nothing in a reserved bit and no reserved encoding in a field (R9, R81). -/
def valueOk (d : RegDesc) (hi : Bool) (v : Nat) : Bool :=
  let fs := d.fields.filterMap fun f =>
    if d.pair then
      let lo := if hi then f.lo - 32 else f.lo
      let top := f.lo + f.width
      if hi then (if 32 < top then some (lo, top - max f.lo 32) else none) else (if f.lo < 32 then some (f.lo, min top 32 - f.lo) else none)
    else some (f.lo, f.width)
  let mask := fs.foldl (fun m f => m ||| ((2 ^ f.2 - 1) * 2 ^ f.1)) 0
  decide (v &&& mask = v) && (d.pair || d.fields.all fun f =>
    let x := bits v f.lo f.width
    decide (f.acc ≠ .rw ∧ f.acc ≠ .wo) || (decide (f.least ≤ x) && decide (x ≤ f.most)))

/-- Check 12 of Table 3-11. -/
def check12 (bs : List Byte) : Option CfgFail :=
  match sectOf bs 5 with
  | none => none
  | some x =>
    let m := x.body bs
    if x.len % 8 ≠ 0 then some ⟨0x020F, x.idx, x.off⟩ else
    let good (p : Nat × Nat) : Bool :=
      decide (p.1 % 4 = 0) && paramMay p.1 &&
      (match regAt p.1 with
        | some (d, _, hi) => valueOk d hi p.2 &&
            decide ¬ (0x10000 ≤ p.1 ∧ p.1 < 0x20000 ∧ bits p.2 8 1 = 1) &&
            decide ¬ (inRegs p.1 SPN_CFG.EN.base SPN_CFG.EN.stride 16 ∧ bits p.2 SPN_CFG.RETRAIN.lo 1 = 1)
        | none => false)
    match (paramsIn m).zipIdx.find? fun p => !good p.1 with
    | some p => some ⟨0x020F, x.idx, x.off + 8 * p.2⟩
    | none => none

/-! ### Check 13: LAMPMAP (R82, R308, R310) -/

/-- LAMP_COUNT of a LAMPMAP section. -/
def lampCount (m : List Byte) : Nat := leAt m 4 4

/-- The bytes of one entry of image `j` (Table 11-1). -/
def entryLen (j : Nat) : Nat := if j = 0 then 4 else if j = 1 then 6 else 2

/-- The partition of image `j`. -/
def imagePart (j : Nat) : Nat := if j = 0 then pkLampMap else if j = 1 then pkCoef else pkGain

/-- A lamp-map entry keeps R308. -/
def mapEntryOk (v : Nat) : Bool := decide (v / 2 ^ 30 = 0) && (decide (bits v 24 2 ≠ 3) || decide (v = 0x03000000))

/-- Image `j` as its LAMPMAP entry names it in the lamp calibration store. -/
def State.calImage (s : State) (m : List Byte) (j : Nat) : List Byte :=
  s.flashRead (calStore + leAt m (32 + 64 * j) 4) (leAt m (36 + 64 * j) 4)

/-- The partitions that will be in force under a container. -/
def State.partsAfter (s : State) (bs : List Byte) : List Part :=
  match sectOf bs 3 with
  | some x => if isPartial bs then s.cfg.parts else partsIn (x.body bs)
  | none => s.cfg.parts

/-- The bytes of the partition of a kind in a list. -/
def partSize (ps : List Part) (kind : Nat) : Nat :=
  match ps.find? fun p => p.kind = kind with | some p => p.bytes | none => 0

/-- Check 13 of Table 3-11. -/
def State.check13 (s : State) (bs : List Byte) : Option CfgFail :=
  match sectOf bs 6 with
  | none => none
  | some x =>
    let m := x.body bs
    let n := lampCount m
    let host := decide (leAt m 0 1 = 1)
    let fail (o : Nat) : CfgFail := ⟨0x0210, x.idx, x.off + o⟩
    let size := partSize (s.partsAfter bs)
    if x.len ≠ 224 ∨ 1 < leAt m 0 1 ∨ ¬ allZero (bytesAt m 1 3) ∨ n = 0 ∨ 1048576 < n ∨ ¬ allZero (bytesAt m 8 24) then
      some (fail 0)
    else if size pkLampMap < 8 * n + 2052 ∨ size pkCoef < 6 * n ∨ size pkGain < 2 * n then some (fail 4)
    else
      let good (j : Nat) : Bool :=
        let o := 32 + 64 * j
        let off : Nat := leAt m o 4
        let len : Nat := leAt m (o + 4) 4
        allZero (bytesAt m (o + 8) 8) &&
        (if host then decide (off = 0) && decide (len = 0) && allZero (bytesAt m (o + 16) 48)
          else
            let img := s.calImage m j
            decide (1 ≤ len) && decide (len = entryLen j * n) && decide (len ≤ (size (imagePart j) : Nat)) &&
            decide (off + len ≤ 32 * mib) && sha384 img == bytesAt m (o + 16) 48 &&
            (decide (j ≠ 0) || (List.range n).all fun i => mapEntryOk (leAt img (4 * i) 4)))
      match [0, 1, 2].find? fun j => !good j with
      | some j => some (fail (32 + 64 * j))
      | none => none

/-- The checks of Table 3-11 in order; the first failure decides (R85). -/
def State.verifyCfg (s : State) (bs : List Byte) : Option CfgFail :=
  match s.checks1to7 bs with
  | some f => some f
  | none => match s.check8 bs with
  | some f => some f
  | none => match s.check9 bs with
  | some f => some f
  | none => match s.check10 bs with
  | some f => some f
  | none => match s.check11 bs with
  | some f => some f
  | none => match check12 bs with
  | some f => some f
  | none => s.check13 bs

/-! ### Staging (R84) -/

/-- Where a stage goes and how long it may be: the STAGE partition, or deck banks 1 to 15 with no bit-stream in
force. -/
def State.stageArea (s : State) : Bool × Nat × Nat :=
  match s.part pkStage with
  | some p => if s.flag CFG_STATUS.IN_FORCE then (p.ext, p.start, p.bytes) else (false, 0x400000, 0x3C00000)
  | none => (false, 0x400000, 0x3C00000)

/-- The bytes staged. -/
def State.staged (s : State) : List Byte :=
  let a := s.stageArea
  s.memRead a.1 a.2.1 (s.fld CFG_STAGED_LEN.LEN)

/-- A status of FN_CFG other than ST_OK shows in LAST_ERR. -/
def State.cfgErr (s : State) (st : Nat) : State := s.setFld CFG_STATUS.LAST_ERR (st % 256)

/-- Complete a command of FN_CFG. -/
def State.cfgFinish (s : State) (c : Cmd) (st : Nat) (res : List Byte := []) : State :=
  (if st = stOk then s else s.cfgErr st).finish c st res

/-- Put bytes at an offset of the staging area. -/
def State.putStage (s : State) (off : Nat) (bs : List Byte) : State :=
  let a := s.stageArea
  (s.spaceWrite a.1 (a.2.1 + off) bs fixedClass 5).setFld CFG_STAGED_LEN.LEN (off + bs.length)

/-- The trailer of a staged container holds the CRC-32C of the bytes before it (R69). -/
def trailerOk (bs : List Byte) : Bool :=
  decide (4 ≤ bs.length) && decide (leAt bs (bs.length - 4) 4 = crc32c (bs.take (bs.length - 4)))

/-- Whether FN_CFG has a stage that staging must not disturb. -/
def State.stageBusy (s : State) : Bool := s.stage = sgVerifying || s.stage = sgPending || s.stage = sgApplying

/-- Check unit 0 computes the CRC-32C of a trailer over the bytes before it (R69, R487). -/
def State.feedTrailer (s : State) (bs : List Byte) : State := s.unitRun 0 (bs.take (bs.length - 4))

/-- CMD_CFG_STAGE: a chunk of a bit-stream into the staging area, the trailer at LAST (R84). A chunk that is not FIRST while
nothing is being received, and one that overruns TOTAL_LEN, break the OFFSET rule (log entry 127). -/
def onCmdCfgStage (q : Fin 24) (tag : Nat) (s : State) : State :=
  match s.cmd q tag 0x0201 with
  | none => s
  | some c =>
    let off := c.opnd 32 4
    let first := decide (c.opnd 36 1 % 2 = 1)
    let last := decide (c.opnd 36 1 / 2 % 2 = 1)
    let bs := s.payload c
    let total := if first then leAt bs 12 4 else s.cfg.total
    if s.stageBusy then s.cfgFinish c 0x0211
    else if first ∧ (off ≠ 0 ∨ bs.length < 512) then s.cfgFinish c 0x0201
    else if ¬ first ∧ (s.stage ≠ sgReceiving ∨ off ≠ s.fld CFG_STAGED_LEN.LEN) then s.cfgFinish c 0x0201
    else if first ∧ (64 * mib < total ∨ s.stageArea.2.2 < total) then s.cfgFinish c 0x0202
    else if total < off + bs.length ∨ (last ∧ off + bs.length ≠ total) then s.cfgFinish c 0x0201
    else
      let s := (s.putStage off bs).setFld CFG_STATUS.STAGE sgReceiving
      let s := if first then s.setFlag CFG_STATUS.PARTIAL (isPartial bs) else s
      let s : State := { s with cfg := { s.cfg with total := total } }
      if last then
        let s := s.feedTrailer s.staged
        if trailerOk s.staged then (s.setFld CFG_STATUS.STAGE sgComplete).cfgFinish c stOk
        else (s.setFld CFG_STATUS.STAGE sgFailed).cfgFinish c 0x0203
      else s.cfgFinish c stOk

/-- The place of FT_ID's bit-stream in a slot image (Table 19-2): offset and length; FT_ID with LENGTH 0 uses
entry 0. -/
def bsEntry (hdr : List Byte) (ft : Nat) : Nat × Nat :=
  let own := (leAt hdr (20 + 8 * ft) 4, leAt hdr (24 + 8 * ft) 4)
  if own.2 = 0 then (leAt hdr 20 4, leAt hdr 24 4) else own

/-- Where firmware slot `i` begins in flash (Table 19-1). -/
def slotBase (i : Nat) : Nat := if i = 0 then 0 else 0x01800000

/-- The bit-stream of a slot for this device. -/
def State.slotStream (s : State) (i : Nat) : List Byte :=
  let e := bsEntry (s.flashRead (slotBase i) 96) s.pins.ftId
  s.flashRead (slotBase i + e.1) e.2

/-- Stage a slot's bit-stream and check its trailer; the status. -/
def State.stageSlot (s : State) (i : Nat) : State × Nat :=
  let bs := s.slotStream i
  if 64 * mib < bs.length ∨ s.stageArea.2.2 < bs.length then (s, 0x0202)
  else
    let s := (s.putStage 0 bs).setFlag CFG_STATUS.PARTIAL (isPartial bs)
    let s : State := State.feedTrailer { s with cfg := { s.cfg with total := bs.length } } bs
    if trailerOk bs then (s.setFld CFG_STATUS.STAGE sgComplete, stOk) else (s.setFld CFG_STATUS.STAGE sgFailed, 0x0203)

/-- CMD_CFG_STAGE_FLASH: stage a firmware slot's bit-stream (R84). -/
def onCmdCfgStageFlash (q : Fin 24) (tag : Nat) (s : State) : State :=
  match s.cmd q tag 0x0202 with
  | none => s
  | some c =>
    if s.stageBusy then s.cfgFinish c 0x0211
    else
      let r := s.stageSlot (c.opnd 32 1)
      r.1.cfgFinish c r.2

/-! ### Verification, APPLY, SVN -/

/-- Run the checks on the stage: VERIFIED, or FAILED with EV_CFG_REJECTED (R85, R90). The status and the
RESULT. -/
def State.runVerify (s : State) : State × Nat × List Byte :=
  match s.verifyCfg s.staged with
  | none => (s.setFld CFG_STATUS.STAGE sgVerified, stOk, [])
  | some f =>
    let i := if f.sect = noSection then s.free % 65536 else f.sect
    let s := if f.sect = noSection then s.draw else s
    (((s.setFld CFG_STATUS.STAGE sgFailed).raise 0x0202 [(16, 2, f.status), (18, 2, i), (20, 4, f.offset)]),
      f.status, result [(16, 2, i), (20, 4, f.offset)])

/-- A bit-stream of the flash that cannot be staged is rejected; which section and offset the event names is not stated (log
entry 6). -/
def State.rejectStage (s : State) (st : Nat) : State :=
  ((s.cfgErr st).draw.draw).raise 0x0202 [(16, 2, st), (18, 2, s.free % 65536), (20, 4, s.draw.free % 2 ^ 32)]

/-- A CMD_CFG_VERIFY that starts on a COMPLETE stage: STAGE reads VERIFYING until it ends (Table 3-13). -/
def State.beginVerify (s : State) (c : Cmd) : State :=
  if s.stage = sgComplete then
    { s.setFld CFG_STATUS.STAGE sgVerifying with cfg := { s.cfg with verify := some (c.q, c.id) } }
  else s

/-- CMD_CFG_VERIFY: the checks of Table 3-11 on the stage that it found COMPLETE. -/
def onCmdCfgVerify (q : Fin 24) (tag : Nat) (s : State) : State :=
  match s.cmd q tag 0x0203 with
  | none => s
  | some c =>
    let s := s.beginVerify c
    if s.stage ≠ sgVerifying ∨ s.cfg.verify ≠ some (c.q, c.id) then s.cfgFinish c 0x0211
    else
      let r := State.runVerify { s with cfg := { s.cfg with verify := none } }
      r.1.cfgFinish c r.2.1 r.2.2

/-- PWR_STATE P2 Dark. -/
def pwDark : Nat := 2

/-- A load of another role may not take effect now (R89). -/
def State.roleBlocked (s : State) : Bool :=
  s.flag CFG_STATUS.IN_FORCE && decide (roleOf s.staged ≠ s.role) && decide (s.fld PWR_STATE.STATE ≠ pwDark)

/-- CMD_CFG_APPLY: VERIFIED becomes PENDING (R86), unless the role changes outside P2 Dark (R89). -/
def onCmdCfgApply (q : Fin 24) (tag : Nat) (s : State) : State :=
  match s.cmd q tag 0x0204 with
  | none => s
  | some c =>
    if s.stage ≠ sgVerified then s.cfgFinish c 0x0211
    else if s.roleBlocked then s.cfgFinish c 0x0212
    else
      let s := (s.run c).setFld CFG_STATUS.STAGE sgPending
      { s with cfg := { s.cfg with
        apply := some (c.q, c.id), startAt := if bits c.flags 1 1 = 1 then some c.startTime else none, taken := false } }

/-- CMD_CFG_SVN_RAISE: fuse a higher minimum (R72). -/
def onCmdCfgSvnRaise (q : Fin 24) (tag : Nat) (s : State) : State :=
  match s.cmd q tag 0x0205 with
  | none => s
  | some c =>
    let v := c.opnd 32 1
    if v < s.fuses.svn ∨ s.fld CFG_SVN.CUR < v then s.cfgFinish c 0x0213
    else State.cfgFinish { s.setFld CFG_SVN.MIN v with fuses := { s.fuses with svn := v } } c stOk

/-- CFG_AUTOLOAD: in HW mode after start-up Jeori stages, verifies and applies the active slot's bit-stream by
itself, once training has ended (R91, R462). A failure raises EV_CFG_REJECTED and ends it. -/
def onCfgAutoload (s : State) : State :=
  if s.cfg.auto ∧ ¬ s.assist 1 ∧ ¬ s.restarting ∧ ¬ s.flag CFG_STATUS.IN_FORCE ∧ ¬ s.stageBusy then
    let s : State := { s with cfg := { s.cfg with auto := false } }
    let slot := s.fld FWU_STATUS.ACTIVE - 1
    if s.fld FWU_STATUS.ACTIVE = 0 ∨ (s.slotStream slot).length = 0 then s
    else
      let r := s.stageSlot slot
      if r.2 ≠ stOk then r.1.rejectStage r.2
      else
        let v := r.1.runVerify
        if v.2.1 ≠ stOk then v.1.cfgErr v.2.1
        else
          let s := v.1.setFld CFG_STATUS.STAGE sgPending
          { s with cfg := { s.cfg with
            apply := none, startAt := none, taken := false } }
  else s

/-- The safe points of FN_CFG's commands (R93). CMD_CFG_STAGE: after `n` MiB of its chunk, which stay staged. -/
def State.stageStop (s : State) (c : Cmd) (n : Nat) : State :=
  let off := c.opnd 32 4
  let first := decide (c.opnd 36 1 % 2 = 1)
  let bs := s.payload c
  let total := if first then leAt bs 12 4 else s.cfg.total
  if c.phase ≠ .started ∨ bs.length ≤ n * mib ∨ n = 0 ∨ s.stageBusy ∨ total < off + bs.length ∨
    (if first then off ≠ 0 ∨ 64 * mib < total ∨ s.stageArea.2.2 < total
      else s.stage ≠ sgReceiving ∨ off ≠ s.fld CFG_STAGED_LEN.LEN) then s
  else
    let s := (s.putStage off (bs.take (n * mib))).setFld CFG_STATUS.STAGE sgReceiving
    let s := if first then s.setFlag CFG_STATUS.PARTIAL (isPartial bs) else s
    State.cfgFinish { s with cfg := { s.cfg with total := total } } c stAborted

/-- CMD_CFG_STAGE_FLASH, after `n` MiB: STAGE is left at EMPTY. -/
def State.stageFlashStop (s : State) (c : Cmd) (n : Nat) : State :=
  let len := (s.slotStream (c.opnd 32 1)).length
  if c.phase ≠ .started ∨ s.stageBusy ∨ n = 0 ∨ len ≤ n * mib ∨ 64 * mib < len ∨ s.stageArea.2.2 < len then s
  else (((s.setFld CFG_STATUS.STAGE sgEmpty).setFlag CFG_STATUS.PARTIAL false).setFld CFG_STAGED_LEN.LEN 0).cfgFinish c stAborted

/-- CMD_CFG_VERIFY, after `n` MiB hashed: STAGE is left at COMPLETE. -/
def State.verifyStop (s : State) (c : Cmd) (n : Nat) : State :=
  if s.stage ≠ sgVerifying ∨ s.cfg.verify ≠ some (c.q, c.id) ∨ n = 0 ∨ s.fld CFG_STAGED_LEN.LEN ≤ n * mib then s
  else State.cfgFinish { s.setFld CFG_STATUS.STAGE sgComplete with cfg := { s.cfg with verify := none } } c stAborted

/-- CMD_CFG_APPLY at the close of a commit window at which the load is not taken. -/
def State.applyStop (s : State) (c : Cmd) : State :=
  if s.stage = sgPending ∧ ¬ s.cfg.taken then
    State.finish { s.setFld CFG_STATUS.STAGE sgVerified with cfg := { s.cfg with apply := none } } c stAborted
  else s

end Sys2Proof.Machine
end

