-- ==== Sys2Proof/Machine/Cor.lean ====
section
/-! DEFINITION. FN_COR, per-lamp correction and dither (spec/11_correction.md): the value chain of R304, the
three images and their loading, patches, what is fixed for a frame. -/

namespace Sys2Proof.Machine

/-! ### The value chain (R304, R312, R315) -/

/-- Stage 9: matrix row, lamp gain and seam gain of a lamp applied to a pixel's three components. -/
def corLinear (m0 m1 m2 : Int) (gain seam : Nat) (r g b : Nat) : Int :=
  let v := sat ((m0 * r + m1 * g + m2 * b + 8192) / 16384) 0 0xFFFFFF
  let v := sat ((v * gain + 16384) / 32768) 0 0xFFFFFF
  sat ((v * seam + 16384) / 32768) 0 0xFFFFFF

/-- Stage 10 and the change to U16.2, before its limit. -/
def corWide (v : Int) (kf : Nat) : Int := ((v * kf + 16384) / 32768 * 262140 + 524288) / 1048576

/-- Stage 11: two bits dropped after the dither offset. -/
def corGrey (t : Int) (d : Nat) : Nat := ((sat t 0 262140).toNat + d) / 4

/-- The factor of stage 10 (R312). -/
def corFactor (bright derate : Nat) : Nat := (bright * derate + 16384) / 32768

/-- DTH of R315. -/
def ditherTable : List Nat := [0, 2, 3, 1]

/-- The offset d of R315 for a frame number and a lamp at a row and a column. -/
def ditherOf (mode frame row col : Nat) : Nat :=
  match mode with
  | 1 => ditherTable.getD (frame % 4) 0
  | 2 => ditherTable.getD ((frame + 2 * (row % 2) + col % 2) % 4) 0
  | _ => 2

/-! ### The images (R307, R308) -/

/-- LAMP_COUNT in force. -/
def State.lamps (s : State) : Nat := s.fld COR_LAMPS.COUNT

/-- The deck address of image `j`. -/
def State.imageAt (s : State) (j : Nat) : Nat :=
  match s.part (imagePart j) with | some p => p.start | none => 0

/-- The length of image `j` (Table 11-1). -/
def State.imageLen (s : State) (j : Nat) : Nat := entryLen j * s.lamps

/-- The complete flag of image `j`. -/
def imageOkFld (j : Nat) : Fld :=
  if j = 0 then COR_STATUS.MAP_OK else if j = 1 then COR_STATUS.COEF_OK else COR_STATUS.GAIN_OK

/-- Whether image `j` is complete. -/
def State.imageOk (s : State) (j : Nat) : Bool := s.flag (imageOkFld j)

/-- Whether all three images are complete (R317). -/
def State.imagesOk (s : State) : Bool := s.imageOk 0 && s.imageOk 1 && s.imageOk 2

/-- Entry `i` of the lamp map as a number. -/
def State.mapEntry (s : State) (i : Nat) : Nat := leNat (s.memRead false (s.imageAt 0 + 4 * i) 4)

/-- Row `i` of the matrix image: the weight of component `c`. -/
def State.coef (s : State) (i c : Nat) : Int := sInt 16 (leNat (s.memRead false (s.imageAt 1 + 6 * i + 2 * c) 2))

/-- Entry `i` of the gain image. -/
def State.lampGain (s : State) (i : Nat) : Nat := leNat (s.memRead false (s.imageAt 2 + 2 * i) 2)

/-- Column and row of a map entry. -/
def mapX (e : Nat) : Nat := bits e 0 12

/-- Row of a map entry. -/
def mapY (e : Nat) : Nat := bits e 12 12

/-- COMP of a map entry. -/
def mapComp (e : Nat) : Nat := bits e 24 2

/-- SEAM of a map entry. -/
def mapSeam (e : Nat) : Nat := bits e 26 4

/-! ### A band (R304, R305) -/

/-- The columns of the strand of fan `f` under the hard timing set in force (R15). -/
def State.fanCols (s : State) (f : Nat) : Nat := (s.str.hard.fans[f]?.map (·.cols)).getD 0

/-- Row and column of a lamp on its strand (R15). -/
def State.lampAt (s : State) (i : Nat) : Nat × Nat :=
  let c := s.fanCols (i / 2048 / 32)
  if c = 0 then (0, i % 2048) else (i % 2048 / c, i % 2048 % c)

/-- The seam gain fixed for a class (R311). -/
def State.seamGain (s : State) (seam : Nat) : Nat := if seam = 0 then 0x8000 else s.cor.seams.getD (seam - 1) 0x8000

/-- The grey of lamp `i` whose entry is `e` for a pixel word, and whether its value was clipped (R304, R306). -/
def State.lampGrey (s : State) (i e word : Nat) : Nat × Bool :=
  let v := corLinear (s.coef i 0) (s.coef i 1) (s.coef i 2) (s.lampGain i) (s.seamGain (mapSeam e))
    (bits word 48 24) (bits word 24 24) (bits word 0 24)
  let t := corWide v (s.cor.kf.getD (i / 2048 / 32) 0x8000)
  let at' := s.lampAt i
  (corGrey t (ditherOf s.cor.dither s.cor.frame at'.1 at'.2), decide (262140 < t))

/-- Write the grey of a lamp into the back half of LAMP_BUF. -/
def State.putGrey (s : State) (i grey : Nat) : State := s.memPut false (s.backBase + 2 * i) (leBytes 2 grey)

/-- The uncorrectable deck words that the entries of lamp `i` lie in. -/
def State.lampBad (s : State) (i : Nat) : List Nat :=
  s.badWords (s.imageAt 0 + 4 * i) 4 ++ s.badWords (s.imageAt 1 + 6 * i) 6 ++ s.badWords (s.imageAt 2 + 2 * i) 2

/-- Report words as read by a bay, under the class it holds for the word's bank (R409). -/
def State.bayReports (s : State) (bay : Nat) (words : List Nat) : State :=
  words.foldl (fun s w => s.deckUc w (bayClass bay (w * 8 / 2 ^ 22))) s

/-- A removed lamp is dark (R305, R384). -/
def State.removedLamp (s : State) (i : Nat) : Bool := decide (i ∈ s.cor.removed)

/-- Correct band `k` of a canvas of `w` × `h` pixels: `pixel x y` is the native word after stage 8. Lamps that no
band holds are dark: they are written with each band. `bay` is the COR bay that holds the band. -/
def State.correctBand (s : State) (bay k w h : Nat) (pixel : Nat → Nat → Nat) : State :=
  let n := s.lamps
  let s := s.memZero false (s.backBase + 2 * n) (2 * (1048576 - n))
  (List.range n).foldl (fun s i =>
    let e := s.mapEntry i
    if mapComp e = 3 ∨ h ≤ mapY e ∨ w ≤ mapX e then s.putGrey i 0
    else if mapY e / 8 = k then
      if s.removedLamp i then s.putGrey i 0
      else if s.lampBad i ≠ [] then (s.bayReports bay (s.lampBad i)).putGrey i 0
      else
        let r := s.lampGrey i e (pixel (mapX e) (mapY e))
        (if r.2 then s.bump COR_CLIP.COUNT else s).putGrey i r.1
    else s) s

/-! ### What is fixed for a frame (R313, R314, R318) -/

/-- A value moved towards a target by at most a step; a step of 0 jumps. -/
def ramp (act target step : Nat) : Nat :=
  if step = 0 then target
  else if act ≤ target then min target (act + step) else max target (act - step)

/-- The settings of FN_COR that the last close took (R360, R370): TARGET, RAMP, DITHER, the 15 seam gains. -/
def State.corNow (s : State) : List Nat :=
  [s.fld COR_BRIGHT.TARGET, s.fld COR_BRIGHT.RAMP, s.fld COR_CFG.DITHER] ++ (List.range 15).map fun k => s.fld COR_SEAM.GAIN (k + 1)

/-- The close takes the settings of FN_COR. -/
def State.closeCor (s : State) : State := { s with cor := { s.cor with soft := s.corNow } }

/-- The settings of FN_COR that a fixing uses. -/
def State.corSoft (s : State) : List Nat := if s.cor.soft = [] then s.corNow else s.cor.soft

/-- The brightness in force for frame `f` (R314). -/
def State.fixBrightness (s : State) (f : Nat) : State :=
  if s.assist 13 then
    match s.useDecision 13 (periodOf f) with
    | (some bs, s) => s.setFld COR_BRIGHT_ACT.ACT (leAt bs 0 2)
    | (none, s) => s
  else s.setFld COR_BRIGHT_ACT.ACT (ramp (s.fld COR_BRIGHT_ACT.ACT) (s.corSoft.getD 0 0) (s.corSoft.getD 1 0))

/-- PATCHES shows the patches held. -/
def State.showPatches (s : State) : State := s.setFld COR_STATUS.PATCHES s.cor.patches.length

/-- Apply the held patches in their order of acceptance; each completes ST_OK (R318). -/
def State.applyPatches (s : State) : State :=
  let ps := s.cor.patches
  let s : State := { s with cor := { s.cor with patches := [] } }
  (ps.foldl (fun s p =>
    let s := s.deckWrite (s.imageAt p.image + p.off) p.bytes fixedClass
    match s.cmdAt p.q p.id 0x0E02 with
    | some c => s.finish c stOk
    | none => s) s).showPatches

/-- At the frame start at which composition of frame `f` begins, its correction values are fixed (R312, R313);
`removed` are the lamps removed, `ds` the derating factors of the fans. -/
def State.fixCorrection (s : State) (f : Nat) (removed ds : List Nat) : State :=
  let s := s.fixBrightness f
  let bright := s.fld COR_BRIGHT_ACT.ACT
  let s := ds.zipIdx.foldl (fun s d => s.setFld COR_DERATE.FACTOR d.1 d.2) s
  { s with cor := { s.cor with
    frame := f
    kf := ds.map (corFactor bright)
    seams := s.corSoft.drop 3
    dither := s.corSoft.getD 2 0
    removed := removed } }

/-- COR_OUTSIDE is recounted when the local block, LAMP_COUNT or image 0 changed; a change of its value raises
EV_COR_OUTSIDE. `w` × `h` is the pier canvas in force, if any. -/
def State.recountOutside (s : State) (canvas : Option (Nat × Nat)) (gen : Nat) : State :=
  if s.cor.recount then
    let s : State := { s with cor := { s.cor with recount := false } }
    let n : Nat := if s.imageOk 0 then
      (match canvas with
        | some c => (List.range s.lamps).countP fun i =>
            let e := s.mapEntry i
            decide (mapComp e ≠ 3) && (decide (c.1 ≤ mapX e) || decide (c.2 ≤ mapY e))
        | none => 0) else 0
    if n = s.fld COR_OUTSIDE.COUNT then s
    else (s.setFld COR_OUTSIDE.COUNT n).raise 0x0E02 [(16, 4, n), (20, 4, gen)]
  else s

/-! ### Images completing and loading (R309, R316, R317) -/

/-- Every band of the back buffer is to be composed and corrected again. -/
def State.unconfirmBands (s : State) : State := { s with cmp := { s.cmp with bands := [], kept := none } }

/-- The band index of R309: for each band of 8 rows its offset, then the lamp indices of each band in turn. -/
def bandIndex (map : List Byte) (n : Nat) : List Byte :=
  let used := (List.range n).filter fun i => mapComp (leAt map (4 * i) 4) ≠ 3
  let ofBand (k : Nat) : List Nat := used.filter fun i => mapY (leAt map (4 * i) 4) / 8 = k
  let lists := (List.range 512).map ofBand
  let offs := lists.foldl (fun (acc : List Nat × Nat) l => (acc.1 ++ [acc.2], acc.2 + l.length)) ([], 0)
  (offs.1 ++ [offs.2]).flatMap (leBytes 4) ++ lists.flatMap fun l => l.flatMap (leBytes 4)

/-- Image `j` becomes complete: the band index and COR_USED with image 0; when it is the last, EV_COR_READY and
every band is corrected again. -/
def State.completeImage (s : State) (j : Nat) : State :=
  let s := s.setFlag (imageOkFld j) true
  let s := (if j = 0 then
      let map := s.memRead false (s.imageAt 0) (s.imageLen 0)
      let n := s.lamps
      let s := s.memPut false (s.imageAt 0 + s.imageLen 0) (bandIndex map n)
      let s := s.setFld COR_USED.USED ((List.range n).countP fun i => mapComp (leAt map (4 * i) 4) ≠ 3)
      { s with cor := { s.cor with recount := true } }
    else s : State)
  let s : State := { s with cor := { s.cor with
    fresh := s.cor.fresh ||| 2 ^ j, loading := s.cor.loading && decide (s.fld COR_LOADED.IMAGE ≠ j) } }
  if s.imagesOk then
    let m := s.cor.fresh
    (State.raise { s with cor := { s.cor with fresh := 0 } } 0x0E01 [(16, 1, m)]).unconfirmBands
  else s

/-- Discard the held patches of image `j` with ST_COR_DISCARDED. -/
def State.discardPatches (s : State) (j : Nat) : State :=
  let gone := s.cor.patches.filter fun p => p.image = j
  let s : State := { s with cor := { s.cor with patches := s.cor.patches.filter fun p => p.image ≠ j } }
  (gone.foldl (fun s p =>
    match s.cmdAt p.q p.id 0x0E02 with
    | some c => s.finish c 0x0E03
    | none => s) s).showPatches

/-- A chunk keeps the rules of R316. -/
def State.chunkOk (s : State) (j off len : Nat) (first last : Bool) : Bool :=
  let unit := if j = 2 then 2 else 4
  (if first then decide (off = 0)
    else s.cor.loading && decide (s.fld COR_LOADED.IMAGE = j) && decide (off = s.fld COR_LOADED.LEN)) &&
  decide (off + len ≤ s.imageLen j) && (!last || decide (off + len = s.imageLen j)) &&
  decide (off % unit = 0) && decide (len % unit = 0)

/-- Write a chunk of image `j`: with FIRST the image becomes INCOMPLETE and its patches are discarded. -/
def State.writeChunk (s : State) (j off : Nat) (bs : List Byte) (first : Bool) : State :=
  let s := if first then (s.setFlag (imageOkFld j) false).discardPatches j else s
  let s := s.deckWrite (s.imageAt j + off) bs fixedClass
  let s := ((s.setFld COR_LOADED.IMAGE j).setFld COR_LOADED.LEN (off + bs.length)).setFlag COR_STATUS.LOADING true
  { s with cor := { s.cor with loading := true } }

/-- CMD_COR_LOAD: a chunk of an image, in order (R316); with LAST it completes at COR_IMAGE_COMPLETE. -/
def onCmdCorLoad (q : Fin 24) (tag : Nat) (s : State) : State :=
  match s.cmd q tag 0x0E01 with
  | none => s
  | some c =>
    if s.cor.closing.isSome then s else
    let j := c.opnd 32 1
    let off := c.opnd 36 4
    let first := decide (bits (c.opnd 40 1) 0 1 = 1)
    let last := decide (bits (c.opnd 40 1) 1 1 = 1)
    let bs := s.payload c
    if s.chunkOk j off bs.length first last then
      let s := s.writeChunk j off bs first
      if last then State.run { s with cor := { s.cor with closing := some (c.q, c.id) } } c
      else (s.setFlag COR_STATUS.LOADING false).finish c stOk
    else s.finish c 0x0E01

/-- The first entry of image 0 that breaks R308. -/
def State.badMapEntry (s : State) : Option Nat := (List.range s.lamps).find? fun i => ! mapEntryOk (s.mapEntry i)

/-- COR_IMAGE_COMPLETE: after LAST the check, the band index and the CRC are done (R316). -/
def onCorImageComplete (s : State) : State :=
  match s.cor.closing with
  | none => s
  | some (q, id) =>
    let j := s.fld COR_LOADED.IMAGE
    let bad := if j = 0 then s.badMapEntry else none
    let bytes := s.memRead false (s.imageAt j) (s.imageLen j)
    let crc := crc32 bytes
    let s : State := State.unitRun { s with cor := { s.cor with closing := none } } 3 bytes
    let s := s.setFlag COR_STATUS.LOADING false
    let fin (s : State) (st : Nat) (res : List Byte) : State :=
      match s.cmdAt q id 0x0E01 with
      | some c => s.finish c st res
      | none => s
    match bad with
    | some i => fin s 0x0E02 (result [(16, 4, crc), (20, 4, i)])
    | none => fin (s.completeImage j) stOk (result [(16, 4, crc)])

/-- CMD_COR_PATCH: a patch held for the next frame start (R318); a fifth waits. -/
def onCmdCorPatch (q : Fin 24) (tag : Nat) (s : State) : State :=
  match s.cmd q tag 0x0E02 with
  | none => s
  | some c =>
    let j := c.opnd 32 1
    let off := c.opnd 36 4
    let bs := s.payload c
    let e := entryLen j
    if j = 0 ∨ ¬ s.imageOk j ∨ off % e ≠ 0 ∨ bs.length % e ≠ 0 ∨ 65536 < bs.length ∨ s.imageLen j < off + bs.length then
      s.finish c 0x0E01
    else if 4 ≤ s.cor.patches.length then s
    else State.showPatches { s.run c with cor := { s.cor with patches := s.cor.patches ++ [⟨c.q, c.id, j, off, bs⟩] } }

/-- The safe points of FN_COR: a held patch is not applied (R318); a load keeps the MiB written (R319). -/
def State.corStop (s : State) (c : Cmd) (n : Nat) : State :=
  if c.opcode = 0x0E02 then
    State.showPatches (State.finish { s with cor := { s.cor with
      patches := s.cor.patches.filter fun p => ¬ (p.q = c.q ∧ p.id = c.id) } } c stAborted)
  else if c.opcode = 0x0E01 ∧ c.phase = .started then
    let j := c.opnd 32 1
    let off := c.opnd 36 4
    let first := decide (bits (c.opnd 40 1) 0 1 = 1)
    let bs := s.payload c
    if s.cor.closing.isNone ∧ s.chunkOk j off bs.length first (decide (bits (c.opnd 40 1) 1 1 = 1)) ∧ 0 < n ∧ n * mib < bs.length then
      ((s.writeChunk j off (bs.take (n * mib)) first).setFlag COR_STATUS.LOADING false).finish c stAborted
    else s
  else s

/-- A per-function reset of FN_COR beyond R62 and R63 (R322). -/
def State.corReset (s : State) : State :=
  State.showPatches (State.unconfirmBands { s.setFlag COR_STATUS.LOADING false with cor := { s.cor with
    patches := [], loading := false, closing := none } })

end Sys2Proof.Machine
end

