-- ==== Sys2Proof/Machine/Hsc.lean ====
section
/-! DEFINITION. Hylum Slice Coding (spec/05_slice_coding.md): the slice header, the syntax of blocks,
prediction, dequantisation, the inverse transform and the output conversion, exact to the bit. A block is a
list of 192 samples: Y, Co, Cg, each 64 in raster order. -/

namespace Sys2Proof.Machine

/-! ### Header (R123, R124) -/

/-- The header fields of Table 5-2. -/
structure SliceHdr where
  sync      : Nat
  version   : Nat
  intra     : Bool
  deep      : Bool
  floor     : Bool
  rsv       : Nat
  rowH      : Nat
  qp        : Nat
  stream    : Nat
  pic       : Nat
  refc      : Nat
  row       : Nat
  colW      : Nat
  lastRow   : Nat
  floorFrom : Nat
  len       : Nat
deriving DecidableEq, Repr

/-- The header of a slice; none where fewer than 16 bytes stand. -/
def parseHdr (bs : List Byte) : Option SliceHdr :=
  if bs.length < 16 then none else
  let b2 := beAt bs 2 1
  let b3 := beAt bs 3 1
  let b4 := beAt bs 4 2
  let b10 := beAt bs 10 2
  let b12 := beAt bs 12 2
  some {
    sync := beAt bs 0 2, version := bits b2 4 4, intra := decide (bits b2 3 1 = 1), deep := decide (bits b2 2 1 = 1),
    floor := decide (bits b2 1 1 = 1), rsv := bits b2 0 1 + 2 * bits b4 12 4 + 32 * bits b10 0 2,
    rowH := bits b3 6 2, qp := bits b3 0 6, stream := bits b4 0 12, pic := beAt bs 6 2, refc := beAt bs 8 2,
    row := bits b10 7 9, colW := bits b10 2 5, lastRow := bits b12 7 9, floorFrom := bits b12 0 7,
    len := beAt bs 14 2 }

/-- The 16 header bytes of a slice. -/
def hdrBytes (h : SliceHdr) : List Byte :=
  beBytes 2 h.sync ++
  beBytes 1 (h.version * 16 + b2n h.intra * 8 + b2n h.deep * 4 + b2n h.floor * 2 + bits h.rsv 0 1) ++
  beBytes 1 (h.rowH * 64 + h.qp) ++ beBytes 2 (bits h.rsv 1 4 * 4096 + h.stream) ++ beBytes 2 h.pic ++
  beBytes 2 h.refc ++ beBytes 2 (h.row * 128 + h.colW * 4 + bits h.rsv 5 2) ++
  beBytes 2 (h.lastRow * 128 + h.floorFrom) ++ beBytes 2 h.len

/-- The sample depth of a slice. -/
def SliceHdr.d (h : SliceHdr) : Nat := if h.deep then 12 else 10

/-- The number of blocks of a slice (R126). -/
def SliceHdr.blocks (h : SliceHdr) : Nat := (h.colW + 1) * (h.rowH + 1)

/-- The HEADER class of Table 5-6 is not committed. -/
def SliceHdr.headerOk (h : SliceHdr) : Bool :=
  decide (h.sync = 0x4853) && decide (h.version = 1) && decide (h.rsv = 0) && decide (h.qp ≤ 47) &&
  decide (h.stream / 64 ≠ 63)

/-- The conditions of R124 that one header shows by itself; whether the column is the last of its picture
no header shows. -/
def SliceHdr.geometryOk (h : SliceHdr) : Bool :=
  decide (h.row ≤ h.lastRow) && (decide (h.rowH = 3) || decide (h.row = h.lastRow)) &&
  (if h.floor then decide (h.floorFrom < h.blocks) else decide (h.floorFrom = 0))

/-! ### Violations and bits -/

/-- The violation classes of Table 5-6 that the slice body can commit. -/
inductive Viol where
  | length | code | level | mode
deriving DecidableEq, Repr

/-- The bits of bytes, most significant first. -/
def bitsOf (bs : List Byte) : List Bool :=
  bs.flatMap fun b => (List.range 8).map fun i => b.getLsbD (7 - i)

/-- read(m) of R129: the next m bits, most significant first. Past the end is a LENGTH violation (R138). -/
def readBits : Nat → Nat → List Bool → Except Viol (Nat × List Bool)
  | 0, acc, r => .ok (acc, r)
  | _ + 1, _, [] => .error .length
  | m + 1, acc, b :: r => readBits m (2 * acc + b2n b) r

/-- The run of zero bits before a 1, at most 17 of them (R129). -/
def readZeros : Nat → Nat → List Bool → Except Viol (Nat × List Bool)
  | _, _, [] => .error .length
  | _, n, true :: r => .ok (n, r)
  | 0, _, false :: _ => .error .code
  | f + 1, n, false :: r => readZeros f (n + 1) r

/-- read_se(k) of R129. -/
def readSe (k : Nat) (r : List Bool) : Except Viol (Int × List Bool) := do
  let (n, r) ← readZeros 17 0 r
  let (m, r) ← readBits n 0 r
  let (l, r) ← readBits k 0 r
  let u := (2 ^ n + m - 1) * 2 ^ k + l
  if 131071 < u then .error .code
  else .ok (if u % 2 = 1 then ((u + 1) / 2 : Int) else -((u / 2 : Nat) : Int), r)

/-- The order after a level of magnitude a (R130). -/
def nextOrder (k a : Nat) : Nat :=
  if 3 * 2 ^ k ≤ a then (if k < 12 then k + 1 else k)
  else if 0 < k ∧ 2 * a < 2 ^ k then k - 1 else k

/-- `n` levels in turn, with the order after each (R130). -/
def readLevels : Nat → Nat → List Bool → Except Viol (List Int × Nat × List Bool)
  | 0, k, r => .ok ([], k, r)
  | n + 1, k, r => do
    let (v, r) ← readSe k r
    let (vs, k, r) ← readLevels n (nextOrder k v.natAbs) r
    .ok (v :: vs, k, r)

/-- The place (u, v) of zig-zag index i (Table 5-4). -/
def zigzag : List (Nat × Nat) :=
  [(0,0), (1,0), (0,1), (0,2), (1,1), (2,0), (3,0), (2,1), (1,2), (0,3), (1,3), (2,2), (3,1), (3,2), (2,3), (3,3)]

/-- Dequantisation of a level (R139). -/
def dequant (qp : Nat) (l : Int) : Int :=
  sat ((l * (([64, 72, 81, 91, 102, 114].getD (qp % 6) 0 * 2 ^ (qp / 6) : Nat) : Int) + 32) / 64) (-65536) 65535

/-- inv1 of R140. -/
def inv1 (s d e0 e1 : Int) : List Int :=
  let s0 := s - d / 2
  let s1 := d + s0
  let x0 := s0 - e0 / 2
  let x2 := s1 - e1 / 2
  [x0, e0 + x0, x2, e1 + x2]

/-- fwd1 of R141. -/
def fwd1 (x0 x1 x2 x3 : Int) : List Int :=
  let e0 := x1 - x0
  let s0 := x0 + e0 / 2
  let e1 := x3 - x2
  let s1 := x2 + e1 / 2
  let d := s1 - s0
  [s0 + d / 2, d, e0, e1]

/-- The coefficient C[v][u] of the levels of a record. -/
def coef (qp : Nat) (ls : List Int) (u v : Nat) : Int :=
  dequant qp (ls.getD (zigzag.idxOf (u, v)) 0)

/-- The 16 residuals of a sub-block, row by row: columns first, then rows (R140). -/
def inverse4 (c : Nat → Nat → Int) : List Int :=
  let col (u : Nat) := inv1 (c u 0) (c u 1) (c u 2) (c u 3)
  let t (v u : Nat) := (col u).getD v 0
  (List.range 4).flatMap fun v => inv1 (t v 0) (t v 1) (t v 2) (t v 3)

/-- The forward transform of the 16 residuals of a sub-block: rows first, then columns (R141). The coefficient at (u, v). -/
def forward4 (x : List Int) (u v : Nat) : Int :=
  let row (y : Nat) := fwd1 (x.getD (4 * y) 0) (x.getD (4 * y + 1) 0) (x.getD (4 * y + 2) 0) (x.getD (4 * y + 3) 0)
  (fwd1 ((row 0).getD u 0) ((row 1).getD u 0) ((row 2).getD u 0) ((row 3).getD u 0)).getD v 0

/-- One sub-block record (R128): its 16 residuals and the order after it. -/
def readRecord (qp k : Nat) (r : List Bool) : Except Viol (List Int × Nat × List Bool) := do
  let (cbf, r) ← readBits 1 0 r
  if cbf = 0 then .ok (List.replicate 16 0, k, r) else
  let (last, r) ← readBits 4 0 r
  let (ls, k, r) ← readLevels (last + 1) k r
  if ls.getD last 0 = 0 then .error .level
  else .ok (inverse4 (coef qp ls), k, r)

/-- The four records of a component and its 64 residuals in raster order. -/
def readComponent (qp k : Nat) (r : List Bool) : Except Viol (List Int × Nat × List Bool) := do
  let (a, k, r) ← readRecord qp k r
  let (b, k, r) ← readRecord qp k r
  let (c, k, r) ← readRecord qp k r
  let (d, k, r) ← readRecord qp k r
  let at' (i : Nat) : Int :=
    let x := i % 8
    let y := i / 8
    (if y < 4 then (if x < 4 then a else b) else (if x < 4 then c else d)).getD (y % 4 * 4 + x % 4) 0
  .ok ((List.range 64).map at', k, r)

/-! ### Prediction and reconstruction -/

/-- The least sample of a component (R133). -/
def sampleLo (d c : Nat) : Int := if c = 0 then 0 else -((2 ^ d - 1 : Nat) : Int)

/-- The greatest sample of a component (R133). -/
def sampleHi (d : Nat) : Int := ((2 ^ d - 1 : Nat) : Int)

/-- The mid-value of a component (R133). -/
def sampleMid (d c : Nat) : Int := if c = 0 then ((2 ^ (d - 1) : Nat) : Int) else 0

/-- The modes of Table 5-3. -/
inductive Mode where
  | skip | copy | dc | horizontal | vertical | floor
deriving DecidableEq, Repr

/-- The mode code of Table 5-3. -/
def readMode (r : List Bool) : Except Viol (Mode × List Bool) := do
  let (a, r) ← readBits 1 0 r
  if a = 1 then .ok (.skip, r) else
  let (b, r) ← readBits 1 0 r
  if b = 1 then .ok (.copy, r) else
  let (c, r) ← readBits 2 0 r
  .ok (match c with | 2 => .dc | 3 => .horizontal | 1 => .vertical | _ => .floor, r)

/-- A decoded block: its samples, whether it reads the reference, and its vector when it is COPY. -/
structure BlockOut where
  samples : List Int
  reads   : Bool
  mv      : Option (Int × Int)
deriving DecidableEq, Repr

/-- The reference of a slice: sample c at picture row y (clamped by the picture itself) and column x. -/
abbrev RefSample := Int → Int → Nat → Int

/-- A sample of the blocks decoded so far, at (x, y) of the slice. -/
def recAt (colW : Nat) (done : List BlockOut) (c x y : Nat) : Int :=
  match done[(y / 8) * (colW + 1) + x / 8]? with
  | some b => b.samples.getD (c * 64 + y % 8 * 8 + x % 8) 0
  | none => 0

/-- The sum of a list. -/
def sumInt (l : List Int) : Int := l.foldl (· + ·) 0

/-- The intra prediction of one component of block (bx, by') at a sample (x, y) of the block (R134). -/
def intraPred (d colW : Nat) (done : List BlockOut) (mode : Mode) (bx by' c : Nat) : Nat → Nat → Int :=
  let above : List Int := (List.range 8).map fun x => recAt colW done c (8 * bx + x) (8 * by' - 1)
  let left : List Int := (List.range 8).map fun y => recAt colW done c (8 * bx - 1) (8 * by' + y)
  let up := decide (0 < by')
  let lf := decide (0 < bx)
  let mid := sampleMid d c
  let dc := if up && lf then (sumInt above + sumInt left + 8) / 16
    else if up then (sumInt above + 4) / 8 else if lf then (sumInt left + 4) / 8 else mid
  fun x y => match mode with
    | .horizontal => if lf then left.getD y 0 else mid
    | .vertical => if up then above.getD x 0 else mid
    | _ => dc

/-- The reference samples of a block displaced by a vector (R135). -/
def refBlock (rf : RefSample) (row bx by' : Nat) (mv : Int × Int) : List Int :=
  (List.range 192).map fun i =>
    let y : Nat := i % 64 / 8
    let x : Nat := i % 8
    rf ((32 * row + 8 * by' + y : Nat) + mv.2) ((8 * bx + x : Nat) + mv.1) (i / 64)

/-- A FLOOR sample of 5 bits (R136). -/
def floorSample (d c p : Nat) : Int :=
  if c = 0 then ((p * 2 ^ (d - 5) + 2 ^ (d - 6) : Nat) : Int)
  else ((p : Int) - 16) * 2 ^ (d - 4) + 2 ^ (d - 5)

/-- `n` samples of 5 bits. -/
def readPcm : Nat → List Bool → Except Viol (List Nat × List Bool)
  | 0, r => .ok ([], r)
  | n + 1, r => do
    let (p, r) ← readBits 5 0 r
    let (ps, r) ← readPcm n r
    .ok (p :: ps, r)

/-- A FLOOR block (R136). -/
def readFloor (d : Nat) (r : List Bool) : Except Viol (BlockOut × List Bool) := do
  let (ps, r) ← readPcm 192 r
  .ok (⟨ps.zipIdx.map fun p => floorSample d (p.2 / 64) p.1, false, none⟩, r)

/-- What decoding a slice has reached: the blocks so far, the three orders, whether a vector was clamped. -/
structure SliceRun where
  done   : List BlockOut
  ky     : Nat
  kco    : Nat
  kcg    : Nat
  window : Bool
deriving DecidableEq, Repr

/-- Prediction plus residual, limited to the range of R133 (R140). -/
def addResidual (d : Nat) (pred res : List Int) : List Int :=
  (pred.zip res).zipIdx.map fun p => sat (p.1.1 + p.1.2) (sampleLo d (p.2 / 64)) (sampleHi d)

/-- One block in the normal syntax (R127 to R136). -/
def readBlock (h : SliceHdr) (rf : RefSample) (st : SliceRun) (r : List Bool) :
    Except Viol (SliceRun × List Bool) := do
  let b := st.done.length
  let bx := b % (h.colW + 1)
  let by' := b / (h.colW + 1)
  let (mode, r) ← readMode r
  if h.intra ∧ (mode = .skip ∨ mode = .copy) then .error .mode else
  match mode with
  | .skip => .ok ({ st with done := st.done ++ [⟨refBlock rf h.row bx by' (0, 0), true, none⟩] }, r)
  | .floor =>
    let (o, r) ← readFloor h.d r
    .ok ({ st with done := st.done ++ [o] }, r)
  | _ =>
    let (mv, window, r) ← (if mode = .copy then do
        let (dx, r) ← readSe 0 r
        let (dy, r) ← readSe 0 r
        let p : Int × Int := if bx = 0 then (0, 0) else ((st.done.getLast?.bind (·.mv)).getD (0, 0))
        let v : Int × Int := (p.1 + dx, p.2 + dy)
        let w : Int × Int := (sat v.1 (-(8 * bx : Int)) (8 * h.colW - 8 * bx), sat v.2 (-32) 32)
        .ok (some w, decide (w ≠ v), r)
      else .ok ((none : Option (Int × Int)), false, r) : Except Viol (Option (Int × Int) × Bool × List Bool))
    let pred : List Int := match mv with
      | some v => refBlock rf h.row bx by' v
      | none => (List.range 192).map fun i =>
          intraPred h.d h.colW st.done mode bx by' (i / 64) (i % 8) (i % 64 / 8)
    let (ry, ky, r) ← readComponent h.qp st.ky r
    let (rco, kco, r) ← readComponent h.qp st.kco r
    let (rcg, kcg, r) ← readComponent h.qp st.kcg r
    .ok ({ done := st.done ++ [⟨addResidual h.d pred (ry ++ rco ++ rcg), mv.isSome, mv⟩]
           ky := ky, kco := kco, kcg := kcg, window := st.window || window }, r)

/-- Up to `n` blocks of a syntax, until a violation. -/
def readMany (f : SliceRun → List Bool → Except Viol (SliceRun × List Bool)) :
    Nat → SliceRun → List Bool → SliceRun × List Bool × Option Viol
  | 0, st, r => (st, r, none)
  | n + 1, st, r =>
    match f st r with
    | .error v => (st, r, some v)
    | .ok (st, r) => readMany f n st r

/-- The padding to the next byte boundary: the bits left after it and whether they were zero. -/
def alignBits (r : List Bool) : List Bool × Bool := (r.drop (r.length % 8), (r.take (r.length % 8)).all (!·))

/-- A slice as decoded: the blocks that stand, the violation that stopped it, whether a LENGTH violation was committed that
stops nothing (a BYTE_LEN that is not the length received, padding bits, bytes after the padding), whether a vector was
clamped. -/
structure SliceOut where
  blocks : List BlockOut
  stop   : Option Viol
  length : Bool
  window : Bool
deriving DecidableEq, Repr

/-- Whether a slice committed a violation of LENGTH, CODE, LEVEL, MODE or WINDOW. -/
def SliceOut.faulty (o : SliceOut) : Bool := o.stop.isSome || o.length || o.window

/-- The complete decoding process over the bytes received, its header having passed HEADER and GEOMETRY; block b reads its
reference through `rf b`. No bit is read past BYTE_LEN or past the bytes (R138, R266). -/
def decodeWith (h : SliceHdr) (bs : List Byte) (rf : Nat → RefSample) : SliceOut :=
  let lenBad := decide (h.len < 16) || decide (h.len ≠ bs.length)
  let body := bitsOf ((bs.take h.len).drop 16)
  let n := h.blocks
  let (st, r, v) := readMany (fun st => readBlock h (rf st.done.length) st) (if h.floor then h.floorFrom else n) ⟨[], 0, 0, 0, false⟩ body
  match v with
  | some v => ⟨st.done, some v, lenBad, st.window⟩
  | none =>
    let (r, zero) := alignBits r
    if h.floor then
      let tail (st : SliceRun) (r : List Bool) := (readFloor h.d r).map fun p =>
        ({ st with done := st.done ++ [p.1] }, p.2)
      let (st, r, v) := readMany tail (n - h.floorFrom) st r
      match v with
      | some v => ⟨st.done, some v, lenBad || !zero, st.window⟩
      | none => ⟨st.done, none, lenBad || !zero || decide (r ≠ []), st.window⟩
    else ⟨st.done, none, lenBad || !zero || decide (r ≠ []), st.window⟩

/-- The decoding process against one reference for every block. -/
def decodeSlice (h : SliceHdr) (bs : List Byte) (rf : RefSample) : SliceOut := decodeWith h bs fun _ => rf

/-- Blocks coded one by one, each as its own bits, obey the syntax: each is read to its last bit with no violation, and no vector
leaves the window of R132 (R145, R155). -/
def blocksObey (h : SliceHdr) : SliceRun → List (List Bool) → Bool
  | _, [] => true
  | st, b :: bs =>
    match readBlock h (fun _ _ _ => 0) st b with
    | .ok (st, []) => ! st.window && blocksObey h st bs
    | _ => false

/-! ### The ring of reference rows (R153, R154) -/

/-- A row of the reference as the ring holds it: 256 samples of each component, outside the picture the nearest inside. -/
def ringLine (rf : RefSample) (y : Int) : List Int := (List.range 768).map fun i => rf y (i % 256 : Nat) (i / 256)

/-- The ring as a slice begins whose first block row is R: the 72 rows from 8R − 32. -/
def Ring.start (rf : RefSample) (r : Nat) : Ring :=
  let top : Int := 8 * r - 32
  ⟨top, (List.range 72).map fun (i : Nat) => ringLine rf (top + i)⟩

/-- A slide loads the next eight rows; the ring holds at most 80, so it drops the first eight once it is full. -/
def Ring.slide (rf : RefSample) (g : Ring) : Ring :=
  let g : Ring := if 80 ≤ g.rows.length then ⟨g.top + 8, g.rows.drop 8⟩ else g
  ⟨g.top, g.rows ++ (List.range 8).map fun (i : Nat) => ringLine rf (g.top + g.rows.length + i)⟩

/-- `n` slides. -/
def Ring.slides (rf : RefSample) : Nat → Ring → Ring
  | 0, g => g
  | n + 1, g => Ring.slides rf n (g.slide rf)

/-- The ring while block row k of a slice of n block rows, the first of them R, is coded: one slide ahead, for the search of the
next block row, as long as there is one. -/
def ringAt (rf : RefSample) (r n k : Nat) : Ring := Ring.slides rf (min (k + 1) (n - 1)) (Ring.start rf r)

/-- A sample that the ring holds. -/
def Ring.sample (g : Ring) : RefSample := fun y x c => (g.rows.getD (y - g.top).toNat []).getD (c * 256 + x.toNat) 0

/-! ### Conversion (R108 step 4, R143) -/

/-- The R'G'B' of a reconstructed sample at 12 bits (R143). -/
def toRgb (d : Nat) (yy co cg : Int) : Int × Int × Int :=
  let t := yy - cg / 2
  let g := cg + t
  let b := t - co / 2
  let r := b + co
  let out (v : Int) : Int := sat v 0 (sampleHi d) * (if d = 10 then 4 else 1)
  (out r, out g, out b)

end Sys2Proof.Machine
end

