-- ==== Sys2Proof/Machine/Viaduct.lean ====
section
/-! DEFINITION. FN_VIA (spec/08_viaduct.md): discovery, routes and groups, subscription, the end-to-end
delivery of messages and the commands of group 0x0A. REG_READ and REG_WRITE stand in Remote.lean. -/

namespace Sys2Proof.Machine

/-! ### Shared operations -/

/-- Take the first delivered message of a TYPE that is no response out of the inbox (R214). -/
def State.takeMsg (s : State) (typ : Nat) : Option (Nat × Msg × State) :=
  match s.via.inbox.find? fun e => ¬ e.2.resp ∧ e.2.typ = typ with
  | some e => some (e.1, e.2, { s with via := { s.via with inbox := s.via.inbox.erase e } })
  | none => none

/-- Run the row of a tollhouse message: nothing while a restart stops the tollhouse (R218), and nothing
where no such message has been delivered. -/
def State.onMsg (s : State) (typ : Nat) (f : Nat → Msg → State → State) : State :=
  if s.restarting then s else
  match s.takeMsg typ with
  | some (k, m, t) => f k m t
  | none => s

/-- The own entry of a PORTS field: state and peer of port `k` (Table 8-3). -/
def State.portWord (s : State) (k : Nat) : Nat :=
  s.fld SPN_STATUS.STATE k * 4096 + s.fld SPN_STATUS.PEER k

/-- Bytes 16 to 47 of Table 8-3: 16 entries of 2 bytes. -/
def State.portsBytes (s : State) : List Byte := (List.range 16).flatMap fun k => beBytes 2 (s.portWord k)

/-- ROLE of Table 3-1, 0xFF without a bit-stream. -/
def State.roleByte (s : State) : Nat :=
  if s.flag CFG_STATUS.IN_FORCE then s.fld CFG_STATUS.ROLE else 0xFF

/-- The ANNOUNCE payload of this device (Table 8-3). -/
def State.announceBytes (s : State) : List Byte :=
  beBytes 8 s.fuses.serial ++ beBytes 1 s.roleByte ++ beBytes 1 0xFF ++ beBytes 2 (s.fld VIA_SELF.PREF) ++
  beBytes 2 s.self ++ beBytes 2 0 ++ s.portsBytes

/-- Whether this device is the discovery master (R219). -/
def State.isMaster (s : State) : Bool := s.flag VIA_CFG.MASTER

/-- A change of a port's state or PEER: LINKS goes to the master (R220); at the master itself it restarts
the wait of SETTLE. The tollhouse sends it: in a restart it waits for the end (R218). -/
def State.linksChanged (s : State) : State :=
  if s.restarting then { s with via := { s.via with linksOwed := true } }
  else if s.isMaster then { s with via := { s.via with quietAt := s.clock, moved := true } }
  else if s.self = 0 ∨ s.fld VIA_STATUS.MASTER = 0 then s
  else s.sendMsg (.node (s.fld VIA_STATUS.MASTER)) 0 0x05 0 s.portsBytes true

/-- PROBE on one port (step 1 of R220): an assigned device only; a device 256 spans from the master sends
none and raises EV_VIA_DEPTH. In a tollhouse restart the PROBE waits for the end (R218). -/
def State.probeOn (s : State) (k : Nat) : State :=
  if s.self = 0 then s
  else if s.restarting then { s with via := { s.via with owed := s.via.owed.filter (· ≠ k) ++ [k] } }
  else if 256 ≤ s.via.steps then (s.setFlag VIA_STATUS.DEPTH true).raise 0x0A06 [(16, 1, k)]
  else s.sendMsg (.neighbour k) 0 0x01 0 (beBytes 2 (s.fld VIA_STATUS.MASTER) ++ beBytes 2 s.via.steps) false

/-- PROBE on every UP port. -/
def State.probeAll (s : State) : State := (portsWhere 16 s.portUp).foldl State.probeOn s

/-- The number of addresses assigned or reserved, the master's included (VIA_NODES). -/
def State.countNodes (s : State) : State :=
  s.setFld VIA_NODES.COUNT ((s.via.nodes.countP fun n => n.addr ≠ 0) + 1)

/-- The firmware is to store the address in its settings (R221); the save is that of REMOVED_SAVE. -/
def State.addrChanged (s : State) : State := { s with dia := { s.dia with unsaved := some (s.dia.unsaved.getD s.clock) } }

/-- The address of a device changes; the same address changes nothing. -/
def State.takeAddr (s : State) (a : Nat) : State := if s.self = a then s else (s.setFld VIA_SELF.ADDR a).addrChanged

/-- Begin a discovery at the master (R219): it takes PREF, or 0x001, as its address and probes. One that has an address keeps it
(R224). -/
def State.startDiscovery (s : State) : State :=
  let a := if s.self ≠ 0 then s.self else if s.fld VIA_SELF.PREF = 0 then 1 else s.fld VIA_SELF.PREF
  let s := ((s.takeAddr a).setFld VIA_STATUS.MASTER a).setFld VIA_STATUS.DISC 3
  State.probeAll (State.countNodes { s with via := { s.via with
    steps := 0, searching := true, settle := false, quietAt := s.clock,
    nodes := s.via.nodes.map fun n => { n with found := false } } })

/-- What FN_VIA does when a span port comes UP: its interest mask is all ones until the first SUBSCRIBE
(R229), the port is probed (R220), LINKS goes to the master, and the master of HW mode begins discovery
when its first port comes UP (R219). -/
def State.viaPortUp (s : State) (k : Nat) : State :=
  let first := (portsWhere 16 s.portUp).length = 1
  let s : State := { s with via := { s.via with
    interest := Sparse.set s.via.interest k (List.replicate 512 0xFF),
    announced := Sparse.erase s.via.announced k } }
  if s.isMaster ∧ ¬ s.assist 9 ∧ first then
    if s.restarting then State.linksChanged { s with via := { s.via with searchOwed := true } }
    else s.startDiscovery.linksChanged
  else (s.probeOn k).linksChanged

/-- The end of a tollhouse restart: discovery, PROBEs and LINKS that fell due in it (R30, R218). -/
def State.viaResume (s : State) : State :=
  let v := s.via
  let s : State := { s with via := { s.via with owed := [], linksOwed := false, searchOwed := false } }
  let s := if v.searchOwed ∧ s.isMaster then s.startDiscovery
    else (v.owed.filter s.portUp).foldl State.probeOn s
  if v.linksOwed then s.linksChanged else s

/-! ### Subscription (R229) -/

/-- The interest mask of a port, 512 bytes: stream s is bit 7 − (s mod 8) of byte s / 8. -/
def State.interestOf (s : State) (k : Nat) : List Byte :=
  Sparse.get (List.replicate 512 0xFF) s.via.interest k

/-- Whether a mask holds a stream. -/
def maskHas (m : List Byte) (stream : Nat) : Bool :=
  bits (m.getD (stream / 8) 0).toNat (7 - stream % 8) 1 = 1

/-- The local interest of a pier: the streams for which it holds an open decoder context (R229, R252). -/
def State.localInterest (s : State) (stream : Nat) : Bool := s.dec.ctxs.any fun p => p.2.stream = stream

/-- Word `w` of VIA_SUB, which mirrors the local interest. -/
def State.subWord (s : State) (w : Nat) : Nat := maskWhere 32 fun i => s.localInterest (32 * w + i)

/-- What the device announces of its own: its local interest, and the lease stream 0xFFF with an enabled segment
entry (R430). -/
def State.interested (s : State) (stream : Nat) : Bool :=
  s.localInterest stream || (decide (stream = 0xFFF) && (List.range 16).any fun e => s.flag RED_SEG_CFG.EN e)

/-- Byte `j` of it: stream 8j in the most significant bit. -/
def State.localByte (s : State) (j : Nat) : Byte :=
  BitVec.ofNat 8 (maskWhere 8 fun i => s.interested (8 * j + 7 - i))

/-- Byte `j` of what port `q` would announce: the local interest and that of every other UP port, all ones
for one whose SUB_EN is 0. -/
def State.announceByte (s : State) (q j : Nat) : Byte :=
  (portsWhere 16 fun r => s.portUp r && decide (r ≠ q)).foldl
    (fun b r => b ||| (if s.flag VIA_PORT_CFG.SUB_EN r then (s.interestOf r).getD j 0xFF else 0xFF))
    (s.localByte j)

/-- What port `q` would announce, 512 bytes. -/
def State.announcement (s : State) (q : Nat) : List Byte := (List.range 512).map (s.announceByte q)

/-- SUBSCRIBE_SEND: on an UP port with SUB_EN, the announcement goes out when it has changed or 100 ms
have passed. -/
def onSubscribeSend (k : Fin 16) (s : State) : State :=
  let a := s.announcement k
  let due := Sparse.find s.via.announced k ≠ some a ∨ Sparse.get 0 s.via.announcedAt k + 100 * ms ≤ s.clock
  if s.portUp k ∧ s.flag VIA_PORT_CFG.SUB_EN k ∧ due then
    State.sendMsg { s with via := { s.via with
      announced := Sparse.set s.via.announced k a, announcedAt := Sparse.set s.via.announcedAt k s.clock } }
      (.neighbour k) 0 0x0A 0 a false
  else s

/-- SUBSCRIBE: a received SUBSCRIBE of 512 bytes replaces the port's interest mask. Fixed logic takes it,
so it goes on through a tollhouse restart (R218). -/
def onSubscribe (s : State) : State :=
  match s.takeMsg 0x0A with
  | some (k, m, t) =>
    if m.payload.length = 512 then { t with via := { t.via with interest := Sparse.set t.via.interest k m.payload } }
    else t
  | none => s

/-- A message whose response arrived or that was given up makes room for one that waited (R216). -/
def State.nextPending (s : State) (dst vc : Nat) : State :=
  match s.via.pend.find? fun p => p.msg.dst = dst ∧ p.msg.vc = vc ∧ p.sent = none with
  | some p =>
    State.relaunch { s with via := { s.via with pend := s.via.pend.map fun c =>
      if c = p then { c with sent := some s.clock } else c } } p.msg
  | none => s

/-! ### Discovery (R219 to R224) -/

/-- The running CMD_VIA_DISCOVERs. -/
def State.discovers (s : State) : List Cmd :=
  s.host.cmds.filter fun c => decide (c.opcode = 0x0A01 ∧ c.phase = .running)

/-- A master stops its own discovery for another: MASTER is cleared, the routes stay in force, a running CMD_VIA_DISCOVER ends
as on a device that is no master (R224). -/
def State.yieldMaster (s : State) : State :=
  let done := s.fld VIA_STATUS.DISC = 4
  let s := (s.setFlag VIA_CFG.MASTER false).setFld VIA_STATUS.DISC (if done then 2 else 1)
  let s : State := { s with via := { s.via with searching := false, settle := false, moved := false } }
  s.discovers.foldl (fun s c => s.finish c 0x0A01) s

/-- PROBE: an unassigned device records the port of the first one and answers with ANNOUNCE (step 2); an assigned one
announces itself directly to a new master (step 6); a master that meets another raises
EV_VIA_MASTER_CONFLICT and, if the other's address is lower, gives way to it (R224) and announces itself as well. -/
def onProbe (s : State) : State :=
  s.onMsg 0x01 fun k m s =>
    let master := beAt m.payload 0 2
    let steps := beAt m.payload 2 2
    if s.isMaster then
      if master = s.self then s
      else
        let s := s.raise 0x0A04 [(16, 2, master)]
        if master < s.self then
          let s := s.yieldMaster
          State.sendMsg { s with via := { s.via with steps := steps + 1 } } (.node master) 0 0x02 0 s.announceBytes true
        else s
    else if s.self = 0 then
      let s : State := if s.via.probed then s else
        { s.setFld VIA_STATUS.UPPORT k with via := { s.via with steps := steps + 1, probed := true } }
      s.sendMsg (.neighbour k) 0 0x02 0 s.announceBytes true
    else if master ≠ s.fld VIA_STATUS.MASTER then
      State.sendMsg { s with via := { s.via with steps := steps + 1 } } (.node master) 0 0x02 0
        (s.announceBytes) true
    else s

/-- Whether another serial holds an address in the master's map. -/
def State.addrHeld (s : State) (serial a : Nat) : Bool :=
  a = s.self || s.via.nodes.any fun n => n.addr = a && n.serial ≠ serial

/-- The lowest free address (R221). -/
def State.freeAddr (s : State) (serial : Nat) : Nat :=
  ((List.range 0xFFE).map (· + 1)).find? (fun a => ¬ s.addrHeld serial a) |>.getD 0

/-- The address the master chooses (R221). -/
def State.chooseAddr (s : State) (serial addr pref : Nat) : Nat :=
  match s.via.nodes.find? fun n => n.serial = serial ∧ n.addr ≠ 0 with
  | some n => n.addr
  | none =>
    if addr ≠ 0 ∧ ¬ s.addrHeld serial addr then addr
    else if pref ≠ 0 ∧ ¬ s.addrHeld serial pref then pref
    else s.freeAddr serial

/-- The ASSIGN payload (step 4 of R220). -/
def assignBytes (serial addr master port : Nat) : List Byte :=
  beBytes 8 serial ++ beBytes 2 addr ++ beBytes 2 master ++ beBytes 1 port

/-- Send ASSIGN towards a proxy; the master that is its own proxy sends it on the port. It is the answer to the ANNOUNCE `q`. -/
def State.sendAssign (s : State) (serial addr proxy port : Nat) (q : Option Msg) : State :=
  let bs := assignBytes serial addr s.self port
  let d : Dest := if proxy = s.self then .neighbour port else .node (if proxy = 0 then addr else proxy)
  let s := match q with
    | some q => s.holdAnswer q (s.newMsg d 0 0x03 0 bs)
    | none => s
  s.sendMsg d 0 0x03 0 bs false

/-- Put a device into the master's map, in place of an older entry of the same serial. -/
def State.putNode (s : State) (n : NodeSt) : State :=
  { s with via := { s.via with nodes := (s.via.nodes.filter fun c => c.serial ≠ n.serial) ++ [n] } }

/-- An ANNOUNCE at the master (R221, R222): in HW mode the address is chosen and assigned, with
EV_VIA_ADDR_CONFLICT where ADDR or PREF is held by another serial; in ASSIST mode EV_VIA_FOUND is raised
once per serial and discovery. -/
def State.masterAnnounce (s : State) (q : Msg) (port proxy : Nat) : State :=
  let bs := q.payload
  let serial := beAt bs 0 8
  let role := beAt bs 8 1
  let pref := beAt bs 10 2
  let addr := beAt bs 12 2
  let ports := (List.range 16).map fun k => beAt bs (16 + 2 * k) 2
  let s : State := { s with via := { s.via with quietAt := s.clock, moved := true } }
  let old := s.via.nodes.find? fun n => n.serial = serial
  if s.assist 9 then
    let seen := (old.map (·.found)).getD false
    let s := s.putNode ⟨serial, if addr ≠ 0 then addr else (old.map (·.addr)).getD 0, role, proxy, port, ports, false,
      seen || decide (addr = 0)⟩
    if addr = 0 ∧ ¬ seen then
      s.raise 0x0A01 [(16, 8, serial), (24, 2, proxy), (26, 1, port), (27, 1, role), (28, 2, pref)]
    else s.countNodes
  else
    let a := s.chooseAddr serial addr pref
    let clash := if addr ≠ 0 ∧ s.addrHeld serial addr then addr
      else if pref ≠ 0 ∧ s.addrHeld serial pref then pref else 0
    let s := if clash = 0 then s else s.raise 0x0A03 [(16, 2, clash), (24, 8, serial)]
    ((s.putNode ⟨serial, a, role, proxy, port, ports, false, true⟩).countNodes).sendAssign serial a proxy port (some q)

/-- ANNOUNCE: the proxy fills in PORT and PROXY and forwards it to the master (step 3); the master maps
the device (step 4). -/
def onAnnounce (s : State) : State :=
  s.onMsg 0x02 fun k m s =>
    let proxy := beAt m.payload 14 2
    if s.isMaster then
      if proxy = 0 ∧ m.hops = 0 then s.masterAnnounce m k s.self
      else s.masterAnnounce m (beAt m.payload 9 1) proxy
    else if s.self = 0 then s
    else
      s.sendMsg (.node (s.fld VIA_STATUS.MASTER)) 0 0x02 0
        (m.payload.take 9 ++ beBytes 1 k ++ bytesAt m.payload 10 4 ++ beBytes 2 s.self ++ m.payload.drop 16) true

/-- ASSIGN: the named device takes ADDR, sends HELLO on every UP port and probes (step 5); the proxy sends
it on to its PORT and stops waiting for that ANNOUNCE's answer (log entry 13). -/
def onAssign (s : State) : State :=
  s.onMsg 0x03 fun _ m s =>
    let serial := beAt m.payload 0 8
    let addr := beAt m.payload 8 2
    let master := beAt m.payload 10 2
    let port := beAt m.payload 12 1
    let mine (p : Pending) : Bool := decide (p.msg.typ = 0x02 ∧ beAt p.msg.payload 0 8 = serial)
    let done := s.via.pend.filter mine
    let s : State := { s with via := { s.via with pend := s.via.pend.filter fun p => ! mine p } }
    let s := done.foldl (fun s p => s.nextPending p.msg.dst p.msg.vc) s
    if serial = s.fuses.serial then
      let s := ((s.takeAddr addr).setFld VIA_STATUS.MASTER master).setFld VIA_STATUS.DISC 1
      let s := (portsWhere 16 s.portUp).foldl
        (fun s k => s.sendMsg (.neighbour k) 0 0x04 0 (beBytes 1 k) false) s
      s.probeAll.linksChanged
    else s.sendMsg (.neighbour port) 0 0x03 0 m.payload false

/-- HELLO: PEER of the receiving port becomes the sender's address (R220). -/
def onHello (s : State) : State :=
  s.onMsg 0x04 fun k m s =>
    if s.fld SPN_STATUS.PEER k = m.src then s else (s.setFld SPN_STATUS.PEER m.src k).linksChanged

/-- LINKS: the master updates its topology map; in ASSIST it raises EV_VIA_LINKS (R222). -/
def onLinks (s : State) : State :=
  s.onMsg 0x05 fun _ m s =>
    let s := s.respond m [0]
    if ¬ s.isMaster then s
    else
      let ports := (List.range 16).map fun k => beAt m.payload (2 * k) 2
      let s : State := { s with via := { s.via with
        quietAt := s.clock, moved := true
        nodes := s.via.nodes.map fun n => if n.addr = m.src then { n with ports := ports } else n } }
      if s.assist 9 then s.raise 0x0A08 [(16, 2, m.src)] else s

/-! ### Routes (R223, R225) -/

/-- The spans of a device in the map: port and far node of each UP port, lowest port first. -/
def spansOf (ports : List Nat) : List (Nat × Nat) :=
  (ports.zipIdx.filter fun c => c.1 / 4096 = spanUp ∧ c.1 % 4096 ≠ 0).map fun c => (c.2, c.1 % 4096)

/-- The spans that both their ends report: what a device said before it vanished is none (R231). -/
def mutualSpans (topo : List (Nat × List (Nat × Nat))) : List (Nat × List (Nat × Nat)) :=
  topo.map fun n => (n.1, n.2.filter fun e => topo.any fun m => decide (m.1 = e.2) && m.2.any fun f => decide (f.2 = n.1))

/-- The topology as the master knows it: address and spans of every device, its own first. -/
def State.topology (s : State) : List (Nat × List (Nat × Nat)) :=
  mutualSpans <| (s.self, spansOf ((List.range 16).map s.portWord)) ::
    (s.via.nodes.filter fun n => n.addr ≠ 0).map fun n => (n.addr, spansOf n.ports)

/-- One round of shortest-path relaxation towards a destination: distances known so far, improved by one
span. `skip` is a span (device, port) that paths must avoid. -/
def relax (topo : List (Nat × List (Nat × Nat))) (skip : Option (Nat × Nat)) (dist : Sparse Nat) : Sparse Nat :=
  topo.foldl (fun d n =>
    n.2.foldl (fun d e =>
      if skip = some (n.1, e.1) then d else
      match Sparse.find d e.2 with
      | some x =>
        (match Sparse.find d n.1 with
         | some y => if x + 1 < y then Sparse.set d n.1 (x + 1) else d
         | none => Sparse.set d n.1 (x + 1))
      | none => d) d) dist

/-- Distances in spans of every device to a destination. -/
def distances (topo : List (Nat × List (Nat × Nat))) (skip : Option (Nat × Nat)) (dst : Nat) : Nat → Sparse Nat
  | 0 => [(dst, 0)]
  | n + 1 => relax topo skip (distances topo skip dst n)

/-- The first port of a device on a shortest path to a destination, with its distance. -/
def firstPort (topo : List (Nat × List (Nat × Nat))) (skip : Option (Nat × Nat)) (src dst : Nat) : Option (Nat × Nat) :=
  let d := distances topo skip dst topo.length
  match Sparse.find d src, topo.find? fun n => n.1 = src with
  | some x, some n =>
    (n.2.find? fun e => skip ≠ some (src, e.1) ∧ (Sparse.find d e.2).map (· + 1) = some x).map fun e => (e.1, x)
  | _, _ => none

/-- The VIA_ROUTE word of a device for a destination (R223): PORT, VALID, ALT, ALT_VALID, DIST. -/
def routeWord (topo : List (Nat × List (Nat × Nat))) (src dst : Nat) : Nat :=
  if src = dst then 0 else
  match firstPort topo none src dst with
  | none => 0
  | some (k, d) =>
    match firstPort topo (some (src, k)) src dst with
    | some (j, _) => k + 16 + j * 256 + 4096 + d % 4096 * 65536
    | none => k + 16 + d % 4096 * 65536

/-- The payload of the ROUTES message for a device: FIRST 0 and 4,096 entries (R225). -/
def routesBytes (topo : List (Nat × List (Nat × Nat))) (src : Nat) : List Byte :=
  beBytes 2 0 ++ beBytes 2 0 ++ (List.range 4096).flatMap fun a =>
    if (topo.any fun n => n.1 = a) then beBytes 4 (routeWord topo src a) else beBytes 4 0

/-- Write one VIA_ROUTE entry from a ROUTES message: not a PINNED one, not 0x000, 0xFFF or the own
address (R225). -/
def State.putRoute (s : State) (a w : Nat) : State :=
  if a = 0 ∨ a = 0xFFF ∨ a = s.self ∨ s.flag VIA_ROUTE.PINNED a then s
  else s.setWord (VIA_ROUTE.PORT.addr a) (BitVec.ofNat 32
    (bits w 0 4 + bits w 4 1 * 16 + bits w 8 4 * 256 + bits w 12 1 * 4096 + bits w 16 12 * 65536))

/-- Write the entries of a ROUTES payload from an address upwards. -/
def State.putRoutes (s : State) (a : Nat) : List Nat → State
  | [] => s
  | w :: ws => State.putRoutes (s.putRoute a w) (a + 1) ws

/-- The entries of a ROUTES payload. -/
def routeEntries : Nat → List Byte → List Nat
  | 0, _ => []
  | n + 1, bs => beAt bs 0 4 :: routeEntries n (bs.drop 4)

/-- ROUTES: the entries carried are written, and the message answered; one whose FIRST and count pass
4,096 changes nothing and is answered with ERR 0x02 (R225). -/
def onRoutes (s : State) : State :=
  s.onMsg 0x06 fun _ m s =>
    let first := beAt m.payload 0 2
    let n := (m.payload.length - 4) / 4
    if n = 0 ∨ m.payload.length % 4 ≠ 0 ∨ 4096 < first % 4096 + n then s.respond m [2]
    else ((s.putRoutes (first % 4096) (routeEntries n (m.payload.drop 4))).setFld VIA_STATUS.DISC 2).respond m [0]

/-- The devices the master reaches. -/
def State.reached (s : State) : List Nat :=
  let topo := s.topology
  (topo.map (·.1)).filter fun a => (Sparse.find (distances topo none s.self topo.length) a).isSome

/-- A device that vanished from the topology keeps its address, and EV_VIA_LOST is raised once (R223). -/
def State.loseNodes (s : State) : State :=
  let ok := s.reached
  let gone := s.via.nodes.filter fun n => n.addr ≠ 0 ∧ ¬ n.lost ∧ n.addr ∉ ok
  let s : State := { s with via := { s.via with nodes := s.via.nodes.map fun n => { n with lost := n.addr ≠ 0 && n.addr ∉ ok } } }
  gone.foldl (fun s n => s.raise 0x0A05 [(16, 2, n.addr)]) s

/-- ROUTES goes to every device whose table has changed (R223). -/
def State.sendRoutes (s : State) : State :=
  let topo := s.topology
  (s.reached.filter (· ≠ s.self)).foldl (fun s a =>
    let bs := routesBytes topo a
    if Sparse.find s.via.routesSent a = some bs then s
    else State.sendMsg { s with via := { s.via with routesSent := Sparse.set s.via.routesSent a bs } }
      (.node a) 2 0x06 0 bs true) s

/-- Complete every CMD_VIA_DISCOVER once the discovery has settled and its ROUTES are answered. -/
def State.discoverDone (s : State) : State :=
  if s.via.settle ∧ ¬ s.via.pend.any (fun p => p.msg.typ = 0x06 && p.cmd.isNone) then
    s.discovers.foldl (fun s c => s.finish c stOk) s
  else s

/-- SETTLE_EXPIRY: SETTLE has passed at a master of HW mode without a new ANNOUNCE or LINKS, in a discovery or after one; it
computes the routes of every device, its own among them, and sends what changed (R223). In ASSIST the
discovery settles without routes (R222). -/
def onSettleExpiry (s : State) : State :=
  if s.isMaster ∧ (s.via.searching ∨ (s.via.moved ∧ s.fld VIA_STATUS.DISC = 4 ∧ ¬ s.assist 9)) ∧ ¬ s.restarting ∧
      s.via.quietAt + s.fld VIA_CFG.SETTLE * ms ≤ s.clock then
    let s : State := { s.setFld VIA_STATUS.DISC 4 with via := { s.via with searching := false, settle := true, moved := false } }
    if s.assist 9 then s.discoverDone
    else
      let topo := s.topology
      let s := (topo.map (·.1)).foldl (fun s a => s.putRoute a (routeWord topo s.self a)) s
      ((s.loseNodes.sendRoutes).raise 0x0A02 [(16, 2, s.via.nodes.length + 1)]).discoverDone
  else s

/-- NOTIFY: a received notify plank raises EV_VIA_NOTIFY. -/
def onNotify (s : State) : State := s.onMsg 0x09 fun _ m s => s.raise 0x0A09 [(16, 2, m.src)]

/-! ### Responses and timeouts (R216) -/

/-- ST_VIA_UNREACHABLE. -/
def stViaUnreachable : Nat := 0x0A04

/-- E2E_TIMEOUT: a message without response for E2E_TO is sent again with the same MSG_SEQ; after three
resends it is given up, counted and reported, and the command it served ends ST_VIA_UNREACHABLE. -/
def State.giveUp (s : State) (p : Pending) : State :=
  let s : State := { s with via := { s.via with pend := s.via.pend.erase p } }
  let s := (s.bump VIA_CNT_E2E.FAIL).raise 0x0A07 [(16, 2, p.msg.dst), (18, 1, p.msg.vc), (19, 1, p.msg.typ)]
  let s : State := match p.cmd with
    | some (q, id) =>
      (match s.host.cmds.find? fun c => c.q = q ∧ c.id = id ∧ c.phase = .running with
       | some c => s.finish c stViaUnreachable
       | none => s)
    | none => s
  (s.nextPending p.msg.dst p.msg.vc).discoverDone

/-- The first message that has waited E2E_TO for its response. -/
def State.overdue (s : State) : Option Pending :=
  s.via.pend.find? fun p => match p.sent with
    | some t => t + s.fld VIA_CFG.E2E_TO * ms ≤ s.clock
    | none => false

/-! ### Commands of group 0x0A (Table 8-11) -/

/-- CMD_VIA_DISCOVER: start a discovery at the master; it completes when settled. -/
def onCmdViaDiscover (q : Fin 24) (tag : Nat) (s : State) : State :=
  match s.cmd q tag 0x0A01 with
  | none => s
  | some c =>
    if ¬ s.isMaster then s.finish c 0x0A01
    else (s.run c).startDiscovery

/-- CMD_VIA_ASSIGN: send an ASSIGN for a serial that has announced. -/
def onCmdViaAssign (q : Fin 24) (tag : Nat) (s : State) : State :=
  match s.cmd q tag 0x0A02 with
  | none => s
  | some c =>
    let serial := c.opnd 40 8
    let addr := c.opnd 48 2
    match s.via.nodes.find? fun n => n.serial = serial with
    | none => s.finish c 0x0A03
    | some n =>
      if s.addrHeld serial addr then s.finish c 0x0A02
      else (((s.putNode { n with addr := addr }).countNodes).sendAssign serial addr n.proxy n.port none).finish c stOk

/-- Words of a payload in host memory, little-endian, turned into fabric order (R4). -/
def swapWords : Nat → List Byte → List Byte
  | 0, _ => []
  | n + 1, bs => beBytes 4 (leAt bs 0 4) ++ swapWords n (bs.drop 4)

/-- CMD_VIA_ROUTES: send a ROUTES message to a node; it completes on the response. -/
def onCmdViaRoutes (q : Fin 24) (tag : Nat) (s : State) : State :=
  match s.cmd q tag 0x0A03 with
  | none => s
  | some c =>
    let bs := s.payload c
    (s.run c).sendMsg (.node (c.opnd 32 2 % 4096)) 2 0x06 0
      (beBytes 2 (c.opnd 34 2 % 4096) ++ beBytes 2 0 ++ swapWords (bs.length / 4) bs) true (some (c.q, c.id))

/-- CMD_VIA_FORGET: release a reserved address. -/
def onCmdViaForget (q : Fin 24) (tag : Nat) (s : State) : State :=
  match s.cmd q tag 0x0A04 with
  | none => s
  | some c =>
    let left := s.via.nodes.filter fun n => n.addr ≠ c.opnd 32 2
    (State.countNodes { s with via := { s.via with nodes := left } }).finish c stOk

/-- CMD_VIA_REG: send a REG_READ or REG_WRITE to a node; it completes on the response. -/
def onCmdViaReg (q : Fin 24) (tag : Nat) (s : State) : State :=
  match s.cmd q tag 0x0A05 with
  | none => s
  | some c =>
    let n := c.opnd 35 1
    let arg := c.opnd 36 4 / 4
    let node := c.opnd 32 2 % 4096
    if c.opnd 34 1 = 1 then
      (s.run c).sendMsg (.node node) 0 0x08 arg (swapWords n (s.payload c)) true (some (c.q, c.id))
    else (s.run c).sendMsg (.node node) 0 0x07 arg (beBytes 1 n) true (some (c.q, c.id))

end Sys2Proof.Machine
end

