-- ==== Sys2Proof/Machine/Dec.lean ====
section
/-! DEFINITION. FN_DEC, the decoder of a pier (spec/09_decoder.md): contexts, the assembly of slices, pictures,
every damage case of Table 9-2, concealment, taint episodes, refresh requests, the DEC registers. -/

namespace Sys2Proof.Machine

/-! ### Contexts (R249) -/

/-- FREE. -/
def cxFree : Nat := 0
/-- OPEN. -/
def cxOpen : Nat := 1
/-- RUN. -/
def cxRun : Nat := 2
/-- CLOSING. -/
def cxClosing : Nat := 3

/-- A context that holds nothing. -/
def Ctx.free : Ctx := ⟨cxFree, 0, 0, 0, 0, 0, none, none, false, none, none, [], [], none⟩

/-- Context `n`. -/
def State.ctx (s : State) (n : Nat) : Ctx := Sparse.get Ctx.free s.dec.ctxs n

/-- Store a context; a FREE one holds nothing. -/
def State.setCtx (s : State) (n : Nat) (c : Ctx) : State :=
  { s with dec := { s.dec with ctxs := if c.state = cxFree then Sparse.erase s.dec.ctxs n else Sparse.set s.dec.ctxs n c } }

/-- The context of a stream. -/
def State.ctxOf (s : State) (stream : Nat) : Option (Nat × Ctx) := s.dec.ctxs.find? fun p => p.2.stream = stream

/-- The layer of a context. -/
def Ctx.layer (c : Ctx) : Nat := c.stream / 64

/-! ### Pictures (R135, R142, R257) -/

/-- The rows of 8 pixels of the picture's last slice row: as decoded, else as the declared height gives them
(log entry 7). -/
def Pic.lastH (p : Pic) (declared : Nat) : Nat := p.rowH.getD ((declared + 7) / 8 % 4 + 3) % 4

/-- The height of a picture (R124). -/
def Pic.height (p : Pic) (declared : Nat) : Nat := 32 * p.lastRow + 8 * (p.lastH declared + 1)

/-- Sample c of a picture at row y, limited to its rows, and column x (R135); a sample beyond its width, or of no
picture, is zero (R261). -/
def picSample (p : Option Pic) (declared : Nat) : RefSample := fun y x c =>
  match p with
  | none => 0
  | some p =>
    let yy := (sat y 0 ((p.height declared : Nat) - 1)).toNat
    let xx := x.toNat
    ((Sparse.get [] p.blocks (yy / 8 * 32 + xx / 8)).getD (c * 64 + yy % 8 * 8 + xx % 8) 0)

/-- Whether row `r` of a picture is tainted. -/
def Pic.taintedRow (p : Pic) (r : Nat) : Bool := Sparse.get false p.rows r

/-- Whether any row of a picture is tainted. -/
def Pic.tainted (p : Pic) : Bool := p.rows.any (·.2)

/-- A column counts as tainted: a tainted row in its held or current picture, or no picture held yet (R263). -/
def Ctx.tainted (c : Ctx) : Bool :=
  c.held.isNone || c.held.any Pic.tainted || c.cur.any Pic.tainted

/-- Put the blocks of a slice row into a picture. -/
def Pic.putRow (p : Pic) (row : Nat) (blocks : List (List Int)) (taint : Bool) : Pic :=
  { p with
    rows := Sparse.set p.rows row taint
    blocks := blocks.zipIdx.foldl (fun m b =>
      Sparse.set m ((4 * row + b.2 / (p.colW + 1)) * 32 + b.2 % (p.colW + 1)) b.1) p.blocks }

/-! ### Slots in REF (R254, R257, log entry 125) -/

/-- Bytes rounded up to whole pages of 4 KiB. -/
def pages (n : Nat) : Nat := (n + 4095) / 4096

/-- The pages of a picture slot. -/
def slotPages (w h : Nat) : Nat := pages (w * h * 5)

/-- The pages of REF that a context takes (R254). -/
def ctxPages (w h cap : Nat) : Nat := 3 * slotPages w h + pages cap

/-- Page `i` of a list of partitions, page after page: its space and its address. -/
def pageIn : List Part → Nat → Option (Bool × Nat)
  | [], _ => none
  | p :: ps, i => if i < p.size then some (p.ext, (p.base + i) * 4096) else pageIn ps (i - p.size)

/-- The first `n` pages from `i` on that are not used, among at most `fuel` pages. -/
def freePages (used : List Nat) : Nat → Nat → Nat → List Nat
  | 0, _, _ => []
  | _, _, 0 => []
  | fuel + 1, i, n + 1 => if i ∈ used then freePages used fuel (i + 1) (n + 1) else i :: freePages used fuel (i + 1) n

/-- The 40-bit word of a reconstructed sample: Y in [11:0], Co in [24:12], Cg in [37:25]. -/
def sampleWord (y co cg : Int) : Nat := uNat 12 y + 2 ^ 12 * uNat 13 co + 2 ^ 25 * uNat 13 cg

/-- The pieces of `n` bytes at an offset of a slot of a context that lie in one page each: space, address, length. -/
def State.slotPieces (s : State) (c : Ctx) (slot off n : Nat) : List (Bool × Nat × Nat) :=
  if n = 0 then []
  else (List.range ((off + n - 1) / 4096 - off / 4096 + 1)).filterMap fun i =>
    let k := off / 4096 + i
    let lo := max off (4096 * k)
    ((c.pages[slot * slotPages c.w c.h + k]?).bind (pageIn (s.partsOf pkRef))).map fun a =>
      (a.1, a.2 + lo - 4096 * k, min (off + n) (4096 * (k + 1)) - lo)

/-- Store bytes at an offset of a slot, as a class of Table 15-6. -/
def State.slotWrite (s : State) (c : Ctx) (slot off : Nat) (bs : List Byte) (cls : Nat → Nat) : State :=
  ((s.slotPieces c slot off bs.length).foldl (fun (r : State × List Byte) p =>
    (r.1.spaceWrite p.1 p.2.1 (r.2.take p.2.2) cls 3, r.2.drop p.2.2)) (s, bs)).1

/-- The uncorrectable words and lines that bytes of a slot meet, for a slice decoder of bay `bay`: reported as Tables 15-5
and 15-6 say. -/
def State.picBad (s : State) (c : Ctx) (slot off n : Nat) : Bool :=
  (s.slotPieces c slot off n).any fun p => if p.1 then s.lostLines p.2.1 p.2.2 ≠ [] else s.badWords p.2.1 p.2.2 ≠ []

/-- Report what a read of a slot meets. -/
def State.reportSlot (s : State) (c : Ctx) (slot off n bay : Nat) : State :=
  (s.slotPieces c slot off n).foldl (fun (s : State) p =>
    s.reportBad p.1 p.2.1 p.2.2 (bayClass bay) 3) s

/-- Put the rows of a slice row of a picture into its slot: rows of w words of 5 bytes, the least significant byte first. -/
def State.storeRow (s : State) (c : Ctx) (p : Pic) (row rows : Nat) (cls : Nat → Nat) : State :=
  (List.range rows).foldl (fun (s : State) i =>
    let y := 32 * row + i
    let bs := (List.range (8 * (p.colW + 1))).flatMap fun x =>
      let b := Sparse.get [] p.blocks (y / 8 * 32 + x / 8)
      let at' (k : Nat) : Int := b.getD (k * 64 + y % 8 * 8 + x % 8) 0
      leBytes 5 (sampleWord (at' 0) (at' 1) (at' 2))
    s.slotWrite c p.slot (y * c.w * 5) bs cls) s

/-- The bytes of a picture's slot that a block of a slice reads: 8 pieces of 8 words, at its vector (R135). -/
def blockReads (c : Ctx) (p : Pic) (h : SliceHdr) (b : Nat) (mv : Int × Int) : List Nat :=
  (List.range 8).map fun i =>
    let y := (sat ((32 * h.row + b / (h.colW + 1) * 8 + i : Nat) + mv.2) 0 ((p.height c.h : Nat) - 1)).toNat
    let x := (((b % (h.colW + 1)) * 8 : Nat) + mv.1).toNat
    (y * c.w + x) * 5

/-- The first block of a decoded slice that reads an uncorrectable word of the held picture's slot, with where it reads. -/
def State.badBlock (s : State) (c : Ctx) (h : SliceHdr) (out : List BlockOut) : Option (Nat × Pic × List Nat) :=
  c.held.bind fun p => out.zipIdx.findSome? fun b =>
    let at' := blockReads c p h b.2 (b.1.mv.getD (0, 0))
    if b.1.reads ∧ at'.any fun o => s.picBad c p.slot o 40 then some (b.2, p, at') else none

/-- The reference samples of the held picture; a sample in an uncorrectable word reads zero. -/
def State.refSample (s : State) (c : Ctx) : RefSample := fun y x k =>
  match c.held with
  | none => 0
  | some p =>
    let yy := (sat y 0 ((p.height c.h : Nat) - 1)).toNat
    if s.picBad c p.slot ((yy * c.w + x.toNat) * 5) 5 then 0 else picSample c.held c.h y x k

/-- The slot of a new picture, with the pictures kept before the held one: a slot of neither the held picture nor a kept one;
with none free, that of the oldest kept (log entry 126). -/
def Ctx.newSlot (c : Ctx) : Nat × List Pic :=
  let taken (ps : List Pic) (i : Nat) : Bool := (c.held.any fun p => decide (p.slot = i)) || ps.any fun p => decide (p.slot = i)
  match [0, 1, 2].find? fun i => ! taken c.prev i with
  | some i => (i, c.prev)
  | none => (([0, 1, 2].find? fun i => ! taken c.prev.dropLast i).getD 0, c.prev.dropLast)

/-- The concealed blocks of a slice row: co-located samples of the reference (R262). -/
def concealed (rf : RefSample) (row colW n : Nat) : List (List Int) :=
  (List.range n).map fun b => refBlock rf row (b % (colW + 1)) (b / (colW + 1)) (0, 0)

/-! ### Refresh requests (R264, R265) -/

/-- Send a REFRESH_REQ to the source of a context, if one is known. -/
def State.sendRefresh (s : State) (c : Ctx) (pic cause : Nat) : State :=
  match c.src with
  | some a => (s.sendMsg (.node a) 0 0x0B 0 (beBytes 2 c.stream ++ beBytes 2 pic ++ beBytes 1 cause) false).bump DEC_CNT_REQ.SENT
  | none => s

/-- The request point of an episode, at its start and every REQ_REPEAT frames: a request in HW mode with
REQ_EN, EV_DEC_REFRESH_NEED in ASSIST mode. An episode without a source sends once one is known. -/
def State.requestPoint (s : State) (n : Nat) : State :=
  let c := s.ctx n
  match c.ep with
  | none => s
  | some e =>
    if s.assist 11 then s.raise 0x0C04 [(16, 2, c.stream), (18, 2, c.src.getD 0)]
    else if s.flag DEC_CFG.REQ_EN then
      if c.src.isSome then s.sendRefresh c e.pic0 e.cause0
      else s.setCtx n { c with ep := some { e with owed := true } }
    else s

/-! ### Episodes (R263) -/

/-- `a` is at or after `b`, modulo 65,536 (R258). -/
def picNotBefore (a b : Nat) : Bool := decide ((a + 65536 - b) % 65536 < 32768)

/-- A cause of Table 9-2 or a missing reference (0x0B) is found: an episode begins or goes on; EV_DEC_DAMAGE at
the first cause other than a missing reference. -/
def State.damage (s : State) (n cause pic row : Nat) : State :=
  let c := s.ctx n
  let fresh := c.ep.isNone
  let e : Episode := c.ep.getD ⟨pic, cause, pic, false, false, false, 0, none⟩
  let report := decide (cause ≠ 0x0B) && !e.damaged
  let e : Episode := { e with
    latest := pic, damaged := e.damaged || report
    clean := e.clean.filter fun p => picNotBefore p pic }
  let s := s.setCtx n { c with ep := some e }
  let s := if report then s.raise 0x0C02 [(16, 2, c.stream), (18, 2, pic), (20, 2, row), (22, 1, cause)] else s
  if fresh then s.requestPoint n else s

/-- The episode ends once a picture at or after its latest cause has closed clean and the current picture has no
tainted row: EV_DEC_CLEAN. -/
def State.endEpisode (s : State) (n : Nat) : State :=
  let c := s.ctx n
  match c.ep with
  | some e =>
    match e.clean with
    | some p =>
      if c.cur.any Pic.tainted then s
      else (s.setCtx n { c with ep := none, overflow := false }).raise 0x0C03 [(16, 2, c.stream), (18, 2, p)]
    | none => s
  | none => s

/-! ### Assembly (R255, R256, Table 9-2) -/

/-- The PIC_CNT and slice row that a lost slice is reported with (R260). -/
def Ctx.lostAs (c : Ctx) (bs : List Byte) : Nat × Nat :=
  match parseHdr bs with
  | some h => (h.pic, h.row)
  | none => ((c.cur.map (·.cnt)).getD 0, 0xFFFF)

/-- A slice of context `n` is lost for a cause: counted in DEC_CNT_LOSS. -/
def State.loseSlice (s : State) (n cause : Nat) (bs : List Byte) : State :=
  let r := (s.ctx n).lostAs bs
  (s.bump DEC_CNT_LOSS.LOSS).damage n cause r.1 r.2

/-- Drop the assembly of a context and free its space. -/
def State.dropAsm (s : State) (n : Nat) : State :=
  let c := s.ctx n
  match c.asm with
  | some a => s.setCtx n { c with asm := none, used := c.used - a.bytes.length }
  | none => s

/-- Add the payload of a plank to the assembly of a context. -/
def State.addPlank (s : State) (n : Nat) (x : Plank) (a : Assembly) : State :=
  let c := s.ctx n
  let bs := a.bytes ++ x.payload
  if c.cap < c.used + x.payload.length then
    let s := if c.overflow then s else s.raise 0x0C05 [(16, 2, c.stream)]
    let s := (s.setCtx n { s.ctx n with overflow := true }).dropAsm n
    s.loseSlice n 0x02 bs
  else if 65535 < bs.length then (s.dropAsm n).loseSlice n 0x01 bs
  else if bits x.flags 6 1 = 1 then
    let s := s.setCtx n { c with asm := none, used := c.used + x.payload.length }
    { s with dec := { s.dec with slices := s.dec.slices ++ [⟨n, bs, false, 0⟩] } }
  else s.setCtx n { c with asm := some ⟨(x.tag + 1) % 2 ^ 32, bs⟩, used := c.used + x.payload.length }

/-- A VC1 plank delivered locally reaches the context of its stream (R256); during a reset of FN_DEC it is
discarded (R268). -/
def State.decPlank (s : State) (x : Plank) : State :=
  match s.ctxOf x.stream with
  | none => s
  | some (n, c) =>
    if s.fnState 11 = fnReset then s else
    let s := s.setCtx n { c with src := some x.src }
    let s := (match c.ep with
      | some e =>
        if e.owed then
          let s := s.setCtx n { s.ctx n with ep := some { e with owed := false } }
          s.sendRefresh (s.ctx n) e.pic0 e.cause0
        else s
      | none => s : State)
    if bits x.flags 7 1 = 1 then
      let s := (match c.asm with
        | some a => (s.dropAsm n).loseSlice n 0x01 a.bytes
        | none => s : State)
      s.addPlank n x ⟨0, []⟩
    else match c.asm with
      | none => s
      | some a => if x.tag = a.next then s.addPlank n x a else (s.dropAsm n).loseSlice n 0x01 a.bytes

/-! ### Slice decoders (R247) -/

/-- Slices in decode on a bay. -/
def State.running (s : State) (b : Nat) : Nat := s.dec.slices.countP fun x => x.running && decide (x.bay = b)

/-- The DEC bay that takes the next slice: one in the rotation with a free slice decoder, by R22. -/
def State.freeDecoder (s : State) : Option Nat :=
  s.nextTaker s.running ((s.takers 1).filter fun b => decide (s.running b < 16))

/-- The rows around a slice's row are still being decoded in its reference: an earlier slice of the same context
carries a row from s − 1 to s + 1 of the picture REF_CNT (R247, log entry 8). -/
def refPending (earlier : List SliceIn) (x : SliceIn) : Bool :=
  match parseHdr x.bytes with
  | none => false
  | some h => earlier.any fun y => decide (y.ctx = x.ctx) &&
      (match parseHdr y.bytes with
        | some g => decide (g.pic = h.refc) && decide (h.row ≤ g.row + 1) && decide (g.row ≤ h.row + 1)
        | none => false)

/-- The position of the first slice that may start. -/
def nextSlice : List SliceIn → List SliceIn → Option Nat
  | _, [] => none
  | before, x :: xs =>
    if ¬ x.running ∧ ¬ refPending before x then some before.length else nextSlice (before ++ [x]) xs

/-- SLICE_DECODE_START: the oldest whole slice whose reference rows are ready starts on a free slice decoder. -/
def onSliceDecodeStart (s : State) : State :=
  match s.freeDecoder, nextSlice [] s.dec.slices with
  | some b, some i =>
    State.give { s with dec := { s.dec with
      slices := s.dec.slices.zipIdx.map fun p =>
      if p.2 = i then { p.1 with running := true, bay := b } else p.1 } } b
  | _, _ => s

/-! ### Closing and decoding (R258 to R263) -/

/-- Whether a picture is pinned: a chosen input of the frame in composition or of the one before (R257, R290). -/
def State.pinned (s : State) (c : Ctx) (p : Pic) : Bool :=
  decide (Sparse.find s.cmp.chosen c.layer = some (.pic p.cnt)) || decide (Sparse.find s.cmp.before c.layer = some (.pic p.cnt)) ||
    (s.cmp.after.any fun xs => decide (Sparse.find xs c.layer = some (.pic p.cnt)))

/-- The rows of a picture not decoded yet. -/
def Pic.missingRows (p : Pic) : List Nat := (List.range (p.lastRow + 1)).filter fun r => (Sparse.find p.rows r).isNone

/-- Close the current picture of context `n`: rows not decoded are concealed and tainted, and it becomes the
held picture. -/
def State.closePicture (s : State) (n : Nat) : State :=
  let c := s.ctx n
  match c.cur with
  | none => s
  | some p =>
    let rf := s.refSample c
    let miss := p.missingRows
    let high (r : Nat) : Nat := if r = p.lastRow then p.lastH c.h + 1 else 4
    let p' := miss.foldl (fun p r => p.putRow r (concealed rf r p.colW ((p.colW + 1) * high r)) true) p
    let s := miss.foldl (fun (s : State) r => s.storeRow c p' r (8 * high r) fixedClass) s
    let s := s.setCtx n { c with cur := none, held := some p', prev := (c.held.toList ++ c.prev).filter fun x => s.pinned c x }
    let s := s.bump DEC_CNT_CONCEAL.ROWS 0 miss.length
    let s := (match miss with
      | r :: _ => s.damage n 0x09 p.cnt r
      | [] => s : State)
    if p'.tainted then s
    else
      let c := s.ctx n
      match c.ep with
      | some e =>
        if picNotBefore p.cnt e.latest ∧ e.clean.isNone then s.setCtx n { c with ep := some { e with clean := some p.cnt } } else s
      | none => s

/-- How a slice's PIC_CNT stands to the picture that the context decodes or, with none, holds. -/
def Ctx.ahead (c : Ctx) (pic : Nat) : Option Nat :=
  match c.cur, c.held with
  | some p, _ => some ((pic + 65536 - p.cnt) % 65536)
  | none, some p => some ((pic + 65536 - p.cnt) % 65536)
  | none, none => none

/-- A duplicate or stale slice (Table 9-2). -/
def Ctx.stale (c : Ctx) (h : SliceHdr) : Bool :=
  match c.ahead h.pic with
  | none => false
  | some 0 => (match c.cur with
    | some p => (Sparse.find p.rows h.row).isSome
    | none => true)
  | some d => decide (32768 ≤ d)

/-- The GEOMETRY class and the size rule of Table 9-2. -/
def Ctx.geometry (c : Ctx) (h : SliceHdr) : Bool :=
  let like (p : Pic) : Bool := decide (p.colW = h.colW) && decide (p.lastRow = h.lastRow) && decide (p.deep = h.deep)
  let same := match c.cur with
    | some p => decide (p.cnt ≠ h.pic) || like p
    | none => true
  let refPic := match c.cur with
    | some p => if p.cnt = h.pic then c.held else some p
    | none => c.held
  let refOk := h.intra || (match refPic with | some p => decide (p.cnt ≠ h.refc) || like p | none => true)
  let tall := 32 * h.lastRow + (if h.row = h.lastRow then 8 * (h.rowH + 1) else 8)
  h.geometryOk && same && refOk && decide (8 * (h.colW + 1) ≤ c.w) && decide (tall ≤ c.h)

/-- The cause of Table 9-2 of a violation class. -/
def causeOf : Viol → Nat
  | .length => 0x05
  | .code => 0x06
  | .level => 0x07
  | .mode => 0x08

/-- A conformant header's slice is decoded into the current picture of context `n`: `bound` is the block whose
store the fixed logic refused (R267), if any. -/
def State.decodeInto (s : State) (n : Nat) (h : SliceHdr) (bs : List Byte) (bound : Option Nat) (bay : Nat) : State :=
  let c := s.ctx n
  let missing := !h.intra && !(c.held.any fun p => decide (p.cnt = h.refc))
  let rf := s.refSample c
  let out := decodeSlice h bs rf
  let total := h.blocks
  let ecc := s.badBlock c h out.blocks
  let s := (match ecc with
    | some (_, p, at') => at'.foldl (fun (s : State) o => s.reportSlot c p.slot o 40 bay) s
    | none => s : State)
  let bound' := match bound, ecc with
    | some b, some e => some (min b e.1)
    | some b, none => some b
    | none, some e => some e.1
    | none, none => none
  let stand := match bound' with | some b => min b out.blocks.length | none => out.blocks.length
  let cover := concealed rf h.row h.colW total
  let used := out.blocks.take stand
  let blocks := used.zipIdx.map (fun b => if missing && b.1.reads then cover.getD b.2 [] else b.1.samples) ++ cover.drop stand
  let hidden := decide (stand < total) || (missing && used.any (·.reads))
  let near := match c.held with
    | some p => (List.range 3).any fun i => decide (0 < h.row + i) && p.taintedRow (h.row + i - 1)
    | none => false
  let taint := hidden || missing || (used.any (·.reads) && near)
  let (slot, prev) := c.newSlot
  let p : Pic := c.cur.getD ⟨h.pic, slot, h.colW, h.lastRow, none, h.deep, [], []⟩
  let p := { p.putRow h.row blocks taint with rowH := if h.row = h.lastRow then some h.rowH else p.rowH }
  let s := s.storeRow c p h.row (8 * (h.rowH + 1)) (bayClass bay)
  let s := s.setCtx n { c with cur := some p, state := if c.state = cxOpen then cxRun else c.state,
                               prev := if c.cur.isSome then c.prev else prev }
  let s := if out.faulty then s.bump DEC_CNT_VIOL.VIOL else s
  let s := if hidden then s.bump DEC_CNT_CONCEAL.ROWS else s
  let s := (match out.stop with
    | some v => s.damage n (causeOf v) h.pic h.row
    | none => if out.length then s.damage n 0x05 h.pic h.row else s : State)
  let s := if bound.isSome then s.raise 0x0C06 [(16, 2, c.stream), (18, 1, bay)] else s
  let s := if bound'.isSome then (s.bump DEC_CNT_REQ.BOUND).damage n 0x0A h.pic h.row else s
  if missing then
    let s := s.damage n 0x0B h.pic h.row
    let c := s.ctx n
    match c.ep with
    | some e =>
      if e.missing then s
      else (s.setCtx n { c with ep := some { e with missing := true } }).raise 0x0C01
        [(16, 2, c.stream), (18, 2, h.pic), (20, 2, h.refc), (22, 2, (c.held.map (·.cnt)).getD 0), (24, 1, b2n c.held.isSome)]
    | none => s
  else s

/-- The outcome of a whole slice of context `n` (Table 9-2, R258). -/
def State.sliceOutcome (s : State) (n : Nat) (bs : List Byte) (bound : Option Nat) (bay : Nat) : State :=
  let c := s.ctx n
  match parseHdr bs with
  | none => s.loseSlice n 0x03 bs
  | some h =>
    if ¬ h.headerOk ∨ h.stream ≠ c.stream then s.loseSlice n 0x03 bs
    else if c.stale h then s.bump DEC_CNT_VIOL.DISCARD
    else if ¬ c.geometry h then s.loseSlice n 0x04 bs
    else
      let s := if c.cur.any fun p => decide (p.cnt ≠ h.pic) then s.closePicture n else s
      let s := s.decodeInto n h bs bound bay
      let s := if (s.ctx n).cur.any fun p => p.missingRows = [] then s.closePicture n else s
      s.endEpisode n

/-- SLICE_DECODE_DONE: the slice at a position of the arrival order leaves its slice decoder; slices of an earlier
picture of its context leave before it. A bay that has left RUN finishes none. -/
def onSliceDecodeDone (i : Nat) (bound : Option Nat) (s : State) : State :=
  match s.dec.slices[i]? with
  | none => s
  | some x =>
    let pic (y : SliceIn) : Option Nat := (parseHdr y.bytes).map (·.pic)
    let waits := (s.dec.slices.take i).any fun y => decide (y.ctx = x.ctx) && decide (pic y ≠ pic x)
    if ¬ x.running ∨ waits ∨ s.bayState x.bay ≠ bayRun then s
    else
      let s : State := { s with dec := { s.dec with slices := s.dec.slices.eraseIdx i } }
      let c := s.ctx x.ctx
      let s := s.setCtx x.ctx { c with used := c.used - x.bytes.length }
      if c.state = cxFree then s else s.sliceOutcome x.ctx x.bytes bound x.bay

/-! ### What the frame start does (R251, R265) -/

/-- Repeat the request of every standing episode each REQ_REPEAT frames. -/
def State.repeatRequests (s : State) : State :=
  s.dec.ctxs.foldl (fun s p =>
    let c := s.ctx p.1
    match c.ep with
    | none => s
    | some e =>
      if s.fld DEC_CFG.REQ_REPEAT ≤ e.frames + 1 then
        (s.setCtx p.1 { c with ep := some { e with frames := 0 } }).requestPoint p.1
      else s.setCtx p.1 { c with ep := some { e with frames := e.frames + 1 } }) s

/-- The streams of a decision of FN_DEC: entries that are not 0xFFFF (R265). -/
def refreshEntries : Nat → List Byte → List Nat
  | 0, _ => []
  | n + 1, bs => (if leAt bs 0 2 = 0xFFFF then [] else [leAt bs 0 2]) ++ refreshEntries n (bs.drop 2)

/-- A request that the host asks for. With no episode the PIC_CNT and the cause of the payload are not stated: free values (log
entry 2). -/
def State.requestFor (s : State) (x : Ctx) : State :=
  match x.ep with
  | some e => s.sendRefresh x e.pic0 e.cause0
  | none => (s.sendRefresh x (s.free % 65536) (s.draw.free % 256)).draw.draw

/-- Send the requests that a decision names. -/
def State.decideRefresh (s : State) (bs : List Byte) : State :=
  (refreshEntries (bs.length / 2) bs).foldl (fun s st =>
    match s.ctxOf st with
    | some (_, c) => s.requestFor c
    | none => s) s

/-- CMD_DEC_REQUEST: a refresh request for a stream in either mode. -/
def onCmdDecRequest (q : Fin 24) (tag : Nat) (s : State) : State :=
  match s.cmd q tag 0x0C01 with
  | none => s
  | some c =>
    match s.ctxOf (c.opnd 32 2) with
    | none => s.finish c 0x0C02
    | some (_, x) =>
      if x.src.isNone then s.finish c 0x0C01
      else (s.requestFor x).finish c stOk

/-! ### Capacity (R253, R254) -/

/-- The pages of the REF partitions in force. -/
def State.refPages (s : State) : Nat := ((s.partsOf pkRef).map (·.size)).foldl (· + ·) 0

/-- The booked load of the contexts, in pixels (R253). -/
def State.booked (s : State) : Nat := (s.dec.ctxs.map fun p => p.2.w * p.2.h).foldl (· + ·) 0

/-- The shortest permitted frame period in force, in ticks. -/
def State.tMin (s : State) : Nat := s.cad.tMin

/-- Whether a booked load keeps the bound: Σ ≤ n × 416.67 px per µs of the shortest period. -/
def State.loadOk (s : State) (px : Nat) : Bool := decide (px * 60000 ≤ (s.baysRunning 1).length * 41667 * s.tMin)

/-- DEC_LOAD.BOOKED. -/
def State.bookedFraction (s : State) : Nat :=
  let bound := (s.baysRunning 1).length * 41667 * s.tMin
  if bound = 0 then (if s.booked = 0 then 0 else 0xFFFF) else min (s.booked * 60000 * 32768 / bound) 0xFFFF

/-- Pages of REF for a context, those of no other context (R254). -/
def State.takePages (s : State) (w h cap : Nat) : List Nat :=
  freePages (s.dec.ctxs.flatMap fun p => p.2.pages) s.refPages 0 (ctxPages w h cap)

/-- Contexts are opened for streams that have none; CLOSING ones that are needed again return to RUN, others of
no use become CLOSING (R249, R250). Each need is a stream with its column width and layer height. -/
def State.needStreams (s : State) (need : List (Nat × Nat × Nat)) : State :=
  let s := s.dec.ctxs.foldl (fun s p =>
    let c := s.ctx p.1
    if need.any fun x => x.1 = c.stream then
      (if c.state = cxClosing then s.setCtx p.1 { c with state := cxRun } else s)
    else if c.state = cxOpen ∨ c.state = cxRun then s.setCtx p.1 { c with state := cxClosing } else s) s
  need.foldl (fun s x =>
    match s.ctxOf x.1 with
    | some _ => s
    | none =>
      match (List.range 3072).find? fun n => (Sparse.find s.dec.ctxs n).isNone with
      | some n =>
        let cap := s.fld DEC_LAYER_CFG.IN_KIB (x.1 / 64) * 1024
        s.setCtx n { Ctx.free with
          state := cxOpen, stream := x.1, w := x.2.1, h := x.2.2, cap := cap, pages := s.takePages x.2.1 x.2.2 cap }
      | none => s) s

/-- Contexts return to FREE, and their slices in decode with them. -/
def State.freeCtxs (s : State) (gone : Nat → Ctx → Bool) : State :=
  let left := s.dec.ctxs.filter fun p => ! gone p.1 p.2
  { s with dec := { s.dec with ctxs := left, slices := s.dec.slices.filter fun x => left.any fun p => decide (p.1 = x.ctx) } }

/-- CLOSING contexts that the presented frame does not need return to FREE (R251). -/
def State.freeClosing (s : State) (need : List Nat) : State :=
  s.freeCtxs fun _ c => decide (c.state = cxClosing) && decide (c.stream ∉ need)

/-- A per-function reset of FN_DEC: input buffers and slices in decode are discarded (R268). -/
def State.decReset (s : State) : State :=
  { s with dec := { s.dec with
    slices := []
    ctxs := s.dec.ctxs.map fun p => (p.1, { p.2 with asm := none, used := 0 }) } }

/-- A load that changes REF: every context is OPEN with no picture; those that no longer fit close, highest
stream ID first, with EV_DEC_NO_SPACE (R268). -/
def State.refChanged (s : State) : State :=
  let s : State := { s with dec := { s.dec with
    slices := []
    ctxs := s.dec.ctxs.map fun p => (p.1, { p.2 with
      state := cxOpen, asm := none, used := 0, cur := none, held := none, prev := [], pages := [], ep := none, overflow := false }) } }
  let total (s : State) : Nat := (s.dec.ctxs.map fun p => ctxPages p.2.w p.2.h p.2.cap).foldl (· + ·) 0
  let s := s.dec.ctxs.foldl (fun s _ =>
    if total s ≤ s.refPages ∧ s.loadOk s.booked then s
    else
      match s.dec.ctxs.foldl (fun (best : Option (Nat × Nat)) p => match best with
          | some b => if b.2 < p.2.stream then some (p.1, p.2.stream) else some b
          | none => some (p.1, p.2.stream)) none with
      | some (n, st) => State.raise { s with dec := { s.dec with ctxs := Sparse.erase s.dec.ctxs n } } 0x0C07 [(16, 2, st)]
      | none => s) s
  s.dec.ctxs.foldl (fun (s : State) p => s.setCtx p.1 { p.2 with pages := s.takePages p.2.w p.2.h p.2.cap }) s

/-! ### Registers that show the contexts (Table 9-4) -/

/-- The bits of DEC_TAINT[w]. -/
def State.taintWord (s : State) (w : Nat) : Nat :=
  maskWhere 32 fun i => s.dec.ctxs.any fun p => decide (p.2.stream = 32 * w + i) && p.2.tainted

/-- The DEC registers that Jeori computes when they are read. -/
def State.decReg (s : State) (a : Nat) : Option Nat :=
  let c := s.ctx (s.fld DEC_CTX_SEL.CTX)
  if a = DEC_STATUS.OPEN.base then some (s.dec.ctxs.length + 65536 * s.dec.ctxs.countP fun p => p.2.tainted)
  else if a = DEC_LOAD.BOOKED.base then some (s.bookedFraction + 65536 * (s.baysRunning 1).length)
  else if a = DEC_CTX_STATE.STATE.base then
    some (if c.state = cxFree then 0 else c.state + 4 * b2n c.tainted + 8 * b2n c.held.isSome + 65536 * c.stream)
  else if a = DEC_CTX_PIC.HELD_PIC.base then
    some (match c.held with
      | some p => p.cnt + 65536 * p.rows.countP (·.2)
      | none => 0)
  else if DEC_TAINT.TAINT.base ≤ a ∧ a < DEC_TAINT.TAINT.base + 4 * 128 then some (s.taintWord ((a - DEC_TAINT.TAINT.base) / 4))
  else none

end Sys2Proof.Machine
end

