-- ==== Sys2Proof/Machine/Cmp.lean ====
section
/-! DEFINITION. FN_CMP and FN_SIG, layers and composition (spec/10_composition.md): descriptor generations, the
commit checks, scaler, mesh, LUTs, blend and parapet, buffer handles, bands, the ready point, region
signatures. -/

namespace Sys2Proof.Machine

/-! ### The layer table and the local block (R271) -/

/-- A layer entry (Table 10-1). -/
structure LayerEnt where
  flags  : Nat
  z      : Nat
  alpha  : Nat
  picW   : Nat
  picH   : Nat
  cropX  : Nat
  cropY  : Nat
  cropW  : Nat
  cropH  : Nat
  dstX   : Nat
  dstY   : Nat
  dstW   : Nat
  dstH   : Nat
  prelut : Nat
  filter : Nat
  taps   : Nat
  crc    : Nat
  name   : Nat
deriving DecidableEq, Repr

/-- Entry `l` of a layer table. -/
def layerEnt (t : List Byte) (l : Nat) : LayerEnt :=
  let f (o n : Nat) : Nat := leAt t (64 * l + o) n
  ⟨f 0 1, f 1 1, f 2 2, f 4 2, f 6 2, f 8 2, f 10 2, f 12 2, f 14 2, f 16 2, f 18 2, f 20 2, f 22 2, f 24 1, f 25 1,
    f 26 1, f 28 4, f 32 4⟩

/-- VISIBLE. -/
def LayerEnt.visible (e : LayerEnt) : Bool := e.flags % 2 = 1

/-- FRESH_ONLY. -/
def LayerEnt.freshOnly (e : LayerEnt) : Bool := bits e.flags 1 1 = 1

/-- HANDLE. -/
def LayerEnt.handle (e : LayerEnt) : Bool := bits e.flags 2 1 = 1

/-- The visible layers of a table, lowest number first. -/
def visibleLayers (t : List Byte) : List Nat := (List.range 63).filter fun l => (layerEnt t l).visible

/-- POSTLUT of the wall fields (Table 10-2). -/
def postLut (t : List Byte) : Nat := leAt t 4032 1

/-- POSTLUT_CRC. -/
def postLutCrc (t : List Byte) : Nat := leAt t 4036 4

/-- CANVAS_W. -/
def canvasW (t : List Byte) : Nat := leAt t 4040 2

/-- CANVAS_H. -/
def canvasH (t : List Byte) : Nat := leAt t 4042 2

/-- PIER_W of a local block (Table 10-3). -/
def pierW (b : List Byte) : Nat := leAt b 0 2

/-- PIER_H. -/
def pierH (b : List Byte) : Nat := leAt b 2 2

/-- CELL_X. -/
def cellX (b : List Byte) : Nat := leAt b 4 1

/-- CELL_Y. -/
def cellY (b : List Byte) : Nat := leAt b 5 1

/-- U of node (i, j). -/
def nodeU (b : List Byte) (i j : Nat) : Int := sInt 32 (leAt b (16 + 8 * (17 * j + i)) 4)

/-- V of node (i, j). -/
def nodeV (b : List Byte) (i j : Nat) : Int := sInt 32 (leAt b (20 + 8 * (17 * j + i)) 4)

/-- A local block keeps Table 10-3. -/
def localOk (b : List Byte) : Bool :=
  let w : Nat := pierW b
  let h : Nat := pierH b
  let cx : Nat := cellX b
  let cy : Nat := cellY b
  decide (b.length = 2328) && decide (1 ≤ w) && decide (w ≤ 4096) && decide (1 ≤ h) && decide (h ≤ 4096) &&
  decide (w * h ≤ 349525) && decide (3 ≤ cx) && decide (cx ≤ 8) && decide (3 ≤ cy) && decide (cy ≤ 8) &&
  decide (w ≤ 16 * 2 ^ cx) && decide (h ≤ 16 * 2 ^ cy) && allZero (bytesAt b 6 10)

/-! ### Geometry (R276, R277, R279) -/

/-- The nodes in use. -/
def nodesInUse (b : List Byte) : List (Nat × Nat) :=
  (List.range ((pierH b - 1) / 2 ^ cellY b + 2)).flatMap fun j =>
    (List.range ((pierW b - 1) / 2 ^ cellX b + 2)).map fun i => (i, j)

/-- The least of a list of integers, zero when empty. -/
def leastOf : List Int → Int
  | [] => 0
  | x :: xs => xs.foldl (fun m y => if y < m then y else m) x

/-- The greatest of a list of integers, zero when empty. -/
def mostOf : List Int → Int
  | [] => 0
  | x :: xs => xs.foldl (fun m y => if m < y then y else m) x

/-- The footprint: first and last canvas column, first and last row. -/
def footprint (b : List Byte) : Int × Int × Int × Int :=
  let us := (nodesInUse b).map fun n => nodeU b n.1 n.2
  let vs := (nodesInUse b).map fun n => nodeV b n.1 n.2
  (leastOf us / 256, mostOf us / 256 + 1, leastOf vs / 256, mostOf vs / 256 + 1)

/-- Whether a layer touches the pier; without a local block none does. -/
def LayerEnt.touches (e : LayerEnt) (b : List Byte) : Bool :=
  let f := footprint b
  decide (b ≠ []) &&
  decide ((e.dstX : Int) ≤ f.2.1) && decide (f.1 ≤ (e.dstX : Int) + e.dstW - 1) &&
  decide ((e.dstY : Int) ≤ f.2.2.2) && decide (f.2.2.1 ≤ (e.dstY : Int) + e.dstH - 1)

/-- inc of R277: the step in 1/65,536 of a source sample. -/
def scaleInc (crop dst : Nat) : Nat := (crop * 65536 + dst / 2) / dst

/-- px of R277 for destination offset `j`. -/
def scalePos (crop0 crop dst : Nat) (j : Int) : Int :=
  (crop0 : Int) * 65536 + j * scaleInc crop dst + scaleInc crop dst / 2 - 32768

/-- The source region of a layer on a pier: first and last column, first and last row (R276). -/
def LayerEnt.region (e : LayerEnt) (b : List Byte) : Int × Int × Int × Int :=
  let f := footprint b
  let lo (d0 : Nat) (f0 : Int) : Int := if (d0 : Int) < f0 then f0 - d0 else 0
  let hi (d0 d : Nat) (f1 : Int) : Int := if f1 < (d0 : Int) + d - 1 then f1 - d0 else (d : Int) - 1
  let ix (j : Int) : Int := scalePos e.cropX e.cropW e.dstW j / 65536
  let iy (j : Int) : Int := scalePos e.cropY e.cropH e.dstH j / 65536
  let lx (x : Int) : Int := sat x e.cropX ((e.cropX : Int) + e.cropW - 1)
  let ly (y : Int) : Int := sat y e.cropY ((e.cropY : Int) + e.cropH - 1)
  (lx (ix (lo e.dstX f.1) - 3), lx (ix (hi e.dstX e.dstW f.2.1) + 4),
    ly (iy (lo e.dstY f.2.2.1) - ((e.taps : Int) / 2 - 1)), ly (iy (hi e.dstY e.dstH f.2.2.2) + (e.taps : Int) / 2))

/-- The streams that a visible stream layer needs on a pier, with the column width and the layer height (R250). -/
def LayerEnt.streams (e : LayerEnt) (b : List Byte) (l : Nat) : List (Nat × Nat × Nat) :=
  if e.visible ∧ ¬ e.handle ∧ e.touches b then
    let r := e.region b
    let c0 := (r.1 / 256).toNat
    let c1 := (r.2.1 / 256).toNat
    (List.range (c1 + 1 - c0)).map fun k => (64 * l + c0 + k, min 256 (e.picW - 256 * (c0 + k)), e.picH)
  else []

/-- The streams that a generation needs. -/
def streamsNeeded (t b : List Byte) : List (Nat × Nat × Nat) :=
  (List.range 63).flatMap fun l => (layerEnt t l).streams b l

/-- A wall-canvas position of a pier pixel through the mesh (R279), for the U or the V nodes. -/
def meshAt (node : Nat → Nat → Int) (cx cy x y : Nat) : Int :=
  let i := x / 2 ^ cx
  let fx : Int := (x % 2 ^ cx : Nat)
  let j := y / 2 ^ cy
  let fy : Int := (y % 2 ^ cy : Nat)
  let top := node i j * 2 ^ cx + (node (i + 1) j - node i j) * fx
  let bot := node i (j + 1) * 2 ^ cx + (node (i + 1) (j + 1) - node i (j + 1)) * fx
  (top * 2 ^ cy + (bot - top) * fy + 2 ^ (cx + cy - 1)) / 2 ^ (cx + cy)

/-- One component of the scaled layer at destination offset (j, r): `samp y x` is a source sample, `lo` and `hi`
limit the two passes (R277, R301). -/
def scaled (samp : Nat → Nat → Int) (cv ch : Nat → Nat → Int) (e : LayerEnt) (lo hi : Int) (j r : Int) : Int :=
  let px := scalePos e.cropX e.cropW e.dstW j
  let py := scalePos e.cropY e.cropH e.dstH r
  let phx := (px / 1024 % 64).toNat
  let phy := (py / 1024 % 64).toNat
  let ix := px / 65536
  let iy := py / 65536
  let vert (x : Nat) : Int :=
    let acc := (List.range e.taps).foldl (fun (a : Int) k =>
      let t := 3 - e.taps / 2 + k
      a + cv phy t * samp (sat (iy - 2 + t) e.cropY ((e.cropY : Int) + e.cropH - 1)).toNat x) 0
    sat ((acc + 8192) / 16384) lo hi
  let acc := (List.range 8).foldl (fun (a : Int) t =>
    a + ch phx t * vert (sat (ix - 3 + t) e.cropX ((e.cropX : Int) + e.cropW - 1)).toNat) 0
  sat ((acc + 8192) / 16384) lo hi

/-- The four samples of R279 mixed. -/
def bilinear (s00 s10 s01 s11 ax ay : Int) : Int :=
  let h0 := s00 * (256 - ax) + s10 * ax
  let h1 := s01 * (256 - ax) + s11 * ax
  (h0 * (256 - ay) + h1 * ay + 32768) / 65536

/-! ### LUTs and filters (R280 to R282) -/

/-- The payload loaded into slot `k` of the LUT store (numbered as CMP_LUT_CRC). -/
def State.lutSlot (s : State) (k : Nat) : Option (List Byte) := Sparse.find s.cmp.lut k

/-- A vertical coefficient of a filter set at a phase (Table 10-5; set 0 is fixed). -/
def State.coefV (s : State) (set ph t : Nat) : Int :=
  if set = 0 then (if t = 2 then (64 - ph : Int) * 256 else if t = 3 then (ph : Int) * 256 else 0)
  else match s.lutSlot (36 + set) with
    | some bs => sInt 16 (leAt bs (1024 + 12 * ph + 2 * t) 2)
    | none => 0

/-- A horizontal coefficient of a filter set at a phase. -/
def State.coefH (s : State) (set ph t : Nat) : Int :=
  if set = 0 then (if t = 3 then (64 - ph : Int) * 256 else if t = 4 then (ph : Int) * 256 else 0)
  else match s.lutSlot (36 + set) with
    | some bs => sInt 16 (leAt bs (16 * ph + 2 * t) 2)
    | none => 0

/-- The pre-LUT of a slot's payload (R281): component `c` of linear light. -/
def preLut (bs : List Byte) (c r g b : Nat) : Int :=
  let m (k : Nat) : Int := sInt 16 (leAt bs (6 * c + 2 * k) 2)
  let tab (k v : Nat) : Int := (leAt bs (64 + 16384 * k + 4 * v) 4 % 2 ^ 24 : Nat)
  sat ((m 0 * tab 0 r + m 1 * tab 1 g + m 2 * tab 2 b + 8192) / 16384) 0 0xFFFFFF

/-- The post-LUT of a slot's payload (R282) on component `c`. -/
def postLutOf (bs : List Byte) (c x : Nat) : Int :=
  let n (i : Nat) : Int := (leAt bs (4612 * c + 4 * i) 4 % 2 ^ 24 : Nat)
  let mk (i f w : Nat) : Int := sat (n i + ((n (i + 1) - n i) * f + 2 ^ (w - 1)) / 2 ^ w) 0 0xFFFFFF
  if x < 2 ^ 17 then mk (x / 512) (x % 512) 9
  else
    let k := Nat.log2 x - 16
    mk (256 + 128 * (k - 1) + (x - 2 ^ (16 + k)) / 2 ^ (9 + k)) (x % 2 ^ (9 + k)) (9 + k)

/-- A LUT payload keeps its format (Table 10-5). -/
def lutFormat (kind index : Nat) (bs : List Byte) : Bool :=
  let tabs (base n : Nat) : Bool := (List.range n).all fun i => decide (leAt bs (base + 4 * i + 3) 1 = 0)
  let sum (base n w ph : Nat) : Int :=
    (List.range n).foldl (fun (a : Int) t => a + sInt 16 (leAt bs (base + w * ph + 2 * t) 2)) 0
  match kind with
  | 0 => decide (bs.length = 49216) && allZero (bytesAt bs 18 46) && tabs 64 12288
  | 1 => decide (bs.length = 13836) && tabs 0 3459
  | _ => decide (index ≠ 0) && decide (bs.length = 1792) &&
      (List.range 64).all fun ph => decide (sum 0 8 16 ph = 16384) && decide (sum 1024 6 12 ph = 16384)

/-! ### Handles (R286 to R288) -/

/-- Handle slot `i`. -/
def State.handle (s : State) (i : Nat) : Option Handle := Sparse.find s.cmp.slots i

/-- Store a handle slot. -/
def State.setHandle (s : State) (i : Nat) (h : Handle) : State :=
  { s with cmp := { s.cmp with slots := Sparse.set s.cmp.slots i h } }

/-- The live handle of a NAME. -/
def State.handleNamed (s : State) (name : Nat) : Option (Nat × Handle) :=
  s.cmp.slots.find? fun p => p.2.live ∧ p.2.name = name

/-- Bytes a pixel of a format takes. -/
def pixelBytes (fmt : Nat) : Nat := if fmt = 0 then 6 else 9

/-- The handle number of a slot: index and use count. -/
def handleNum (i : Nat) (h : Handle) : Nat := i + h.uses % 2 ^ 20 * 4096

/-- The space and byte address of a handle's pixels. -/
def State.handleAt (s : State) (h : Handle) : Bool × Nat :=
  match (s.partsOf pkLayer)[h.part]? with
  | some p => (p.ext, p.start + 4096 * h.page)
  | none => (false, 0)

/-- The slots that a list of inputs names. -/
def slotsIn (xs : List (Nat × Choice)) : List Nat :=
  xs.filterMap fun x => match x.2 with | .buf i _ => some i | _ => none

/-- The handle slots that the frame in composition uses: those its bands have read or its ready point chose. -/
def State.slotsComposing (s : State) : List Nat :=
  (if s.cmp.ready then slotsIn s.cmp.chosen else []) ++ s.cmp.bands.flatMap fun b => slotsIn b.2.inputs

/-- The reference count of a slot (R288). -/
def State.handleRefs (s : State) (i : Nat) : Nat :=
  match s.handle i with
  | none => 0
  | some h => (s.cmp.gens.countP fun g => g.binds.any fun b => decide (b.2.1 = i) && decide (b.2.2 = h.uses)) +
      b2n (decide (i ∈ s.slotsComposing)) + b2n (decide (i ∈ s.cmp.presented))

/-- Space of a stale handle returns to the pool when its count is zero (R288). -/
def State.sweepHandles (s : State) : State :=
  { s with cmp := { s.cmp with
    slots := s.cmp.slots.map fun p => if ¬ p.2.live ∧ s.handleRefs p.1 = 0 then (p.1, { p.2 with space := false }) else p } }

/-- The pages of LAYER that handles hold. -/
def State.pagesHeld (s : State) : Nat := (s.cmp.slots.map fun p => if p.2.space then p.2.pages else 0).foldl (· + ·) 0

/-- First fit of `n` pages in partition `k` of LAYER, holding `size` pages. -/
def State.fitPages (s : State) (k size n : Nat) : Option Nat :=
  let held := s.cmp.slots.filterMap fun p => if p.2.space ∧ p.2.part = k then some (p.2.page, p.2.pages) else none
  let free (o : Nat) : Bool := decide (o + n ≤ size) && held.all fun h => decide (o + n ≤ h.1) || decide (h.1 + h.2 ≤ o)
  (0 :: held.map fun h => h.1 + h.2).foldl (fun best o =>
    if free o then (match best with | some b => some (min b o) | none => some o) else best) none

/-- First fit over the LAYER partitions. -/
def State.fitLayer (s : State) (n : Nat) : Option (Nat × Nat) :=
  (s.partsOf pkLayer).zipIdx.findSome? fun p => (s.fitPages p.2 p.1.size n).map fun o => (p.2, o)

/-! ### Generations (R271 to R275) -/

/-- Generation `g` held. -/
def State.gen (s : State) (g : Nat) : Option Gen := s.cmp.gens.find? fun x => x.num = g

/-- The generation in force. -/
def State.genInForce (s : State) : Option Gen := s.cmp.inForce.bind s.gen

/-- Pending generations: those committed after the one in force. -/
def State.pendingGens (s : State) : Nat := s.cmp.gens.countP fun x => decide (some x.num ≠ s.cmp.inForce)

/-- DESC_HASH (R272): the first 8 octets of SHA-384 over G and the table. -/
def descHash (g : Nat) (t : List Byte) : List Byte := (sha384 (leBytes 4 g ++ t)).take 8

/-- CMP_STATUS, CMP_GEN, CMP_HASH, CMP_HANDLES and CMP_POOL show what is held. -/
def State.showCmp (s : State) : State :=
  let force := s.genInForce
  let s := s.setFld CMP_STATUS.PENDING s.pendingGens
  let s := s.setFld CMP_STATUS.VISIBLE (match force with | some g => (visibleLayers g.table).length | none => 0)
  let s := s.setFlag CMP_STATUS.IN_FORCE force.isSome
  let s := s.setFld CMP_GEN.FORCE ((force.map (·.num)).getD 0)
  let s := s.setPair CMP_HASH.HASH (match force with | some g => beNat g.hash | none => 0)
  let s := s.setFld CMP_HANDLES.LIVE (s.cmp.slots.countP (·.2.live))
  let s := s.setFld CMP_HANDLES.DEFERRED (s.cmp.slots.countP fun p => !p.2.live && p.2.space)
  s.setFld CMP_POOL.FREE_PAGES (((s.partsOf pkLayer).map (·.size)).foldl (· + ·) 0 - s.pagesHeld)

/-- The lowest-numbered entry that fails a test of Table 10-4. -/
def firstBad (bad : Nat → Bool) : Option Nat := (List.range 64).find? bad

/-- Check 3: the entry that breaks the format. -/
def formatBad (t : List Byte) (l : Nat) : Bool :=
  let e := layerEnt t l
  let vis := visibleLayers t
  if l = 63 then
    !allZero (bytesAt t 4033 3) || !allZero (bytesAt t 4044 52) || decide (3 < postLut t) || decide (canvasW t = 0) ||
    decide (canvasH t = 0)
  else if ¬ e.visible then !allZero (bytesAt t (64 * l) 64)
  else
    decide (7 < e.flags) || decide (15 < e.z) || decide (e.picW < 8) || decide (16384 < e.picW) || decide (e.picH < 8) ||
    decide (16384 < e.picH) || decide (e.cropW = 0) || decide (e.cropH = 0) || decide (e.dstW = 0) || decide (e.dstH = 0) ||
    (decide (31 < e.prelut) && decide (e.prelut ≠ 0xFF)) || (decide (e.prelut = 0xFF) && decide (e.crc ≠ 0)) ||
    decide (7 < e.filter) || decide (e.taps ∉ [2, 4, 6]) || (!e.handle && decide (e.name ≠ 0)) ||
    !allZero (bytesAt t (64 * l + 27) 1) || !allZero (bytesAt t (64 * l + 36) 28) ||
    (!e.handle && (decide (e.picW % 8 ≠ 0) || decide (e.picH % 8 ≠ 0))) ||
    (vis.any fun k => decide (k < l) && decide ((layerEnt t k).z = e.z)) || decide ((vis.takeWhile (· < l)).length = 16)

/-- Check 4. -/
def rectBad (t : List Byte) (e : LayerEnt) : Bool :=
  decide (e.picW < e.cropX + e.cropW) || decide (e.picH < e.cropY + e.cropH) || decide (canvasW t < e.dstX + e.dstW) ||
  decide (canvasH t < e.dstY + e.dstH)

/-- Check 5, also of R301. -/
def LayerEnt.scaleBad (e : LayerEnt) : Bool :=
  decide (4 * e.dstW < e.cropW) || decide (64 * e.cropW < e.dstW) || decide (4 * e.dstH < e.cropH) || decide (64 * e.cropH < e.dstH)

/-- Check 6 (R278). -/
def LayerEnt.lineBad (e : LayerEnt) : Bool := decide (65536 < e.taps * e.cropW)

/-- Check 7. -/
def State.filterBad (s : State) (e : LayerEnt) : Bool :=
  decide (e.filter ≠ 0) && ((s.lutSlot (36 + e.filter)).isNone ||
    (List.range 64).any fun ph => (List.range 6).any fun t =>
      (decide (t + e.taps / 2 < 3) || decide (2 + e.taps / 2 < t)) && decide (s.coefV e.filter ph t ≠ 0))

/-- A slot is not loaded or its CRC is not the one named. -/
def State.slotBad (s : State) (k crc : Nat) : Bool := (s.lutSlot k).isNone || decide (s.fld CMP_LUT_CRC.CRC k ≠ crc)

/-- Check 8. -/
def State.lutBad (s : State) (t b : List Byte) (l : Nat) : Bool :=
  if l = 63 then s.slotBad (32 + postLut t) (postLutCrc t)
  else
    let e := layerEnt t l
    let lin := e.handle && (match s.handleNamed e.name with | some h => decide (h.2.fmt = 1) | none => false)
    e.visible && ((decide (e.prelut ≠ 0xFF) && s.slotBad e.prelut e.crc) ||
      (e.touches b && decide (decide (e.prelut = 0xFF) ≠ lin)))

/-- Check 9. -/
def State.handleBad (s : State) (b : List Byte) (e : LayerEnt) : Bool :=
  e.visible && e.handle && e.touches b &&
  (match s.handleNamed e.name with | some h => decide (h.2.w ≠ e.picW) || decide (h.2.h ≠ e.picH) | none => true)

/-- Check 11: the contexts needed with those not FREE break R253. -/
def State.decodeBad (s : State) (need : List (Nat × Nat × Nat)) : Bool :=
  let fresh := need.filter fun x => (s.ctxOf x.1).isNone
  let count := s.dec.ctxs.length + fresh.length
  let load := s.booked + (fresh.map fun x => x.2.1 * x.2.2).foldl (· + ·) 0
  let store := (s.dec.ctxs.map fun p => ctxPages p.2.w p.2.h p.2.cap).foldl (· + ·) 0 +
    (fresh.map fun x => ctxPages x.2.1 x.2.2 (s.fld DEC_LAYER_CFG.IN_KIB (x.1 / 64) * 1024)).foldl (· + ·) 0
  decide (3072 < count) || !s.loadOk load || decide (s.refPages < store)

/-- G lies 1 to 2,147,483,647 ahead of the newest generation committed (R273). -/
def State.genAhead (s : State) (g : Nat) : Bool :=
  match s.cmp.newest with
  | none => true
  | some n =>
    let d := (g + 2 ^ 32 - n) % 2 ^ 32
    decide (1 ≤ d) && decide (d < 2 ^ 31)

/-- The checks of Table 10-4 in order: the status and what RESULT bytes 16–17 name (R275). -/
def State.checkCommit (s : State) (g : Nat) (pay t b : List Byte) (loc : Bool) : Option (Nat × Nat) :=
  let on (bad : LayerEnt → Bool) : Option Nat := firstBad fun l => decide (l < 63) && (layerEnt t l).visible && bad (layerEnt t l)
  if ¬ s.genAhead g then some (0x0D01, 0xFFFE)
  else if 3 ≤ s.pendingGens then some (0x0D02, 0xFFFE)
  else if pay.length ≠ (if loc then 6424 else 4096) then some (0x0D03, 0xFFFE)
  else match firstBad (formatBad t) with
  | some l => some (0x0D03, l)
  | none => if ¬ s.isPier then none else match on (rectBad t) with
  | some l => some (0x0D04, l)
  | none => match on LayerEnt.scaleBad with
  | some l => some (0x0D05, l)
  | none => match on LayerEnt.lineBad with
  | some l => some (0x0D06, l)
  | none => match on s.filterBad with
  | some l => some (0x0D07, l)
  | none => match firstBad (s.lutBad t b) with
  | some l => some (0x0D08, l)
  | none => match on (s.handleBad b) with
  | some l => some (0x0D09, l)
  | none => if ¬ localOk b then some (0x0D0A, 0xFFFF)
    else if s.decodeBad (streamsNeeded t b) then some (0x0D0B, 0xFFFE) else none

/-- CMD_CMP_COMMIT: validate and hold a generation, open the contexts it needs (R249, R273 to R275). -/
def onCmdCmpCommit (q : Fin 24) (tag : Nat) (s : State) : State :=
  match s.cmd q tag 0x0D01 with
  | none => s
  | some c =>
    let g := c.opnd 32 4
    let loc := decide (c.opnd 36 1 % 2 = 1)
    let pay := s.payload c
    let t := pay.take 4096
    let b := if loc then pay.drop 4096 else (match s.cmp.gens.getLast? with | some x => x.loc | none => [])
    match s.checkCommit g pay t b loc with
    | some f => s.finish c f.1 (result [(16, 2, f.2)])
    | none =>
      let binds := if s.isPier then (List.range 63).filterMap fun l =>
          let e := layerEnt t l
          if e.visible ∧ e.handle ∧ e.touches b then (s.handleNamed e.name).map fun h => (l, h.1, h.2.uses) else none
        else []
      let s : State := { s with cmp := { s.cmp with
        gens := s.cmp.gens ++ [⟨g, descHash g t, t, b, binds, false⟩], newest := some g } }
      let s := s.setFld CMP_GEN_LAST.LAST g
      let s := if s.isPier then s.needStreams (streamsNeeded t b) else s
      s.showCmp.finish c stOk

/-! ### Handle, LUT and parapet commands -/

/-- CMD_CMP_ALLOC (R286). -/
def onCmdCmpAlloc (q : Fin 24) (tag : Nat) (s : State) : State :=
  match s.cmd q tag 0x0D02 with
  | none => s
  | some c =>
    let name := c.opnd 32 4
    let w := c.opnd 36 2
    let h := c.opnd 38 2
    let fmt := c.opnd 40 1
    let n := (w * h * pixelBytes fmt + 4095) / 4096
    if ¬ s.isPier then s.finish c 0x0D15
    else if (s.handleNamed name).isSome then s.finish c 0x0D0E
    else
      let slot := (List.range 4096).find? fun i => (s.handle i).all fun x => !x.live && !x.space
      match slot, s.fitLayer n with
      | some i, some (part, page) =>
        let uses := (((s.handle i).map (·.uses)).getD 0 + 1) % 2 ^ 20
        let x : Handle := ⟨name, w, h, fmt, uses, 0, true, true, page, n, part⟩
        let a := s.handleAt x
        (((s.memZero a.1 a.2 (4096 * n)).setHandle i x).showCmp).finish c stOk (result [(16, 4, handleNum i x)])
      | _, _ => s.finish c 0x0D0D

/-- The live handle that a handle number names. -/
def State.liveHandle (s : State) (num : Nat) : Option (Nat × Handle) :=
  match s.handle (num % 4096) with
  | some h => if h.live ∧ h.uses = num / 4096 then some (num % 4096, h) else none
  | none => none

/-- Write rows of a rectangle of a handle from the head of the bytes. -/
def State.putRows (s : State) (h : Handle) (x y w : Nat) (rows : Nat) (bs : List Byte) : State :=
  let a := s.handleAt h
  let p := pixelBytes h.fmt
  (List.range rows).foldl (fun s r => s.spaceWrite a.1 (a.2 + ((y + r) * h.w + x) * p) (bytesAt bs (r * w * p) (w * p)) fixedClass 5) s

/-- The rectangle of a CMD_CMP_WRITE is the handle's and its payload has the length it needs (R287). -/
def writeOk (h : Handle) (x y w hh len : Nat) : Bool :=
  decide (0 < w) && decide (0 < hh) && decide (x + w ≤ h.w) && decide (y + hh ≤ h.h) &&
  decide (len = (w * hh * pixelBytes h.fmt + 3) / 4 * 4)

/-- CMD_CMP_WRITE: pixels into a live handle; the write count rises at each safe point and at completion. -/
def onCmdCmpWrite (q : Fin 24) (tag : Nat) (s : State) : State :=
  match s.cmd q tag 0x0D03 with
  | none => s
  | some c =>
    if ¬ s.isPier then s.finish c 0x0D15
    else match s.liveHandle (c.opnd 32 4) with
    | none => s.finish c 0x0D0C
    | some (i, h) =>
      let bs := s.payload c
      let w := c.opnd 40 2
      let hh := c.opnd 42 2
      if ¬ writeOk h (c.opnd 36 2) (c.opnd 38 2) w hh bs.length then s.finish c 0x0D0F
      else
        let s := s.putRows h (c.opnd 36 2) (c.opnd 38 2) w hh bs
        (s.setHandle i { h with writes := h.writes + (bs.length - 1) / mib + 1 }).finish c stOk

/-- The safe points of CMD_CMP_WRITE: the whole rows written before the n-th stay (R287). -/
def State.cmpWriteStop (s : State) (c : Cmd) (n : Nat) : State :=
  match s.liveHandle (c.opnd 32 4) with
  | none => s
  | some (i, h) =>
    let bs := s.payload c
    let w := c.opnd 40 2
    if c.phase = .started ∧ s.isPier ∧ 0 < n ∧ n * mib < bs.length ∧
        writeOk h (c.opnd 36 2) (c.opnd 38 2) w (c.opnd 42 2) bs.length then
      let rows := n * mib / (w * pixelBytes h.fmt)
      ((s.putRows h (c.opnd 36 2) (c.opnd 38 2) w rows bs).setHandle i { h with writes := h.writes + n }).finish c stAborted
    else s

/-- CMD_CMP_FREE: the handle is stale and its NAME released; its space returns at count zero (R288). -/
def onCmdCmpFree (q : Fin 24) (tag : Nat) (s : State) : State :=
  match s.cmd q tag 0x0D04 with
  | none => s
  | some c =>
    if ¬ s.isPier then s.finish c 0x0D15
    else match s.liveHandle (c.opnd 32 4) with
    | none => s.finish c 0x0D0C
    | some (i, h) =>
      let refs := s.handleRefs i
      let s := (s.setHandle i { h with live := false, space := decide (0 < refs) }).showCmp
      let s := if 0 < refs then s.raise 0x0D02 [(16, 4, c.opnd 32 4), (20, 4, refs)] else s
      s.finish c stOk

/-- A held generation names a slot of the LUT store. -/
def State.lutBusy (s : State) (kind index : Nat) : Bool :=
  s.cmp.gens.any fun g => match kind with
    | 0 => (visibleLayers g.table).any fun l => decide ((layerEnt g.table l).prelut = index)
    | 1 => decide (postLut g.table = index)
    | _ => (visibleLayers g.table).any fun l => decide ((layerEnt g.table l).filter = index)

/-- CMD_CMP_LUT (R280); the reserved kinds and indices are refused at the command port. -/
def onCmdCmpLut (q : Fin 24) (tag : Nat) (s : State) : State :=
  match s.cmd q tag 0x0D05 with
  | none => s
  | some c =>
    let kind := c.opnd 32 1
    let index := c.opnd 33 1
    let bs := s.payload c
    let k := (if kind = 0 then 0 else if kind = 1 then 32 else 36) + index
    if ¬ s.isPier then s.finish c 0x0D15
    else if ¬ lutFormat kind index bs then s.finish c 0x0D11
    else if s.lutBusy kind index then s.finish c 0x0D10
    else
      let s : State := State.unitRun { s with cmp := { s.cmp with lut := Sparse.set s.cmp.lut k bs } } 4 bs
      (s.setFld CMP_LUT_CRC.CRC (crc32 bs) k).finish c stOk (result [(16, 4, crc32 bs)])

/-- The fuse hash of the parapet key accepts a key (R284). -/
def State.parapetKeyOk (s : State) (key : List Byte) : Bool :=
  allZero s.fuses.parapet || sha384 key == s.fuses.parapet

/-- SIG of a record of Table 10-6 holds: over bytes 0 to 63 and all that follows KEY. -/
def recordSigOk (r : List Byte) : Bool :=
  ecdsaVerify (bytesAt r 160 96) (bytesAt r 64 96) (sha384 (r.take 64 ++ r.drop 256))

/-- The pixels of a record of KIND 0x01. -/
def parapetOf (seq : Nat) (r : List Byte) : Parapet :=
  ⟨seq, 1, leAt r 12 2, leAt r 14 2, leAt r 16 2, leAt r 18 2, bytesAt r 256 (4 * (leAt r 16 2 * leAt r 18 2))⟩

/-- Where the safe-image area begins in flash (Table 19-1). -/
def safeArea : Nat := 0x03400000

/-- Directory entry `i` of the safe-image area: TYPE and the bytes, where the entry keeps Table 18-6 and its
HASH holds. -/
def State.safeEntry (s : State) (i : Nat) : Option (Nat × List Byte) :=
  let d := s.flashRead (safeArea + 64 * i) 64
  let off : Nat := leAt d 4 4
  let len : Nat := leAt d 8 4
  if 64 ≤ i ∨ off % 4096 ≠ 0 ∨ off < 4096 ∨ 16 * mib < off + len ∨ ¬ allZero (bytesAt d 1 3) ∨
      ¬ allZero (bytesAt d 12 4) then none
  else
    let bs := s.flashRead (safeArea + off) len
    if sha384 bs = bytesAt d 16 48 then some (leAt d 0 1, bs) else none

/-- The content that a parapet record shows: itself, or the safe-image record it names verified again by steps 1
and 2; the status when it fails. An entry that is no record of KIND 0x01 fails step 2 (log entry 16). -/
def State.parapetContent (s : State) (r : List Byte) : Parapet × Nat :=
  let seq := leAt r 0 8
  match leAt r 10 1 with
  | 0 => (⟨seq, 0, 0, 0, 0, 0, []⟩, stOk)
  | 1 => (parapetOf seq r, stOk)
  | _ =>
    match s.safeEntry (leAt r 11 1) with
    | some (1, e) =>
      if ¬ s.parapetKeyOk (bytesAt e 160 96) then (parapetOf seq e, 0x0D12)
      else if ¬ recordSigOk e then (parapetOf seq e, 0x0D13)
      else (parapetOf seq e, stOk)
    | _ => (parapetOf seq r, 0x0D13)

/-- A parapet payload has the length its KIND gives it (log entry 16). -/
def parapetLen (r : List Byte) : Bool :=
  decide (r.length = 256 + (if leAt r 10 1 = 1 then 4 * (leAt r 16 2 * leAt r 18 2) else 0))

/-- Reserved bits or a reserved KIND in a parapet record. -/
def parapetReserved (r : List Byte) : Bool :=
  decide (2 < leAt r 10 1) || decide (4096 ≤ leAt r 8 2) || !allZero (bytesAt r 20 44)

/-- CMD_CMP_PARAPET: verify and accept a signed record (R284). -/
def onCmdCmpParapet (q : Fin 24) (tag : Nat) (s : State) : State :=
  match s.cmd q tag 0x0D06 with
  | none => s
  | some c =>
    let r := s.payload c
    let seq := leAt r 0 8
    let node := leAt r 8 2
    let x := s.parapetContent r
    if ¬ s.isPier then s.finish c 0x0D15
    else if r.length < 256 then s.finish c stBadPayload
    else if parapetReserved r then s.finish c stReserved
    else if ¬ parapetLen r then s.finish c stBadPayload
    else if ¬ s.parapetKeyOk (bytesAt r 160 96) then s.finish c 0x0D12
    else if ¬ recordSigOk r then s.finish c 0x0D13
    else if seq ≤ s.pair CMP_PARAPET_SEQ.SEQ ∨ (node ≠ s.self ∧ node ≠ 0xFFF) then s.finish c 0x0D14
    else if x.2 ≠ stOk then s.finish c x.2
    else
      let safe := decide (leAt r 10 1 = 2)
      let s := (s.setPair CMP_PARAPET_SEQ.SEQ seq).setFlag CMP_PARAPET.ACTIVE (decide (leAt r 10 1 ≠ 0))
      let s := (s.setFlag CMP_PARAPET.SAFE safe).setFld CMP_PARAPET.INDEX (if safe then leAt r 11 1 else 0)
      let s : State := { s with cmp := { s.cmp with parapet := some x.1 } }
      (s.raise 0x0D04 [(16, 8, seq), (24, 1, leAt r 10 1)]).finish c stOk

/-- The safe points of CMD_CMP_PARAPET, one after every 1 MiB hashed: the parapet is unchanged (R303). -/
def State.parapetStop (s : State) (c : Cmd) (n : Nat) : State :=
  let r := s.payload c
  if c.phase = .started ∧ s.isPier ∧ 0 < n ∧ n * mib < r.length ∧ ! parapetReserved r ∧ parapetLen r ∧
    s.parapetKeyOk (bytesAt r 160 96) then s.finish c stAborted
  else s

/-! ### The pixels of a band (R283, R285, R289) -/

/-- The picture of a counter in a context (R257). -/
def Ctx.picOf (c : Ctx) (cnt : Nat) : Option Pic := (c.cur.toList ++ c.held.toList ++ c.prev).find? fun x => x.cnt = cnt

/-- The 12-bit R'G'B' of a stream layer's picture at (y, x) (R143). -/
def State.streamRgb (s : State) (l cnt y x : Nat) : Int × Int × Int :=
  match s.ctxOf (64 * l + x / 256) with
  | none => (0, 0, 0)
  | some (_, c) =>
    let p := c.picOf cnt
    let lost := p.any fun p => s.picBad c p.slot ((y * c.w + x % 256) * 5) 5
    let v := fun k => picSample p c.h y (x % 256) k
    if lost then (0, 0, 0) else toRgb (if p.any (·.deep) then 12 else 10) (v 0) (v 1) (v 2)

/-- The bytes of a pixel of a handle, and whether its line or word reads uncorrectable. -/
def State.handlePixel (s : State) (h : Handle) (y x : Nat) : List Byte :=
  let a := s.handleAt h
  s.spaceRead a.1 (a.2 + (y * h.w + x) * pixelBytes h.fmt) (pixelBytes h.fmt)

/-- Component `c` of the linear light of a layer at source sample (y, x), for its input (R281). -/
def State.layerSample (s : State) (l : Nat) (e : LayerEnt) (ch : Choice) (c y x : Nat) : Int :=
  let lut (r g b : Nat) : Int := match s.lutSlot e.prelut with | some bs => preLut bs c r g b | none => 0
  match ch with
  | .hidden => 0
  | .pic cnt =>
    let v := s.streamRgb l cnt y x
    lut v.1.toNat v.2.1.toNat v.2.2.toNat
  | .buf i _ =>
    match s.handle i with
    | none => 0
    | some h =>
      let bs := s.handlePixel h y x
      if h.fmt = 0 then lut (leAt bs 0 2 % 4096) (leAt bs 2 2 % 4096) (leAt bs 4 2 % 4096)
      else (bits (leNat bs) (48 - 24 * c) 24 : Nat)

/-- Where a pier pixel reads the canvas. -/
def pixelUV (b : List Byte) (x y : Nat) : Int × Int :=
  (meshAt (nodeU b) (cellX b) (cellY b) x y, meshAt (nodeV b) (cellX b) (cellY b) x y)

/-- A layer covers a pixel (R279). -/
def LayerEnt.covers (e : LayerEnt) (uv : Int × Int) : Bool :=
  let x := (uv.1 + 128) / 256
  let y := (uv.2 + 128) / 256
  decide ((e.dstX : Int) ≤ x) && decide (x ≤ (e.dstX : Int) + e.dstW - 1) && decide ((e.dstY : Int) ≤ y) &&
  decide (y ≤ (e.dstY : Int) + e.dstH - 1)

/-- The destination offsets that a pixel mixes, limited to the destination: columns j, j', rows r, r'. -/
def LayerEnt.corners (e : LayerEnt) (uv : Int × Int) : Int × Int × Int × Int :=
  let lx (x : Int) : Int := sat (x - e.dstX) 0 ((e.dstW : Int) - 1)
  let ly (y : Int) : Int := sat (y - e.dstY) 0 ((e.dstH : Int) - 1)
  (lx (uv.1 / 256), lx (uv.1 / 256 + 1), ly (uv.2 / 256), ly (uv.2 / 256 + 1))

/-- One component of a layer at a pier pixel (R277, R279). -/
def State.layerAt (s : State) (l : Nat) (e : LayerEnt) (ch : Choice) (c : Nat) (uv : Int × Int) : Int :=
  let k := e.corners uv
  let at' (j r : Int) : Int := scaled (s.layerSample l e ch c) (s.coefV e.filter) (s.coefH e.filter) e 0 0xFFFFFF j r
  bilinear (at' k.1 k.2.2.1) (at' k.2.1 k.2.2.1) (at' k.1 k.2.2.2) (at' k.2.1 k.2.2.2) (uv.1 % 256) (uv.2 % 256)

/-- Blend of R283: ALPHA under R13. -/
def blend (alpha : Nat) (src dst : Int) : Int :=
  let ap : Int := (alpha + alpha / 32768 : Nat)
  sat ((ap * src + (65536 - ap) * dst + 32768) / 65536) 0 0xFFFFFF

/-- The layers of a table in ascending ZORDER. -/
def zLayers (t : List Byte) : List Nat :=
  (List.range 16).flatMap fun z => (visibleLayers t).filter fun l => (layerEnt t l).z = z

/-- The input a layer has in a list; hidden where it has none. -/
def inputOf (xs : List (Nat × Choice)) (l : Nat) : Choice := Sparse.get .hidden xs l

/-- The value of a pier pixel at the signature point (R283). -/
def State.sigPixel (s : State) (g : Gen) (xs : List (Nat × Choice)) (x y : Nat) : Nat :=
  let uv := pixelUV g.loc x y
  let comp (c : Nat) : Nat :=
    let v := (zLayers g.table).foldl (fun (d : Int) l =>
      let e := layerEnt g.table l
      let ch := inputOf xs l
      if ch ≠ .hidden ∧ e.covers uv then blend e.alpha (s.layerAt l e ch c uv) d else d) 0
    match s.lutSlot (32 + postLut g.table) with
    | some bs => (postLutOf bs c v.toNat).toNat
    | none => v.toNat
  comp 0 * 2 ^ 48 + comp 1 * 2 ^ 24 + comp 2

/-- The parapet blended over a native word (R285). -/
def parapetPixel (p : Option Parapet) (x y word : Nat) : Nat :=
  match p with
  | none => word
  | some p =>
    if p.x ≤ x ∧ x < p.x + p.w ∧ p.y ≤ y ∧ y < p.y + p.h then
      let o := 4 * ((y - p.y) * p.w + (x - p.x))
      let a := leAt p.pix (o + 3) 1 * 257
      let ap := a + a / 32768
      let comp (c : Nat) : Nat :=
        let v := leAt p.pix (o + c) 1
        let lin := (v * v * 1048576 + 32512) / 65025
        (ap * lin + (65536 - ap) * bits word (48 - 24 * c) 24 + 32768) / 65536
      comp 0 * 2 ^ 48 + comp 1 * 2 ^ 24 + comp 2
    else word

/-- The pier pixels of band `k`: 8 rows (R289). -/
def bandPixels (b : List Byte) (k : Nat) : List (Nat × Nat) :=
  (List.range (min 8 (pierH b - 8 * k))).flatMap fun r => (List.range (pierW b)).map fun x => (x, 8 * k + r)

/-- The bands of a pier canvas. -/
def bandCount (b : List Byte) : Nat := (pierH b + 7) / 8

/-- The source rows that a layer reads for a covered pixel: first and last. -/
def LayerEnt.rowsRead (e : LayerEnt) (uv : Int × Int) : Nat × Nat :=
  let k := e.corners uv
  let iy (r : Int) : Int := scalePos e.cropY e.cropH e.dstH r / 65536
  let ly (y : Int) : Int := sat y e.cropY ((e.cropY : Int) + e.cropH - 1)
  ((ly (iy k.2.2.1 + 1 - (e.taps : Int) / 2)).toNat, (ly (iy k.2.2.2 + (e.taps : Int) / 2)).toNat)

/-- The source columns that a layer reads for a covered pixel: first and last. -/
def LayerEnt.colsRead (e : LayerEnt) (uv : Int × Int) : Nat × Nat :=
  let k := e.corners uv
  let ix (j : Int) : Int := scalePos e.cropX e.cropW e.dstW j / 65536
  let lx (x : Int) : Int := sat x e.cropX ((e.cropX : Int) + e.cropW - 1)
  ((lx (ix k.1 - 3)).toNat, (lx (ix k.2.1 + 4)).toNat)

/-- The canvas positions of a band's pixels that a layer covers. -/
def coveredUV (b : List Byte) (e : LayerEnt) (k : Nat) : List (Int × Int) :=
  (bandPixels b k).filterMap fun p => let uv := pixelUV b p.1 p.2; if e.covers uv then some uv else none

/-- Slice columns and slice rows that a layer reads in band `k`. -/
def slicesRead (b : List Byte) (e : LayerEnt) (k : Nat) : List (Nat × Nat) :=
  ((coveredUV b e k).flatMap fun uv =>
    let r := e.rowsRead uv
    let c := e.colsRead uv
    (List.range (c.2 / 256 + 1 - c.1 / 256)).flatMap fun i =>
      (List.range (r.2 / 32 + 1 - r.1 / 32)).map fun j => (c.1 / 256 + i, r.1 / 32 + j)).eraseDups

/-- The layers that band `k` uses: those that cover one of its pixels. -/
def layersUsed (g : Gen) (k : Nat) : List Nat :=
  (visibleLayers g.table).filter fun l => coveredUV g.loc (layerEnt g.table l) k ≠ []

/-! ### Inputs (R289 to R291) -/

/-- The contexts of the columns that generation `g` needs for a layer: the first streams are the lowest columns. -/
def neededOf (g : Gen) (l : Nat) : List Nat := ((layerEnt g.table l).streams g.loc l).map (·.1)

/-- The one PIC_CNT that every stream of a list holds as its held picture. -/
def State.heldCnt (s : State) (streams : List Nat) : Option Nat :=
  let cnts := streams.map fun st => ((s.ctxOf st).bind fun c => c.2.held).map (·.cnt)
  match cnts with
  | some n :: _ => if cnts.all fun x => decide (x = some n) then some n else none
  | _ => none

/-- Every slice that the band reads has been decoded in the picture of a counter. -/
def State.slicesIn (s : State) (l cnt : Nat) (sl : List (Nat × Nat)) : Bool :=
  sl.all fun x => match s.ctxOf (64 * l + x.1) with
    | some (_, c) => (match c.picOf cnt with
      | some p => (Sparse.find p.rows x.2).isSome
      | none => false)
    | none => false

/-- The slot and the write count that generation `g` binds for a handle layer. -/
def State.boundInput (s : State) (g : Gen) (l : Nat) : Choice :=
  match g.binds.find? fun b => b.1 = l with
  | some b => .buf b.2.1 (((s.handle b.2.1).map (·.writes)).getD 0)
  | none => .hidden

/-- The input that band `k` takes for a layer before the ready point: the picture being decoded where the slices it
reads are there, else the picture held; none while neither is (log entry 17). -/
def State.earlyInput (s : State) (g : Gen) (l k : Nat) : Option Choice :=
  let e := layerEnt g.table l
  if e.handle then some (s.boundInput g l)
  else
    let sl := slicesRead g.loc e k
    let cur := (neededOf g l).findSome? fun st => ((s.ctxOf st).bind fun c => c.2.cur).map (·.cnt)
    match cur.filter fun n => s.slicesIn l n sl with
    | some n => some (.pic n)
    | none => (s.heldCnt (neededOf g l)).map .pic

/-- The inputs of band `k` now; none while one is still to be decoded. -/
def State.bandInputs (s : State) (g : Gen) (k : Nat) : Option (List (Nat × Choice)) :=
  (layersUsed g k).foldr (fun l acc =>
    match acc, (if s.cmp.ready then some (inputOf s.cmp.chosen l) else s.earlyInput g l k) with
    | some xs, some c => some ((l, c) :: xs)
    | _, _ => none) (some [])

/-- The parapet that a band shows: the one fixed at the ready point, before it the one last accepted. -/
def State.bandParapet (s : State) : Option Parapet := if s.cmp.ready then s.cmp.shown else s.cmp.parapet

/-- The SEQ of a parapet; 0 with none. -/
def seqOf (p : Option Parapet) : Nat := (p.map (·.seq)).getD 0

/-- A band reads a tainted row (R263, R294). -/
def State.bandTaint (s : State) (g : Gen) (xs : List (Nat × Choice)) (k : Nat) : Bool :=
  xs.any fun x => match x.2 with
    | .pic n => (slicesRead g.loc (layerEnt g.table x.1) k).any fun sl => match s.ctxOf (64 * x.1 + sl.1) with
      | some (_, c) => (match c.picOf n with
        | some p => p.taintedRow sl.2
        | none => false)
      | none => false
    | _ => false

/-- The source rows that a layer reads in a band. -/
def bandRows (g : Gen) (e : LayerEnt) (k : Nat) : List Nat :=
  (((coveredUV g.loc e k).map e.rowsRead).flatMap fun r => (List.range (r.2 + 1 - r.1)).map (r.1 + ·)).eraseDups

/-- The ranges of memory that a band reads for its inputs: space, address, length. Of a handle the cropped part of the rows, of a
picture the rows of the slots of the columns. -/
def State.bandReads (s : State) (g : Gen) (xs : List (Nat × Choice)) (k : Nat) : List (Bool × Nat × Nat) :=
  xs.flatMap fun x =>
    let e := layerEnt g.table x.1
    match x.2 with
    | .buf i _ => (match s.handle i with
      | some h =>
        let a := s.handleAt h
        let p := pixelBytes h.fmt
        (bandRows g e k).map fun y => (a.1, a.2 + (y * h.w + e.cropX) * p, e.cropW * p)
      | none => [])
    | .pic n =>
      let cols := ((slicesRead g.loc e k).map (·.1)).eraseDups
      cols.flatMap fun col => (match s.ctxOf (64 * x.1 + col) with
        | some (_, c) => (match c.picOf n with
          | some p => (bandRows g e k).flatMap fun y => s.slotPieces c p.slot (y * c.w * 5) (c.w * 5)
          | none => [])
        | none => [])
    | .hidden => []

/-- Report the uncorrectable lines and words that a bay reads for a band (Table 15-5, R409). -/
def State.reportBand (s : State) (bay : Nat) (reads : List (Bool × Nat × Nat)) : State :=
  reads.foldl (fun (s : State) r => s.reportBad r.1 r.2.1 r.2.2 (bayClass bay) 4) s

/-! ### Composing (R289, R292, R293) -/

/-- Band `k` of a generation can be composed: on a pier, with nothing in reset, and with its work in the hands of a CMP bay and
of a COR bay that are not late with it (R22, R23). -/
def State.canCompose (s : State) (g : Gen) (k : Nat) : Bool :=
  s.isPier && s.cmp.kept.isNone && s.heldWell 3 k (bandCount g.loc) && s.heldWell 4 k (bandCount g.loc) &&
  decide (s.fnState 12 ≠ fnReset) && decide (s.fnState 13 ≠ fnReset)

/-- Compose band `k` under a generation with inputs: signature words, parapet, correction, record. A band that read an
uncorrectable deck word is late (R409): nothing of it stands. -/
def State.makeBand (s : State) (g : Gen) (k : Nat) (xs : List (Nat × Choice)) : State :=
  let reads := s.bandReads g xs k
  let cmpBay := (s.holder 3 k (bandCount g.loc)).getD 16
  let corBay := (s.holder 4 k (bandCount g.loc)).getD 16
  if reads.any fun r => ! r.1 && decide (s.badWords r.2.1 r.2.2 ≠ []) then s.reportBand cmpBay reads else
  let px := bandPixels g.loc k
  let words := px.map fun p => s.sigPixel g xs p.1 p.2
  let par := s.bandParapet
  let w := pierW g.loc
  let pixel (x y : Nat) : Nat := parapetPixel par x y (words.getD ((y - 8 * k) * w + x) 0)
  let taint := s.bandTaint g xs k
  let s := (s.reportBand cmpBay reads).correctBand corBay k w (pierH g.loc) pixel
  let s := if s.cmp.named.isNone then s.bump CMP_SPEC.BANDS else s
  { s with cmp := { s.cmp with bands := Sparse.set s.cmp.bands k ⟨g.num, xs, seqOf par, taint, words⟩ } }

/-- A band is confirmed (R291): generation, inputs and parapet are those of its frame. -/
def State.bandConfirmed (s : State) (b : Band) : Bool :=
  decide (some b.gen = s.cmp.named) && (b.inputs.all fun x => decide (x.2 = inputOf s.cmp.chosen x.1)) &&
  decide (b.seq = seqOf s.cmp.shown)

/-- The generation of the back buffer: the one in force, or the one kept for a late buffer confirmed under it (R364). -/
def State.genBack (s : State) : Option Gen := if s.cmp.kept.isSome then s.cmp.kept else s.genInForce

/-- The back buffer is confirmed (R292, R317); under a generation that stood when a load changed LAYER or WORK it never is
(R300). -/
def State.backConfirmed (s : State) : Bool :=
  s.cmp.named.isSome && s.cmp.ready && s.imagesOk &&
  (match s.genBack with
    | some g => ! g.barred && (List.range (bandCount g.loc)).all fun k => match Sparse.find s.cmp.bands k with
      | some b => s.bandConfirmed b
      | none => false
    | none => false)

/-- CONFIRMED shows whether the back buffer is confirmed. -/
def State.showConfirmed (s : State) : State := s.setFlag CMP_STATUS.CONFIRMED s.backConfirmed

/-- A closure is accepted that names generation G with a hash (R274, R294): a match comes into force, older ones
are discarded and their handle references with them; otherwise the frame stays unconfirmed. -/
def State.confirmGen (s : State) (g : Nat) (hash : List Byte) : State :=
  let bad (s : State) (why : Nat) : State :=
    State.raise ((if s.cad.late then s else { s with cmp := { s.cmp with named := none } }).bump CMP_MISS.UNKNOWN) 0x0D03
      [(16, 4, g), (20, 1, why)]
  match s.gen g with
  | some x =>
    if x.hash = hash then
      let s : State := (if s.cad.late then
          (if s.cmp.inForce ≠ some g ∧ s.backConfirmed then { s with cmp := { s.cmp with kept := s.genBack } } else s)
        else { s with cmp := { s.cmp with named := some g } })
      let same := (s.genInForce.map (·.loc)) = some x.loc
      let s : State := if same then s else { s with cor := { s.cor with recount := true } }
      State.showConfirmed (State.showCmp (State.sweepHandles { s with cmp := { s.cmp with
        gens := s.cmp.gens.dropWhile fun y => y.num ≠ g, inForce := some g } }))
    else bad s 1
  | none => bad s 0

/-- A closure's generation is held with its hash (R294). -/
def State.knowsGen (s : State) (g : Nat) (hash : List Byte) : Bool := (s.gen g).any fun x => decide (x.hash = hash)

/-- A band of the back buffer is to be recomposed (R293): another generation is in force, or after the ready point
its inputs or its parapet are not the chosen ones. -/
def State.bandStale (s : State) (b : Band) : Bool :=
  decide (some b.gen ≠ s.cmp.inForce) || (s.cmp.ready &&
    (b.inputs.any (fun x => decide (x.2 ≠ inputOf s.cmp.chosen x.1)) || decide (b.seq ≠ seqOf s.cmp.shown)))

/-- The first band that is to be recomposed and whose inputs, and bays, allow it. -/
def State.nextStale (s : State) (g : Gen) : Option Nat :=
  (s.cmp.bands.find? fun b => s.bandStale b.2 &&
    (decide (bandCount g.loc ≤ b.1) || (s.canCompose g b.1 && (s.bandInputs g b.1).isSome))).map (·.1)

/-- BAND_COMPOSE: a band not yet composed whose inputs have been decoded. -/
def onBandCompose (k : Nat) (s : State) : State :=
  match s.genInForce with
  | none => s
  | some g =>
    if ¬ s.canCompose g k ∨ bandCount g.loc ≤ k ∨ (Sparse.find s.cmp.bands k).isSome ∨ (s.nextStale g).isSome then s
    else match s.bandInputs g k with
      | some xs => (s.makeBand g k xs).showConfirmed
      | none => s

/-- BAND_RECOMPOSE: the lowest band that R293 has recomposed, ahead of new work. -/
def onBandRecompose (s : State) : State :=
  match s.genInForce.bind fun g => (s.nextStale g).map fun k => (g, k) with
  | some (g, k) =>
    if bandCount g.loc ≤ k then { s with cmp := { s.cmp with bands := Sparse.erase s.cmp.bands k } }
    else match s.bandInputs g k with
      | some xs => ((s.makeBand g k xs).bump CMP_SPEC.RECOMP).sweepHandles.showCmp.showConfirmed
      | none => s
  | none => s

/-! ### The ready point (R290, R291, R298) -/

/-- The generation whose contexts decide a layer's readiness: F's generation where it shows the layer, else the newest
held one that does. -/
def State.genFor (s : State) (l : Nat) : Option Gen :=
  let shows (g : Gen) : Bool := (layerEnt g.table l).visible
  match s.genInForce.filter shows with
  | some g => some g
  | none => s.cmp.gens.reverse.find? shows

/-- A late layer: repeated, or hidden under FRESH_ONLY, under the host's last mask in ASSIST mode (before the first one by FRESH_ONLY,
R38), or for want of a picture. -/
def State.lateChoice (s : State) (l : Nat) (e : LayerEnt) : Choice :=
  let hide := match (if s.assistNext 12 then s.cmp.hide else none) with
    | some m => decide (bits m l 1 = 1)
    | none => e.freshOnly
  match Sparse.get .hidden s.cmp.before l with
  | .pic n => if hide then .hidden else .pic n
  | _ => .hidden

/-- The first layers of an episode raise EV_LAYER_LATE; CMP_LATE counts each. -/
def State.layerLate (s : State) (l : Nat) (ch : Choice) : State :=
  let s := (s.bump CMP_LATE.FRAMES l).setFlag CMP_LATE.NOW true l
  if l ∈ s.cmp.lateEp then s
  else
    let d := match ch with | .pic n => (n, 0) | _ => (0, 1)
    State.raise { s with cmp := { s.cmp with lateEp := l :: s.cmp.lateEp } } 0x0D01 [(16, 1, l), (18, 2, d.1), (20, 1, d.2)]

/-- A layer is not late: its episode ends. -/
def State.layerReady (s : State) (l : Nat) : State :=
  (State.setFlag { s with cmp := { s.cmp with lateEp := s.cmp.lateEp.filter (· ≠ l) } } CMP_LATE.NOW false l)

/-- Fix the input of one layer. -/
def State.fixInput (s : State) (l : Nat) : State :=
  match s.genFor l with
  | none => s.layerReady l
  | some g =>
    let e := layerEnt g.table l
    let put (s : State) (c : Choice) : State := { s with cmp := { s.cmp with chosen := Sparse.set s.cmp.chosen l c } }
    if e.handle then (if g.binds.any fun b => decide (b.1 = l) then put (s.layerReady l) (s.boundInput g l) else s.layerReady l)
    else if neededOf g l = [] then s.layerReady l
    else match (s.heldCnt (neededOf g l)).filter fun n => Sparse.find s.cmp.before l ≠ some (.pic n) with
      | some n => put (s.layerReady l) (.pic n)
      | none =>
        let c := s.lateChoice l e
        put (s.layerLate l c) c

/-- The ready point of frame `f`: the chosen input of every layer visible in any held generation, and the parapet. While
the back buffer is late, it keeps those of its own frame. -/
def State.readyPoint (s : State) (f : Nat) : State :=
  let r := s.useDecision 12 (periodOf f)
  let s := r.2
  let s : State := (match r.1 with
    | some bs => { s with cmp := { s.cmp with hide := some (leAt bs 0 8) } }
    | none => if s.assist 12 then s else { s with cmp := { s.cmp with hide := none } })
  let c := s.cmp
  let s : State := { s with cmp := { s.cmp with before := if s.cad.late then c.after.getD c.chosen else c.chosen, chosen := [] } }
  let s := (List.range 63).foldl (fun s l => s.fixInput l) s
  let s : State := (if s.cad.late then
      { s with cmp := { s.cmp with before := c.before, chosen := c.chosen, after := some s.cmp.chosen } }
    else { s with cmp := { s.cmp with shown := s.cmp.parapet, ready := true } })
  s.sweepHandles.showCmp.showConfirmed

/-! ### What the presentation of a frame does (R288, R294 to R296) -/

/-- The words of monitor `m`'s rectangle, clipped to the pier canvas, from the bands of the back buffer. -/
def State.sigWords (s : State) (b : List Byte) (m : Nat) : List Nat :=
  let x0 := s.fld CMP_SIG_RECT.X m
  let y0 := s.fld CMP_SIG_RECT.Y m
  let x1 := min (x0 + s.fld CMP_SIG_SIZE.W m) (pierW b)
  let y1 := min (y0 + s.fld CMP_SIG_SIZE.H m) (pierH b)
  (List.range (y1 - y0)).flatMap fun r =>
    let y := y0 + r
    let ws := ((Sparse.find s.cmp.bands (y / 8)).map (·.words)).getD []
    (List.range (x1 - x0)).map fun i => ws.getD (y % 8 * pierW b + x0 + i) 0

/-- The signature of words: CRC-32 of 9 bytes each, most significant first (R295). -/
def sigOf (ws : List Nat) : Nat := crc32 (ws.flatMap (beBytes 9))

/-- Latch the signatures of the frame presented and compare them in HW mode (R295, R296). -/
def State.latchSignatures (s : State) (frame : Nat) : State :=
  match s.genBack with
  | none => s
  | some g =>
    if s.fnState 23 = fnReset then s else
    let on := (List.range 64).filter fun m => bits (s.pair CMP_SIG_EN.EN) m 1 = 1
    let s := if on = [] then s else s.setPair CMP_SIG_FRAME.FRAME frame
    let s := on.foldl (fun s m => s.setFld CMP_SIG_VAL.VAL (sigOf (s.sigWords g.loc m)) m) s
    if s.assist 23 then
      let s := State.setFld { s with cmp := { s.cmp with sigEp := [] } } FNT_STATUS.DETAIL 0 23
      if on = [] then s else s.raise 0x1802 [(16, 8, frame)]
    else
      let bad := on.filter fun m => s.fld CMP_SIG_VAL.VAL m ≠ s.fld CMP_SIG_EXP.EXP m
      let old := s.cmp.sigEp
      let s := s.setFld FNT_STATUS.DETAIL bad.length 23
      let s : State := { s with cmp := { s.cmp with sigEp := bad } }
      bad.foldl (fun s m =>
        let s := s.setPair CMP_SIG_MIS.MIS (s.pair CMP_SIG_MIS.MIS ||| 2 ^ m)
        if m ∈ old then s else s.raise 0x1801 [(16, 1, m), (20, 4, s.fld CMP_SIG_VAL.VAL m), (24, 8, frame)]) s

/-- The inputs chosen last count as those of the frame before: the target retires or is given another frame (R291). -/
def State.passInputs (s : State) : State :=
  { s with cmp := { s.cmp with
    before := s.cmp.chosen, chosen := s.cmp.after.getD s.cmp.chosen, after := none, named := none, ready := false, kept := none } }

/-- A confirmed back buffer is swapped in (R25): its handles and contexts take the place of those of the frame before
(R251, R288). Where it is presented as `frame`, its signatures are latched (R294, R295). -/
def State.swapBack (s : State) (frame : Option Nat) : State :=
  let s := match frame with
    | some f =>
      let s := s.latchSignatures f
      if s.cmp.bands.any (fun b => b.2.taint) then s.bump CMP_MISS.TAINT else s
    | none => s
  let used := slotsIn s.cmp.chosen
  let need := match s.genBack with | some g => (streamsNeeded g.table g.loc).map (·.1) | none => []
  let s := s.setFld CMP_STATUS.FRONT (1 - s.fld CMP_STATUS.FRONT)
  let s : State := { s with cmp := { s.cmp with bands := [], presented := used, need := some need } }
  s.passInputs.sweepHandles.showCmp.showConfirmed

/-- The back buffer is given to another frame: its bands keep their records (R365). -/
def State.retargetBack (s : State) : State := s.passInputs.sweepHandles.showCmp.showConfirmed

/-! ### Resets and loads (R299, R300) -/

/-- A per-function reset of FN_CMP. -/
def State.cmpReset (s : State) : State :=
  State.showConfirmed { s with cmp := { s.cmp with bands := [], kept := none, lateEp := [] } }

/-- A per-function reset of FN_SIG. -/
def State.sigReset (s : State) : State :=
  let s := (List.range 64).foldl (fun s m => s.setFld CMP_SIG_VAL.VAL 0 m) (s.setPair CMP_SIG_MIS.MIS 0)
  State.setFld { s with cmp := { s.cmp with sigEp := [] } } FNT_STATUS.DETAIL 0 23

/-- Keep the held generations that satisfy a test; the one in force may be among those discarded. -/
def State.keepGens (s : State) (keep : Gen → Bool) : State :=
  let gens := s.cmp.gens.filter keep
  let force := s.cmp.inForce.filter fun n => gens.any fun g => decide (g.num = n)
  { s with
    cmp := { s.cmp with
      gens := gens
      inForce := force
      named := s.cmp.named.filter fun n => gens.any fun g => decide (g.num = n) }
    cor := { s.cor with recount := s.cor.recount || decide (force ≠ s.cmp.inForce) } }

/-- A load changes the LAYER partition: every handle is stale and its space gone; generations that bind one are
discarded, and no frame is presented under those that stay. -/
def State.layerChanged (s : State) : State :=
  let s : State := { s with cmp := { s.cmp with
    slots := s.cmp.slots.map fun p => (p.1, { p.2 with live := false, space := false }), presented := []
    gens := s.cmp.gens.map fun g => { g with barred := true } } }
  (s.keepGens fun g => g.binds = []).unconfirmBands.showCmp.showConfirmed

/-- A load changes a CMP bay's kind or WORK partition: the LUT store, the filter sets and the parapet are cleared and
every generation is discarded. -/
def State.cmpChanged (s : State) : State :=
  let s := (List.range 44).foldl (fun s k => s.setFld CMP_LUT_CRC.CRC 0 k) s
  let s := ((s.setFlag CMP_PARAPET.ACTIVE false).setFlag CMP_PARAPET.SAFE false).setFld CMP_PARAPET.INDEX 0
  let s : State := { s with cmp := { s.cmp with lut := [], parapet := none, shown := none } }
  (s.keepGens fun _ => false).unconfirmBands.sweepHandles.showCmp.showConfirmed

end Sys2Proof.Machine
end

