-- ==== Sys2Proof/Machine/Strand.lean ====
section
/-! DEFINITION. FN_STR and FN_THERM, strand drive and temperatures (spec/12_strand_drive.md): the hard timing set and
its validation, units, drive, the slot schedule, IREF, derating, the junction stop, memory-mode fans. Row slots
themselves stand in Diag.lean. -/

namespace Sys2Proof.Machine

/-! ### The hard timing set (R326) -/

/-- The hard fields as last written. -/
def State.hardWritten (s : State) : HardSet :=
  { k := s.fld STR_TIMING.K, diag := s.flag STR_TIMING.DIAG, tref := s.fld STR_REFRESH.T_REF, rows := s.fld STR_SCAN.ROWS + 1,
    pol := s.fld STR_SCAN.POL, dead := s.fld STR_SCAN.DEAD, p := s.fld STR_PLANE.P, pwMin := s.fld STR_PLANE.PW_MIN,
    settle := s.fld STR_PLANE.SETTLE, uLimit := s.fld STR_LIMIT.U_LIMIT, phaseMax := s.fld STR_LIMIT.PHASE_MAX,
    fans := (List.range 16).map fun f => ⟨s.fld STR_FAN_CFG.MODE f, 16 * (s.fld STR_FAN_CFG.COLS f + 1),
      s.fld STR_FAN_SINK.WORD0 f, s.fld STR_FAN_SINK.WORD1 f⟩ }

/-- HARD_PEND after a write of a hard field: whether the written set differs from the set in force. -/
def State.hardMark (s : State) : State := s.setFlag STR_STATUS.HARD_PEND (s.hardWritten ≠ s.str.hard)

/-- Row slots of a refresh: S + D (R332). -/
def HardSet.slots (h : HardSet) : Nat := h.rows + b2n h.diag

/-- L of the plane rules. -/
def HardSet.l (h : HardSet) : Nat := 17 - h.p

/-- G, refreshes per group. -/
def HardSet.g (h : HardSet) : Nat := 2 ^ (h.l - 1)

/-- The shortest slot. -/
def HardSet.slotLen (h : HardSet) : Nat := h.tref / h.slots

/-- N_R of R331. -/
def HardSet.refreshes (h : HardSet) (tMin : Nat) : Nat := tMin / h.tref

/-- Fans in a mode. -/
def HardSet.fansIn (h : HardSet) (mode : Nat) : List Nat :=
  (List.range 16).filter fun f => (h.fans[f]?).any fun x => decide (x.mode = mode)

/-- Whether strand `st` is driven: its bit of STR_STRAND_EN as the last frame start took it (R325, R347). -/
def State.strandOn (s : State) (st : Nat) : Bool := decide (bits (s.str.strands.getD (st / 32) 0) (st % 32) 1 = 1)

/-- What the strands of a fan shift for one plane, the column C − 1 first (R327): `bit` gives the bit of a strand at a column. -/
def State.fanData (s : State) (f : Nat) (bit : Nat → Nat → Nat) : List (List Bool) :=
  let c := ((s.str.hard.fans[f]?).map (·.cols)).getD 0
  (List.range 32).map fun k => (List.range c).reverse.map fun i => decide (bit (32 * f + k) i = 1)

/-- Columns of a fan. -/
def HardSet.cols (h : HardSet) (f : Nat) : Nat := ((h.fans[f]?).map (·.cols)).getD 0

/-! ### Planes (R334, R335, R337) -/

/-- Trailing zero bits of a positive number below 2^n. -/
def trailing : Nat → Nat → Nat
  | 0, _ => 0
  | n + 1, v => if v % 2 = 0 then trailing n (v / 2) + 1 else 0

/-- The low bit that refresh `r` shows (R334). -/
def HardSet.lowBit (h : HardSet) (r : Nat) : Nat := h.l - 1 - trailing 16 (r % h.g + 1)

/-- On-time of a bit at full current. -/
def onTime (l u b : Nat) : Nat := if b = 0 then u / 2 else if b < l then u else u * 2 ^ (b - l)

/-- The planes of a slot: bit, whether at 1/16 current, on-time (R334, R337). -/
def HardSet.planes (h : HardSet) (u low : Nat) (hyb : Bool) : List (Nat × Bool × Nat) :=
  (low :: (List.range (16 - h.l)).map (h.l + ·)).map fun b =>
    if hyb ∧ b ≤ h.l + 3 then (b, true, if b = 0 then 8 * u else 16 * onTime h.l u b) else (b, false, onTime h.l u b)

/-- The running values of the schedule of R335. -/
structure Sched335 where
  a       : Nat
  ready   : Nat
  lastLow : Nat
  prevLow : Bool
  first   : Bool
  out     : List (Nat × Nat × Nat)
deriving DecidableEq, Repr

/-- One plane of the schedule. -/
def Sched335.plane (k c settle : Nat) (hyb : Bool) (x : Sched335) (p : Nat × Bool × Nat) : Sched335 :=
  let latEnd := x.a + (if x.first then 5 else 2) * k
  let ready := if hyb && !p.2.1 && !x.first && x.prevLow then x.lastLow + settle else x.ready
  let onStart := max latEnd ready
  let onEnd := onStart + p.2.2
  ⟨max onEnd (latEnd + c * k), ready, if p.2.1 then onEnd else x.lastLow, p.2.1, false, x.out ++ [(p.1, onStart, onEnd)]⟩

/-- The schedule of a row slot (R335). -/
def HardSet.schedule (h : HardSet) (c : Nat) (hyb : Bool) (ps : List (Nat × Bool × Nat)) : Sched335 :=
  ps.foldl (Sched335.plane h.k c h.settle hyb) ⟨0, h.dead, 0, false, true, []⟩

/-- A fan of C columns fits at unit U in a drive, for its widest low bit. -/
def HardSet.fits (h : HardSet) (u c : Nat) (hyb : Bool) : Bool :=
  decide ((h.schedule c hyb (h.planes u (h.l - 1) hyb)).a + h.phaseMax ≤ h.slotLen)

/-! ### Validation (R336, Table 12-2) -/

/-- The greatest unit at most `n` that satisfies a test. -/
def greatestU (t : Nat → Bool) : Nat → Option Nat
  | 0 => none
  | n + 1 => if t (n + 1) then some (n + 1) else greatestU t n

/-- U of R336, if any. -/
def HardSet.unit (h : HardSet) : Option Nat :=
  let cap := if h.uLimit = 0 then 4095 else h.uLimit
  let cs := (h.fansIn 1).map h.cols
  if cs = [] then some cap else greatestU (fun u => cs.all fun c => h.fits u c false || h.fits u c true) cap

/-- A fan of C columns takes pulse drive at unit U. -/
def HardSet.pulse (h : HardSet) (u c : Nat) : Bool := decide (u % 2 = 0) && h.fits u c false && decide (h.pwMin ≤ u / 2)

/-- The mask of the fans that take hybrid drive at unit U. -/
def HardSet.hybrid (h : HardSet) (u : Nat) : Nat := maskWhere 16 fun f => decide (f ∈ h.fansIn 1) && !h.pulse u (h.cols f)

/-- A frame write of a memory-mode fan ends in time (R346). -/
def HardSet.writeFits (h : HardSet) (tMin c : Nat) : Bool := decide (16 * h.rows * (c + 2) * h.k + 6000 ≤ tMin)

/-- The first failing reason of Table 12-2, 0 for none. -/
def HardSet.check (h : HardSet) (vio33 : Bool) (tMin : Nat) : Nat :=
  let used := h.fansIn 1 ++ h.fansIn 2
  let n : Nat := h.refreshes tMin
  let u := h.unit
  let hyb := match u with | some v => (h.fansIn 1).filter fun f => !h.pulse v (h.cols f) | none => []
  if h.k < (if vio33 then 8 else 5) then 1
  else if used.any fun f => decide (2048 < h.rows * h.cols f) then 2
  else if n = 0 ∨ n % h.g ≠ 0 then 3
  else if hyb ≠ [] ∧ h.dead < h.settle then 4
  else match u with
    | none => 5
    | some v =>
      if hyb.any fun f => decide (8 * v < h.pwMin) || !h.fits v (h.cols f) true then 5
      else if (h.fansIn 2).any fun f => !h.writeFits tMin (h.cols f) then 6
      else 0

/-- A hard set is accepted for the next frame start. -/
def State.takeHard (s : State) (h : HardSet) : State :=
  let u := (h.unit).getD 0
  { s with str := { s.str with next := some h, nextU := u, nextHyb := h.hybrid u } }

/-- TIM_ERR takes a reason and EV_STR_TIMING is raised. -/
def State.timingError (s : State) (e : Nat) : State := (s.setFld STR_STATUS.TIM_ERR e).raise 0x0F01 [(16, 1, e)]

/-- The close of a commit window takes the written set: accepted for a transition, or refused (R326). -/
def State.closeHard (s : State) (tMin : Nat) : State :=
  if s.flag STR_STATUS.HARD_PEND then
    let h := s.hardWritten
    let s := s.setFlag STR_STATUS.HARD_PEND false
    let e := h.check (s.flag STR_GLOBAL.VIO33) tMin
    if e = 0 then (s.setFld STR_STATUS.TIM_ERR 0).takeHard h else s.timingError e
  else s

/-! ### State, drive, phases, IREF (R338, R339, R341, R347, R350) -/

/-- STR_STATUS.STATE of Table 12-9; the spec does not rank reasons that hold together (log entry 18). -/
def State.showStr (s : State) : State :=
  s.setFld STR_STATUS.STATE
    (if s.str.off then 0 else if s.therm.stopped then 4 else if s.str.brown then 5 else if s.str.rst then 3 else if s.str.trans then 2
      else if s.cad.running then 1 else 0)

/-- The lamps show (R344, R368, R371, R449, R462): nothing holds every BLANK high, and a safe image has had its first light. -/
def State.lit (s : State) : Bool :=
  s.cad.running && !s.str.off && !s.pwr.safe && !s.therm.stopped && !s.str.brown && !s.str.rst && !s.str.trans && !s.cad.aborted

/-- The mask of fans in hybrid drive takes a value; EV_STR_DRIVE at each change. -/
def State.setDrive (s : State) (m : Nat) : State :=
  if m = s.fld STR_DRIVE.HYB then s else (s.setFld STR_DRIVE.HYB m).raise 0x0F05 [(16, 2, m)]

/-- The close takes the soft settings of the strands: phases, IREF codes, the host's request (R339, R341, R350). -/
def State.closeSoftStr (s : State) (frame : Nat) : State :=
  let codes := (List.range 16).map fun f => s.fld STR_FAN_IREF.CODE f
  let s : State := { s with str := { s.str with codeNext := codes } }
  if s.assistNext 14 then
    match s.useDecision 14 (periodOf frame) with
    | (some bs, s) => { s with str := { s.str with
        hostHyb := leAt bs 0 2,
        phaseNext := (List.range 16).map fun f => leAt bs (4 + 2 * f) 2 } }
    | (none, s) => s
  else { s with str := { s.str with
      hostHyb := 0, phaseNext := (List.range 16).map fun f => s.fld STR_FAN_PHASE.PHASE f } }

/-- ACT of a code under a derating share (R341). -/
def irefAct (code dIref : Nat) : Nat := (code * dIref + 16384) / 32768

/-- What the next frame start brings into force in the strands: the accepted hard set with its unit, drive, phases
(at most PHASE_MAX in force, R339, log entry 81) and currents (R338, R371). -/
def State.applyStr (s : State) (tMin : Nat) : State :=
  let s : State := (match s.str.next with
    | some h =>
      let s := (s.setFld STR_UNIT.U s.str.nextU).setFld STR_UNIT.G h.g
      { s with str := { s.str with hard := h, next := none, need := s.str.nextHyb, trans := true } }
    | none => { s with str := { s.str with trans := false } })
  let s := s.setFld STR_NREF.N_R (s.str.hard.refreshes tMin)
  let s := s.setDrive (s.str.need ||| (s.str.hostHyb &&& maskWhere 16 fun f => decide (f ∈ s.str.hard.fansIn 1)))
  let s : State := { s with str := { s.str with
    phases := s.str.phaseNext.map (min s.str.hard.phaseMax)
    rst := false
    strands := (List.range 16).map fun f => s.fld STR_STRAND_EN.EN f
    brownOn := s.flag STR_BROWN_BLANK.EN
    teWin := s.fld STR_TE_CFG.TE_WIN } }
  (List.range 16).foldl (fun s f =>
    s.setFld STR_FAN_IREF.ACT (irefAct (s.str.codeNext.getD f 0) (s.fld PWR_THERM_D.D_IREF f)) f) s

/-- A read-back of a fan's configuration: the strands of it that mismatched (R329, R333). -/
def State.readBack (s : State) (f : Nat) (bad : List Nat) : State :=
  let here := bad.filter fun x => x / 32 = f
  let s := s.setFlag STR_FAN_STATUS.SINK_ERR (here ≠ []) f
  if here = [] then { s with str := { s.str with sinkRetry := s.str.sinkRetry.filter (· ≠ f) } }
  else State.raise { s with str := { s.str with sinkRetry := (s.str.sinkRetry.filter (· ≠ f)) ++ [f] } } 0x0F02
    [(16, 1, f), (20, 4, here.foldl (fun m x => m ||| 2 ^ (x % 32)) 0)]

/-- The transition frame reconfigures every fan in use, in fan order, and reads back (R330, R371). -/
def State.configSinks (s : State) (bad : List Nat) : State :=
  let s : State := { s with str := { s.str with sinkRetry := [] } }
  (List.range 16).foldl (fun s f =>
    match s.str.hard.fans[f]? with
    | some x =>
      if x.mode = 1 ∨ x.mode = 2 then
        (s.emit (.sinkConfig f x.word0 (if x.mode = 2 then some x.word1 else none))).readBack f bad
      else s
    | none => s) s

/-! ### IREF trim (R342) -/

/-- CMD_STR_IREF_TRIM: the fans of the mask, one per frame, lowest first. -/
def onCmdStrIrefTrim (q : Fin 24) (tag : Nat) (s : State) : State :=
  match s.cmd q tag 0x0F01 with
  | none => s
  | some c =>
    let m := c.opnd 32 2
    let fans := (List.range 16).filter fun f => bits m f 1 = 1
    if s.str.trimCmd.isSome then s
    else if fans = [] then s.finish c stOk
    else { s.run c with str := { s.str with trims := fans, trimCmd := some (c.q, c.id) } }

/-- At a frame start the next fan of a trim is blanked and measured. -/
def State.startTrim (s : State) : State :=
  match s.str.trim, s.str.trims with
  | none, f :: fs => { s with str := { s.str with trim := some (f, s.clock), trims := fs } }
  | _, _ => s

/-- IREF_TRIM_DONE: 2 ms after its start a fan's trim ends with the trims measured; the command completes with the
last fan. -/
def onIrefTrimDone (gain ratio : Fin 256) (s : State) : State :=
  match s.str.trim with
  | none => s
  | some (f, at') =>
    if s.clock < at' + 2 * ms then s
    else
      let s := ((s.setFld STR_IREF_TRIM.GAIN_TRIM gain.val f).setFld STR_IREF_TRIM.RATIO_TRIM ratio.val f).setFlag
        STR_IREF_TRIM.TRIMMED true f
      let s : State := { s with str := { s.str with trim := none } }
      if s.str.trims = [] then
        match s.str.trimCmd.bind fun p => s.cmdAt p.1 p.2 0x0F01 with
        | some c => State.finish { s with str := { s.str with trimCmd := none } } c stOk
        | none => { s with str := { s.str with trimCmd := none } }
      else s

/-- The safe point of a trim lies between fans. -/
def State.trimStop (s : State) (c : Cmd) : State :=
  if s.str.trim.isNone ∧ s.str.trimCmd = some (c.q, c.id) then
    State.finish { s with str := { s.str with trimCmd := none, trims := [] } } c stAborted
  else s

/-! ### Temperatures (R343) -/

/-- The mean of a fan's samples in 1/16 °C. -/
def meanOf (xs : List Int) : Int := xs.foldl (· + ·) 0 / (xs.length : Int)

/-- TEMP of fan `f` in 1/16 °C. -/
def State.temp (s : State) (f : Nat) : Int := s.fldS PWR_THERM_T.TEMP f

/-- A fan whose temperature has crossed its knee raises EV_THERM_KNEE (R343); DETAIL shows the fans above. -/
def State.kneeCheck (s : State) (f : Nat) : State :=
  let above := decide ((16 * s.fld PWR_THERM_CFG.KNEE : Nat) < s.temp f)
  let was := decide (f ∈ s.therm.above)
  if above = was then s
  else
    let l := if above then f :: s.therm.above else s.therm.above.filter (· ≠ f)
    let s : State := { s with therm := { s.therm with above := l } }
    (s.setFld FNT_STATUS.DETAIL (maskWhere 16 fun k => decide (k ∈ l)) 22).raise 0x1701
      [(16, 1, f), (17, 1, b2n above), (18, 2, s.fld PWR_THERM_T.TEMP f)]

/-- One sample of a fan: the ratio of the pin voltage to VAA in 1/65,536. Open reads high, short reads low. -/
def State.thermOne (s : State) (f x : Nat) : State :=
  let bad := decide (x * 50 < 65536) || decide (49 * 65536 < x * 50)
  let was := s.flag PWR_THERM_T.FAULT f
  let s := s.setFlag PWR_THERM_T.FAULT bad f
  let s := if bad ∧ ¬ was then s.raise 0x1702 [(16, 1, f), (17, 1, b2n (decide (x * 50 < 65536)))]
    else if ¬ bad ∧ was then s.raise 0x1702 [(16, 1, f), (17, 1, 2)] else s
  if bad then s
  else
    let t := Config.ntcTemp x (s.fld PWR_NTC_CFG.NTC_REF_RATIO) (s.fld PWR_NTC_CFG.BETA)
    let xs := (t :: Sparse.get [] s.therm.samples f).take 64
    let s : State := { s with therm := { s.therm with samples := Sparse.set s.therm.samples f xs } }
    (s.setFld PWR_THERM_T.TEMP (uNat 16 (meanOf xs)) f).kneeCheck f

/-- THERM_SAMPLE: every THERM input is sampled, each as the ratio of its voltage to VAA in 1/65,536. -/
def onThermSample (xs : List Nat) (s : State) : State :=
  (List.range 16).foldl (fun s f => s.thermOne f (xs.getD f 0)) s

/-- The temperature that decides a fan's derating: its own, or for a faulted fan the highest of the others. -/
def State.thermFor (s : State) (f : Nat) : Option Int :=
  if s.flag PWR_THERM_T.FAULT f then
    (List.range 16).foldl (fun (m : Option Int) k =>
      if s.flag PWR_THERM_T.FAULT k then m
      else match m with
        | some t => some (if t < s.temp k then s.temp k else t)
        | none => some (s.temp k)) none
  else some (s.temp f)

/-- d_t of R343 from a temperature. -/
def dTarget (temp : Int) (knee slope floor : Nat) : Nat :=
  let x := temp - 16 * knee
  if x ≤ 0 then 32768 else (if (floor : Int) < 32768 - x * slope * 2 then 32768 - x * slope * 2 else (floor : Int)).toNat

/-- d of R343: d_t approached by at most a step. -/
def dNext (dt dPrev step : Nat) : Nat := if dt < dPrev then max dt (dPrev - step) else min dt (dPrev + step)

/-- derate of R343. -/
def derateOf (d dIref : Nat) : Nat := if dIref = 0 then 32768 else (d * 32768 + dIref / 2) / dIref

/-- derate[f] of R312 as the registers stand. -/
def State.derate (s : State) (f : Nat) : Nat := derateOf (s.fld PWR_THERM_D.D f) (s.fld PWR_THERM_D.D_IREF f)

/-- The settings of FN_THERM that a fixing uses (R360, R370): KNEE, SLOPE, FLOOR, IREF_FLOOR, STEP. -/
def State.thermNow (s : State) : List Nat :=
  [s.fld PWR_THERM_CFG.KNEE, s.fld PWR_THERM_CFG.SLOPE, s.fld PWR_THERM_CFG.FLOOR, s.fld PWR_THERM_SPLIT.IREF_FLOOR,
    s.fld PWR_THERM_SPLIT.STEP]

/-- The close takes the settings of FN_THERM. -/
def State.closeTherm (s : State) : State := { s with therm := { s.therm with soft := s.thermNow } }

/-- DERATE_COMPUTE: D and D_IREF of every fan for frame `frame` (R343, R351; R459 with no bit-stream in force). The targets
that hardware computes in HW mode are the last decision when ASSIST begins (R38). -/
def State.computeDerate (s : State) (frame : Nat) : State :=
  let s : State := (if s.assist 22 then
      match s.useDecision 22 (periodOf frame) with
      | (some bs, s) => { s with therm := { s.therm with host := (List.range 16).map fun f => leAt bs (2 * f) 2 } }
      | (none, s) => s
    else s)
  let c := if s.therm.soft = [] then s.thermNow else s.therm.soft
  let floor := if s.flag CFG_STATUS.IN_FORCE then c.getD 3 0 else c.getD 2 0
  (List.range 16).foldl (fun s f =>
    let dPrev := s.fld PWR_THERM_D.D f
    let d := match s.thermFor f with
      | some t =>
        let hw := dTarget t (c.getD 0 0) (c.getD 1 0) (c.getD 2 0)
        dNext (if s.assist 22 then min hw (s.therm.host.getD f 32768) else hw) dPrev (c.getD 4 0)
      | none => dPrev
    let s : State := (if s.assist 22 then s else { s with therm := { s.therm with
      host := s.therm.host.set f (((s.thermFor f).map fun t => dTarget t (c.getD 0 0) (c.getD 1 0) (c.getD 2 0)).getD 32768) } })
    (s.setFld PWR_THERM_D.D d f).setFld PWR_THERM_D.D_IREF (max d floor) f) s

/-! ### The junction (R344) -/

/-- TJ_SAMPLE: the hottest junction sensor, in 1/16 °C. -/
def onTjSample (t : Int) (s : State) : State :=
  let s := s.setFld PWR_THERM_TJ.TJ (uNat 16 t)
  let stop := s.fld PWR_THERM_STOP.TJ_STOP
  let low : Int := 16 * ((stop : Int) - s.fld PWR_THERM_STOP.TJ_HYST)
  if (16 * stop : Nat) ≤ t then
    let s : State := { s with therm := { s.therm with coolAt := none, resume := false } }
    if s.therm.stopped then s
    else (State.showStr { s with therm := { s.therm with stopped := true } }).raise 0x1703
      [(16, 2, uNat 16 t), (18, 1, 1)]
  else if t < low then
    (if s.therm.stopped ∧ s.therm.coolAt.isNone then { s with therm := { s.therm with coolAt := some s.clock } } else s)
  else { s with therm := { s.therm with coolAt := none, resume := false } }

/-- TJ_COOLDOWN_EXPIRY: below TJ_STOP − TJ_HYST for 1 s; the lamps show again at the next frame start. -/
def onTjCooldownExpiry (s : State) : State :=
  match s.therm.coolAt with
  | some t => if s.therm.stopped ∧ t + 1000 * ms ≤ s.clock then { s with therm := { s.therm with resume := true } } else s
  | none => s

/-- The frame start after the cool-down: the lamps show. -/
def State.thermResume (s : State) : State :=
  if s.therm.resume then
    State.raise { s with therm := { s.therm with stopped := false, resume := false, coolAt := none } } 0x1703
      [(16, 2, s.fld PWR_THERM_TJ.TJ), (18, 1, 0)]
  else s

/-! ### Memory-mode fans (R346) -/

/-- The bit that strand `st` shifts for plane bit `b` of row `r` at column `c`; STR_DAT of a strand not driven is low (R325). -/
def State.sentBit (s : State) (st r b c : Nat) : Nat :=
  let f := st / 32
  if s.strandOn st ∧ c < s.str.hard.cols f then
    bits (leNat (s.spaceRead false (s.frontBase + 2 * (st * 2048 + r * s.str.hard.cols f + c)) 2)) b 1
  else 0

/-- The plane engine reports the uncorrectable words of the front buffer that a fan's frame write reads (R409). -/
def State.reportFan (s : State) (f : Nat) : State :=
  (s.mem.deckBad.filter fun w => decide (s.frontBase ≤ 8 * w) && decide ((8 * w - s.frontBase) / 131072 = f)).foldl
    (fun (s : State) w => s.deckUc w 0) s

/-- The planes of a memory-mode fan's frame write: rows from 0 on, bits 15 to 0 of each (R345). -/
def State.frameWrite (s : State) (f : Nat) : List (List (List Bool)) :=
  (List.range s.str.hard.rows).flatMap fun r => (List.range 16).map fun q => s.fanData f fun st c => s.sentBit st r (15 - q) c

/-- SYNC and the frame write on every memory-mode fan; COUNT shows the rises of the frame that ends. -/
def State.syncFans (s : State) : State :=
  (s.str.hard.fansIn 2).foldl (fun s f =>
    let s := s.setFld STR_FAN_TE.COUNT (min (Sparse.get 0 s.str.teCount f) 255) f
    let s : State := { s with str := { s.str with
      syncAt := Sparse.set s.str.syncAt f s.clock, teRise := s.str.teRise.filter (· % 16 ≠ f), teCount := Sparse.erase s.str.teCount f } }
    (s.emit (.sync f (s.frameWrite f))).reportFan f) s

/-- A frame whose TE came late or not at all: counted, TE_MISS, EV_STR_TE once per episode. -/
def State.teMiss (s : State) (f : Nat) : State :=
  let s := (s.bump STR_FAN_TE.MISS f).setFlag STR_FAN_STATUS.TE_MISS true f
  if f ∈ s.str.teEp then s
  else State.raise { s with str := { s.str with teEp := f :: s.str.teEp } } 0x0F04 [(16, 1, f)]

/-- TE_RISE: a memory fan's TE rises. The first rise after SYNC is its delay; within the window it ends an episode. -/
def onTeRise (f : Fin 16) (s : State) : State :=
  match Sparse.find s.str.syncAt f with
  | none => s
  | some t =>
    let s : State := { s with str := { s.str with teCount := Sparse.set s.str.teCount f (Sparse.get 0 s.str.teCount f + 1) } }
    if f.val ∈ s.str.teRise then s
    else
      let d := s.clock - t
      let s := s.setFld STR_FAN_TE.DELAY (min d 65535) f
      let s : State := { s with str := { s.str with teRise := f.val :: s.str.teRise } }
      if s.str.teWin < d then s
      else
        let s := s.setFlag STR_FAN_STATUS.TE_MISS false f
        if f.val ∈ s.str.teEp then
          State.raise { s with str := { s.str with teEp := s.str.teEp.filter (· ≠ f.val) } } 0x0F04 [(16, 1, f.val), (17, 1, 1)]
        else s

/-- TE_WINDOW_EXPIRY: TE_WIN has passed since SYNC without a TE rise in it; counted once per SYNC, which 16 + f in
the list of rises marks. -/
def onTeWindowExpiry (f : Fin 16) (s : State) : State :=
  match Sparse.find s.str.syncAt f with
  | none => s
  | some t =>
    let late := decide (s.str.teWin < s.fld STR_FAN_TE.DELAY f)
    if 16 + f.val ∈ s.str.teRise ∨ (f.val ∈ s.str.teRise ∧ ¬ late) ∨ s.clock ≤ t + s.str.teWin then s
    else State.teMiss { s with str := { s.str with teRise := (16 + f.val) :: s.str.teRise } } f

/-! ### Resets (R352) -/

/-- A per-function reset of FN_STR: the strands blank to the next frame start; the counters are cleared by R62. -/
def State.strReset (s : State) : State :=
  State.showStr { s with str := { s.str with
    rst := true, echoNow := [], echoEp := [], teEp := [], trims := [], trim := none, trimCmd := none } }

end Sys2Proof.Machine
end

