-- ==== Sys2Proof/Machine/Diag.lean ====
section
/-! DEFINITION. FN_DIA, lamp and pin diagnostics (spec/14_lamp_diagnostics.md), with the refreshes and row slots
in which it works: refresh starts, row slots, underruns and frame aborts (R331 to R333, R367, R368), evidence, lamp
states, probes, the pin test, the strands, removal. -/

namespace Sys2Proof.Machine

/-! ### Which lamps are driven and diagnosed (R325, R374) -/

/-- Whether lamp `i` is driven: row and column within the geometry in force, its strand enabled, its fan in use. -/
def State.driven (s : State) (i : Nat) : Bool :=
  let st := i / 2048
  let f := st / 32
  let h := s.str.hard
  let at' := s.lampAt i
  (match h.fans[f]? with | some x => decide (x.mode = 1 ∨ x.mode = 2) | none => false) &&
  decide (at'.1 < h.rows) && decide (at'.2 < h.cols f) && s.strandOn st

/-- Whether lamp `i` is diagnosed. -/
def State.diagnosed (s : State) (i : Nat) : Bool :=
  decide (i < s.lamps) && decide (mapComp (s.mapEntry i) ≠ 3) && s.driven i && decide (i / 65536 ∈ s.str.hard.fansIn 1)

/-- The diagnosed lamps of a row. -/
def State.rowLamps (s : State) (r : Nat) : List Nat := (List.range s.lamps).filter fun i => decide ((s.lampAt i).1 = r) && s.diagnosed i

/-! ### The lamp table (Table 14-1) -/

/-- UNVERIFIED. -/
def lpUnverified : Nat := 0
/-- OK. -/
def lpOk : Nat := 1
/-- OPEN. -/
def lpOpen : Nat := 2
/-- SHORT. -/
def lpShort : Nat := 3
/-- LEAK. -/
def lpLeak : Nat := 4
/-- BRIDGE. -/
def lpBridge : Nat := 5
/-- NONE. -/
def lpNone : Nat := 6

/-- The byte of lamp `i` as kept. -/
def State.lampByte (s : State) (i : Nat) : Nat := Sparse.get 0 s.dia.lamps i

/-- The byte of lamp `i` as the table holds it: a lamp that is not diagnosed has STATE NONE. -/
def State.lampShown (s : State) (i : Nat) : Nat :=
  if s.diagnosed i then s.lampByte i else s.lampByte i / 8 % 2 * 8 + lpNone

/-- Whether a STATE is a fault state. -/
def lampFaulty (st : Nat) : Bool := decide (2 ≤ st) && decide (st ≤ 5)

/-- The bit of AUTO_REMOVE for a fault state. -/
def removeBit (st : Nat) : Nat := if st = 2 then 0 else if st = 3 then 1 else 2

/-- Store a lamp's byte; a change of STATE is tallied for EV_DIA_CHANGE, and in HW mode a lamp that enters a state
named in AUTO_REMOVE is to be removed (R384, R390). -/
def State.putLamp (s : State) (i b : Nat) : State :=
  let old := s.lampByte i % 8
  let st := b % 8
  let s : State := { s with dia := { s.dia with lamps := Sparse.put 0 s.dia.lamps i b } }
  if old = st then s
  else
    let enters := lampFaulty st && decide (¬ lampFaulty old)
    let auto := lampFaulty st && !s.assist 15 && decide (bits (s.fld DIA_CFG.AUTO_REMOVE) (removeBit st) 1 = 1)
    { s with dia := { s.dia with
      entered := s.dia.entered + b2n enters
      left := s.dia.left + b2n (lampFaulty old && decide (¬ lampFaulty st))
      lapsed := s.dia.lapsed + b2n (decide (st = lpUnverified))
      lowest := some (match s.dia.lowest with | some k => min k i | none => i)
      removing := if auto then s.dia.removing ++ [i] else s.dia.removing } }

/-- A lamp's byte after one piece of evidence of a class (R378); `meas` for a measurement. -/
def evidence (confirm cls : Nat) (fault meas : Bool) (b : Nat) : Nat :=
  let st := b % 8
  let cnt := bits b 4 2
  let seen := if meas then b ||| 64 else b
  let put (st cnt : Nat) : Nat := seen / 64 * 64 + cnt * 16 + b / 8 % 2 * 8 + st
  let own := decide (st = cls) || (decide (4 ≤ st) && decide (4 ≤ cls))
  if st ≤ 1 then
    if fault then (if confirm ≤ cnt + 1 then put cls 0 else put st (cnt + 1)) else put lpOk 0
  else if own then
    if fault then put st 0 else if confirm ≤ cnt + 1 then put lpOk 0 else put st (cnt + 1)
  else seen

/-- Give evidence to a lamp. -/
def State.evidenceFor (s : State) (i cls : Nat) (fault meas : Bool) : State :=
  s.putLamp i (evidence (s.fld DIA_CFG.CONFIRM) cls fault meas (s.lampByte i))

/-- A strand with a pin fault gives no lamp evidence (R375, R383). -/
def State.strandOk (s : State) (i : Nat) : Bool := decide (s.fld DIA_STRAND.FAULT (i / 2048) = 0)

/-- A lamp is due (R380). -/
def State.due (s : State) (i : Nat) : Bool := decide (bits (s.lampByte i) 6 1 = 0)

/-! ### Flags loaded at a slot start (R375, R376, R382) -/

/-- KIND of the frame in progress: 0 OPEN, 1 SHORT, 2 LEAK. -/
def State.kind (s : State) : Nat := s.fld DIA_STATUS.KIND

/-- The output of its sink that drives lamp `i`. -/
def State.sinkOutput (s : State) (i : Nat) : Nat := (s.lampAt i).2 % 16

/-- The evidence of a row once its three patterns have been loaded. -/
def State.pinEvidence (s : State) (p : PinTest) (row : Nat) : State :=
  if p.bad then s
  else (s.rowLamps row).foldl (fun s i =>
    if ¬ s.strandOk i then s
    else if i ∈ p.z then s.evidenceFor i lpLeak true false
    else if i ∈ (if s.sinkOutput i % 2 = 0 then p.d else p.e) then s.evidenceFor i lpBridge true false
    else s.evidenceFor i lpLeak false false) s

/-- The flags that a slot's first command loads: those of the slot before it, for the lamps listed. -/
def State.loadFlags (s : State) (flags : List Nat) : State :=
  match s.dia.shown with
  | none =>
    match s.dia.pin with
    | some p => if p.begun ∧ s.kind = 2 ∧ 0 < p.shown % 3 then { s with dia := { s.dia with pin := some { p with bad := true } } } else s
    | none => s
  | some x =>
    let s : State := { s with dia := { s.dia with shown := none } }
    if x.use ≤ 1 then
      if s.kind = 2 then s
      else x.lamps.foldl (fun s i =>
        if s.strandOk i then s.evidenceFor i (lpOpen + s.kind) (decide (i ∈ flags)) true else s) s
    else match s.dia.pin with
      | none => s
      | some p =>
        let here := flags.filter fun i => decide ((s.lampAt i).1 = x.row)
        if x.use = 2 then { s with dia := { s.dia with pin := some { p with bad := false, z := here, e := [], d := [] } } }
        else if x.use = 3 then { s with dia := { s.dia with pin := some { p with e := here } } }
        else State.pinEvidence { s with dia := { s.dia with pin := some { p with d := here } } } { p with d := here } x.row

/-! ### Echo mismatches and the strands (R329, R383, R498) -/

/-- A ball neighbour as a number: partner strand, + 512 when the partner pin is a return line, + 1,024 when the strand's
own pin is STR_RET (R498). -/
def neighbours (st : Nat) : List Nat :=
  let t := st % 32
  let near := (if 4 ≤ t then [st - 4] else []) ++ (if t < 28 then [st + 4] else [])
  [st + 512] ++ (if 0 < t % 4 then [st - 1 + 512] else []) ++ near ++
  [st + 1024] ++ (if t % 4 < 3 then [st + 1 + 1024] else []) ++ near.map (· + 512 + 1024)

/-- A neighbour explains a mismatched bit: it carried the complement of the bit sent. `mis` lists the mismatches of
the plane as (strand, plane, column). -/
def State.explains (s : State) (mis : List (Nat × Nat × Nat)) (st r q b c code : Nat) : Bool :=
  let p := code % 512
  let sent := s.sentBit p r b c
  let carried := if bits code 9 1 = 1 ∧ (p, q, c) ∈ mis then 1 - sent else sent
  decide (carried ≠ s.sentBit st r b c)

/-- The strands that are compared: enabled strands of the fans in use. -/
def State.comparedStrands (s : State) : List Nat :=
  (List.range 16).flatMap fun f =>
    if f ∈ s.str.hard.fansIn 1 ∨ f ∈ s.str.hard.fansIn 2 then ((List.range 32).map (32 * f + ·)).filter s.strandOn else []

/-- A position that is compared: a column of a strand in use; on a memory-mode fan any of the 16 planes of the row, on a direct one
a plane closed by LATCH, so not the first of a slot where the flags are loaded (R329, R375). -/
def State.compared (s : State) (n : Nat) (x : Nat × Nat × Nat) : Bool :=
  let f := x.1 / 32
  decide (x.1 < 512) && s.strandOn x.1 && decide (x.2.2 < s.str.hard.cols f) &&
    (if f ∈ s.str.hard.fansIn 2 then decide (x.2.1 < 16)
    else decide (f ∈ s.str.hard.fansIn 1) && decide (x.2.1 < n) && (decide (0 < x.2.1) || ! s.isPier))

/-- The comparison after LATCH: each mismatch as strand, plane of the slot, column (R329). -/
def State.echoes (s : State) (r : Nat) (ps : List Nat) (mis : List (Nat × Nat × Nat)) : State :=
  let mis := mis.filter (s.compared ps.length)
  let s := ((mis.map fun x => (x.1, x.2.1)).eraseDups).foldl (fun s x => s.bump STR_ECHO_ERR.COUNT x.1) s
  let s := mis.foldl (fun s x =>
    let old := (Sparse.find s.str.echoCand x.1).getD (neighbours x.1)
    let b := if x.1 / 32 ∈ s.str.hard.fansIn 2 then 15 - x.2.1 else ps.getD x.2.1 0
    let kept := old.filter fun code => s.explains mis x.1 r x.2.1 b x.2.2 code
    { s with str := { s.str with echoCand := Sparse.set s.str.echoCand x.1 kept } }) s
  ((mis.map (·.1)).eraseDups).foldl (fun s st =>
    let s : State := { s with str := { s.str with
      echoNow := if st ∈ s.str.echoNow then s.str.echoNow else st :: s.str.echoNow } }
    if st ∈ s.str.echoEp then s
    else State.raise { s with str := { s.str with echoEp := st :: s.str.echoEp } } 0x0F03 [(16, 2, st)]) s

/-- DIA_STRAND of a strand takes a FAULT; EV_DIA_PIN at each change. -/
def State.setStrand (s : State) (st fault code : Nat) : State :=
  if s.fld DIA_STRAND.FAULT st = fault then s
  else
    let pin := decide (fault = 2)
    let s := s.setFld DIA_STRAND.FAULT fault st
    let s := s.setFld DIA_STRAND.SELF_RET (if pin then bits code 10 1 else 0) st
    let s := s.setFld DIA_STRAND.PART_RET (if pin then bits code 9 1 else 0) st
    let s := s.setFld DIA_STRAND.PARTNER (if pin then code % 512 else 0) st
    s.raise 0x1002 [(16, 2, st), (18, 1, fault), (20, 2, if pin then code % 512 else 0)]

/-- STRAND_CLASSIFY: the end of a refresh (R383). -/
def State.classifyStrands (s : State) : State :=
  let confirm := s.fld DIA_CFG.CONFIRM
  let all := s.comparedStrands
  let now := s.str.echoNow
  let s := all.foldl (fun s st =>
    let bad := decide (st ∈ now)
    let run := if bad then Sparse.get 0 s.str.echoRun st + 1 else 0
    let none' := if bad then 0 else Sparse.get 0 s.str.echoNone st + 1
    let s : State := { s with str := { s.str with
      echoRun := Sparse.put 0 s.str.echoRun st run
      echoNone := Sparse.put 0 s.str.echoNone st (min none' 64)
      echoCand := if bad then s.str.echoCand else Sparse.erase s.str.echoCand st
      echoEp := if bad then s.str.echoEp else s.str.echoEp.filter (· ≠ st) } }
    let f := st / 32
    let fanBad := (all.filter fun x => x / 32 = f).all (fun x => decide (x ∈ now)) || s.flag STR_FAN_STATUS.SINK_ERR f
    if fanBad then s.setStrand st 3 0
    else if bad ∧ confirm ≤ run then
      match (Sparse.find s.str.echoCand st).getD [] with
      | code :: _ => s.setStrand st 2 code
      | [] => s.setStrand st 1 0
    else if 64 ≤ none' then s.setStrand st 0 0
    else s) s
  { s with str := { s.str with echoNow := [] } }

/-! ### Refreshes and row slots (R331, R332, R334, R335) -/

/-- N_R in force. -/
def State.nRef (s : State) : Nat := s.fld STR_NREF.N_R

/-- S of the frame in progress. -/
def State.frameAt (s : State) : Nat := s.pair TIM_START.START

/-- A refresh has ended: the strands are classified, and a refresh without an underrun breaks a run of them. -/
def State.endRefresh (s : State) : State :=
  if s.cad.refresh = 0 then s
  else
    let s := s.classifyStrands
    { s with
      cad := { s.cad with under := if s.cad.underNow then s.cad.under else 0, underNow := false }
      str := { s.str with refreshes := s.str.refreshes + 1 } }

/-- REFRESH_START: refresh r of the frame starts r × T_REF after the frame start. -/
def onRefreshStart (s : State) : State :=
  let r := s.cad.refresh
  if s.cad.running ∧ (s.isPier ∨ ¬ s.flag CFG_STATUS.IN_FORCE) ∧ ¬ s.str.off ∧ ¬ s.cad.aborted ∧
      ¬ s.str.trans ∧ r < s.nRef ∧ s.frameAt + r * s.str.hard.tref ≤ s.now then
    let s := s.endRefresh
    { s with cad := { s.cad with refresh := r + 1, slot := 0 } }
  else s

/-- A frame abort (R368): the refreshes of the frame end; cause 0 underruns, 1 early start, 2 wall-time step. -/
def State.abortFrame (s : State) (cause : Nat) : State :=
  if s.cad.aborted ∨ ¬ s.cad.running then s
  else
    let s := (s.bump TIM_CNT_ABORT.COUNT).raise 0x0B07 [(16, 1, cause), (24, 8, s.frame)]
    { s with
      cad := { s.cad with aborted := true }
      dia := { s.dia with shown := none } }

/-- An underrun in a row slot (R367): counted, EV_SCAN_UNDERRUN once per frame, the frame aborted after ABORT_LIM
consecutive refreshes with one. -/
def State.underrun (s : State) (refresh slot : Nat) : State :=
  let s := s.bump TIM_CNT_UNDERRUN.COUNT
  let s : State := (if s.cad.underEv then s
    else State.raise { s with cad := { s.cad with underEv := true } } 0x0B06 [(16, 2, refresh), (18, 1, slot), (24, 8, s.frame)])
  if s.cad.underNow then s
  else
    let n := s.cad.under + 1
    let s : State := { s with cad := { s.cad with under := n, underNow := true } }
    if s.fld TIM_SCAN_CFG.ABORT_LIM ≤ n then s.abortFrame 0 else s

/-- The planes of fan `f` in refresh `r`. -/
def State.fanPlanes (s : State) (f r : Nat) : List (Nat × Bool × Nat) :=
  s.str.hard.planes (s.fld STR_UNIT.U) (s.str.hard.lowBit r) (decide (bits (s.fld STR_DRIVE.HYB) f 1 = 1))

/-- The direct-mode fans that a slot shows: all but one whose trim holds BLANK high (R342). -/
def State.shownFans (s : State) : List Nat := (s.str.hard.fansIn 1).filter fun f => ! s.str.trim.any fun p => decide (p.1 = f)

/-- The planes of row slot `i` in refresh `r` on every direct-mode fan, with the fan's phase (R335, R339). -/
def State.slotPlanes (s : State) (i r : Nat) : List (Nat × List PlaneOut) :=
  s.shownFans.map fun f =>
    let ph := s.str.phases.getD f 0
    let ps := s.fanPlanes f r
    (f, ((s.str.hard.schedule (s.str.hard.cols f) (decide (bits (s.fld STR_DRIVE.HYB) f 1 = 1)) ps).out.zip ps).map
      fun x => ⟨x.1.1, x.2.2.1, x.1.2.1 + ph, x.1.2.2 + ph, s.fanData f fun st c => s.sentBit st i x.1.1 c⟩)

/-- The levels of the SCAN outputs while row `i` is lit: SCAN[j] is active where j mod S is the row (R332). -/
def State.scanLevels (s : State) (i : Nat) : Nat :=
  let on := maskWhere 64 fun j => decide (j % s.str.hard.rows = i)
  if s.str.hard.pol = 0 then on else 2 ^ 64 - 1 - on

/-- A diagnostic slot lights a row for 600 ticks from DEAD, at 1/16 range, with the lamps that `on` names (R380, R382). -/
def State.showDiag (s : State) (row : Nat) (on : Nat → Bool) : State :=
  s.emit (.diagSlot row (s.scanLevels row) (s.shownFans.map fun f =>
    let at' := s.str.hard.dead + s.str.phases.getD f 0
    (f, ⟨0, true, at', at' + 600, s.fanData f fun st c =>
      b2n (s.strandOn st && on (st * 2048 + row * s.str.hard.cols f + c))⟩)))

/-- The grey that a row slot reads for a lamp: 0 where its word is uncorrectable (R409). -/
def State.shownGrey (s : State) (i : Nat) : Nat := leNat (s.spaceRead false (s.frontBase + 2 * i) 2)

/-- The lamps of a row that qualify in refresh `r` (R376): a bit shown for at least 240 ticks was 1. -/
def State.qualified (s : State) (row r : Nat) : List Nat :=
  (s.rowLamps row).filter fun i => decide (i / 65536 ∈ s.shownFans) &&
    (s.fanPlanes (i / 65536) r).any fun p => decide (240 ≤ p.2.2) && decide (bits (s.shownGrey i) p.1 1 = 1)

/-- The plane engine reports the uncorrectable words of the lamps of a row (R409). -/
def State.reportRow (s : State) (row : Nat) : State :=
  (s.mem.deckBad.filter fun w => decide (s.frontBase ≤ 8 * w) && decide (8 * w < s.frontBase + 0x200000) &&
    (List.range 4).any fun k => decide ((s.lampAt ((8 * w - s.frontBase) / 2 + k)).1 = row)).foldl (fun s w => s.deckUc w 0) s

/-! ### The diagnostic slot (R333, R380 to R382, R387) -/

/-- Diagnostic slots exist for FN_DIA: DIAG in force and more than one refresh a frame. -/
def State.hasSlots (s : State) : Bool := s.str.hard.diag && decide (1 < s.nRef)

/-- NO_SLOT and its event, once per episode (R381). -/
def State.noSlot (s : State) : State :=
  let s := s.setFlag DIA_STATUS.NO_SLOT true
  if s.dia.noSlotEp then s else State.raise { s with dia := { s.dia with noSlotEp := true } } 0x1005 []

/-- A row may be probed again: not within PROBE_INT seconds. -/
def State.probeFree (s : State) (row : Nat) : Bool :=
  match Sparse.find s.dia.lastProbe row with
  | some t => decide (t + s.fld DIA_TIME.PROBE_INT * (1000 * ms) ≤ s.clock)
  | none => true

/-- The lamps of a row that a probe lights. -/
def State.probeLamps (s : State) (row : Nat) : List Nat :=
  (s.rowLamps row).filter fun i => decide (i / 65536 ∈ s.shownFans) && (s.due i || (s.assist 15 && s.dia.askAll))

/-- Probe a row in this diagnostic slot. -/
def State.probe (s : State) (row : Nat) : State :=
  let lamps := s.probeLamps row
  let s := (s.bump DIA_PROBE.ROWS).setFld DIA_ROW_LAST.TIME (s.now / 2 ^ 20) row
  State.showDiag { s with dia := { s.dia with
    shown := some ⟨row, 1, lamps⟩, lastProbe := Sparse.set s.dia.lastProbe row s.clock } } row fun i => decide (i ∈ lamps)

/-- ROUND shows whether a round has rows left. -/
def State.showRound (s : State) : State := s.setFlag DIA_STATUS.ROUND (s.dia.round ≠ [])

/-- The next row of a HW round: rows without a due lamp are passed over. -/
def State.roundNext (s : State) : Option Nat := s.dia.round.find? fun r => s.probeLamps r ≠ [] && s.probeFree r

/-- Read back one fan in turn, once in 64 refreshes, in a slot that FN_DIA does not claim. -/
def State.slotReadBack (s : State) (bad : List Nat) : State :=
  let used := s.str.hard.fansIn 1 ++ s.str.hard.fansIn 2
  if s.str.refreshes < 64 ∨ used = [] then s
  else
    let next := (List.range 16).map (fun k => (s.str.readFan + 1 + k) % 16)
    let f := s.str.sinkRetry.headD ((next.find? (· ∈ used)).getD 0)
    let s : State := { s with str := { s.str with refreshes := 0, readFan := f } }
    let s := (if f ∈ s.str.sinkRetry then
        (match s.str.hard.fans[f]? with
          | some x => s.emit (.sinkConfig f x.word0 (if x.mode = 2 then some x.word1 else none))
          | none => s)
      else s : State)
    s.readBack f bad

/-- The next pattern of a pin test: Z, E and D of each row in turn (R382). -/
def State.pinPattern (s : State) (p : PinTest) : State :=
  State.showDiag { s with dia := { s.dia with
    pin := some { p with shown := p.shown + 1 }, shown := some ⟨p.shown / 3, 2 + p.shown % 3, []⟩ } } (p.shown / 3) fun i =>
    match p.shown % 3 with
    | 0 => false
    | 1 => decide (s.sinkOutput i % 2 = 0)
    | _ => decide (s.sinkOutput i % 2 = 1)

/-- The next row that the frame's decision asks for: those barred by PROBE_INT before it count as skipped (R387). -/
def State.askedProbe (s : State) (bad : List Nat) : State :=
  let barred := s.dia.asked.takeWhile fun r => ! s.probeFree r
  let s := s.bump DIA_PROBE.SKIPPED 0 barred.length
  match s.dia.asked.drop barred.length with
  | [] => State.slotReadBack { s with dia := { s.dia with asked := [] } } bad
  | row :: rest => State.probe { s with dia := { s.dia with asked := rest } } row

/-- The next row of the round of HW mode (R381). -/
def State.roundProbe (s : State) (bad : List Nat) : State :=
  match s.roundNext with
  | some row =>
    let s := s.probe row
    State.showRound { s with dia := { s.dia with round := s.dia.round.filter (row < ·) } }
  | none => (State.showRound { s with dia := { s.dia with
      round := s.dia.round.filter fun r => s.probeLamps r ≠ [] } }).slotReadBack bad

/-- What the diagnostic slot of refresh `r` serves: a pin-test pattern in a frame of kind LEAK, else a probe, or a read-back. -/
def State.diagSlot (s : State) (r : Nat) (bad : List Nat) : State :=
  if r + 1 = s.nRef ∨ ¬ s.lit then s.slotReadBack bad
  else if s.kind = 2 then
    match s.dia.pin with
    | some p => if p.begun ∧ p.shown < 3 * s.str.hard.rows then s.pinPattern p else s.slotReadBack bad
    | none => s.slotReadBack bad
  else if s.assist 15 then s.askedProbe bad
  else s.roundProbe bad

/-- ROW_SLOT_START: the next row slot of the refresh. `under`: a plane's data was not in place; `mis`: the return
samples that mismatched, as strand, plane and column; `flags`: the lamps whose loaded flag is set; `bad`: strands
whose configuration read back wrong. -/
def onRowSlotStart (under : Bool) (mis : List (Nat × Nat × Nat)) (flags bad : List Nat) (s : State) : State :=
  let h := s.str.hard
  let i := s.cad.slot
  let r := s.cad.refresh - 1
  if s.cad.running ∧ ¬ s.cad.aborted ∧ 0 < s.cad.refresh ∧ i < h.slots ∧
      s.frameAt + r * h.tref + i * h.tref / h.slots ≤ s.now then
    let s := s.loadFlags flags
    let s : State := { s with cad := { s.cad with slot := i + 1 } }
    if under then s.underrun r i
    else if h.rows ≤ i then s.diagSlot r bad
    else
      let s := (s.echoes i ((h.planes 1 (h.lowBit r) false).map (·.1)) mis).reportRow i
      if s.lit then
        let lamps := s.qualified i r
        State.emit { s with dia := { s.dia with shown := some ⟨i, 0, lamps⟩ } } (.rowSlot i (s.scanLevels i) (s.slotPlanes i r))
      else s
  else s

/-! ### Epochs, rounds, pin tests (R379, R381, R382) -/

/-- Wall time has passed a multiple of `n` ticks since the wall time `was`. -/
def State.passed (s : State) (was n : Nat) : Bool := decide (was / n < s.now / n)

/-- A step of wall time back: what lies ahead of it is passed again (R240). -/
def State.rewindDia (s : State) : State :=
  { s with dia := { s.dia with
    roundAt := min s.dia.roundAt s.now, epochAt := min s.dia.epochAt s.now, pinAt := min s.dia.pinAt s.now } }

/-- EPOCH_START: at a multiple of half VERIFY_AGE the SEEN bits shift, and OK lamps not measured lapse. -/
def onEpochStart (s : State) : State :=
  let n := s.fld DIA_TIME.VERIFY_AGE * 300000000
  if s.isPier ∧ s.passed s.dia.epochAt n then
    let s : State := { s with dia := { s.dia with epochAt := s.now } }
    s.dia.lamps.foldl (fun s p =>
      let i := p.1
      if s.diagnosed i then
        let cur := bits p.2 6 1
        let b := p.2 % 64 + 128 * cur
        s.putLamp i (if p.2 % 8 = lpOk ∧ cur = 0 then b - lpOk else b)
      else s) s
  else s

/-- PROBE_ROUND_START: at a multiple of PROBE_INT a round begins over the rows; those without a due lamp are passed over. -/
def onProbeRoundStart (s : State) : State :=
  let n := s.fld DIA_TIME.PROBE_INT * 600000000
  if s.isPier ∧ s.passed s.dia.roundAt n then
    let s : State := { s with dia := { s.dia with roundAt := s.now } }
    if s.assist 15 ∨ ¬ s.flag DIA_CFG.PROBE_EN then s
    else if ¬ s.hasSlots then s.noSlot
    else State.showRound { s with dia := { s.dia with round := List.range s.str.hard.rows } }
  else s

/-- A pin test is requested; a request while one runs joins it. -/
def State.requestPin (s : State) : State :=
  match s.dia.pin with
  | some _ => s
  | none => { s with dia := { s.dia with pin := some ⟨false, 0, 0, false, [], [], []⟩ } }

/-- PIN_TEST_REQUEST: at a multiple of PIN_INT in HW mode with PIN_EN. -/
def onPinTestRequest (s : State) : State :=
  let n := s.fld DIA_TIME.PIN_INT * 600000000
  if s.isPier ∧ s.passed s.dia.pinAt n then
    let s : State := { s with dia := { s.dia with pinAt := s.now } }
    if s.assist 15 ∨ ¬ s.flag DIA_CFG.PIN_EN then s
    else if ¬ s.hasSlots then s.noSlot
    else s.requestPin
  else s

/-- CMD_DIA_PIN_TEST: request or join a pin test. -/
def onCmdDiaPinTest (q : Fin 24) (tag : Nat) (s : State) : State :=
  match s.cmd q tag 0x1001 with
  | none => s
  | some c =>
    if ¬ s.hasSlots then s.noSlot.finish c 0x1001
    else
      let s := (s.run c).requestPin
      { s with dia := { s.dia with joined := s.dia.joined ++ [(c.q, c.id)] } }

/-- The diagnosed lamps whose STATE is `st`. -/
def State.countState (s : State) (st : Nat) : Nat := s.dia.lamps.countP fun p => decide (p.2 % 8 = st) && s.diagnosed p.1

/-- A pin test ends or is abandoned: EV_DIA_PIN_TEST, and the commands that joined it complete. -/
def State.endPin (s : State) (abandoned : Bool) : State :=
  let js := s.dia.joined
  let s := s.raise 0x1003 [(16, 4, s.countState lpLeak), (20, 4, s.countState lpBridge), (24, 1, b2n abandoned)]
  let s : State := { s with dia := { s.dia with pin := none, joined := [], shown := none } }
  let s := (s.setFlag DIA_STATUS.PIN_RUN false).setPair DIA_PIN_LAST.TIME s.now
  js.foldl (fun s p => match s.cmdAt p.1 p.2 0x1001 with
    | some c => s.finish c stOk
    | none => s) s

/-- PIN_TEST_END: the last frame of a pin test has ended. -/
def onPinTestEnd (s : State) : State :=
  match s.dia.pin with
  | some p => if p.begun ∧ p.frames = 0 then s.endPin false else s
  | none => s

/-- A pin test is given up: one in progress is abandoned; one that has not begun is dropped when no command waits for it. -/
def State.dropPin (s : State) : State :=
  match s.dia.pin with
  | some p => if p.begun then s.endPin true else if s.dia.joined = [] then { s with dia := { s.dia with pin := none } } else s
  | none => s

/-- The safe points of a pin test: an abort abandons it (R390); the other commands that joined it end with it. -/
def State.pinStop (s : State) (c : Cmd) : State :=
  if (c.q, c.id) ∈ s.dia.joined then
    (State.finish { s with dia := { s.dia with joined := s.dia.joined.filter (· ≠ (c.q, c.id)) } } c stAborted).dropPin
  else s

/-! ### Removal and CMD_DIA_READ (R384, R385, R390) -/

/-- REMOVED of a lamp takes a value. -/
def State.setRemoved (s : State) (i : Nat) (r : Bool) : State :=
  let b := s.lampByte i
  if bits b 3 1 = b2n r then s
  else { s with dia := { s.dia with
    lamps := Sparse.put 0 s.dia.lamps i (b % 8 + 8 * b2n r + b / 16 * 16), unsaved := some (s.dia.unsaved.getD s.clock) } }

/-- The lamps whose REMOVED is 1. -/
def State.removedLamps (s : State) : List Nat := (s.dia.lamps.filter fun p => bits p.2 3 1 = 1).map (·.1)

/-- FIRST and COUNT of a lamp range are in range. -/
def lampRangeOk (first count : Nat) : Bool := decide (0 < count) && decide (first + count ≤ 1048576)

/-- CMD_DIA_REMOVE with an operation: held for the next frame start. -/
def State.holdLampOp (s : State) (q : Fin 24) (tag op : Nat) : State :=
  match s.cmd q tag 0x1002 with
  | none => s
  | some c =>
    if c.opnd 40 1 ≠ op then s
    else if ¬ lampRangeOk (c.opnd 32 4) (c.opnd 36 4) then s.finish c 0x1002
    else { s.run c with dia := { s.dia with ops := s.dia.ops ++ [(c.q, c.id)] } }

/-- DIA_OP_REMOVE. -/
def onDiaOpRemove (q : Fin 24) (tag : Nat) (s : State) : State := s.holdLampOp q tag 0

/-- DIA_OP_RESTORE. -/
def onDiaOpRestore (q : Fin 24) (tag : Nat) (s : State) : State := s.holdLampOp q tag 1

/-- DIA_OP_FORGET. -/
def onDiaOpForget (q : Fin 24) (tag : Nat) (s : State) : State := s.holdLampOp q tag 2

/-- One operation applied to one lamp. -/
def State.lampOp (s : State) (op i : Nat) : State :=
  match op with
  | 0 => s.setRemoved i true
  | 1 => s.setRemoved i false
  | _ => (s.setRemoved i false).putLamp i 0

/-- The operations held are applied, in the order of their commands, which complete. -/
def State.applyLampOps (s : State) : State :=
  let ops := s.dia.ops
  let s : State := { s with dia := { s.dia with ops := [] } }
  ops.foldl (fun s p => match s.cmdAt p.1 p.2 0x1002 with
    | some c => ((List.range (c.opnd 36 4)).foldl (fun s k => s.lampOp (c.opnd 40 1) (c.opnd 32 4 + k)) s).finish c stOk
    | none => s) s

/-- The safe points of CMD_DIA_REMOVE: until it is applied an abort applies nothing. -/
def State.lampOpStop (s : State) (c : Cmd) : State :=
  State.finish { s with dia := { s.dia with ops := s.dia.ops.filter (· ≠ (c.q, c.id)) } } c stAborted

/-- CMD_DIA_READ: bytes of the lamp table into the payload. -/
def onCmdDiaRead (q : Fin 24) (tag : Nat) (s : State) : State :=
  match s.cmd q tag 0x1003 with
  | none => s
  | some c =>
    let first := c.opnd 32 4
    let n := c.opnd 36 4
    if ¬ lampRangeOk first n ∨ c.payLen < n then s.finish c 0x1002
    else (s.portWrite (queuePort q) c.payAddr ((List.range n).map fun k => BitVec.ofNat 8 (s.lampShown (first + k)))).finish c stOk

/-! ### Frame starts, closes, loads (R384, R387, R388, R390) -/

/-- The close takes the decision for a frame: rows to probe (R387). -/
def State.closeDia (s : State) (frame : Nat) : State :=
  if s.assistNext 15 then
    match s.useDecision 15 (periodOf frame) with
    | (some bs, s) => { s with dia := { s.dia with
        askNext := ((List.range 64).filter fun r => bits (leAt bs 0 8) r 1 = 1, decide (leAt bs 8 1 % 2 = 1)) } }
    | (none, s) => { s with dia := { s.dia with askNext := ([], false) } }
  else { s with dia := { s.dia with askNext := ([], false) } }

/-- Rows asked for that the frame that ends has not reached count as skipped; the frame that starts takes those of its decision,
which want slots (R381, R387). -/
def State.takeAsked (s : State) : State :=
  let s := s.bump DIA_PROBE.SKIPPED 0 s.dia.asked.length
  let s : State := { s with dia := { s.dia with asked := s.dia.askNext.1, askAll := s.dia.askNext.2, askNext := ([], false) } }
  if s.dia.asked ≠ [] ∧ ! s.hasSlots then s.noSlot else s

/-- The changes of the frame before are reported; those of a tollhouse restart after its end (R388, R390). -/
def State.reportChanges (s : State) : State :=
  match s.dia.lowest.filter fun _ => ! s.restarting with
  | none => s
  | some k =>
    let d := s.dia
    State.raise { s with dia := { s.dia with entered := 0, left := 0, lapsed := 0, lowest := none } } 0x1001
      [(16, 4, d.entered), (20, 4, d.left), (24, 4, d.lapsed), (28, 4, k)]

/-- Automatic removals of a frame start (R384). -/
def State.autoRemove (s : State) : State :=
  let rm := s.dia.removing.eraseDups.filter fun i => bits (s.lampByte i) 3 1 = 0
  let s : State := { s with dia := { s.dia with removing := [] } }
  if rm = [] then s else (rm.foldl (fun s i => s.setRemoved i true) s).raise 0x1004 [(16, 4, rm.length)]

/-- The pin test at a frame start: it begins, goes on or has had its last frame; without slots it is not run; KIND of the frame
(R375, R382). -/
def State.pinFrame (s : State) (frame : Nat) : State :=
  let plain (s : State) : State := s.setFld DIA_STATUS.KIND (frame % 2)
  match s.dia.pin with
  | none => plain s
  | some p =>
    if p.begun then
      let s : State := { s with dia := { s.dia with pin := some { p with frames := p.frames - 1 } } }
      if p.frames ≤ 1 then plain s else s.setFld DIA_STATUS.KIND 2
    else if s.hasSlots then
      let n := (3 * s.str.hard.rows + (s.nRef - 1) - 1) / (s.nRef - 1)
      (State.setFld { s with dia := { s.dia with pin := some { p with begun := true, frames := n } } } DIA_STATUS.KIND 2).setFlag
        DIA_STATUS.PIN_RUN true
    else
      let s := plain s.noSlot
      let js := s.dia.joined
      js.foldl (fun (s : State) p => match s.cmdAt p.1 p.2 0x1001 with
        | some c => s.finish c 0x1001
        | none => s) { s with dia := { s.dia with pin := none, joined := [] } }

/-- Every diagnosed lamp becomes UNVERIFIED and the strands' faults are cleared (R388); REMOVED is kept. -/
def State.resetLamps (s : State) : State :=
  let s := s.dia.lamps.foldl (fun s p => s.putLamp p.1 (p.2 / 8 % 2 * 8)) s
  let s := (List.range 512).foldl (fun s st => if s.fld DIA_STRAND.FAULT st = 0 then s else s.setStrand st 0 0) s
  let s : State := { s with str := { s.str with echoRun := [], echoNone := [], echoCand := [] } }
  if s.dia.pin.any (·.begun) then s.endPin true else s

/-- The work of FN_DIA at a frame start, before the correction values are fixed. `trans`: a transition frame. -/
def State.diaFrame (s : State) (frame : Nat) (trans : Bool) : State :=
  let s := s.takeAsked.reportChanges.applyLampOps.autoRemove
  let s := if trans then s.resetLamps else s
  let s := if s.hasSlots then State.setFlag { s with dia := { s.dia with noSlotEp := false } } DIA_STATUS.NO_SLOT false else s
  State.pinFrame { s with dia := { s.dia with shown := none } } frame

/-- A per-function reset of FN_DIA keeps the table and the strands and abandons a pin test (R388). -/
def State.diaReset (s : State) : State :=
  State.dropPin { s with dia := { s.dia with round := [], asked := [], askNext := ([], false), ops := [], joined := [] } }

/-- The table rebuilt: everything zero but REMOVED, which `removed` gives (R386, R388). -/
def State.rebuildLamps (s : State) (removed : List Nat) : State :=
  { s with dia := { s.dia with lamps := removed.foldl (fun m i => Sparse.set m i 8) [], round := [], removing := [], shown := none } }

/-- The DIA registers that Jeori computes when they are read (Table 14-3). -/
def State.diaReg (s : State) (a : Nat) : Option Nat :=
  if DIA_CNT.COUNT.base ≤ a ∧ a < DIA_CNT.COUNT.base + 28 then
    let st := (a - DIA_CNT.COUNT.base) / 4
    let n : Nat := (List.range s.lamps).countP s.diagnosed
    some (if st = lpNone then 1048576 - n
      else if st = lpUnverified then n - s.dia.lamps.countP (fun p => decide (p.2 % 8 ≠ 0) && s.diagnosed p.1)
      else s.countState st)
  else if a = DIA_REMOVED.COUNT.base then some s.removedLamps.length
  else none

end Sys2Proof.Machine
end

