-- ==== Sys2Proof/Machine/Span.lean ====
section
/-! DEFINITION. FN_LNK and FN_SPAN (spec/07_span_links.md): bring-up and the rate ladder, equalisation and
eye scans, planks in both directions, replay, credits, failure and retrain, hardware bypass. -/

namespace Sys2Proof.Machine

/-! ### Lanes and ports -/

/-- Port states of Table 7-6. -/
def spDisabled : Nat := 0
/-- DETECT. -/
def spDetect : Nat := 1
/-- LOCK. -/
def spLock : Nat := 2
/-- CAP. -/
def spCap : Nat := 3
/-- STEP. -/
def spStep : Nat := 4
/-- BYPASS. -/
def spBypass : Nat := 6
/-- WAIT. -/
def spWait : Nat := 7

/-- The number of lanes a port uses: of its agreed width once CAP has ended, else of its binding. -/
def State.laneCount (s : State) (k : Nat) : Nat :=
  if s.fld SPN_STATUS.WIDTH k = 0 then lanesOf (s.binding k).width else lanesOf (s.fld SPN_STATUS.WIDTH k)

/-- The lanes that a port uses (R172, R183). -/
def State.lanes (s : State) (k : Nat) : List Nat := (List.range (s.laneCount k)).map ((s.binding k).first + ·)

/-- The lanes bound to a port. -/
def State.boundLanes (s : State) (k : Nat) : List Nat :=
  (List.range (lanesOf (s.binding k).width)).map ((s.binding k).first + ·)

/-- The port that a lane is bound to (R79). -/
def State.portOfLane (s : State) (lane : Nat) : Option Nat :=
  (List.range 16).find? fun k => decide (lane ∈ s.boundLanes k)

/-- The port that uses a lane; the lanes above the agreed width stay idle (R183). -/
def State.activePort (s : State) (lane : Nat) : Option Nat := (List.range 16).find? fun k => decide (lane ∈ s.lanes k)

/-- Do something for each of a list of lanes or ports. -/
def State.each (s : State) (l : List Nat) (f : Nat → State → State) : State := l.foldl (fun s i => f i s) s

/-- A port enters a state of Table 7-6: the time is kept, RETRAIN reads 0 once STATE has left DETECT, and
LINKS reports the change (R220). -/
def State.setSpan (s : State) (k st : Nat) : State :=
  let s := s.setFld SPN_STATUS.STATE st k
  let s := s.setPort k { s.port k with since := s.clock }
  (if st = spDetect then s else s.setFlag SPN_CFG.RETRAIN false k).linksChanged

/-- LNE_TXEQ of a lane, its five taps. -/
def State.ownTaps (s : State) (i : Nat) : Nat := (s.word (LNE_TXEQ.PRE2.addr i) LNE_TXEQ.PRE2.rst).toNat % 2 ^ 23

/-- A lane has neither clock nor block lock. -/
def State.unlockLane (i : Nat) (s : State) : State :=
  (s.setFlag LNE_STATUS.CDR_LOCK false i).setFlag LNE_STATUS.BLOCK_LOCK false i

/-- A port in DETECT: no lane is locked, the rate is 1.25 Gbit/s, the taps are those of LNE_TXEQ, no step is in progress. -/
def State.toDetect (s : State) (k : Nat) : State :=
  let s := s.each (s.boundLanes k) fun i s =>
    ((State.unlockLane i s).setFld LNE_STATUS.RATE 0 i).setFld LNE_TXEQ_ACT.TAPS (s.ownTaps i) i
  let s := ((s.setFld SPN_STATUS.RATE 0 k).setFld SPN_STATUS.WIDTH 0 k).setFlag SPN_STATUS.TOP_FAIL false k
  (s.setPort k { s.port k with
    capSent := false, capSeenOut := false, capGot := false, capSeenIn := false,
    step := none, proposed := false, farStep := none, control := [] }).setSpan k spDetect

/-- What a sender keeps over a retrain: the unacknowledged planks of VC0 and VC2, oldest first, then what
was queued (R205). Where the port goes down otherwise they wait as any plank for a port that is not UP (R200). -/
def TxVc.kept (t : TxVc) (now : Nat) (retrain : Bool) : TxVc :=
  { TxVc.reset with queue := t.unacked.map (fun p => ⟨p, none, now, retrain⟩) ++ t.queue.map fun i => { i with slot := none } }

/-- Discard the credit state of a port (R203, R205): credits, counters, slots; VC1 planks queued for the
port are dropped under R199. -/
def State.dropLink (s : State) (k : Nat) (retrain : Bool) : State :=
  let x := s.port k
  let s := s.bump SPN_VC1_DROP.COUNT k x.tx1.queue.length
  let s := x.tx1.queue.foldl (fun s i => s.releaseSlot i.slot) s
  let s := (x.tx0.queue ++ x.tx2.queue).foldl (fun s i => s.releaseSlot i.slot) s
  let x := s.port k
  let s := s.setPort k { x with
    tx0 := x.tx0.kept s.clock retrain, tx1 := TxVc.reset, tx2 := x.tx2.kept s.clock retrain,
    rx0 := RxVc.reset, rx1 := RxVc.reset, rx2 := RxVc.reset, timeAt := [],
    slots := [], recent := [], linkDue := false, timeDue := false, stalling := false, uncorrAt := [] }
  ((s.setFld SPN_CREDIT_A.CR0 0 k).setFld SPN_CREDIT_A.CR1 0 k).setFld SPN_CREDIT_B.CR2 0 k

/-- A port in UP goes down with a cause (R204): EV_SPAN_DOWN, the credit state discarded. -/
def State.leaveUp (s : State) (k cause : Nat) : State :=
  if s.portUp k then (s.dropLink k (decide (cause < 6))).raise 0x0902 [(16, 1, k), (17, 1, cause)] else s

/-- A port in UP goes to DETECT (R204). -/
def State.spanDown (s : State) (k cause : Nat) : State :=
  if s.portUp k then (s.leaveUp k cause).toDetect k else s

/-- The running CMD_SPAN_RETRAINs of a port. -/
def State.retrains (s : State) (k : Nat) : List Cmd :=
  s.host.cmds.filter fun c => decide (c.opcode = 0x0901 ∧ c.phase = .running ∧ c.opnd 32 1 = k)

/-- Complete the running CMD_SPAN_RETRAINs of a port that satisfy a test. -/
def State.endRetrains (s : State) (k status : Nat) (t : Cmd → Bool) : State :=
  ((s.retrains k).filter t).foldl (fun s c => s.finish c status) s

/-- A port reaches UP (R185, R194): credits equal the far end's slots, counters start at 0, EV_SPAN_UP is
raised, every running CMD_SPAN_RETRAIN completes, and the viaduct learns of the port. -/
def State.spanComesUp (s : State) (k : Nat) (topFail : Bool) : State :=
  let x := s.port k
  let s := s.setPort k { x with
    step := none, everUp := true, slots := [], recent := [],
    rx0 := RxVc.reset, rx1 := RxVc.reset, rx2 := RxVc.reset, linkDue := true, sinceTime := 32 }
  let s := ((s.setFld SPN_CREDIT_A.CR0 56 k).setFld SPN_CREDIT_A.CR1 455 k).setFld SPN_CREDIT_B.CR2 113 k
  let s := (s.setFlag SPN_STATUS.TOP_FAIL topFail k).setSpan k spanUp
  let s := s.raise 0x0901 [(16, 1, k), (17, 1, s.fld SPN_STATUS.RATE k), (18, 1, s.fld SPN_STATUS.WIDTH k),
    (20, 2, s.fld SPN_STATUS.PEER k)]
  (s.endRetrains k stOk fun _ => true).viaPortUp k

/-- The rate in force of a port and of its lanes. -/
def State.setRate (s : State) (k r : Nat) : State :=
  (s.setFld SPN_STATUS.RATE r k).each (s.lanes k) fun i s => s.setFld LNE_STATUS.RATE r i

/-- Whether every lane of a port has clock and block lock. -/
def State.allBlockLock (s : State) (k : Nat) : Bool :=
  (s.lanes k).all fun i => s.flag LNE_STATUS.CDR_LOCK i && s.flag LNE_STATUS.BLOCK_LOCK i

/-! ### Safe points of a retrain (R207) -/

/-- A safe point of CMD_SPAN_RETRAIN: with an abort accepted the port does `stop` and the retrain completes ST_ABORTED, which
completes the abort; otherwise the port does `go`. -/
def State.retrainPoint (s : State) (k : Nat) (stop go : State → State) : State :=
  if (s.retrains k).any fun c => decide (c.aborts ≠ []) then stop (s.endRetrains k stAborted fun c => decide (c.aborts ≠ []))
  else go s

/-- The port comes UP at a rate, its lanes locked there, below the agreed top or at it. -/
def State.upAt (k r : Nat) (s : State) : State :=
  let s := (s.setRate k r).each (s.lanes k) fun i s =>
    (s.setFlag LNE_STATUS.CDR_LOCK true i).setFlag LNE_STATUS.BLOCK_LOCK true i
  s.spanComesUp k (decide (r < s.fld SPN_LADDER.TOP k))

/-- A port enters WAIT; bring-up goes on by itself after an abort too. -/
def State.toWait (s : State) (k : Nat) : State :=
  ((s.setPort k { s.port k with step := none }).setSpan k spWait).retrainPoint k id id

/-! ### Bring-up (R182, R183) -/

/-- Start bring-up of a port: DETECT, with the steps counted afresh. -/
def State.bringUp (s : State) (k : Nat) : State :=
  ((s.setFld SPN_LADDER.STEP_SEQ 0 k).setFld SPN_LADDER.LAST_FAIL 7 k).toDetect k

/-- Restart link bring-up of a port that is enabled, bound and not in bypass (R88, Table 2-12). -/
def State.restartSpan (s : State) (k cause : Nat) : State :=
  if s.flag SPN_CFG.EN k ∧ (s.binding k).width ≠ 0 ∧ s.fld SPN_STATUS.STATE k ≠ spBypass then
    (s.leaveUp k cause).toDetect k
  else s

/-- A port retunes its lanes to a step's rate: they lose clock and block lock, which they acquire again (R184, R185). -/
def State.retune (s : State) (k r : Nat) (fallback : Bool) : State :=
  let s := (s.setRate k r).each (s.lanes k) State.unlockLane
  s.setPort k { s.port k with
    step := some ⟨r, s.clock, none, none, none, none, fallback⟩, proposed := false, farStep := none, control := [] }

/-- CDR_LOCK: every lane of a port in DETECT has clock at 1.25 Gbit/s, and the port goes to LOCK; in a step its lanes have
clock at the new rate. -/
def onCdrLock (k : Fin 16) (s : State) : State :=
  let st := s.fld SPN_STATUS.STATE k
  let lock (s : State) : State := s.each (s.lanes k) fun i s => s.setFlag LNE_STATUS.CDR_LOCK true i
  if st = spDetect ∧ (s.binding k).width ≠ 0 then (lock s).setSpan k spLock
  else if st = spStep ∧ (s.port k).step.isSome then lock s
  else s

/-- A lane's receiver adapts: its CTLE setting and DFE taps are the hardware's own; 12 taps on NRZ, one on PAM4 (R189). -/
def State.adaptLane (i : Nat) (s : State) : State :=
  let s := (s.setFld LNE_RXEQ.CTLE (s.free % 32) i).draw
  (List.range 12).foldl (fun s t =>
    if t ≠ 0 ∧ s.fld LNE_STATUS.RATE i = 6 then s.setFld LNE_DFE.TAP 0 (256 * i + t)
    else (s.setFld LNE_DFE.TAP (s.free % 256) (256 * i + t)).draw) s

/-- The tap constraints of R188. -/
def tapsOk (t : Taps) : Bool :=
  decide (t.pre2 + t.pre1 + t.main + t.post1 + t.post2 = 64) && decide (24 ≤ t.main) &&
  decide (t.pre2 ≤ 6) && decide (t.pre1 ≤ 16) && decide (t.main ≤ 64) && decide (t.post1 ≤ 20) && decide (t.post2 ≤ 6)

/-- Taps laid out as in LNE_TXEQ. -/
def tapsWord (t : Taps) : Nat := t.pre2 + t.pre1 * 8 + t.main * 256 + t.post1 * 32768 + t.post2 * 1048576

/-- Taps that keep the constraints, by a number. -/
def tapsFrom (n : Nat) : Taps :=
  let pre2 := n % 7
  let pre1 := n / 7 % 17
  let post2 := n / 119 % 7
  let post1 := n / 833 % (41 - pre2 - pre1 - post2) % 21
  ⟨pre2, pre1, 64 - pre2 - pre1 - post1 - post2, post1, post2⟩

/-- A STEP plank of a port, ready to leave (R195). -/
def State.sendStep (s : State) (k op rate arg : Nat) (taps : List Nat) : State :=
  s.setPort k { s.port k with control := (s.port k).control ++ [.stepPlank k op rate arg taps (stepCrc op rate arg taps)] }

/-- Step 2 of R184 on a lane of a port: the receiver adapts and asks the far transmitter for taps, whose choice is its own. -/
def State.tuneLane (k rate : Nat) (lane : Nat) (s : State) : State :=
  let s := State.adaptLane lane s
  let t := tapsFrom s.free
  s.draw.sendStep k 3 rate (lane - (s.binding k).first) [t.pre2, t.pre1, t.main, t.post1, t.post2]

/-- BLOCK_LOCK: the lanes of a port as their receivers see them. A lane with 64 valid sync headers in a row has block lock; once
every lane has it and the lanes are aligned, a port in LOCK goes to CAP, and one in a step adapts and tunes. At
1.25 Gbit/s no eye is checked: block lock brings the port UP (R182, R184, R185). -/
def onBlockLock (k : Fin 16) (lanes : List LaneIn) (s : State) : State :=
  let st := s.fld SPN_STATUS.STATE k
  if lanes.length ≠ s.laneCount k ∨ ¬ (s.lanes k).all (fun i => s.flag LNE_STATUS.CDR_LOCK i) then s
  else if st ≠ spLock ∧ st ≠ spCap ∧ st ≠ spStep then s
  else
    let had := s.allBlockLock k
    let s := s.each (s.lanes k) fun i s =>
      if (lanes[i - (s.binding k).first]?).any fun l => locks l.heads then s.setFlag LNE_STATUS.BLOCK_LOCK true i else s
    if ¬ s.allBlockLock k ∨ ¬ aligned lanes then s
    else if st = spLock then
      (s.setPort k { s.port k with
        capSent := false, capSeenOut := false, capGot := false, capSeenIn := false, lastCap := none }).setSpan k spCap
    else match (s.port k).step with
    | some x =>
      if st ≠ spStep ∨ had then s
      else if x.rate = 0 then State.upAt k 0 s
      else s.each (s.lanes k) fun i s => State.tuneLane k x.rate i s
    | none => s

/-- BLOCK_LOCK_LOSS: 16 of 64 sync headers of a lane were invalid, and block lock stays lost for longer than 1 µs; a port in UP
goes to DETECT, one that climbs the ladder at 1.25 Gbit/s goes to WAIT (R182, R185, R204). -/
def onBlockLockLoss (lane : Fin 128) (heads : List (BitVec 2)) (s : State) : State :=
  if ¬ s.flag LNE_STATUS.BLOCK_LOCK lane ∨ ¬ unlocks heads then s
  else
    let s := s.setFlag LNE_STATUS.BLOCK_LOCK false lane
    match s.activePort lane with
    | none => s
    | some k =>
      if s.portUp k then s.spanDown k 0
      else if s.fld SPN_STATUS.STATE k = spStep ∧ s.fld SPN_STATUS.RATE k = 0 then s.toWait k
      else s

/-- BRINGUP_TIMEOUT: DETECT, LOCK or CAP has lasted longer than 2 ms; the port goes to WAIT. -/
def onBringupTimeout (k : Fin 16) (s : State) : State :=
  let st := s.fld SPN_STATUS.STATE k
  if (st = spDetect ∨ st = spLock ∨ st = spCap) ∧ (s.port k).since + 2 * ms < s.clock then s.toWait k
  else s

/-- WAIT_END: the 10 ms of WAIT have passed; the port goes to DETECT. -/
def onWaitEnd (k : Fin 16) (s : State) : State :=
  if s.fld SPN_STATUS.STATE k = spWait ∧ (s.port k).since + 10 * ms ≤ s.clock then s.toDetect k else s

/-- The CAP plank of this end (R183). -/
def State.ownCap (s : State) (k : Nat) : CapInfo :=
  { device := 0x7240, role := s.roleByte, rateMax := (s.binding k).rateMax, width := (s.binding k).width,
    footing := (s.binding k).footing, bypassEn := (s.binding k).bypassEn, seen := (s.port k).capGot,
    port := k, node := s.self }

/-- Both ends have sent PROPOSE for the next rate: the step begins (R184). -/
def State.beginStep (s : State) (k : Nat) : State :=
  let x := s.port k
  let r := s.fld SPN_STATUS.RATE k + 1
  if s.fld SPN_STATUS.STATE k = spStep ∧ x.step = none ∧ x.proposed ∧ x.farStep = some r ∧ r ≤ s.fld SPN_LADDER.TOP k then
    (s.setFld SPN_LADDER.STEP_SEQ (s.fld SPN_LADDER.STEP_SEQ k + 1) k).retune k r false
  else s

/-- A port below its agreed top has a PROPOSE for the next rate ready to leave (R184). -/
def State.propose (k : Nat) (s : State) : State := s.sendStep k 1 (s.fld SPN_STATUS.RATE k + 1) 0 [0, 0, 0, 0, 0]

/-- The CAP exchange has ended once this end has both sent and received a CAP with SEEN = 1: the top and
the width are agreed, EV_SPAN_WIDTH is raised when the widths differ, the lanes above the agreed width fall idle, the port goes
to STEP, and at once to UP when the agreed top is 1.25 Gbit/s (R183, Table 7-6). -/
def State.capEnd (s : State) (k : Nat) : State :=
  let x := s.port k
  if x.capSeenOut ∧ x.capSeenIn then
    let own := (s.binding k).width
    let w := min own x.farWidth
    let top := min (s.binding k).rateMax x.farRate
    let s := ((s.setFld SPN_STATUS.WIDTH w k).setFld SPN_LADDER.TOP top k).setFld SPN_STATUS.RATE 0 k
    let s := s.each ((s.boundLanes k).drop (lanesOf w)) State.unlockLane
    let s := if own = x.farWidth then s else s.raise 0x0905 [(16, 1, k), (17, 1, own), (18, 1, w)]
    let s := s.setSpan k spStep
    s.retrainPoint k (State.upAt k 0) fun s => if top = 0 then State.upAt k 0 s else State.propose k s
  else s

/-- CAP_PLANK_SEND: a port in CAP sends a CAP plank every 10 µs; its SEEN is 1 once a valid CAP has come. -/
def onCapPlankSend (k : Fin 16) (s : State) : State :=
  let x := s.port k
  if s.fld SPN_STATUS.STATE k = spCap ∧ x.lastCap.all (fun t => t + 10 * us ≤ s.clock) then
    let c := s.ownCap k
    let s := s.emit (.capPlank k c (capCrc c))
    (s.setPort k { x with capSent := true, capSeenOut := x.capSeenOut || x.capGot, lastCap := some s.clock }).capEnd k
  else s

/-! ### Planks off the line (R174 to R180) -/

/-- Whether sequence `a` lies before `b` modulo 65,536. -/
def seqBefore (a b : Nat) : Bool :=
  let d := (b + 65536 - a % 65536) % 65536
  decide (0 < d) && decide (d < 32768)

/-- A DATA plank of VC0 or VC2 that is not accepted: the first discard since an acceptance sets NAK, a duplicate none (R196). -/
def State.refusePlank (s : State) (k vc lseq : Nat) : State :=
  let x := s.port k
  let r := x.rx vc
  if r.refused ∨ seqBefore lseq r.expect then s
  else s.setPort k ({ x with linkDue := true }.setRx vc { r with nak := true, refused := true })

/-- A plank that its port discards: one that reads as DATA on VC0 or VC2 counts as a discarded plank of that VC. -/
def State.discardPlank (s : State) (k : Nat) (long : Bool) (bs : List Byte) : State :=
  let x := plankOf bs
  if s.portUp k ∧ long ∧ x.typ = 1 ∧ (x.vc = 0 ∨ x.vc = 2) then s.refusePlank k x.vc x.lseq else s

/-- A plank comes off the line of an aligned port: blocks that carry none are passed over; a failed CRC-32C counts in
SPN_CRC_ERR (R180), what R179 discards in SPN_DROP; a plank of the TYPE awaited acts. -/
def State.receive (s : State) (k typ : Nat) (blocks : List Block) (f : List Byte → State → State) : State :=
  let st := s.fld SPN_STATUS.STATE k
  if st ≠ spCap ∧ st ≠ spStep ∧ st ≠ spanUp then s
  else match plankIn blocks with
  | none => s
  | some (long, bs) =>
    if ! crcGood long bs then (s.bump SPN_CRC_ERR.COUNT k).discardPlank k long bs
    else if plankFault long bs then (s.bump SPN_DROP.COUNT k).discardPlank k long bs
    else if (plankOf bs).typ = typ then f bs s
    else s

/-- CAP_PLANK: in CAP it advances the exchange and gives PEER; in UP it takes the port down (R183, R204). -/
def onCapPlank (k : Fin 16) (blocks : List Block) (s : State) : State :=
  s.receive k 4 blocks fun bs s =>
    let c := capOf (plankOf bs).payload
    if s.portUp k then s.spanDown k 3
    else if s.fld SPN_STATUS.STATE k = spCap then
      let x := s.port k
      let s := (s.setPort k { x with
        capGot := true, capSeenIn := x.capSeenIn || c.seen,
        farRate := c.rateMax, farWidth := c.width }).setFld SPN_STATUS.PEER c.node k
      s.capEnd k
    else s

/-! ### The rate ladder (R184 to R191) -/

/-- The opposite of a passing step: both ends fall back to the rate before it, acquire lock and repeat the eye check
there; at 1.25 Gbit/s block lock alone decides between UP and WAIT (R185). The end of a step is a safe point. -/
def State.stepFail (s : State) (k : Nat) (st : Step) : State :=
  let s := if st.fallback then s else s.setFld SPN_LADDER.LAST_FAIL st.rate k
  let fall (s : State) : State := s.retune k (st.rate - 1) true
  if st.fallback then fall s else s.retrainPoint k (State.upAt k (st.rate - 1)) fall

/-- Both votes of a step are known and this end's has left: it passes when both are pass (R184, R185). -/
def State.stepDecide (s : State) (k : Nat) : State :=
  if (s.port k).control ≠ [] then s
  else match (s.port k).step with
  | none => s
  | some st =>
    match st.vote, st.far with
    | some v, some f =>
      if v && f then
        if st.fallback then s.spanComesUp k true
        else s.retrainPoint k (State.upAt k st.rate) fun s =>
          if s.fld SPN_LADDER.TOP k ≤ st.rate then s.spanComesUp k false
          else State.propose k (s.setPort k { s.port k with step := none })
      else s.stepFail k st
    | _, _ => s

/-- STEP_PROPOSE: the far end proposes a rate; once both ends have proposed the next one they retune (R184). A PROPOSE that
comes before this end has ended CAP or its step is kept. -/
def onStepPropose (k : Fin 16) (blocks : List Block) (s : State) : State :=
  s.receive k 5 blocks fun bs s =>
    if beAt bs 1 1 ≠ 1 ∨ s.portUp k then s
    else (s.setPort k { s.port k with farStep := some (beAt bs 2 1) }).beginStep k

/-- A control plank leaves: a PROPOSE of this end takes its part in the exchange, after a RESULT the step may end. -/
def State.sendControl (s : State) (k : Nat) (o : Output) (os : List Output) : State :=
  let x := s.port k
  let s := (s.emit o).setPort k { x with control := os, sinceTime := x.sinceTime + 1 }
  match o with
  | .stepPlank _ op _ _ _ _ => if op = 1 then (s.setPort k { s.port k with proposed := true }).beginStep k else s.stepDecide k
  | _ => s

/-- STEP_TXREQ: in step 2 of R184 the transmitter applies a valid request, unless TX_MANUAL is 1 (R188). -/
def onStepTxreq (k : Fin 16) (blocks : List Block) (s : State) : State :=
  s.receive k 5 blocks fun bs s =>
    let lane := beAt bs 3 1
    let i := (s.binding k).first + lane
    if beAt bs 1 1 = 3 ∧ s.fld SPN_STATUS.STATE k = spStep ∧ (s.port k).step.isSome ∧ lane < s.laneCount k ∧
        tapsOk (tapsAt bs) ∧ ¬ s.flag LNE_CFG.TX_MANUAL i then
      s.setFld LNE_TXEQ_ACT.TAPS (tapsWord (tapsAt bs)) i
    else s

/-- PERIOD of the step now held on a port (R191). -/
def State.stepPeriod (s : State) (k : Nat) : Nat := k * 65536 + s.fld SPN_LADDER.STEP_SEQ k

/-- The points of an eye check on a lane: eye, phase, offset (R187). PAM4 has three eyes. -/
def State.eyePoints (s : State) (k rate : Nat) : List (Nat × Int × Int) :=
  let h : Int := s.fld SPN_EYE_MIN.H_MIN k
  let v : Int := if rate = 6 then s.fld SPN_EYE_MIN.V_MIN_PAM4 k else s.fld SPN_EYE_MIN.V_MIN_NRZ k
  (List.range (if rate = 6 then 3 else 1)).flatMap fun e => [(e, h, 0), (e, -h, 0), (e, 0, v), (e, 0, -v)]

/-- A lane passes when each of its points was measured and none showed a mismatch. -/
def eyePasses (ps : List (Nat × Int × Int)) (l : List EyePoint) (lane : Nat) : Bool :=
  ps.all fun p =>
    let at' := l.filter fun m => decide (m.lane = lane ∧ m.eye = p.1 ∧ m.phase = p.2.1 ∧ m.volt = p.2.2)
    !at'.isEmpty && at'.all fun m => decide (m.errs = 0)

/-- EYE_CHECK_DONE: the check of every lane has ended, with these measurements. In HW mode the
end votes at once; in ASSIST it raises EV_LNK_STEP and holds its vote for 2 ms (R187, R191). -/
def onEyeCheckDone (k : Fin 16) (points : List EyePoint) (s : State) : State :=
  match (s.port k).step with
  | none => s
  | some st =>
    if st.eye ≠ none ∨ st.rate = 0 ∨ ¬ s.allBlockLock k then s
    else
      let n := s.laneCount k
      let mask := maskWhere n (eyePasses (s.eyePoints k st.rate) points)
      let pass := decide (mask = 2 ^ n - 1)
      if s.assist 7 then
        let s := s.setPort k { s.port k with step := some { st with eye := some pass, deadline := some (s.clock + 2 * ms) } }
        s.raise 0x0801 [(16, 1, k), (17, 1, st.rate), (18, 1, mask), (20, 4, s.stepPeriod k)]
      else
        (s.setPort k { s.port k with step := some { st with eye := some pass, vote := some pass } }).sendStep k 2 st.rate
          (b2n pass) [0, 0, 0, 0, 0]

/-- A held vote is given: pass only if the eye check passed and the host accepted (R191). -/
def State.stepVote (s : State) (k : Nat) (accept : Bool) : State :=
  match (s.port k).step with
  | none => s
  | some st =>
    let v := (st.eye.getD false) && accept
    (s.setPort k { s.port k with step := some { st with vote := some v, deadline := none } }).sendStep k 2 st.rate (b2n v)
      [0, 0, 0, 0, 0]

/-- STEP_RESULT: the far end's vote for the rate of the step has come. -/
def onStepResult (k : Fin 16) (blocks : List Block) (s : State) : State :=
  s.receive k 5 blocks fun bs s =>
    match (s.port k).step with
    | none => s
    | some st =>
      if beAt bs 1 1 = 2 ∧ st.rate = beAt bs 2 1 then
        (s.setPort k { s.port k with step := some { st with far := some (decide (beAt bs 3 1 = 1)) } }).stepDecide k
      else s

/-- STEP_TIMEOUT: a step has not passed within 6 ms of the PROPOSE exchange; it fails. A fallback has as long; one to
1.25 Gbit/s that has no block lock by then goes to WAIT. -/
def onStepTimeout (k : Fin 16) (s : State) : State :=
  match (s.port k).step with
  | none => s
  | some st =>
    if s.clock < st.since + 6 * ms then s
    else if st.rate = 0 then s.toWait k
    else s.stepFail k st

/-! ### Enable, retrain, injection -/

/-- A write of SPN_CFG.EN takes effect at once (R182, R210): 1 starts bring-up on a bound port, 0 disables
the port, with which a running retrain ends as on a port that is not enabled; on a port with WIDTH 0 the bit is kept and
ignored. -/
def State.setSpanEnable (s : State) (k : Nat) (en : Bool) : State :=
  let was := s.flag SPN_CFG.EN k
  let s := s.setFlag SPN_CFG.EN en k
  if (s.binding k).width = 0 ∨ s.fld SPN_STATUS.STATE k = spBypass then s
  else if en then (if was then s else s.bringUp k)
  else (((s.leaveUp k 7).toDetect k).setSpan k spDisabled).endRetrains k 0x0901 fun _ => true

/-- RETRAIN set: a port in UP goes to DETECT with the cause host retrain; one that is climbing starts from
DETECT again; a port that is disabled or in bypass does not retrain. -/
def State.retrain (s : State) (k cause : Nat) : State :=
  let st := s.fld SPN_STATUS.STATE k
  if st = spDisabled ∨ st = spBypass then s
  else ((s.leaveUp k cause).toDetect k)

/-- CMD_SPAN_RETRAIN: refused on an unbound or disabled port and in bypass; else the port retrains and the
command completes at UP (Table 7-13). -/
def onCmdSpanRetrain (q : Fin 24) (tag : Nat) (s : State) : State :=
  match s.cmd q tag 0x0901 with
  | none => s
  | some c =>
    let k := c.opnd 32 1
    if (s.binding k).width = 0 ∨ ¬ s.flag SPN_CFG.EN k then s.finish c 0x0901
    else if s.fld SPN_STATUS.STATE k = spBypass then s.finish c 0x0902
    else (s.run c).retrain k 4

/-- SPN_INJ (R193): corrupt the CRC of the next DATA plank on a VC, suppress the next LINK plank. -/
def State.inject (s : State) (k vc : Nat) (crc link : Bool) : State :=
  let x := s.port k
  s.setPort k { x with
    injCrc := if crc && decide (vc ∉ x.injCrc) then x.injCrc ++ [vc] else x.injCrc, injLink := x.injLink || link }

/-- What the device keeps of a lane. -/
def State.lane (s : State) (i : Nat) : LaneSt := Sparse.get LaneSt.reset s.span.lanes i

/-- Store what the device keeps of a lane. -/
def State.setLane (s : State) (i : Nat) (x : LaneSt) : State :=
  { s with span := { s.span with lanes := Sparse.set s.span.lanes i x } }

/-- A checker starts afresh: not locked. -/
def State.clearChecker (s : State) (lane : Nat) : State :=
  (s.setFlag LNE_STATUS.PRBS_LOCK false lane).setLane lane { s.lane lane with checker := LaneSt.reset.checker }

/-- The bits that the pattern generator of a lane sends next, from the last bits it sent; none where it is off (R192). -/
def State.patternBits (s : State) (lane n : Nat) (last : List Bool) : Option (List Bool) :=
  if s.flag LNE_CFG.PRBS_GEN lane then (prbsTaps (s.fld LNE_CFG.PRBS_SEL lane)).map fun t => prbsBits t n last else none

/-- PRBS_LOCK: bits come to a checker that is on. It locks after 64 consecutive correct bits, and from then counts mismatched and
checked bits (R192). -/
def onPrbsLock (lane : Fin 128) (l : List Bool) (s : State) : State :=
  match prbsTaps (s.fld LNE_CFG.PRBS_SEL lane) with
  | none => s
  | some t =>
    if ¬ s.flag LNE_CFG.PRBS_CHK lane then s
    else
      let (x, n, e) := Checker.feed t (s.lane lane).checker l
      let s := (s.setFlag LNE_STATUS.PRBS_LOCK x.lock lane).bump LNE_PRBS_ERR.ERR lane e
      (s.setPair LNE_PRBS_BITS.BITS (s.pair LNE_PRBS_BITS.BITS lane + n) lane).setLane lane { s.lane lane with checker := x }

/-- Whether a step's eye check runs on a lane. -/
def State.eyeBusy (s : State) (lane : Nat) : Bool :=
  match s.activePort lane with
  | some k => (match (s.port k).step with | some st => st.eye.isNone && decide (st.rate ≠ 0) | none => false)
  | none => false

/-- START of a scan (R190): DONE clears, and a scan that runs ends. The new one waits for a step's eye check. -/
def State.startScan (s : State) (lane : Nat) : State :=
  let busy := s.eyeBusy lane
  (s.setFlag LNE_EYE_CTRL.DONE false lane).setLane lane { s.lane lane with scanning := !busy, waiting := busy }

/-- EYE_SCAN_DONE: the scan has compared 2^(20 + DWELL) bits; the count saturates in LNE_EYE_ERR. -/
def onEyeScanDone (lane : Fin 128) (count : Nat) (s : State) : State :=
  let x := s.lane lane
  if x.scanning ∨ (x.waiting ∧ ¬ s.eyeBusy lane) then
    ((s.setFld LNE_EYE_ERR.ERR (min count 0xFFFFFFFF) lane).setFlag LNE_EYE_CTRL.DONE true lane).setLane lane
      { x with scanning := false, waiting := false }
  else s

/-! ### Degraded ports (R204, R206) -/

/-- A port becomes DEGRADED in a frame with more than 16 replays or any uncorrectable codeword. -/
def State.degrade (s : State) (k : Nat) : State :=
  let x := s.port k
  if (16 < x.replays ∨ 0 < x.uncorr) ∧ ¬ s.flag SPN_STATUS.DEGRADED k then
    (s.setFlag SPN_STATUS.DEGRADED true k).raise 0x0903 [(16, 1, k), (20, 4, x.replays), (24, 4, x.uncorr)]
  else s

/-- A replay of a VC from the oldest unacknowledged plank, counted (R196). Its ACK is that plank's LSEQ. -/
def State.startReplay (s : State) (k vc : Nat) : State :=
  let x := s.port k
  let t := x.tx vc
  let t := { t with replay := t.unacked, replayAck := t.unacked.head?.map (·.lseq) }
  ((s.bump SPN_REPLAY.COUNT k).setPort k { x.setTx vc t with replays := x.replays + 1 }).degrade k

/-- FEC_UNCORRECTABLE: a codeword of 544 symbols comes on a PAM4 lane. What the code corrects is counted; one beyond it is
uncorrectable (R177), and more than 8 within 1 ms take the port down (R204). The planks with a byte in it come as blocks that
carry none. -/
def onFecUncorrectable (lane : Fin 128) (symbols : List (BitVec 10)) (s : State) : State :=
  if s.fld LNE_STATUS.RATE lane ≠ 6 ∨ symbols.length ≠ 544 then s
  else match corrected (symbols.map (·.toNat)) with
  | some n => s.bump LNE_FEC.CORR_SYM lane n
  | none =>
    let s := s.bump LNE_FEC.UNCORR lane
    match s.activePort lane with
    | none => s
    | some k =>
      if ¬ s.portUp k then s
      else
        let x := s.port k
        let at' := (x.uncorrAt.filter fun t => s.clock ≤ t + ms) ++ [s.clock]
        let s := (s.setPort k { x with uncorr := x.uncorr + 1, uncorrAt := at' }).degrade k
        if 8 < at'.length then s.spanDown k 2 else s

/-- The end of a frame for the degraded ports (R204, R206): the flag clears after a frame with neither; in
HW mode a port degraded in 8 consecutive frames retrains; in ASSIST the ports of the frame's decision do. -/
def State.degradedFrame (s : State) (mask : Nat) (k : Nat) : State :=
  let x := s.port k
  let isBad := decide (16 < x.replays) || decide (0 < x.uncorr)
  let s := if isBad then s else s.setFlag SPN_STATUS.DEGRADED false k
  let n := if isBad then x.bad + 1 else 0
  let s := s.setPort k { s.port k with replays := 0, uncorr := 0, bad := n }
  if s.assist 8 then (if mask / 2 ^ k % 2 = 1 then s.spanDown k 5 else s)
  else if 8 ≤ n then (s.setPort k { s.port k with bad := 0 }).spanDown k 5
  else s

/-! ### Sending (R193 to R197) -/

/-- The LINK plank of a port now (Table 7-5). -/
def State.ownLink (s : State) (k : Nat) : LinkPlank :=
  let x := s.port k
  { nak0 := x.rx0.nak, nak2 := x.rx2.nak, ack0 := x.rx0.expect, ack2 := x.rx2.expect,
    freed0 := x.rx0.freed, freed1 := x.rx1.freed, freed2 := x.rx2.freed, sent1 := x.tx1.lseq, rsv := 0 }

/-- Send the LINK plank; SPN_INJ.LINK suppresses one. -/
def State.sendLink (s : State) (k : Nat) : State :=
  let x := s.port k
  let l := s.ownLink k
  let s := if x.injLink then s else s.emit (.linkPlank k l (linkCrc l))
  s.setPort k { x with
    linkDue := false, injLink := false, sinceTime := x.sinceTime + 1,
    rx0 := { x.rx0 with nak := false }, rx2 := { x.rx2 with nak := false } }

/-- Whether VC `vc` of a port has a plank ready with credit, or one to resend (a replay spends none). -/
def State.vcReady (s : State) (k vc : Nat) : Bool :=
  let t := (s.port k).tx vc
  !t.replay.isEmpty || (!t.queue.isEmpty && decide (0 < s.fld (creditFld vc) k))

/-- How many of the last 16 long-plank slots a VC has taken (R195). -/
def PortSt.taken (x : PortSt) (vc : Nat) : Nat := x.recent.countP (· = vc)

/-- The VC of the next DATA plank, in the order of items 4 to 7 of R195. -/
def State.nextVc (s : State) (k : Nat) : Option Nat :=
  let x := s.port k
  let r0 := s.vcReady k 0
  let r1 := s.vcReady k 1
  let r2 := s.vcReady k 2
  if r0 && (decide (x.taken 0 < s.fld SPN_CFG.VC0_SHARE k) || (!r1 && !r2)) then some 0
  else if r2 && decide (x.taken 2 < s.fld SPN_CFG.VC2_MIN k) then some 2
  else if r1 then some 1
  else if r2 then some 2
  else none

/-- A DATA plank leaves a port. Its CRC is corrupted when injection is armed for its VC, to another value that is not stated
(log entry 15). -/
def State.emitData (s : State) (k vc : Nat) (p : Plank) : State :=
  let x := s.port k
  let crc := plankCrc p
  let wrong := BitVec.ofNat 32 (s.free % (2 ^ 32 - 1) + 1)
  let s := if vc ∈ x.injCrc then s.draw.emit (.dataPlank k p (crc ^^^ wrong)) else s.emit (.dataPlank k p crc)
  s.setPort k { x with injCrc := x.injCrc.erase vc, recent := (vc :: x.recent).take 16, sinceTime := x.sinceTime + 1 }

/-- Send one DATA plank of a VC: a replay first; a new plank takes the next LSEQ and spends a credit, and
on VC0 and VC2 it is kept until ACK passes it (R194, R196). -/
def State.sendData (s : State) (k vc : Nat) : State :=
  let x := s.port k
  let t := x.tx vc
  match t.replay with
  | p :: ps => (s.setPort k (x.setTx vc { t with replay := ps, replayAck := if ps.isEmpty then none else t.replayAck })).emitData k vc p
  | [] =>
    match t.queue with
    | [] => s
    | i :: is =>
      let p := { i.plank with lseq := t.lseq }
      let t := { t with
        queue := is, lseq := (t.lseq + 1) % 65536
        unacked := if vc = 1 then [] else t.unacked ++ [p]
        progress := if t.unacked.isEmpty then s.clock else t.progress }
      let y := x.setTx vc t
      let s := s.setPort k (if vc = 1 then { y with linkDue := true, stalling := false, dry := s.clock } else y)
      let s := s.setFld (creditFld vc) (s.fld (creditFld vc) k - 1) k
      (s.emitData k vc p).releaseSlot i.slot

/-- LINK_PLANK_SEND: a LINK plank falls due after a change or 1,024 blocks and is sent (R181). -/
def onLinkPlankSend (k : Fin 16) (s : State) : State := if s.portUp k then s.sendLink k else s

/-! ### Receiving (R179, R180, R196, R197) -/

/-- An ACK of VC0 or VC2: the planks it covers are released, a running replay skips them, and progress is
noted (R196). -/
def State.takeAck (s : State) (k vc ack : Nat) : State :=
  let x := s.port k
  let t := x.tx vc
  let left := t.unacked.dropWhile fun p => seqBefore p.lseq ack
  let moved := decide (left.length < t.unacked.length)
  let rep := t.replay.dropWhile fun p => seqBefore p.lseq ack
  s.setPort k (x.setTx vc { t with
    unacked := left, replay := rep, replayAck := if rep.isEmpty then none else t.replayAck
    timeouts := if moved then 0 else t.timeouts
    progress := if moved then s.clock else t.progress })

/-- A NAK of VC0 or VC2: every unacknowledged plank is resent, unless its ACK equals that of a replay
already running (R196). -/
def State.takeNak (s : State) (k vc ack : Nat) (nak : Bool) : State :=
  let t := (s.port k).tx vc
  if nak ∧ t.unacked ≠ [] ∧ ¬ (t.replay ≠ [] ∧ t.replayAck = some ack) then s.startReplay k vc else s

/-- FREED of a VC has advanced: that many credits return (R194). -/
def State.takeFreed (s : State) (k vc freed : Nat) : State :=
  let x := s.port k
  let t := x.tx vc
  let n := (freed + 4096 - t.freed % 4096) % 4096
  (s.setPort k (x.setTx vc { t with freed := freed % 4096 })).setFld (creditFld vc)
    (min (s.fld (creditFld vc) k + n) (slotsOf vc)) k

/-- Planks of VC1 are missing below an LSEQ: counted in SPN_VC1_GAP, and made good in FREED1 (R197). -/
def State.vc1Gap (s : State) (k lseq : Nat) : State :=
  let x := s.port k
  if seqBefore x.rx1.expect lseq then
    let g := (lseq + 65536 - x.rx1.expect) % 65536
    (s.bump SPN_VC1_GAP.COUNT k g).setPort k { x with
      linkDue := true,
      rx1 := { x.rx1 with expect := lseq, freed := (x.rx1.freed + g) % 4096 } }
  else s

/-- LINK_PLANK: a received LINK plank updates ACKs, NAKs, credits and the VC1 position. -/
def onLinkPlank (k : Fin 16) (blocks : List Block) (s : State) : State :=
  s.receive k 2 blocks fun bs s =>
    if ¬ s.portUp k then s
    else
      let l := linkOf bs
      let s := (s.takeAck k 0 l.ack0).takeAck k 2 l.ack2
      let s := (s.takeNak k 0 l.ack0 l.nak0).takeNak k 2 l.ack2 l.nak2
      let s := ((s.takeFreed k 0 l.freed0).takeFreed k 1 l.freed1).takeFreed k 2 l.freed2
      (s.setPort k { s.port k with linkAt := s.clock }).vc1Gap k l.sent1

/-- REPLAY_TIMEOUT: planks are outstanding without ACK progress for REPLAY_TO; the sender replays from the
oldest, and the fourth such timeout in a row takes the port down (R196, R204). -/
def onReplayTimeout (k : Fin 16) (vc2 : Bool) (s : State) : State :=
  let vc := if vc2 then 2 else 0
  let t := (s.port k).tx vc
  if s.portUp k ∧ t.unacked ≠ [] ∧ t.progress + s.fld SPN_CFG.REPLAY_TO k * us ≤ s.clock then
    let s := s.startReplay k vc
    let x := s.port k
    let t := x.tx vc
    let s := s.setPort k (x.setTx vc { t with timeouts := t.timeouts + 1, progress := s.clock })
    if 4 ≤ t.timeouts + 1 then s.spanDown k 1 else s
  else s

/-- VC1_STALL_TIMEOUT: a VC1 copy has waited longer than VC1_STALL for credit; it is dropped for that port
alone, and EV_SPAN_STALL is raised once an episode (R199). -/
def onVc1StallTimeout (k : Fin 16) (s : State) : State :=
  let x := s.port k
  match x.tx1.queue with
  | [] => s
  | i :: is =>
    if s.portUp k ∧ s.fld SPN_CREDIT_A.CR1 k = 0 ∧ i.since + s.fld SPN_CFG.VC1_STALL k * 4 * us < s.clock then
      let s := (s.bump SPN_VC1_DROP.COUNT k).setPort k { x with tx1 := { x.tx1 with queue := is }, stalling := true }
      let s := s.releaseSlot i.slot
      if x.stalling then s else s.raise 0x0904 [(16, 1, k), (18, 2, i.plank.stream)]
    else s

/-- ROUTE_WAIT_TIMEOUT: a VC0 or VC2 plank has waited 1 ms for a port that is not UP; it is dropped and
counted (R200). What a retrain keeps waits for UP (R205). -/
def onRouteWaitTimeout (k : Fin 16) (vc2 : Bool) (s : State) : State :=
  let vc := if vc2 then 2 else 0
  let x := s.port k
  match (x.tx vc).queue.find? fun i => ! i.kept with
  | none => s
  | some i =>
    if ¬ s.portUp k ∧ i.since + ms ≤ s.clock then
      ((s.bump SPN_DROP.COUNT k).setPort k (x.setTx vc { x.tx vc with queue := (x.tx vc).queue.erase i })).releaseSlot i.slot
    else s

/-! ### VC0 and VC2 arrivals (R196, R213 to R216, R225) -/

/-- The message types whose requests Table 8-2 answers with a response; the firmware and closure types are
those that their chapters answer. -/
def answered (typ : Nat) : Bool := typ ∈ [0x02, 0x05, 0x06, 0x07, 0x08, 0x10, 0x11, 0x12]

/-- The message types of Table 8-2. -/
def knownType (typ : Nat) : Bool :=
  (decide (1 ≤ typ) && decide (typ ≤ 0x0B)) || (decide (0x10 ≤ typ) && decide (typ ≤ 0x1F)) ||
  (decide (0x20 ≤ typ) && decide (typ ≤ 0x2F))

/-- The types that reach only the neighbour (Table 8-2). -/
def neighbourType (typ : Nat) : Bool := typ ∈ [0x01, 0x02, 0x03, 0x04, 0x0A]

/-- A whole message has arrived (R214, R216): a response or an unanswered type goes to the inbox; a request
whose MSG_SEQ is held has its stored response sent again; one from a new source is discarded when all 64
entries are younger than 100 ms; an unlisted type is answered with ERR 0x01. A device without an address has no MSG_SEQ of its
own to hold: every unassigned neighbour sends from 0x000. -/
def State.deliver (s : State) (k : Nat) (m : Msg) : State :=
  let inbox (s : State) : State := { s with via := { s.via with inbox := s.via.inbox ++ [(k, m)] } }
  if m.resp then inbox s
  else if ¬ knownType m.typ then s.launch (.node m.src) (respMsg s m [1])
  else if ¬ answered m.typ ∨ m.src = 0 then inbox s
  else
    match s.via.sources.find? fun c => c.src = m.src ∧ c.vc = m.vc with
    | some c =>
      (match c.seqs.find? fun e => e.1 = m.seq with
       | some e =>
         let s : State := { s with via := { s.via with
           sources := s.via.sources.map fun d => if d = c then { c with last := s.clock } else d } }
         (match e.2 with
          | some r => s.relaunch r
          | none => s)
       | none =>
         inbox { s with via := { s.via with
           sources := s.via.sources.map fun d =>
           if d = c then { c with seqs := ((m.seq, none) :: c.seqs).take 32, last := s.clock } else d } })
    | none =>
      let same := s.via.sources.filter fun c => c.vc = m.vc
      let old := same.filter fun c => c.last + 100 * ms ≤ s.clock
      if same.length < 64 then
        inbox { s with via := { s.via with sources := s.via.sources ++ [⟨m.src, m.vc, [(m.seq, none)], s.clock⟩] } }
      else match old with
        | [] => s
        | o :: _ => inbox { s with via := { s.via with
            sources :=
            s.via.sources.erase o ++ [⟨m.src, m.vc, [(m.seq, none)], s.clock⟩] } }

/-- Whether a plank is a whole message: LAST, with ARG 0, or the ARG of REG_READ and REG_WRITE, which is an address (Table 8-1). -/
def wholePlank (x : Plank) : Bool :=
  decide (128 ≤ x.flags) && (decide (x.tag % 2 ^ 24 = 0) || decide (x.flags % 64 ∈ [0x07, 0x08]))

/-- One plank of a message delivered locally: put together in ascending order of segments; a segment out
of order discards the message, whose later planks are then no message (R213). Segment 0 begins it again. -/
def State.takeSegment (s : State) (k : Nat) (x : Plank) : State :=
  let seq := x.tag / 2 ^ 24
  let arg := x.tag % 2 ^ 24
  let last := decide (128 ≤ x.flags)
  let typ := x.flags % 64
  let resp := decide (bits x.flags 6 1 = 1)
  let mine (p : Partial) : Bool := p.msg.src = x.src && p.msg.vc = x.vc && p.msg.seq = seq && p.msg.resp = resp
  let rest := s.via.partials.filter fun p => !mine p
  let keep (l : List Partial) : State := { s with via := { s.via with partials := l } }
  let m : Msg := ⟨x.vc, x.src, x.dst, x.hops, resp, typ, seq, arg, x.payload⟩
  if wholePlank x then (keep rest).deliver k m
  else if arg = 0 then keep (rest ++ [⟨k, m, 1⟩])
  else match s.via.partials.find? mine with
  | some p =>
    if arg ≠ p.next then keep rest
    else
      let m := { p.msg with payload := p.msg.payload ++ x.payload }
      if last then (keep rest).deliver k m else keep (rest ++ [⟨k, m, p.next + 1⟩])
  | none => s

/-- Learning (R225): a VC0 plank from a source without a VALID entry makes the entry VALID on its port. -/
def State.learn (s : State) (k : Nat) (x : Plank) : State :=
  if s.flag VIA_CFG.LEARN ∧ x.vc = 0 ∧ x.src ≠ 0 ∧ x.src ≠ 0xFFF ∧ ¬ s.flag VIA_ROUTE.VALID x.src ∧
      ¬ s.flag VIA_ROUTE.PINNED x.src then
    ((s.setFld VIA_ROUTE.PORT k x.src).setFlag VIA_ROUTE.VALID true x.src).setFlag VIA_ROUTE.LEARNED true x.src
  else s

/-- A receive slot is filled (R194). -/
def State.fillSlot (s : State) (k vc copies : Nat) : State :=
  let x := s.port k
  s.setPort k { x with slots := x.slots ++ [⟨x.nextSlot, vc, copies, s.clock⟩], nextSlot := x.nextSlot + 1 }

/-- A broadcast plank (R215): a one-plank message whose MSG_SEQ lies 1 to 127 ahead of the last of its
source and VC is delivered and, with HOPS left, forwarded on every other UP port. -/
def State.broadcast (s : State) (k : Nat) (x : Plank) : State :=
  let key := x.src * 4 + x.vc
  let seq := x.tag / 2 ^ 24
  let fresh := match Sparse.find s.via.bcastSeq key with
    | some l => let d := (seq + 256 - l) % 256; decide (1 ≤ d) && decide (d ≤ 127)
    | none => true
  if fresh && wholePlank x then
    let s : State := { s with via := { s.via with bcastSeq := Sparse.set s.via.bcastSeq key seq } }
    let outs := if 0 < x.hops then portsWhere 16 fun j => s.portUp j && decide (j ≠ k) else []
    let id := (s.port k).nextSlot
    let s := s.fillSlot k x.vc (outs.length + 1)
    let s := outs.foldl (fun s j => s.queuePlank j { x with hops := x.hops - 1 } (some (k, id))) s
    (s.takeSegment k x).releaseSlot (some (k, id))
  else
    let id := (s.port k).nextSlot
    (s.fillSlot k x.vc 1).releaseSlot (some (k, id))

/-- What becomes of an accepted VC0 or VC2 plank (R215). -/
def State.routeArrival (s : State) (k : Nat) (x : Plank) : State :=
  let s := s.learn k x
  if x.dst = 0xFFF then s.broadcast k x
  else
    let id := (s.port k).nextSlot
    let s := s.fillSlot k x.vc 1
    if x.dst = s.self ∨ (x.hops = 0 ∧ neighbourType (x.flags % 64)) then
      (s.takeSegment k x).releaseSlot (some (k, id))
    else if x.hops = 0 then (s.bump VIA_CNT_DROP.HOPS).releaseSlot (some (k, id))
    else s.routePlank { x with hops := x.hops - 1 } (some (k, id))

/-- DATA_PLANK: a plank of VC0 or VC2 is accepted when its CRC passes and its LSEQ is the next expected;
any other is discarded, a duplicate without NAK (R179, R180, R196). -/
def onDataPlank (k : Fin 16) (blocks : List Block) (s : State) : State :=
  s.receive k 1 blocks fun bs s =>
    let x := plankOf bs
    if ¬ s.portUp k ∨ x.vc = 1 then s
    else
      let p := s.port k
      let r := p.rx x.vc
      if x.lseq = r.expect then
        (s.setPort k ({ p with linkDue := true }.setRx x.vc
          { r with expect := (r.expect + 1) % 65536, refused := false })).routeArrival k x
      else s.refusePlank k x.vc x.lseq

/-! ### Hardware bypass (R27, R208, R230) -/

/-- SPAN_FABRIC_STOP: the span fabric stops; the bypass monitor holds the transmitters of every bound lane
in electrical idle (R230). -/
def onSpanFabricStop (s : State) : State :=
  if s.span.stopped.isSome then s
  else { s with span := { s.span with stopped := some s.clock, idle := true } }

/-- The latched pairs of the bypass monitor as ports. -/
def State.bypassPorts (s : State) : List Nat := s.span.pairs.flatMap fun p => [p.1, p.2]

/-- The device runs: no device reset is in progress and CORE_EN is high. -/
def State.awake (s : State) : Bool := s.pwr.hold.isNone && s.pwr.coreEn

/-- Wall time counts: the device runs and its root PLL is locked (R461). -/
def State.clocked (s : State) : Bool := s.awake && s.flag GLB_CLK.ROOT_LOCK

/-- In bypass, the lane whose transmitter sends on what a lane receives: lane i of a port goes to lane i of the port it is paired
with, block for block (R208). -/
def State.retimed (s : State) (lane : Nat) : Option Nat :=
  if ¬ s.span.bypass then none
  else
    let of (a b : Nat) : Option Nat :=
      if lane ∈ s.boundLanes a then some ((s.binding b).first + (lane - (s.binding a).first)) else none
    s.span.pairs.findSome? fun p => (of p.1 p.2).orElse fun _ => of p.2 p.1

/-- Bypass joins the latched pairs: their ports read BYPASS, no step goes on there, and the transmitters hold the taps in force,
or LNE_TXEQ where the port was disabled (R208). A device that does not run reports nothing. -/
def State.joinBypass (s : State) : State :=
  let s : State := { s with span := { s.span with bypass := true, idle := false } }
  s.each s.bypassPorts fun k s =>
    if s.awake then
      let s := if s.fld SPN_STATUS.STATE k = spDisabled then
          s.each (s.boundLanes k) fun i s => s.setFld LNE_TXEQ_ACT.TAPS (s.ownTaps i) i else s
      let s := (s.leaveUp k 6).setFlag SPN_STATUS.TOP_FAIL false k
      (s.setPort k { s.port k with step := none, proposed := false, farStep := none, control := [] }).setSpan k spBypass
    else s.setFld SPN_STATUS.STATE spBypass k

/-- BYPASS_ENTER: the span fabric has been stopped for 100 µs, or the device is in P3 (PWR_STATE 3). In P4 the relay set is
off. While wall time stands still the row itself says that the 100 µs have passed. -/
def onBypassEnter (s : State) : State :=
  let long : Bool := match s.span.stopped with | some t => ! s.clocked || decide (t + 100 * us ≤ s.clock) | none => false
  let st := s.fld PWR_STATE.STATE
  if ¬ s.span.bypass ∧ st ≠ 4 ∧ (long ∨ st = 3) then s.joinBypass else s

/-- BYPASS_EXIT: the span fabric has run for 10 ms without interruption outside P3; the ports go to
DETECT, or to DISABLED where they are not enabled or not bound. -/
def onBypassExit (s : State) : State :=
  if s.span.bypass ∧ s.span.stopped = none ∧ s.fld PWR_STATE.STATE ≠ 3 ∧ s.span.running + 10 * ms ≤ s.clock then
    let s : State := { s with span := { s.span with bypass := false } }
    s.each s.bypassPorts fun k s =>
      if s.flag SPN_CFG.EN k ∧ (s.binding k).width ≠ 0 then s.toDetect k else (s.toDetect k).setSpan k spDisabled
  else s

end Sys2Proof.Machine
end

