-- ==== Sys2Proof/Machine/Ledger.lean ====
section
/-! DEFINITION. FN_LDG, the ledgers (spec/16_ledgers.md): the books of the eight conserved quantities, read from the state
that they describe, audits and their episodes. -/

namespace Sys2Proof.Machine

/-! ### Books (R416, R423) -/

/-- VC1_STALL of a port in ticks. -/
def State.stallTicks (s : State) (k : Nat) : Nat := s.fld SPN_CFG.VC1_STALL k * 4 * us

/-- HELD of a port and VC. -/
def State.bookHeld (s : State) (k vc : Nat) : Nat := s.fld (creditFld vc) k

/-- OUT: planks sent for the first time whose slots the far end has not yet reported freed. -/
def State.bookOut (s : State) (k vc : Nat) : Nat :=
  let t := (s.port k).tx vc
  (t.lseq + 65536 - t.freed % 4096) % 4096

/-- USED receive slots of a VC. -/
def State.bookUsed (s : State) (k vc : Nat) : Nat := (s.port k).slots.countP fun r => decide (r.vc = vc)

/-- When the oldest used slot of a VC was filled. -/
def State.oldest (s : State) (k vc : Nat) : Option Nat :=
  ((s.port k).slots.filter fun r => decide (r.vc = vc)).foldl (fun m r => some (min r.since (m.getD r.since))) none

/-- Pages of LAYER. -/
def State.layerPages (s : State) : Nat := ((s.partsOf pkLayer).map (·.size)).foldl (· + ·) 0

/-- The sum of the reference counts of all handles. -/
def State.refSum (s : State) : Nat := (s.cmp.slots.map fun p => s.handleRefs p.1).foldl (· + ·) 0

/-- REF pages that contexts book (R254). -/
def State.ctxBooked (s : State) : Nat := (s.dec.ctxs.map fun p => ctxPages p.2.w p.2.h p.2.cap).foldl (· + ·) 0

/-- REF pages allocated to contexts. -/
def State.ctxAllocated (s : State) : Nat := (s.dec.ctxs.map fun p => p.2.pages.length).foldl (· + ·) 0

/-- A context whose books disagree: its number does not exist, it is listed but FREE, its pages are not those booked, or another
has its stream. -/
def State.ctxBad (s : State) (n : Nat) (c : Ctx) : Bool :=
  decide (3072 ≤ n) || decide (c.state = cxFree) || decide (c.pages.length ≠ ctxPages c.w c.h c.cap) ||
    s.dec.ctxs.any fun p => decide (p.1 ≠ n) && decide (p.2.stream = c.stream)

/-- BANDS of the pier canvas. -/
def State.bookBands (s : State) : Nat := match s.genInForce with | some g => bandCount g.loc | none => 0

/-- Confirmed bands of the back buffer. -/
def State.bookConfirmed (s : State) : Nat :=
  (List.range s.bookBands).countP fun k => match Sparse.find s.cmp.bands k with | some b => s.bandConfirmed b | none => false

/-- Entry 0 accepts a holder. -/
def State.leaseHeld (s : State) : Bool := match Sparse.find s.red.segs 0 with | some x => decide (x.view = 1) | none => false

/-- The computed registers of the LDG block. -/
def State.ldgReg (s : State) (a : Nat) : Option Nat :=
  let k := s.fld LDG_SPAN_SEL.PORT
  let vc := s.fld LDG_SPAN_SEL.VC
  let used := s.bookUsed k vc
  match a with
  | 0x2C0204 => some (if vc = 3 then 0 else s.bookHeld k vc + 65536 * (s.bookOut k vc % 512))
  | 0x2C0208 => some (slotsOf vc - used + 65536 * used)
  | 0x2C020C => some (match s.oldest k vc with | some t => min ((s.clock - t) / us) 65535 | none => 0)
  | 0x2C0300 => some s.pagesHeld
  | 0x2C0304 => some s.refSum
  | 0x2C030C => some s.layerPages
  | 0x2C0500 => some (3072 - s.dec.ctxs.length)
  | 0x2C0504 => some s.ctxBooked
  | 0x2C0508 => some s.ctxAllocated
  | 0x2C0600 => some (s.bookBands + 65536 * s.bookConfirmed)
  | 0x2C0700 => some ((if s.leaseHeld then s.fld RED_SEG_STATUS.HOLDER 0 else 0) + 65536 * s.fld LDG_LEASE.GAP)
  | _ => none

/-! ### Invariants (Table 16-1) -/

/-- One instance as an audit finds it: its number, whether it passes, the two sides of its invariant. -/
structure Found where
  inst : Nat
  ok   : Bool
  x    : Nat
  y    : Nat
deriving DecidableEq, Repr

/-- The instances of a span quantity: port × 16 + VC over the UP ports. -/
def State.spanFound (s : State) (vcs : Nat) (f : Nat → Nat → Option Found) : List Found :=
  (portsWhere 16 s.portUp).flatMap fun k => (List.range vcs).filterMap fun vc => f k vc

/-- CREDIT of a port and VC; passed over for 8 µs after the port came UP. On VC1, credits that stay at 0 while LINK planks
arrive fail too. -/
def State.creditFound (s : State) (k vc : Nat) : Option Found :=
  if s.clock < (s.port k).since + 8 * us then none
  else
    let sum := s.bookHeld k vc + s.bookOut k vc
    let dry := decide (vc = 1) && decide (s.bookHeld k 1 = 0) && decide ((s.port k).dry + 4 * s.stallTicks k < (s.port k).linkAt)
    some ⟨16 * k + vc, decide (sum = slotsOf vc) && ! dry, sum, slotsOf vc⟩

/-- SLOT of a port and VC: no more slots used than there are, no VC1 slot used for too long. -/
def State.slotFound (s : State) (k vc : Nat) : Option Found :=
  let used := s.bookUsed k vc
  let old := decide (vc = 1) && (match s.oldest k 1 with | some t => decide (t + s.stallTicks k + 2 * us < s.clock) | none => false)
  some ⟨16 * k + vc, decide (used ≤ slotsOf vc) && ! old, (slotsOf vc - used) + used, slotsOf vc⟩

/-- The instances of a quantity that an audit takes now; those inside their permitted window are passed over. -/
def State.found (s : State) (q : Nat) : List Found :=
  let one (ok : Bool) (x y : Nat) : List Found := [⟨0, ok, x, y⟩]
  match q with
  | 0 => s.spanFound 3 s.creditFound
  | 1 => s.spanFound 4 s.slotFound
  | 2 =>
    let free := s.fld CMP_POOL.FREE_PAGES
    one (decide (free + s.pagesHeld = s.layerPages)) (free + s.pagesHeld) s.layerPages
  | 3 =>
    let a := s.pair LDG_ACCEPTED.ACCEPTED
    let p := s.pair LDG_PRESENTED.PRESENTED
    let sum := p + s.pair LDG_UNSHOWN.UNSHOWN + s.fld LDG_FRAME_STATE.PENDING
    let base := (s.pair LDG_ISSUED.ISSUED + 2 ^ 64 - s.ldg.issued) % 2 ^ 64
    one (decide (a = sum) && decide (p - s.pair LDG_RETIRED.RETIRED = min p 1) && decide (s.ldg.base.getD base = base)) a sum
  | 4 =>
    let bad := s.dec.ctxs.countP fun p => s.ctxBad p.1 p.2
    one (decide (bad = 0) && decide (s.dec.ctxs.length ≤ 3072)) (s.dec.ctxs.length - bad + (3072 - s.dec.ctxs.length)) 3072
  | 5 =>
    if s.isPier then one (decide (s.bookConfirmed ≤ s.bookBands) && decide (s.fld LDG_BACK_SWAP.SWAP_UNCONF = 0))
      s.bookConfirmed s.bookBands
    else []
  | 6 =>
    let gap := s.fld LDG_LEASE.GAP
    if s.isPier ∧ s.flag RED_SEG_CFG.EN 0 then
      (if 0 < gap ∧ gap ≤ 5 ∧ ! s.ldg.two then [] else one (decide (gap = 0) && ! s.ldg.two) gap (b2n s.ldg.two))
    else []
  | _ =>
    let a := s.fld LDG_FW.ACTIVE
    one (decide (a = 1 ∨ a = 2)) a 0

/-! ### Audits (R418, R419) -/

/-- An audit of one quantity: counted, and its failures with it; EV_LDG_IMBALANCE where an episode begins or ends. -/
def State.audit (s : State) (q : Nat) : State :=
  let found := s.found q
  if found = [] then s
  else
    let bad := found.filter fun x => ! x.ok
    let was := bits (s.fld LDG_STATUS.IMBAL) q 1 = 1
    let before := ((s.ldg.failed.find? fun p => p.1 = q).map (·.2)).getD 0
    let s := s.bump LDG_AUDIT.AUDITS q
    let s := if q = 2 then s.setFld LDG_HANDLE_BOOK.BOOKSUM s.refSum else s
    let base : Option Nat := if q = 3 ∧ s.cadence then some ((s.pair LDG_ISSUED.ISSUED + 2 ^ 64 - s.ldg.issued) % 2 ^ 64)
      else if q = 3 then none else s.ldg.base
    let s : State := { s with ldg := { s.ldg with
      base := base, failed := s.ldg.failed.filter (fun p => p.1 ≠ q) ++ bad.map fun x => (q, x.inst) } }
    let mask := s.fld LDG_STATUS.IMBAL
    match bad with
    | [] =>
      if was then (s.setFld LDG_STATUS.IMBAL (mask - 2 ^ q)).draw.draw.raise 0x1301
        [(16, 1, q), (17, 1, 1), (18, 2, before), (20, 4, s.free % 2 ^ 32), (24, 4, s.draw.free % 2 ^ 32)] else s
    | x :: _ =>
      let s := (s.bump LDG_FAIL.FAILS q).setFld LDG_STATUS.IMBAL (mask ||| 2 ^ q)
      if was then s else s.raise 0x1301 [(16, 1, q), (18, 2, x.inst), (20, 4, x.x), (24, 4, x.y)]

/-- LEDGER_AUDIT: each enabled quantity, 1,536 ticks after a frame start, or every 1 ms without a cadence; tollhouse work. -/
def onLedgerAudit (s : State) : State :=
  let due := if s.cadence then ! s.ldg.audited && decide (s.pair TIM_START.START + 1536 ≤ s.now)
    else decide (s.ldg.last + ms ≤ s.clock)
  if ! due || s.restarting then s
  else
    let s : State := { s with ldg := { s.ldg with audited := true, last := s.clock } }
    let s := (List.range 8).foldl (fun (s : State) q => if bits (s.fld LDG_CFG.EN) q 1 = 1 then s.audit q else s) s
    { s with ldg := { s.ldg with two := false } }

/-- CMD_LDG_AUDIT: audits of the quantities of a mask, at once. -/
def onCmdLdgAudit (q : Fin 24) (tag : Nat) (s : State) : State :=
  match s.cmd q tag 0x1301 with
  | none => s
  | some c =>
    let m := c.opnd 32 1
    let failed := maskWhere 8 fun i => decide (bits m i 1 = 1) && (s.found i).any fun x => ! x.ok
    ((List.range 8).foldl (fun (s : State) i => if bits m i 1 = 1 then s.audit i else s) s).finish c stOk (result [(16, 1, failed)])

/-- The lease books at a frame start: GAP counts frames without a holder; two senders in the frame that ends. -/
def State.ldgFrame (s : State) : State :=
  let two := s.ldg.two || decide (1 < s.red.senders.length)
  let s : State := { s with ldg := { s.ldg with two := two && s.flag RED_SEG_CFG.EN 0, audited := false } }
  if s.isPier ∧ s.flag RED_SEG_CFG.EN 0 then
    (if s.leaseHeld then s.setFld LDG_LEASE.GAP 0 else s.bump LDG_LEASE.GAP)
  else s.setFld LDG_LEASE.GAP 0

/-- The audit counters are cleared, at a reset of FN_LDG and as a load changes LEDGER (R422). -/
def State.clearAudits (s : State) : State :=
  (List.range 8).foldl (fun (s : State) q => (s.setWord (LDG_AUDIT.AUDITS.addr q) 0).setWord (LDG_FAIL.FAILS.addr q) 0) s

/-- Settlement at a reset of FN_LDG (R422): audit counters and LDG_BACK_SWAP are cleared, open episodes end without an event. -/
def State.ldgReset (s : State) : State :=
  let s := s.clearAudits
  let s := (s.setFld LDG_BACK_SWAP.SWAP_UNCONF 0).setFld LDG_STATUS.IMBAL 0
  { s with ldg := { s.ldg with failed := [], base := none } }

end Sys2Proof.Machine
end

