-- ==== Sys2Proof/Machine/Fwu.lean ====
section
/-! DEFINITION. FN_FWU (spec/19_firmware_update.md): slots, verification, the boot choice, settings, transfer of images along
the viaduct, activation and recovery; and the safe image (R459, R460), which the firmware prepares as it starts. -/

namespace Sys2Proof.Machine

/-! ### Flash -/

/-- A memory with a block of bytes written at an address, in canonical form. -/
def putBlock (d : Byte) (m : Memory) (a : Nat) (bs : List Byte) : Memory :=
  (m.filter fun c => decide (c.1 < a)) ++
  (bs.zipIdx.filterMap fun p => if p.1 = d then none else some (a + p.2, p.1)) ++
  (m.filter fun c => decide (a + bs.length ≤ c.1))

/-- Program bytes of the boot flash. -/
def State.flashPut (s : State) (a : Nat) (bs : List Byte) : State := { s with flash := putBlock erased s.flash a bs }

/-- Erase a range of the boot flash. -/
def State.flashErase (s : State) (a n : Nat) : State := { s with flash := Sparse.clear s.flash a n }

/-- No new flash program or erase is issued while a warning stands (R449). -/
def State.flashHeld (s : State) : Bool := s.flag PWR_BROWN.ACTIVE

/-! ### Slots (R467, R468, R470) -/

/-- EMPTY. -/
def slEmpty : Nat := 0xFF
/-- WRITTEN. -/
def slWritten : Nat := 0x7F
/-- TRIAL. -/
def slTrial : Nat := 0x3F
/-- TRIED. -/
def slTried : Nat := 0x1F
/-- GOOD. -/
def slGood : Nat := 0x0F
/-- BAD. -/
def slBad : Nat := 0

/-- Bytes of a slot. -/
def slotBytes : Nat := 24 * mib

/-- A footing peer has no slots of its own. -/
def State.isPeer (s : State) : Bool := s.pins.ftId ≠ 0

/-- STATE as the flash that the device boots from holds it; any other value counts as BAD (R470). -/
def State.bootState (s : State) (i : Nat) : Nat :=
  let v := leNat (s.flashRead (slotBase i + 3588) 1)
  if v ∈ [slEmpty, slWritten, slTrial, slTried, slGood] then v else slBad

/-- STATE of an own slot; a peer has none. -/
def State.slotState (s : State) (i : Nat) : Nat := if s.isPeer then slEmpty else s.bootState i

/-- GEN of a slot. -/
def State.slotGen (s : State) (i : Nat) : Nat := leNat (s.flashRead (slotBase i + 3584) 4)

/-- IMG_HASH of a slot. -/
def State.slotHash (s : State) (i : Nat) : List Byte := s.flashRead (slotBase i + 84) 48

/-- IMAGE_LEN of a slot. -/
def State.slotLen (s : State) (i : Nat) : Nat := leNat (s.flashRead (slotBase i + 8) 4)

/-- Bytes `o` to `o + n − 1` of the firmware image of a slot. -/
def State.fwBytes (s : State) (i o n : Nat) : List Byte :=
  s.flashRead (slotBase i + leNat (s.flashRead (slotBase i + 12) 4) + o) n

/-- VERSION of the firmware in a slot. -/
def State.slotVersion (s : State) (i : Nat) : Nat := leNat (s.fwBytes i 0 4)

/-- FWU_SLOT, FWU_GEN and FWU_VER show the slots. -/
def State.showSlots (s : State) : State :=
  [0, 1].foldl (fun (s : State) i =>
    let s := (s.setFld FWU_SLOT.STATE (s.slotState i) i).setFld FWU_GEN.GEN (s.slotGen i) i
    s.setFld FWU_VER.VERSION (if s.slotState i = slEmpty then 0 else s.slotVersion i) i) s

/-- Program STATE of a slot. -/
def State.putSlotState (s : State) (i v : Nat) : State := (s.flashPut (slotBase i + 3588) (leBytes 1 v)).showSlots

/-- The active slot, if the ROM has chosen one. -/
def State.activeSlot (s : State) : Option Nat :=
  match s.fld FWU_STATUS.ACTIVE with
  | 1 => some 0
  | 2 => some 1
  | _ => none

/-- The slot that is not active; in recovery slot A, or slot B if slot A is not BAD or EMPTY (R480). -/
def State.spareSlot (s : State) : Nat :=
  match s.activeSlot with
  | some i => 1 - i
  | none => if s.bootState 0 = slBad ∨ s.bootState 0 = slEmpty then 0 else 1

/-! ### Verification (R469) -/

/-- The regions of an image: the firmware, then each distinct bit-stream; offset and length. -/
def imageRegions (hdr : List Byte) : List (Nat × Nat) :=
  let bs := ((List.range 8).map fun i => (leAt hdr (20 + 8 * i) 4, leAt hdr (24 + 8 * i) 4)).filter fun r => r.2 ≠ 0
  (leAt hdr 12 4, leAt hdr 16 4) :: bs.eraseDups

/-- Check 1: the slot header, the regions and the firmware header. -/
def imageForm (rd : Nat → Nat → List Byte) : Bool :=
  let h := rd 0 4096
  let len := leAt h 8 4
  let rs := imageRegions h
  let fw := rd (leAt h 12 4) 128
  bytesAt h 0 4 == [0x50, 0x58, 0x46, 0x57] && leAt h 4 2 == 1 && leAt h 6 2 == 0x7240 &&
  decide (4096 ≤ len) && decide (len ≤ 25165824) && decide (160 ≤ leAt h 16 4) && decide (leAt h 16 4 ≤ 917632) &&
  allZero (bytesAt h 132 44) && allZero (bytesAt h 368 3216) && (bytesAt h 3589 507).all (· = erased) &&
  rs.all (fun r => decide (r.1 % 4096 = 0) && decide (4096 ≤ r.1) && decide (r.1 + r.2 ≤ len)) &&
  rs.zipIdx.all (fun a => rs.zipIdx.all fun b =>
    decide (a.2 = b.2) || decide (a.1.1 + a.1.2 ≤ b.1.1) || decide (b.1.1 + b.1.2 ≤ a.1.1)) &&
  ((List.range (len - 4096)).all fun j => rs.any (fun r => decide (r.1 ≤ 4096 + j) && decide (4096 + j < r.1 + r.2)) ||
    decide (rd (4096 + j) 1 = [0])) &&
  decide (leAt fw 4 1 ≤ 64) && decide (leAt fw 5 1 ≤ 3) && allZero (bytesAt fw 16 16)

/-- Checks 1 to 6 of Table 19-4 over an image that `rd offset length` reads: the first that fails. -/
def State.imageCheck (s : State) (rd : Nat → Nat → List Byte) : Option Nat :=
  let h := rd 0 4096
  let fw := rd (leAt h 12 4) (leAt h 16 4)
  let key := leAt fw 5 1
  if ! imageForm rd then some 0x1502
  else if ! s.ownerOk (bytesAt h 176 96) then some 0x1503
  else if ! ecdsaVerify (bytesAt h 176 96) (bytesAt h 272 96) (sha384 (h.take 176)) then some 0x1504
  else if sha384 (rd 4096 (leAt h 8 4 - 4096)) ≠ bytesAt h 84 48 then some 0x1505
  else if bits (s.fld CFG_VENDOR_REVOKE.REVOKE) key 1 = 1 ∨
      ! ecdsaVerify (Config.stoltilKey key) (bytesAt fw 32 96) (sha384 (fw.take 32 ++ fw.drop 128)) then some 0x1506
  else if leAt fw 4 1 < s.fld FWU_SVN.MIN then some 0x1507
  else none

/-- The image of a slot in flash. -/
def State.slotRead (s : State) (i : Nat) : Nat → Nat → List Byte := fun o n => s.flashRead (slotBase i + o) n

/-- All checks of R469 on a slot: the status, and the ST_CFG status of the bit-stream that fails check 7. -/
def State.verifySlot (s : State) (i : Nat) : Option (Nat × Nat) :=
  match s.imageCheck (s.slotRead i) with
  | some st => some (st, 0)
  | none =>
    match ((imageRegions (s.flashRead (slotBase i) 4096)).drop 1).findSome? fun r =>
        s.checks1to7 (s.flashRead (slotBase i + r.1) r.2) with
    | some f => some (0x1508, f.status)
    | none => none

/-! ### Settings (R473, R474, R386) -/

/-- Where copy `j` of the settings of slot `i` lies. -/
def copyBase (i j : Nat) : Nat := 0x03000000 + 0x200000 * i + 0x100000 * j

/-- Whether a settings copy is valid: MAGIC, USED, CRC. -/
def State.copyOk (s : State) (a : Nat) : Bool :=
  let h := s.flashRead a 32
  let used := leAt h 12 4
  bytesAt h 0 4 == [0x50, 0x58, 0x53, 0x54] && decide (135168 ≤ used) && decide (used ≤ 1048576) &&
  decide (crc32c (s.flashRead (a + 32) (used - 32)) = leAt h 16 4)

/-- The number of the copy of an area that counts, with its address. -/
def State.settingsAt (s : State) (i : Nat) : Option (Nat × Nat) :=
  let a := copyBase i 0
  let b := copyBase i 1
  let seq (x : Nat) : Nat := leNat (s.flashRead (x + 4) 4)
  match s.copyOk a, s.copyOk b with
  | true, true => some (if seq a < seq b then (1, b) else (0, a))
  | true, false => some (0, a)
  | false, true => some (1, b)
  | false, false => none

/-- A settings copy: header, CARRY, REMOVED, BODY. -/
def settingsCopy (seq fmt : Nat) (carry removed body : List Byte) : List Byte :=
  let rest := padTo 4064 carry ++ removed ++ body
  [0x50, 0x58, 0x53, 0x54] ++ leBytes 4 seq ++ leBytes 2 fmt ++ leBytes 2 0 ++ leBytes 4 (32 + rest.length) ++
    leBytes 4 (crc32c rest) ++ List.replicate 12 0 ++ rest

/-- The REMOVED bits as 131,072 bytes. -/
def removedBytes (lamps : List Nat) : List Byte :=
  (List.range 131072).map fun j => BitVec.ofNat 8 (maskWhere 8 fun b => decide (8 * j + b ∈ lamps))

/-- The lamps that REMOVED bytes name. -/
def removedOf (bs : List Byte) : List Nat :=
  bs.zipIdx.flatMap fun p => ((List.range 8).filter fun b => bits p.1.toNat b 1 = 1).map (8 * p.2 + ·)

/-- CARRY of a footing device: address, safe-image index, parapet SEQ. -/
def carryBytes (addr index seq : Nat) : List Byte := leBytes 2 addr ++ leBytes 1 index ++ List.replicate 5 0 ++ leBytes 8 seq

/-- Write the settings of slot `i`: the other copy, with a SEQ one higher. -/
def State.putSettings (s : State) (i fmt : Nat) (carry removed body : List Byte) : State :=
  let old := s.settingsAt i
  let j := match old with | some (j, _) => 1 - j | none => 0
  let seq := match old with | some (_, a) => leNat (s.flashRead (a + 4) 4) | none => 0
  let a := copyBase i j
  let s := s.unitRun 2 (padTo 4064 carry ++ removed ++ body)
  (s.flashErase a 0x100000).flashPut a (settingsCopy ((seq + 1) % 2 ^ 32) fmt carry removed body)

/-- CARRY as the device holds it now: its own entry, the others as in the copy that counts. -/
def State.carryNow (s : State) (old : List Byte) : List Byte :=
  let i := s.pins.ftId
  let addr := if s.self = 0 then leAt old (16 * i) 2 % 4096 else s.self
  (padTo 128 (old.take (16 * i))).take (16 * i) ++
    carryBytes addr (s.fld PWR_SAFE.INDEX) (s.pair CMP_PARAPET_SEQ.SEQ) ++ padTo (112 - 16 * i) (old.drop (16 * i + 16))

/-- Save address, safe-image index, parapet SEQ and REMOVED in the settings of the active slot (R386, R473). -/
def State.saveSettings (s : State) : State :=
  match s.activeSlot with
  | none => s
  | some i =>
    if s.isPeer then s else
    match s.settingsAt i with
    | none => s
    | some (_, a) =>
      let used := leNat (s.flashRead (a + 12) 4)
      State.putSettings { s with dia := { s.dia with unsaved := none } } i (leNat (s.flashRead (a + 8) 2))
        (s.carryNow (s.flashRead (a + 32) 128)) (removedBytes s.removedLamps) (s.flashRead (a + 135168) (used - 135168))

/-- REMOVED_SAVE: within 10 s of a change the REMOVED bits, and with them an address newly assigned (R221), are written to the
settings of the active slot; the write waits while a warning stands (R386, R449). -/
def onRemovedSave (s : State) : State :=
  if s.restarting ∨ s.flashHeld ∨ s.dia.unsaved.isNone then s else s.saveSettings

/-- Bytes that the spec leaves to the firmware: free values. -/
def State.freeBytes (s : State) (n : Nat) : List Byte × State :=
  ((List.range n).map fun i => BitVec.ofNat 8 (Config.freeValue (s.drawn + i)), { s with drawn := s.drawn + n })

/-- A BODY of the firmware's own making: its length and its bytes are the firmware's (log entry 2). -/
def State.freeBody (s : State) : List Byte × State :=
  let n := s.free % (1048576 - 135168 + 1)
  s.draw.freeBytes n

/-- The first start of a slot's firmware with its own settings area empty: CARRY and REMOVED of the other area, BODY where
the format can be read; the case of EV_FWU_STARTED (R474). -/
def State.carrySettings (s : State) (i : Nat) : State × Nat :=
  let fmt := leNat (s.fwBytes i 6 2)
  let readable := fmt :: ((List.range 4).map fun k => leNat (s.fwBytes i (8 + 2 * k) 2)).filter (· ≠ 0)
  match s.settingsAt (1 - i) with
  | some (_, a) =>
    let carry := s.flashRead (a + 32) 128
    let removed := s.flashRead (a + 4096) 131072
    let body := s.flashRead (a + 135168) (leNat (s.flashRead (a + 12) 4) - 135168)
    let old := leNat (s.flashRead (a + 8) 2)
    if old = fmt then (s.putSettings i fmt carry removed body, 0)
    else
      let x := s.freeBody
      (x.2.putSettings i fmt carry removed x.1, if old ∈ readable then 0 else 1)
  | none =>
    let x := s.freeBody
    (x.2.putSettings i fmt (List.replicate 128 0) (List.replicate 131072 0) x.1, 2)

/-- The parapet SEQ of this device in a settings area; 0 without a valid copy. -/
def State.savedSeq (s : State) (i : Nat) : Nat :=
  match s.settingsAt i with
  | some (_, a) => leNat (s.flashRead (a + 32 + 16 * s.pins.ftId + 8) 8)
  | none => 0

/-- What the firmware takes from its settings: the preferred address, the safe-image index, the greater parapet SEQ of the
two areas, the REMOVED bits (R221, R386, R459, R474). -/
def State.takeSettings (s : State) (i : Nat) : State :=
  let s := s.setPair CMP_PARAPET_SEQ.SEQ (max (s.savedSeq 0) (s.savedSeq 1))
  match s.settingsAt i with
  | none => s
  | some (_, a) =>
    let c := s.flashRead (a + 32 + 16 * s.pins.ftId) 16
    let s := (s.setFld VIA_SELF.PREF (leAt c 0 2 % 4096)).setFld PWR_SAFE.INDEX (leAt c 2 1 % 64)
    if s.isPeer then s
    else
      let removed := removedOf (s.flashRead (a + 4096) 131072)
      let gone := s.removedLamps.filter (· ∉ removed)
      let s := gone.foldl (fun s j => s.setRemoved j false) s
      let s := removed.foldl (fun s j => s.setRemoved j true) s
      { s with dia := { s.dia with unsaved := none } }

/-! ### The safe image (R459, R460) -/

/-- A lamp image: LAMPS, its writes and its grey values, where it is valid. -/
def State.safeImage (s : State) (i : Nat) : Option (Nat × List (Nat × Nat) × List Byte) :=
  match s.safeEntry i with
  | some (2, r) =>
    let lamps := leAt r 12 4
    let n := leAt r 16 4
    let ws := paramsIn (bytesAt r 256 (8 * n))
    let good (p : Nat × Nat) : Bool := decide (0x200000 ≤ p.1) && decide (p.1 < 0x240000) && decide (p.1 % 4 = 0) && paramMay p.1 &&
      (match regAt p.1 with | some (d, _, hi) => valueOk d hi p.2 | none => false)
    if leAt r 10 1 = 3 ∧ 1 ≤ lamps ∧ lamps ≤ 1048576 ∧ n ≤ 256 ∧ r.length = 256 + 8 * n + 2 * lamps ∧ ws.all good ∧
      s.parapetKeyOk (bytesAt r 160 96) ∧ recordSigOk r then some (lamps, ws, r.drop (256 + 8 * n)) else none
  | _ => none

/-- A write of a safe image to a register of the STR block; a PHASE above PHASE_MAX is refused (R346). -/
def State.strWrite (s : State) (a v : Nat) : State :=
  match regAt a with
  | some (d, _, _) =>
    if d.base = STR_FAN_PHASE.PHASE.base ∧ s.fld STR_LIMIT.PHASE_MAX < bits v 0 12 then s
    else s.setWord a (BitVec.ofNat 32 (d.fields.foldl (writeField v) (s.word a (resetWord a).toNat).toNat))
  | none => s

/-- With no bit-stream in force the firmware verifies entry PWR_SAFE.INDEX, copies its grey values into both halves of
LAMP_BUF's place in bank 0 and applies its writes; the image shows from first light. -/
def State.prepareSafe (s : State) : State :=
  if s.flag CFG_STATUS.IN_FORCE then s else
  let i := s.fld PWR_SAFE.INDEX
  match s.safeImage i with
  | none =>
    State.raise { s.setFlag PWR_SAFE.VALID false with pwr := { s.pwr with safe := false } } 0x1905 [(16, 1, i), (17, 1, 1)]
  | some (_, ws, grey) =>
    let put (d : Memory) (a : Nat) : Memory := putBlock blank (Sparse.clear d a 0x200000) a grey
    let s : State := { s with mem := { s.mem with deck := put (put s.mem.deck 0) 0x200000 } }
    let s := ws.foldl (fun (s : State) p => s.strWrite p.1 p.2) s
    { s.hardMark.setFlag PWR_SAFE.VALID true with pwr := { s.pwr with safe := ! s.flag PWR_SAFE.SHOWN } }

/-! ### Start and restart of the tollhouse (R30, R471) -/

/-- XFER and RX_PORT show the transfers in progress. -/
def State.showXfer (s : State) : State :=
  (s.setFld FWU_STATUS.XFER (if s.fwu.rx.isSome then 1 else if s.fwu.offers ≠ [] then 3 else 0)).setFld FWU_STATUS.RX_PORT
    (match s.fwu.rx with | some r => r.port | none => s.fld FWU_STATUS.RX_PORT)

/-- The CMD_FWU_FORWARD in progress completes once no port of it is left (R483). -/
def State.forwardDone (s : State) : State :=
  match s.fwu.fwd with
  | some (q, tag, took) =>
    if s.fwu.offers = [] then
      let s : State := { s with fwu := { s.fwu with fwd := none } }
      match s.cmdAt q tag 0x1502 with
      | some c => s.finish c stOk (result [(16, 2, took)])
      | none => s
    else s
  | none => s

/-- Transfers are abandoned, their parts kept (R481). -/
def State.dropTransfers (s : State) : State :=
  State.showXfer (State.forwardDone { s with fwu := { s.fwu with rx := none, offers := [], writing := none } })

/-- The tollhouse restarts: its work stops until the restart ends (R30), transfers are abandoned. -/
def State.restartTollhouse (s : State) : State :=
  let s := State.dropTransfers { s with fnt := { s.fnt with restarting := true } }
  { s with fwu := { s.fwu with started := false } }

/-- TOLLHOUSE_RESTART: the tollhouse restarts. -/
def onTollhouseRestart (s : State) : State := if s.restarting then s else s.restartTollhouse

/-- A slot that was TRIED is withdrawn at a start. -/
def State.dropTried (s : State) (i : Nat) : State :=
  if s.slotState i = slTried then (s.putSlotState i slBad).raise 0x1507 [(16, 1, i), (17, 1, 0)] else s

/-- The candidates of R471, highest GEN first. -/
def State.candidates (s : State) : List Nat :=
  let ok (i : Nat) : Bool := decide (s.bootState i ∈ (if s.isPeer then [slTried, slGood] else [slTrial, slGood]))
  let order := if s.slotGen 0 < s.slotGen 1 then [1, 0] else [0, 1]
  order.filter ok

/-- Start the first candidate that passes checks 1 to 6; one that fails is BAD. -/
def State.chooseSlot (s : State) : List Nat → State × Option Nat
  | [] => (s, none)
  | i :: is =>
    match s.imageCheck (s.slotRead i) with
    | none => (s, some i)
    | some _ => if s.isPeer then s.chooseSlot is else ((s.putSlotState i slBad).raise 0x1507 [(16, 1, i), (17, 1, 2)]).chooseSlot is

/-- The firmware of slot `i` starts: settings, EV_FWU_STARTED, the safe image. -/
def State.startFirmware (s : State) (i : Nat) : State :=
  let s := if s.slotState i = slTrial then s.putSlotState i slTried else s
  let s := ((s.setFld FWU_STATUS.ACTIVE (i + 1)).setFlag FWU_STATUS.RECOVERY false).setFld FWU_SVN.CUR (leNat (s.fwBytes i 4 1))
  let s := s.setFld LDG_FW.ACTIVE (i + 1)
  let s : State := { s.showSlots with fwu := { s.showSlots.fwu with started := true, since := s.clock } }
  let (s, how) : State × Nat := if (s.settingsAt i).isSome ∨ s.isPeer then (s, 0) else s.carrySettings i
  let s := s.takeSettings i
  (s.raise 0x1505 [(16, 1, i), (20, 4, s.slotGen i), (24, 1, how)]).usePresent.prepareSafe

/-- With no candidate the ROM enters recovery (R480): the strands stay stopped, no command queue is served, the ports of the
fused pairs come up as far as they are bound (the footing links are up since the root PLL locked). -/
def State.enterRecovery (s : State) : State :=
  let s := ((s.setFld FWU_STATUS.ACTIVE 0).setFlag FWU_STATUS.RECOVERY true).setFld LDG_FW.ACTIVE 0
  let s : State := { s.showSlots with fnt := { s.fnt with restarting := false }, str := { s.str with off := true } }
  let s := (s.bypassPorts.filter fun k => !(s.binding k).footing).foldl (fun s k => s.setSpanEnable k true) s.usePresent
  s.showStr.raiseHeld 0x1508 []

/-- TOLLHOUSE_START: the recovery ROM withdraws TRIED slots, chooses and verifies the active slot, or enters recovery. It
waits while a warning keeps flash writes back (R449). -/
def onTollhouseStart (s : State) : State :=
  if ¬ s.restarting ∨ s.fwu.started ∨ s.flashHeld then s
  else
    let s := (s.dropTried 0).dropTried 1
    match s.chooseSlot s.candidates with
    | (s, some i) => s.startFirmware i
    | (s, none) => s.enterRecovery

/-! ### Sending images (R475, R477) -/

/-- Image bytes of a chunk. -/
def chunkBytes : Nat := 131072

/-- Chunks of an image. -/
def chunksOf (len : Nat) : Nat := (len + chunkBytes - 1) / chunkBytes

/-- The CHUNK message of index `n` of a slot. -/
def State.chunkMsg (s : State) (i n : Nat) : List Byte :=
  let bs := s.flashRead (slotBase i + chunkBytes * n) chunkBytes
  beBytes 4 n ++ beBytes 4 (crc32c bs) ++ bs

/-- Whether chunk `n` of a slot may be sent: the slot is verified, or the chunk has been read back (R477). -/
def State.chunkReady (s : State) (i n : Nat) : Bool :=
  decide (s.slotState i ∉ [slEmpty, slBad]) ||
    (decide (i = s.spareSlot) && decide (min (chunkBytes * (n + 1)) (s.slotLen i) ≤ s.fld FWU_WRITTEN.LEN))

/-- The offer on a port, stored. -/
def State.setOffer (s : State) (k : Nat) (x : FwuOffer) : State :=
  { s with fwu := { s.fwu with offers := Sparse.set s.fwu.offers k x } }

/-- Send the next chunk of an accepted offer, or END once all are answered and the own copy is verified. -/
def State.pushOne (s : State) (k : Nat) : State :=
  match Sparse.find s.fwu.offers k with
  | none => s
  | some x =>
    let n := chunksOf (s.slotLen x.slot)
    if ¬ x.taken ∨ x.ended then s
    else if x.next < n then
      (if x.unans < 4 ∧ s.chunkReady x.slot x.next then
        (s.setOffer k { x with next := x.next + 1, unans := x.unans + 1 }).sendMsg (.neighbour k) 2 0x11 0 (s.chunkMsg x.slot x.next) true
      else s)
    else if x.unans = 0 ∧ s.slotState x.slot ∉ [slEmpty, slBad] then
      (s.setOffer k { x with ended := true }).sendMsg (.neighbour k) 2 0x12 0 (s.slotHash x.slot) true
    else s

/-- Send what an offer may send now: at most 4 chunks are unanswered. -/
def State.push (s : State) (k : Nat) : State := (List.range 5).foldl (fun s _ => s.pushOne k) s

/-- The payload of an OFFER of a slot. -/
def State.offerMsg (s : State) (i : Nat) : List Byte :=
  beBytes 4 (s.slotLen i) ++ s.slotHash i ++ beBytes 4 (s.slotVersion i) ++ List.replicate 4 0

/-- Offer a slot on a port. -/
def State.offerOn (s : State) (i k : Nat) : State :=
  if s.portUp k then
    ((s.setOffer k ⟨i, false, false, 0, 0, 0, none⟩).sendMsg (.neighbour k) 2 0x10 0 (s.offerMsg i) true).showXfer
  else s

/-- In HW mode an image is offered on every UP port but the one it came from and the footing links. -/
def State.offerAll (s : State) (i src : Nat) : State :=
  if s.assist 20 then s
  else (portsWhere 16 fun k => s.portUp k && decide (k ≠ src) && !(s.binding k).footing).foldl (fun s k => s.offerOn i k) s

/-- An offer ends; `took` when the far end verified the image. -/
def State.endOffer (s : State) (k : Nat) (took : Bool) : State :=
  let fwd := s.fwu.fwd.map fun f => (f.1, f.2.1, if took then f.2.2 ||| 2 ^ k else f.2.2)
  State.showXfer (State.forwardDone { s with fwu := { s.fwu with offers := Sparse.erase s.fwu.offers k, fwd := fwd } })

/-- The answer to an OFFER (R477). -/
def State.offerAnswer (s : State) (k : Nat) (bs : List Byte) : State :=
  match Sparse.find s.fwu.offers k with
  | none => s
  | some x =>
    match beAt bs 0 1 with
    | 0 => (s.setOffer k { x with taken := true, next := beAt bs 4 4 / chunkBytes, retry := none }).push k
    | 2 => if 60 ≤ x.tries then s.endOffer k false
        else s.setOffer k { x with tries := x.tries + 1, retry := some (s.clock + 1000 * ms) }
    | _ => s.endOffer k false

/-- The answer to a CHUNK: on a CRC mismatch the chunk is sent again. -/
def State.chunkAnswer (s : State) (k : Nat) (sent bs : List Byte) : State :=
  match Sparse.find s.fwu.offers k with
  | none => s
  | some x =>
    if beAt bs 0 1 = 0 then (s.setOffer k { x with unans := x.unans - 1 }).push k
    else s.sendMsg (.neighbour k) 2 0x11 0 (s.chunkMsg x.slot (beAt sent 0 4)) true

/-- The answer to an END. -/
def State.endAnswer (s : State) (k : Nat) (bs : List Byte) : State :=
  if (Sparse.find s.fwu.offers k).isSome then s.endOffer k (beAt bs 0 2 = 0) else s

/-- OFFER_RETRY: an offer answered BUSY is made again after 1 s. -/
def onOfferRetry (s : State) : State :=
  if s.restarting then s
  else s.fwu.offers.foldl (fun (s : State) p =>
    match p.2.retry with
    | some t => if t ≤ s.clock then
        (s.setOffer p.1 { p.2 with retry := none }).sendMsg (.neighbour p.1) 2 0x10 0 (s.offerMsg p.2.slot) true else s
    | none => s) s

/-- The slot that CMD_FWU_FORWARD offers: the one that is not active when it holds a verified image, else the active one. -/
def State.heldSlot (s : State) : Option Nat :=
  if s.slotState s.spareSlot ∈ [slWritten, slGood] then some s.spareSlot
  else s.activeSlot.filter fun i => decide (s.slotState i ∉ [slEmpty, slBad])

/-- CMD_FWU_FORWARD: offer the held image on the ports of a mask. -/
def onCmdFwuForward (q : Fin 24) (tag : Nat) (s : State) : State :=
  match s.cmd q tag 0x1502 with
  | none => s
  | some c =>
    match s.heldSlot with
    | none => s.finish c 0x150B
    | some i =>
      if s.fwu.fwd.isSome ∨ s.fwu.rx.isSome then s.finish c 0x150F
      else
        let s : State := { s.run c with fwu := { s.fwu with fwd := some (c.q, c.id, 0) } }
        let s := (portsWhere 16 fun k => bits (c.opnd 32 2) k 1 = 1).foldl (fun s k => s.offerOn i k) s
        s.forwardDone

/-- A safe point of CMD_FWU_FORWARD lies between chunks: the transfer stops, the receiver keeps its part (R481). -/
def State.forwardStop (s : State) (c : Cmd) : State :=
  if s.fwu.fwd.any fun f => decide (f.1 = c.q ∧ f.2.1 = c.id) then
    State.showXfer (State.finish { s with fwu := { s.fwu with fwd := none, offers := [] } } c stAborted)
  else s

/-! ### Receiving images (R476) -/

/-- Program bytes of an image into a slot at an offset; GEN, STATE and what follows them in the header stay erased. -/
def State.imagePut (s : State) (i off : Nat) (bs : List Byte) : State :=
  s.flashPut (slotBase i + off)
    (bs.zipIdx.map fun p => if 3584 ≤ off + p.2 ∧ off + p.2 < 4096 then erased else p.1)

/-- A slot takes GEN and TRIAL (R479). -/
def State.putTrial (s : State) (i : Nat) : State :=
  let g (j : Nat) : Nat := if s.slotGen j = 0xFFFFFFFF then 0 else s.slotGen j
  (s.flashPut (slotBase i + 3584) (leBytes 4 (max (g 0) (g 1) + 1))).putSlotState i slTrial

/-- The slot and its settings area are erased for a new image. -/
def State.eraseSlot (s : State) (i : Nat) : State :=
  (((s.flashErase (slotBase i) slotBytes).flashErase (copyBase i 0) 0x200000).setFld FWU_WRITTEN.LEN 0).showSlots

/-- The active slot is on trial: no image is accepted (rule 1 of R476). -/
def State.onTrial (s : State) : Bool :=
  match s.activeSlot with
  | some i => decide (s.slotState i = slTrial) || decide (s.slotState i = slTried)
  | none => false

/-- Something that a new image would disturb is in progress (rule 3 of R476). -/
def State.fwuBusy (s : State) : Bool := s.fwu.rx.isSome || decide (s.fwu.offers ≠ []) || s.flag FWU_STATUS.SCHED

/-- The ANSWER to an OFFER of IMAGE_LEN and IMG_HASH. -/
def State.offerRule (s : State) (len : Nat) (hash : List Byte) : Nat :=
  if ¬ s.flag FWU_CFG.RX_EN ∨ s.onTrial ∨ s.isPeer ∨ len < 4096 ∨ 25165824 < len then 3
  else if [0, 1].any fun i => decide (s.slotState i ∉ [slEmpty, slBad]) && decide (s.slotHash i = hash) then 1
  else if s.fwuBusy ∨ s.fwu.writing.isSome then 2
  else 0

/-- With CUT an image is offered on as soon as its first chunk, which holds its header, has been read back (R477). -/
def State.offerCut (s : State) (i k : Nat) : State :=
  if s.flag FWU_CFG.CUT ∧ ¬ s.flag FWU_STATUS.RECOVERY then s.offerAll i k else s

/-- OFFER: a received OFFER is answered; ACCEPT resumes a part of the same image or erases the slot. -/
def onOffer (s : State) : State :=
  if s.flashHeld then s else s.onMsg 0x10 fun k m s =>
    let len := beAt m.payload 0 4
    let hash := bytesAt m.payload 4 48
    let a := s.offerRule len hash
    if a ≠ 0 then s.respond m (beBytes 1 a ++ List.replicate 7 0)
    else
      let i := s.spareSlot
      let part := decide (0 < s.fld FWU_WRITTEN.LEN) && decide (s.slotHash i = hash)
      let s := if part then s else s.eraseSlot i
      let s : State := { s with fwu := { s.fwu with rx := some ⟨k, hash, len⟩ } }
      let s := s.respond m (List.replicate 4 0 ++ beBytes 4 (s.fld FWU_WRITTEN.LEN))
      (if part then s.offerCut i k else s).showXfer

/-- The transfer received ends with a status other than ST_OK: EV_FWU_REJECTED; in recovery FWU_RECOVER_ERR. -/
def State.rejectImage (s : State) (port st : Nat) : State :=
  let s : State := { s with fwu := { s.fwu with rx := none } }
  let s := (s.setFld FWU_WRITTEN.LEN 0).raise 0x1502 [(16, 2, st), (18, 1, port)]
  (if s.flag FWU_STATUS.RECOVERY then s.setFld FWU_RECOVER_ERR.ERR (st % 256) else s).showXfer

/-- CHUNK: a chunk is programmed and read back; `bad` read-backs of it mismatched, and the second ends the transfer. -/
def onChunk (bad : Fin 3) (s : State) : State :=
  if s.flashHeld then s else s.onMsg 0x11 fun k m s =>
    match s.fwu.rx with
    | none => s.respond m [1]
    | some r =>
      let n := beAt m.payload 0 4
      let bs := m.payload.drop 8
      let off := chunkBytes * n
      let at' := s.fld FWU_WRITTEN.LEN
      if r.port ≠ k ∨ off ≠ at' ∨ r.len ≤ off ∨ bs.length ≠ chunkBytes ∨ beAt m.payload 4 4 ≠ crc32c bs then s.respond m [1]
      else if bad.val = 2 then (s.respond m [1]).rejectImage k 0x1509
      else
        let bs := bs.take (r.len - off)
        let s := (s.imagePut s.spareSlot off bs).setFld FWU_WRITTEN.LEN (off + bs.length)
        let s := (s.respond m [0]).unitRun 1 (s.flashRead (slotBase s.spareSlot + off) bs.length)
        let s := if n = 0 then s.offerCut s.spareSlot k else s
        s.fwu.offers.foldl (fun s p => s.push p.1) s

/-- END: the slot is verified; WRITTEN and EV_FWU_RECEIVED, or EMPTY and EV_FWU_REJECTED. In recovery the slot takes GEN
and TRIAL and the tollhouse restarts. -/
def onFwuEnd (s : State) : State :=
  if s.flashHeld then s else s.onMsg 0x12 fun k m s =>
    match s.fwu.rx with
    | none => s.respond m (beBytes 2 0x1501)
    | some r =>
      if r.port ≠ k ∨ m.payload ≠ r.hash then s.respond m (beBytes 2 0x1501)
      else
        let i := s.spareSlot
        let st := if s.slotHash i ≠ r.hash then 0x1505 else match s.verifySlot i with | some f => f.1 | none => stOk
        let s := s.respond m (beBytes 2 st)
        if st ≠ stOk then
          let s := s.fwu.offers.foldl (fun s p => if p.2.slot = i then s.endOffer p.1 false else s) s
          s.rejectImage k st
        else
          let s := s.putSlotState i slWritten
          let s : State := { s with fwu := { s.fwu with rx := none } }
          let s := s.raise 0x1501 [(16, 8, leAt r.hash 0 8), (24, 1, k)]
          if s.flag FWU_STATUS.RECOVERY then ((s.putTrial i).setFlag FWU_STATUS.RECOVERY false).restartTollhouse
          else
            let s := s.fwu.offers.foldl (fun s p => s.push p.1) s
            let s := if s.assist 20 then s
              else (portsWhere 16 fun j => s.portUp j && decide (j ≠ k) && !(s.binding j).footing &&
                (Sparse.find s.fwu.offers j).isNone && ! s.flag FWU_CFG.CUT).foldl (fun s j => s.offerOn i j) s
            s.showXfer

/-- CMD_FWU_WRITE: a chunk of an image from the host into the slot that is not active; verification at LAST (R481). -/
def onCmdFwuWrite (q : Fin 24) (tag : Nat) (s : State) : State :=
  match s.cmd q tag 0x1501 with
  | none => s
  | some c =>
    if s.flashHeld then s else
    let off := c.opnd 32 4
    let first := decide (c.opnd 36 1 % 2 = 1)
    let last := decide (c.opnd 36 1 / 2 % 2 = 1)
    let bs := s.payload c
    let i := s.spareSlot
    let total := if first then leAt bs 8 4 else s.fwu.writing.getD 0
    if s.isPeer ∨ (first ∧ (¬ s.flag FWU_CFG.RX_EN ∨ s.onTrial)) then s.finish c 0x150A
    else if first ∧ s.fwuBusy then s.finish c 0x150F
    else if first ∧ (off ≠ 0 ∨ bs.length < 512) then s.finish c 0x1501
    else if ¬ first ∧ (s.fwu.writing.isNone ∨ off ≠ s.fld FWU_WRITTEN.LEN) then s.finish c 0x1501
    else if first ∧ (total < 4096 ∨ slotBytes < total) then s.finish c 0x1502
    else if total < off + bs.length ∨ (last ∧ off + bs.length ≠ total) then s.finish c 0x1501
    else
      let s := if first then s.eraseSlot i else s
      let s := (s.imagePut i off bs).setFld FWU_WRITTEN.LEN (off + bs.length)
      if ¬ last then State.finish { s with fwu := { s.fwu with writing := some total } } c stOk
      else
        let s : State := { s with fwu := { s.fwu with writing := none } }
        match s.verifySlot i with
        | some f => (s.setFld FWU_WRITTEN.LEN 0).finish c f.1 (if f.1 = 0x1508 then result [(20, 2, f.2)] else [])
        | none => (s.putSlotState i slWritten).finish c stOk

/-- A safe point of CMD_FWU_WRITE, reached when `n` MiB of its chunk are written: the bytes written are kept, and a chunk
at FWU_WRITTEN continues (R481). -/
def State.fwuWriteStop (s : State) (c : Cmd) (n : Nat) : State :=
  let bs := s.payload c
  let off := c.opnd 32 4
  let first := decide (c.opnd 36 1 % 2 = 1)
  if s.flashHeld ∨ s.isPeer ∨ c.opcode ≠ 0x1501 ∨ bs.length ≤ n * mib ∨ off ≠ (if first then 0 else s.fld FWU_WRITTEN.LEN) ∨
    (first ∧ (s.onTrial ∨ s.fwuBusy ∨ ¬ s.flag FWU_CFG.RX_EN)) ∨ (¬ first ∧ s.fwu.writing.isNone) then s
  else
    let i := s.spareSlot
    let s := if first then s.eraseSlot i else s
    let s : State := { s with fwu := { s.fwu with writing := some (if first then leAt bs 8 4 else s.fwu.writing.getD 0) } }
    ((s.imagePut i off (bs.take (n * mib))).setFld FWU_WRITTEN.LEN (off + n * mib)).finish c stAborted

/-! ### Activation (R478, R479) -/

/-- The slot that is not active holds an image in WRITTEN. -/
def State.holdsImage (s : State) (hash : List Byte) : Bool :=
  decide (s.slotState s.spareSlot = slWritten) && decide (s.slotHash s.spareSlot = hash)

/-- Schedule an activation. -/
def State.schedule (s : State) (at' : Nat) : State := (s.setPair FWU_AT.AT at').setFlag FWU_STATUS.SCHED true

/-- CMD_FWU_ACTIVATE: schedule an activation and broadcast ACTIVATE. -/
def onCmdFwuActivate (q : Fin 24) (tag : Nat) (s : State) : State :=
  match s.cmd q tag 0x1503 with
  | none => s
  | some c =>
    let hash := s.payload c
    let at' := c.opnd 40 8
    if ! s.holdsImage hash then s.finish c 0x150B
    else if at' < s.now + 600000000 then s.finish c 0x150C
    else
      let s := s.schedule at'
      let s := if c.opnd 32 1 % 2 = 1 then s else s.sendMsg .all 2 0x13 0 (hash ++ beBytes 8 at') false
      s.finish c stOk

/-- ACTIVATE: a received ACTIVATE schedules the activation, or raises EV_FWU_ACT_MISSING. -/
def onActivate (s : State) : State := s.onMsg 0x13 fun _ m s =>
  let at' := beAt m.payload 48 8
  if s.isPeer then s
  else if ! s.holdsImage (bytesAt m.payload 0 48) then s.raise 0x1504 [(16, 1, 0)]
  else if at' ≤ s.now then s.raise 0x1504 [(16, 1, 1)]
  else (s.schedule at').raise 0x1503 [(16, 8, at')]

/-- CMD_FWU_CANCEL: cancel the local schedule. -/
def onCmdFwuCancel (q : Fin 24) (tag : Nat) (s : State) : State :=
  match s.cmd q tag 0x1504 with
  | none => s
  | some c => ((s.setPair FWU_AT.AT 0).setFlag FWU_STATUS.SCHED false).finish c stOk

/-- The activation that has fallen due: GEN and TRIAL, and the tollhouse restarts. It waits while a warning stands (R449)
and while the tollhouse restarts. -/
def State.activateDue (s : State) : State :=
  if s.flag FWU_STATUS.SCHED ∧ s.pair FWU_AT.AT ≤ s.now ∧ ¬ s.flashHeld ∧ ¬ s.restarting then
    let s := (s.setPair FWU_AT.AT 0).setFlag FWU_STATUS.SCHED false
    if s.slotState s.spareSlot = slWritten then (s.putTrial s.spareSlot).restartTollhouse else s
  else s

/-- FWU_ACTIVATE_AT: at AT while no cadence runs. -/
def onFwuActivateAt (s : State) : State := if s.cadence then s else s.activateDue

/-! ### Commit, fallback, SVN (R472, R483) -/

/-- The active slot becomes GOOD. -/
def State.commitSlot (s : State) (i : Nat) : State := (s.putSlotState i slGood).raise 0x1506 [(16, 1, i)]

/-- The slot's bit-stream is in force, or the slot holds none. -/
def State.streamInForce (s : State) (i : Nat) : Bool :=
  let bs := s.slotStream i
  bs.isEmpty || (s.flag CFG_STATUS.IN_FORCE && structHash bs == s.hashInForce)

/-- FW_COMMIT_TIMER: in HW mode the firmware commits its slot once it has run COMMIT_S seconds. -/
def onFwCommitTimer (s : State) : State :=
  match s.activeSlot with
  | none => s
  | some i =>
    if ¬ s.restarting ∧ ¬ s.assist 20 ∧ ¬ s.flashHeld ∧ s.slotState i = slTried ∧
      s.fwu.since + s.fld FWU_CFG.COMMIT_S * 1000 * ms ≤ s.clock ∧ s.streamInForce i then s.commitSlot i
    else s

/-- CMD_FWU_COMMIT: commit the active slot at once. -/
def onCmdFwuCommit (q : Fin 24) (tag : Nat) (s : State) : State :=
  match s.cmd q tag 0x1505 with
  | none => s
  | some c =>
    match s.activeSlot.filter fun i => decide (s.slotState i = slTried) with
    | none => s.finish c 0x1501
    | some i => if s.flashHeld then s else (s.commitSlot i).finish c stOk

/-- CMD_FWU_FALLBACK: the active slot becomes BAD and the tollhouse restarts, when the other slot is GOOD. -/
def onCmdFwuFallback (q : Fin 24) (tag : Nat) (s : State) : State :=
  match s.cmd q tag 0x1506 with
  | none => s
  | some c =>
    match s.activeSlot.filter fun i => decide (s.slotState (1 - i) = slGood) with
    | none => s.finish c 0x150D
    | some i =>
      if s.flashHeld then s
      else (((s.putSlotState i slBad).raise 0x1507 [(16, 1, i), (17, 1, 1)]).finish c stOk).restartTollhouse

/-- CMD_FWU_SVN_RAISE: fuse a higher minimum. -/
def onCmdFwuSvnRaise (q : Fin 24) (tag : Nat) (s : State) : State :=
  match s.cmd q tag 0x1507 with
  | none => s
  | some c =>
    let v := c.opnd 32 1
    if v < s.fuses.fwSvn ∨ s.fld FWU_SVN.CUR < v then s.finish c 0x150E
    else State.finish { s.setFld FWU_SVN.MIN v with fuses := { s.fuses with fwSvn := v } } c stOk

/-! ### Recovery (R480) -/

/-- RECOVER_REQ: a neighbour in recovery asks for an image; the active slot is offered when SERVE is set and it is GOOD. -/
def onRecoverReq (s : State) : State := s.onMsg 0x14 fun k _ s =>
  match s.activeSlot with
  | some i => if s.flag FWU_CFG.SERVE ∧ s.slotState i = slGood ∧ (Sparse.find s.fwu.offers k).isNone then s.offerOn i k else s
  | none => s

/-- RECOVER_REQ_SEND: in recovery the ROM asks on each UP port every 1 s. -/
def onRecoverReqSend (s : State) : State :=
  if s.flag FWU_STATUS.RECOVERY ∧ s.fwu.reqAt + 1000 * ms ≤ s.clock then
    (portsWhere 16 s.portUp).foldl (fun s k => s.sendMsg (.neighbour k) 2 0x14 0 [0] false)
      { s with fwu := { s.fwu with reqAt := s.clock } }
  else s

/-- The host path of recovery, started by GO: the deck copy is verified by checks 1 to 6, written to the named slot and read
back (`bad` read-backs mismatched); on success the slot takes GEN and TRIAL and the tollhouse restarts. -/
def State.recoverGo (s : State) (bad : Fin 3) : State :=
  if ¬ s.flag FWU_STATUS.RECOVERY ∨ s.flashHeld then s
  else
    let len := s.fld FWU_RECOVER.LEN
    let i := s.fld FWU_RECOVER.SLOT
    let image := s.memRead false 0x400000 len
    let rd : Nat → Nat → List Byte := fun o n => bytesAt image o n
    let fail (st : Nat) : State := s.setFld FWU_RECOVER_ERR.ERR (st % 256)
    match s.imageCheck rd with
    | some st => fail st
    | none =>
      if slotBytes < len ∨ len ≠ leAt image 8 4 then fail 0x1502
      else if bad.val = 2 then fail 0x1509
      else
        let s := ((s.eraseSlot i).imagePut i 0 image).unitRun 2 image
        (((s.putSlotState i slWritten).putTrial i).setFlag FWU_STATUS.RECOVERY false).restartTollhouse

/-! ### Resets (R481) -/

/-- A per-function reset of FN_FWU abandons transfers; the schedule and the slots stay. -/
def State.fwuReset (s : State) : State := State.showXfer { s with fwu := { s.fwu with rx := none, offers := [], writing := none, fwd := none } }

end Sys2Proof.Machine
end

