-- ==== Sys2Proof/Machine/Power.lean ====
section
/-! DEFINITION. FN_PWR (spec/18_power_startup.md): supplies and brown-out, device resets, the root PLL, power states, waking,
the band-gap. -/

namespace Sys2Proof.Machine

/-! ### Device resets (R447, R453) -/

/-- A device reset begins with its cause, unless one is in progress; `keep` when FN_MEM has put the DRAM in self-refresh for
it. The span fabric stops. -/
def State.holdReset (s : State) (cause supply : Nat) (keep : Bool) : State :=
  if s.pwr.hold.isSome then s
  else onSpanFabricStop { s with pwr := { s.pwr with hold := some (cause, supply), kept := keep, coreEn := true } }

/-- Every register at its Reset value and every function as after a reset; fuses, flash, host memory and the DRAM content where
it was kept stay (R453). -/
def State.rebooted (s : State) (cause supply : Nat) : State :=
  let b := State.boot s.fuses s.pins s.flash cause supply
  { b with
    pending := s.pending, out := s.out, drawn := s.drawn, tap := s.tap
    host := { b.host with mem := s.host.mem }
    span := { b.span with pairs := s.span.pairs, bypass := s.span.bypass, idle := s.span.idle }
    pwr := { b.pwr with down := s.pwr.down }
    mem := { b.mem with
      ext := if s.pwr.kept then s.mem.ext else [], extBad := if s.pwr.kept then s.mem.extBad else [],
      wide := s.flag MEM_CFG.WIDE, map' := s.fld MEM_CFG.MAP } }

/-- The state in which a device reset ends; the relay-set state stays (R453). -/
def State.deviceReset (s : State) (cause supply : Nat) : State :=
  let b := s.rebooted cause supply
  let b := (b.setFlag PWR_RELAY.LATCHED (s.flag PWR_RELAY.LATCHED)).setFld PWR_RELAY.WAKE_NODE (s.fld PWR_RELAY.WAKE_NODE)
  if s.span.bypass then s.bypassPorts.foldl (fun b k => b.setFld SPN_STATUS.STATE spBypass k) b else b

/-- The external memory loses its content. -/
def State.loseExt (s : State) : State := { s with mem := { s.mem with ext := [], extBad := [] } }

/-- DEVICE_RESET_END: the conditions of R447 hold again, and the device reset ends. -/
def onDeviceResetEnd (s : State) : State :=
  match s.pwr.hold with
  | some (cause, supply) => s.deviceReset cause supply
  | none => s

/-- VDD_SERDES is gone: bypass ends and the latched pairs are lost; the fused ones hold when it rises (R451, R457). -/
def State.losePairs (s : State) : State :=
  let s := (s.setFlag PWR_RELAY.LATCHED false).setFld PWR_RELAY.WAKE_NODE 0
  { s with span := { s.span with pairs := s.fuses.pairs, bypass := false } }

/-- POWER_ON: the supplies and the reference clock reach reset conditions at power-up. VDDQ and VDDIO_STR may still be absent. -/
def onPowerOn (vddq strands : Bool) (s : State) : State :=
  let s : State := { s with pwr := { s.pwr with kept := false, down := (if vddq then [] else [4]) ++ (if strands then [] else [6]) }
                            str := StrSt.reset }
  let s := (s.losePairs.deviceReset 1 0).loseExt
  let s : State := { s with mem := { s.mem with wide := true, map' := 2 } }
  { s with str := { s.str with off := ! strands } }

/-- ROOT_PLL_LOCK: the root PLL locks, wall time starts at 0, the span fabric runs, and the recovery ROM brings up the
footing links (R232, R461, R462). -/
def onRootPllLock (s : State) : State :=
  if s.flag GLB_CLK.ROOT_LOCK then s
  else
    let s := ((s.setFlag GLB_CLK.ROOT_LOCK true).setFlag GLB_CLK.CORE_REF true).setFld GLB_CLK.LANE_REF s.pins.laneRef
    let s : State := { s with time := { s.time with wall := 0, frac := 0 }
                              span := { s.span with stopped := none, running := 0, idle := false } }
    (portsWhere 16 fun k => (s.binding k).footing).foldl (fun s k => s.setSpanEnable k true) s

/-- RESET_PIN: RESET_N low for at least 1 µs. Out of P3 the DRAM keeps its content. -/
def onResetPin (s : State) : State := s.holdReset 2 0 (decide (s.fld PWR_STATE.STATE = 3) && s.pwr.kept)

/-- ROOT_PLL_LOSS: the root PLL out of lock, or REFCLK_CORE absent, for 10 µs. -/
def onRootPllLoss (s : State) : State := s.holdReset 4 0 false

/-- A host request for a device reset: the DRAM goes into self-refresh first (R516). -/
def State.hostReset (s : State) : State := s.holdReset 7 0 (s.flag MEM_STATUS.TRAINED && ! s.mem.lost)

/-! ### Brown-out (R448 to R452) -/

/-- Some reason keeps the strands stopped: P2 Dark and below, no VDDIO_STR, recovery. -/
def State.strandsOff (s : State) : Bool :=
  decide (2 ≤ s.fld PWR_STATE.STATE) || decide (6 ∈ s.pwr.down) || s.flag FWU_STATUS.RECOVERY

/-- A frame with blanking counts once in FRAMES. -/
def State.countBlank (s : State) : State :=
  if s.str.brown ∧ s.cadence ∧ ¬ s.pwr.blanked then
    State.bump { s with pwr := { s.pwr with blanked := true } } PWR_BROWN.FRAMES
  else s

/-- The lowest voltage of a supply in the episode takes a sample. -/
def State.lower (s : State) (v mv : Nat) : State :=
  let s : State := { s with pwr := { s.pwr with lowest := Sparse.set s.pwr.lowest v (min mv (Sparse.get mv s.pwr.lowest v)) } }
  s.setFld PWR_SUP_STAT.MV mv v

/-- The nominal voltage of a supply in mV (Table 18-1); that of VDDIO_STR is the one sensed. -/
def State.nominal (s : State) (v : Nat) : Nat :=
  if v = 6 ∧ s.flag STR_GLOBAL.VIO33 then 3300 else [750, 800, 900, 1200, 1100, 1800, 1800, 1800].getD v 0

/-- A supply is below its WARN threshold, WARN × 0.5 % below nominal (R448). -/
def State.belowWarn (s : State) (v mv : Nat) : Bool :=
  decide (mv * 200 < s.nominal v * (200 - s.fld PWR_SUP_CFG.WARN v))

/-- SUPPLY_WARN: a supply has stayed below WARN for 2 µs, at `mv` millivolts; a warning stands. -/
def onSupplyWarn (v : Fin 8) (mv : Nat) (s : State) : State :=
  if ! s.belowWarn v mv then s else
  let s := ((s.lower v mv).setFlag PWR_SUP_STAT.BELOW_WARN true v).setFlag PWR_BROWN.RECOVERING false
  let s := s.setFlag PWR_BROWN.ACTIVE true
  let s := if v.val ∈ s.pwr.warned then s
    else State.raise ({ s with pwr := { s.pwr with warned := s.pwr.warned ++ [v.val] } }.bump PWR_SUP_CNT.WARNS v) 0x1901
      [(16, 1, v.val)]
  let s : State := if s.str.brownOn then { s with str := { s.str with brown := true } } else s
  s.showStr.countBlank

/-- The device resumes: the lamps show, deferred writes may issue, EV_BROWN_WARN reports the lowest voltage of each supply. -/
def State.resume (s : State) : State :=
  let s : State := { s with str := { s.str with brown := false } }
  let s := (s.setFlag PWR_BROWN.ACTIVE false).setFlag PWR_BROWN.RECOVERING false
  let s := s.pwr.warned.foldl (fun (s : State) v => s.raise 0x1901 [(16, 1, v), (17, 1, 1), (18, 2, Sparse.get 0 s.pwr.lowest v)]) s
  State.showStr { s with pwr := { s.pwr with warned := [], lowest := [] } }

/-- A frame start while RECOVERING reads 1: the device resumes, unless the decision of an ASSIST host holds (R450, R452). -/
def State.brownResume (s : State) (frame : Nat) : State :=
  let (d, s) : Option (List Byte) × State := if s.assist 24 then s.useDecision 24 (periodOf frame) else (none, s)
  if ¬ s.flag PWR_BROWN.RECOVERING ∨ (d.map fun bs => leAt bs 0 1) = some 0 then s else s.resume

/-! ### Power states (R454, R455) -/

/-- PEND shows whether a change awaits its moment. -/
def State.showPend (s : State) : State := s.setFlag PWR_STATE.PEND (s.cmdOf 0x1901 .running).isSome

/-- A state takes effect: strands, gated bays, EV_PWR_STATE. -/
def State.enterPower (s : State) (t : Nat) : State :=
  let old := s.fld PWR_STATE.STATE
  let s := s.setFld PWR_STATE.STATE t
  let s : State := if 2 ≤ t then { s with str := { s.str with off := true } } else s
  let s := if t = 1 then s.gateBays true else if old = 1 then s.gateBays false else s
  (s.showStr.showPend).raise 0x1902 [(16, 1, t), (17, 1, old)]

/-- Entry into P3 or P4: flash writes complete, DRAM goes into self-refresh (P3) or loses its content (P4), the node address
is latched, the completion is posted and CORE_EN falls; the cadence ends and the span fabric stops. -/
def State.sleep (s : State) (c : Cmd) (t : Nat) : State :=
  let s := if s.dia.unsaved.isSome then s.saveSettings else s
  let relay := decide (t = 3)
  let s := s.enterPower t
  let s := if relay then s.setFld PWR_RELAY.WAKE_NODE s.self else s
  let s := (s.finish c stOk).showPend
  let s : State := { s with
    pwr := { s.pwr with coreEn := false, kept := relay && s.flag MEM_STATUS.TRAINED && ! s.mem.lost }
    cad := { s.cad with running := false, next := none } }
  let s := onSpanFabricStop s.showStr
  if relay then s else State.loseExt { s with span := { s.span with bypass := false } }

/-- Changes that wait take effect, oldest first; none while a warning stands (R449, R454). -/
def State.powerDue (s : State) : State :=
  if s.flag PWR_BROWN.ACTIVE then s
  else (s.host.cmds.filter fun c => c.opcode = 0x1901 ∧ c.phase = .running).foldl (fun (s : State) c =>
    let t := c.opnd 32 1
    if ! s.awake then s
    else if 3 ≤ t then s.sleep c t
    else ((s.enterPower t).finish c stOk).showPend) s

/-- CMD_PWR_STATE: the present state at once; another at the next frame start, at once without a cadence and for P3. -/
def onCmdPwrState (q : Fin 24) (tag : Nat) (s : State) : State :=
  match s.cmd q tag 0x1901 with
  | none => s
  | some c =>
    let t := c.opnd 32 1
    if t = s.fld PWR_STATE.STATE then s.finish c stOk
    else
      let s := (s.run c).showPend
      if ! s.cadence || decide (t = 3) then s.powerDue else s

/-- Before its effect every moment is a safe point of CMD_PWR_STATE. -/
def State.powerStop (s : State) (c : Cmd) : State := (s.finish c stAborted).showPend

/-- SUPPLY_RECOVER: every warned supply has stayed above WARN plus hysteresis for 1 ms. `low` is the lowest voltage of each
supply by v, 0 where none was measured. Without a cadence the device resumes now. -/
def onSupplyRecover (low : List Nat) (s : State) : State :=
  if ¬ s.flag PWR_BROWN.ACTIVE then s
  else
    let s := s.pwr.warned.foldl (fun (s : State) v =>
      (if low.getD v 0 = 0 then s else s.lower v (low.getD v 0)).setFlag PWR_SUP_STAT.BELOW_WARN false v) s
    let s := s.setFlag PWR_BROWN.RECOVERING true
    if s.cadence then s else s.resume.powerDue

/-- SUPPLY_RESET: a supply has stayed below RESET for 1 µs, with the outcome of Table 18-2. In P3 only the monitors of
VDD_SERDES are armed. -/
def onSupplyReset (v : Fin 8) (s : State) : State :=
  if v.val = 2 ∨ v.val = 3 then s.losePairs.holdReset 3 v.val false
  else if ! s.pwr.coreEn then s
  else if v.val = 4 then
    State.loseExt { s with
      pwr := { s.pwr with down := s.pwr.down ++ (if 4 ∈ s.pwr.down then [] else [4]), kept := false }
      mem := { s.mem with lost := true } }
  else if v.val = 6 then
    State.showStr { s with
      pwr := { s.pwr with down := s.pwr.down ++ (if 6 ∈ s.pwr.down then [] else [6]) }, str := { s.str with off := true } }
  else s.holdReset 3 v.val false

/-- SUPPLY_RETURN_AFTER_RESET: VDDQ or VDDIO_STR is back for 1 ms: training may run again, or the strands come back with the
transition frame of the next frame start. -/
def onSupplyReturnAfterReset (v : Fin 8) (s : State) : State :=
  { s with pwr := { s.pwr with down := s.pwr.down.filter (· ≠ v.val) } }

/-- STRAND_SUPPLY_RISE: VDDIO_STR rises; the next frame start is the transition frame. -/
def onStrandSupplyRise (s : State) : State :=
  { s with pwr := { s.pwr with down := s.pwr.down.filter (· ≠ 6) }, str := { s.str with off := true } }

/-- The strands at a frame start: stopped while a reason stands; once none does, the set in force comes back through a
transition frame (R447, R451, R454). -/
def State.strandFrame (s : State) : State :=
  if s.strandsOff then { s with str := { s.str with off := true } }
  else if s.str.off then
    let s := if s.str.next.isSome then s else s.takeHard s.str.hard
    { s with str := { s.str with off := false } }
  else s

/-! ### Waking (R456) -/

/-- CMD_PWR_WAKE: 16 WAKE planks on an UP port. -/
def onCmdPwrWake (q : Fin 24) (tag : Nat) (s : State) : State :=
  match s.cmd q tag 0x1902 with
  | none => s
  | some c =>
    let k := c.opnd 32 1
    if ! s.portUp k then s.finish c 0x1901
    else ((List.range 16).foldl (fun s _ => s.emit (.wakePlank k (c.opnd 34 2 % 4096) (c.opnd 36 3))) s).finish c stOk

/-- The device sleeps in P3. -/
def State.inRelay (s : State) : Bool := decide (s.fld PWR_STATE.STATE = 3) && ! s.pwr.coreEn

/-- WAKE_PIN: WAKE_N low for at least 1 µs. -/
def onWakePin (s : State) : State := if s.inRelay then s.holdReset 5 0 s.pwr.kept else s

/-- A block that the wake detector takes: an SSTART with plank byte 0 0x60, MAGIC, and TARGET and KEY of this device. -/
def State.wakes (s : State) (b : Block) : Bool :=
  let target := beAt b.bytes 3 2 % 4096
  let key := beAt b.bytes 5 3
  decide (blockCtl b = some sstartType) && decide (beAt b.bytes 1 1 = 0x60) && decide (beAt b.bytes 2 1 = 0x5A) &&
  (decide (target = s.fld PWR_RELAY.WAKE_NODE) || decide (target = 0xFFF)) &&
  (decide (key = 0) || decide (key = s.fuses.serial % 2 ^ 24))

/-- Whether four of some times, in ns and in their order, lie within 100 µs. -/
def fourWithin : List Nat → Bool
  | a :: b :: c :: d :: l => decide (d ≤ a + 100000) || fourWithin (b :: c :: d :: l)
  | _ => false

/-- WAKE_MATCH: blocks come, with their times in ns, on a lane of a port that has a bypass pair; four that match within 100 µs
wake the device. -/
def onWakeMatch (k : Fin 16) (blocks : List (Nat × Block)) (s : State) : State :=
  if s.inRelay ∧ k.val ∈ s.bypassPorts ∧ fourWithin ((blocks.filter fun b => s.wakes b.2).map (·.1)) then
    s.holdReset 6 0 s.pwr.kept
  else s

/-! ### The band-gap (R464) -/

/-- BANDGAP_CHECK: every 1 s the deviation, in 0.01 %, is measured. -/
def onBandgapCheck (dev : Int) (s : State) : State :=
  if s.clock < s.pwr.checked + 1000 * ms then s
  else
    let s : State := { s with pwr := { s.pwr with checked := s.clock } }
    let bad := decide (100 < dev) || decide (dev < -100)
    let was := s.flag PWR_BG.FAULT
    let s := (s.setFld PWR_BG.DEV (uNat 16 dev)).setFlag PWR_BG.FAULT bad
    if bad = was then s else s.raise 0x1904 [(16, 2, uNat 16 dev), (18, 1, b2n bad)]

end Sys2Proof.Machine
end

