-- ==== Sys2Proof/Machine/Ingest.lean ====
section
/-! DEFINITION. Ingest in the abutment (spec/04_ingest.md): SDI receivers, ST 2110-20 flows, PTP, the exact conversion of a
source frame, the sources of a layer and the frame synchroniser. -/

namespace Sys2Proof.Machine

/-! ### Conversion (R107 to R109) -/

/-- A sample of a source row at 12 bits (step 1). -/
def SrcFrame.sample (f : SrcFrame) (y i : Nat) : Int :=
  let x := ((Sparse.get [] f.rows y).getD i none).getD 0
  if f.deep then (bits x 0 12 : Int) else (bits x 0 10 : Int) * 4

/-- The sample of pixel x of a 4:2:2 row: 0 luma, 1 Cb, 2 Cr at chroma position k, edges replicated. -/
def SrcFrame.chroma (f : SrcFrame) (y c : Nat) (k : Int) : Int :=
  let last : Int := ((f.width + 1) / 2 : Nat) - 1
  f.sample y (4 * (sat k 0 last).toNat + (if c = 1 then 0 else 2))

/-- Luma, Cb and Cr of a pixel at 4:4:4 (step 2). -/
def SrcFrame.ycc (f : SrcFrame) (y x : Nat) : Int × Int × Int :=
  if f.full then (f.sample y (3 * x + 1), f.sample y (3 * x), f.sample y (3 * x + 2))
  else
    let k : Int := (x / 2 : Nat)
    let up (c : Nat) : Int :=
      if x % 2 = 0 then f.chroma y c k
      else sat ((-(f.chroma y c (k - 1)) + 9 * f.chroma y c k + 9 * f.chroma y c (k + 1) - f.chroma y c (k + 2) + 8) / 16)
        0 4095
    (f.sample y (4 * (x / 2) + 1 + 2 * (x % 2)), up 1, up 2)

/-- The coefficients kcr_r, kcb_g, kcr_g, kcb_b (Table 4-2). -/
def matrixOf (wide : Bool) : Int × Int × Int × Int :=
  if wide then (24160, 2696, 9361, 30825) else (25802, 3069, 7669, 30402)

/-- Step 3: R'G'B' of a pixel. -/
def matrixRgb (wide : Bool) (p : Int × Int × Int) : Int × Int × Int :=
  let m := matrixOf wide
  let cb := p.2.1 - 2048
  let cr := p.2.2 - 2048
  (sat (p.1 + (m.1 * cr + 8192) / 16384) 0 4095,
    sat (p.1 + (-(m.2.1 * cb) - m.2.2.1 * cr + 8192) / 16384) 0 4095,
    sat (p.1 + (m.2.2.2 * cb + 8192) / 16384) 0 4095)

/-- Step 4: YCoCg-R of R'G'B', as Y, Co, Cg. -/
def forwardYcocg (p : Int × Int × Int) : Int × Int × Int :=
  let co := p.1 - p.2.2
  let t := p.2.2 + co / 2
  let cg := p.2.1 - t
  (t + cg / 2, co, cg)

/-- A pixel of a source frame as the encoder takes it. -/
def SrcFrame.pixel (f : SrcFrame) (y x : Nat) : Int × Int × Int :=
  if f.rgb then forwardYcocg (f.sample y (3 * x), f.sample y (3 * x + 1), f.sample y (3 * x + 2))
  else forwardYcocg (matrixRgb f.wide (f.ycc y x))

/-! ### Sources -/

/-- A source that has delivered nothing. -/
def Feed.reset : Feed := ⟨none, [], 0, 0, 0, true, false, true⟩

/-- A layer bound to nothing. -/
def IngLayer.reset : IngLayer := ⟨0xFF0000, false, false, none, 0, 0, false, false, none⟩

/-- A source: SDI receiver i is i, flow k is 32 + k. -/
def State.source (s : State) (i : Nat) : Feed := Sparse.get Feed.reset s.ing.sources i

/-- Store a source. -/
def State.setSource (s : State) (i : Nat) (x : Feed) : State :=
  { s with ing := { s.ing with sources := Sparse.set s.ing.sources i x } }

/-- A layer. -/
def State.ingLayer (s : State) (l : Nat) : IngLayer := Sparse.get IngLayer.reset s.ing.layers l

/-- Store a layer. -/
def State.setIngLayer (s : State) (l : Nat) (x : IngLayer) : State :=
  { s with ing := { s.ing with layers := Sparse.set s.ing.layers l x } }

/-- KIND of a binding word. -/
def bindKind (w : Nat) : Nat := bits w 0 3

/-- The index that a binding word names: PRIMARY, or BACKUP. -/
def bindIndex (w : Nat) (backup : Bool) : Nat := if backup then bits w 16 8 else bits w 8 8

/-- The source of a binding: a receiver, or a flow from 32; none for other kinds. -/
def bindSource (w : Nat) (backup : Bool) : Option Nat :=
  if bindKind w = 1 ∧ bindIndex w backup < 32 then some (bindIndex w backup)
  else if bindKind w = 2 ∧ bindIndex w backup < 64 then some (32 + bindIndex w backup) else none

/-- The source that a layer takes now. -/
def IngLayer.source (x : IngLayer) : Option Nat := if x.play.any (·.on) then none else bindSource x.word x.backup

/-- The layers that take a source now. -/
def State.layersOf (s : State) (i : Nat) : List Nat :=
  (List.range 63).filter fun l => (s.ingLayer l).source = some i

/-- A source is in use by some layer. -/
def State.inUse (s : State) (i : Nat) : Bool := ! (s.layersOf i).isEmpty

/-- Words of ING registers as ingest uses them: for a source in use, those taken at the last frame start (R118). -/
def State.ingWord (s : State) (a rst src : Nat) : Nat :=
  match if s.inUse src then Sparse.find s.ing.words a else none with
  | some w => w
  | none => (s.word a rst).toNat

/-- Whether an Ethernet port carries a flow that some layer takes. -/
def State.ethInUse (s : State) (e : Nat) : Bool :=
  (List.range 64).any fun k => s.inUse (32 + k) && decide (bits (s.ingWord (ING_FLOW_CFG.EN.addr k) 0x6000 (32 + k)) 1 3 = e)

/-- ING_ETH_CFG of a port as ingest uses it: as taken at the last frame start where it carries a flow in use (R118). -/
def State.ethWord (s : State) (e : Nat) : Nat :=
  match if s.ethInUse e then Sparse.find s.ing.words (ING_ETH_CFG.EN.addr e) else none with
  | some w => w
  | none => (s.word (ING_ETH_CFG.EN.addr e) 4).toNat

/-- The words that the sources take at a frame start. -/
def ingCfgWords : List (Nat × Nat) :=
  (List.range 32).map (fun i => (ING_SDI_CFG.EN.addr i, 0)) ++
  (List.range 8).map (fun e => (ING_ETH_CFG.EN.addr e, 4)) ++
  (List.range 64).flatMap fun k => [(ING_FLOW_CFG.EN.addr k, 0x6000), (ING_FLOW_DST.DST_IP.addr k, 0),
    (ING_FLOW_SRC.SRC_IP.addr k, 0), (ING_FLOW_PORT.UDP.addr k, 0), (ING_FLOW_SIZE.WIDTH.addr k, 0)]

/-- A source is lost: each layer that takes it reports EV_ING_LOSS once an episode. -/
def State.sourceLost (s : State) (i : Nat) : State :=
  let x := s.source i
  if x.lost then s else
  let s := s.setSource i { x with lost := true }
  (s.layersOf i).foldl (fun (s : State) l =>
    let y := s.ingLayer l
    if y.lossEp then s else
    (s.setIngLayer l { y with lossEp := true, held := 0 }).raise 0x0302
      [(16, 1, l), (17, 1, bindKind y.word), (18, 1, bindIndex y.word y.backup)]) s

/-! ### SDI (R98 to R101) -/

/-- The receiver is the first of a quad-link group in force. -/
def State.quadOf (s : State) (i : Nat) : Bool :=
  i % 4 = 0 && bits (s.ingWord (ING_SDI_CFG.EN.addr i) 0 i) 1 1 = 1

/-- The source that a receiver feeds: itself, or the first receiver of its group. -/
def State.sdiSource (s : State) (i : Nat) : Nat := if s.quadOf (i / 4 * 4) then i / 4 * 4 else i

/-- ING_SDI_CFG of a receiver as ingest uses it. -/
def State.sdiWord (s : State) (i : Nat) : Nat := s.ingWord (ING_SDI_CFG.EN.addr i) 0 (s.sdiSource i)

/-- A format is in Table 4-1 (PsF counts as progressive; the quad link needs a group). -/
def sdiSupported (f : SdiFormat) (quad : Bool) : Bool :=
  decide (f.scan < 2) &&
  (match f.standard with
   | 0 => ! quad && (decide (f.height = 1080) || (decide (f.height = 720) && decide (f.scan = 0))) && ! f.full && ! f.deep
   | 1 => ! quad && decide (f.height = 1080) && decide (f.scan = 0) &&
      ((! f.full && ! f.deep && decide (f.rate ≤ 60)) || (f.full && decide (f.rate ≤ 30)))
   | 2 => ! quad && decide (f.height = 2160) && decide (f.scan = 0) && ! f.full && ! f.deep && decide (f.rate ≤ 30)
   | 3 => ! quad && decide (f.height = 2160) && decide (f.scan = 0) && ! f.full && ! f.deep && decide (f.rate ≤ 60)
   | 4 => quad && decide (f.height = 4320) && decide (f.scan = 0) && ! f.full && ! f.deep && decide (f.rate ≤ 60)
   | _ => false)

/-- SDI_LOCK: a receiver locks and reports its format; an interlaced signal is refused with EV_ING_FORMAT once. -/
def onSdiLock (i : Fin 32) (std : Fin 256) (f : SdiFormat) (s : State) : State :=
  let i : Nat := i.val
  if bits (s.sdiWord i) 0 1 = 0 ∨ s.flag ING_SDI_STATUS.LOCK i then s else
  let g := s.sdiSource i
  let ok := sdiSupported f (s.quadOf g)
  let s := ((s.setFlag ING_SDI_STATUS.LOCK true i).setFld ING_SDI_STATUS.STD std.val i).setFlag ING_SDI_STATUS.FMT_OK ok i
  let links := if s.quadOf g then [g, g + 1, g + 2, g + 3] else [g]
  let s := if ok ∧ links.all (fun j => s.flag ING_SDI_STATUS.LOCK j && s.flag ING_SDI_STATUS.FMT_OK j) then
      s.setSource g { s.source g with fmt := some f }
    else s
  if f.scan = 2 then s.raise 0x0301 [(16, 1, 0), (17, 1, i)] else s

/-- A receiver loses lock; source `g`, which it feeds, is lost with it (R99). -/
def State.sdiDrop (s : State) (i g : Nat) : State :=
  let s := (s.setFlag ING_SDI_STATUS.LOCK false i).setFlag ING_SDI_STATUS.FMT_OK false i
  let x := s.source g
  (s.setSource g { x with fmt := none, frames := x.frames.filter (·.whole) }).sourceLost g

/-- SDI_LOCK_LOSS: a receiver loses lock; with it the whole group is lost (R99). -/
def onSdiLockLoss (i : Fin 32) (s : State) : State :=
  if s.flag ING_SDI_STATUS.LOCK i.val then s.sdiDrop i.val (s.sdiSource i.val) else s

/-- Settings of receivers have changed since `was`: one that is no longer enabled stops, and the receivers of a quad that
becomes a group, or ceases to be one, lock afresh (R118, log entry 131). -/
def State.sdiSettle (s was : State) : State :=
  (List.range 32).foldl (fun (s : State) i =>
    if s.flag ING_SDI_STATUS.LOCK i ∧ (bits (s.sdiWord i) 0 1 = 0 ∨ s.quadOf (i / 4 * 4) ≠ was.quadOf (i / 4 * 4)) then
      s.sdiDrop i (was.sdiSource i)
    else s) s

/-- ANC_PACKET: an ancillary packet is copied raw to the ring of an enabled receiver, or counted when the ring is full. -/
def onAncPacket (i : Fin 32) (bytes : List Byte) (full : Bool) (s : State) : State :=
  let w := s.sdiWord i
  if bits w 0 1 = 0 ∨ bits w 3 1 = 0 ∨ ! s.flag ING_SDI_STATUS.LOCK i then s
  else if full then s.bump ING_SDI_ANC.ANC_LOST i
  else s.emit (.ancillary i bytes)

/-! ### Frames (R112, R114) -/

/-- The frames that stay in the three buffers of a source when another begins: the two newest, but always the newest complete
one (R111, R112). -/
def keptFrames (fs : List SrcFrame) : List SrcFrame :=
  if (fs.take 2).any (·.whole) then fs.take 2 else fs.take 1 ++ (fs.find? (·.whole)).toList

/-- A frame begins: it takes a buffer of the source. -/
def State.openFrame (s : State) (i : Nat) (f : SrcFrame) : State :=
  let x := s.source i
  let period := match x.frames.head? with
    | some g => if g.stamp < f.stamp then f.stamp - g.stamp else x.period
    | none => x.period
  s.setSource i { x with frames := f :: keptFrames x.frames, period := period, reported := false }

/-- Change the frame of a source in buffer place `n`, the newest first. -/
def State.mapFrame (s : State) (i n : Nat) (h : SrcFrame → SrcFrame) : State :=
  let x := s.source i
  s.setSource i { x with frames := x.frames.modify n h }

/-- The newest complete frame of a source. -/
def Feed.newest (x : Feed) : Option SrcFrame := x.frames.find? (·.whole)

/-- The frame in place `n` becomes complete: the layers whose source was lost report EV_ING_RESTORED, of the source they take
now (log entry 132). -/
def State.frameWhole (s : State) (i n : Nat) : State :=
  let x := s.source i
  let s := (s.setSource i { x with next := x.next + 1, lost := false }).mapFrame i n fun f =>
    { f with closed := true, whole := true, num := x.next }
  (s.layersOf i).foldl (fun (s : State) l =>
    let y := s.ingLayer l
    if y.lossEp then
      (s.setIngLayer l { y with lossEp := false, held := 0, black := false }).raise 0x0303
        [(16, 1, l), (17, 1, bindKind y.word), (18, 1, bindIndex y.word y.backup)]
    else s) s

/-- Samples of a row. -/
def SrcFrame.rowLen (f : SrcFrame) : Nat := if f.full then 3 * f.width else 4 * ((f.width + 1) / 2)

/-- The samples of a frame are all there. -/
def SrcFrame.full' (f : SrcFrame) : Bool :=
  (List.range f.height).all fun y =>
    let row := Sparse.get [] f.rows y
    decide (f.rowLen ≤ row.length) && (row.take f.rowLen).all (·.isSome)

/-- SOURCE_FRAME_COMPLETE: the newest source frame that has all its samples, and no newer complete one, becomes complete: an
SDI frame that has been received, a flow's frame that its marker has closed. `crcErr` is how many lines of an SDI frame had CRC errors;
`overflow` is how many samples could not be written (R402): the frame never becomes complete. -/
def onSourceFrameComplete (i : Fin 96) (crcErr overflow : Nat) (s : State) : State :=
  let i : Nat := i.val
  let fs := (s.source i).frames.takeWhile (! ·.whole)
  if fs = [] then s else
  let s := if i < 32 then s.bump ING_SDI_STATUS.CRC_ERR i crcErr else s
  if 0 < overflow then (s.bump MEM_PORT_STAT.OVERFLOW 0 overflow).mapFrame i 0 fun f => { f with closed := true, rows := [] }
  else match fs.findIdx? fun f => f.full' && (decide (i < 32) || f.closed) with
  | some n => s.frameWhole i n
  | none => s

/-- FLOW_TIMEOUT: no packet of a flow for two of its frame periods. A flow of which one frame has been seen has no period yet and
does not time out (log entry 132). -/
def onFlowTimeout (k : Fin 64) (s : State) : State :=
  let i := 32 + k.val
  let x := s.source i
  if 0 < x.period ∧ x.lastSeen + 2 * x.period ≤ s.clock then s.sourceLost i else s

/-- The wall time of an RTP timestamp: the count of 1/90,000 s of PTP time nearest to the latest pair of PTP and wall time,
against that pair; a wall tick is 5/3 ns. In units of 1/(9 × 2^40) ns; the division rounds down (R106). -/
def State.rtpStamp (s : State) (t : Nat) : Nat :=
  let unit : Nat := 100000 * 2 ^ 40
  let ptp : Nat := 3 * s.ing.pair.1
  let near : Nat := ptp / unit
  let count : Int := near + sInt 32 (uNat 32 ((t : Int) - near))
  ((s.ing.pair.2 : Int) + (count * unit - ptp) / (15 * 2 ^ 40)).toNat

/-! ### ST 2110-20 (R102 to R105) -/

/-- The words of flow k in force: CFG, DST, SRC, PORT, SIZE. -/
def State.flowWords (s : State) (k : Nat) : List Nat :=
  [s.ingWord (ING_FLOW_CFG.EN.addr k) 0x6000 (32 + k), s.ingWord (ING_FLOW_DST.DST_IP.addr k) 0 (32 + k),
    s.ingWord (ING_FLOW_SRC.SRC_IP.addr k) 0 (32 + k), s.ingWord (ING_FLOW_PORT.UDP.addr k) 0 (32 + k),
    s.ingWord (ING_FLOW_SIZE.WIDTH.addr k) 0 (32 + k)]

/-- A picture size that reception supports (R103). -/
def flowSizeOk (w : Nat) : Bool :=
  decide (16 ≤ bits w 0 13) && decide (bits w 0 13 ≤ 7680) && decide (16 ≤ bits w 16 13) && decide (bits w 16 13 ≤ 4320)

/-- A packet of port e belongs to flow k (R104). A flow whose size is outside the limits of R103 receives nothing. -/
def State.flowTakes (s : State) (e : Nat) (p : EthPacket) (k : Nat) : Bool :=
  let w := s.flowWords k
  let c := w.getD 0 0
  decide (bits c 0 1 = 1) && decide (bits c 1 3 = e) && decide (p.dst.toNat = w.getD 1 0) &&
  decide (p.udp.toNat = bits (w.getD 3 0) 0 16) && decide (p.pt.toNat = bits c 8 7) &&
  (decide (w.getD 2 0 = 0) || decide (p.src.toNat = w.getD 2 0)) && flowSizeOk (w.getD 4 0)

/-- Lay the samples of a row header into a row; what has not come stays open. -/
def laySamples (row : List (Option Nat)) (at' : Nat) (xs : List Nat) : List (Option Nat) :=
  let row := row ++ List.replicate (at' + xs.length - row.length) none
  row.take at' ++ xs.map some ++ row.drop (at' + xs.length)

/-- The samples of a packet are placed in a frame (R104); rows and pixels outside it fall away. -/
def placeRows (f : SrcFrame) (p : EthPacket) : SrcFrame :=
  p.rows.foldl (fun (f : SrcFrame) r =>
    let at' := if f.full then 3 * r.2.1 else 2 * r.2.1
    if r.1 < f.height then
      { f with rows := Sparse.set f.rows r.1 ((laySamples (Sparse.get [] f.rows r.1) (min at' f.rowLen) r.2.2).take f.rowLen) }
    else f) f

/-- The frame that a packet of flow k begins. -/
def State.flowFrame (s : State) (k : Nat) (t : Nat) : SrcFrame :=
  let w := s.flowWords k
  let c := w.getD 0 0
  ⟨0, s.rtpStamp t, bits (w.getD 4 0) 0 13, bits (w.getD 4 0) 16 13, decide (bits c 4 2 ≠ 0),
    decide (bits c 4 2 ≠ 0 ∧ bits c 6 1 = 1), decide (bits c 4 2 = 2), decide (bits c 7 1 = 1), t, [], false, false⟩

/-- A packet of a progressive flow: its samples go into the frame of its timestamp, which a timestamp later than the newest
frame's begins; samples of a closed or older frame come too late (log entry 132). -/
def State.placePacket (s : State) (k : Nat) (p : EthPacket) : State :=
  let i := 32 + k
  let t := p.time.toNat
  let fs := (s.source i).frames
  let s := if fs.head?.all fun f => decide (0 < sInt 32 (uNat 32 ((t : Int) - f.time))) then s.openFrame i (s.flowFrame k t) else s
  match (s.source i).frames.findIdx? fun f => f.time = t && ! f.closed with
  | some n => s.mapFrame i n fun f => { placeRows f p with closed := p.marker }
  | none => s

/-- A packet reaches flow k: an interlaced or PsF flow is refused with EV_ING_FORMAT, once until a progressive packet (R103). -/
def State.flowPacket (s : State) (p : EthPacket) (k : Nat) : State :=
  let i := 32 + k
  let x := s.source i
  if p.fields then
    if x.refused then s else (s.setSource i { x with refused := true }).raise 0x0301 [(16, 1, 1), (17, 1, k)]
  else (s.setSource i { x with refused := false, lastSeen := s.clock }).placePacket k p

/-- ETH_PACKET: a packet is delivered to every flow that it matches, or dropped and counted. -/
def onEthPacket (e : Fin 8) (p : EthPacket) (s : State) : State :=
  let e : Nat := e.val
  if bits (s.ethWord e) 0 1 = 0 then s
  else
    let ks := if p.ipv6 ∨ p.options then [] else (List.range 64).filter (s.flowTakes e p)
    if ks = [] then s.bump ING_ETH_DROP.DROP e else ks.foldl (fun (s : State) k => s.flowPacket p k) s

/-- IGMP_JOIN: in HW mode the firmware joins a flow that is enabled and leaves one that no longer is; never during a
tollhouse restart. -/
def onIgmpJoin (k : Fin 64) (s : State) : State :=
  let k : Nat := k.val
  let on := s.flag ING_FLOW_CFG.EN k
  if s.assist 3 ∨ s.restarting ∨ on = decide (k ∈ s.ing.joined) then s else
  let joined := if on then k :: s.ing.joined else s.ing.joined.filter (· ≠ k)
  State.emit { s with ing := { s.ing with joined := joined } }
    (.igmp (s.fld ING_FLOW_CFG.PORT k) (s.fld ING_FLOW_DST.DST_IP k) (s.fld ING_FLOW_SRC.SRC_IP k) (! on))

/-- IGMP_QUERY: the joins of a port's flows are repeated. -/
def onIgmpQuery (e : Fin 8) (s : State) : State :=
  if s.assist 3 ∨ s.restarting then s else
  (s.ing.joined.filter fun k => s.fld ING_FLOW_CFG.PORT k = e.val).foldl (fun (s : State) k =>
    s.emit (.igmp e (s.fld ING_FLOW_DST.DST_IP k) (s.fld ING_FLOW_SRC.SRC_IP k) false)) s

/-- ARP_REQUEST: the firmware answers for the port's own address. -/
def onArpRequest (e : Fin 8) (ip : Nat) (s : State) : State :=
  if s.restarting ∨ ! s.flag ING_ETH_CFG.EN e ∨ ip ≠ s.fld ING_ETH_IP.IP e ∨ ip = 0 then s
  else s.emit (.arpReply e ip)

/-! ### PTP (R106, R118) -/

/-- The offset of the PTP clock has been measured: the first one sets the clock; afterwards, in HW mode, the servo of ST 2059-2
corrects its frequency by a value that the spec does not give. The tollhouse runs the servo. -/
def State.ptpOffset (s : State) (offset : Int) : State :=
  if ! s.ing.ptpSet then { s with ing := { s.ing with ptpSet := true, ptp := ((s.ing.ptp : Int) - offset).toNat } }
  else if s.assist 4 then s
  else State.draw { s with ing := { s.ing with ptpRate := sInt 32 s.free } }

/-- A Delay_Req leaves for the master of an exchange, stamped by the port. -/
def State.delayReq (s : State) (x : PtpTrip) : State :=
  State.emit { s with ing := { s.ing with
    trip := some { x with req := s.ing.nextReq, t3 := some s.ing.ptp }, nextReq := (s.ing.nextReq + 1) % 65536 } }
    (.delayReq x.port s.ing.nextReq)

/-- A time of a PTP message, with its correction, in units of the PTP clock. -/
def ptpUnits (m : PtpMsg) (sign : Int) : Int := (m.time : Int) * (3 * 2 ^ 40) + sign * m.corr * (3 * 2 ^ 24)

/-- PTP_MESSAGE: a message of a master of the default domain, stamped on receipt with the PTP clock. A Sync begins an exchange;
once its time of sending is known, from it or from its Follow_Up, a Delay_Req leaves; the Delay_Resp ends the exchange: the
offset is half the difference of the two ways (end-to-end delay measurement). -/
def onPtpMessage (e : Fin 8) (m : PtpMsg) (s : State) : State :=
  let e : Nat := e.val
  if s.restarting ∨ ! s.flag ING_ETH_CFG.EN e ∨ m.domain ≠ 127 then s
  else match m.kind, s.ing.trip with
  | .sync two, _ =>
    let corr := if two then m.corr * (3 * 2 ^ 24) else 0
    let x : PtpTrip := ⟨e, m.seq.toNat, if two then none else some (ptpUnits m 1), s.ing.ptp - corr, 0, none⟩
    if two then { s with ing := { s.ing with trip := some x } } else s.delayReq x
  | .followUp, some x =>
    if x.port = e ∧ x.seq = m.seq.toNat ∧ x.t1.isNone then s.delayReq { x with t1 := some (ptpUnits m 1) } else s
  | .delayResp, some x =>
    (match x.t1, x.t3 with
     | some t1, some t3 =>
       if x.port = e ∧ x.req = m.seq.toNat then
         State.ptpOffset { s with ing := { s.ing with trip := none } } (((x.t2 - t1) - (ptpUnits m (-1) - t3)) / 2)
       else s
     | _, _ => s)
  | _, none => s

/-- The PTP clock advances by one wall tick, 5/3 ns, with its frequency correction. -/
def State.ptpTick (s : State) : State :=
  { s with ing := { s.ing with ptp := s.ing.ptp + (5 * (2 ^ 40 + s.ing.ptpRate)).toNat } }

/-- A decision of FN_PTP: the frequency correction of a sync interval, in parts per 2^40. -/
def State.ptpDecision (s : State) (bs : List Byte) : State :=
  { s with ing := { s.ing with ptpRate := sInt 32 (leAt bs 0 4) } }

/-! ### Layers at a frame start (R110 to R112, R118) -/

/-- The words that each source in use takes at a frame start; receivers that they stop lose lock. -/
def State.takeIngWords (s : State) : State :=
  State.sdiSettle { s with ing := { s.ing with words := ingCfgWords.map fun w => (w.1, (s.word w.1 w.2).toNat) } } s

/-- The pair (PTP time, wall time) of a frame start. -/
def State.recordPair (s : State) : State := { s with ing := { s.ing with pair := (s.ing.ptp, s.now) } }

/-- The side that a layer takes: the decision in ASSIST; in HW mode PRIMARY, or BACKUP once PRIMARY is lost and BACKUP holds
a complete frame, until the host writes the binding again. -/
def State.takesBackup (s : State) (l : Nat) (x : IngLayer) (mask : Option Nat) : Bool :=
  let has := decide (bits x.word 16 8 ≠ 0xFF) && decide (bindKind x.word ≠ 3)
  if s.assist 2 then
    match mask with
    | some m => has && decide (bits m l 1 = 1)
    | none => x.backup
  else if x.backup then true
  else
    match bindSource x.word false, bindSource x.word true with
    | some p, some b => has && (s.source p).lost && ((s.source b).newest).isSome
    | _, _ => false

/-- A layer goes on with the frame it has: BUFFERED it counts in REPEAT; HOLD frames after the loss of its source it shows
black (R111, R112). -/
def State.repeatFrame (s : State) (l : Nat) (x : IngLayer) (lost : Bool) : State :=
  let hold := bits x.word 24 8
  let n := if lost then x.held + 1 else 0
  (if bits x.word 3 1 = 0 ∧ x.frame.isSome then s.bump ING_STAT.REPEAT l else s).setIngLayer l
    { x with held := n, black := decide (hold ≠ 0 ∧ hold < n) }

/-- A layer reads a newer frame; BUFFERED it counts those in between in DROP. -/
def State.readFrame (s : State) (l i : Nat) (x : IngLayer) (f : SrcFrame) : State :=
  let missed := if bits x.word 3 1 = 0 ∧ x.from' = i then x.frame.elim 0 fun g => f.num - g.num - 1 else 0
  (s.bump ING_STAT.DROP l missed).setIngLayer l { x with frame := some f, from' := i, held := 0, black := false }

/-- A layer at a frame start: its binding, its side, the frame it reads, what it repeats. A layer without a source has no
frame. -/
def State.layerFrame (s : State) (mask : Option Nat) (l : Nat) : State :=
  let x := s.ingLayer l
  let w := (s.word (ING_LAYER_SRC.KIND.addr l) 0xFF0000).toNat
  let was := x.backup
  let x := if x.rebind ∨ x.word ≠ w then { x with word := w, rebind := false, backup := false } else x
  let x := { x with backup := s.takesBackup l x mask }
  let s := if x.backup ≠ was then s.raise 0x0304 [(16, 1, l), (17, 1, b2n x.backup)] else s
  match x.source with
  | none => s.setIngLayer l (if x.play.any (·.on) then x else { x with frame := none, held := 0, black := false })
  | some i =>
    let src := s.source i
    match src.newest with
    | none => s.repeatFrame l x src.lost
    | some f =>
      if x.from' = i ∧ (x.frame.any fun g => g.num = f.num) then s.repeatFrame l x src.lost else s.readFrame l i x f

/-- Ingest at a frame start, in an abutment. -/
def State.ingFrame (s : State) (frame : Nat) : State :=
  let (d, s) : Option (List Byte) × State := if s.assist 2 then s.useDecision 2 (periodOf frame) else (none, s)
  let s := s.recordPair.takeIngWords
  (List.range 63).foldl (fun (s : State) l => s.layerFrame (d.map fun bs => leAt bs 0 8) l) s

/-- A reset of FN_ING_SDI: the receivers lock afresh, frames held are kept. -/
def State.ingSdiReset (s : State) : State :=
  (List.range 32).foldl (fun (s : State) i =>
    let s := (s.setFlag ING_SDI_STATUS.LOCK false i).setFlag ING_SDI_STATUS.FMT_OK false i
    let x := s.source i
    if x.fmt.isNone then s else s.setSource i { x with fmt := none, frames := x.frames.filter (·.whole) }) s

/-- A reset of FN_ING_NET: the flows join afresh, frames held are kept. -/
def State.ingNetReset (s : State) : State :=
  let s : State := { s with ing := { s.ing with joined := [] } }
  (List.range 64).foldl (fun (s : State) k =>
    let x := s.source (32 + k)
    if x.frames.all (·.whole) then s else s.setSource (32 + k) { x with frames := x.frames.filter (·.whole) }) s

/-- A reset of FN_PTP: the servo starts afresh. -/
def State.ptpReset (s : State) : State := { s with ing := { s.ing with ptpSet := false, ptpRate := 0 } }

end Sys2Proof.Machine
end

