-- ==== Sys2Proof/Machine/Enc.lean ====
section
/-! DEFINITION. The encoder and rate control (spec/06_encoder.md), source scaling in an abutment (R301), playback from the
media store (R115, R116), and the planks in which slices leave (R178, R227). How the ENC kernel codes a block (its modes,
vectors and residual) is not specified: the bits of each block come with SLICE_ENCODE_DONE. -/

namespace Sys2Proof.Machine

/-! ### Layers and streams -/

/-- A layer that encodes nothing. -/
def EncLayer.reset : EncLayer :=
  { on := false, start := true, pic := none, waiting := none, next := 0, last := 0, phase := 0, size := (0, 0), begun := 0,
    forced := [], asked := [], told := [], overrun := none, scale := none, opened := false }

/-- A stream at its start. -/
def EncStream.reset : EncStream :=
  { f := 0, slices := [], count := 0, row := 0, floor := none, forced := false, recs := [], qps := [], carry := [], recon := [],
    tag := 0 }

/-- An encoder layer. -/
def State.encLayer (s : State) (l : Nat) : EncLayer := Sparse.get EncLayer.reset s.enc.layers l

/-- Store an encoder layer. -/
def State.setEncLayer (s : State) (l : Nat) (x : EncLayer) : State :=
  { s with enc := { s.enc with layers := Sparse.set s.enc.layers l x } }

/-- A stream. -/
def State.encStream (s : State) (i : Nat) : EncStream := Sparse.get EncStream.reset s.enc.streams i

/-- Store a stream. -/
def State.setEncStream (s : State) (i : Nat) (x : EncStream) : State :=
  { s with enc := { s.enc with streams := Sparse.set s.enc.streams i x } }

/-- Slice columns of a width (R119). -/
def colsOf (w : Nat) : Nat := (w + 255) / 256

/-- Slice rows of a height (R119). -/
def rowsOf (h : Nat) : Nat := (h + 31) / 32

/-- The width of column c. -/
def colWidth (w c : Nat) : Nat := min 256 (w - 256 * c)

/-- The height of slice row r. -/
def rowHeight (h r : Nat) : Nat := min 32 (h - 32 * r)

/-- Blocks of a slice (R126). -/
def blocksOf (w h c r : Nat) : Nat := colWidth w c / 8 * (rowHeight h r / 8)

/-- The ENC settings of a layer as registers hold them: P, QP_INIT, QP_MIN, QP_MAX, TARGET, PEAK, BUCKET. -/
def State.encSettings (s : State) (l : Nat) : List Nat :=
  [s.fld ENC_LAYER_CFG.REFRESH l, s.fld ENC_LAYER_CFG.QP_INIT l, s.fld ENC_LAYER_QP.QP_MIN l, s.fld ENC_LAYER_QP.QP_MAX l,
    s.fld ENC_LAYER_RATE.TARGET l, s.fld ENC_LAYER_RATE.PEAK l, s.fld ENC_LAYER_RATE.BUCKET l]

/-- One setting in force for a picture. -/
def EncPic.setting (p : EncPic) (i : Nat) : Nat := p.set'.getD i 0

/-- The fill of a slice of n blocks. -/
def fillOf (peak n : Nat) : Nat := peak * n + 136

/-- The bucket size B. -/
def bucketOf (peak bucket : Nat) : Nat := bucket * fillOf peak 128

/-- Checks of R170 on the three registers of a layer as they would stand: TARGET ≤ PEAK, QP_MIN ≤ QP_INIT ≤ QP_MAX. -/
def encWordsOk (cfg qp rate : Nat) : Bool :=
  decide (bits rate 0 12 ≤ bits rate 16 12) && decide (bits qp 0 6 ≤ bits qp 8 6) &&
  decide (bits qp 0 6 ≤ bits cfg 16 6) && decide (bits cfg 16 6 ≤ bits qp 8 6)

/-! ### Planks (R178, R227, R430 to R436) -/

/-- Whether FN_RED lets this end send VC1 planks of a group: the end holds the lease of the group's segment and its CLAIM_GAP
has passed; a group of no segment is free. -/
def State.maySend (s : State) (g : Nat) : Bool :=
  (List.range 16).all fun e =>
    ! (s.flag RED_SEG_CFG.EN e && decide (s.fld RED_SEG_CFG.GROUP e = g)) ||
    (decide (s.fld RED_SEG_STATUS.STATE e = 5) && (match Sparse.find s.red.segs e with
      | some x => x.gap.all fun t => decide (t ≤ s.clock)
      | none => true))

/-- A VC1 plank of group g starts on every port of the group that is interested in its stream; the copy for one that is not UP is
dropped at once and counted (R199, R227). -/
def State.multicast (s : State) (g : Nat) (x : Plank) (except : Option Nat) (slot : Option (Nat × Nat)) : State :=
  let outs := portsWhere 16 fun k => decide (bits (s.fld VIA_GROUP.PORTS g) k 1 = 1) && decide (except ≠ some k) &&
    decide (bits ((s.interestOf k).getD (x.stream / 8) 0).toNat (7 - x.stream % 8) 1 = 1)
  outs.foldl (fun (s : State) k => s.queuePlank k x slot) s

/-- The planks of a slice: 256 bytes each, the first and the last marked, the stream's plank sequence in TAG. -/
def slicePlanks (self hops g stream tag : Nat) (bs : List Byte) : List Plank :=
  let n := (bs.length + 255) / 256
  (List.range n).map fun i =>
    { typ := 1, vc := 1, hops := hops, src := self, dst := g, stream := stream,
      flags := (if i = 0 then 128 else 0) + (if i + 1 = n then 64 else 0), lseq := 0, tag := (tag + i) % 2 ^ 32, rsv := 0,
      payload := bytesAt bs (256 * i) 256 }

/-- A slice of a stream is packed and handed to the spans, where the lease permits; the plank sequence goes on. -/
def State.sendSlice (s : State) (stream : Nat) (bs : List Byte) : State :=
  let x := s.encStream stream
  let g := s.fld VIA_LAYER_GROUP.GROUP (stream / 64)
  let ps := slicePlanks s.self (s.fld VIA_CFG.HOPS_INIT) g stream x.tag bs
  let s := s.setEncStream stream { x with tag := (x.tag + ps.length) % 2 ^ 32 }
  if s.maySend g then ps.foldl (fun (s : State) p => s.multicast g p none none) s else s

/-! ### Source scaling (R301) -/

/-- The values of CMP_SRC_* for a source of a size: crop x, y, w, h, declared w, h, filter set, taps. -/
def State.scaleValues (s : State) (l w h : Nat) : List Nat :=
  let cw := if s.fld CMP_SRC_CSIZE.W l = 0 then w else s.fld CMP_SRC_CSIZE.W l
  let ch := if s.fld CMP_SRC_CSIZE.H l = 0 then h else s.fld CMP_SRC_CSIZE.H l
  [s.fld CMP_SRC_CROP.X l, s.fld CMP_SRC_CROP.Y l, cw, ch,
    if s.fld CMP_SRC_DECL.W l = 0 then cw else s.fld CMP_SRC_DECL.W l,
    if s.fld CMP_SRC_DECL.H l = 0 then ch else s.fld CMP_SRC_DECL.H l, s.fld CMP_SRC_FILT.SET l, s.fld CMP_SRC_FILT.TAPS_V l]

/-- The layer entry that scales a source under some values. -/
def scaleEnt (v : List Nat) (w h : Nat) : LayerEnt :=
  ⟨0, 0, 0, w, h, v.getD 0 0, v.getD 1 0, v.getD 2 0, v.getD 3 0, 0, 0, v.getD 4 0, v.getD 5 0, 0, v.getD 6 0, v.getD 7 0,
    0, 0⟩

/-- The values meet R119, lie within the source, and keep the limits of R278 and of check 5 of Table 10-4. -/
def scaleOk (v : List Nat) (w h : Nat) : Bool :=
  let e := scaleEnt v w h
  let size (n : Nat) : Bool := decide (n % 8 = 0) && decide (8 ≤ n) && decide (n ≤ 16384)
  size e.dstW && size e.dstH && decide (0 < e.cropW) && decide (0 < e.cropH) && decide (e.cropX + e.cropW ≤ w) &&
  decide (e.cropY + e.cropH ≤ h) && ! e.scaleBad && ! e.lineBad

/-- A sample of a picture at its declared size: 0 Y, 1 Co, 2 Cg. Rows of a torn slice row that were not written come from
the frame before; black is Y 0, Co 0, Cg 0. -/
def State.encSample (s : State) (p : EncPic) (c y x : Nat) : Int :=
  match p.src with
  | none => 0
  | some f =>
    let e := scaleEnt p.scale f.width f.height
    let samp (yy xx : Nat) : Int :=
      let g := if yy ∈ Sparse.get [] p.torn (y / 32) then p.before.getD f else f
      let q := g.pixel yy xx
      if c = 0 then q.1 else if c = 1 then q.2.1 else q.2.2
    scaled samp (s.coefV e.filter) (s.coefH e.filter) e (if c = 0 then 0 else -4095) 4095 x y

/-! ### FLOOR coding of source samples (R136) -/

/-- The 5-bit value of a sample at d = 12: the one whose interval holds it. -/
def floorCode (c : Nat) (v : Int) : Nat := if c = 0 then (v / 128).toNat else (v / 256 + 16).toNat

/-- The low `n` bits of a number, most significant first. -/
def numBits (n v : Nat) : List Bool := (List.range n).map fun i => decide (bits v (n - 1 - i) 1 = 1)

/-- Bytes of bits, padded with zeros to a byte boundary (R138). -/
def packBits (bs : List Bool) : List Byte :=
  (List.range ((bs.length + 7) / 8)).map fun i =>
    BitVec.ofNat 8 ((List.range 8).foldl (fun n j => 2 * n + b2n (bs.getD (8 * i + j) false)) 0)

/-- A FLOOR block of the source: block b of a slice of column c, row r. -/
def State.floorBlock (s : State) (p : EncPic) (c r b : Nat) : List Bool :=
  let bw := colWidth p.width c / 8
  (List.range 192).flatMap fun i =>
    let y := 32 * r + b / bw * 8 + i % 64 / 8
    let x := 256 * c + b % bw * 8 + i % 8
    numBits 5 (floorCode (i / 64) (s.encSample p (i / 64) y x))

/-! ### The floor reserve (R159) -/

/-- How many blocks stand before the cap breaks: `used` bits so far, `left` blocks from this one on. -/
def keepBlocks (cap : Nat) : Nat → List (List Bool) → Nat
  | _, [] => 0
  | used, b :: bs =>
    if cap < used + b.length + 960 * bs.length + 7 then 0 else keepBlocks cap (used + b.length) bs + 1

/-- A block refers to the reference picture: SKIP is code 1, COPY is code 01 (Table 5-3). -/
def refersBack (b : List Bool) : Bool := b.head? = some true || b.take 2 = [false, true]

/-! ### Handing on (R151, R156, R160, R161) -/

/-- The quantiser step of R161. -/
def step64 (qp : Nat) : Nat := [64, 72, 81, 91, 102, 114].getD (qp % 6) 0 * 2 ^ (qp / 6)

/-- The header of a slice, all but what its coding yields. -/
def EncSlice.hdr (e : EncSlice) (stream : Nat) : SliceHdr :=
  { sync := 0x4853, version := 1, intra := false, deep := true, floor := false, rsv := 0,
    rowH := rowHeight e.pic.height e.row / 8 - 1, qp := e.qp, stream := stream, pic := e.pic.cnt, refc := e.pic.refc,
    row := e.row, colW := colWidth e.pic.width (stream % 64) / 8 - 1, lastRow := rowsOf e.pic.height - 1, floorFrom := 0, len := 16 }

/-- The bytes of a slice, FLOOR_FROM where a coded slice breaks, its normal-coded blocks and their bits (R148, R159, R160, R168);
INTRA stands exactly where no block refers back. -/
def State.sliceBytes (s : State) (stream : Nat) (e : EncSlice) (tail : Bool) : List Byte × Option Nat × Nat × Nat :=
  let blocks := e.blocks.getD []
  let kind := if e.kind = 0 ∧ tail then 1 else e.kind
  let keep := if kind = 0 then keepBlocks e.cap 128 blocks else 0
  let kept := if kind = 2 then List.replicate e.n [true] else blocks.take keep
  let broke := kind = 0 ∧ keep < e.n
  let fl := kind = 1 ∨ broke
  let nb := kept.foldl (fun n b => n + b.length) 0
  let body := packBits kept.flatten ++
    (if fl then packBits (((List.range e.n).drop keep).flatMap fun b => s.floorBlock e.pic (stream % 64) e.row b) else [])
  let hdr := { e.hdr stream with
    intra := kept.all (! refersBack ·), floor := decide fl, floorFrom := keep * b2n (decide broke), len := 16 + body.length }
  if kind = 3 then (e.bytes, none, 0, 0)
  else (hdrBytes hdr ++ body, if broke then some keep else none, if kind = 0 then keep else 0, if kind = 0 then nb else 0)

/-! ### Complexity records and reconstruction (R153, R162) -/

/-- The key of a complexity record. -/
def recKey (cnt row : Nat) : Nat := cnt * 512 + row

/-- The record of a slice: that of its normal-coded blocks; without any, that of the nearest earlier slice of its picture that has
some, else that of its co-located slice. The lowest bit says whether the slice had normal-coded blocks. -/
def recordOf (recs : Sparse Nat) (p : EncPic) (row qp nn nb : Nat) : Nat :=
  if 0 < nn then (nb * step64 qp + nn / 2) / nn * 2 + 1
  else match (recs.filter fun x => x.1 / 512 = p.cnt ∧ x.1 % 512 < row ∧ x.2 % 2 = 1).getLast? with
  | some x => x.2 / 2 * 2
  | none => if p.intra then 0 else Sparse.get 0 recs (recKey p.refc row) / 2 * 2

/-- A sample of a reconstruction, the nearest inside a picture of a size (R135). -/
def reconSample (blocks : Sparse (List Int)) (w h : Nat) : RefSample := fun y x c =>
  let yy := (sat y 0 (h - 1 : Int)).toNat
  let xx := (sat x 0 (w - 1 : Int)).toNat
  (Sparse.get [] blocks (yy / 8 * 32 + xx / 8)).getD (c * 64 + yy % 8 * 8 + xx % 8) 0

/-- What a slice refers to: the reconstruction of the picture before. -/
def EncStream.ref (x : EncStream) (e : EncSlice) (stream : Nat) : RefSample :=
  reconSample (Sparse.get [] x.recon e.pic.refc) (colWidth e.pic.width (stream % 64)) e.pic.height

/-- The ring of a slice's encoder while block b is coded. -/
def EncStream.ring (x : EncStream) (e : EncSlice) (stream b : Nat) : Ring :=
  ringAt (x.ref e stream) (4 * e.row) (rowHeight e.pic.height e.row / 8) (b / (colWidth e.pic.width (stream % 64) / 8))

/-- The reconstruction of a slice is what its bytes decode to (R145): a coded slice reads its reference through the ring of its
encoder. It joins its picture's; the picture before stays as reference, older ones go. -/
def EncStream.reconstruct (x : EncStream) (e : EncSlice) (stream : Nat) (bs : List Byte) : Sparse (Sparse (List Int)) :=
  match parseHdr bs with
  | none => x.recon
  | some h =>
    let rf (b : Nat) : RefSample := if e.kind = 0 then (x.ring e stream b).sample else x.ref e stream
    let bw := h.colW + 1
    let old := x.recon.filter fun p => p.1 = e.pic.cnt ∨ p.1 = e.pic.refc
    Sparse.set old e.pic.cnt ((decodeWith h bs rf).blocks.zipIdx.foldl (fun m b =>
      Sparse.set m ((4 * e.row + b.2 / bw) * 32 + b.2 % bw) b.1.samples) (Sparse.get [] x.recon e.pic.cnt))

/-! ### Streams in order -/

/-- Slices handed on leave the list beyond the last eight. -/
def trimSlices (l : List EncSlice) : List EncSlice :=
  l.drop (min (l.length - 8) (l.takeWhile (·.after.isSome)).length)

/-- A stream starts with its next slice; slices in flight go out before it. The plank sequence goes on. -/
def EncStream.restart (y : EncStream) : EncStream :=
  { EncStream.reset with f := y.f, slices := y.slices, floor := y.floor, recon := y.recon, tag := y.tag }

/-- The slices in flight of a stream are dropped, and it starts afresh. -/
def State.dropStream (s : State) (i : Nat) : State :=
  (s.setEncStream i { EncStream.reset with tag := (s.encStream i).tag }).showActive

/-- f before a slice: 0 at a stream start. -/
def EncStream.level (x : EncStream) (e : EncSlice) : Nat := if e.idx = 0 then 0 else x.f

/-- f after a slice of a number of bytes (R156). -/
def EncStream.drain (x : EncStream) (e : EncSlice) (bytes : Nat) : Nat :=
  min (min (x.level e) e.bkt + e.fill) e.bkt - 8 * bytes

/-- The first slice of a stream that has not been handed on, once it is complete: its bytes go out, the model drains, its
record, its reconstruction and a floor switch are noted (R156, R160, R161). A stored slice passes by the model. -/
def State.handOne (s : State) (stream : Nat) : Option State :=
  let x := s.encStream stream
  let l := stream / 64
  match x.slices.findIdx? (·.after.isNone) with
  | none => none
  | some i =>
    match x.slices[i]? with
    | none => none
    | some e =>
      if e.blocks.isNone then none else
      let (bs, broke, nn, nb) := s.sliceBytes stream e (x.floor = some e.pic.cnt)
      let f := if e.kind = 3 then x.f else x.drain e bs.length
      let slices := trimSlices (x.slices.set i { e with after := some f })
      let y := if e.kind = 3 then { x with slices := slices, floor := none }
        else { x with
          f := f, slices := slices
          floor := if broke.isSome then some e.pic.cnt else if x.floor = some e.pic.cnt then x.floor else none
          recs := Sparse.set x.recs (recKey e.pic.cnt e.row) (recordOf x.recs e.pic e.row e.qp nn nb)
          recon := x.reconstruct e stream bs }
      let s := s.setEncStream stream y
      let s := s.setEncLayer l { s.encLayer l with last := (e.pic.cnt + 1) % 65536 }
      let s : State := if e.kind = 0 ∧ ! e.intra then
          { s with enc := { s.enc with rings := Sparse.set s.enc.rings e.enc (x.ring e stream (e.n - 1)) } }
        else s
      let s := match broke with
        | some b =>
          let s := (s.bump ENC_LAYER_STAT.FLOOR_PIC l).raise 0x0701
            [(16, 2, stream), (18, 2, e.pic.cnt), (20, 2, e.row), (22, 1, b)]
          ({ s with enc := { s.enc with floors := s.enc.floors + 1 } } : State)
        | none => s
      some (s.sendSlice stream bs)

/-- Every slice that may go on goes on, in stream order (R151). -/
def State.handOn (s : State) (stream : Nat) : Nat → State
  | 0 => s
  | n + 1 => match s.handOne stream with
    | some s' => s'.handOn stream n
    | none => s

/-- Hand on whatever a stream has complete. -/
def State.flushStream (s : State) (stream : Nat) : State :=
  s.handOn stream ((s.encStream stream).slices.length + 1)

/-! ### Pictures (R147 to R149, R165) -/

/-- The streams of a picture. -/
def EncPic.streams (p : EncPic) (l : Nat) : List Nat := (List.range (colsOf p.width)).map (64 * l + ·)

/-- A picture whose slices are all allocated. -/
def State.allocated (s : State) (l : Nat) (p : EncPic) : Bool :=
  (p.streams l).all fun i => decide (rowsOf p.height ≤ (s.encStream i).row)

/-- Commands whose last column has left the schedule complete. -/
def State.endAsked (s : State) (gone rest : List (Nat × Option (Nat × Nat))) : State :=
  gone.foldl (fun (s : State) a =>
    match a.2 with
    | none => s
    | some (q, id) =>
      if rest.any (fun b => b.2 = some (q, id)) then s else
      match s.cmdAt q id 0x0601 with
      | some cm => s.finish cm stOk
      | none => s) s

/-- Forced refreshes scheduled of columns that the layer's picture does not have are void. -/
def State.dropAsked (s : State) (l cols : Nat) : State :=
  let x := s.encLayer l
  let rest := x.asked.filter (·.1 < cols)
  (s.setEncLayer l { x with asked := rest }).endAsked (x.asked.filter (cols ≤ ·.1)) rest

/-- The waiting picture of a layer begins: its counters; its streams start afresh or go on from the picture before (R147,
R148). -/
def State.beginPicture (s : State) (l : Nat) : State :=
  let x := s.encLayer l
  match x.waiting with
  | none => s
  | some p =>
    let size := (p.width, p.height)
    let sized := ! x.start && decide (x.size ≠ size)
    let p := { p with cnt := x.next, refc := (x.next + 65535) % 65536, fresh := x.start, intra := x.start || sized }
    let s := s.setEncLayer l { x with
      start := false, pic := some p, waiting := none, next := (x.next + 1) % 65536, size := size, begun := x.begun + 1, told := [] }
    let s := (s.setFld ENC_LAYER_PIC.PIC_CNT p.cnt l).dropAsked l (colsOf p.width)
    (p.streams l).foldl (fun (s : State) i =>
      let y := s.encStream i
      s.setEncStream i (if p.fresh then y.restart else { y with
        row := 0, forced := false, qps := if sized then [] else y.qps
        recs := y.recs.filter fun r => (p.cnt + 65536 - r.1 / 512) % 65536 ≤ 9 })) s

/-- The waiting picture begins once the picture before is allocated in every stream. -/
def State.tryBegin (s : State) (l : Nat) : State :=
  let x := s.encLayer l
  if x.waiting.isSome ∧ x.pic.all (s.allocated l) then s.beginPicture l else s

/-- The first slice of a picture fixes what holds for all of it: the ENC settings, its phase, and the host's QPs of this frame
with FN_RATE in ASSIST (R163, R165, R169). -/
def State.fixPicture (s : State) (l : Nat) (p : EncPic) : EncPic :=
  if p.fixed then p else
  let set' := s.encSettings l
  let per := set'.getD 0 0
  { p with
    fixed := true, set' := set', phase := if p.fresh ∨ per = 0 then 0 else ((s.encLayer l).phase + 1) % per
    host := if s.assist 6 then some ((s.enc.qps.filter (·.1 = l)).map (·.2)) else none }

/-- The picture in progress of a layer, as its slices see it. -/
def State.takePicture (s : State) (l : Nat) (p : EncPic) : State :=
  s.setEncLayer l { s.encLayer l with pic := some p, phase := p.phase }

/-- A slice is put at the end of a stream; refresh and QP bookkeeping is done. -/
def State.addSlice (s : State) (stream : Nat) (e : EncSlice) (carry : List Nat) : State :=
  let x := s.encStream stream
  s.setEncStream stream { x with
    slices := x.slices ++ [e], count := x.count + 1, row := e.row + 1, carry := carry, qps := Sparse.set x.qps e.row e.qp }

/-- A forced refresh of a column begins (R166): counted; the commands all of whose columns have begun complete. -/
def State.beginForced (s : State) (l c : Nat) : State :=
  let x := s.encLayer l
  let mine := x.asked.filter (·.1 = c)
  if mine = [] then s else
  let rest := x.asked.filter (·.1 ≠ c)
  ((s.setEncLayer l { x with asked := rest, forced := Sparse.set x.forced c x.begun }).bump ENC_LAYER_REQ.FORCED l).endAsked mine rest

/-- A forced refresh of column c may begin in the picture in progress: REQ_GAP pictures have begun since the last. -/
def State.forcedDue (s : State) (l c : Nat) : Bool :=
  let x := s.encLayer l
  x.asked.any (·.1 = c) && (match Sparse.find x.forced c with
    | some n => decide (n + s.fld ENC_GLOBAL.REQ_GAP ≤ x.begun)
    | none => true)

/-- Row 0 of a column is about to be allocated: a forced refresh that is due begins, and the column is forced in this picture if
one has begun or the decision of its frame says so (R166, R167). -/
def State.beginColumn (s : State) (l c : Nat) (p : EncPic) : State :=
  let i := 64 * l + c
  if (s.encStream i).row ≠ 0 then s
  else
    let due := s.forcedDue l c
    let s := if due then s.beginForced l c else s
    s.setEncStream i { s.encStream i with forced := due || decide (c ∈ p.forced) }

/-- The slices of column c are intra by R148, R166 or R167. -/
def State.allIntra (s : State) (l c : Nat) (p : EncPic) : Bool := p.intra || (s.encStream (64 * l + c)).forced

/-- Row r of column c is a refresh slice, or one carried over (R165, R168). -/
def State.refreshes (s : State) (l c r : Nat) (p : EncPic) : Bool :=
  let per := p.setting 0
  decide (r ∈ (s.encStream (64 * l + c)).carry) || (! s.assist 5 && decide (0 < per) && decide ((r + c) % per = p.phase))

/-! ### QP and caps (R158, R162 to R164) -/

/-- f after slice j − 8 of a stream, 0 before eight slices; none while that slice is not complete. -/
def EncStream.base (x : EncStream) : Option Nat :=
  if x.count < 8 then some 0 else (x.slices[x.slices.length - 8]?).bind (·.after)

/-- The cap of the next slice (R158). -/
def EncStream.cap (x : EncStream) (f8 fill bkt : Nat) : Nat :=
  let win := x.slices.drop (x.slices.length - min 7 x.count)
  let g := win.foldl (fun g e => min (g + e.fill) e.bkt - e.cap) f8
  min (min (g + fill) bkt) 524280

/-- The least QP from `qp` whose predicted size meets the target (R162). -/
def searchQp (xn t hi : Nat) : Nat → Nat → Nat
  | 0, qp => qp
  | n + 1, qp => if qp < hi ∧ t * step64 qp < xn then searchQp xn t hi n (qp + 1) else qp

/-- The QP that the host's decision gives to row r, or that of the co-located slice (R163, R164). -/
def hostQp (x : EncStream) (p : EncPic) (qs : List (Nat × Nat)) (r : Nat) : Nat :=
  match (qs.filter (·.2 ≤ r)).getLast? with
  | some e => e.1
  | none => Sparse.get (p.setting 1) x.qps r

/-- The QP of the next slice, of row r (R162 to R164). -/
def EncStream.sliceQp (x : EncStream) (p : EncPic) (r n f8 : Nat) : Nat :=
  match p.host with
  | some qs => hostQp x p qs r
  | none =>
    let peak := p.setting 5
    let pen := bucketOf peak (p.setting 6) - fillOf peak 128 - f8
    let t := max (p.setting 4 * n - pen / 4) (16 * n)
    let xc := if p.intra then 0 else Sparse.get 0 x.recs (recKey p.refc r) / 2
    let xu := if 8 ≤ r then Sparse.get 0 x.recs (recKey p.cnt (r - 8)) / 2 else 0
    let k := max xc xu
    if k = 0 then p.setting 1 else searchQp (k * n) t (p.setting 3) 48 (p.setting 2)

/-- The record that the QP of row r needs is there: in HW mode the co-located slice has been handed on. It always has in pictures
of eight slice rows and more (R150, R152, log entry 134). -/
def EncStream.recordKnown (x : EncStream) (p : EncPic) (r : Nat) : Bool :=
  p.host.isSome || p.intra || ! x.slices.any fun e => decide (e.pic.cnt = p.refc) && decide (e.row = r) && e.after.isNone

/-! ### SLICE_ALLOCATE and SLICE_ENCODE_DONE -/

/-- The source rows of a slice row are there: BUFFERED mode, a complete frame, `written` rows so far, or rows
taken from the frame before. -/
def rowsReady (p : EncPic) (r written : Nat) : Bool :=
  ! p.slice || p.src.all (·.whole) || decide (min (32 * r + 32) p.height ≤ written) || (Sparse.find p.torn r).isSome

/-- The newest content of the frame that a SLICE-mode picture reads. -/
def State.freshSrc (s : State) (l : Nat) (p : EncPic) : EncPic :=
  match p.src, (s.ingLayer l).source with
  | some f, some i =>
    (match (s.source i).frames.find? fun g => g.stamp = f.stamp with
     | some g => { p with src := some g }
     | none => p)
  | _, _ => p

/-- A free slice encoder, as 16 × bay + number: 16 in every ENC bay of the rotation (R22, R150). -/
def State.freeEncoder (s : State) : Option Nat :=
  match s.nextTaker s.encHeld ((s.takers 2).filter fun b => s.encHeld b < 16) with
  | none => none
  | some b =>
    ((List.range 16).find? fun n => ! s.enc.streams.any fun x => x.2.slices.any fun e => e.coding && decide (e.enc = 16 * b + n)).map
      (16 * b + ·)

/-- A slice of a stream, its next, as it is allocated. -/
def State.newSlice (s : State) (l c : Nat) (p : EncPic) (f8 enc : Nat) : EncSlice :=
  let x := s.encStream (64 * l + c)
  let n := blocksOf p.width p.height c x.row
  let peak := p.setting 5
  let bkt := bucketOf peak (p.setting 6)
  let must := s.allIntra l c p
  { pic := p, idx := x.count, row := x.row, n := n, qp := x.sliceQp p x.row n f8, cap := x.cap f8 (fillOf peak n) bkt
    fill := fillOf peak n, bkt := bkt, intra := must || s.refreshes l c x.row p, must := must, kind := 0, bytes := [], enc := enc
    blocks := none, after := none }

/-- SLICE_ALLOCATE: the next slice of a stream goes to a free slice encoder with its cap and QP (R150). `written` is how
many rows of the source frame have been written, for a picture in SLICE mode. -/
def onSliceAllocate (l : Fin 63) (c : Fin 64) (written : Nat) (s : State) : State :=
  let l : Nat := l.val
  let c : Nat := c.val
  match (s.encLayer l).pic with
  | none => s
  | some p =>
    let p := s.fixPicture l (if p.slice then s.freshSrc l p else p)
    let i := 64 * l + c
    let x := s.encStream i
    if colsOf p.width ≤ c ∨ rowsOf p.height ≤ x.row ∨ ! rowsReady p x.row written ∨ ! x.recordKnown p x.row then s else
    match x.base, s.freeEncoder with
    | some f8, some enc =>
      let s := (s.takePicture l p).beginColumn l c p
      let carry := (s.encStream i).carry.filter (· ≠ x.row)
      (((s.addSlice i (s.newSlice l c p f8 enc) carry).give (enc / 16)).showActive).tryBegin l
    | _, _ => s

/-- Some lines of external memory that an encoder of a bay met reading its WORK, as far as they read uncorrectable or poisoned. -/
def State.workLost (s : State) (bay : Nat) (lines : List Nat) : List Nat :=
  match s.workOf bay with
  | some p => lines.filter fun l => p.meets true (l * s.lineBytes) s.lineBytes &&
      (! s.extUp || l ∈ s.mem.extBad || (2, l, false) ∈ s.mem.poison)
  | none => []

/-- A slice sent all-tail, FLOOR_FROM = 0 and INTRA = 1 (R160, Table 15-5). -/
def EncSlice.allTail (e : EncSlice) : EncSlice := { e with kind := 1, intra := true, blocks := some [] }

/-- SLICE_ENCODE_DONE: a slice encoder completes the slice of a row: `blocks` are the bits of each block as the kernel
coded it. They obey the syntax of a slice, with every vector in the window (R145, R155), and a slice that must be intra has no
SKIP and no COPY (R148). `lost` are lines of its bay's WORK that it read; where one was uncorrectable or poisoned the slice goes out
all-tail (R404, log entry 155). -/
def onSliceEncodeDone (l : Fin 63) (c : Fin 64) (row : Nat) (blocks : List (List Bool)) (lost : List Nat) (s : State) : State :=
  let i := 64 * l.val + c.val
  let x := s.encStream i
  match x.slices.findIdx? fun e => decide (e.row = row) && e.coding with
  | none => s
  | some k =>
    match x.slices[k]? with
    | none => s
    | some e =>
      let put (s : State) (e : EncSlice) : State :=
        ((s.setEncStream i { x with slices := x.slices.set k e }).showActive).flushStream i
      let gone := s.workLost (e.enc / 16) lost
      if gone ≠ [] then
        put ((gone.filter fun l => l ∈ s.mem.extBad || ! s.extUp).foldl (fun (s : State) l => s.lineUc l 2) s) e.allTail
      else if blocks.length ≠ e.n ∨ (e.intra ∧ blocks.any refersBack) ∨ ! blocksObey (e.hdr i) ⟨[], 0, 0, 0, false⟩ blocks then s
      else put s { e with blocks := some blocks }

/-! ### Overrun (R168) -/

/-- What a slice becomes that is not coded (R168): all-tail where R148, R166 or R167 make it intra, else all SKIP. -/
def EncSlice.asFill (e : EncSlice) : EncSlice :=
  { e with kind := if e.must then 1 else 2, intra := e.must, blocks := some [] }

/-- The rows of refresh slices among fill slices, to be carried over (R168). -/
def carriedRows (es : List EncSlice) : List Nat := (es.filter fun e => e.intra && ! e.must).map (·.row)

/-- One fill slice of a stream, for its next row. Its cap is its size. -/
def State.fillOne (s : State) (l i : Nat) (p : EncPic) : State :=
  let c := i % 64
  let s := s.beginColumn l c p
  let x := s.encStream i
  let e := s.newSlice l c p 0 256
  let qp := hostQp x p (p.host.getD []) x.row
  let size := if e.must then 128 + 960 * e.n else 128 + (e.n + 7) / 8 * 8
  s.addSlice i { e.asFill with qp := qp, cap := size }
    (carriedRows [e] ++ (x.carry.filter (· ≠ x.row)))

/-- The rest of a picture of a stream as fill slices. -/
def State.fillRest (s : State) (l i : Nat) (p : EncPic) : Nat → State
  | 0 => s
  | n + 1 => if rowsOf p.height ≤ (s.encStream i).row then s else (s.fillOne l i p).fillRest l i p n

/-- Fill slices of a picture are counted, and reported once per picture. -/
def State.reportFill (s : State) (l cnt n : Nat) : State :=
  if n = 0 then s else
  let s := s.bump ENC_LAYER_STAT.OVERRUN l n
  let x := s.encLayer l
  if x.overrun = some cnt then s
  else (s.setEncLayer l { x with overrun := some cnt }).raise 0x0601 [(16, 1, l), (18, 2, cnt), (20, 4, n)]

/-- The slices of a picture not yet allocated are emitted as fill slices, and the next picture begins. -/
def State.encOverrun (s : State) (l : Nat) : State :=
  let x := s.encLayer l
  match x.pic with
  | none => s.tryBegin l
  | some p =>
    let p := s.fixPicture l p
    let n := (p.streams l).foldl (fun n i => n + (rowsOf p.height - (s.encStream i).row)) 0
    let s := s.takePicture l p
    let s := (p.streams l).foldl (fun (s : State) i => (s.fillRest l i p (rowsOf p.height)).flushStream i) s
    (s.reportFill l p.cnt n).tryBegin l

/-- ENC_OVERRUN: row 0 of the next picture is ready while slices of this one are unallocated. `written` is how many rows of its
source frame have been written, for a picture in SLICE mode. -/
def onEncOverrun (l : Fin 63) (written : Nat) (s : State) : State :=
  match (s.encLayer l).waiting with
  | some p => if rowsReady (s.freshSrc l p) 0 written then s.encOverrun l else s
  | none => s

/-- The slices of a layer that a bay left unfinished go out as fill slices (R23, log entry 133). -/
def State.fillLeft (s : State) (l : Nat) : State :=
  let lost (e : EncSlice) : Bool := decide (e.kind = 0) && e.blocks.isNone && decide (e.enc = 256)
  let ids := (List.range 64).map (64 * l + ·)
  let es := ids.flatMap fun i => (s.encStream i).slices.filter lost
  if es = [] then s else
  let s := ids.foldl (fun (s : State) i =>
    let x := s.encStream i
    let mine := x.slices.filter lost
    if mine = [] then s
    else (s.setEncStream i { x with
      slices := x.slices.map fun e => if lost e then e.asFill else e, carry := carriedRows mine ++ x.carry }).flushStream i) s
  (es.map (·.pic.cnt)).eraseDups.foldl (fun (s : State) cnt => s.reportFill l cnt (es.countP fun e => decide (e.pic.cnt = cnt))) s

/-- A picture of a layer is ready to be encoded; it never queues behind another. -/
def State.openPicture (s : State) (l : Nat) (src before : Option SrcFrame) (slice : Bool) : State :=
  let x := s.encLayer l
  match x.scale with
  | none => s
  | some v =>
    let s := if x.waiting.isSome then s.encOverrun l else s
    let x := s.encLayer l
    let forced := if s.assist 5 then ((s.enc.columns.filter (·.1 = l)).flatMap fun e =>
        (List.range 64).filter fun c => bits e.2 c 1 = 1) else []
    let p : EncPic := {
      cnt := 0, refc := 0, width := v.getD 4 0, height := v.getD 5 0, fresh := false, intra := false, phase := 0, src := src
      before := before, scale := v, slice := slice, torn := [], forced := forced, fixed := false, set' := [], host := none }
    (s.setEncLayer l { x with waiting := some p, opened := true }).tryBegin l

/-! ### Source frames (R113, R114) -/

/-- A layer encodes: enabled, with valid scaling, not playing a clip. -/
def State.encodes (s : State) (l : Nat) : Bool :=
  (s.encLayer l).on && (s.encLayer l).scale.isSome && ! (s.ingLayer l).play.any (·.on)

/-- SOURCE_FRAME_START: a source frame begins. For a receiver `rows` is what it will hold; a flow's frame was opened by
its first packet. Its stamp goes to FN_TIM when it is the cadence source; a layer in SLICE mode begins the picture of the wall
frame, unless that has begun (R147). -/
def onSourceFrameStart (i : Fin 96) (rows : List (List Nat)) (s : State) : State :=
  let i : Nat := i.val
  let s := if i < 32 then
      match (s.source i).fmt with
      | some f =>
        s.openFrame i ⟨0, s.now, f.width, f.height, f.full, f.rgb, f.deep,
          decide (bits (s.sdiWord i) 4 1 = 1), 0, rows.zipIdx.map (fun r => (r.2, r.1.map some)), false, false⟩
      | none => s
    else s
  let x := s.source i
  match x.frames.head? with
  | none => s
  | some f =>
    if x.reported then s else
    let s := s.setSource i { x with reported := true }
    let s : State := if (s.ingLayer (s.fld ING_CADENCE.LAYER)).source = some i then
        { s with key := { s.key with stamp := some f.stamp, stamps := (f.stamp :: s.key.stamps).take 3 } }
      else s
    (s.layersOf i).foldl (fun (s : State) l =>
      if s.encodes l ∧ bits (s.ingLayer l).word 3 1 = 1 ∧ ! (s.encLayer l).opened then
        s.openPicture l (some f) (x.frames.find? (·.whole)) true
      else s) s

/-- SLICE_ROW_DEADLINE: the encode deadline of the next slice row of a layer in SLICE mode passes with rows unwritten:
they are taken from the complete frame before (R113, R152). -/
def onSliceRowDeadline (l : Fin 63) (row written : Nat) (s : State) : State :=
  let l : Nat := l.val
  let x := s.encLayer l
  match x.pic, (s.ingLayer l).source with
  | some p, some i =>
    (match p.src with
     | some f =>
       let at' := f.stamp + (row + 1) * (s.source i).period / rowsOf p.height + s.fld ENC_GLOBAL.SLICE_WAIT * us
       if ! p.slice ∨ rowsOf p.height ≤ row ∨ s.now < at' ∨ rowsReady (s.freshSrc l p) row written then s else
       let lost := (List.range f.height).filter fun y => decide (written ≤ y) && decide (32 * row ≤ y) && decide (y < 32 * row + 32)
       let s := s.setEncLayer l { x with pic := some { p with torn := Sparse.set p.torn row lost } }
       let s := s.bump ING_TORN.TORN l
       if p.torn = [] then s.raise 0x0305 [(16, 1, l), (20, 4, row)] else s
     | none => s)
  | _, _ => s

/-! ### Forced refreshes (R166, R167) -/

/-- Schedule a forced refresh of a column, for a request (no command) or a command. -/
def State.askRefresh (s : State) (l c : Nat) (cmd : Option (Nat × Nat)) : State :=
  let x := s.encLayer l
  let s := if x.asked.any (·.1 = c) then s.bump ENC_LAYER_REQ.REQ_JOINED l else s
  if (c, cmd) ∈ x.asked then s else s.setEncLayer l { x with asked := x.asked ++ [(c, cmd)] }

/-- The columns that a layer's next picture may have: those of its declared size, all while no size is in force. -/
def State.layerCols (s : State) (l : Nat) : Nat :=
  match (s.encLayer l).scale with
  | some v => colsOf (v.getD 4 0)
  | none => 64

/-- REFRESH_REQ: a pier asks for a refresh of a stream. -/
def onRefreshReq (s : State) : State :=
  match s.takeMsg 0x0B with
  | none => s
  | some (_, m, s) =>
    let stream := beAt m.payload 0 2 % 4096
    let l := stream / 64
    let x := s.encLayer l
    if m.payload.length ≠ 5 ∨ ! x.on ∨ s.layerCols l ≤ stream % 64 then s
    else if s.assist 5 then
      if stream ∈ x.told then s
      else (s.setEncLayer l { x with told := stream :: x.told }).raise 0x0602 [(16, 2, stream), (18, 2, m.src)]
    else s.askRefresh l (stream % 64) none

/-- CMD_ENC_REFRESH. -/
def onCmdEncRefresh (q : Fin 24) (tag : Nat) (s : State) : State :=
  match s.cmd q tag 0x0601 with
  | none => s
  | some c =>
    let l := c.opnd 32 1
    if ! s.flag ENC_LAYER_CFG.EN l then s.finish c 0x0601 else
    let cols := (List.range (s.layerCols l)).filter fun k => bits (c.opnd 40 8) k 1 = 1
    if cols = [] then s.finish c stOk
    else cols.foldl (fun (s : State) k => s.askRefresh l k (some (c.q, c.id))) (s.run c)

/-- A safe point of CMD_ENC_REFRESH, at a frame start: what has not begun is cancelled; a column that a pier has asked for as well
stays scheduled. -/
def State.refreshStop (s : State) (c : Cmd) : State :=
  if c.phase ≠ .running then s else
  let l := c.opnd 32 1
  let x := s.encLayer l
  (s.setEncLayer l { x with asked := x.asked.filter fun a => a.2 ≠ some (c.q, c.id) }).finish c stAborted

/-! ### Playback (R115, R116) -/

/-- CMD_ING_PLAY: the layer plays a clip from the next frame start. A playback in progress ends with it, its streams go on (log
entry 135). -/
def onCmdIngPlay (q : Fin 24) (tag : Nat) (s : State) : State :=
  match s.cmd q tag 0x0301 with
  | none => s
  | some c =>
    let l := c.opnd 32 1
    let old := (s.ingLayer l).play
    let s := (s.run c).setIngLayer l { s.ingLayer l with
      play := some ⟨c.q, c.id, c.opnd 40 8 * 4096, decide (c.opnd 33 1 % 2 = 1), 0, old.any (·.on)⟩ }
    match old.bind fun p => s.cmdAt p.q p.id 0x0301 with
    | some d => s.finish d stOk
    | none => s

/-- The slices of a stored picture, cut by BYTE_LEN. -/
def cutSlices : Nat → List Byte → List (List Byte)
  | 0, _ => []
  | n + 1, bs =>
    let len := beAt bs 14 2
    if bs.length < 16 ∨ len < 16 then [] else bs.take len :: cutSlices n (bs.drop len)

/-- A stored slice with its counters rewritten. -/
def recount (cnt : Nat) (bs : List Byte) : List Byte :=
  bs.take 6 ++ beBytes 2 cnt ++ beBytes 2 ((cnt + 65535) % 65536) ++ bs.drop 10

/-- The pictures of a clip (R115). -/
def State.clipPictures (s : State) (p : Play) : Nat := leNat (s.spaceRead true p.base 4)

/-- A playback has no picture for the frame that starts. -/
def State.playOver (s : State) (p : Play) : Bool :=
  decide (s.clipPictures p = 0) || (! p.loop && decide (s.clipPictures p ≤ p.next))

/-- A layer leaves its playback: it returns to its bound source, and its streams restart with the next picture (R149). -/
def State.leavePlay (s : State) (l : Nat) (p : Play) : State :=
  let s := s.setIngLayer l { s.ingLayer l with play := none }
  if p.on then s.setEncLayer l { s.encLayer l with start := true, pic := none, waiting := none } else s

/-- A playback is over, its command with it. -/
def State.endPlay (s : State) (l : Nat) (p : Play) (status : Nat) : State :=
  let s := s.leavePlay l p
  match s.cmdAt p.q p.id 0x0301 with
  | some c => s.finish c status
  | none => s

/-- Clips that have ended at a frame start: their layers take their bound sources from this frame on (R116, R149). -/
def State.endClips (s : State) : State :=
  (List.range 63).foldl (fun (s : State) l =>
    match (s.ingLayer l).play with
    | some p => if s.playOver p then s.endPlay l p stOk else s
    | none => s) s

/-- A reset of FN_ING_SDI ends every playback. -/
def State.stopClips (s : State) : State :=
  (List.range 63).foldl (fun (s : State) l =>
    match (s.ingLayer l).play with
    | some p => s.leavePlay l p
    | none => s) s

/-- What a layer still encodes as a playback begins: the rest of its pictures goes out as fill slices (log entry 135). -/
def State.drainLayer (s : State) (l : Nat) : State :=
  let s := if (s.encLayer l).waiting.isSome then s.encOverrun l else s
  let s := s.encOverrun l
  s.setEncLayer l { s.encLayer l with pic := none, waiting := none }

/-- A stored slice takes its place in its stream. -/
def State.addStored (s : State) (l cnt : Nat) (bs : List Byte) : State :=
  let i := 64 * l + beAt bs 4 2 % 64
  let p : EncPic := {
    cnt := cnt, refc := (cnt + 65535) % 65536, width := 0, height := 0, fresh := false, intra := false, phase := 0, src := none
    before := none, scale := [], slice := false, torn := [], forced := [], fixed := true, set' := [], host := none }
  let e : EncSlice := {
    pic := p, idx := 0, row := 0, n := 0, qp := 0, cap := 0, fill := 0, bkt := 0, intra := false, must := false, kind := 3
    bytes := recount cnt bs, enc := 256, blocks := some [], after := none }
  let x := s.encStream i
  (s.setEncStream i { x with slices := x.slices ++ [e] }).flushStream i

/-- A layer that plays, at a frame start: the next picture goes out. -/
def State.playFrame (s : State) (l : Nat) (p : Play) : State :=
  let s := if p.on then s else s.drainLayer l
  let k := if s.clipPictures p ≤ p.next then 0 else p.next
  let e := s.spaceRead true (p.base + 64 + 16 * k) 16
  let at' := p.base + leAt e 0 8
  let bs := s.spaceRead true at' (leAt e 8 4)
  let s := s.reportBad true at' (leAt e 8 4) fixedClass 1
  let x := s.encLayer l
  let s := s.setEncLayer l { x with
    next := (x.next + 1) % 65536, last := (x.next + 1) % 65536, pic := none, waiting := none, opened := true }
  let s := s.setFld ENC_LAYER_PIC.PIC_CNT x.next l
  let s := s.setIngLayer l { s.ingLayer l with play := some { p with next := k + 1, on := true } }
  (cutSlices bs.length bs).foldl (fun (s : State) sl => s.addStored l x.next sl) s

/-- A safe point of CMD_ING_PLAY, at a frame start. -/
def State.playStop (s : State) (c : Cmd) : State :=
  let l := c.opnd 32 1
  match (s.ingLayer l).play with
  | some p => if c.phase = .running ∧ p.q = c.q ∧ p.id = c.id then s.endPlay l p stAborted else s
  | none => s

/-! ### Frame start and resets -/

/-- The size of what a layer takes: of the frame it reads; before any came, of its source's format; where no format is known, just
what its crop needs (log entry 130). -/
def State.srcSize (s : State) (l : Nat) : Option (Nat × Nat) :=
  let x := s.ingLayer l
  let cropped : Option (Nat × Nat) := if s.fld CMP_SRC_CSIZE.W l ≠ 0 ∧ s.fld CMP_SRC_CSIZE.H l ≠ 0 then
      some (s.fld CMP_SRC_CROP.X l + s.fld CMP_SRC_CSIZE.W l, s.fld CMP_SRC_CROP.Y l + s.fld CMP_SRC_CSIZE.H l)
    else none
  match x.frame, x.source with
  | some f, _ => some (f.width, f.height)
  | none, some i =>
    if i < 32 then (match (s.source i).fmt with | some f => some (f.width, f.height) | none => cropped)
    else
      let w := (s.flowWords (i - 32)).getD 4 0
      if flowSizeOk w then some (bits w 0 13, bits w 16 13) else cropped
  | none, none => cropped

/-- The scaling values that a layer would take now, where they are valid. -/
def State.scaleNow (s : State) (l : Nat) : Option (List Nat) :=
  match s.srcSize l with
  | none => none
  | some (w, h) => let v := s.scaleValues l w h; if scaleOk v w h then some v else none

/-- The scaling of a layer at a frame start (R301). -/
def State.takeScale (s : State) (l : Nat) : State :=
  match s.scaleNow l with
  | some v => (s.setFlag CMP_SRC_FILT.ERR false l).setEncLayer l { s.encLayer l with scale := some v }
  | none => if (s.srcSize l).isSome then s.setFlag CMP_SRC_FILT.ERR true l else s

/-- What a layer shows in this frame: the frame it reads, or black. -/
def IngLayer.shown (y : IngLayer) : Option SrcFrame := if y.black then none else y.frame

/-- A wall frame has ended in which a layer in SLICE mode opened no picture, for no source frame began: its picture repeats what
the layer has (R147, log entry 130). -/
def State.owedPicture (s : State) (l : Nat) : State :=
  let x := s.encLayer l
  if x.on ∧ x.scale.isSome ∧ ! x.opened ∧ ! x.start then s.openPicture l (s.ingLayer l).shown none false else s

/-- A layer of the encoder at a frame start. -/
def State.encLayerFrame (s : State) (l : Nat) : State :=
  let s := s.fillLeft l
  match (s.ingLayer l).play with
  | some p => s.playFrame l p
  | none =>
    let en := s.flag ENC_LAYER_CFG.EN l
    let x := s.encLayer l
    if ! en ∧ ! x.on ∧ x.scale.isNone then s
    else
      let s := if en then (s.owedPicture l).takeScale l else s
      let x := s.encLayer l
      let s := s.setEncLayer l { x with
        on := en, start := x.start || (en && ! x.on), opened := false, scale := if en then x.scale else none
        waiting := if en then x.waiting else none }
      let y := s.ingLayer l
      if s.encodes l ∧ bits y.word 3 1 = 0 then s.openPicture l y.shown none false else s

/-- The entries of a list decision of 4-byte entries (R163). -/
def qpEntries (bs : List Byte) : List (Nat × Nat × Nat) :=
  ((List.range (bs.length / 4)).map fun i => (leAt bs (4 * i) 1, leAt bs (4 * i + 1) 1, leAt bs (4 * i + 2) 2)).filter (·.1 ≠ 0xFF)

/-- The entries of a list decision of 12-byte entries (R167). -/
def columnEntries (bs : List Byte) : List (Nat × Nat) :=
  ((List.range (bs.length / 12)).map fun i => (leAt bs (12 * i) 1, leAt bs (12 * i + 4) 8)).filter (·.1 ≠ 0xFF)

/-- The encoder at a frame start: decisions of the frame, then every layer. -/
def State.encFrame (s : State) (frame : Nat) : State :=
  let (d5, s) : Option (List Byte) × State := if s.assist 5 then s.useDecision 5 (periodOf frame) else (none, s)
  let (d6, s) : Option (List Byte) × State := if s.assist 6 then s.useDecision 6 (periodOf frame) else (none, s)
  let s : State := { s with enc := { s.enc with
    columns := (d5.map columnEntries).getD [], qps := (d6.map qpEntries).getD []
    floorsLast := s.enc.floors, floors := 0 } }
  (List.range 63).foldl (fun (s : State) l => s.encLayerFrame l) s

/-- Whether a layer will be encoded in the frame that starts next: enabled, with valid scaling, its clip not going on. -/
def State.willEncode (s : State) (l : Nat) : Bool :=
  s.flag ENC_LAYER_CFG.EN l && ! (s.ingLayer l).play.any (fun p => ! s.playOver p) &&
  (((s.encLayer l).on && (s.encLayer l).scale.isSome) || (s.scaleNow l).isSome)

/-- Every stream of a layer starts afresh at the next frame start; slices in flight are dropped (R171, R435). -/
def State.restartStreams (s : State) (l : Nat) (next : Nat) : State :=
  let x := s.encLayer l
  let s := (s.setEncLayer l { x with start := true, pic := none, waiting := none, next := next % 65536, opened := true }).dropAsked l 0
  (List.range 64).foldl (fun (s : State) c =>
    if (Sparse.find s.enc.streams (64 * l + c)).isSome then s.dropStream (64 * l + c) else s) s

/-- A reset of FN_ENC (Table 6-6): PIC_CNT goes on from the last picture of which a slice has been emitted. -/
def State.encReset (s : State) : State :=
  (List.range 63).foldl (fun (s : State) l =>
    if (Sparse.find s.enc.layers l).isSome then s.restartStreams l (s.encLayer l).last else s) s

/-- A reset of FN_RATE (Table 6-6): records and QP decisions go; model levels and caps stay. -/
def State.rateReset (s : State) : State :=
  { s with enc := { s.enc with
    qps := [], streams := s.enc.streams.map fun x => (x.1, { x.2 with recs := [], qps := [] }) } }

end Sys2Proof.Machine
end

