-- ==== Sys2Proof/Machine/Red.lean ====
section
/-! DEFINITION. The drive lease (spec/17_redundancy.md, R430 to R441): lease planks at piers and ends, acknowledgements,
expiry, claims, fencing, handovers; and the arrival of VC1 planks (R197, R198, R227, R433). The vote of the keystones
stands with the cadence. -/

namespace Sys2Proof.Machine

/-- An entry after reset. -/
def SegSt.reset : SegSt := ⟨0, 0, none, none, none, none, 0, false, 0, 0, none, false, false⟩

/-- What FN_RED keeps of an entry. -/
def State.seg (s : State) (e : Nat) : SegSt := Sparse.get SegSt.reset s.red.segs e

/-- Store what FN_RED keeps of an entry. -/
def State.setSeg (s : State) (e : Nat) (x : SegSt) : State :=
  { s with red := { s.red with segs := Sparse.set s.red.segs e x } }

/-- STANDBY. -/
def segStandby : Nat := 4
/-- HOLDER. -/
def segHolder : Nat := 5
/-- FENCED. -/
def segFenced : Nat := 6

/-- This device is an end of entry e. -/
def State.isEnd (s : State) (e : Nat) : Bool :=
  decide (s.self ≠ 0) && (decide (s.fld RED_SEG_ENDS.END_A e = s.self) || decide (s.fld RED_SEG_ENDS.END_B e = s.self))

/-- The other end of entry e. -/
def State.otherEnd (s : State) (e : Nat) : Nat :=
  if s.fld RED_SEG_ENDS.END_A e = s.self then s.fld RED_SEG_ENDS.END_B e else s.fld RED_SEG_ENDS.END_A e

/-- The entries that track lease planks here: entry 0 on a pier, every enabled entry elsewhere. -/
def State.segEntries (s : State) : List Nat :=
  (if s.isPier then [0] else List.range 16).filter fun e => s.flag RED_SEG_CFG.EN e

/-! ### Lease planks (R430 to R432) -/

/-- The payload of a lease plank (Table 17-2). -/
def leaseBytes (seg flags epoch frame holder : Nat) (pics : List Nat) : List Byte :=
  beBytes 2 seg ++ beBytes 1 flags ++ [0] ++ beBytes 4 epoch ++ beBytes 8 frame ++ beBytes 2 holder ++
    List.replicate 6 0 ++ (List.range 63).flatMap fun l => beBytes 2 (pics.getD l 0)

/-- PIC of this end: for the layers of a segment that it claims, those of the last lease plank plus 8 (R435). -/
def State.leasePics (s : State) (e : Nat) (claim : Bool) : List Nat :=
  (List.range 63).map fun l =>
    if claim ∧ s.fld VIA_LAYER_GROUP.GROUP l = s.fld RED_SEG_CFG.GROUP e then
      (match (s.seg e).pics with | some ps => (ps.getD l 0 + 8) % 65536 | none => 0)
    else s.fld ENC_LAYER_PIC.PIC_CNT l

/-- Send a lease plank of an entry to its group. -/
def State.sendLease (s : State) (e flags frame : Nat) : State :=
  let bs := leaseBytes (s.fld RED_SEG_CFG.SEG e) flags (s.fld RED_SEG_EPOCH.EPOCH e) frame s.self
    (s.leasePics e (flags % 2 = 1))
  let g := s.fld RED_SEG_CFG.GROUP e
  let x := s.encStream 0xFFF
  (s.setEncStream 0xFFF { x with tag := (x.tag + 1) % 2 ^ 32 }).multicast g
    { typ := 1, vc := 1, hops := s.fld VIA_CFG.HOPS_INIT, src := s.self, dst := g, stream := 0xFFF, flags := 192, lseq := 0,
      tag := x.tag, rsv := 0, payload := bs } none none

/-- STATE of an entry follows the view on a device that is no end of it. -/
def State.showView (s : State) (e : Nat) : State :=
  if s.isEnd e then s else s.setFld RED_SEG_STATUS.STATE (s.seg e).view e

/-- A lease plank renews or moves the lease of an entry: holder, epoch, R and, on a pier, the lease port. Only an R above the one
before puts an expiry off (R433); an end whose lease another holds now has not held it last (R434). -/
def State.takeLease (s : State) (e k view holder epoch frame : Nat) : State :=
  let x := s.seg e
  let s := s.setSeg e { x with view := view, frame := frame, due := if x.view = 1 ∧ frame ≤ x.frame then x.due else none }
  let s := if s.isEnd e ∧ holder ≠ s.self then s.setFlag RED_SEG_STATUS.LAST false e else s
  let s := (s.setFld RED_SEG_STATUS.HOLDER holder e).setFld RED_SEG_EPOCH.EPOCH epoch e
  let s := (s.setFld RED_SEG_RENEW.FRAME frame e).setFld RED_SEG_STATUS.PORT (if s.isPier then k else 0) e
  s.showView e

/-- What Table 17-3 makes of a lease plank for an entry: the state after it where it is accepted, none where it is refused. -/
def State.leaseOutcome (s : State) (e k : Nat) (bs : List Byte) : Option State :=
  let x := s.seg e
  let flags := beAt bs 2 1
  let epoch := beAt bs 4 4
  let frame := beAt bs 8 8
  let holder := beAt bs 16 2
  let mine := s.fld RED_SEG_EPOCH.EPOCH e
  let known := decide (holder = s.fld RED_SEG_STATUS.HOLDER e)
  let fromEnd := decide (holder = s.fld RED_SEG_ENDS.END_A e) || decide (holder = s.fld RED_SEG_ENDS.END_B e)
  let claimed (s : State) : State := s.raise 0x1404 [(16, 1, e), (18, 2, holder), (20, 4, epoch)]
  if flags = 1 then
    if x.view ≠ 1 ∧ fromEnd ∧ mine < epoch then some (claimed (s.takeLease e k 1 holder epoch frame))
    else if x.view = 1 ∧ known ∧ mine < epoch then some (claimed (s.takeLease e k 1 holder epoch x.frame))
    else none
  else if x.view = 1 ∧ known ∧ epoch = mine then
    if flags = 0 then some (s.takeLease e k 1 holder epoch frame)
    else if flags = 2 then some (s.takeLease e k 2 holder epoch x.frame)
    else none
  else none

/-! ### Claims (R434, R435) -/

/-- An end claims an entry: EPOCH one above the highest seen, a CLAIM plank, CLAIM_GAP without other VC1 planks. -/
def State.claim (s : State) (e : Nat) : State :=
  let x := s.seg e
  let epoch := (max x.seen (s.fld RED_SEG_EPOCH.EPOCH e) + 1) % 2 ^ 32
  let s := s.setSeg e { x with
    view := 1, frame := s.frame, due := none, claimAt := none, seen := epoch, acks := 0, named := s.frame, noAck := false
    gap := some (s.clock + s.fld RED_CFG.CLAIM_GAP * us) }
  let s := (s.setFld RED_SEG_STATUS.STATE segHolder e).setFlag RED_SEG_STATUS.LAST false e
  let s := (s.setFld RED_SEG_STATUS.HOLDER s.self e).setFld RED_SEG_EPOCH.EPOCH epoch e
  let s := (s.setFld RED_SEG_RENEW.FRAME s.frame e).setFld RED_SEG_ACK.MISS 0 e
  let s := s.raise 0x1404 [(16, 1, e), (18, 2, s.self), (20, 4, epoch)]
  s.sendLease e 1 s.frame

/-- The handover that waits for a release of an entry claims now (R439). -/
def State.handoverClaim (s : State) (e : Nat) : State :=
  match s.red.handover with
  | some h =>
    if h.seg = e ∧ h.claim.isNone then
      let s := s.claim e
      { s with red := { s.red with handover := some { h with claim := some s.frame } } }
    else s
  | none => s

/-- A lease plank reaches FN_RED: answered on a pier; whether it was accepted. -/
def State.deliverLease (s : State) (k : Nat) (x : Plank) : State × Bool :=
  let bs := x.payload
  let entry := s.segEntries.find? fun e => s.fld RED_SEG_CFG.SEG e = beAt bs 0 2
  let refuse : State × Bool := (s.bump LDG_LEASE_CNT.REFUSED, false)
  if bs.length ≠ 150 ∨ x.flags &&& 192 ≠ 192 ∨ 4 ≤ beAt bs 2 1 ∨ beAt bs 3 1 ≠ 0 ∨ 4096 ≤ beAt bs 16 2 ∨
      beAt bs 16 2 ≠ x.src ∨ (bytesAt bs 18 6).any (· ≠ 0) then refuse
  else match entry with
  | none => refuse
  | some e =>
    let y := s.seg e
    let pics := (List.range 63).map fun l => beAt bs (24 + 2 * l) 2
    let s := s.setSeg e { y with
      seen := max y.seen (beAt bs 4 4), heard := true, pics := if beAt bs 16 2 = s.self then y.pics else some pics }
    match s.leaseOutcome e k bs with
    | none => (s.bump LDG_LEASE_CNT.REFUSED, false)
    | some s =>
      if s.isPier then
        (s.sendMsg (.node (beAt bs 16 2)) 0 0x22 0 (bytesAt bs 0 2 ++ [0, 0] ++ bytesAt bs 4 12) false, true)
      else if beAt bs 2 1 = 2 then (s.handoverClaim e, true)
      else (s, true)

/-! ### Arrival of VC1 planks (R197, R198, R227, R433) -/

/-- The ports on which a VC1 plank of a group that arrived on port k goes on. -/
def State.vc1Outs (s : State) (k : Nat) (x : Plank) : List Nat :=
  portsWhere 16 fun j => decide (bits (s.fld VIA_GROUP.PORTS x.dst) j 1 = 1) && decide (j ≠ k) &&
    decide (bits ((s.interestOf j).getD (x.stream / 8) 0).toNat (7 - x.stream % 8) 1 = 1)

/-- A VC1 plank that fills a slot is delivered (`local'`) and goes on or not. -/
def State.moveVc1 (s : State) (k : Nat) (x : Plank) (forward : Bool) (local' : State → State) : State :=
  let outs := if forward then s.vc1Outs k x else []
  let id := (s.port k).nextSlot
  let s := s.fillSlot k 1 (outs.length + 1)
  let s := outs.foldl (fun (s : State) j => s.queuePlank j x (some (k, id))) s
  (local' s).releaseSlot (some (k, id))

/-- A lease plank arrives: a pier passes on what it accepts, an abutment nothing, any other device under R227. -/
def State.arriveLease (s : State) (k : Nat) (x : Plank) : State :=
  let (t, ok) := s.deliverLease k x
  if s.isPier then
    if s.flag RED_SEG_CFG.EN 0 then t.moveVc1 k x ok id else s.moveVc1 k x true id
  else if s.role = 0 then t.moveVc1 k x false id
  else s.moveVc1 k x true id

/-- Any other VC1 plank arrives. -/
def State.arriveStream (s : State) (k : Nat) (x : Plank) : State :=
  if s.isPier then
    let held := decide ((s.seg 0).view = 1) && decide (s.fld RED_SEG_STATUS.PORT 0 = k)
    if s.flag RED_SEG_CFG.EN 0 ∧ ! held then (s.bump LDG_LEASE_CNT.REFUSED).moveVc1 k x false id
    else
      let two := decide (x.src ∉ s.red.senders) && decide (s.red.senders.length = 1)
      let s := if s.flag RED_SEG_CFG.EN 0 ∧ two then s.bump LDG_LEASE_CNT.TWO else s
      let s : State := if x.src ∈ s.red.senders then s else
        { s with red := { s.red with senders := x.src :: s.red.senders } }
      s.moveVc1 k x true fun s => s.decPlank x
  else if s.role = 0 then s.moveVc1 k x (s.binding k).footing id
  else s.moveVc1 k x true id

/-- A VC1 plank is received: position in the sequence, slot (R194, R197). -/
def State.receiveVc1 (s : State) (k : Nat) (blocks : List Block) (lease : Bool) (act : Plank → State → State) : State :=
  s.receive k 1 blocks fun bs s =>
    let x := plankOf bs
    if ¬ s.portUp k ∨ x.vc ≠ 1 ∨ decide (x.stream = 0xFFF) ≠ lease then s
    else
      let s := s.vc1Gap k x.lseq
      let p := s.port k
      if x.lseq ≠ p.rx1.expect then s
      else act x (s.setPort k { p with linkDue := true, rx1 := { p.rx1 with expect := (x.lseq + 1) % 65536 } })

/-- VC1_PLANK: a stream plank of a layer is delivered and forwarded. -/
def onVc1Plank (k : Fin 16) (blocks : List Block) (s : State) : State :=
  s.receiveVc1 k blocks false fun x s => s.arriveStream k x

/-- LEASE_PLANK: a plank of the lease stream is accepted or refused, acknowledged and forwarded. -/
def onLeasePlank (k : Fin 16) (blocks : List Block) (s : State) : State :=
  s.receiveVc1 k blocks true fun x s => s.arriveLease k x

/-! ### Acknowledgements and handover messages (R431, R439) -/

/-- The enabled entry of a segment at this end. -/
def State.endEntry (s : State) (seg : Nat) : Option Nat :=
  (List.range 16).find? fun e => s.flag RED_SEG_CFG.EN e && s.isEnd e && decide (s.fld RED_SEG_CFG.SEG e = seg)

/-- Complete the handover in progress. -/
def State.endHandover (s : State) (status : Nat) : State :=
  match s.red.handover with
  | none => s
  | some h =>
    let s : State := { s with red := { s.red with handover := none } }
    match s.cmdAt h.q h.id 0x1401 with
    | some c => s.finish c status
    | none => s

/-- LEASE_ACK: the holder counts an acknowledgement of its last renewal; a handover is done once a renewal of its own has
gathered PIERS of them. -/
def onLeaseAck (s : State) : State :=
  match s.takeMsg 0x22 with
  | none => s
  | some (_, m, s) =>
    match s.endEntry (beAt m.payload 0 2) with
    | none => s
    | some e =>
      let x := s.seg e
      if m.payload.length ≠ 16 ∨ s.fld RED_SEG_STATUS.STATE e ≠ segHolder ∨
          beAt m.payload 4 4 ≠ s.fld RED_SEG_EPOCH.EPOCH e ∨ beAt m.payload 8 8 ≠ x.named then s else
      let s := s.setSeg e { x with acks := x.acks + 1, noAck := false }
      match s.red.handover with
      | some h =>
        if h.seg = e ∧ h.claim.any (· < x.named) ∧ s.fld RED_SEG_PIERS.PIERS e ≤ x.acks + 1 then s.endHandover stOk else s
      | none => s

/-- Answer a HANDOVER_REQ: HANDOVER_DONE with SEG and EPOCH. -/
def State.sendDone (s : State) (e node : Nat) : State :=
  s.sendMsg (.node node) 0 0x24 0 (beBytes 2 (s.fld RED_SEG_CFG.SEG e) ++ [0, 0] ++
    beBytes 4 (s.fld RED_SEG_EPOCH.EPOCH e)) false

/-- HANDOVER_REQ: a holder releases at the next frame start; any other end answers at once. -/
def onHandoverReq (s : State) : State :=
  match s.takeMsg 0x23 with
  | none => s
  | some (_, m, s) =>
    match if m.payload.length = 2 then s.endEntry (beAt m.payload 0 2) else none with
    | none => s
    | some e =>
      if s.fld RED_SEG_STATUS.STATE e = segHolder then s.setSeg e { s.seg e with release := some m.src }
      else s.sendDone e m.src

/-- HANDOVER_DONE: the issuing end claims. -/
def onHandoverDone (s : State) : State :=
  match s.takeMsg 0x24 with
  | none => s
  | some (_, m, s) =>
    match if m.payload.length = 8 then s.endEntry (beAt m.payload 0 2) else none with
    | none => s
    | some e =>
      let x := s.seg e
      (s.setSeg e { x with seen := max x.seen (beAt m.payload 4 4) }).handoverClaim e

/-- CMD_RED_HANDOVER: on a standby end or a partial holder, HANDOVER_REQ goes to the other end. -/
def onCmdRedHandover (q : Fin 24) (tag : Nat) (s : State) : State :=
  match s.cmd q tag 0x1401 with
  | none => s
  | some c =>
    let e := c.opnd 32 1
    if s.red.handover.isSome then s
    else if ! s.flag RED_SEG_CFG.EN e ∨ ! s.isEnd e ∨
        (s.fld RED_SEG_STATUS.STATE e = segHolder ∧ s.fld RED_SEG_PIERS.PIERS e ≤ s.fld RED_SEG_ACK.ACKS e) then
      s.finish c 0x1401
    else
      let s := (s.run c).sendMsg (.node (s.otherEnd e)) 0 0x23 0 (beBytes 2 (s.fld RED_SEG_CFG.SEG e)) false
      { s with red := { s.red with handover := some ⟨c.q, c.id, e, s.frame, none⟩ } }

/-- HANDOVER_TIMEOUT: no release within 4 frames, or no full acknowledgement within 8 frames of the claim. -/
def onHandoverTimeout (s : State) : State :=
  match s.red.handover with
  | none => s
  | some h =>
    match h.claim with
    | none => if h.sent + 4 ≤ s.frame then s.endHandover 0x1403 else s
    | some f => if f + 8 ≤ s.frame then s.endHandover 0x1402 else s

/-- A safe point of CMD_RED_HANDOVER: the wait ends at a frame start once the claim stands. -/
def State.handoverStop (s : State) (c : Cmd) : State :=
  match s.red.handover with
  | some h => if h.q = c.q ∧ h.id = c.id ∧ h.claim.isSome then s.endHandover stAborted else s
  | none => s

/-! ### Expiry and claims (R433, R434, R440) -/

/-- LEASE_EXPIRY: GRACE has passed since the start of frame R + 4 without a renewal. -/
def onLeaseExpiry (e : Fin 16) (s : State) : State :=
  let e : Nat := e.val
  let x := s.seg e
  match x.due with
  | none => s
  | some t =>
    if ! s.flag RED_SEG_CFG.EN e ∨ x.view ≠ 1 ∨ s.clock < t + s.fld RED_CFG.GRACE * us then s else
    let s := s.setSeg e { x with
      view := 2, due := none, claimAt := if s.flag RED_SEG_STATUS.LAST e then some (s.frame + 4) else none }
    (s.showView e).raise 0x1403
      [(16, 1, e), (18, 2, s.fld RED_SEG_STATUS.HOLDER e), (20, 4, s.fld RED_SEG_EPOCH.EPOCH e)]

/-- An end may claim an entry now: it is not the holder and its view has expired. -/
def State.mayClaim (s : State) (e : Nat) : Bool :=
  s.flag RED_SEG_CFG.EN e && s.isEnd e && decide (s.fld RED_SEG_STATUS.STATE e ≠ segHolder) && decide ((s.seg e).view = 2)

/-- LEASE_CLAIM: in HW mode an end whose view has expired claims; the end that held the lease last waits 4 frames. -/
def onLeaseClaim (e : Fin 16) (s : State) : State :=
  let e : Nat := e.val
  if s.assist 19 ∨ ! s.mayClaim e ∨ (s.seg e).claimAt.any (s.frame < ·) then s else s.claim e

/-- The streams of a segment's layers start afresh, their counters 8 above the last lease plank's (R435). -/
def State.restartSegment (s : State) (e : Nat) : State :=
  let pics := s.leasePics e true
  (List.range 63).foldl (fun (s : State) l =>
    if s.flag ENC_LAYER_CFG.EN l ∧ s.fld VIA_LAYER_GROUP.GROUP l = s.fld RED_SEG_CFG.GROUP e then
      s.restartStreams l (pics.getD l 0)
    else s) s

/-- CLAIM_GAP_EXPIRY: the new holder starts its streams intra; renewals follow at each frame start. -/
def onClaimGapExpiry (e : Fin 16) (s : State) : State :=
  let e : Nat := e.val
  let x := s.seg e
  match x.gap with
  | none => s
  | some t => if s.clock < t then s else (s.setSeg e { x with gap := none }).restartSegment e

/-- The holder of an entry stops: it fences itself (6) or releases (4); it held the lease last. -/
def State.stopHolding (s : State) (e st : Nat) : State :=
  (s.setFld RED_SEG_STATUS.STATE st e).setFlag RED_SEG_STATUS.LAST true e

/-! ### The frame start (R431, R433, R436, R437, R440) -/

/-- A holder at a frame start: acknowledgements of the last frame, fencing, release, renewal. -/
def State.holderFrame (s : State) (e frame : Nat) (fence : Bool) : State :=
  let x := s.seg e
  let miss := if x.acks = 0 then min (s.fld RED_SEG_ACK.MISS e + 1) 255 else 0
  let s := (s.setFld RED_SEG_ACK.ACKS x.acks e).setFld RED_SEG_ACK.MISS (if x.gap.isSome then 0 else miss) e
  let miss := s.fld RED_SEG_ACK.MISS e
  let out := decide (s.fld RED_CFG.FENCE ≤ miss)
  let s := if s.assist 19 ∧ out ∧ ! x.noAck then
      (s.setSeg e { x with noAck := true }).raise 0x1406 [(16, 1, e), (17, 1, miss)]
    else s
  if fence ∨ (! s.assist 19 ∧ out) then
    let s := ((s.stopHolding e segFenced).raise 0x1405 [(16, 1, e)]).setSeg e { s.seg e with release := none }
    match x.release with
    | some node => s.sendDone e node
    | none => s
  else match x.release with
  | some node =>
    let s := s.sendLease e 2 frame
    let s := (s.stopHolding e segStandby).setSeg e { s.seg e with view := 2, release := none, claimAt := some (frame + 4) }
    s.sendDone e node
  | none =>
    if x.gap.isSome then s else
    let s := s.setSeg e { s.seg e with acks := 0, named := frame, frame := frame, due := none }
    (s.setFld RED_SEG_RENEW.FRAME frame e).sendLease e 0 frame

/-- The start of frame R + 4 or a later one begins the GRACE of an entry that is not held here (R433). -/
def State.segDue (s : State) (frame e : Nat) : State :=
  let x := s.seg e
  if x.view = 1 ∧ x.frame + 4 ≤ frame ∧ x.due.isNone ∧ s.fld RED_SEG_STATUS.STATE e ≠ segHolder then
    s.setSeg e { x with due := some s.clock }
  else s

/-- An entry at a frame start. With FN_RED in HW mode the end with PREF claims at the first (R437, R440). -/
def State.segFrame (s : State) (frame claims fences : Nat) (e : Nat) : State :=
  let x := s.seg e
  if ! s.isEnd e then s.setSeg e { s.seg e with used := true } else
  let first := ! x.used
  let s := s.setSeg e { s.seg e with used := true }
  let s := if first ∧ s.fld RED_SEG_STATUS.STATE e < segStandby then s.setFld RED_SEG_STATUS.STATE segStandby e else s
  if first ∧ s.flag RED_SEG_CFG.PREF e ∧ ! x.heard ∧ ! s.assist 19 ∧ s.fld RED_SEG_STATUS.STATE e ≠ segHolder then s.claim e
  else if s.fld RED_SEG_STATUS.STATE e = segHolder then s.holderFrame e frame (bits fences e 1 = 1)
  else if bits claims e 1 = 1 ∧ s.mayClaim e then s.claim e
  else s

/-- FN_RED at a frame start: the decision of the frame in ASSIST, then every enabled entry. A reset of FN_RED neither
renews nor releases; a lease expires all the same. -/
def State.redFrame (s : State) (frame : Nat) : State :=
  let s : State := { s with red := { s.red with senders := [] } }
  let s := s.segEntries.foldl (fun (s : State) e => s.segDue frame e) s
  if s.fnState 19 = fnReset then s else
  let (d, s) : Option (List Byte) × State := if s.assist 19 then s.useDecision 19 (periodOf frame) else (none, s)
  let bs := d.getD []
  (List.range 16).foldl (fun (s : State) e =>
    if s.flag RED_SEG_CFG.EN e ∧ (e = 0 ∨ ! s.isPier) then s.segFrame frame (leAt bs 0 2) (leAt bs 2 2) e
    else
      let x := s.seg e
      if x.used ∨ x.view ≠ 0 then
        (s.setSeg e { SegSt.reset with seen := x.seen, pics := x.pics, heard := x.heard }).setFld RED_SEG_STATUS.STATE 0 e
      else s) s

/-- Some entry is expired or unacknowledged (R440). -/
def State.redOpen (s : State) : Bool :=
  s.segEntries.any fun e =>
    (decide ((s.seg e).view = 2) && decide (s.fld RED_SEG_STATUS.STATE e ≠ segHolder)) ||
    (decide (s.fld RED_SEG_STATUS.STATE e = segHolder) && decide (s.fld RED_CFG.FENCE ≤ s.fld RED_SEG_ACK.MISS e))

/-- A reset of FN_RED discards pending proposals, its own decision among them (R441). -/
def State.redReset (s : State) : State := { s with red := { s.red with own := none, props := [] } }

end Sys2Proof.Machine
end

