-- ==== Sys2Proof/Machine/Time.lean ====
section
/-! DEFINITION. FN_TIM, wall time and lock (R233 to R243 of spec/08_viaduct.md): the count and its rate,
TIME planks in both directions, the choice of the parent, the servo, steps, holdover, footings; and the
plank arbitration of a port, whose first item is the TIME plank (R195). -/

namespace Sys2Proof.Machine

/-! ### The count -/

/-- Lock states of Table 8-7. -/
def tmFree : Nat := 0
/-- ROOT. -/
def tmRoot : Nat := 1
/-- ACQUIRE. -/
def tmAcquire : Nat := 2
/-- LOCKED. -/
def tmLocked : Nat := 3
/-- HOLDOVER. -/
def tmHoldover : Nat := 4

/-- The lock state. -/
def State.lock (s : State) : Nat := s.fld TIM_STATUS.STATE

/-- One CLK_PIX cycle of the wall count (R234). -/
def State.tick (s : State) : State :=
  let f : Nat := (s.time.frac + 2 ^ 40 + s.fldS TIM_RATE.RATE).toNat
  { s with time := { s.time with
    wall := (s.time.wall + f / 2 ^ 40) % 2 ^ 64, frac := f % 2 ^ 40, cycles := s.time.cycles + 1 } }

/-- INTERVAL in ticks (R235). -/
def State.interval (s : State) : Nat := s.fld TIM_CFG.INTERVAL * 1024

/-- What port `k` knows of time. -/
def State.timePort (s : State) (k : Nat) : TimePort := Sparse.get TimePort.reset s.time.ports k

/-- Store what a port knows of time. -/
def State.setTimePort (s : State) (k : Nat) (x : TimePort) : State :=
  { s with time := { s.time with ports := Sparse.set s.time.ports k x } }

/-- Enter a lock state: EV_TIM_LOCK on every entry into LOCKED and every exit from it (R243); RATE is 0 in
FREE and ROOT (Table 8-7). -/
def State.setLock (s : State) (st : Nat) : State :=
  let old := s.lock
  let s : State := { s with time := { s.time with good := 0, bad := 0 } }
  let s := (s.setFld TIM_STATUS.STATE st).setFlag TIM_STATUS.LOCKED (decide (st = tmLocked))
  let s := if st = tmFree ∨ st = tmRoot then s.setFld TIM_RATE.RATE 0 else s
  if old ≠ st ∧ (old = tmLocked ∨ st = tmLocked) then
    s.raise 0x0B01 [(16, 1, st), (17, 1, old), (18, 2, s.fld TIM_ROOT.ROOT), (20, 4, s.fld TIM_ERR.ERR)]
  else s

/-- Take a root: EV_TIM_ROOT when ROOT changes, and the accumulator is cleared (R239, R243). -/
def State.setRoot (s : State) (root pri : Nat) : State :=
  let old := s.fld TIM_ROOT.ROOT
  let s := (s.setFld TIM_ROOT.ROOT root).setFld TIM_ROOT.PRI pri
  if old = root then s
  else State.raise { s with time := { s.time with acc := 0 } } 0x0B02 [(16, 2, root), (18, 1, pri)]

/-! ### Offers (R237) -/

/-- Whether port `k` holds a valid offer. -/
def State.offerValid (s : State) (k : Nat) : Bool :=
  let x := s.timePort k
  match x.offer with
  | none => false
  | some t =>
    s.portUp k && decide (s.clock ≤ x.offerAt + 4 * s.interval) && (t.locked || t.holdover || t.isRoot) &&
    !(decide (s.self ≠ 0) && decide (t.parent = s.self)) &&
    decide (s.clock ≤ x.rootSeqAt + 64 * s.interval) && decide (t.steps < 4095)

/-- The rank of an offer: (ROOT_PRI, ROOT, STEPS, port), lowest first; `steps` counts from 1 so that the
device's own −1 is 0. -/
def offerRank (pri root steps port : Nat) : Nat := ((pri * 4096 + root) * 4096 + steps) * 32 + port

/-- The rank of the offer on a port. -/
def State.portRank (s : State) (k : Nat) : Nat :=
  match (s.timePort k).offer with
  | some t => offerRank t.rootPri t.root (t.steps + 1) k
  | none => 2 ^ 64

/-- The ranked offers: valid ports, and the device itself (number 16) when ROOT_EN and addressed. -/
def State.offers (s : State) : List (Nat × Nat) :=
  ((portsWhere 16 s.offerValid).map fun k => (s.portRank k, k)) ++
  (if s.flag TIM_CFG.ROOT_EN ∧ s.self ≠ 0 then [(offerRank (s.fld TIM_CFG.PRI) s.self 0 0, 16)] else [])

/-- The offer that ranks first. -/
def bestOffer : List (Nat × Nat) → Option (Nat × Nat)
  | [] => none
  | o :: os =>
    match bestOffer os with
    | some b => some (if o.1 ≤ b.1 then o else b)
    | none => some o

/-- Take an offer: the device becomes the root, or the port becomes its parent. -/
def State.takeOffer (s : State) (id : Nat) : State :=
  let s : State := { s with time := { s.time with
    better := none, fresh := true, rootSeq := if id = 16 then s.time.rootSeq else (s.timePort id).rootSeq } }
  if id = 16 then
    (((s.setFld TIM_STATUS.STEPS 0).setFlag TIM_STATUS.PARENT_FT false).setRoot s.self (s.fld TIM_CFG.PRI)).setLock tmRoot
  else
    match (s.timePort id).offer with
    | none => s
    | some t =>
      let root := s.fld TIM_ROOT.ROOT
      let s := ((s.setFld TIM_STATUS.PARENT id).setFlag TIM_STATUS.PARENT_FT false).setFld TIM_STATUS.STEPS (t.steps + 1)
      let s := s.setRoot t.root t.rootPri
      if s.lock = tmFree ∨ s.lock = tmRoot then s.setLock tmAcquire
      else if (s.lock = tmLocked ∨ s.lock = tmHoldover) ∧ t.root ≠ root then s.setLock tmAcquire
      else s

/-- The offer that the device follows has been renewed: STEPS, ROOT and its priority follow it; a parent found again in HOLDOVER
under another root is acquired (R237, R238, R243). -/
def State.refreshOffer (s : State) (id : Nat) : State :=
  let s : State := { s with time := { s.time with better := none } }
  if id = 16 then s.setRoot s.self (s.fld TIM_CFG.PRI)
  else match (s.timePort id).offer with
  | none => s
  | some t =>
    let root := s.fld TIM_ROOT.ROOT
    let s := (s.setFld TIM_STATUS.STEPS (t.steps + 1)).setRoot t.root t.rootPri
    if s.lock = tmHoldover ∧ t.root ≠ root then s.setLock tmAcquire else s

/-- The offer that the device follows now: its parent port, itself as root, or none. -/
def State.followed (s : State) : Option Nat :=
  if s.lock = tmRoot then some 16
  else if s.lock = tmFree then none
  else some (s.fld TIM_STATUS.PARENT)

/-- The parent is the keystone by FT_SYNC (R233): while FT_SYNC_EN stands and its offer is valid. -/
def State.ftHolds (s : State) : Bool :=
  s.flag TIM_STATUS.PARENT_FT && s.flag TIM_CFG.FT_SYNC_EN && s.offerValid (s.fld TIM_STATUS.PARENT)

/-- Choose the parent (R237, R238): at once when the present parent's offer is invalid, else after another
offer has ranked first for 16 consecutive intervals; without a valid offer LOCKED goes to HOLDOVER and
ACQUIRE or ROOT to FREE. -/
def State.chooseParent (s : State) : State :=
  if s.ftHolds then s.refreshOffer (s.fld TIM_STATUS.PARENT) else
  let s := s.setFlag TIM_STATUS.PARENT_FT false
  match bestOffer s.offers with
  | none =>
    let s : State := { s with time := { s.time with better := none } }
    if s.lock = tmLocked then State.setLock { s with time := { s.time with holdSince := s.clock } } tmHoldover
    else if s.lock = tmAcquire ∨ s.lock = tmRoot then s.setLock tmFree
    else s
  | some (_, id) =>
    match s.followed with
    | none => s.takeOffer id
    | some f =>
      if f = id then s.refreshOffer id
      else if s.offers.any fun o => o.2 = f then
        let b0 := s.time.better
        let s := s.refreshOffer f
        match b0 with
        | some (b, since) =>
          if b = id then (if since + 16 * s.interval ≤ s.clock then s.takeOffer id
              else { s with time := { s.time with better := some (id, since) } })
          else { s with time := { s.time with better := some (id, s.clock) } }
        | none => { s with time := { s.time with better := some (id, s.clock) } }
      else s.takeOffer id

/-! ### Servo and steps (R236, R239, R240) -/

/-- The one-way delay of an exchange, in 1/16 tick (R236). -/
def exchangeDelay (t1 t2 t3 t4 : Int) : Int := ((t4 - t1) - (t3 - t2) + 1) / 2

/-- The peer's time minus the own time, in 1/16 tick (R236). -/
def exchangeError (t3 t4 d asym : Int) : Int := (t3 - t4) + d + (asym + 1) / 2

/-- The limit of RATE, ±200 ppm in parts per 2^40 (R234). -/
def rateLimit : Int := 219902325

/-- The correction of R239 for an error: shifts round towards minus infinity, the division towards 0. -/
def servoTerm (e : Int) (k dt : Nat) : Int := Int.tdiv (e * 2 ^ 36 / 2 ^ k) dt

/-- Step the wall count by an error in 1/16 tick (R240): EV_TIM_STEP, and the accumulator is cleared. What
it does to a running cadence is R368. -/
def State.stepWall (s : State) (e : Int) : State :=
  let t : Nat := ((s.time.wall * 2 ^ 40 + s.time.frac : Int) + e * 2 ^ 36).toNat
  State.raise { s with time := { s.time with
    wall := t / 2 ^ 40 % 2 ^ 64, frac := t % 2 ^ 40, acc := 0, good := 0, bad := 0, stepped := true } }
    0x0B03 [(16, 8, uNat 64 (Int.tdiv e 16))]

/-- One exchange on the parent port: TIM_ERR, a step in ACQUIRE, the rate in HW mode, and the lock state
(R238 to R240). -/
def State.exchange (s : State) (e : Int) (dt : Nat) : State :=
  let s := s.setFld TIM_ERR.ERR (uNat 32 (sat e (-2147483648) 2147483647))
  let lockIn := s.fld TIM_LOCK.LOCK_IN * 16
  let lockOut := s.fld TIM_LOCK.LOCK_OUT * 16
  let big := e.natAbs
  let fresh := s.time.fresh
  let s : State := { s with time := { s.time with fresh := false } }
  if s.lock = tmAcquire ∧ s.flag TIM_CFG.STEP_EN ∧ s.fld TIM_LOCK.STEP_LIMIT * 16 < big then s.stepWall e
  else
    let s :=
      if ¬ s.assist 10 ∧ 0 < dt ∧ (s.lock = tmAcquire ∨ s.lock = tmLocked) then
        let acc := sat (s.time.acc + servoTerm e (s.fld TIM_CFG.KI) dt) (-rateLimit) rateLimit
        let rate := sat (acc + servoTerm e (s.fld TIM_CFG.KP) dt) (-rateLimit) rateLimit
        State.setFld { s with time := { s.time with acc := acc } } TIM_RATE.RATE (uNat 32 rate)
      else s
    if s.lock = tmAcquire then
      if big ≤ lockIn then
        let s : State := { s with time := { s.time with good := s.time.good + 1 } }
        if 64 ≤ s.time.good then s.setLock tmLocked else s
      else { s with time := { s.time with good := 0 } }
    else if s.lock = tmLocked then
      if lockOut < big then
        if fresh then s.setLock tmAcquire
        else
          let s : State := { s with time := { s.time with bad := s.time.bad + 1 } }
          if 8 ≤ s.time.bad then s.setLock tmAcquire else s
      else { s with time := { s.time with bad := 0 } }
    else if s.lock = tmHoldover then
      if big ≤ lockOut then s.setLock tmLocked else s.setLock tmAcquire
    else s

/-! ### TIME planks -/

/-- The payload of the next TIME plank of a port (Table 8-6). -/
def State.ownTime (s : State) (k sub : Nat) : TimeInfo :=
  let x := s.timePort k
  { tx := s.stamp sub, seq := (x.sentSeq + 1) % 65536, echoTx := x.gotTx, echoSeq := x.gotSeq, echoRx := x.gotRx,
    root := s.fld TIM_ROOT.ROOT, rootPri := s.fld TIM_ROOT.PRI,
    locked := decide (s.lock = tmLocked), holdover := decide (s.lock = tmHoldover), isRoot := decide (s.lock = tmRoot),
    steps := s.fld TIM_STATUS.STEPS, rootSeq := s.time.rootSeq,
    parent := if s.lock = tmRoot ∨ s.lock = tmFree then 0 else s.fld SPN_STATUS.PEER (s.fld TIM_STATUS.PARENT) }

/-- ROOT_SEQ rises by 1 per interval at the root (Table 8-6). -/
def State.raiseRootSeq (s : State) : State :=
  if s.lock = tmRoot ∧ s.time.rootSeqAt + s.interval ≤ s.clock then
    { s with time := { s.time with rootSeq := (s.time.rootSeq + 1) % 2 ^ 32, rootSeqAt := s.clock } }
  else s

/-- Send a TIME plank on a port now (R235); it takes a long-plank slot of the arbitration. -/
def State.sendTime (s : State) (k sub : Nat) : State :=
  let s := s.raiseRootSeq
  let t := s.ownTime k sub
  let x := s.timePort k
  let s := s.emit (.timePlank k s.self t (plankCrc (timePlankOf s.self t)))
  let s := s.setTimePort k { x with sentSeq := t.seq, sent := min 2 (x.sent + 1), lastSend := s.clock }
  let p := s.port k
  s.setPort k { p with timeDue := false, sinceTime := 0, recent := (3 :: p.recent).take 16 }

/-- TIME_PLANK_SEND: every INTERVAL × 1,024 ticks an UP port sends a TIME plank; when one left within the
last 31 planks it waits for its place in the arbitration (R195, R235). -/
def onTimePlankSend (k sub : Fin 16) (s : State) : State :=
  if s.portUp k ∧ (s.timePort k).lastSend + s.interval ≤ s.clock then
    if 31 ≤ (s.port k).sinceTime then s.sendTime k sub
    else s.setPort k { s.port k with timeDue := true }
  else s

/-- PLANK_SEND: at a plank boundary a port sends the first ready item in the order of R195. -/
def onPlankSend (k sub : Fin 16) (s : State) : State :=
  let x := s.port k
  if x.timeDue ∧ 31 ≤ x.sinceTime ∧ s.portUp k then s.sendTime k sub
  else if x.linkDue ∧ s.portUp k then s.sendLink k
  else match x.control with
  | o :: os => s.sendControl k o os
  | [] =>
    if s.portUp k then
      match s.nextVc k with
      | some vc => s.sendData k vc
      | none => s
    else s

/-- The mean of the last delays (TIM_PORT_DELAY, R236), rounded down. -/
def meanDelay (ds : List Nat) : Nat := ds.foldl (· + ·) 0 / ds.length

/-- A TIME plank has arrived: its stamp and its offer are kept; when ECHO_SEQ is that of the own plank sent last
or next to last, the exchange yields delay and error, and on the parent port it drives servo and lock. ROOT_SEQ is copied from
the parent (Table 8-6). -/
def State.timeArrives (s : State) (k : Nat) (t : TimeInfo) (sub : Nat) : State :=
  let x := s.timePort k
  let rx := s.stamp sub
  let rise := (t.rootSeq + 2 ^ 32 - x.rootSeq) % 2 ^ 32
  let risen := ! x.got || (decide (0 < rise) && decide (rise < 2 ^ 31))
  let usable := (decide (1 ≤ x.sent) && decide (t.echoSeq = x.sentSeq)) ||
    (decide (x.sent = 2) && decide ((t.echoSeq + 1) % 65536 = x.sentSeq))
  let d := exchangeDelay t.echoTx t.echoRx t.tx rx
  let e := exchangeError t.tx rx d (s.fldS TIM_ASYM.ASYM k)
  let ds := if usable then (d.toNat :: x.delays).take 16 else x.delays
  let s := s.setTimePort k { x with
    gotTx := t.tx, gotSeq := t.seq, gotRx := rx, got := true, offer := some t, offerAt := s.clock, delays := ds
    rootSeq := t.rootSeq, rootSeqAt := if risen then s.clock else x.rootSeqAt
    lastUse := if usable then s.clock else x.lastUse }
  let s := if usable then s.setFld TIM_PORT_DELAY.DELAY (meanDelay ds) k else s
  let s := s.chooseParent
  let s : State := if s.followed = some k then { s with time := { s.time with rootSeq := t.rootSeq } } else s
  if usable ∧ s.followed = some k ∧ ¬ s.flag TIM_STATUS.PARENT_FT then s.exchange e (s.clock - x.lastUse) else s

/-- OFFER_EXPIRY: the offer of a port has lapsed for lack of TIME planks or of progress of ROOT_SEQ; the
parent changes, or LOCKED goes to HOLDOVER (R237, R238). -/
def onOfferExpiry (k : Fin 16) (s : State) : State :=
  if (s.timePort k).offer.isSome ∧ ¬ s.offerValid k then s.chooseParent else s

/-- HOLDOVER_EXPIRY: HOLD_MAX has passed in HOLDOVER; the device goes to FREE (Table 8-7). -/
def onHoldoverExpiry (s : State) : State :=
  if s.lock = tmHoldover ∧ s.time.holdSince + s.fld TIM_HOLD.HOLD_MAX * ms ≤ s.clock then s.setLock tmFree else s

/-- The footing link of a peer: its port whose binding has FOOTING. -/
def State.footingPort (s : State) : Option Nat := (List.range 16).find? fun k => (s.binding k).footing

/-- FT_CLK at the pin: the keystone drives CLK_PIX ÷ 16 (R233). -/
def State.ftClk (s : State) : Bool := s.clocked && decide (s.pins.ftId = 0) && decide (8 ≤ s.clock % 16)

/-- FT_SYNC at the pin: the keystone raises it for one FT_CLK period from every wall time whose bits [19:0] are zero (R233). -/
def State.ftSync (s : State) : Bool := s.clocked && decide (s.pins.ftId = 0) && decide (s.now % 2 ^ 20 < 16)

/-- FT_SYNC_EDGE: a peer with FT_SYNC_EN samples FT_SYNC high; the edge is the next multiple of 1,048,576
ticks at or after the keystone's last TIME plank, and the count is set to E + 8 + FT_DELAY / 16 there (R233,
R511). The keystone is the parent, STEPS is one above its own, and no rate is applied. -/
def onFtSyncEdge (s : State) : State :=
  if s.flag TIM_CFG.FT_SYNC_EN ∧ s.pins.ftId ≠ 0 then
    match s.footingPort with
    | none => s
    | some k =>
      match (s.timePort k).offer with
      | none => s
      | some t =>
        let e := (t.tx / 16 + 1048575) / 1048576 * 1048576
        let v : Nat := ((e + 8) * 16 + s.fldS TIM_FT.FT_DELAY).toNat
        let s : State := { s with time := { s.time with wall := v / 16 % 2 ^ 64, frac := v % 16 * 2 ^ 36 } }
        let s := ((s.setFld TIM_STATUS.PARENT k).setFlag TIM_STATUS.PARENT_FT true).setFld TIM_STATUS.STEPS (t.steps + 1)
        let s := (s.setRoot t.root t.rootPri).setFld TIM_RATE.RATE 0
        if s.lock = tmLocked then s else s.setLock tmLocked
  else s

/-- A host write of TIM_WALL takes effect only in ROOT or FREE while no frame cadence runs (R240). -/
def State.writeWall (s : State) (v : Nat) : State :=
  if (s.lock = tmRoot ∨ s.lock = tmFree) ∧ ¬ s.cadence then
    { s with time := { s.time with wall := v % 2 ^ 64 } }
  else s

end Sys2Proof.Machine
end

