-- ==== Sys2Proof/Machine/Reset.lean ====
section
/-! DEFINITION. Per-function resets (R39, R62 to R65, R94, R95, Table 2-12), and the decisions missed at a deadline (R38). -/

namespace Sys2Proof.Machine

/-! ### What every reset clears -/

/-- The function whose register an address is; none for GLB, FNT and the data areas (Table 22-1). -/
def fnOfReg (a : Nat) : Option Nat :=
  if a < 0x20000 then none
  else if a < 0x28000 then some 0
  else if a < 0x30000 then none
  else if a < 0x40000 then some 1
  else if a < 0x50000 then some 21
  else if a < 0x50400 then some 24
  else if a < 0x60000 then some 22
  else if a < 0x80000 then some 20
  else if a < 0xA0000 then some 7
  else if a < 0xC0000 then some 8
  else if a < 0xE0000 then some 9
  else if a < 0x100000 then some 10
  else if a < 0x100800 then some 2
  else if a < 0x102000 then some 3
  else if a < 0x120000 then some 2
  else if a < 0x140000 then some 5
  else if a < 0x180000 then some 11
  else if a < 0x180800 then some 12
  else if a < 0x1C0000 then some 23
  else if a < 0x200000 then some 13
  else if a < 0x240000 then some 14
  else if a < 0x280000 then some 15
  else if a < 0x288000 then some 16
  else if a < 0x2C0000 then some 17
  else if a < 0x2E0000 then some 18
  else if a < 0x300000 then some 19
  else if a < 0x310000 then some (32 + (a - 0x300000) / 0x1000)
  else none

/-- A register word with its RC counters and its W1C error bits at 0. -/
def FieldDesc.clearIn (hi : Bool) (w : Nat) (f : FieldDesc) : Nat :=
  match f.acc with
  | .rc | .w1c => if 32 < f.width then 0 else insertBits w (if hi then f.lo - 32 else f.lo) f.width 0
  | _ => w

/-- The word that a reset leaves of a register: RC counters and error bits cleared (R62). -/
def clearedWord (a : Nat) (w : Word) : Word :=
  match regAt a with
  | some (d, _, hi) => BitVec.ofNat 32 (d.fields.foldl (FieldDesc.clearIn hi) w.toNat)
  | none => w

/-- The error and status fields of a function that no access code clears, with how many instances each has (R62). -/
def errFields (n : Nat) : List (Fld × Nat) :=
  match n with
  | 5 => [(ENC_LAYER_CFG.CFG_ERR, 63)]
  | 12 => [(CMP_SRC_FILT.ERR, 63)]
  | 14 => [(STR_STATUS.TIM_ERR, 1), (STR_FAN_STATUS.SINK_ERR, 16)]
  | 15 => [(DIA_STATUS.CFG_ERR, 1)]
  | 16 => [(MEM_ERR_INFO.PORT, 1)]
  | 17 => [(DECK_ERR_ADDR.ADDR, 1), (DECK_ERR_ADDR.CLASS, 1)]
  | 20 => [(FWU_RECOVER_ERR.ERR, 1)]
  | _ => []

/-- A field of every instance of a register takes its Reset value. -/
def State.resetFld (s : State) (f : Fld) (n : Nat) : State :=
  (List.range n).foldl (fun (s : State) i => s.setFld f (bits f.rst f.lo f.width) i) s

/-- Clear the RC counters and the error bits of a function, ASSIST_MISS among them; units 0 to 7 of FN_CHK are not
touched (R62, R493). -/
def State.clearCounters (s : State) (n : Nat) : State :=
  let s : State := { s with
    regs := s.regs.map fun e =>
    if fnOfReg e.1 = some n ∧ ¬ (0x40000 ≤ e.1 ∧ e.1 < 0x40200) then (e.1, clearedWord e.1 e.2) else e }
  let s := (errFields n).foldl (fun (s : State) e => s.resetFld e.1 e.2) (s.setFld FNT_STATUS.ASSIST_MISS 0 n)
  if n = 16 then s.setPair MEM_ERR_ADDR.ADDR 0 else s

/-! ### FN_HIF (Table 2-12, R521) -/

/-- Every CMD_ABORT held for a discarded entry of the submission ring completes ST_ALREADY_DONE: the entry is no longer
outstanding (R49, R55). -/
def State.orphan (s : State) (t : Discard → Bool) : State :=
  let gone := s.host.discards.filter t
  let s : State := { s with host := { s.host with discards := s.host.discards.filter fun d => ! t d } }
  gone.foldl (fun s d => d.aborts.foldl (fun (s : State) a =>
    match s.host.cmds.find? fun c => c.q = a.1 ∧ c.id = a.2 ∧ c.opcode = 0x0001 with
    | some c => s.finishOne c stAlreadyDone []
    | none => s) s) s

/-- A queue is disabled and its indices and status are 0. -/
def State.zeroQueue (s : State) (q : Nat) : State :=
  let s := (s.setFlag HIF_Q_CFG.ENABLE false q).setFlag HIF_Q_CFG.CFG_ERR false q
  let s := (s.setFld HIF_Q_SQ_TAIL.TAIL 0 q).setFld HIF_Q_CQ_HEAD.HEAD 0 q
  let s := ((s.setFld HIF_Q_STATUS.SQ_HEAD 0 q).setFlag HIF_Q_STATUS.STALLED false q).setFlag HIF_Q_STATUS.ERR false q
  s.setQueue q QueueSt.reset

/-- What a reset of FN_HIF does to the queues and the event ring of a port: they are disabled, records not yet posted are
discarded, commands fetched run on and their completions are discarded. The port may notify again at once (log entry 122). -/
def State.closePort (s : State) (p : Nat) : State :=
  let s := s.orphan fun d => decide (queuePort d.q = p)
  let s := (List.range 8).foldl (fun (s : State) k => s.zeroQueue (8 * p + k)) s
  let s := ((s.setFlag HIF_EV_CFG.ENABLE false p).setFlag HIF_EV_CFG.CFG_ERR false p).setFld HIF_EV_HEAD.HEAD 0 p
  let s := (s.setFld HIF_EV_LOST.LOST 0 p).setRing p RingSt.reset
  { s with host := { s.host with
    cmds := s.host.cmds.map fun c => if queuePort c.q = p then { c with dropped := true } else c
    heldDone := s.host.heldDone.filter fun c => queuePort c.q ≠ p
    msixSent := if p = 0 then [] else s.host.msixSent
    remoteNotified := if p = 2 then false else s.host.remoteNotified } }

/-! ### The functions -/

/-- A reset of FN_CFG discards any stage but one that is APPLYING (R94). -/
def State.cfgReset (s : State) : State :=
  let s := s.setFld CFG_STATUS.LAST_ERR 0
  if s.fld CFG_STATUS.STAGE = 7 then { s with cfg := { s.cfg with apply := none, startAt := none } }
  else
    let s := ((s.setFld CFG_STATUS.STAGE 0).setFlag CFG_STATUS.PARTIAL false).setFld CFG_STAGED_LEN.LEN 0
    { s with cfg := { s.cfg with total := 0, verify := none, apply := none, startAt := none, taken := false } }

/-- A reset of FN_SPAN or FN_LNK restarts bring-up on every span not in hardware bypass. -/
def State.spansReset (s : State) : State := (List.range 16).foldl (fun (s : State) k => s.restartSpan k 4) s

/-- A reset of FN_VIA stops a discovery in progress and the messages that its commands wait for (R211). -/
def State.viaReset (s : State) : State :=
  { s with via := { s.via with searching := false, settle := false, searchOwed := false,
                               pend := s.via.pend.filter fun p => p.cmd.isNone } }

/-- A reset of FN_TIM: the count goes on, lock is acquired again, pending timing changes are discarded (R243). -/
def State.timReset (s : State) : State :=
  State.chooseParent (State.setLock { s with cad := { s.cad with soft := none } } tmAcquire)

/-- What a reset of function `n` stops and clears beyond its counters. -/
def State.fnEffect (s : State) (n : Nat) : State :=
  match n with
  | 0 => [0, 1, 2].foldl (fun (s : State) p => s.closePort p) s
  | 1 => s.cfgReset
  | 2 => s.stopClips.ingSdiReset
  | 3 => s.ingNetReset
  | 4 => s.ptpReset
  | 5 => s.encReset
  | 6 => s.rateReset
  | 7 => s.spansReset
  | 8 => s.spansReset
  | 9 => s.viaReset
  | 10 => s.timReset
  | 11 => s.decReset
  | 12 => s.cmpReset
  | 13 => s.corReset
  | 14 => s.strReset
  | 15 => s.diaReset
  | 16 => s.memReset
  | 17 => s.deckReset
  | 18 => s.ldgReset
  | 19 => s.redReset
  | 20 => s.fwuReset
  | 21 => s.chkReset
  | 23 => s.sigReset
  | _ => if 32 ≤ n then s.resetBay (n - 32) else s

/-- The function that a command addresses: its opcode group, and for CMD_DECIDE the function named (R52, R54). -/
def Cmd.fn (c : Cmd) : Option Nat :=
  if c.opcode = 0x0002 then some (c.opnd 32 1)
  else if c.opcode / 256 = 0 then none else some (c.opcode / 256 - 1)

/-- Every fetched command of a function completes ST_FN_RESET in submission order (R63). -/
def State.cancelCmds (s : State) (n : Nat) : State :=
  (s.host.cmds.filter fun c => c.fn = some n).foldl (fun (s : State) c => s.finish c stFnReset) s

/-- A write of FNT_CTRL[n].RST: the reset of function `n` starts, unless it is ABSENT or in reset (R39, R62, R63). -/
def State.startReset (s : State) (n : Nat) : State :=
  if s.fnState n = fnAbsent ∨ s.flag FNT_CTRL.RST n then s
  else
    let s := (s.setFlag FNT_CTRL.RST true n).setFld FNT_STATUS.STATE fnReset n
    let s := s.cancelCmds n
    let s : State := { s with fnt := { s.fnt with
      resets := Sparse.set s.fnt.resets n s.clock, decisions := s.fnt.decisions.filter fun d => d.fn ≠ n } }
    (s.fnEffect n).clearCounters n

/-- Whether what a reset waits for has come: a bay has left RESET and LOADING; every span has ended its bring-up; the DRAM is
trained again (Table 2-12). -/
def State.resetOver (s : State) (n : Nat) : Bool :=
  if 32 ≤ n then decide (s.bayState (n - 32) ≠ bayReset) && decide (s.bayState (n - 32) ≠ bayLoading)
  else if n = 7 ∨ n = 8 then (List.range 16).all fun k =>
    decide (s.fld SPN_STATUS.STATE k ∈ [spDisabled, spanUp, spBypass, spWait])
  else true

/-- A closure is due for issue: S − LEAD has come (R426). -/
def State.issueDue (s : State) : Bool := s.red.issue.any fun c => decide (c.start ≤ s.now + s.cad.set'.2.1)

/-- FN_RESET_DONE: a per-function reset ends, RST reads 0 and EV_FN_RESET_DONE is raised (R62). A closure that fell due in a reset
of FN_RED is not sent (R441). -/
def onFnResetDone (n : Fin 48) (s : State) : State :=
  if s.flag FNT_CTRL.RST n.val ∧ s.resetOver n.val then
    let s := s.setFlag FNT_CTRL.RST false n.val
    let s : State := { s with fnt := { s.fnt with resets := Sparse.erase s.fnt.resets n.val } }
    let s := s.setFld FNT_STATUS.STATE fnRun n.val
    let s := if 32 ≤ n.val then s.setFnState n.val (s.bayFn (n.val - 32)) else s
    let s : State := if n.val = 19 ∧ s.issueDue then { s with red := { s.red with issue := none } } else s
    s.raise 0x0005 [(16, 1, n.val)]
  else s

/-! ### Modes (R36, R37) -/

/-- MODE_FOLLOW: with no frame cadence MODE_ACT takes MODE_REQ (R37). -/
def onModeFollow (n : Fin 48) (s : State) : State :=
  if s.cadence then s
  else
    let s := s.takeMode n.val (s.flag FNT_CTRL.MODE_REQ n.val)
    if 32 ≤ n.val then s.showRotation (n.val - 32) else s

/-- A write of FNT_CTRL[n]: MODE_REQ, then RST (R36, R62). -/
def State.writeFntCtrl (s : State) (n v : Nat) : State :=
  let s := (s.setFld FNT_CTRL.MODE_REQ (bits v 0 1) n).markMode n
  if bits v 8 1 = 1 then s.startReset n else s

end Sys2Proof.Machine
end

