-- ==== Sys2Proof/Machine/Operands.lean ====
section
/-! DEFINITION. Operand forms of the command records (R51 to R53, R60, Tables 2-5, 2-7, 2-8 and the command tables of the
chapters): which operand bits an opcode uses, which encodings are reserved, what payload it takes, and the forms of the
decisions of CMD_DECIDE. -/

namespace Sys2Proof.Machine

/-- A run of operand bytes of a record that an opcode uses: first byte, number of bytes, the bits used of each. -/
abbrev Used := Nat × Nat × Nat

/-- Whole bytes. -/
def whole (first n : Nat) : Used := (first, n, 255)

/-- The operand bytes that an opcode uses, bytes 32 to 63 of its record; none for an unknown opcode. -/
def opForm (op : Nat) : Option (List Used) :=
  match op with
  | 0x0000 => some []
  | 0x0001 => some [whole 32 1, whole 34 2]
  | 0x0002 => some [whole 32 1, whole 36 4, whole 40 24]
  | 0x0201 => some [whole 32 4, (36, 1, 3)]
  | 0x0202 => some [whole 32 1]
  | 0x0203 => some []
  | 0x0204 => some []
  | 0x0205 => some [whole 32 1]
  | 0x0301 => some [whole 32 1, (33, 1, 1), whole 40 8]
  | 0x0601 => some [whole 32 1, whole 40 8]
  | 0x0901 => some [whole 32 1]
  | 0x0A01 => some []
  | 0x0A02 => some [whole 40 10]
  | 0x0A03 => some [whole 32 4]
  | 0x0A04 => some [whole 32 2]
  | 0x0A05 => some [whole 32 2, (34, 1, 1), whole 35 5]
  | 0x0C01 => some [whole 32 2]
  | 0x0D01 => some [whole 32 4, (36, 1, 1)]
  | 0x0D02 => some [whole 32 9]
  | 0x0D03 => some [whole 32 12]
  | 0x0D04 => some [whole 32 4]
  | 0x0D05 => some [whole 32 2]
  | 0x0D06 => some []
  | 0x0E01 => some [whole 32 1, whole 36 4, (40, 1, 3)]
  | 0x0E02 => some [whole 32 1, whole 36 4]
  | 0x0F01 => some [whole 32 2]
  | 0x1001 => some []
  | 0x1002 => some [whole 32 9]
  | 0x1003 => some [whole 32 8]
  | 0x1101 => some [whole 32 8]
  | 0x1102 => some [whole 32 8]
  | 0x1301 => some [whole 32 1]
  | 0x1401 => some [whole 32 1]
  | 0x1501 => some [whole 32 4, (36, 1, 3)]
  | 0x1502 => some [whole 32 2]
  | 0x1503 => some [(32, 1, 1), whole 40 8]
  | 0x1504 => some []
  | 0x1505 => some []
  | 0x1506 => some []
  | 0x1507 => some [whole 32 1]
  | 0x1601 => some [whole 32 2, (34, 1, 31), whole 36 4, whole 40 16]
  | 0x1901 => some [whole 32 1]
  | 0x1902 => some [whole 32 1, whole 34 5]
  | _ => none

/-- The bits of operand byte `k` of a record that a form uses. -/
def usedBits (form : List Used) (k : Nat) : Nat :=
  match form.find? fun u => u.1 ≤ k ∧ k < u.1 + u.2.1 with
  | some u => u.2.2
  | none => 0

/-- Whether an operand byte that is no part of a form is not zero. -/
def strayBits (form : List Used) (operands : List Byte) : Bool :=
  operands.zipIdx.any fun b => (b.1.toNat &&& usedBits form (32 + b.2)) ≠ b.1.toNat

/-- Whether an operand holds an encoding that its chapter does not list, opcode by opcode. -/
def Cmd.reserved (c : Cmd) : Bool :=
  let b32 := c.opnd 32 1
  let w32 := c.opnd 32 2
  match c.opcode with
  | 0x0202 => decide (1 < b32)
  | 0x0301 => decide (62 < b32)
  | 0x0601 => decide (62 < b32)
  | 0x0901 => decide (15 < b32)
  | 0x0A02 => decide (c.opnd 48 2 = 0) || decide (0xFFE < c.opnd 48 2)
  | 0x0A03 => decide (0xFFF < w32) || decide (0xFFF < c.opnd 34 2)
  | 0x0A04 => decide (0xFFF < w32)
  | 0x0A05 => decide (0xFFF < w32) || decide (c.opnd 35 1 = 0) || decide (64 < c.opnd 35 1) ||
      decide (c.opnd 36 4 % 4 ≠ 0) || decide (0x3FFFFFF < c.opnd 36 4)
  | 0x0C01 => decide (0xFFF < w32)
  | 0x0D02 => decide (c.opnd 36 2 = 0) || decide (16384 < c.opnd 36 2) || decide (c.opnd 38 2 = 0) ||
      decide (16384 < c.opnd 38 2) || decide (1 < c.opnd 40 1)
  | 0x0D05 => decide (2 < b32) || decide ((if b32 = 0 then 31 else if b32 = 1 then 3 else 7) < c.opnd 33 1)
  | 0x0E01 => decide (2 < b32)
  | 0x0E02 => decide (2 < b32)
  | 0x1002 => decide (2 < c.opnd 40 1)
  | 0x1401 => decide (15 < b32)
  | 0x1601 =>
    let f := c.opnd 34 1
    decide (31 < b32) || decide (3 < c.opnd 33 1) || decide (bits f 1 2 = 3) || decide (bits f 3 2 = 3) ||
      (decide (bits f 3 2 = 0) && decide (c.opnd 33 1 ∈ [1, 3]))
  | 0x1901 => decide (4 < b32)
  | 0x1902 => decide (15 < b32) || decide (0xFFF < c.opnd 34 2)
  | _ => false

/-- Whether a command carries a payload at all times: data, or the buffer that receives data. -/
def Cmd.needsPayload (c : Cmd) : Bool :=
  decide (c.opcode ∈ [0x0201, 0x0A03, 0x0A05, 0x0D01, 0x0D03, 0x0D05, 0x0D06, 0x0E01, 0x0E02, 0x1003, 0x1101, 0x1102, 0x1501,
    0x1503]) || (decide (c.opcode = 0x1601) && decide (bits (c.opnd 34 1) 1 2 = 0))

/-- FLAGS.PAYLOAD. -/
def Cmd.hasPayload (c : Cmd) : Bool := decide (bits c.flags 2 1 = 1)

/-- Whether the payload lies in the permitted range: a multiple of 4; at most 16 MiB on port 0; within the port's area on
ports 1 and 2 (Table 2-5, check 4). -/
def Cmd.payloadPlaced (c : Cmd) : Bool :=
  decide (c.payLen % 4 = 0) &&
  (if queuePort c.q = 0 then decide (c.payLen ≤ 16 * mib) && decide (c.payAddr + c.payLen ≤ 2 ^ 64)
   else decide (c.payAddr + c.payLen ≤ 0x4000))

/-- Whether the length of the payload is one that its command takes. -/
def Cmd.payloadFits (c : Cmd) : Bool :=
  match c.opcode with
  | 0x0A03 => decide (4 ≤ c.payLen) && decide (c.payLen ≤ 16384) && decide (c.opnd 34 2 + c.payLen / 4 ≤ 4096)
  | 0x0A05 => decide (4 * c.opnd 35 1 ≤ c.payLen)
  | 0x1503 => decide (c.payLen = 48)
  | 0x1601 => decide (bits (c.opnd 34 1) 1 2 ≠ 0) || decide (c.opnd 36 4 = c.payLen)
  | _ => true

/-! ### Decisions (R60) -/

/-- Whether a function takes CMD_DECIDE (R60). -/
def decides (n : Nat) : Bool := decide (n ∈ [1, 2, 4, 5, 6, 7, 8, 10, 11, 12, 13, 14, 15, 16, 17, 18, 19, 22, 24])

/-- The fixed length of a function's decision; none for a list. -/
def decisionLen (n : Nat) : Option Nat :=
  match n with
  | 1 => some 1
  | 2 => some 8
  | 4 => some 4
  | 7 => some 1
  | 8 => some 2
  | 10 => some 4
  | 12 => some 8
  | 13 => some 2
  | 14 => some 36
  | 15 => some 9
  | 16 => some 8
  | 17 => some 6
  | 18 => some 1
  | 19 => some 4
  | 22 => some 32
  | 24 => some 1
  | _ => none

/-- The entry size of a list decision. -/
def decisionEntry (n : Nat) : Nat := if n = 5 then 12 else if n = 6 then 4 else 2

/-- The bytes that a CMD_DECIDE carries: bytes 40 to 63, or the payload. -/
def State.decisionBytes (s : State) (c : Cmd) : List Byte := if c.hasPayload then s.payload c else bytesAt c.operands 8 24

/-- Whether the bytes have a length that the decision may have. -/
def decisionSized (n : Nat) (payload : Bool) (len : Nat) : Bool :=
  match decisionLen n with
  | some l => if payload then decide (len = (l + 3) / 4 * 4) else decide (l ≤ 24)
  | none => !payload || decide (len % decisionEntry n = 0)

/-- Entries of a list decision. -/
def entriesOf (size : Nat) (bs : List Byte) : List (List Byte) :=
  (List.range (bs.length / size)).map fun i => bytesAt bs (size * i) size

/-- Whether a decision of function `n` holds a reserved encoding or a byte that its chapter does not use. -/
def State.decisionReserved (s : State) (n : Nat) (bs : List Byte) : Bool :=
  let b0 := leAt bs 0 1
  let stray := match decisionLen n with
    | some l => (bs.drop l).any (· ≠ 0)
    | none => false
  stray ||
  match n with
  | 1 => decide (1 < b0)
  | 2 => (List.range 64).any fun l => decide (bits (leAt bs 0 8) l 1 = 1) &&
      (decide (l = 63) || decide (s.fld ING_LAYER_SRC.BACKUP l = 255) || decide (s.fld ING_LAYER_SRC.KIND l = 3))
  | 5 => (entriesOf 12 bs).any fun e => decide (leAt e 0 1 ≠ 255) && (decide (62 < leAt e 0 1) || decide (leAt e 1 3 ≠ 0))
  | 6 => (entriesOf 4 bs).any fun e =>
      let l := leAt e 0 1
      decide (l ≠ 255) && (decide (62 < l) || decide (leAt e 1 1 < s.fld ENC_LAYER_QP.QP_MIN l) ||
        decide (s.fld ENC_LAYER_QP.QP_MAX l < leAt e 1 1))
  | 7 => decide (1 < b0)
  | 10 => decide (sInt 32 (leAt bs 0 4) < -219902325) || decide (219902325 < sInt 32 (leAt bs 0 4))
  | 11 => (entriesOf 2 bs).any fun e => decide (leAt e 0 2 ≠ 0xFFFF) && decide (0xFFF < leAt e 0 2)
  | 12 => decide (bits (leAt bs 0 8) 63 1 = 1)
  | 13 => decide (0x8000 < leAt bs 0 2)
  | 14 => decide (leAt bs 2 2 ≠ 0) || (List.range 16).any fun f => decide (s.fld STR_LIMIT.PHASE_MAX < leAt bs (4 + 2 * f) 2)
  | 15 => decide (1 < leAt bs 8 1)
  | 17 => (List.range 6).any fun k => decide (leAt bs k 1 = 0) || decide (15 < leAt bs k 1)
  | 18 => decide (b0 &&& 0xCC ≠ 0)
  | 22 => (List.range 16).any fun f => decide (0x8000 < leAt bs (2 * f) 2)
  | 24 => decide (1 < b0)
  | _ => false

/-- The reserved encodings of a CMD_DECIDE: the function, the unused bytes of the record, the decision where its length is
one it may have. -/
def State.decideReserved (s : State) (c : Cmd) : Bool :=
  let n := c.opnd 32 1
  (decide (25 ≤ n) && decide (n ≤ 31)) || decide (47 < n) ||
  (c.hasPayload && (bytesAt c.operands 8 24).any (· ≠ 0)) ||
  (decides n && (! c.hasPayload || c.payloadPlaced) &&
    decisionSized n c.hasPayload (s.decisionBytes c).length && s.decisionReserved n (s.decisionBytes c))

/-- The payload rule of a CMD_DECIDE. -/
def State.decideSized (s : State) (c : Cmd) : Bool :=
  let n := c.opnd 32 1
  ! decides n || decisionSized n c.hasPayload (s.decisionBytes c).length

/-! ### The checks of Table 2-7 -/

/-- A command record (Table 2-5) as fetched from a slot of queue `q`; the fetch gives it its number. -/
def cmdOfRecord (q slot : Nat) (r : List Byte) : Cmd :=
  { id := 0, q := q, tag := leAt r 2 2, slot := slot, opcode := leAt r 0 2, flags := leAt r 4 1, startTime := leAt r 8 8,
    payAddr := leAt r 16 8, payLen := leAt r 24 4, operands := padTo 32 (bytesAt r 32 32), phase := .waiting, late := false,
    dropped := false, aborts := [], since := 0, note := 0 }

/-- Check 1: a reserved field that is not zero, or a reserved encoding. -/
def State.cmdReserved (s : State) (c : Cmd) (r : List Byte) : Bool :=
  decide (7 < c.flags) || decide (leAt r 5 3 ≠ 0) || decide (leAt r 28 4 ≠ 0) ||
  (match opForm c.opcode with
    | some form => strayBits form c.operands || c.reserved || (decide (c.opcode = 0x0002) && s.decideReserved c)
    | none => false)

/-- Check 4: the payload. -/
def State.cmdPayloadOk (s : State) (c : Cmd) : Bool :=
  (if c.hasPayload then c.payloadPlaced && c.payloadFits else ! c.needsPayload) &&
  (decide (c.opcode ≠ 0x0002) || s.decideSized c)

/-- The first failing check of Table 2-7 on a record just fetched (R53). -/
def State.checkCmd (s : State) (c : Cmd) (r : List Byte) : Option Nat :=
  if s.cmdReserved c r then some stReserved
  else if (opForm c.opcode).isNone then some stBadOpcode
  else if s.host.cmds.any fun d => d.q = c.q ∧ d.tag = c.tag ∧ ! d.dropped then some stTagBusy
  else if ! s.cmdPayloadOk c then some stBadPayload
  else match c.fn with
    | some n =>
      if s.fnState n = fnAbsent then some stFnAbsent
      else if s.fnState n = fnFault then some stFnFault
      else none
    | none => none

end Sys2Proof.Machine
end

