-- ==== Sys2Proof/Machine/Control.lean ====
section
/-! DEFINITION. The command port (R46, R48, R49, R52 to R56, R60, R61): fetching, starting, aborting and stopping commands, the
decisions of the host, and the decisions missed at a deadline (R38). -/

namespace Sys2Proof.Machine

/-! ### Starting (R52, R63, R491) -/

/-- The fetched commands that came before one. -/
def State.before (s : State) (c : Cmd) : List Cmd := s.host.cmds.takeWhile fun d => d.id ≠ c.id

/-- Whether a fetched command may start: its function is not in reset, no earlier command of its queue to its function waits,
FENCE and AT_TIME let it, and its check unit is free (R52, R63, R491). CMD_CFG_APPLY takes AT_TIME itself (R86). -/
def State.canStart (s : State) (c : Cmd) : Bool :=
  let prior := s.before c
  (match c.fn with
    | some n => decide (s.fnState n ≠ fnReset) && prior.all fun d => ¬ (d.q = c.q ∧ d.fn = some n ∧ d.phase = .waiting)
    | none => true) &&
  (decide (bits c.flags 0 1 = 0) || prior.all fun d => d.q ≠ c.q) &&
  (decide (bits c.flags 1 1 = 0) || decide (c.startTime ≤ s.now) || decide (c.opcode = 0x0204)) &&
  (decide (c.opcode ≠ 0x1601) || (! s.chkWaits c &&
    prior.all fun d => ¬ (d.opcode = 0x1601 ∧ d.phase = .waiting ∧ d.opnd 32 1 = c.opnd 32 1)))

/-- A command starts: LATE_START where AT_TIME is set and START_TIME has passed. A CMD_DECIDE to a function that takes none
completes (R52, R60). -/
def State.startCmd (s : State) (c : Cmd) : State :=
  let c := { c with phase := .started, since := s.clock, late := decide (bits c.flags 1 1 = 1) && decide (c.startTime < s.now) }
  let s := s.setCmd c
  if c.opcode = 0x1601 then s.chkStart c
  else if c.opcode = 0x0203 then s.beginVerify c
  else if c.opcode = 0x0002 ∧ ! decides (c.opnd 32 1) then s.finish c stNotAssist
  else s

/-- COMMAND_START_AT_TIME: a fetched command that waits starts once its conditions are met. -/
def onCommandStartAtTime (q : Fin 24) (tag : Nat) (s : State) : State :=
  if s.restarting then s
  else match s.host.cmds.find? fun c => c.q = q.val ∧ c.tag = tag ∧ c.phase = .waiting with
    | some c => if s.canStart c then s.startCmd c else s
    | none => s

/-! ### Fetching (R48, R49) -/

/-- Whether a queue has entries to fetch. -/
def State.hasEntries (s : State) (q : Nat) : Bool :=
  s.flag HIF_Q_CFG.ENABLE q && ! (s.queue q).draining && s.portOn (queuePort q) &&
  decide (s.fld HIF_Q_STATUS.SQ_HEAD q ≠ s.fld HIF_Q_SQ_TAIL.TAIL q)

/-- Whether a completion slot can be reserved (R48): unread records and fetched commands leave one free. -/
def State.hasRoom (s : State) (q : Nat) : Bool :=
  let open' := s.host.cmds.countP (fun c => decide (c.q = q) && ! c.dropped) + s.host.heldDone.countP fun c => decide (c.q = q)
  decide (s.cqUnread q + open' < s.cqSize q - 1)

/-- The queue served next, round-robin after the one served last. -/
def State.nextQueue (s : State) : Option Nat :=
  ((List.range 24).map fun k => (s.host.lastServed + 1 + k) % 24).find? fun q => s.hasEntries q && s.hasRoom q

/-- STALLED of every queue: entries wait for completion-ring space. -/
def State.showStalled (s : State) : State :=
  (List.range 24).foldl (fun (s : State) q =>
    let v := s.hasEntries q && ! s.hasRoom q
    if s.flag HIF_Q_STATUS.STALLED q = v then s else s.setFlag HIF_Q_STATUS.STALLED v q) s

/-- The record in a slot of a submission ring. -/
def State.record (s : State) (q slot : Nat) : List Byte :=
  s.portRead (queuePort q) (s.pair HIF_Q_SQ_BASE.BASE q + 64 * slot) 64

/-- Fetch the next entry of a queue: discarded by an abort, refused by a check, or held for its start. -/
def State.fetch (s : State) (q : Nat) : State :=
  let slot := s.fld HIF_Q_STATUS.SQ_HEAD q
  let r := s.record q slot
  let c := { cmdOfRecord q slot r with id := s.host.fetched }
  let bad := s.checkCmd c r
  let gone := s.host.discards.find? fun d => d.q = q ∧ d.slot = slot
  let c := { c with aborts := (gone.map (·.aborts)).getD [] }
  let s := s.setFld HIF_Q_STATUS.SQ_HEAD ((slot + 1) % s.sqSize q) q
  let s : State := { s with host := { s.host with
    lastServed := q, cmds := s.host.cmds ++ [c], fetched := s.host.fetched + 1
    discards := s.host.discards.filter fun d => ¬ (d.q = q ∧ d.slot = slot) } }
  match gone, bad with
  | some _, _ => s.finish c stAborted
  | none, some st => s.finish c st
  | none, none => if s.canStart c then s.startCmd c else s

/-- COMMAND_FETCH: the next command is fetched and checked. The tollhouse processes no command while it restarts or stands in
recovery (R30, R480). -/
def onCommandFetch (s : State) : State :=
  if s.restarting ∨ s.flag FWU_STATUS.RECOVERY then s
  else match s.nextQueue with
    | some q => (s.fetch q).showStalled
    | none => s.showStalled

/-! ### CMD_NOP and the targets of CMD_ABORT (R54, R55) -/

/-- CMD_NOP completes once started. -/
def onCmdNop (q : Fin 24) (tag : Nat) (s : State) : State :=
  match s.cmd q tag 0x0000 with
  | some c => s.finish c stOk
  | none => s

/-- What the target of an abort is: not outstanding; fetched; or in a slot not yet fetched, with its opcode. -/
inductive Target where
  | none
  | fetched (c : Cmd)
  | waiting (slot opcode : Nat)
deriving DecidableEq, Repr

/-- The slots of a queue that hold entries not yet fetched, in order. -/
def State.slotsLeft (s : State) (q : Nat) : List Nat :=
  let n := s.sqSize q
  let h := s.fld HIF_Q_STATUS.SQ_HEAD q
  if s.hasEntries q then (List.range ((s.fld HIF_Q_SQ_TAIL.TAIL q + n - h) % n)).map fun k => (h + k) % n else []

/-- The target of an abort: the first outstanding command of a queue with a tag, in submission order (R54). -/
def State.target (s : State) (q tag : Nat) : Target :=
  match s.host.cmds.find? fun c => c.q = q ∧ c.tag = tag ∧ ! c.dropped with
  | some c => .fetched c
  | none =>
    if 23 < q then .none
    else match (s.slotsLeft q).find? fun k => leAt (s.record q k) 2 2 = tag with
      | some k => .waiting k (leAt (s.record q k) 0 2)
      | none => .none

/-- An abort waits for its target's completion. -/
def State.abortWaits (s : State) (c : Cmd) : State := s.setCmd { c with phase := .running }

/-! ### Safe points (R55, R56) -/

/-- CMD_VIA_DISCOVER stops: no further PROBE, no ROUTES; assignments stand (R246). A discovery that another CMD_VIA_DISCOVER
waits for goes on for that one. -/
def State.discoverStop (s : State) (c : Cmd) : State :=
  let s : State := if s.discovers.any fun d => decide (d.id ≠ c.id) then s
    else { s with via := { s.via with searching := false, settle := false } }
  s.finish c stAborted

/-- CMD_VIA_REG stops before a resend (R246). -/
def State.viaRegStop (s : State) (c : Cmd) : State :=
  match s.overdue with
  | some p =>
    if p.cmd = some (c.q, c.id) then
      (State.nextPending { s with via := { s.via with pend := s.via.pend.erase p } } p.msg.dst p.msg.vc).finish c stAborted
    else s
  | none => s

/-- The stop of a command at a safe point, by its opcode; `n` tells how far an operation had come that has safe points along
its data. A command of another opcode names no safe point. -/
def State.stopAt (s : State) (c : Cmd) (n : Nat) : State :=
  match c.opcode with
  | 0x0201 => s.stageStop c n
  | 0x0202 => s.stageFlashStop c n
  | 0x0203 => s.verifyStop c n
  | 0x0204 => s.applyStop c
  | 0x0301 => s.playStop c
  | 0x0601 => s.refreshStop c
  | 0x0A01 => s.discoverStop c
  | 0x0A05 => s.viaRegStop c
  | 0x0D03 => s.cmpWriteStop c n
  | 0x0D06 => s.parapetStop c n
  | 0x0E01 => s.corStop c n
  | 0x0E02 => s.corStop c n
  | 0x0F01 => s.trimStop c
  | 0x1001 => s.pinStop c
  | 0x1002 => s.lampOpStop c
  | 0x1101 => s.memStop c n
  | 0x1102 => s.memStop c n
  | 0x1401 => s.handoverStop c
  | 0x1501 => s.fwuWriteStop c n
  | 0x1502 => s.forwardStop c
  | 0x1601 => s.chkAbort c n
  | 0x1901 => s.powerStop c
  | _ => s

/-- The commands for which every moment until their effect is a safe point (R318, R385, R454). -/
def anyMoment : List Nat := [0x0E02, 0x1002, 0x1901]

/-- The commands whose safe points are frame starts (R116, R166, R342, R388, R439). -/
def frameStops : List Nat := [0x0301, 0x0601, 0x0F01, 0x1001, 0x1401]

/-- The commands of a list of opcodes that have an accepted abort and run stop, in submission order. -/
def State.stopAll (s : State) (ops : List Nat) : State :=
  (s.host.cmds.filter fun c => c.opcode ∈ ops ∧ c.aborts ≠ [] ∧ c.phase ≠ .waiting).foldl (fun (s : State) c => s.stopAt c 0) s

/-- SAFE_POINT_STOP: a command with an accepted abort reaches a safe point along its work. The commands whose safe points are
frame starts or closes stop there. -/
def onSafePointStop (q : Fin 24) (tag n : Nat) (s : State) : State :=
  match s.host.cmds.find? fun c => c.q = q.val ∧ c.tag = tag ∧ c.aborts ≠ [] ∧ c.phase ≠ .waiting ∧ c.opcode ≠ 0x0001 with
  | some c => if c.opcode = 0x0204 ∨ c.opcode ∈ frameStops then s else s.stopAt c n
  | none => s

/-! ### CMD_ABORT (R55) -/

/-- CMD_ABORT is accepted at its target's command port (R55): a target for which every moment is a safe point stops at once. -/
def onCmdAbort (q : Fin 24) (tag : Nat) (s : State) : State :=
  match s.cmd q tag 0x0001 with
    | none => s
    | some c =>
      match s.target (c.opnd 32 1) (c.opnd 34 2) with
      | .none => s.finish c stAlreadyDone
      | .fetched t =>
        if t.opcode = 0x0001 then s.finish c stBadTarget
        else
          let t := { t with aborts := t.aborts ++ [(c.q, c.id)] }
          let s := (s.abortWaits c).setCmd t
          if t.phase = .waiting then s.finish t stAborted
          else if t.opcode ∈ anyMoment then s.stopAt t 0
          else s
      | .waiting slot op =>
        if op = 0x0001 then s.finish c stBadTarget
        else
          let s := s.abortWaits c
          let tq := c.opnd 32 1
          let mine (d : Discard) : Bool := decide (d.q = tq) && decide (d.slot = slot)
          let ds := if s.host.discards.any mine then
              s.host.discards.map fun d => if mine d then { d with aborts := d.aborts ++ [(c.q, c.id)] } else d
            else s.host.discards ++ [⟨tq, slot, [(c.q, c.id)]⟩]
          { s with host := { s.host with discards := ds } }

/-! ### Decisions (R38, R60, R61) -/

/-- The number of the first frame when a cadence begins (R355). -/
def State.firstFrame (s : State) : Nat := match s.cad.accepted with | some a => a + 1 | none => 0

/-- The earliest frame whose commit window has not closed. -/
def State.nextOpen (s : State) : Nat :=
  if s.cadence then
    match s.cad.next with
    | some x => if x.closed then x.num + 1 else x.num
    | none => s.frame + 1
  else s.firstFrame

/-- The frame at which a pending switch to ASSIST takes place (R36, R60). -/
def State.switchFrame (s : State) (n : Nat) : Nat :=
  match Sparse.find s.fnt.sampled n, s.cad.next with
  | some true, some x => x.num
  | _, _ => s.nextOpen

/-- The distance of a PERIOD from a frame, both of 32 bits: negative where it lies before. -/
def ahead (period frame : Nat) : Int := sInt 32 ((period + 2 ^ 32 - frame % 2 ^ 32) % 2 ^ 32)

/-- Test 1 of R60. -/
def State.mayDecide (s : State) (n period : Nat) : Bool :=
  s.assist n || (s.flag FNT_STATUS.MODE_PEND n && s.flag FNT_CTRL.MODE_REQ n && decide (n ≠ 7) &&
    (decide (n = 4) || ! s.cadence || decide (0 ≤ ahead period (s.switchFrame n))))

/-- The step that a PERIOD of FN_LNK names, against the step held on its port: negative past, positive to come (R191). -/
def State.stepAhead (s : State) (period : Nat) : Int :=
  let k := period / 65536
  if 15 < k then 1
  else
    let held := (s.port k).step.any fun st => st.vote.isNone && st.deadline.any fun t => s.clock < t
    let d : Int := (period % 65536 : Nat) - (s.fld SPN_LADDER.STEP_SEQ k : Nat)
    if d = 0 ∧ ! held then -1 else d

/-- Tests 2 and 3 of R60: the status of a decision that arrives now. -/
def State.timely (s : State) (n period : Nat) : Nat :=
  let d : Int := if n = 4 then 0 else if n = 7 then s.stepAhead period
    else ahead period (s.nextOpen + (if n = 13 ∨ n = 22 then 1 else 0))
  let look : Int := if n = 7 then 0 else 4
  if d < 0 then stTooLate else if look < d then stTooEarly else stOk

/-- An accepted decision: kept for its period, in place of an earlier one; FN_PTP and FN_LNK use theirs at once. -/
def State.accept (s : State) (n period : Nat) (bs : List Byte) : State :=
  if n = 4 then s.ptpDecision bs
  else if n = 7 then s.stepVote (period / 65536) (decide (leAt bs 0 1 = 1))
  else { s with fnt := { s.fnt with
    decisions := (s.fnt.decisions.filter fun d => ¬ (d.fn = n ∧ d.period = period)) ++ [⟨n, period, bs⟩] } }

/-- CMD_DECIDE for function `n` (R60). -/
def State.decide' (s : State) (n : Nat) (q tag : Nat) : State :=
  match s.cmd q tag 0x0002 with
  | none => s
  | some c =>
    if c.opnd 32 1 ≠ n then s
    else
      let period := c.opnd 36 4
      if ! s.mayDecide n period then s.finish c stNotAssist
      else
        let st := s.timely n period
        if st = stOk then (s.accept n period (s.decisionBytes c)).finish c stOk else s.finish c st

/-- DECIDE_CFG (R92). -/
def onDecideCfg (q : Fin 24) (tag : Nat) (s : State) : State := s.decide' 1 q tag
/-- DECIDE_ING_SDI (R110). -/
def onDecideIngSdi (q : Fin 24) (tag : Nat) (s : State) : State := s.decide' 2 q tag
/-- DECIDE_PTP (R118). -/
def onDecidePtp (q : Fin 24) (tag : Nat) (s : State) : State := s.decide' 4 q tag
/-- DECIDE_RATE (R163). -/
def onDecideRate (q : Fin 24) (tag : Nat) (s : State) : State := s.decide' 6 q tag
/-- DECIDE_ENC (R167). -/
def onDecideEnc (q : Fin 24) (tag : Nat) (s : State) : State := s.decide' 5 q tag
/-- DECIDE_LNK (R191). -/
def onDecideLnk (q : Fin 24) (tag : Nat) (s : State) : State := s.decide' 7 q tag
/-- DECIDE_SPAN (R206). -/
def onDecideSpan (q : Fin 24) (tag : Nat) (s : State) : State := s.decide' 8 q tag
/-- DECIDE_TIM (R239). -/
def onDecideTim (q : Fin 24) (tag : Nat) (s : State) : State := s.decide' 10 q tag
/-- DECIDE_DEC (R265). -/
def onDecideDec (q : Fin 24) (tag : Nat) (s : State) : State := s.decide' 11 q tag
/-- DECIDE_CMP (R298). -/
def onDecideCmp (q : Fin 24) (tag : Nat) (s : State) : State := s.decide' 12 q tag
/-- DECIDE_COR (R314). -/
def onDecideCor (q : Fin 24) (tag : Nat) (s : State) : State := s.decide' 13 q tag
/-- DECIDE_STR (R350). -/
def onDecideStr (q : Fin 24) (tag : Nat) (s : State) : State := s.decide' 14 q tag
/-- DECIDE_THERM (R351). -/
def onDecideTherm (q : Fin 24) (tag : Nat) (s : State) : State := s.decide' 22 q tag
/-- DECIDE_DIA (R387). -/
def onDecideDia (q : Fin 24) (tag : Nat) (s : State) : State := s.decide' 15 q tag
/-- DECIDE_MEM (R411). -/
def onDecideMem (q : Fin 24) (tag : Nat) (s : State) : State := s.decide' 16 q tag
/-- DECIDE_DECK (R412). -/
def onDecideDeck (q : Fin 24) (tag : Nat) (s : State) : State := s.decide' 17 q tag
/-- DECIDE_LDG (R421). -/
def onDecideLdg (q : Fin 24) (tag : Nat) (s : State) : State := s.decide' 18 q tag
/-- DECIDE_RED (R440). -/
def onDecideRed (q : Fin 24) (tag : Nat) (s : State) : State := s.decide' 19 q tag
/-- DECIDE_PWR (R452). -/
def onDecidePwr (q : Fin 24) (tag : Nat) (s : State) : State := s.decide' 24 q tag

/-- Whether a decision of a frame covers every row of every layer that it finds encoded (R164). -/
def State.rowsCovered (s : State) (bs : List Byte) : Bool :=
  (List.range 63).all fun l => ! s.willEncode l ||
    (entriesOf 4 bs).any fun e => decide (leAt e 0 1 = l) && decide (leAt e 2 2 = 0)

/-- Whether a missing decision of function `n` counts at this moment (R92, R164, R206, R265, R387, R411, R421, R440, R452). -/
def State.missCounts (s : State) (n : Nat) : Bool :=
  match n with
  | 1 => decide (s.fld CFG_STATUS.STAGE = 6)
  | 6 => (List.range 63).any s.willEncode
  | 8 => (List.range 16).any fun k => s.flag SPN_STATUS.DEGRADED k
  | 11 => s.dec.ctxs.any fun p => p.2.tainted
  | 16 => decide (s.lateRanks ≠ [])
  | 18 => decide (s.fld LDG_STATUS.IMBAL &&& 0x33 ≠ 0)
  | 19 => s.redOpen
  | n => decide (n ∈ [2, 5, 10, 12, 13, 14, 17, 22])

/-- The functions that have missed the decision whose deadline is the close before frame `frame`, with their periods. -/
def State.missedAt (s : State) (frame : Nat) : List (Nat × Nat) :=
  ((List.range 25).map fun n => (n, periodOf (if n = 13 ∨ n = 22 then frame + 1 else frame))).filter fun p =>
    s.assistNext p.1 && s.missCounts p.1 && (match s.decision p.1 p.2 with
      | some bs => decide (p.1 = 6) && ! s.rowsCovered bs
      | none => true)

/-- ASSIST_LATE: a period's deadline has passed without a decision. FN_LNK votes fail for a step whose 2 ms are over (R191);
FN_PTP has a period for each sync interval, which the host counts. -/
def onAssistLate (n : Fin 48) (period : Nat) (s : State) : State :=
  if n.val = 7 then
    match (s.port (period / 65536)).step with
    | some st =>
      if period / 65536 < 16 ∧ st.vote.isNone ∧ period = s.stepPeriod (period / 65536) ∧ st.deadline.any (fun t => t ≤ s.clock) then
        (s.missAssist 7 period).stepVote (period / 65536) false
      else s
    | none => s
  else if n.val = 4 then (if s.assist 4 then s.missAssist 4 period else s)
  else if (n.val, period) ∈ s.fnt.missed then
    State.missAssist { s with fnt := { s.fnt with missed := s.fnt.missed.erase (n.val, period) } } n.val period
  else s

end Sys2Proof.Machine
end

