-- ==== Sys2Proof/Machine/Host.lean ====
section
/-! DEFINITION. Accesses of the host ports (R5 to R9, R41 to R47, R49, R50, R514 to R521): reading and writing registers, pairs,
the areas, deck through BAR2 and the deck pair, ports, queues and event rings. -/

namespace Sys2Proof.Machine

/-! ### Paths and ports -/

/-- A path that exists: the node of a remote path must be listed (R44). -/
def State.pathKnown (s : State) (p : Path) : Bool :=
  match p with
  | .remote e => decide (s.fld HIF_REMOTE_NODE.NODE e.val ≠ 0)
  | _ => true

/-- Whether an access through a path is taken: its port is enabled (Table 2-3). -/
def State.pathOpen (s : State) (p : Path) : Bool := s.portOn p.port && s.pathKnown p

/-- The key of a pair's snapshot or staged half of a path (R6). -/
def pathKey (p : Path) (a : Nat) : Nat := 8 * a + p.num

/-- What leaves the device on a path. -/
def State.reply (s : State) (p : Path) (bs : List Byte) : State := s.emit (.readData p bs)

/-- An access to an unmapped address is counted and its address latched (R514). -/
def State.unmapped (s : State) (a : Nat) : State := (s.bump GLB_UNMAPPED.COUNT).setFld GLB_UNMAPPED_ADDR.ADDR a

/-- Whether an address lies in the SPI area or the remote area (R518). -/
def inArea (a : Nat) : Bool := decide (0x28000 ≤ a) && decide (a < 0x30000)

/-- The register word at an address. -/
def State.cur (s : State) (a : Nat) : Word := s.word a (resetWord a).toNat

/-! ### Deck access (R29, R45) -/

/-- Read deck for a host: refused reads return zero. -/
def State.hostDeckRead (s : State) (port a n : Nat) : List Byte × State :=
  if s.deckRefused false a n then (List.replicate n 0, s.refuseDeck a port) else s.deckRead a n 4

/-- Write deck for a host: a refused write has no effect. -/
def State.hostDeckWrite (s : State) (port a : Nat) (bs : List Byte) : State :=
  if s.deckRefused true a bs.length then s.refuseDeck a port else s.deckWrite a bs fun _ => 4

/-- ADDR rises by 1 after an access to HIF_DECK_DATA, wrapping to 0 (Table 22-4). -/
def State.deckNext (s : State) : State := s.setFld HIF_DECK_ADDR.ADDR (s.fld HIF_DECK_ADDR.ADDR + 1)

/-- A read of HIF_DECK_DATA. -/
def State.deckPairRead (s : State) (port : Nat) : Nat × State :=
  let (bs, s) := s.hostDeckRead port (4 * s.fld HIF_DECK_ADDR.ADDR) 4
  (leNat bs, s.deckNext)

/-- A write of HIF_DECK_DATA. -/
def State.deckPairWrite (s : State) (port v : Nat) : State :=
  (s.hostDeckWrite port (4 * s.fld HIF_DECK_ADDR.ADDR) (leBytes 4 v)).deckNext

/-! ### What a register reads (R7) -/

/-- The word of a register whose value follows from other state; none for a register that is stored. -/
def State.computed (s : State) (a : Nat) : Option Nat :=
  let word : Nat := (s.cur a).toNat
  if a = GLB_CLK.STR_DIV.base then some (insertBits word 16 9 (8 * s.str.hard.k))
  else if a = GLB_GPIO_IN.IN.base then
    let dir := s.fld GLB_GPIO_DIR.DIR
    some ((s.fld GLB_GPIO_OUT.OUT &&& dir) ||| (s.pins.gpio.toNat &&& (0xFFFFFFFF - dir)))
  else if 0x10000 ≤ a ∧ a < 0x10300 ∧ a % 16 = 4 then
    some (insertBits word 16 16 (s.detailOf ((a - 0x10000) / 16)))
  else if 0x80000 ≤ a ∧ a < 0xA0000 ∧ a % 0x400 = 4 then
    let k := s.portOfLane ((a - 0x80000) / 0x400)
    some (insertBits (insertBits word 3 1 (b2n k.isSome)) 4 4 (k.getD 0))
  else if 0x80000 ≤ a ∧ a < 0xA0000 ∧ a % 0x400 = 0xC then
    let i := (a - 0x80000) / 0x400
    if s.flag LNE_CFG.TX_MANUAL i then some ((s.cur (a - 4)).toNat % 2 ^ 23) else none
  else if 0xC6000 ≤ a ∧ a < 0xC6200 then some (s.subWord ((a - 0xC6000) / 4))
  else if a = 0xE0000 then some (s.time.wall % 2 ^ 32)
  else if a = 0xE0004 then some (s.time.wall / 2 ^ 32)
  else if 0x40000 ≤ a ∧ a < 0x40800 ∧ a % 64 = 0x30 then some (s.chkResult ((a - 0x40000) / 64) % 2 ^ 32)
  else if 0x40000 ≤ a ∧ a < 0x40800 ∧ a % 64 = 0x34 then some (s.chkResult ((a - 0x40000) / 64) / 2 ^ 32)
  else if a = 0x1C0100 then some 0x8000
  else if 0x140000 ≤ a ∧ a < 0x180000 then s.decReg a
  else if 0x240000 ≤ a ∧ a < 0x280000 then s.diaReg a
  else if 0x2C0000 ≤ a ∧ a < 0x2E0000 then s.ldgReg a
  else none

/-- The field of a register that a running measurement holds at this moment: its value is the device's own (log entry
2). Low bit and width. -/
def State.measured (s : State) (a : Nat) : Option (Nat × Nat) :=
  if 0x50100 ≤ a ∧ a < 0x50180 ∧ a % 16 = 4 then some (0, 16)
  else if 0x300000 ≤ a ∧ a < 0x310000 ∧ a % 0x1000 = 8 then
    (if s.bayState ((a - 0x300000) / 0x1000) = bayRun then some (0, 16) else none)
  else if a = MEM_STATUS.PANIC.base then (if s.flag MEM_STATUS.TRAINED then some (8, 4) else none)
  else if 0x280200 ≤ a ∧ a < 0x280220 then (if s.flag MEM_STATUS.TRAINED then some (1, 1) else none)
  else if a = DECK_STATUS.PANIC.base then some (16, 1)
  else none

/-- Whether the receiver of a lane adapts in the background: while its port is UP or in bypass, unless EQ_HOLD freezes it (R189,
R208). -/
def State.adapts (s : State) (lane : Nat) : Bool :=
  ! s.flag LNE_CFG.EQ_HOLD lane && (match s.activePort lane with
    | some k => s.portUp k || decide (s.fld SPN_STATUS.STATE k = spBypass)
    | none => false)

/-- The equaliser of a lane moves before LNE_RXEQ or LNE_DFE is read. -/
def State.adapted (s : State) (a : Nat) : State :=
  let lane := (a - 0x80000) / 0x400
  let off := (a - 0x80000) % 0x400
  if 0x80000 ≤ a ∧ a < 0xA0000 ∧ (off = 0x10 ∨ (0x40 ≤ off ∧ off < 0x70)) ∧ s.adapts lane then State.adaptLane lane s else s

/-- The word that a register holds for a reader, write-only fields aside. -/
def State.regWord (s : State) (a : Nat) : Nat := (s.computed a).getD (s.cur a).toNat

/-- The word as read: write-only fields read zero, a measured field reads what it measures. -/
def State.readValue (s : State) (d : RegDesc) (hi : Bool) (a : Nat) : Nat × State :=
  let s := s.adapted a
  let w := d.fields.foldl (fun w f => if f.acc = .wo ∧ ! hi then insertBits w f.lo f.width 0 else w) (s.regWord a)
  match s.measured a with
  | some (lo, width) => (insertBits w lo width s.free, s.draw)
  | none => (w, s)

/-- An RC field after its read: 0, or 1 where a hardware increment met the read (R8); `meets` has bit `lo` of the field
set then. -/
def clearRead (meets : Nat) (w : Nat) (f : FieldDesc) : Nat :=
  if f.acc = .rc then insertBits w f.lo f.width (bits meets f.lo 1) else w

/-- What a read leaves of its register: RC fields cleared; a read of DECK_ECC[b] clears bit b of UC_BANKS. -/
def State.afterRead (s : State) (d : RegDesc) (i a meets : Nat) : State :=
  let s := if d.fields.any fun f => f.acc = .rc then
      s.setWord a (BitVec.ofNat 32 (d.fields.foldl (clearRead meets) (s.cur a).toNat)) else s
  if d.base = DECK_ECC.CE.base then
    s.setFld DECK_STATUS.UC_BANKS (s.fld DECK_STATUS.UC_BANKS &&& (0xFFFF - 2 ^ i)) else s

/-- Read the aligned word at an address through a path, with every side effect (R5, R6, R7, R514, R518). -/
def State.hostReadWord (s : State) (p : Path) (a meets : Nat) : Nat × State :=
  if inArea a then (leNat (readBytes blank s.host.area a 4), s)
  else
    match regAt a with
    | none => (0, s.unmapped a)
    | some (d, i, hi) =>
      if d.base = 0x20024 then s.deckPairRead p.port
      else if d.pair ∧ hi then ((Sparse.get 0 s.host.snaps (pathKey p (a - 4))).toNat, s)
      else if d.pair then
        let (v, s) := s.readValue d false a
        let (top, s) := s.readValue d true (a + 4)
        (v, { s with host := { s.host with snaps := Sparse.set s.host.snaps (pathKey p a) (BitVec.ofNat 32 top) } })
      else
        let (v, s) := s.readValue d false a
        (v, s.afterRead d i a meets)

/-- The address of the next word of an access in ascending order (R5). -/
def nextWord (a : Nat) : Nat := a + 4

/-- The address of the next word of an SPI burst: at the end of a 4 KiB page it wraps to the page's start (R43). -/
def nextInPage (a : Nat) : Nat := a / 4096 * 4096 + (a + 4) % 4096

/-- Read aligned words one after another; a hardware increment may meet the first read. -/
def State.readWords (next : Nat → Nat) (p : Path) (meets a : Nat) : Nat → State → List Byte × State
  | 0, s => ([], s)
  | n + 1, s =>
    let (v, s) := s.hostReadWord p a meets
    let (bs, s) := State.readWords next p 0 (next a) n s
    (leBytes 4 v ++ bs, s)

/-- The words that a byte range touches. -/
def wordSpan (a n : Nat) : Nat := if n = 0 then 0 else (a + n - 1) / 4 - a / 4 + 1

/-- The address of an SPI transaction: 32 bits of which [1:0] and [31:26] are zero; any other is ignored (Table 2-2). -/
def spiAddress (a : Nat) : Bool := decide (a % 4 = 0) && decide (a < 2 ^ 26)

/-- An SPI read that clocks out `n` bytes: every word of which a clock has begun is read in full, with every side effect
(R43). Of a byte that the transaction cuts, the host has nothing here. -/
def State.spiRead (s : State) (a n meets : Nat) : State :=
  let (bs, s) := State.readWords nextInPage .spi meets a ((n + 3) / 4) s
  s.reply .spi (bs.take n)

/-- A host read of `n` bytes. PCIe reads bytes of any width and alignment inside BAR0, SPI a burst of words, the remote
window one aligned register (R5, R43). A read of no byte, or outside the 64 MiB, is no access to this device. -/
def State.hostRead (s : State) (p : Path) (a n meets : Nat) : State :=
  if ! s.pathOpen p ∨ n = 0 then s
  else match p with
    | .pcie =>
      if a + n ≤ 2 ^ 26 then
        let (bs, s) := State.readWords nextWord p meets (a / 4 * 4) (wordSpan a n) s
        s.reply p (bytesAt bs (a % 4) n)
      else s
    | .spi => if spiAddress a then s.spiRead a n meets else s
    | .remote _ =>
      if n = 4 ∧ a % 4 = 0 ∧ a < 2 ^ 26 then
        let (bs, s) := State.readWords nextWord p meets a 1 s
        s.reply p bs
      else s

/-! ### What a write changes (R7, R9) -/

/-- A write of a register by its access codes alone. -/
def State.writePlain (s : State) (d : RegDesc) (a v : Nat) : State :=
  s.setWord a (BitVec.ofNat 32 (d.fields.foldl (writeField v) (s.cur a).toNat))

/-- A write of both halves of a pair by its access codes. -/
def State.writePlainPair (s : State) (d : RegDesc) (a v : Nat) : State :=
  let old := (s.cur a).toNat + 2 ^ 32 * (s.cur (a + 4)).toNat
  let w := d.fields.foldl (writeField v) old
  (s.setWord a (BitVec.ofNat 32 w)).setWord (a + 4) (BitVec.ofNat 32 (w / 2 ^ 32))

/-! ### Queues and rings (R47 to R52, R57 to R59) -/

/-- The submission ring of a queue as bytes: base and length. -/
def State.sqRange (s : State) (q : Nat) : Nat × Nat := (s.pair HIF_Q_SQ_BASE.BASE q, 64 * s.sqSize q)

/-- The completion ring of a queue. -/
def State.cqRange (s : State) (q : Nat) : Nat × Nat := (s.pair HIF_Q_CQ_BASE.BASE q, 32 * s.cqSize q)

/-- The event ring of a port. -/
def State.evRange (s : State) (p : Nat) : Nat × Nat := (s.pair HIF_EV_BASE.BASE p, 32 * s.evSize p)

/-- Whether two byte ranges share a byte. -/
def rangesMeet (x y : Nat × Nat) : Bool := decide (x.1 < y.1 + y.2) && decide (y.1 < x.1 + x.2)

/-- Whether a ring of a port stands where Table 2-4 and R47 let it: aligned, and inside the port's area on ports 1
and 2. -/
def ringPlaced (p : Nat) (r : Nat × Nat) : Bool :=
  if p = 0 then decide (r.1 % 4096 = 0) else decide (r.1 % 64 = 0) && decide (r.1 + r.2 ≤ 0x4000)

/-- The rings of a port that are enabled, other than those of one queue. -/
def State.otherRings (s : State) (p : Nat) (q : Option Nat) (ev : Bool) : List (Nat × Nat) :=
  (((List.range 8).map (8 * p + ·)).filter fun k => some k ≠ q && s.flag HIF_Q_CFG.ENABLE k).flatMap
    (fun k => [s.sqRange k, s.cqRange k]) ++
  (if ev ∧ s.flag HIF_EV_CFG.ENABLE p then [s.evRange p] else [])

/-- A ring or a queue is refused: CFG_ERR reads 1 (R47). -/
def State.queueEnable (s : State) (q : Nat) : State :=
  let p := queuePort q
  let rings := [s.sqRange q, s.cqRange q]
  let others := s.otherRings p (some q) true
  if rings.all (ringPlaced p) ∧ ! rangesMeet (s.sqRange q) (s.cqRange q) ∧
      ! rings.any (fun r => others.any (rangesMeet r)) then
    (s.zeroQueue q).setFlag HIF_Q_CFG.ENABLE true q
  else s.setFlag HIF_Q_CFG.CFG_ERR true q

/-- ENABLE cleared on an enabled queue: fetching stops, entries not fetched are discarded, and ENABLE reads 1 until every
fetched command has completed (R49). -/
def State.queueDisable (s : State) (q : Nat) : State :=
  let s := s.orphan fun d => decide (d.q = q)
  let s := s.setFlag HIF_Q_STATUS.STALLED false q
  (s.setQueue q { s.queue q with draining := true }).drained q

/-- A write of HIF_Q_CFG[q]: sizes and vector, then ENABLE (R47, R49). A write of ENABLE = 1 while the queue drains is
ignored (R50). -/
def State.writeQueueCfg (s : State) (d : RegDesc) (q a v : Nat) : State :=
  let on := s.flag HIF_Q_CFG.ENABLE q
  if v % 2 = 1 ∧ on ∧ (s.queue q).draining then s else
  let s := (s.writePlain d a v).setFlag HIF_Q_CFG.ENABLE on q
  if v % 2 = 1 then (if on then s else s.queueEnable q)
  else if on ∧ ! (s.queue q).draining then s.queueDisable q else s

/-- A write of HIF_EV_CFG[p]: size, then ENABLE. The events held for the first ring are raised when it is enabled (R57), for
its port under its mask (log entry 120). A ring disabled and enabled again within a tollhouse restart keeps the events held for
its port and the count of those beyond 256 (log entry 121). -/
def State.writeRingCfg (s : State) (d : RegDesc) (p a v : Nat) : State :=
  let on := s.flag HIF_EV_CFG.ENABLE p
  let s := (s.writePlain d a v).setFlag HIF_EV_CFG.ENABLE on p
  if v % 2 = 0 then s.setFlag HIF_EV_CFG.ENABLE false p
  else if on then s
  else if ringPlaced p (s.evRange p) ∧ ! (s.otherRings p none false).any (rangesMeet (s.evRange p)) then
    let s := ((s.setFlag HIF_EV_CFG.ENABLE true p).setFlag HIF_EV_CFG.CFG_ERR false p).setFld HIF_EV_HEAD.HEAD 0 p
    let s := s.setRing p { RingSt.reset with held := (s.ring p).held, excess := (s.ring p).excess }
    let first := s.host.untilRing
    let s : State := { s with host := { s.host with untilRing := [] } }
    first.foldl (fun (s : State) e => s.raiseFor e p) s
  else s.setFlag HIF_EV_CFG.CFG_ERR true p

/-- A doorbell: TAIL, or ERR with EV_QUEUE_ERROR where the index is not below the ring size (R47, R52). -/
def State.writeTail (s : State) (q v : Nat) : State :=
  let t := bits v 0 12
  if t < s.sqSize q then s.setFld HIF_Q_SQ_TAIL.TAIL t q
  else (s.setFlag HIF_Q_STATUS.ERR true q).raise 0x0007 [(16, 1, q)]

/-- The head of a completion ring: slots are free, the vector notifies again (R48, R59). -/
def State.writeCqHead (s : State) (q v : Nat) : State :=
  let s := s.setFld HIF_Q_CQ_HEAD.HEAD (bits v 0 12) q
  s.rearm (queuePort q) [s.fld HIF_Q_CFG.VEC q]

/-- The head of an event ring: events are written again, its vectors notify again (R58, R59). -/
def State.writeEvHead (s : State) (p v : Nat) : State :=
  let s := s.setFld HIF_EV_HEAD.HEAD (bits v 0 12) p
  let s := s.setRing p { s.ring p with losing := false }
  s.rearm p ((List.range 49).map fun g => s.fld HIF_EV_VEC.VEC g)

/-! ### Ports (R521) -/

/-- A write of HIF_PORT_CFG: a port whose enable bit clears is closed. -/
def State.writePortCfg (s : State) (v : Nat) : State :=
  [0, 1, 2].foldl (fun (s : State) p =>
    let was := s.portOn p
    let on := decide (bits v p 1 = 1)
    let s := if was ∧ ! on then s.closePort p else s
    s.setFlag (portEnFld p) on) s

/-! ### Registers with an effect of their own -/

/-- What a lane sends as a test pattern: PRBS_SEL while the generator is on, else 0. -/
def State.patternSel (s : State) (i : Nat) : Nat := if s.flag LNE_CFG.PRBS_GEN i then s.fld LNE_CFG.PRBS_SEL i else 0

/-- A write of LNE_CFG: PRBS may be enabled only on a lane of no port or of a DISABLED one; PRBS_CHK = 1 clears the
counters; a checker that is off, set afresh or given another pattern is not locked (R192). EQ_HOLD freezes the equaliser as it
stands (R189). -/
def State.writeLaneCfg (s : State) (d : RegDesc) (i a v : Nat) : State :=
  let old := s.fld LNE_CFG.PRBS_SEL i + 8 * s.fld LNE_CFG.PRBS_GEN i + 16 * s.fld LNE_CFG.PRBS_CHK i
  let busy := (s.portOfLane i).any fun k => s.fld SPN_STATUS.STATE k ≠ spDisabled
  let sent := s.patternSel i
  let s := if s.adapts i ∧ bits v 5 1 = 1 then State.adaptLane i s else s
  let s := s.writePlain d a v
  if bits v 3 2 ≠ 0 ∧ busy then s.setWord a (BitVec.ofNat 32 (insertBits (s.word a 0).toNat 0 5 old))
  else
    let s := if s.patternSel i = sent then s else s.emit (.pattern i (s.patternSel i))
    if bits v 4 1 = 1 then ((s.setFld LNE_PRBS_ERR.ERR 0 i).setPair LNE_PRBS_BITS.BITS 0 i).clearChecker i
    else if s.flag LNE_CFG.PRBS_CHK i then s else s.clearChecker i

/-- The taps that a word of LNE_TXEQ spells. -/
def tapsOf (v : Nat) : Taps :=
  { pre2 := bits v 0 3, pre1 := bits v 3 5, main := bits v 8 7, post1 := bits v 15 5, post2 := bits v 20 3 }

/-- A write of SPN_CFG: thresholds, then EN and RETRAIN at once (R182, R210). -/
def State.writeSpanCfg (s : State) (d : RegDesc) (k a v : Nat) : State :=
  let old := (s.cur a).toNat
  let s := s.writePlain d a (insertBits v 0 2 (bits old 0 1))
  let en := decide (bits v 0 1 = 1)
  let s := if s.flag SPN_CFG.EN k = en then s else s.setSpanEnable k en
  let st := s.fld SPN_STATUS.STATE k
  if bits v 1 1 = 1 ∧ st ≠ spDisabled ∧ st ≠ spBypass then (s.setFlag SPN_CFG.RETRAIN true k).retrain k 4 else s

/-- A write of SPN_INJ (R193). -/
def State.writeSpanInj (s : State) (k v : Nat) : State :=
  s.inject k (bits v 0 2) (decide (bits v 2 1 = 1) && decide (bits v 0 2 ≠ 3)) (decide (bits v 3 1 = 1))

/-- A write of LNE_INJ: ONE flips a bit, RATE sets how often one is flipped (R193). -/
def State.writeLaneInj (s : State) (d : RegDesc) (i a v : Nat) : State :=
  let old := s.fld LNE_INJ.RATE i
  let s := s.writePlain d a v
  let s := if s.fld LNE_INJ.RATE i = old then s else s.emit (.flippedRate i (s.fld LNE_INJ.RATE i))
  if v % 2 = 1 then s.emit (.flippedBit i) else s

/-- A write of LNE_EYE_CTRL: START begins a scan (R190). On NRZ every EYE but 0 is reserved (Table 7-11). -/
def State.writeEyeCtrl (s : State) (d : RegDesc) (i a v : Nat) : State :=
  let v := if s.fld LNE_STATUS.RATE i ≠ 6 ∧ bits v 16 2 ≠ 0 then insertBits v 16 2 (s.fld LNE_EYE_CTRL.EYE i) else v
  let s := s.writePlain d a v
  if bits v 24 1 = 1 then s.startScan i else s

/-- A write of ING_SDI_CFG: for a receiver that feeds no layer it acts at once (R118). -/
def State.writeSdiCfg (s : State) (d : RegDesc) (a v : Nat) : State := (s.writePlain d a v).sdiSettle s

/-- A write of a layer's encoder registers: refused whole where it would break R170. -/
def State.writeEncLayer (s : State) (d : RegDesc) (l a v : Nat) : State :=
  let t := s.writePlain d a v
  let w (f : Fld) : Nat := (t.word (f.addr l) f.rst).toNat
  if encWordsOk (w ENC_LAYER_CFG.EN) (w ENC_LAYER_QP.QP_MIN) (w ENC_LAYER_RATE.TARGET) then
    t.setFlag ENC_LAYER_CFG.CFG_ERR false l
  else s.setFlag ENC_LAYER_CFG.CFG_ERR true l

/-- A write of DIA_TIME: refused whole where it would break R381. -/
def State.writeDiaTime (s : State) (d : RegDesc) (a v : Nat) : State :=
  let t := s.writePlain d a v
  if t.fld DIA_TIME.VERIFY_AGE < 2 * t.fld DIA_TIME.PROBE_INT + 2 then s.setFlag DIA_STATUS.CFG_ERR true
  else t.setFlag DIA_STATUS.CFG_ERR false

/-- A write of BAY_SHARE: it counts at the next frame start, at once where no cadence runs (R22). -/
def State.writeShare (s : State) (d : RegDesc) (b a v : Nat) : State :=
  let s := s.writePlain d a v
  if s.cadence then s
  else
    let s := s.setBay b { s.bay b with share := s.fld BAY_SHARE.SHARE b }
    if s.bayKind b = 0 ∨ s.bayKind b = 6 then s else s.setFlag BAY_STATUS.IN_ROTATION (s.rotates b) b

/-- A write of a register that is no pair, by its access codes and what its chapter adds. -/
def State.writeReg (s : State) (port : Nat) (d : RegDesc) (i a v : Nat) : State :=
  match d.base with
  | 0x18 => if v % 65536 = 0x7240 then s.hostReset else s
  | 0x88 => s.setFld GLB_GPIO_OUT.OUT (s.fld GLB_GPIO_OUT.OUT ||| v)
  | 0x8C => s.setFld GLB_GPIO_OUT.OUT (s.fld GLB_GPIO_OUT.OUT - (s.fld GLB_GPIO_OUT.OUT &&& v))
  | 0x10000 => s.writeFntCtrl i v
  | 0x20000 => s.writePortCfg v
  | 0x20010 => State.writePlain { s with host := { s.host with refusedNodes := [] } } d a v
  | 0x20024 => s.deckPairWrite port v
  | 0x21000 => s.writeQueueCfg d i a v
  | 0x21014 => s.writeTail i v
  | 0x21018 => s.writeCqHead i v
  | 0x21400 => s.writeRingCfg d i a v
  | 0x2140C => s.writeEvHead i v
  | 0x40000 => s.writeChkCfg i v
  | 0x40028 => s.writeChkFeed i v
  | 0x4002C => s.writeChkFeed1 i v
  | 0x4003C => s.writeChkCtrl i v
  | 0x60040 => let s := s.writePlain d a v; if bits v 26 1 = 1 then s.recoverGo 0 else s
  | 0x80000 => s.writeLaneCfg d i a v
  | 0x80008 => if tapsOk (tapsOf v) then s.writePlain d a v else s
  | 0x80020 => s.writeEyeCtrl d i a v
  | 0x80038 => s.writeLaneInj d i a v
  | 0xA0000 => s.writeSpanCfg d i a v
  | 0xA0040 => s.writeSpanInj i v
  | 0xE0008 =>
    let s := s.writePlain d a v
    if s.flag TIM_STATUS.PARENT_FT ∧ ¬ s.flag TIM_CFG.FT_SYNC_EN then s.chooseParent else s
  | 0x100000 => let s := s.writePlain d a v; s.setIngLayer i { s.ingLayer i with rebind := true }
  | 0x100200 => s.writeSdiCfg d a v
  | 0x120100 => s.writeEncLayer d i a v
  | 0x120104 => s.writeEncLayer d i a v
  | 0x120108 => s.writeEncLayer d i a v
  | 0x1C0100 => if i = 0 then s else s.writePlain d a v
  | 0x200004 => (s.writePlain d a v).hardMark
  | 0x200008 => (s.writePlain d a v).hardMark
  | 0x20000C => (s.writePlain d a v).hardMark
  | 0x200010 => (s.writePlain d a v).hardMark
  | 0x200014 => (s.writePlain d a v).hardMark
  | 0x200100 => (s.writePlain d a v).hardMark
  | 0x200104 => (s.writePlain d a v).hardMark
  | 0x200108 => if bits v 0 12 ≤ s.fld STR_LIMIT.PHASE_MAX then s.writePlain d a v else s
  | 0x240004 => s.writeDiaTime d a v
  | 0x30000C => s.writeShare d i a v
  | _ => s.writePlain d a v

/-- A pair is written whole (R6). -/
def State.writePair (s : State) (d : RegDesc) (i a v : Nat) : State :=
  match d.base with
  | 0xE0000 => s.writeWall v
  | 0x40008 => s.writeChkPair CHK_POLY.POLY i v
  | 0x40010 => s.writeChkPair CHK_INIT.INIT i v
  | 0x40018 => s.writeChkPair CHK_XOROUT.XOROUT i v
  | 0x40020 => s.writeChkPair CHK_VAL.VAL i v
  | _ => s.writePlainPair d a v

/-- The low half that a path has staged for a pair (R6). -/
def State.stagedLow (s : State) (p : Path) (a : Nat) : Option Nat :=
  (Sparse.find s.host.staged (pathKey p a)).map (·.toNat)

/-- A write of NAME_HI with nothing staged: the low half in force is kept, whatever the access codes of its bits (R6). -/
def State.writeHigh (s : State) (d : RegDesc) (i a v : Nat) : State :=
  let t := s.writePair d i a (s.regWord a + 2 ^ 32 * v)
  if d.fields.any fun f => f.acc = .w1c ∨ f.acc = .w1s then t.setWord a (s.cur a) else t

/-- A write of NAME_HI through a path: both halves in one step, the staged half cleared (R6). -/
def State.commitPair (s : State) (p : Path) (d : RegDesc) (i a v : Nat) : State :=
  let t : State := { s with host := { s.host with staged := Sparse.erase s.host.staged (pathKey p a) } }
  match s.stagedLow p a with
  | some low => t.writePair d i a (low + 2 ^ 32 * v)
  | none => t.writeHigh d i a v

/-- A write of NAME_LO stages it for its path (R6). -/
def State.stageLow (s : State) (p : Path) (a v : Nat) : State :=
  { s with host := { s.host with staged := Sparse.set s.host.staged (pathKey p a) (BitVec.ofNat 32 v) } }

/-- A write of NAME_LO: staged; that of a check unit is ignored on an internal unit and while the unit is BUSY, which COLLIDE
notes (R487, R491). -/
def State.writeLow (s : State) (p : Path) (a v : Nat) : State :=
  if 0x40000 ≤ a ∧ a < 0x40800 ∧ a % 64 ∈ [8, 16, 24, 32] then s.chkGuard ((a - 0x40000) / 64) fun s => s.stageLow p a v
  else s.stageLow p a v

/-- A write of one whole aligned word through a path that is open: area, unmapped address, pair or register. -/
def State.putWord (s : State) (p : Path) (a v : Nat) : State :=
  if inArea a then s.areaWrite a (leBytes 4 v)
  else
    match regAt a with
    | none => s.unmapped a
    | some (d, i, hi) =>
      if d.pair then (if hi then s.commitPair p d i (a - 4) v else s.writeLow p a v)
      else s.writeReg p.port d i a v

/-- A write of one whole aligned word: a disabled port takes SPI and remote writes of HIF_PORT_CFG only (Table 2-3). -/
def State.hostWriteWord (s : State) (p : Path) (a v : Nat) : State :=
  if s.pathOpen p ∨ (p.port ≠ 0 ∧ a = 0x20000 ∧ s.pathKnown p) then s.putWord p a v else s

/-- Write the words that a byte list covers whole, one after another (R5): the list begins at an aligned address. -/
def State.writeWords (next : Nat → Nat) (p : Path) : Nat → List Byte → State → State
  | a, b0 :: b1 :: b2 :: b3 :: bs, s =>
    State.writeWords next p (next a) bs (s.hostWriteWord p a (leNat [b0, b1, b2, b3]))
  | _, _, s => s

/-- A host write of bytes. PCIe writes bytes of any width and alignment inside BAR0, SPI a burst of words, the remote window one
aligned register; a word that the write touches only in part is unchanged (R5, R43). A write of no byte, or outside the
64 MiB, is no access to this device. -/
def State.hostWrite (s : State) (p : Path) (a : Nat) (bs : List Byte) : State :=
  match p with
  | .pcie =>
    if 2 ^ 26 < a + bs.length ∨ (bs.length ≤ 4 ∧ ¬ (a % 4 = 0 ∧ bs.length = 4)) then s
    else
      let skip := (4 - a % 4) % 4
      State.writeWords nextWord p (a + skip) (bs.drop skip) s
  | .spi => if spiAddress a then State.writeWords nextInPage p a bs s else s
  | .remote _ => if bs.length = 4 ∧ a % 4 = 0 ∧ a < 2 ^ 26 then State.writeWords nextWord p a bs s else s

/-! ### The rows -/

/-- REGISTER_WRITE. -/
def onRegisterWrite (p : Path) (addr : Nat) (bytes : List Byte) (s : State) : State := s.hostWrite p addr bytes

/-- READ_CLEAR: a read of `width` bytes; a hardware increment meets the field whose low bit `meets` names (R8). -/
def onReadClear (p : Path) (addr width meets : Nat) (s : State) : State := s.hostRead p addr width meets

/-- PAIR_LO_READ. -/
def onPairLoRead (p : Path) (addr : Nat) (s : State) : State :=
  match regAt addr with
  | some (d, _, false) => if d.pair then s.hostRead p addr 4 0 else s
  | _ => s

/-- PAIR_LO_WRITE. -/
def onPairLoWrite (p : Path) (addr : Nat) (v : Word) (s : State) : State :=
  match regAt addr with
  | some (d, _, false) => if d.pair then s.hostWriteWord p addr v.toNat else s
  | _ => s

/-- PAIR_HI_WRITE. -/
def onPairHiWrite (p : Path) (addr : Nat) (v : Word) (s : State) : State :=
  match regAt addr with
  | some (_, _, true) => s.hostWriteWord p addr v.toNat
  | _ => s

/-- Whether an access of `n` bytes reaches BAR2: it moves a byte and lies in the window of 64 MiB (Table 2-1). -/
def inBar2 (a n : Nat) : Bool := decide (0 < n) && decide (a + n ≤ 2 ^ 26)

/-- BAR2_READ: the 64 MiB of deck through PCIe. -/
def onBar2Read (addr width : Nat) (s : State) : State :=
  if s.portOn 0 ∧ inBar2 addr width then
    let (bs, s) := s.hostDeckRead 0 addr width
    s.reply .pcie bs
  else s

/-- BAR2_WRITE. -/
def onBar2Write (addr : Nat) (bytes : List Byte) (s : State) : State :=
  if s.portOn 0 ∧ inBar2 addr bytes.length then s.hostDeckWrite 0 addr bytes else s

/-- DECK_DATA_READ. -/
def onDeckDataRead (p : Path) (s : State) : State := s.hostRead p 0x20024 4 0

/-- DECK_DATA_WRITE. -/
def onDeckDataWrite (p : Path) (v : Word) (s : State) : State := s.hostWriteWord p 0x20024 v.toNat

/-- The word of HIF_PORT_CFG with one enable bit replaced. -/
def State.portCfgWith (s : State) (port : Nat) (on : Bool) : Nat :=
  insertBits (s.word 0x20000 0).toNat port 1 (b2n on)

/-- PORT_DISABLE: a write of HIF_PORT_CFG that clears one enable bit. -/
def onPortDisable (p : Path) (port : Fin 3) (s : State) : State :=
  s.hostWriteWord p 0x20000 (s.portCfgWith port.val false)

/-- PORT_ENABLE: a write of HIF_PORT_CFG that sets one enable bit. -/
def onPortEnable (p : Path) (port : Fin 3) (s : State) : State :=
  s.hostWriteWord p 0x20000 (s.portCfgWith port.val true)

/-- QUEUE_ENABLE: a write of HIF_Q_CFG[q] with ENABLE = 1. -/
def onQueueEnable (p : Path) (q : Fin 24) (v : Word) (s : State) : State :=
  if v.toNat % 2 = 1 then s.hostWriteWord p (HIF_Q_CFG.ENABLE.addr q) v.toNat else s

/-- QUEUE_DISABLE: a write of HIF_Q_CFG[q] with ENABLE = 0. -/
def onQueueDisable (p : Path) (q : Fin 24) (v : Word) (s : State) : State :=
  if v.toNat % 2 = 0 then s.hostWriteWord p (HIF_Q_CFG.ENABLE.addr q) v.toNat else s

/-- EVENT_RING_ENABLE: a write of HIF_EV_CFG[ring] with ENABLE = 1. -/
def onEventRingEnable (p : Path) (ring : Fin 3) (v : Word) (s : State) : State :=
  if v.toNat % 2 = 1 then s.hostWriteWord p (HIF_EV_CFG.ENABLE.addr ring) v.toNat else s

/-- EVENT_RING_DISABLE: a write of HIF_EV_CFG[ring] with ENABLE = 0. -/
def onEventRingDisable (p : Path) (ring : Fin 3) (v : Word) (s : State) : State :=
  if v.toNat % 2 = 0 then s.hostWriteWord p (HIF_EV_CFG.ENABLE.addr ring) v.toNat else s

/-- SQ_DOORBELL. -/
def onSqDoorbell (p : Path) (q : Fin 24) (v : Word) (s : State) : State :=
  s.hostWriteWord p (HIF_Q_SQ_TAIL.TAIL.addr q) v.toNat

/-- CQ_HEAD_WRITE. -/
def onCqHeadWrite (p : Path) (q : Fin 24) (v : Word) (s : State) : State :=
  s.hostWriteWord p (HIF_Q_CQ_HEAD.HEAD.addr q) v.toNat

/-- EV_HEAD_WRITE. -/
def onEvHeadWrite (p : Path) (ring : Fin 3) (v : Word) (s : State) : State :=
  s.hostWriteWord p (HIF_EV_HEAD.HEAD.addr ring) v.toNat

/-- FN_RESET: a write of FNT_CTRL[n] with RST = 1. -/
def onFnReset (p : Path) (n : Fin 48) (v : Word) (s : State) : State :=
  if bits v.toNat 8 1 = 1 then s.hostWriteWord p (FNT_CTRL.RST.addr n) v.toNat else s

/-- SPAN_ENABLE_WRITE: a write of SPN_CFG[k] that leaves RETRAIN. -/
def onSpanEnableWrite (p : Path) (k : Fin 16) (v : Word) (s : State) : State :=
  if bits v.toNat 1 1 = 0 then s.hostWriteWord p (SPN_CFG.EN.addr k) v.toNat else s

/-- SPAN_RETRAIN_WRITE: a write of SPN_CFG[k] that sets RETRAIN and leaves its other fields. -/
def onSpanRetrainWrite (p : Path) (k : Fin 16) (s : State) : State :=
  s.hostWriteWord p (SPN_CFG.EN.addr k) (insertBits (s.word (SPN_CFG.EN.addr k) SPN_CFG.EN.rst).toNat 1 1 1)

/-- SPAN_INJECT: a write of SPN_INJ[k]. -/
def onSpanInject (p : Path) (k : Fin 16) (v : Word) (s : State) : State :=
  s.hostWriteWord p (SPN_INJ.VC.addr k) v.toNat

/-- LANE_INJECT_ONE: a write of LNE_INJ with ONE = 1 that leaves RATE. -/
def onLaneInjectOne (p : Path) (lane : Fin 128) (s : State) : State :=
  s.hostWriteWord p (LNE_INJ.ONE.addr lane) (1 + 2 * s.fld LNE_INJ.RATE lane)

/-- EYE_SCAN_START: a write of LNE_EYE_CTRL with START = 1. -/
def onEyeScanStart (p : Path) (lane : Fin 128) (v : Word) (s : State) : State :=
  if bits v.toNat 24 1 = 1 then s.hostWriteWord p (LNE_EYE_CTRL.START.addr lane) v.toNat else s

/-- WALL_TIME_WRITE: a write of TIM_WALL_HI whose path has staged a low half, or has not. -/
def onWallTimeWrite (p : Path) (v : Word) (s : State) : State := s.hostWriteWord p 0xE0004 v.toNat

/-- CHK_PRESET_WRITE: a write of CHK_CFG[u]. -/
def onChkPresetWrite (p : Path) (u : Fin 32) (v : Word) (s : State) : State :=
  s.hostWriteWord p (CHK_CFG.PRESET.addr u) v.toNat

/-- CHK_FEED. -/
def onChkFeed (p : Path) (u : Fin 32) (v : Word) (s : State) : State :=
  s.hostWriteWord p (CHK_FEED.DATA.addr u) v.toNat

/-- CHK_FEED1. -/
def onChkFeed1 (p : Path) (u : Fin 32) (v : Word) (s : State) : State :=
  s.hostWriteWord p (CHK_FEED1.DATA.addr u) v.toNat

/-- CHK_LOAD: a write of CHK_CTRL[u]. -/
def onChkLoad (p : Path) (u : Fin 32) (v : Word) (s : State) : State :=
  s.hostWriteWord p (CHK_CTRL.LOAD.addr u) v.toNat

/-- GPIO_SET. -/
def onGpioSet (p : Path) (v : Word) (s : State) : State := s.hostWriteWord p 0x88 v.toNat

/-- GPIO_CLR. -/
def onGpioClr (p : Path) (v : Word) (s : State) : State := s.hostWriteWord p 0x8C v.toNat

/-- GLB_RESET_WRITE. -/
def onGlbResetWrite (p : Path) (v : Word) (s : State) : State := s.hostWriteWord p 0x18 v.toNat

/-- FWU_RECOVER_GO: a write of FWU_RECOVER with GO = 1; `bad` read-backs of the flash mismatch. -/
def onFwuRecoverGo (p : Path) (v : Word) (bad : Fin 3) (s : State) : State :=
  if s.pathOpen p ∧ bits v.toNat 26 1 = 1 then
    match regAt 0x60040 with
    | some (d, _, _) => (s.writePlain d 0x60040 v.toNat).recoverGo bad
    | none => s
  else s

/-- PCIE_LINK_CHANGE: the PCIe link comes up or goes down (Table 2-3). -/
def onPcieLinkChange (up : Bool) (s : State) : State := s.setFlag HIF_PORT_CFG.PCIE_UP up

end Sys2Proof.Machine
end

