-- ==== Sys2Proof/Machine/Load.lean ====
section
/-! DEFINITION. How a bit-stream load takes effect (R76, R80 to R83, R86 to R89, R230, R268, R300, R319, R388, R422, R459),
with a frame cadence at a frame start, without one at CFG_APPLY_NO_CADENCE; the end of a tollhouse restart (R479, R520). -/

namespace Sys2Proof.Machine

/-! ### Partitions and kernels (R76, R77, R88) -/

/-- A partition reads zero. -/
def State.zeroPart (s : State) (p : Part) : State :=
  let s := s.memZero p.ext p.start p.bytes
  if p.ext then
    { s with mem := { s.mem with extBad := s.mem.extBad.filter fun l =>
        ¬ (p.start ≤ l * s.lineBytes ∧ l * s.lineBytes + s.lineBytes ≤ p.start + p.bytes) } }
  else { s with mem := { s.mem with deckBad := s.mem.deckBad.filter fun w => ¬ (p.start ≤ 8 * w ∧ 8 * w < p.start + p.bytes) } }

/-- The PART of a load takes effect: partitions that it does not keep unchanged read zero (R88). -/
def State.takeParts (s : State) (ps : List Part) : State :=
  let old := s.cfg.parts
  let s : State := { s with cfg := { s.cfg with parts := ps } }
  (ps.filter fun p => p ∉ old).foldl (fun (s : State) p => s.zeroPart p) s

/-- The kernels held after a load: a full one replaces those held, a partial adds to them (R76). -/
def State.kernelsAfter (s : State) (bs : List Byte) : List Kernel :=
  let held := if isPartial bs then s.cfg.kernels else []
  let room := match (s.partsAfter bs).find? fun p => p.kind = pkKstore with | some p => p.bytes | none => 0
  (placeKernels room bs ((sects bs).filter fun x => x.typ = 4) held).getD held

/-- The KERNEL sections are copied into KSTORE. -/
def State.takeKernels (s : State) (bs : List Byte) (ks : List Kernel) : State :=
  let s : State := { s with cfg := { s.cfg with kernels := ks } }
  match s.part pkKstore with
  | none => s
  | some p => ((sects bs).filter fun x => x.typ = 4).foldl (fun (s : State) x =>
      match ks.find? fun k => k.inst = x.inst with
      | some k => s.memPut p.ext (p.start + k.off) (x.body bs)
      | none => s) s

/-! ### Bays (R87) -/

/-- The hash of the kernel that an entry names; empty for NONE and SPARE. -/
def hashOf (ks : List Kernel) (e : BayEnt) : List Byte :=
  if e.kind = 0 ∨ e.kind = 6 then [] else ((ks.find? fun k => k.inst = e.kernel).map (·.hash)).getD []

/-- The BAYMAP of a load takes effect on bay `b`, whose entry after the load is `e`: a bay whose kind or kernel changes is
reset and reloaded. One set to NONE loads nothing and does not count among the reloaded bays of EV_CFG_APPLIED (log entry 127). -/
def State.takeBay (s : State) (ks : List Kernel) (b : Nat) (e : BayEnt) : State :=
  let h := hashOf ks e
  let same := decide (s.bayKind b = e.kind) && decide ((s.bay b).hash = h)
  let s : State := { s with cfg := { s.cfg with entries := Sparse.set s.cfg.entries b e } }
  let s := s.setBay b { s.bay b with kernel := e.kernel, hash := h }
  if same then s
  else
    let s : State := (s.setFld BAY_STATUS.KIND e.kind b).reloadBay b
    { s with cfg := { s.cfg with reload := s.cfg.reload ++ (if e.kind = 0 then [] else [b]) } }

/-- SHARE of every BAYMAP entry that applies is the initial value of its bay's share (R74). -/
def State.takeShares (s : State) (bs : List Byte) : State :=
  match sectOf bs 1 with
  | none => s
  | some x =>
    let m := x.body bs
    ((List.range 16).filter fun b => entryApplies (isPartial bs) m b).foldl (fun (s : State) b =>
      let v := leAt m (8 * b + 4) 1
      (s.setFld BAY_SHARE.SHARE v b).setBay b { s.bay b with share := v }) s

/-! ### Port bindings, bypass pairs, preloads (R79, R80, R88, R230) -/

/-- The bindings after a load. -/
def State.bindingsAfter (s : State) (bs : List Byte) : Nat → Binding :=
  if isPartial bs then s.binding
  else match sectOf bs 2 with
    | some x => bindingIn (x.body bs)
    | none => fun _ => Binding.none

/-- A port's binding takes effect: a change restarts link bring-up (R88). -/
def State.takeBinding (s : State) (k : Nat) (b : Binding) : State :=
  if s.binding k = b then s
  else
    let held := decide (s.fld SPN_STATUS.STATE k = spBypass)
    let s := if held then s else (s.leaveUp k (if b.width = 0 then 7 else 4)).toDetect k
    let s : State := { s with span := { s.span with bindings := Sparse.set s.span.bindings k b } }
    if held then s
    else if b.width = 0 ∨ ¬ s.flag SPN_CFG.EN k then (s.setSpan k spDisabled).endRetrains k 0x0901 fun _ => true
    else s.bringUp k

/-- The bypass pairs of the bindings in force, each named from its lower port. -/
def State.boundPairs (s : State) : List (Nat × Nat) :=
  ((List.range 16).filterMap fun k =>
    let b := s.binding k
    if b.width ≠ 0 ∧ b.bypassEn then some (min k b.peer, max k b.peer) else none).eraseDups

/-- The bypass monitor latches the pairs. -/
def State.latchPairs (s : State) : State :=
  let ps := s.boundPairs
  { s.setFlag PWR_RELAY.LATCHED (ps ≠ []) with span := { s.span with pairs := ps } }

/-- One preload entry: a route, PINNED, on the lowest port of its mask, or the ports of a group. A node entry with no port in its
mask leaves the route as it is (log entry 127). -/
def State.takePreload (s : State) (key mask : Nat) : State :=
  if key / 2 ^ 15 = 0 then
    let a := key % 4096
    match portsWhere 16 fun k => decide (bits mask k 1 = 1) with
    | [] => s
    | k :: more =>
      let w : Nat := k + 16 + 32 + (match more with | j :: _ => j * 256 + 4096 | [] => 0)
      s.setWord (VIA_ROUTE.PORT.addr a) (BitVec.ofNat 32 w)
  else s.setFld VIA_GROUP.PORTS mask (key % 256)

/-- The preload entries of ROUTE. -/
def State.takePreloads (s : State) (bs : List Byte) : State :=
  match sectOf bs 2 with
  | none => s
  | some x =>
    let m := x.body bs
    (List.range (leAt m 128 4)).foldl (fun (s : State) i =>
      s.takePreload (leAt m (136 + 8 * i) 2) (leAt m (138 + 8 * i) 2)) s

/-! ### PARAM (R81) -/

/-- The entries of the PARAM section of a container. -/
def paramEntries (bs : List Byte) : List (Nat × Nat) :=
  match sectOf bs 5 with
  | some x => paramsIn (x.body bs)
  | none => []

/-- The PARAM entries as register writes in list order; the half of a pair written first waits for its other half (R6). -/
def State.writeParams : List (Nat × Nat) → Sparse Nat → State → State
  | [], _, s => s
  | (a, v) :: ps, low, s =>
    match regAt a with
    | none => State.writeParams ps low s
    | some (d, i, hi) =>
      if ! d.pair then State.writeParams ps low (s.writeReg 0 d i a v)
      else if hi then
        State.writeParams ps (Sparse.erase low (a - 4))
          (s.writePair d i (a - 4) ((Sparse.find low (a - 4)).getD (s.regWord (a - 4)) + 2 ^ 32 * v))
      else State.writeParams ps (Sparse.set low a v) s

/-- The PARAM entries of a container that the close which takes the load samples: those of FN_THERM, of the cadence, of FN_COR
and of FN_STR (R81, R371). -/
def sampledParams (bs : List Byte) : List (Nat × Nat) :=
  (paramEntries bs).filter fun p => decide (0x50000 ≤ p.1 ∧ p.1 < 0x60000) || decide (0xE0100 ≤ p.1 ∧ p.1 < 0xE0140) ||
    decide (0x1C0000 ≤ p.1 ∧ p.1 < 0x240000)

/-! ### LAMPMAP (R82, R319, R388) -/

/-- Lamps that the new map does not drive keep REMOVED alone, so that one that leaves NONE starts UNVERIFIED (R388). -/
def State.dropNone (s : State) : State :=
  s.dia.lamps.foldl (fun (s : State) p =>
    if s.diagnosed p.1 then s
    else
      let b : Nat := p.2 / 8 % 2 * 8
      if lampFaulty (p.2 % 8) then s.putLamp p.1 b else { s with dia := { s.dia with lamps := Sparse.put 0 s.dia.lamps p.1 b } }) s

/-- Image `j` of a LAMPMAP: copied from the lamp calibration store, or awaited from the host. -/
def State.takeImage (s : State) (m : List Byte) (j : Nat) : State :=
  let s := (s.discardPatches j).setFlag (imageOkFld j) false
  if leAt m 0 1 = 1 then s
  else (s.deckWrite (s.imageAt j) (s.calImage m j) fixedClass).completeImage j

/-- A LAMPMAP section takes effect. -/
def State.takeLampMap (s : State) (bs : List Byte) : State :=
  match sectOf bs 6 with
  | none => s
  | some x =>
    let m := x.body bs
    let s := s.setFld COR_LAMPS.COUNT (lampCount m)
    let s := [0, 1, 2].foldl (fun (s : State) j => s.takeImage m j) s
    State.dropNone { s with cor := { s.cor with recount := true } }

/-- The REMOVED bits of the settings of the active slot (R386). -/
def State.savedRemoved (s : State) : List Nat :=
  if s.isPeer ∨ s.fld FWU_STATUS.ACTIVE = 0 then []
  else match s.settingsAt (s.fld FWU_STATUS.ACTIVE - 1) with
    | some (_, a) => removedOf (s.flashRead (a + 4096) 131072)
    | none => []

/-! ### The load (R87) -/

/-- The partition of the lamp table: the WORK partition of the lowest COR bay, with that bay. -/
def State.tablePart (s : State) : Option (Nat × Option Part) := s.lampBay.map fun b => (b, s.workOf b)

/-- What a CMP bay stands for in R300: its kind and its WORK partition. -/
def State.cmpBays (s : State) : List (Nat × Option Part) := (s.baysOf 3).map fun b => (b, s.workOf b)

/-- The frame synchroniser's partition is lost: every source frame with it. -/
def State.fsyncChanged (s : State) : State :=
  { s with ing := { s.ing with
    sources := s.ing.sources.map fun p => (p.1, { p.2 with frames := [] })
    layers := s.ing.layers.map fun p => (p.1, { p.2 with frame := none }) } }

/-- What the header of the load puts into CFG_STATUS, CFG_ID, CFG_HASH and CFG_SVN. -/
def State.takeHeader (s : State) (bs : List Byte) : State :=
  let s := ((s.setFlag CFG_STATUS.IN_FORCE true).setFld CFG_STATUS.ROLE (roleOf bs)).setFld CFG_STATUS.STAGE sgApplying
  let s := (s.setPair CFG_ID.BUILD_ID (leAt bs 24 8)).setFld CFG_SVN.CUR (leAt bs 10 1)
  let h := structHash bs
  (List.range 12).foldl (fun (s : State) k => s.setFld CFG_HASH.HASH (beNat (bytesAt h (4 * k) 4)) k) s

/-- The staged bit-stream takes effect (R87). -/
def State.takeStream (s : State) : State :=
  let bs := s.staged
  let first := ! s.flag CFG_STATUS.IN_FORCE
  let partsOf' (s : State) (k : Nat) : List Part := s.partsOf k
  let was := s
  let ks := s.kernelsAfter bs
  let ents := match sectOf bs 1 with
    | some x => (List.range 16).map fun b => s.entryAfter bs (x.body bs) b
    | none => (List.range 16).map fun b => Sparse.get ⟨0, 0xFFFF⟩ s.cfg.entries b
  let bnd := s.bindingsAfter bs
  let s := s.takeHeader bs
  let s : State := { s with cfg := { s.cfg with
    taken := false, startAt := none, reload := [],
    at' := if s.cadence then s.pair TIM_START.START else s.now } }
  let s := (s.takeParts (was.partsAfter bs)).takeKernels bs ks
  let s := ents.zipIdx.foldl (fun (s : State) e => s.takeBay ks e.2 e.1) s
  let s := s.takeShares bs
  let s := (List.range 16).foldl (fun (s : State) k => s.takeBinding k (bnd k)) s
  let s := (s.latchPairs.takePreloads bs).takeLampMap bs
  let s := State.writeParams (paramEntries bs) [] s
  let s := if s.partsOf pkRef = partsOf' was pkRef then s else s.refChanged
  let s := if s.partsOf pkLayer = partsOf' was pkLayer then s else s.layerChanged
  let s := if s.cmpBays = was.cmpBays then s else s.cmpChanged
  let s := if s.partsOf pkFsync = partsOf' was pkFsync then s else s.fsyncChanged
  let s := if s.partsOf 7 = partsOf' was 7 then s else s.clearAudits
  let s := if s.tablePart = was.tablePart then s else s.rebuildLamps s.savedRemoved
  let s : State := (if first then { s.setFlag PWR_SAFE.SHOWN false with pwr := { s.pwr with safe := false } } else s)
  s.usePresent.endApply

/-- A pending load takes effect, but for one of another role while the device is not in P2 Dark: its APPLY completes ST_CFG_ROLE
and STAGE is VERIFIED (R89). -/
def State.applyLoad (s : State) : State :=
  if s.roleBlocked then
    let cmd := s.cfg.apply.bind fun p => s.cmdAt p.1 p.2 0x0204
    let s : State := { s.setFld CFG_STATUS.STAGE sgVerified with
      cfg := { s.cfg with apply := none, startAt := none, taken := false } }
    match cmd with
    | some c => s.cfgFinish c 0x0212
    | none => s.cfgErr 0x0212
  else s.takeStream

/-- Whether a pending load may be taken: its time has passed and, in ASSIST, the host said GO (R86, R92). -/
def State.loadDue (s : State) (go : Bool) : Bool :=
  decide (s.stage = sgPending) && (match s.cfg.startAt with | some t => decide (t ≤ s.now) | none => true) && go

/-- CFG_APPLY_NO_CADENCE: with no frame cadence a pending load takes effect once its time has passed (R86), unless an abort was
accepted before (R93, log entry 129). -/
def onCfgApplyNoCadence (s : State) : State :=
  if s.cadence ∨ s.restarting ∨ ! s.loadDue true then s
  else
    let s := s.stopAll [0x0204]
    if s.loadDue true then s.applyLoad else s

/-! ### The end of a tollhouse restart (R520) -/

/-- The records held for a port are written: completions, events with the times at which they were raised, and
EV_EVENT_LOST for those beyond the first 256. -/
def State.writeHeld (s : State) (p : Nat) : State :=
  let mine := s.host.heldDone.filter fun c => queuePort c.q = p
  let s : State := { s with host := { s.host with heldDone := s.host.heldDone.filter fun c => queuePort c.q ≠ p } }
  let s := mine.foldl (fun (s : State) c => (s.postNow c).drained c.q) s
  let r := s.ring p
  let s := s.setRing p { r with held := [], excess := 0 }
  let on := s.portOn p && s.flag HIF_EV_CFG.ENABLE p
  let s := if on then r.held.foldl (fun (s : State) e => s.deliverEvent p e) s else s
  if r.excess = 0 ∨ ! on then s
  else
    let s := if (s.ring p).losing then s else s.putEvent p ⟨0x0004, s.now, []⟩
    s.setRing p { s.ring p with seq := (s.ring p).seq + r.excess }

/-- The firmware that has started applies its own bit-stream where it is not the one in force (R479): staged, verified, and
in HW mode left pending; one of another role stays VERIFIED. -/
def State.takeOwnStream (s : State) : State :=
  let i := s.fld FWU_STATUS.ACTIVE - 1
  if s.fld FWU_STATUS.ACTIVE = 0 ∨ (s.cfg.auto ∧ ! s.flag CFG_STATUS.IN_FORCE) ∨ s.stageBusy then s
  else if structHash (s.slotStream i) = s.hashInForce ∨ (s.slotStream i).length = 0 then s
  else
    let r := s.stageSlot i
    if r.2 ≠ stOk then r.1.rejectStage r.2
    else
      let v := r.1.runVerify
      if v.2.1 ≠ stOk then v.1.cfgErr v.2.1
      else if v.1.assist 1 ∨ v.1.roleBlocked then v.1
      else
        let s := v.1.setFld CFG_STATUS.STAGE sgPending
        { s with cfg := { s.cfg with apply := none, startAt := none, taken := false } }

/-- TOLLHOUSE_RESTART_END: the tollhouse runs; held records are written, port by port (R520). -/
def onTollhouseRestartEnd (s : State) : State :=
  if ! s.restarting ∨ ! s.fwu.started then s
  else
    let s : State := { s with fnt := { s.fnt with restarting := false } }
    State.takeOwnStream (State.viaResume ([0, 1, 2].foldl (fun (s : State) p => s.writeHeld p) s))

end Sys2Proof.Machine
end

