-- ==== Sys2Proof/Machine/Cadence.lean ====
section
/-! DEFINITION. The frame cadence of a device (spec/13_scanout.md): the close of a commit window, frame starts with the
outcomes of Table 13-2, provisional starts, and the start of the cadence (R353 to R373, R462); repairs of the ledgers (R420,
R421). -/

namespace Sys2Proof.Machine

/-- The lead of a close over its frame start: 38,400 ticks (R359). -/
def commitLead : Nat := 38400

/-- The plane engine runs: a pier, or a device that shows a safe image with no bit-stream in force (R363, R459). -/
def State.scans (s : State) : Bool := s.isPier || ! s.flag CFG_STATUS.IN_FORCE

/-! ### The close of a commit window (R359, R360, R370) -/

/-- Period limits that keep R354. -/
def periodsOk (lo nom hi : Nat) : Bool := decide (lo ≤ nom) && decide (nom ≤ hi) && decide (hi < 2 * lo)

/-- The first of reasons 0x3 and 0x6 of Table 12-2 that T_MIN breaks under a timing set; 0 for none. -/
def HardSet.checkMin (h : HardSet) (tMin : Nat) : Nat :=
  let n : Nat := h.refreshes tMin
  if n = 0 ∨ n % h.g ≠ 0 then 3
  else if (h.fansIn 2).any fun f => !h.writeFits tMin (h.cols f) then 6
  else 0

/-- The close looks at the period limits once after each write: they are taken for the next frame start, or refused (R370). -/
def State.closePeriods (s : State) : State :=
  let t := (s.fld TIM_T_MIN.T_MIN, s.fld TIM_T_NOM.T_NOM, s.fld TIM_T_MAX.T_MAX)
  if t = s.cad.seen then s
  else
    let s : State := { s with cad := { s.cad with seen := t, soft := none } }
    let h := s.str.next.getD s.str.hard
    let e := if ! periodsOk t.1 t.2.1 t.2.2 then 3 else if s.fnState 14 = fnAbsent then 0 else h.checkMin t.1
    if e = 0 then { s with cad := { s.cad with soft := some t } } else s.timingError e

/-- The close takes the cadence settings for the next decision. -/
def State.closeCadence (s : State) : State :=
  { s with cad := { s.cad with
    set' := (s.fld TIM_CAD_CFG.MODE, s.fld TIM_CAD_LEAD.LEAD, s.fld TIM_CAD_OFFSET.OFFSET) } }

/-- Step 1 of R360: MODE_REQ of every function is sampled (R36). -/
def State.sampleModes (s : State) : State :=
  { s with fnt := { s.fnt with sampled := (List.range 48).map fun n => (n, s.flag FNT_CTRL.MODE_REQ n) } }

/-- Step 2: a pending load is taken for the frame, in ASSIST with the GO decision of that frame (R86, R92). -/
def State.sampleLoad (s : State) (frame : Nat) : State :=
  if s.assistNext 1 then
    match s.useDecision 1 (periodOf frame) with
    | (d, s) => { s with cfg := { s.cfg with
        taken := ! s.restarting && s.loadDue ((d.map fun bs => leAt bs 0 1) = some 1) } }
  else { s with cfg := { s.cfg with taken := ! s.restarting && s.loadDue true } }

/-- Step 3: the hard set, the period limits and the soft settings. -/
def State.sampleSettings (s : State) (frame : Nat) : State :=
  let s := if s.fnState 14 = fnAbsent then s else s.closeHard s.cad.tMin
  (((s.closePeriods.closeCadence).closeSoftStr frame).closeCor).closeTherm

/-- A register word as it stands in another state. -/
def State.restoreWord (s t : State) (a : Nat) : State :=
  { s with regs := match Sparse.find t.regs a with
    | some w => Sparse.set s.regs a w
    | none => Sparse.erase s.regs a }

/-- Step 3 under a load that has been taken: its PARAM counts as written, and is written at the frame start (R81, R371). -/
def State.sampleUnder (s : State) (frame : Nat) : State :=
  if s.cfg.taken then
    let ps := sampledParams s.staged
    let t := (State.writeParams ps [] s).sampleSettings frame
    ps.foldl (fun (u : State) p => u.restoreWord s p.1) t
  else s.sampleSettings frame

/-- The commit window of the scheduled frame closes (R360). An abort of the load's APPLY that was accepted before its sampling
stops it (R93). -/
def State.closeWindow (s : State) : State :=
  match s.cad.next with
  | none => s
  | some x =>
    if x.closed then s
    else
      let s := s.sampleModes
      let s : State := { s with fnt := { s.fnt with missed := s.fnt.missed ++ s.missedAt x.num } }
      let s := ((s.stopAll [0x0204]).sampleLoad x.num).sampleUnder x.num
      let s := (if s.isPier then s.readyPoint x.num else s).closeDia x.num
      { s with cad := { s.cad with next := some { x with closed := true } } }

/-- COMMIT_WINDOW_CLOSE: the commit window of the next frame closes 64 µs before its start (R359, R360). -/
def onCommitWindowClose (s : State) : State :=
  match s.cad.next with
  | some x => if s.cadence ∧ x.start ≤ s.now + commitLead then s.closeWindow else s
  | none => s

/-! ### Counting and reporting outcomes (Table 13-2, R416) -/

/-- A row that raises EV_TIM_FRAME does so once per episode of its kind. -/
def State.frameEvent (s : State) (kind frame : Nat) : State :=
  if kind ∈ s.cad.episodes then s
  else State.raise { s with cad := { s.cad with episodes := kind :: s.cad.episodes } } 0x0B05 [(16, 1, kind), (24, 8, frame)]

/-- A confirmed row ends the episodes. -/
def State.frameShown (s : State) : State := { s with cad := { s.cad with episodes := [] } }

/-- A 64-bit counter rises by one. -/
def State.bumpPair (s : State) (p : PairReg) : State := s.setPair p ((s.pair p + 1) % 2 ^ 64)

/-- The token of an accepted closure is settled: a frame is presented in its place, or none (R416). -/
def State.settle (s : State) (presented : Bool) : State :=
  let s := s.setFlag LDG_FRAME_STATE.PENDING false
  if presented then
    let s := if s.pair LDG_PRESENTED.PRESENTED = 0 then s else s.bumpPair LDG_RETIRED.RETIRED
    s.bumpPair LDG_PRESENTED.PRESENTED
  else s.bumpPair LDG_UNSHOWN.UNSHOWN

/-- What becomes of the back buffer at a frame start. -/
inductive BackUse where
  /-- Composition of the next frame begins. -/
  | begin
  /-- The buffer serves the next frame (R365). -/
  | retarget
  /-- The buffer goes on serving its frame. -/
  | keep
deriving DecidableEq, Repr

/-- The back buffer is swapped in; LDG_BACK_SWAP would count one that is not confirmed (R416). -/
def State.swapChecked (s : State) (frame : Option Nat) : State :=
  let s := if s.backConfirmed then s else s.bump LDG_BACK_SWAP.SWAP_UNCONF
  s.swapBack frame

/-- The row of Table 13-2 that frame start `x` takes on a device whose plane engine runs, and what becomes of the back buffer;
`prev` is the frame before, `trans` a hard transition. -/
def State.outcome (s : State) (x : Sched) (prev : Nat) (trans : Bool) : State × BackUse :=
  let n := x.num
  let t := s.cad.target
  let settle (s : State) (shown : Bool) : State := if x.prov then s else s.settle shown
  if trans then
    let s := settle ((s.bump TIM_CNT_DARK.COUNT).frameEvent 0 n) false
    if s.backConfirmed then (s.swapChecked none, .begin)
    else if t < n then (s.frameEvent 4 t, .retarget) else (s, .keep)
  else if s.restarting then (settle ((s.bump TIM_CNT_REPEAT.COUNT).frameEvent 0 n) false, .keep)
  else if x.prov then ((s.bump TIM_CNT_REPEAT.COUNT).frameEvent 2 n, .retarget)
  else if ! x.ok then (settle ((s.bump TIM_CNT_REPEAT.COUNT).frameEvent 0 n) false, .retarget)
  else if s.backConfirmed ∧ t = n then (settle ((s.bump TIM_CNT_PRES.COUNT).frameShown.swapChecked (some n)) true, .begin)
  else if s.backConfirmed ∧ s.cad.late ∧ t = prev then
    (settle (((s.bump TIM_CNT_PRES.COUNT).bump TIM_CNT_DROP.COUNT).frameShown.swapChecked (some t)) true, .begin)
  else
    let s := settle ((s.bump TIM_CNT_REPEAT.COUNT).frameEvent 0 n) false
    if t < n then (s.frameEvent 4 t, .retarget) else (s, .keep)

/-! ### Repairs of the ledgers (R420, R421) -/

/-- The VC1 slots of a port held beyond their limit are freed, their copies not yet sent dropped. -/
def State.freeExpired (s : State) (k : Nat) : State :=
  let old := (s.port k).slots.filter fun r => decide (r.vc = 1) && decide (r.since + s.stallTicks k + 2 * us < s.clock)
  let gone (i : TxItem) : Bool := old.any fun r => i.slot = some (k, r.id)
  let s := (List.range 16).foldl (fun (s : State) j =>
    let y := s.port j
    let n : Nat := y.tx1.queue.countP gone
    if n = 0 then s
    else (s.setPort j { y with tx1 := { y.tx1 with queue := y.tx1.queue.filter fun i => ! gone i } }).bump SPN_VC1_DROP.COUNT j n) s
  let y := s.port k
  s.setPort k { y with
    slots := y.slots.filter fun r => r ∉ old
    rx1 := { y.rx1 with freed := (y.rx1.freed + old.length) % 4096 }
    linkDue := y.linkDue || decide (old ≠ []) }

/-- The repair of one failed instance (Table 16-2). -/
def State.repairOne (s : State) (q inst frame : Nat) : State :=
  let s := match q with
    | 0 => s.retrain (inst / 16) 4
    | 1 => if inst % 16 = 1 then s.freeExpired (inst / 16) else s.retrain (inst / 16) 4
    | 4 => s.freeCtxs s.ctxBad
    | _ => s.startReset 12
  (s.bump LDG_FAIL.REPAIRS q).raise 0x1302 [(16, 1, q), (18, 2, inst), (24, 8, frame)]

/-- The repairs at a frame start: in HW mode those of LDG_CFG.REPAIR, in ASSIST those that the frame's decision names. -/
def State.repairFrame (s : State) (frame : Nat) : State :=
  let (d, s) : Option (List Byte) × State := if s.assist 18 then s.useDecision 18 (periodOf frame) else (none, s)
  let mask : Nat := if s.assist 18 then (d.map fun bs => leAt bs 0 1).getD 0 else if s.flag LDG_CFG.REPAIR then 0x33 else 0
  let todo := s.ldg.failed.filter fun p => p.1 ∈ [0, 1, 4, 5] && bits mask p.1 1 = 1
  let s := todo.foldl (fun (s : State) p => s.repairOne p.1 p.2 frame) s
  { s with ldg := { s.ldg with failed := s.ldg.failed.filter fun p => p ∉ todo } }

/-! ### A frame start (R363 to R371) -/

/-- Modes sampled at the close take effect (R36). -/
def State.takeModes (s : State) : State :=
  let ms := s.fnt.sampled
  let s := ms.foldl (fun (s : State) m => if s.assist m.1 = m.2 then s.markMode m.1 else s.takeMode m.1 m.2) s
  { s with fnt := { s.fnt with sampled := [] } }

/-- A frame start before the last refresh of the frame in progress has ended aborts it (R368). -/
def State.endEarly (s : State) : State :=
  if s.cadence ∧ s.scans ∧ ! s.str.off ∧ ! s.str.trans ∧ s.now < s.frameAt + s.nRef * s.str.hard.tref then s.abortFrame 1 else s

/-- The raster begins anew (R369): refresh 0, slot 0, nothing counted. -/
def State.restartRaster (s : State) : State :=
  { s with cad := { s.cad with refresh := 0, slot := 0, under := 0, underNow := false, underEv := false, aborted := false }
           pwr := { s.pwr with blanked := false } }

/-- The frame that starts is the one in progress; its period limits take effect (R370, R372). -/
def State.enterFrame (s : State) (x : Sched) : State :=
  let s : State := (match s.cad.soft with
    | some t => { s with cad := { s.cad with tMin := t.1, tNom := t.2.1, tMax := t.2.2, soft := none } }
    | none => s)
  (s.setPair TIM_FRAME.FRAME x.num).setPair TIM_START.START x.start

/-- A load that the close took takes effect (R87); what it writes through PARAM was sampled with it. -/
def State.takeLoad (s : State) : State :=
  if s.cfg.taken then
    let pend := s.flag STR_STATUS.HARD_PEND
    s.applyLoad.setFlag STR_STATUS.HARD_PEND pend
  else s

/-- The strands at a frame start: the accepted hard set with its transition frame, or the first light of a safe image; drive,
phases, currents (R330, R338, R341, R371, R450, R459, R462). -/
def State.startStrands (s : State) (frame : Nat) (bad : List Nat) : State :=
  let s := s.thermResume.brownResume frame
  let s := s.applyStr s.cad.tMin
  let s := if s.flag STR_STATUS.HARD_PEND then s.hardMark else s
  let s := if s.str.trans ∧ ! s.str.off then s.configSinks bad else s
  let s : State := (if s.pwr.safe ∧ s.str.trims = [] ∧ s.str.trim.isNone then
      State.raise { s.setFlag PWR_SAFE.SHOWN true with pwr := { s.pwr with safe := false } } 0x1905
        [(16, 1, s.fld PWR_SAFE.INDEX), (17, 1, 0)]
    else s)
  let s := if s.flag PWR_BROWN.ACTIVE then s else s.startTrim
  (if s.str.off then s else s.syncFans).showStr

/-- The rate of the host's decision for the frame (R239). -/
def State.rateFrame (s : State) (frame : Nat) : State :=
  if ! s.assist 10 then s
  else match s.useDecision 10 (periodOf frame) with
    | (some bs, s) => if s.lock = tmRoot ∨ s.lock = tmFree ∨ s.flag TIM_STATUS.PARENT_FT then s else s.setFld TIM_RATE.RATE (leAt bs 0 4)
    | (none, s) => s

/-- The spans at a frame start (R204, R206). -/
def State.spanFrame (s : State) (frame : Nat) : State :=
  let (d, s) : Option (List Byte) × State := if s.assist 8 then s.useDecision 8 (periodOf frame) else (none, s)
  (List.range 16).foldl (fun (s : State) k => s.degradedFrame ((d.map fun bs => leAt bs 0 2).getD 0) k) s

/-- Refresh requests at a frame start: those of the frame's decision, and the repeats of HW mode (R265). -/
def State.refreshFrame (s : State) (frame : Nat) : State :=
  if s.assist 11 then
    match s.useDecision 11 (periodOf frame) with
    | (some bs, s) => s.decideRefresh bs
    | (none, s) => s
  else s.repeatRequests

/-- Composition of frame `f` begins: its correction values are fixed (R313, R343). -/
def State.beginFrame (s : State) (f : Nat) : State :=
  let s := s.computeDerate f
  State.fixCorrection { s with cad := { s.cad with target := f, late := false } } f s.removedLamps ((List.range 16).map s.derate)

/-- What becomes of the back buffer (R364, R365). A pier that has fixed no values yet begins. -/
def State.useBack (s : State) (n : Nat) (u : BackUse) : State :=
  if ! s.isPier then
    (if ! s.flag CFG_STATUS.IN_FORCE then s.computeDerate (n + 1) else s)
  else if u = .begin ∨ s.cor.kf = [] then s.beginFrame (n + 1)
  else
    let s := if s.restarting then s.computeDerate (n + 1) else s
    if u = .retarget then
      let s := s.retargetBack
      { s with cad := { s.cad with target := n + 1, late := false } }
    else { s with cad := { s.cad with late := decide (s.cad.target ≤ n) } }

/-- Decisions whose frame has started are over: those of FN_COR and FN_THERM are for the frame after it. -/
def State.dropDecisions (s : State) (n : Nat) : State :=
  { s with fnt := { s.fnt with decisions := s.fnt.decisions.filter fun d =>
      d.fn = 4 || d.fn = 7 || decide (0 < ahead d.period (if d.fn = 13 ∨ d.fn = 22 then n + 1 else n)) } }

/-- The provisional start at S + T_MAX is scheduled for the frame after `x` (R366). -/
def State.scheduleProvisional (s : State) (x : Sched) : State :=
  let t := x.start + s.cad.tMax
  let s : State := { s with cad := { s.cad with next := some ⟨x.num + 1, t, 0, false, false, true⟩ } }
  (s.setPair TIM_NEXT.NEXT t).setFld TIM_CAD_STATUS.STATE (if x.prov then 2 else 0)

/-- The rest of a frame start that pixels do not pass through: bays, ingest and encoder, spans, leases, memories, ledgers,
requests, power. -/
def State.restOfFrame (s : State) (n : Nat) : State :=
  let s := (((s.rateFrame n).bayFrame).memFrame n).deckFrame n
  let s := if s.role = 0 ∧ s.flag CFG_STATUS.IN_FORCE then (s.endClips.ingFrame n).encFrame n else s
  let s := ((s.refreshFrame n).spanFrame n).redFrame n
  ((s.repairFrame n).ldgFrame).powerDue

/-- A frame starts (R363). `bad`: the strands whose read-back mismatches in a transition frame. -/
def State.startFrame (s : State) (x : Sched) (bad : List Nat) : State :=
  let prev := s.frame
  let n := x.num
  let s := (s.stopAll frameStops).closeWindow.takeModes.endRefresh.endEarly
  let s := (s.enterFrame x).restartRaster
  let s : State := { s with cad := { s.cad with running := true } }
  let s := s.activateDue.strandFrame
  let trans := s.str.next.isSome
  let (s, u) : State × BackUse := if s.scans then s.outcome x prev trans
    else (if x.prov then s else s.settle false, .keep)
  let s := match s.cmp.need with | some need => s.freeClosing need | none => s
  let s := s.takeLoad.applyPatches
  let s := (s.startStrands n bad).countBlank
  let s := if s.scans then s.diaFrame n trans else s
  let s := if s.isPier then
      s.recountOutside (s.genInForce.map fun g => (pierW g.loc, pierH g.loc)) ((s.genInForce.map (·.num)).getD 0) else s
  let s := (s.useBack n u).scheduleProvisional x
  let s : State := { s with red := { s.red with closures := s.red.closures.filter fun c => n < c.frame } }
  ((s.restOfFrame n).dropDecisions n).showConfirmed

/-- FRAME_START: the scheduled frame of an accepted closure starts once wall time is at least its S (R241, R363). -/
def onFrameStart (bad : List Nat) (s : State) : State :=
  match s.cad.next with
  | some x => if s.cadence ∧ ! x.prov ∧ x.start ≤ s.now then s.startFrame x bad else s
  | none => s

/-- PROVISIONAL_START: no closure of the next frame has been accepted by S_prev + T_MAX (R366). Closures held of which no two
agreed count in NOQUORUM (R429). -/
def onProvisionalStart (bad : List Nat) (s : State) : State :=
  match s.cad.next with
  | some x =>
    if s.cadence ∧ x.prov ∧ x.start ≤ s.now then
      let s := if s.red.closures.any fun c => c.frame = x.num then
          (s.bump RED_VOTE_CNT.NOQUORUM).raise 0x1402 [(24, 8, x.num)] else s
      s.startFrame x bad
    else s
  | none => s

/-- CADENCE_START: 1 ms after the firmware has prepared the safe image it makes the first frame start, a transition frame, and
from it trims every fan, one per frame (R355, R462). -/
def onCadenceStart (bad : List Nat) (s : State) : State :=
  if s.cadence ∨ s.restarting ∨ s.flag FWU_STATUS.RECOVERY ∨ ! s.flag GLB_CLK.ROOT_LOCK ∨ s.clock < s.fwu.since + ms ∨
    3 ≤ s.fld PWR_STATE.STATE then s
  else
    let x : Sched := ⟨s.firstFrame, s.now, 0, false, false, true⟩
    let s : State := { s with cad := { s.cad with next := some x }, str := { s.str with trims := List.range 16 } }
    let s := s.closeWindow
    let s := if s.str.next.isSome then s else s.takeHard s.str.hard
    match s.cad.next with
    | some x => s.startFrame x bad
    | none => s

end Sys2Proof.Machine
end

