-- ==== Sys2Proof/Machine/Remote.lean ====
section
/-! DEFINITION. The remote port and the end-to-end rule at the originator (R44, R216, R217): register reads and writes of other
nodes, responses, timeouts. -/

namespace Sys2Proof.Machine

/-! ### Register reads and writes of a remote host (R44, R217) -/

/-- The entry of HIF_REMOTE_NODE that permits a node. -/
def State.remoteEntry (s : State) (node : Nat) : Option (Fin 4) :=
  if node = 0 then none
  else if s.fld HIF_REMOTE_NODE.NODE 0 = node then some 0
  else if s.fld HIF_REMOTE_NODE.NODE 1 = node then some 1
  else if s.fld HIF_REMOTE_NODE.NODE 2 = node then some 2
  else if s.fld HIF_REMOTE_NODE.NODE 3 = node then some 3
  else none

/-- A request that is dropped has not been accepted: its MSG_SEQ is not held (R216). -/
def State.dropRequest (s : State) (m : Msg) : State :=
  { s with via := { s.via with sources := s.via.sources.map fun c =>
    if c.src = m.src ∧ c.vc = m.vc then { c with seqs := c.seqs.filter fun e => e.1 ≠ m.seq } else c } }

/-- A request of a node that is not listed: dropped, EV_REMOTE_REFUSED once for the node (R44). -/
def State.refuseNode (s : State) (m : Msg) : State :=
  let s := s.dropRequest m
  if m.src ∈ s.host.refusedNodes then s
  else State.raise { s with host := { s.host with refusedNodes := m.src :: s.host.refusedNodes } } 0x0008 [(16, 2, m.src)]

/-- REG_READ: COUNT registers from the address in ARG, read through the source's path, answered in fabric order. -/
def onRegRead (s : State) : State :=
  match s.takeMsg 0x07 with
  | none => s
  | some (_, m, s) =>
    match s.remoteEntry m.src with
    | none => s.refuseNode m
    | some e =>
      let n := beAt m.payload 0 1
      if ¬ s.portOn 2 ∨ m.payload.length ≠ 1 ∨ n = 0 ∨ 64 < n then s.dropRequest m
      else
        let (bs, s) := State.readWords nextWord (.remote e) 0 (4 * m.arg) n s
        s.respond m (swapWords n bs)

/-- Write words of a payload in ascending order; a write that resets the device ends the request. -/
def State.remoteWords (p : Path) (a : Nat) : List Nat → State → State
  | [], s => s
  | w :: ws, s => if s.awake then State.remoteWords p (a + 4) ws (s.hostWriteWord p a w) else s

/-- REG_WRITE: 1 to 64 registers from the address in ARG, written through the source's path, answered empty. A disabled port
takes only a write of HIF_PORT_CFG (Table 2-3). -/
def onRegWrite (s : State) : State :=
  match s.takeMsg 0x08 with
  | none => s
  | some (_, m, s) =>
    match s.remoteEntry m.src with
    | none => s.refuseNode m
    | some e =>
      let n := m.payload.length / 4
      let cfg : Bool := decide (4 * m.arg ≤ 0x20000) && decide (0x20000 < 4 * (m.arg + n))
      if ¬ (s.portOn 2 || cfg) ∨ m.payload.length % 4 ≠ 0 ∨ n = 0 ∨ 64 < n then s.dropRequest m
      else
        let s := State.remoteWords (.remote e) (4 * m.arg) (routeEntries n m.payload) s
        if s.awake then s.respond m [0] else s

/-! ### The originator (R216) -/

/-- The firmware messages that are answered (R475). -/
def fwType (typ : Nat) : Bool := typ ∈ [0x10, 0x11, 0x12]

/-- The port on which an image is offered to a neighbour: the one that its answer came on, or one that leads to it. -/
def State.offerPort (s : State) (k node : Nat) : Nat :=
  let fits (j : Nat) : Bool := decide (s.fld SPN_STATUS.PEER j = node) && (Sparse.find s.fwu.offers j).isSome
  if fits k then k else ((List.range 16).find? fits).getD k

/-- What a response does for the message that it answers: a command completes, a firmware transfer goes on. -/
def State.answeredBy (s : State) (k : Nat) (p : Pending) (m : Msg) : State :=
  let s : State := match p.cmd with
    | some (q, id) =>
      (match s.host.cmds.find? fun c => c.q = q ∧ c.id = id ∧ c.phase = .running with
       | some c =>
         (if m.typ = 0x07 then s.portWrite (queuePort q) c.payAddr (swapWords (m.payload.length / 4) m.payload) else s).finish c stOk
       | none => s)
    | none => s
  if m.typ = 0x10 then s.offerAnswer (s.offerPort k m.src) m.payload
  else if m.typ = 0x11 then s.chunkAnswer (s.offerPort k m.src) p.msg.payload m.payload
  else if m.typ = 0x12 then s.endAnswer (s.offerPort k m.src) m.payload
  else s

/-- MESSAGE_RESPONSE: the first response delivered ends the tracking of the message that it answers. -/
def onMessageResponse (s : State) : State :=
  if s.restarting then s else
  match s.via.inbox.find? fun e => e.2.resp with
  | none => s
  | some (k, m) =>
    let s : State := { s with via := { s.via with inbox := s.via.inbox.erase (k, m) } }
    match s.via.pend.find? fun p =>
      p.msg.dst = m.src ∧ p.msg.vc = m.vc ∧ p.msg.seq = m.seq ∧ p.msg.typ = m.typ ∧ p.sent ≠ none with
    | none => s
    | some p =>
      let s : State := { s with via := { s.via with pend := s.via.pend.erase p } }
      ((s.answeredBy k p m).nextPending p.msg.dst p.msg.vc).discoverDone

/-- E2E_TIMEOUT: a message that has waited E2E_TO is sent again; after three resends it is given up, and with it an offer whose
message it was. -/
def onE2eTimeout (s : State) : State :=
  if s.restarting then s else
  match s.overdue with
  | none => s
  | some p =>
    if p.tries < 3 then
      let s := s.bump VIA_CNT_E2E.RETRY
      State.relaunch { s with via := { s.via with pend := s.via.pend.map fun c =>
        if c = p then { c with tries := c.tries + 1, sent := some s.clock } else c } } p.msg
    else
      let s := s.giveUp p
      let k := s.offerPort 0 p.msg.dst
      if fwType p.msg.typ ∧ (Sparse.find s.fwu.offers k).isSome ∧ s.fld SPN_STATUS.PEER k = p.msg.dst then s.endOffer k false else s

end Sys2Proof.Machine
end

