-- ==== Sys2Proof/Machine/Vote.lean ====
section
/-! DEFINITION. The keystone vote and the acceptance of closures (R356 to R362, R425 to R429), and TIME planks with what a
step of wall time does to a running cadence (R236, R240, R368). -/

namespace Sys2Proof.Machine

/-! ### Closures as bytes (Table 17-1) -/

/-- The payload of CLOSURE and PROPOSE. -/
def closureBytes (c : Closure) : List Byte :=
  beBytes 8 c.frame ++ beBytes 8 c.start ++ beBytes 4 c.gen ++ beBytes 8 c.hash ++ beBytes 1 c.key ++
    beBytes 1 (b2n c.adopted) ++ List.replicate 10 0

/-- The payload read for keystone `i`; one of another length or with a reserved field set is discarded. -/
def closureOf (i : Nat) (bs : List Byte) : Option Closure :=
  if bs.length = 40 ∧ beAt bs 29 1 < 2 ∧ beAt bs 30 10 = 0 then
    some ⟨i, beAt bs 0 8, beAt bs 8 8, beAt bs 16 4, beAt bs 20 8, decide (beAt bs 29 1 = 1)⟩
  else none

/-- The index of the keystone at a node (RED_KEY). -/
def State.keyOf (s : State) (node : Nat) : Option Nat :=
  (List.range 3).find? fun i => decide (s.fld RED_KEY.NODE i ≠ 0) && decide (s.fld RED_KEY.NODE i = node)

/-- The own index of a keystone. -/
def State.ownKey (s : State) : Option Nat :=
  if s.flag RED_CFG.KEY_EN ∧ s.fld RED_CFG.KEY_IDX < 3 then some (s.fld RED_CFG.KEY_IDX) else none

/-- The newest generation committed, with its hash (R361); G 0 and hash 0 where none is held. -/
def State.namedGen (s : State) : Nat × Nat :=
  match s.cmp.newest.bind s.gen with
  | some g => (g.num, beNat g.hash)
  | none => (0, 0)

/-! ### Acceptance (R362, R428) -/

/-- Two closures agree in FRAME, S, G and DESC_HASH. -/
def Closure.agrees (c d : Closure) : Bool :=
  decide (c.frame = d.frame) && decide (c.start = d.start) && decide (c.gen = d.gen) && decide (c.hash = d.hash)

/-- The generation that an accepted closure names is confirmed (R274, R294); a device other than a pier may not hold it. -/
def State.confirmNamed (s : State) (c : Closure) : State :=
  if s.isPier ∨ s.knowsGen c.gen (beBytes 8 c.hash) then s.confirmGen c.gen (beBytes 8 c.hash) else s

/-- The frame of an accepted closure is scheduled at its S: what was scheduled is replaced, the back buffer serves the frame,
and a window whose close has passed closes now (R359, R362, R365). -/
def State.scheduleClosure (s : State) (c : Closure) : State :=
  let s : State := (if s.isPier ∧ ! s.cad.late ∧ s.cad.target ≠ c.frame then
      { s.retargetBack with cad := { s.retargetBack.cad with target := c.frame } } else s)
  let ok := s.knowsGen c.gen (beBytes 8 c.hash)
  let s := s.confirmNamed c
  let s := match s.cad.next with | some x => if x.prov then s else s.settle false | none => s
  let s := s.setFlag LDG_FRAME_STATE.PENDING true
  let closed := match s.cad.next with | some x => x.closed && decide (x.num = c.frame) | none => false
  let s : State := { s with cad := { s.cad with next := some ⟨c.frame, c.start, c.gen, ok, closed, false⟩ } }
  let s := (s.setPair TIM_NEXT.NEXT c.start).setFld TIM_CAD_STATUS.STATE 1
  if c.start ≤ s.now + commitLead then s.closeWindow else s

/-- A closure whose S has passed is missed: its frame is not started (R362). -/
def State.missClosure (s : State) (c : Closure) : State :=
  let s := (s.confirmNamed c).bump TIM_CNT_REPEAT.COUNT
  let s := s.raise 0x0B05 [(16, 1, 1), (24, 8, c.frame)]
  let s := s.bumpPair LDG_UNSHOWN.UNSHOWN
  if s.fld TIM_CAD_STATUS.STATE = 2 then s.setFld TIM_CAD_STATUS.STATE 0 else s

/-- A device accepts a closure (R362). -/
def State.acceptClosure (s : State) (c : Closure) : State :=
  let s : State := { s with cad := { s.cad with accepted := some c.frame } }
  if c.frame ≤ s.frame then s
  else
    let s := s.bumpPair LDG_ACCEPTED.ACCEPTED
    if c.start < s.now then s.missClosure c else s.scheduleClosure c

/-- A closure that arrives after its frame's acceptance is compared with the accepted one (R428). -/
def State.compareClosure (s : State) (c d : Closure) : State :=
  if c.agrees d then
    let s : State := { s with red := { s.red with differ := s.red.differ.filter (· ≠ c.key) } }
    if s.red.accepted.head? = some d then s.setFld RED_STATUS.AGREE (s.fld RED_STATUS.AGREE ||| 2 ^ c.key) else s
  else
    let s := s.bump RED_VOTE_CNT.DISAGREE
    if c.key ∈ s.red.differ then s
    else State.raise { s with red := { s.red with differ := c.key :: s.red.differ } } 0x1401 [(16, 1, c.key), (24, 8, c.frame)]

/-- The votes that a closure needs. -/
def State.quorum (s : State) : Nat := if s.fld RED_CFG.QUORUM = 1 then 1 else 2

/-- The keystone whose S agreeing closures carry: the lowest that sent its own; where all adopted it, keystone 0, from whom alone
two others can both have it (log entry 156). -/
def leaderOf (votes : List Closure) : Nat :=
  match (votes.filter (! ·.adopted)).map (·.key) with
  | [] => 0
  | ks => ks.foldl min 3

/-- A closure from a listed keystone: compared, held, or accepted with those that agree (R428). -/
def State.holdClosure (s : State) (c : Closure) : State :=
  if ! s.cadence then s
  else match s.red.accepted.find? fun d => d.frame = c.frame with
  | some d => s.compareClosure c d
  | none =>
    if s.red.closures.any fun d => decide (d.key = c.key) && decide (d.frame = c.frame) then s
    else
      let held := s.red.closures ++ [c]
      let votes := held.filter c.agrees
      let agree := votes.map (·.key)
      if agree.length < s.quorum then { s with red := { s.red with closures := held } }
      else
        let s : State := { s with red := { s.red with
          closures := held.filter (fun d => d.frame ≠ c.frame)
          accepted := (c :: s.red.accepted).take 8
          differ := s.red.differ.filter fun k => k ∉ agree } }
        let s := (s.setFld RED_STATUS.LEADER (leaderOf votes)).setFld RED_STATUS.AGREE
          (maskWhere 3 fun k => decide (k ∈ agree))
        s.acceptClosure c

/-- CLOSURE: a closure of a listed keystone counts toward the quorum; one of another source is counted in FOREIGN (R425,
R428). -/
def onClosure (s : State) : State :=
  match s.takeMsg 0x20 with
  | none => s
  | some (_, m, s) =>
    match s.keyOf m.src with
    | none => s.bump RED_FOREIGN.FOREIGN
    | some i => match closureOf i m.payload with
      | some c => s.holdClosure c
      | none => s

/-! ### A keystone's own closure (R356 to R358, R426) -/

/-- The lag of a decision: TIM_LAG, LAGGING and the events of kinds 0 and 1 (R358). -/
def State.showLag (s : State) (lag : Int) : State :=
  let was := s.flag TIM_CAD_STATUS.LAGGING
  let s := (s.setFld TIM_LAG.LAG (uNat 32 lag)).setFlag TIM_CAD_STATUS.LAGGING (decide (0 < lag))
  if was = decide (0 < lag) then s
  else s.raise 0x0B04 [(16, 1, if 0 < lag then 0 else 1), (20, 4, uNat 32 lag)]

/-- The source's period lies outside [T_MIN, T_MAX] (R358). It is measured over the last two source frames, so that one late
frame, as in Table 13-1, is no source out of limits. -/
def State.sourceOut (s : State) : Bool :=
  match s.key.stamps with
  | [a, _, c] => decide (a - c < 2 * s.cad.tMin) || decide (2 * s.cad.tMax < a - c)
  | _ => false

/-- SRC_OUT follows the source; EV_TIM_CADENCE kind 3 once per episode (R358). -/
def State.showSource (s : State) (lag : Int) : State :=
  let out := s.sourceOut
  let was := s.key.srcOut
  let s : State := { s.setFlag TIM_CAD_STATUS.SRC_OUT out with key := { s.key with srcOut := out } }
  if out ∧ ! was then s.raise 0x0B04 [(16, 1, 3), (20, 4, uNat 32 lag)] else s

/-- A keystone decides the start of frame `f` (R356); `stamp` the source stamp that it follows, if any. In a reset of FN_RED
nothing comes of it (R441). -/
def State.decideFrame (s : State) (f key : Nat) (stamp : Option Nat) : State :=
  let prev := s.pair TIM_START.START
  let old : Int := if s.key.frame.map (· + 1) = some f then s.key.anchor else prev
  let a : Int := match stamp with
    | some t => (t + s.cad.set'.2.2 : Nat)
    | none => old + s.cad.tNom
  let start := sat a (prev + s.cad.tMin : Nat) (prev + s.cad.tMax : Nat)
  let lag := start - a
  let s := s.showLag lag
  let s := if s.cad.set'.1 = 1 then s.showSource lag else s
  let s := if s.cad.set'.1 = 1 ∧ stamp = none then s.raise 0x0B04 [(16, 1, 2), (20, 4, uNat 32 lag)] else s
  let g := s.namedGen
  let quiet := decide (s.fnState 19 = fnReset)
  let c : Closure := ⟨key, f, start.toNat, g.1, g.2, false⟩
  let stop := min (s.now + s.fld RED_VOTE_CFG.WAIT * us) (start.toNat - s.cad.set'.2.1)
  let s : State := { s with
    key := { s.key with frame := some f, anchor := a, stamp := none }
    red := { s.red with own := if quiet then none else some (c, stop), props := s.red.props.filter fun d => f ≤ d.frame } }
  if quiet then s else ((List.range 3).filter fun i => i ≠ key ∧ s.fld RED_KEY.NODE i ≠ 0).foldl
    (fun (s : State) i => s.sendMsg (.node (s.fld RED_KEY.NODE i)) 0 0x21 0 (closureBytes c) false) s

/-- CADENCE_DECISION: a keystone decides the frame after the one in progress, once: at s_prev in FREE, in SOURCE at the first
new stamp or at s_prev + T_MAX − LEAD (R356). -/
def onCadenceDecision (s : State) : State :=
  let f := s.frame + 1
  match s.ownKey with
  | none => s
  | some key =>
    if ! s.cadence ∨ s.key.frame = some f then s
    else if s.cad.set'.1 = 0 then s.decideFrame f key none
    else match s.key.stamp with
    | some t => s.decideFrame f key (some t)
    | none =>
      if s.pair TIM_START.START + s.cad.tMax ≤ s.now + s.cad.set'.2.1 then s.decideFrame f key none else s

/-- PROPOSE: a keystone keeps the latest proposal for a frame of each of the others. -/
def onPropose (s : State) : State :=
  match s.takeMsg 0x21 with
  | none => s
  | some (_, m, s) =>
    match s.keyOf m.src with
    | none => s
    | some i => match s.ownKey, closureOf i m.payload with
      | some _, some c => { s with red := { s.red with props := c :: s.red.props.filter fun d => ¬ (d.key = i ∧ d.frame = c.frame) } }
      | _, _ => s

/-- A keystone adopts the leader's S (R426). -/
def State.adopts (s : State) (own leader : Closure) : Bool :=
  let prev := s.pair TIM_START.START
  decide (leader.frame = own.frame) && decide ((leader.gen, leader.hash) = s.namedGen) &&
  decide (prev + s.cad.tMin ≤ leader.start) && decide (leader.start ≤ prev + s.cad.tMax) &&
  decide (leader.start ≤ own.start + s.fld RED_VOTE_CFG.TOL * us) &&
  decide (own.start ≤ leader.start + s.fld RED_VOTE_CFG.TOL * us)

/-- VOTE_WAIT_EXPIRY: the wait ends; the keystone adopts the leader's S or keeps its own (R426). -/
def onVoteWaitExpiry (s : State) : State :=
  match s.red.own with
  | none => s
  | some (own, stop) =>
    if s.now < stop then s
    else
      let rivals := s.red.props.filter fun d => decide (d.frame = own.frame) && decide (d.key < own.key)
      let c : Closure := (match rivals.find? fun d => rivals.all fun e => decide (d.key ≤ e.key) with
        | some d => if s.adopts own d then { own with start := d.start, adopted := true } else own
        | none => own)
      { s with red := { s.red with own := none, issue := some c } }

/-- CLOSURE_ISSUE: at S − LEAD the keystone broadcasts its closure, naming the newest generation committed to it, and holds it
itself (R361, R426, R428). -/
def onClosureIssue (s : State) : State :=
  match s.red.issue with
  | none => s
  | some c =>
    if ! s.issueDue ∨ s.fnState 19 = fnReset then s
    else
      let c : Closure := { c with gen := s.namedGen.1, hash := s.namedGen.2 }
      let s := s.sendMsg .all 0 0x20 0 (closureBytes c) false
      let s : State := { s.bumpPair LDG_ISSUED.ISSUED with
        red := { s.red with issue := none }, ldg := { s.ldg with issued := c.frame } }
      s.holdClosure c

/-! ### TIME planks -/

/-- A step of wall time aborts the frame in progress (R368). -/
def State.afterStep (s : State) : State :=
  if s.time.stepped then (State.abortFrame { s with time := { s.time with stepped := false } } 2).rewindDia else s

/-- TIME_PLANK: a TIME plank is an exchange and an offer; a step that it causes aborts the frame in progress (R236, R240,
R368). It holds a slot of the VC3 buffer until it is copied out, within 2 µs; to a full buffer it is discarded (R195, R198). -/
def onTimePlank (k sub : Fin 16) (blocks : List Block) (s : State) : State :=
  s.receive k 3 blocks fun bs s =>
    if ¬ s.portUp k then s
    else
      let held := (s.port k).timeAt.filter fun t => decide (s.clock < t + 2 * us)
      if slotsOf 3 ≤ held.length then s.bump SPN_DROP.COUNT k
      else
        let s := s.setPort k { s.port k with timeAt := held ++ [s.clock] }
        (s.timeArrives k (timeOf (plankOf bs).payload) sub).afterStep

/-! ### Time that passes -/

/-- One cycle of CLK_PIX with no command: wall time and the PTP clock advance, while the device is awake and the root PLL is
in lock (R16, R234), and a bay in RESET begins to reload (R95). -/
def State.idle (s : State) : State := if s.clocked then s.tick.ptpTick.tickBays else s

end Sys2Proof.Machine
end

