-- ==== Sys2Proof/WellFormed.lean ====
section
/-! DEFINITION. Which operands a command of the hardware can carry: sizes of accesses, blocks of eight bytes, lanes of a port,
symbols of a codeword. A command that breaks a check stands for nothing that reaches the block in that form; its meaning takes
it as the line or the path would take its like. -/

namespace Sys2Proof

/-- An access moves at least one byte and lies in a 64 MiB space (R5, R29). -/
def accessOk (addr n : Nat) : Bool := decide (0 < n) && decide (addr + n ≤ 2 ^ 26)

/-- The address of one register of the register space (R5). -/
def regAddrOk (addr : Nat) : Bool := decide (addr % 4 = 0) && decide (addr < 2 ^ 26)

/-- Blocks on a lane carry eight bytes each (R174). -/
def blocksOk (bs : List Block) : Bool := bs.all fun b => decide (b.bytes.length = 8)

/-- Operands that a command of the hardware can carry. -/
def Instr.wf : Instr → Bool
  | .registerWrite _ addr bytes => accessOk addr bytes.length
  | .readClear _ addr width meets => accessOk addr width && decide (meets < 32)
  | .pairLoRead _ addr => regAddrOk addr
  | .pairLoWrite _ addr _ => regAddrOk addr
  | .pairHiWrite _ addr _ => regAddrOk addr
  | .bar2Read addr width => accessOk addr width
  | .bar2Write addr bytes => accessOk addr bytes.length
  | .deckDataRead _ => true
  | .deckDataWrite _ _ => true
  | .portDisable _ _ => true
  | .portEnable _ _ => true
  | .queueEnable _ _ _ => true
  | .queueDisable _ _ _ => true
  | .eventRingEnable _ _ _ => true
  | .eventRingDisable _ _ _ => true
  | .sqDoorbell _ _ _ => true
  | .cqHeadWrite _ _ _ => true
  | .evHeadWrite _ _ _ => true
  | .commandFetch => true
  | .commandStartAtTime _ _ => true
  | .cmdNop _ _ => true
  | .cmdAbort _ _ => true
  | .safePointStop _ _ _ => true
  | .fnReset _ _ _ => true
  | .fnResetDone _ => true
  | .modeFollow _ => true
  | .assistLate _ _ => true
  | .decideCfg _ _ => true
  | .decideIngSdi _ _ => true
  | .decidePtp _ _ => true
  | .decideRate _ _ => true
  | .decideEnc _ _ => true
  | .decideLnk _ _ => true
  | .decideSpan _ _ => true
  | .decideTim _ _ => true
  | .decideDec _ _ => true
  | .decideCmp _ _ => true
  | .decideCor _ _ => true
  | .decideStr _ _ => true
  | .decideTherm _ _ => true
  | .decideDia _ _ => true
  | .decideMem _ _ => true
  | .decideDeck _ _ => true
  | .decideLdg _ _ => true
  | .decideRed _ _ => true
  | .decidePwr _ _ => true
  | .bayFault _ _ => true
  | .bayWatchdog _ => true
  | .bayLoadDone _ _ => true
  | .tollhouseRestart => true
  | .tollhouseRestartEnd => true
  | .tollhouseStart => true
  | .commitWindowClose => true
  | .frameStart _ => true
  | .provisionalStart _ => true
  | .cmdCfgStage _ _ => true
  | .cmdCfgStageFlash _ _ => true
  | .cmdCfgVerify _ _ => true
  | .cmdCfgApply _ _ => true
  | .cmdCfgSvnRaise _ _ => true
  | .cfgApplyNoCadence => true
  | .cfgAutoload => true
  | .sdiLock _ _ _ => true
  | .sdiLockLoss _ => true
  | .flowTimeout _ => true
  | .sourceFrameComplete _ _ _ => true
  | .sourceFrameStart _ _ => true
  | .ancPacket _ _ _ => true
  | .ethPacket _ _ => true
  | .ptpMessage _ _ => true
  | .igmpJoin _ => true
  | .igmpQuery _ => true
  | .arpRequest _ _ => true
  | .sliceRowDeadline _ _ _ => true
  | .cmdIngPlay _ _ => true
  | .sliceAllocate _ _ _ => true
  | .sliceEncodeDone _ _ _ _ _ => true
  | .encOverrun _ _ => true
  | .cmdEncRefresh _ _ => true
  | .cdrLock _ => true
  | .blockLock _ lanes => decide (lanes.length ≤ 8)
  | .blockLockLoss _ _ => true
  | .bringupTimeout _ => true
  | .waitEnd _ => true
  | .capPlankSend _ => true
  | .capPlank _ blocks => blocksOk blocks
  | .stepPropose _ blocks => blocksOk blocks
  | .stepTxreq _ blocks => blocksOk blocks
  | .eyeCheckDone _ _ => true
  | .stepResult _ blocks => blocksOk blocks
  | .stepTimeout _ => true
  | .spanEnableWrite _ _ _ => true
  | .spanRetrainWrite _ _ => true
  | .cmdSpanRetrain _ _ => true
  | .spanInject _ _ _ => true
  | .laneInjectOne _ _ => true
  | .prbsLock _ _ => true
  | .eyeScanStart _ _ _ => true
  | .eyeScanDone _ _ => true
  | .fecUncorrectable _ symbols => decide (symbols.length = 544)
  | .plankSend _ _ => true
  | .linkPlankSend _ => true
  | .linkPlank _ blocks => blocksOk blocks
  | .dataPlank _ blocks => blocksOk blocks
  | .vc1Plank _ blocks => blocksOk blocks
  | .replayTimeout _ _ => true
  | .vc1StallTimeout _ => true
  | .routeWaitTimeout _ _ => true
  | .spanFabricStop => true
  | .bypassEnter => true
  | .bypassExit => true
  | .probe => true
  | .announce => true
  | .assign => true
  | .hello => true
  | .links => true
  | .settleExpiry => true
  | .routes => true
  | .regRead => true
  | .regWrite => true
  | .notify => true
  | .subscribe => true
  | .subscribeSend _ => true
  | .refreshReq => true
  | .messageResponse => true
  | .e2eTimeout => true
  | .cmdViaDiscover _ _ => true
  | .cmdViaAssign _ _ => true
  | .cmdViaRoutes _ _ => true
  | .cmdViaForget _ _ => true
  | .cmdViaReg _ _ => true
  | .timePlankSend _ _ => true
  | .timePlank _ _ blocks => blocksOk blocks
  | .offerExpiry _ => true
  | .holdoverExpiry => true
  | .wallTimeWrite _ _ => true
  | .ftSyncEdge => true
  | .sliceDecodeStart => true
  | .sliceDecodeDone _ _ => true
  | .cmdDecRequest _ _ => true
  | .cmdCmpCommit _ _ => true
  | .cmdCmpAlloc _ _ => true
  | .cmdCmpWrite _ _ => true
  | .cmdCmpFree _ _ => true
  | .cmdCmpLut _ _ => true
  | .cmdCmpParapet _ _ => true
  | .bandCompose _ => true
  | .bandRecompose => true
  | .cmdCorLoad _ _ => true
  | .corImageComplete => true
  | .cmdCorPatch _ _ => true
  | .refreshStart => true
  | .rowSlotStart _ _ _ _ => true
  | .teRise _ => true
  | .teWindowExpiry _ => true
  | .thermSample _ => true
  | .tjSample _ => true
  | .tjCooldownExpiry => true
  | .cmdStrIrefTrim _ _ => true
  | .irefTrimDone _ _ => true
  | .cadenceDecision => true
  | .voteWaitExpiry => true
  | .closureIssue => true
  | .propose => true
  | .closure => true
  | .epochStart => true
  | .probeRoundStart => true
  | .pinTestRequest => true
  | .pinTestEnd => true
  | .cmdDiaPinTest _ _ => true
  | .diaOpRemove _ _ => true
  | .diaOpRestore _ _ => true
  | .diaOpForget _ _ => true
  | .cmdDiaRead _ _ => true
  | .removedSave => true
  | .memTrainingDone _ => true
  | .dramRefreshDue _ _ _ _ => true
  | .memSensorRead _ => true
  | .neighbourRefresh _ => true
  | .rankRetrainDue _ _ _ => true
  | .memRequestTimeout _ _ _ => true
  | .ceHourBoundary => true
  | .memPatrolScrub _ _ => true
  | .deckScrub _ _ => true
  | .cmdMemWrite _ _ => true
  | .cmdMemRead _ _ _ => true
  | .ledgerAudit => true
  | .cmdLdgAudit _ _ => true
  | .leasePlank _ blocks => blocksOk blocks
  | .leaseAck => true
  | .leaseExpiry _ => true
  | .leaseClaim _ => true
  | .claimGapExpiry _ => true
  | .cmdRedHandover _ _ => true
  | .handoverReq => true
  | .handoverDone => true
  | .handoverTimeout => true
  | .powerOn _ _ => true
  | .deviceResetEnd => true
  | .rootPllLock => true
  | .resetPin => true
  | .rootPllLoss => true
  | .glbResetWrite _ _ => true
  | .supplyWarn _ _ => true
  | .supplyRecover _ => true
  | .supplyReset _ => true
  | .strandSupplyRise => true
  | .cmdPwrState _ _ => true
  | .cmdPwrWake _ _ => true
  | .wakePin => true
  | .wakeMatch _ blocks => blocksOk (blocks.map (·.2))
  | .cadenceStart _ => true
  | .bandgapCheck _ => true
  | .cmdFwuWrite _ _ => true
  | .cmdFwuForward _ _ => true
  | .cmdFwuActivate _ _ => true
  | .cmdFwuCancel _ _ => true
  | .cmdFwuCommit _ _ => true
  | .cmdFwuFallback _ _ => true
  | .cmdFwuSvnRaise _ _ => true
  | .fwCommitTimer => true
  | .offer => true
  | .chunk _ => true
  | .fwuEnd => true
  | .activate => true
  | .offerRetry => true
  | .recoverReq => true
  | .recoverReqSend => true
  | .fwuRecoverGo _ _ _ => true
  | .chkPresetWrite _ _ _ => true
  | .chkFeed _ _ _ => true
  | .chkFeed1 _ _ _ => true
  | .chkLoad _ _ _ => true
  | .chkRunCompute _ _ => true
  | .chkRunAppend _ _ => true
  | .chkRunCheck _ _ => true
  | .chkRunCheckStrip _ _ => true
  | .gpioSet _ _ => true
  | .gpioClr _ _ => true
  | .pcieLinkChange _ => true
  | .supplyReturnAfterReset _ => true
  | .fwuActivateAt => true

end Sys2Proof
end

