-- ==== Sys2Proof/Machine/Commands.lean ====
section
/-! DEFINITION. The meaning of every command: what the chapters' rows do, in a device that is awake. In device reset and in P4
Off nothing runs but what ends them. -/

namespace Sys2Proof.Machine

/-- A device in device reset, or with its core supply off, does nothing (R447, R454). -/
def State.guarded (s : State) (f : State → State) : State := if s.awake then f s else s

/-- REGISTER_WRITE (R5). -/
def execRegisterWrite (p : Path) (addr : Nat) (bytes : List Byte) (s : State) : Host.Outcome State Fault Refusal :=
  .next (s.guarded (onRegisterWrite p addr bytes))

/-- READ_CLEAR (R7). -/
def execReadClear (p : Path) (addr : Nat) (width : Nat) (meets : Nat) (s : State) : Host.Outcome State Fault Refusal :=
  .next (s.guarded (onReadClear p addr width meets))

/-- PAIR_LO_READ (R6). -/
def execPairLoRead (p : Path) (addr : Nat) (s : State) : Host.Outcome State Fault Refusal :=
  .next (s.guarded (onPairLoRead p addr))

/-- PAIR_LO_WRITE (R6). -/
def execPairLoWrite (p : Path) (addr : Nat) (v : Word) (s : State) : Host.Outcome State Fault Refusal :=
  .next (s.guarded (onPairLoWrite p addr v))

/-- PAIR_HI_WRITE (R6). -/
def execPairHiWrite (p : Path) (addr : Nat) (v : Word) (s : State) : Host.Outcome State Fault Refusal :=
  .next (s.guarded (onPairHiWrite p addr v))

/-- BAR2_READ (R29). -/
def execBar2Read (addr : Nat) (width : Nat) (s : State) : Host.Outcome State Fault Refusal :=
  .next (s.guarded (onBar2Read addr width))

/-- BAR2_WRITE (R29). -/
def execBar2Write (addr : Nat) (bytes : List Byte) (s : State) : Host.Outcome State Fault Refusal :=
  .next (s.guarded (onBar2Write addr bytes))

/-- DECK_DATA_READ (R45). -/
def execDeckDataRead (p : Path) (s : State) : Host.Outcome State Fault Refusal :=
  .next (s.guarded (onDeckDataRead p))

/-- DECK_DATA_WRITE (R45). -/
def execDeckDataWrite (p : Path) (v : Word) (s : State) : Host.Outcome State Fault Refusal :=
  .next (s.guarded (onDeckDataWrite p v))

/-- PORT_DISABLE (R521). -/
def execPortDisable (p : Path) (port : Fin 3) (s : State) : Host.Outcome State Fault Refusal :=
  .next (s.guarded (onPortDisable p port))

/-- PORT_ENABLE (R521). -/
def execPortEnable (p : Path) (port : Fin 3) (s : State) : Host.Outcome State Fault Refusal :=
  .next (s.guarded (onPortEnable p port))

/-- QUEUE_ENABLE (R50). -/
def execQueueEnable (p : Path) (q : Fin 24) (v : Word) (s : State) : Host.Outcome State Fault Refusal :=
  .next (s.guarded (onQueueEnable p q v))

/-- QUEUE_DISABLE (R49). -/
def execQueueDisable (p : Path) (q : Fin 24) (v : Word) (s : State) : Host.Outcome State Fault Refusal :=
  .next (s.guarded (onQueueDisable p q v))

/-- EVENT_RING_ENABLE (R50). -/
def execEventRingEnable (p : Path) (ring : Fin 3) (v : Word) (s : State) : Host.Outcome State Fault Refusal :=
  .next (s.guarded (onEventRingEnable p ring v))

/-- EVENT_RING_DISABLE (R57). -/
def execEventRingDisable (p : Path) (ring : Fin 3) (v : Word) (s : State) : Host.Outcome State Fault Refusal :=
  .next (s.guarded (onEventRingDisable p ring v))

/-- SQ_DOORBELL (R52). -/
def execSqDoorbell (p : Path) (q : Fin 24) (v : Word) (s : State) : Host.Outcome State Fault Refusal :=
  .next (s.guarded (onSqDoorbell p q v))

/-- CQ_HEAD_WRITE (R59). -/
def execCqHeadWrite (p : Path) (q : Fin 24) (v : Word) (s : State) : Host.Outcome State Fault Refusal :=
  .next (s.guarded (onCqHeadWrite p q v))

/-- EV_HEAD_WRITE (R58). -/
def execEvHeadWrite (p : Path) (ring : Fin 3) (v : Word) (s : State) : Host.Outcome State Fault Refusal :=
  .next (s.guarded (onEvHeadWrite p ring v))

/-- COMMAND_FETCH (R48). -/
def execCommandFetch (s : State) : Host.Outcome State Fault Refusal :=
  .next (s.guarded onCommandFetch)

/-- COMMAND_START_AT_TIME (R52). -/
def execCommandStartAtTime (q : Fin 24) (tag : Nat) (s : State) : Host.Outcome State Fault Refusal :=
  .next (s.guarded (onCommandStartAtTime q tag))

/-- CMD_NOP (R53). -/
def execCmdNop (q : Fin 24) (tag : Nat) (s : State) : Host.Outcome State Fault Refusal :=
  .next (s.guarded (onCmdNop q tag))

/-- CMD_ABORT (R55). -/
def execCmdAbort (q : Fin 24) (tag : Nat) (s : State) : Host.Outcome State Fault Refusal :=
  .next (s.guarded (onCmdAbort q tag))

/-- SAFE_POINT_STOP (R55). -/
def execSafePointStop (q : Fin 24) (tag : Nat) (n : Nat) (s : State) : Host.Outcome State Fault Refusal :=
  .next (s.guarded (onSafePointStop q tag n))

/-- FN_RESET (R62). -/
def execFnReset (p : Path) (n : Fin 48) (v : Word) (s : State) : Host.Outcome State Fault Refusal :=
  .next (s.guarded (onFnReset p n v))

/-- FN_RESET_DONE (R62). -/
def execFnResetDone (n : Fin 48) (s : State) : Host.Outcome State Fault Refusal :=
  .next (s.guarded (onFnResetDone n))

/-- MODE_FOLLOW (R37). -/
def execModeFollow (n : Fin 48) (s : State) : Host.Outcome State Fault Refusal :=
  .next (s.guarded (onModeFollow n))

/-- ASSIST_LATE (R38). -/
def execAssistLate (n : Fin 48) (period : Nat) (s : State) : Host.Outcome State Fault Refusal :=
  .next (s.guarded (onAssistLate n period))

/-- DECIDE_CFG (R92). -/
def execDecideCfg (q : Fin 24) (tag : Nat) (s : State) : Host.Outcome State Fault Refusal :=
  .next (s.guarded (onDecideCfg q tag))

/-- DECIDE_ING_SDI (R110). -/
def execDecideIngSdi (q : Fin 24) (tag : Nat) (s : State) : Host.Outcome State Fault Refusal :=
  .next (s.guarded (onDecideIngSdi q tag))

/-- DECIDE_PTP (R118). -/
def execDecidePtp (q : Fin 24) (tag : Nat) (s : State) : Host.Outcome State Fault Refusal :=
  .next (s.guarded (onDecidePtp q tag))

/-- DECIDE_RATE (R163). -/
def execDecideRate (q : Fin 24) (tag : Nat) (s : State) : Host.Outcome State Fault Refusal :=
  .next (s.guarded (onDecideRate q tag))

/-- DECIDE_ENC (R167). -/
def execDecideEnc (q : Fin 24) (tag : Nat) (s : State) : Host.Outcome State Fault Refusal :=
  .next (s.guarded (onDecideEnc q tag))

/-- DECIDE_LNK (R191). -/
def execDecideLnk (q : Fin 24) (tag : Nat) (s : State) : Host.Outcome State Fault Refusal :=
  .next (s.guarded (onDecideLnk q tag))

/-- DECIDE_SPAN (R206). -/
def execDecideSpan (q : Fin 24) (tag : Nat) (s : State) : Host.Outcome State Fault Refusal :=
  .next (s.guarded (onDecideSpan q tag))

/-- DECIDE_TIM (R239). -/
def execDecideTim (q : Fin 24) (tag : Nat) (s : State) : Host.Outcome State Fault Refusal :=
  .next (s.guarded (onDecideTim q tag))

/-- DECIDE_DEC (R265). -/
def execDecideDec (q : Fin 24) (tag : Nat) (s : State) : Host.Outcome State Fault Refusal :=
  .next (s.guarded (onDecideDec q tag))

/-- DECIDE_CMP (R298). -/
def execDecideCmp (q : Fin 24) (tag : Nat) (s : State) : Host.Outcome State Fault Refusal :=
  .next (s.guarded (onDecideCmp q tag))

/-- DECIDE_COR (R314). -/
def execDecideCor (q : Fin 24) (tag : Nat) (s : State) : Host.Outcome State Fault Refusal :=
  .next (s.guarded (onDecideCor q tag))

/-- DECIDE_STR (R350). -/
def execDecideStr (q : Fin 24) (tag : Nat) (s : State) : Host.Outcome State Fault Refusal :=
  .next (s.guarded (onDecideStr q tag))

/-- DECIDE_THERM (R351). -/
def execDecideTherm (q : Fin 24) (tag : Nat) (s : State) : Host.Outcome State Fault Refusal :=
  .next (s.guarded (onDecideTherm q tag))

/-- DECIDE_DIA (R387). -/
def execDecideDia (q : Fin 24) (tag : Nat) (s : State) : Host.Outcome State Fault Refusal :=
  .next (s.guarded (onDecideDia q tag))

/-- DECIDE_MEM (R411). -/
def execDecideMem (q : Fin 24) (tag : Nat) (s : State) : Host.Outcome State Fault Refusal :=
  .next (s.guarded (onDecideMem q tag))

/-- DECIDE_DECK (R412). -/
def execDecideDeck (q : Fin 24) (tag : Nat) (s : State) : Host.Outcome State Fault Refusal :=
  .next (s.guarded (onDecideDeck q tag))

/-- DECIDE_LDG (R421). -/
def execDecideLdg (q : Fin 24) (tag : Nat) (s : State) : Host.Outcome State Fault Refusal :=
  .next (s.guarded (onDecideLdg q tag))

/-- DECIDE_RED (R440). -/
def execDecideRed (q : Fin 24) (tag : Nat) (s : State) : Host.Outcome State Fault Refusal :=
  .next (s.guarded (onDecideRed q tag))

/-- DECIDE_PWR (R452). -/
def execDecidePwr (q : Fin 24) (tag : Nat) (s : State) : Host.Outcome State Fault Refusal :=
  .next (s.guarded (onDecidePwr q tag))

/-- BAY_FAULT (R23). -/
def execBayFault (b : Fin 16) (lsram : Bool) (s : State) : Host.Outcome State Fault Refusal :=
  .next (s.guarded (onBayFault b lsram))

/-- BAY_WATCHDOG (R23). -/
def execBayWatchdog (b : Fin 16) (s : State) : Host.Outcome State Fault Refusal :=
  .next (s.guarded (onBayWatchdog b))

/-- BAY_LOAD_DONE (R87). -/
def execBayLoadDone (b : Fin 16) (ok : Bool) (s : State) : Host.Outcome State Fault Refusal :=
  .next (s.guarded (onBayLoadDone b ok))

/-- TOLLHOUSE_RESTART (R30). -/
def execTollhouseRestart (s : State) : Host.Outcome State Fault Refusal :=
  .next (s.guarded onTollhouseRestart)

/-- TOLLHOUSE_RESTART_END (R520). -/
def execTollhouseRestartEnd (s : State) : Host.Outcome State Fault Refusal :=
  .next (s.guarded onTollhouseRestartEnd)

/-- TOLLHOUSE_START (R471). -/
def execTollhouseStart (s : State) : Host.Outcome State Fault Refusal :=
  .next (s.guarded onTollhouseStart)

/-- COMMIT_WINDOW_CLOSE (R360). -/
def execCommitWindowClose (s : State) : Host.Outcome State Fault Refusal :=
  .next (s.guarded onCommitWindowClose)

/-- FRAME_START (R363). -/
def execFrameStart (bad : List Nat) (s : State) : Host.Outcome State Fault Refusal :=
  .next (s.guarded (onFrameStart bad))

/-- PROVISIONAL_START (R366). -/
def execProvisionalStart (bad : List Nat) (s : State) : Host.Outcome State Fault Refusal :=
  .next (s.guarded (onProvisionalStart bad))

/-- CMD_CFG_STAGE (R84). -/
def execCmdCfgStage (q : Fin 24) (tag : Nat) (s : State) : Host.Outcome State Fault Refusal :=
  .next (s.guarded (onCmdCfgStage q tag))

/-- CMD_CFG_STAGE_FLASH (R84). -/
def execCmdCfgStageFlash (q : Fin 24) (tag : Nat) (s : State) : Host.Outcome State Fault Refusal :=
  .next (s.guarded (onCmdCfgStageFlash q tag))

/-- CMD_CFG_VERIFY (R85). -/
def execCmdCfgVerify (q : Fin 24) (tag : Nat) (s : State) : Host.Outcome State Fault Refusal :=
  .next (s.guarded (onCmdCfgVerify q tag))

/-- CMD_CFG_APPLY (R86). -/
def execCmdCfgApply (q : Fin 24) (tag : Nat) (s : State) : Host.Outcome State Fault Refusal :=
  .next (s.guarded (onCmdCfgApply q tag))

/-- CMD_CFG_SVN_RAISE (R72). -/
def execCmdCfgSvnRaise (q : Fin 24) (tag : Nat) (s : State) : Host.Outcome State Fault Refusal :=
  .next (s.guarded (onCmdCfgSvnRaise q tag))

/-- CFG_APPLY_NO_CADENCE (R86). -/
def execCfgApplyNoCadence (s : State) : Host.Outcome State Fault Refusal :=
  .next (s.guarded onCfgApplyNoCadence)

/-- CFG_AUTOLOAD (R91). -/
def execCfgAutoload (s : State) : Host.Outcome State Fault Refusal :=
  .next (s.guarded onCfgAutoload)

/-- SDI_LOCK (R100). -/
def execSdiLock (idx : Fin 32) (std : Fin 256) (f : SdiFormat) (s : State) : Host.Outcome State Fault Refusal :=
  .next (s.guarded (onSdiLock idx std f))

/-- SDI_LOCK_LOSS (R111). -/
def execSdiLockLoss (idx : Fin 32) (s : State) : Host.Outcome State Fault Refusal :=
  .next (s.guarded (onSdiLockLoss idx))

/-- FLOW_TIMEOUT (R111). -/
def execFlowTimeout (k : Fin 64) (s : State) : Host.Outcome State Fault Refusal :=
  .next (s.guarded (onFlowTimeout k))

/-- SOURCE_FRAME_COMPLETE (R112). -/
def execSourceFrameComplete (idx : Fin 96) (crcErr : Nat) (overflow : Nat) (s : State) : Host.Outcome State Fault Refusal :=
  .next (s.guarded (onSourceFrameComplete idx crcErr overflow))

/-- SOURCE_FRAME_START (R114). -/
def execSourceFrameStart (idx : Fin 96) (rows : List (List Nat)) (s : State) : Host.Outcome State Fault Refusal :=
  .next (s.guarded (onSourceFrameStart idx rows))

/-- ANC_PACKET (R101). -/
def execAncPacket (idx : Fin 32) (bytes : List Byte) (full : Bool) (s : State) : Host.Outcome State Fault Refusal :=
  .next (s.guarded (onAncPacket idx bytes full))

/-- ETH_PACKET (R104). -/
def execEthPacket (e : Fin 8) (p : EthPacket) (s : State) : Host.Outcome State Fault Refusal :=
  .next (s.guarded (onEthPacket e p))

/-- PTP_MESSAGE (R106). -/
def execPtpMessage (e : Fin 8) (m : PtpMsg) (s : State) : Host.Outcome State Fault Refusal :=
  .next (s.guarded (onPtpMessage e m))

/-- IGMP_JOIN (R105). -/
def execIgmpJoin (k : Fin 64) (s : State) : Host.Outcome State Fault Refusal :=
  .next (s.guarded (onIgmpJoin k))

/-- IGMP_QUERY (R105). -/
def execIgmpQuery (e : Fin 8) (s : State) : Host.Outcome State Fault Refusal :=
  .next (s.guarded (onIgmpQuery e))

/-- ARP_REQUEST (R105). -/
def execArpRequest (e : Fin 8) (ip : Nat) (s : State) : Host.Outcome State Fault Refusal :=
  .next (s.guarded (onArpRequest e ip))

/-- SLICE_ROW_DEADLINE (R113). -/
def execSliceRowDeadline (l : Fin 63) (row : Nat) (written : Nat) (s : State) : Host.Outcome State Fault Refusal :=
  .next (s.guarded (onSliceRowDeadline l row written))

/-- CMD_ING_PLAY (R116). -/
def execCmdIngPlay (q : Fin 24) (tag : Nat) (s : State) : Host.Outcome State Fault Refusal :=
  .next (s.guarded (onCmdIngPlay q tag))

/-- SLICE_ALLOCATE (R150). -/
def execSliceAllocate (l : Fin 63) (c : Fin 64) (written : Nat) (s : State) : Host.Outcome State Fault Refusal :=
  .next (s.guarded (onSliceAllocate l c written))

/-- SLICE_ENCODE_DONE (R151). -/
def execSliceEncodeDone (l : Fin 63) (c : Fin 64) (row : Nat) (blocks : List (List Bool)) (lost : List Nat) (s : State) : Host.Outcome State Fault Refusal :=
  .next (s.guarded (onSliceEncodeDone l c row blocks lost))

/-- ENC_OVERRUN (R168). -/
def execEncOverrun (l : Fin 63) (written : Nat) (s : State) : Host.Outcome State Fault Refusal :=
  .next (s.guarded (onEncOverrun l written))

/-- CMD_ENC_REFRESH (R166). -/
def execCmdEncRefresh (q : Fin 24) (tag : Nat) (s : State) : Host.Outcome State Fault Refusal :=
  .next (s.guarded (onCmdEncRefresh q tag))

/-- CDR_LOCK (R182). -/
def execCdrLock (k : Fin 16) (s : State) : Host.Outcome State Fault Refusal :=
  .next (s.guarded (onCdrLock k))

/-- BLOCK_LOCK (R182). -/
def execBlockLock (k : Fin 16) (lanes : List LaneIn) (s : State) : Host.Outcome State Fault Refusal :=
  .next (s.guarded (onBlockLock k lanes))

/-- BLOCK_LOCK_LOSS (R204). -/
def execBlockLockLoss (lane : Fin 128) (heads : List (BitVec 2)) (s : State) : Host.Outcome State Fault Refusal :=
  .next (s.guarded (onBlockLockLoss lane heads))

/-- BRINGUP_TIMEOUT (R182). -/
def execBringupTimeout (k : Fin 16) (s : State) : Host.Outcome State Fault Refusal :=
  .next (s.guarded (onBringupTimeout k))

/-- WAIT_END (R182). -/
def execWaitEnd (k : Fin 16) (s : State) : Host.Outcome State Fault Refusal :=
  .next (s.guarded (onWaitEnd k))

/-- CAP_PLANK_SEND (R183). -/
def execCapPlankSend (k : Fin 16) (s : State) : Host.Outcome State Fault Refusal :=
  .next (s.guarded (onCapPlankSend k))

/-- CAP_PLANK (R183). -/
def execCapPlank (k : Fin 16) (blocks : List Block) (s : State) : Host.Outcome State Fault Refusal :=
  .next (s.guarded (onCapPlank k blocks))

/-- STEP_PROPOSE (R184). -/
def execStepPropose (k : Fin 16) (blocks : List Block) (s : State) : Host.Outcome State Fault Refusal :=
  .next (s.guarded (onStepPropose k blocks))

/-- STEP_TXREQ (R188). -/
def execStepTxreq (k : Fin 16) (blocks : List Block) (s : State) : Host.Outcome State Fault Refusal :=
  .next (s.guarded (onStepTxreq k blocks))

/-- EYE_CHECK_DONE (R187). -/
def execEyeCheckDone (k : Fin 16) (points : List EyePoint) (s : State) : Host.Outcome State Fault Refusal :=
  .next (s.guarded (onEyeCheckDone k points))

/-- STEP_RESULT (R184). -/
def execStepResult (k : Fin 16) (blocks : List Block) (s : State) : Host.Outcome State Fault Refusal :=
  .next (s.guarded (onStepResult k blocks))

/-- STEP_TIMEOUT (R184). -/
def execStepTimeout (k : Fin 16) (s : State) : Host.Outcome State Fault Refusal :=
  .next (s.guarded (onStepTimeout k))

/-- SPAN_ENABLE_WRITE (R182). -/
def execSpanEnableWrite (p : Path) (k : Fin 16) (v : Word) (s : State) : Host.Outcome State Fault Refusal :=
  .next (s.guarded (onSpanEnableWrite p k v))

/-- SPAN_RETRAIN_WRITE (R204). -/
def execSpanRetrainWrite (p : Path) (k : Fin 16) (s : State) : Host.Outcome State Fault Refusal :=
  .next (s.guarded (onSpanRetrainWrite p k))

/-- CMD_SPAN_RETRAIN (R207). -/
def execCmdSpanRetrain (q : Fin 24) (tag : Nat) (s : State) : Host.Outcome State Fault Refusal :=
  .next (s.guarded (onCmdSpanRetrain q tag))

/-- SPAN_INJECT (R193). -/
def execSpanInject (p : Path) (k : Fin 16) (v : Word) (s : State) : Host.Outcome State Fault Refusal :=
  .next (s.guarded (onSpanInject p k v))

/-- LANE_INJECT_ONE (R193). -/
def execLaneInjectOne (p : Path) (lane : Fin 128) (s : State) : Host.Outcome State Fault Refusal :=
  .next (s.guarded (onLaneInjectOne p lane))

/-- PRBS_LOCK (R192). -/
def execPrbsLock (lane : Fin 128) (l : List Bool) (s : State) : Host.Outcome State Fault Refusal :=
  .next (s.guarded (onPrbsLock lane l))

/-- EYE_SCAN_START (R190). -/
def execEyeScanStart (p : Path) (lane : Fin 128) (v : Word) (s : State) : Host.Outcome State Fault Refusal :=
  .next (s.guarded (onEyeScanStart p lane v))

/-- EYE_SCAN_DONE (R190). -/
def execEyeScanDone (lane : Fin 128) (count : Nat) (s : State) : Host.Outcome State Fault Refusal :=
  .next (s.guarded (onEyeScanDone lane count))

/-- FEC_UNCORRECTABLE (R177). -/
def execFecUncorrectable (lane : Fin 128) (symbols : List (BitVec 10)) (s : State) : Host.Outcome State Fault Refusal :=
  .next (s.guarded (onFecUncorrectable lane symbols))

/-- PLANK_SEND (R195). -/
def execPlankSend (k : Fin 16) (sub : Fin 16) (s : State) : Host.Outcome State Fault Refusal :=
  .next (s.guarded (onPlankSend k sub))

/-- LINK_PLANK_SEND (R181). -/
def execLinkPlankSend (k : Fin 16) (s : State) : Host.Outcome State Fault Refusal :=
  .next (s.guarded (onLinkPlankSend k))

/-- LINK_PLANK (R181). -/
def execLinkPlank (k : Fin 16) (blocks : List Block) (s : State) : Host.Outcome State Fault Refusal :=
  .next (s.guarded (onLinkPlank k blocks))

/-- DATA_PLANK (R196). -/
def execDataPlank (k : Fin 16) (blocks : List Block) (s : State) : Host.Outcome State Fault Refusal :=
  .next (s.guarded (onDataPlank k blocks))

/-- VC1_PLANK (R227). -/
def execVc1Plank (k : Fin 16) (blocks : List Block) (s : State) : Host.Outcome State Fault Refusal :=
  .next (s.guarded (onVc1Plank k blocks))

/-- REPLAY_TIMEOUT (R196). -/
def execReplayTimeout (k : Fin 16) (vc2 : Bool) (s : State) : Host.Outcome State Fault Refusal :=
  .next (s.guarded (onReplayTimeout k vc2))

/-- VC1_STALL_TIMEOUT (R199). -/
def execVc1StallTimeout (k : Fin 16) (s : State) : Host.Outcome State Fault Refusal :=
  .next (s.guarded (onVc1StallTimeout k))

/-- ROUTE_WAIT_TIMEOUT (R200). -/
def execRouteWaitTimeout (k : Fin 16) (vc2 : Bool) (s : State) : Host.Outcome State Fault Refusal :=
  .next (s.guarded (onRouteWaitTimeout k vc2))

/-- SPAN_FABRIC_STOP (R230). -/
def execSpanFabricStop (s : State) : Host.Outcome State Fault Refusal :=
  .next (s.guarded onSpanFabricStop)

/-- BYPASS_ENTER (R230). -/
def execBypassEnter (s : State) : Host.Outcome State Fault Refusal :=
  .next (onBypassEnter s)

/-- BYPASS_EXIT (R230). -/
def execBypassExit (s : State) : Host.Outcome State Fault Refusal :=
  .next (s.guarded onBypassExit)

/-- PROBE (R220). -/
def execProbe (s : State) : Host.Outcome State Fault Refusal :=
  .next (s.guarded onProbe)

/-- ANNOUNCE (R220). -/
def execAnnounce (s : State) : Host.Outcome State Fault Refusal :=
  .next (s.guarded onAnnounce)

/-- ASSIGN (R220). -/
def execAssign (s : State) : Host.Outcome State Fault Refusal :=
  .next (s.guarded onAssign)

/-- HELLO (R220). -/
def execHello (s : State) : Host.Outcome State Fault Refusal :=
  .next (s.guarded onHello)

/-- LINKS (R220). -/
def execLinks (s : State) : Host.Outcome State Fault Refusal :=
  .next (s.guarded onLinks)

/-- SETTLE_EXPIRY (R223). -/
def execSettleExpiry (s : State) : Host.Outcome State Fault Refusal :=
  .next (s.guarded onSettleExpiry)

/-- ROUTES (R225). -/
def execRoutes (s : State) : Host.Outcome State Fault Refusal :=
  .next (s.guarded onRoutes)

/-- REG_READ (R217). -/
def execRegRead (s : State) : Host.Outcome State Fault Refusal :=
  .next (s.guarded onRegRead)

/-- REG_WRITE (R217). -/
def execRegWrite (s : State) : Host.Outcome State Fault Refusal :=
  .next (s.guarded onRegWrite)

/-- NOTIFY (R59). -/
def execNotify (s : State) : Host.Outcome State Fault Refusal :=
  .next (s.guarded onNotify)

/-- SUBSCRIBE (R229). -/
def execSubscribe (s : State) : Host.Outcome State Fault Refusal :=
  .next (s.guarded onSubscribe)

/-- SUBSCRIBE_SEND (R229). -/
def execSubscribeSend (k : Fin 16) (s : State) : Host.Outcome State Fault Refusal :=
  .next (s.guarded (onSubscribeSend k))

/-- REFRESH_REQ (R166). -/
def execRefreshReq (s : State) : Host.Outcome State Fault Refusal :=
  .next (s.guarded onRefreshReq)

/-- MESSAGE_RESPONSE (R216). -/
def execMessageResponse (s : State) : Host.Outcome State Fault Refusal :=
  .next (s.guarded onMessageResponse)

/-- E2E_TIMEOUT (R216). -/
def execE2eTimeout (s : State) : Host.Outcome State Fault Refusal :=
  .next (s.guarded onE2eTimeout)

/-- CMD_VIA_DISCOVER (R219). -/
def execCmdViaDiscover (q : Fin 24) (tag : Nat) (s : State) : Host.Outcome State Fault Refusal :=
  .next (s.guarded (onCmdViaDiscover q tag))

/-- CMD_VIA_ASSIGN (R222). -/
def execCmdViaAssign (q : Fin 24) (tag : Nat) (s : State) : Host.Outcome State Fault Refusal :=
  .next (s.guarded (onCmdViaAssign q tag))

/-- CMD_VIA_ROUTES (R225). -/
def execCmdViaRoutes (q : Fin 24) (tag : Nat) (s : State) : Host.Outcome State Fault Refusal :=
  .next (s.guarded (onCmdViaRoutes q tag))

/-- CMD_VIA_FORGET (R223). -/
def execCmdViaForget (q : Fin 24) (tag : Nat) (s : State) : Host.Outcome State Fault Refusal :=
  .next (s.guarded (onCmdViaForget q tag))

/-- CMD_VIA_REG (R246). -/
def execCmdViaReg (q : Fin 24) (tag : Nat) (s : State) : Host.Outcome State Fault Refusal :=
  .next (s.guarded (onCmdViaReg q tag))

/-- TIME_PLANK_SEND (R235). -/
def execTimePlankSend (k : Fin 16) (sub : Fin 16) (s : State) : Host.Outcome State Fault Refusal :=
  .next (s.guarded (onTimePlankSend k sub))

/-- TIME_PLANK (R236). -/
def execTimePlank (k : Fin 16) (sub : Fin 16) (blocks : List Block) (s : State) : Host.Outcome State Fault Refusal :=
  .next (s.guarded (onTimePlank k sub blocks))

/-- OFFER_EXPIRY (R237). -/
def execOfferExpiry (k : Fin 16) (s : State) : Host.Outcome State Fault Refusal :=
  .next (s.guarded (onOfferExpiry k))

/-- HOLDOVER_EXPIRY (R238). -/
def execHoldoverExpiry (s : State) : Host.Outcome State Fault Refusal :=
  .next (s.guarded onHoldoverExpiry)

/-- WALL_TIME_WRITE (R240). -/
def execWallTimeWrite (p : Path) (v : Word) (s : State) : Host.Outcome State Fault Refusal :=
  .next (s.guarded (onWallTimeWrite p v))

/-- FT_SYNC_EDGE (R233). -/
def execFtSyncEdge (s : State) : Host.Outcome State Fault Refusal :=
  .next (s.guarded onFtSyncEdge)

/-- SLICE_DECODE_START (R247). -/
def execSliceDecodeStart (s : State) : Host.Outcome State Fault Refusal :=
  .next (s.guarded onSliceDecodeStart)

/-- SLICE_DECODE_DONE (R258). -/
def execSliceDecodeDone (idx : Nat) (bound : Option Nat) (s : State) : Host.Outcome State Fault Refusal :=
  .next (s.guarded (onSliceDecodeDone idx bound))

/-- CMD_DEC_REQUEST (R265). -/
def execCmdDecRequest (q : Fin 24) (tag : Nat) (s : State) : Host.Outcome State Fault Refusal :=
  .next (s.guarded (onCmdDecRequest q tag))

/-- CMD_CMP_COMMIT (R275). -/
def execCmdCmpCommit (q : Fin 24) (tag : Nat) (s : State) : Host.Outcome State Fault Refusal :=
  .next (s.guarded (onCmdCmpCommit q tag))

/-- CMD_CMP_ALLOC (R286). -/
def execCmdCmpAlloc (q : Fin 24) (tag : Nat) (s : State) : Host.Outcome State Fault Refusal :=
  .next (s.guarded (onCmdCmpAlloc q tag))

/-- CMD_CMP_WRITE (R287). -/
def execCmdCmpWrite (q : Fin 24) (tag : Nat) (s : State) : Host.Outcome State Fault Refusal :=
  .next (s.guarded (onCmdCmpWrite q tag))

/-- CMD_CMP_FREE (R288). -/
def execCmdCmpFree (q : Fin 24) (tag : Nat) (s : State) : Host.Outcome State Fault Refusal :=
  .next (s.guarded (onCmdCmpFree q tag))

/-- CMD_CMP_LUT (R280). -/
def execCmdCmpLut (q : Fin 24) (tag : Nat) (s : State) : Host.Outcome State Fault Refusal :=
  .next (s.guarded (onCmdCmpLut q tag))

/-- CMD_CMP_PARAPET (R284). -/
def execCmdCmpParapet (q : Fin 24) (tag : Nat) (s : State) : Host.Outcome State Fault Refusal :=
  .next (s.guarded (onCmdCmpParapet q tag))

/-- BAND_COMPOSE (R289). -/
def execBandCompose (k : Nat) (s : State) : Host.Outcome State Fault Refusal :=
  .next (s.guarded (onBandCompose k))

/-- BAND_RECOMPOSE (R293). -/
def execBandRecompose (s : State) : Host.Outcome State Fault Refusal :=
  .next (s.guarded onBandRecompose)

/-- CMD_COR_LOAD (R316). -/
def execCmdCorLoad (q : Fin 24) (tag : Nat) (s : State) : Host.Outcome State Fault Refusal :=
  .next (s.guarded (onCmdCorLoad q tag))

/-- COR_IMAGE_COMPLETE (R316). -/
def execCorImageComplete (s : State) : Host.Outcome State Fault Refusal :=
  .next (s.guarded onCorImageComplete)

/-- CMD_COR_PATCH (R318). -/
def execCmdCorPatch (q : Fin 24) (tag : Nat) (s : State) : Host.Outcome State Fault Refusal :=
  .next (s.guarded (onCmdCorPatch q tag))

/-- REFRESH_START (R331). -/
def execRefreshStart (s : State) : Host.Outcome State Fault Refusal :=
  .next (s.guarded onRefreshStart)

/-- ROW_SLOT_START (R332). -/
def execRowSlotStart (under : Bool) (mis : List (Nat × Nat × Nat)) (flags : List Nat) (bad : List Nat) (s : State) : Host.Outcome State Fault Refusal :=
  .next (s.guarded (onRowSlotStart under mis flags bad))

/-- TE_RISE (R346). -/
def execTeRise (f : Fin 16) (s : State) : Host.Outcome State Fault Refusal :=
  .next (s.guarded (onTeRise f))

/-- TE_WINDOW_EXPIRY (R346). -/
def execTeWindowExpiry (f : Fin 16) (s : State) : Host.Outcome State Fault Refusal :=
  .next (s.guarded (onTeWindowExpiry f))

/-- THERM_SAMPLE (R343). -/
def execThermSample (xs : List Nat) (s : State) : Host.Outcome State Fault Refusal :=
  .next (s.guarded (onThermSample xs))

/-- TJ_SAMPLE (R344). -/
def execTjSample (t : Int) (s : State) : Host.Outcome State Fault Refusal :=
  .next (s.guarded (onTjSample t))

/-- TJ_COOLDOWN_EXPIRY (R344). -/
def execTjCooldownExpiry (s : State) : Host.Outcome State Fault Refusal :=
  .next (s.guarded onTjCooldownExpiry)

/-- CMD_STR_IREF_TRIM (R342). -/
def execCmdStrIrefTrim (q : Fin 24) (tag : Nat) (s : State) : Host.Outcome State Fault Refusal :=
  .next (s.guarded (onCmdStrIrefTrim q tag))

/-- IREF_TRIM_DONE (R342). -/
def execIrefTrimDone (gain : Fin 256) (ratio : Fin 256) (s : State) : Host.Outcome State Fault Refusal :=
  .next (s.guarded (onIrefTrimDone gain ratio))

/-- CADENCE_DECISION (R356). -/
def execCadenceDecision (s : State) : Host.Outcome State Fault Refusal :=
  .next (s.guarded onCadenceDecision)

/-- VOTE_WAIT_EXPIRY (R426). -/
def execVoteWaitExpiry (s : State) : Host.Outcome State Fault Refusal :=
  .next (s.guarded onVoteWaitExpiry)

/-- CLOSURE_ISSUE (R426). -/
def execClosureIssue (s : State) : Host.Outcome State Fault Refusal :=
  .next (s.guarded onClosureIssue)

/-- PROPOSE (R426). -/
def execPropose (s : State) : Host.Outcome State Fault Refusal :=
  .next (s.guarded onPropose)

/-- CLOSURE (R428). -/
def execClosure (s : State) : Host.Outcome State Fault Refusal :=
  .next (s.guarded onClosure)

/-- EPOCH_START (R379). -/
def execEpochStart (s : State) : Host.Outcome State Fault Refusal :=
  .next (s.guarded onEpochStart)

/-- PROBE_ROUND_START (R381). -/
def execProbeRoundStart (s : State) : Host.Outcome State Fault Refusal :=
  .next (s.guarded onProbeRoundStart)

/-- PIN_TEST_REQUEST (R382). -/
def execPinTestRequest (s : State) : Host.Outcome State Fault Refusal :=
  .next (s.guarded onPinTestRequest)

/-- PIN_TEST_END (R382). -/
def execPinTestEnd (s : State) : Host.Outcome State Fault Refusal :=
  .next (s.guarded onPinTestEnd)

/-- CMD_DIA_PIN_TEST (R382). -/
def execCmdDiaPinTest (q : Fin 24) (tag : Nat) (s : State) : Host.Outcome State Fault Refusal :=
  .next (s.guarded (onCmdDiaPinTest q tag))

/-- DIA_OP_REMOVE (R385). -/
def execDiaOpRemove (q : Fin 24) (tag : Nat) (s : State) : Host.Outcome State Fault Refusal :=
  .next (s.guarded (onDiaOpRemove q tag))

/-- DIA_OP_RESTORE (R385). -/
def execDiaOpRestore (q : Fin 24) (tag : Nat) (s : State) : Host.Outcome State Fault Refusal :=
  .next (s.guarded (onDiaOpRestore q tag))

/-- DIA_OP_FORGET (R385). -/
def execDiaOpForget (q : Fin 24) (tag : Nat) (s : State) : Host.Outcome State Fault Refusal :=
  .next (s.guarded (onDiaOpForget q tag))

/-- CMD_DIA_READ (R377). -/
def execCmdDiaRead (q : Fin 24) (tag : Nat) (s : State) : Host.Outcome State Fault Refusal :=
  .next (s.guarded (onCmdDiaRead q tag))

/-- REMOVED_SAVE (R386). -/
def execRemovedSave (s : State) : Host.Outcome State Fault Refusal :=
  .next (s.guarded onRemovedSave)

/-- MEM_TRAINING_DONE (R392). -/
def execMemTrainingDone (pops : List ChannelPop) (s : State) : Host.Outcome State Fault Refusal :=
  .next (s.guarded (onMemTrainingDone pops))

/-- DRAM_REFRESH_DUE (R398). -/
def execDramRefreshDue (c : Fin 4) (rank : Fin 16) (bank : Fin 4) (panic : Bool) (s : State) : Host.Outcome State Fault Refusal :=
  .next (s.guarded (onDramRefreshDue c rank bank panic))

/-- MEM_SENSOR_READ (R398). -/
def execMemSensorRead (temps : List Nat) (s : State) : Host.Outcome State Fault Refusal :=
  .next (s.guarded (onMemSensorRead temps))

/-- NEIGHBOUR_REFRESH (R399). -/
def execNeighbourRefresh (c : Fin 4) (s : State) : Host.Outcome State Fault Refusal :=
  .next (s.guarded (onNeighbourRefresh c))

/-- RANK_RETRAIN_DUE (R400). -/
def execRankRetrainDue (c : Fin 4) (rank : Fin 16) (panic : Bool) (s : State) : Host.Outcome State Fault Refusal :=
  .next (s.guarded (onRankRetrainDue c rank panic))

/-- MEM_REQUEST_TIMEOUT (R402). -/
def execMemRequestTimeout (port : Fin 8) (line : Nat) (write : Bool) (s : State) : Host.Outcome State Fault Refusal :=
  .next (s.guarded (onMemRequestTimeout port line write))

/-- CE_HOUR_BOUNDARY (R403). -/
def execCeHourBoundary (s : State) : Host.Outcome State Fault Refusal :=
  .next (s.guarded onCeHourBoundary)

/-- MEM_PATROL_SCRUB (R405). -/
def execMemPatrolScrub (line : Nat) (flips : List BitAt) (s : State) : Host.Outcome State Fault Refusal :=
  .next (s.guarded (onMemPatrolScrub line flips))

/-- DECK_SCRUB (R409). -/
def execDeckScrub (word : Nat) (err : Fin 3) (s : State) : Host.Outcome State Fault Refusal :=
  .next (s.guarded (onDeckScrub word err))

/-- CMD_MEM_WRITE (R410). -/
def execCmdMemWrite (q : Fin 24) (tag : Nat) (s : State) : Host.Outcome State Fault Refusal :=
  .next (s.guarded (onCmdMemWrite q tag))

/-- CMD_MEM_READ (R410). -/
def execCmdMemRead (q : Fin 24) (tag : Nat) (errs : List (Nat × List BitAt)) (s : State) : Host.Outcome State Fault Refusal :=
  .next (s.guarded (onCmdMemRead q tag errs))

/-- LEDGER_AUDIT (R418). -/
def execLedgerAudit (s : State) : Host.Outcome State Fault Refusal :=
  .next (s.guarded onLedgerAudit)

/-- CMD_LDG_AUDIT (R424). -/
def execCmdLdgAudit (q : Fin 24) (tag : Nat) (s : State) : Host.Outcome State Fault Refusal :=
  .next (s.guarded (onCmdLdgAudit q tag))

/-- LEASE_PLANK (R432). -/
def execLeasePlank (k : Fin 16) (blocks : List Block) (s : State) : Host.Outcome State Fault Refusal :=
  .next (s.guarded (onLeasePlank k blocks))

/-- LEASE_ACK (R431). -/
def execLeaseAck (s : State) : Host.Outcome State Fault Refusal :=
  .next (s.guarded onLeaseAck)

/-- LEASE_EXPIRY (R433). -/
def execLeaseExpiry (e : Fin 16) (s : State) : Host.Outcome State Fault Refusal :=
  .next (s.guarded (onLeaseExpiry e))

/-- LEASE_CLAIM (R434). -/
def execLeaseClaim (e : Fin 16) (s : State) : Host.Outcome State Fault Refusal :=
  .next (s.guarded (onLeaseClaim e))

/-- CLAIM_GAP_EXPIRY (R434). -/
def execClaimGapExpiry (e : Fin 16) (s : State) : Host.Outcome State Fault Refusal :=
  .next (s.guarded (onClaimGapExpiry e))

/-- CMD_RED_HANDOVER (R439). -/
def execCmdRedHandover (q : Fin 24) (tag : Nat) (s : State) : Host.Outcome State Fault Refusal :=
  .next (s.guarded (onCmdRedHandover q tag))

/-- HANDOVER_REQ (R439). -/
def execHandoverReq (s : State) : Host.Outcome State Fault Refusal :=
  .next (s.guarded onHandoverReq)

/-- HANDOVER_DONE (R439). -/
def execHandoverDone (s : State) : Host.Outcome State Fault Refusal :=
  .next (s.guarded onHandoverDone)

/-- HANDOVER_TIMEOUT (R439). -/
def execHandoverTimeout (s : State) : Host.Outcome State Fault Refusal :=
  .next (s.guarded onHandoverTimeout)

/-- POWER_ON (R447). -/
def execPowerOn (vddq : Bool) (strands : Bool) (s : State) : Host.Outcome State Fault Refusal :=
  .next (onPowerOn vddq strands s)

/-- DEVICE_RESET_END (R447). -/
def execDeviceResetEnd (s : State) : Host.Outcome State Fault Refusal :=
  .next (onDeviceResetEnd s)

/-- ROOT_PLL_LOCK (R461). -/
def execRootPllLock (s : State) : Host.Outcome State Fault Refusal :=
  .next (s.guarded onRootPllLock)

/-- RESET_PIN (R453). -/
def execResetPin (s : State) : Host.Outcome State Fault Refusal :=
  .next (onResetPin s)

/-- ROOT_PLL_LOSS (R453). -/
def execRootPllLoss (s : State) : Host.Outcome State Fault Refusal :=
  .next (s.guarded onRootPllLoss)

/-- GLB_RESET_WRITE (R516). -/
def execGlbResetWrite (p : Path) (v : Word) (s : State) : Host.Outcome State Fault Refusal :=
  .next (s.guarded (onGlbResetWrite p v))

/-- SUPPLY_WARN (R449). -/
def execSupplyWarn (v : Fin 8) (mv : Nat) (s : State) : Host.Outcome State Fault Refusal :=
  .next (s.guarded (onSupplyWarn v mv))

/-- SUPPLY_RECOVER (R450). -/
def execSupplyRecover (low : List Nat) (s : State) : Host.Outcome State Fault Refusal :=
  .next (s.guarded (onSupplyRecover low))

/-- SUPPLY_RESET (R451). -/
def execSupplyReset (v : Fin 8) (s : State) : Host.Outcome State Fault Refusal :=
  .next (onSupplyReset v s)

/-- STRAND_SUPPLY_RISE (R447). -/
def execStrandSupplyRise (s : State) : Host.Outcome State Fault Refusal :=
  .next (s.guarded onStrandSupplyRise)

/-- CMD_PWR_STATE (R454). -/
def execCmdPwrState (q : Fin 24) (tag : Nat) (s : State) : Host.Outcome State Fault Refusal :=
  .next (s.guarded (onCmdPwrState q tag))

/-- CMD_PWR_WAKE (R456). -/
def execCmdPwrWake (q : Fin 24) (tag : Nat) (s : State) : Host.Outcome State Fault Refusal :=
  .next (s.guarded (onCmdPwrWake q tag))

/-- WAKE_PIN (R456). -/
def execWakePin (s : State) : Host.Outcome State Fault Refusal :=
  .next (onWakePin s)

/-- WAKE_MATCH (R456). -/
def execWakeMatch (k : Fin 16) (blocks : List (Nat × Block)) (s : State) : Host.Outcome State Fault Refusal :=
  .next (onWakeMatch k blocks s)

/-- CADENCE_START (R462). -/
def execCadenceStart (bad : List Nat) (s : State) : Host.Outcome State Fault Refusal :=
  .next (s.guarded (onCadenceStart bad))

/-- BANDGAP_CHECK (R464). -/
def execBandgapCheck (dev : Int) (s : State) : Host.Outcome State Fault Refusal :=
  .next (s.guarded (onBandgapCheck dev))

/-- CMD_FWU_WRITE (R481). -/
def execCmdFwuWrite (q : Fin 24) (tag : Nat) (s : State) : Host.Outcome State Fault Refusal :=
  .next (s.guarded (onCmdFwuWrite q tag))

/-- CMD_FWU_FORWARD (R477). -/
def execCmdFwuForward (q : Fin 24) (tag : Nat) (s : State) : Host.Outcome State Fault Refusal :=
  .next (s.guarded (onCmdFwuForward q tag))

/-- CMD_FWU_ACTIVATE (R478). -/
def execCmdFwuActivate (q : Fin 24) (tag : Nat) (s : State) : Host.Outcome State Fault Refusal :=
  .next (s.guarded (onCmdFwuActivate q tag))

/-- CMD_FWU_CANCEL (R478). -/
def execCmdFwuCancel (q : Fin 24) (tag : Nat) (s : State) : Host.Outcome State Fault Refusal :=
  .next (s.guarded (onCmdFwuCancel q tag))

/-- CMD_FWU_COMMIT (R472). -/
def execCmdFwuCommit (q : Fin 24) (tag : Nat) (s : State) : Host.Outcome State Fault Refusal :=
  .next (s.guarded (onCmdFwuCommit q tag))

/-- CMD_FWU_FALLBACK (R472). -/
def execCmdFwuFallback (q : Fin 24) (tag : Nat) (s : State) : Host.Outcome State Fault Refusal :=
  .next (s.guarded (onCmdFwuFallback q tag))

/-- CMD_FWU_SVN_RAISE (R483). -/
def execCmdFwuSvnRaise (q : Fin 24) (tag : Nat) (s : State) : Host.Outcome State Fault Refusal :=
  .next (s.guarded (onCmdFwuSvnRaise q tag))

/-- FW_COMMIT_TIMER (R472). -/
def execFwCommitTimer (s : State) : Host.Outcome State Fault Refusal :=
  .next (s.guarded onFwCommitTimer)

/-- OFFER (R476). -/
def execOffer (s : State) : Host.Outcome State Fault Refusal :=
  .next (s.guarded onOffer)

/-- CHUNK (R476). -/
def execChunk (bad : Fin 3) (s : State) : Host.Outcome State Fault Refusal :=
  .next (s.guarded (onChunk bad))

/-- END (R476). -/
def execFwuEnd (s : State) : Host.Outcome State Fault Refusal :=
  .next (s.guarded onFwuEnd)

/-- ACTIVATE (R478). -/
def execActivate (s : State) : Host.Outcome State Fault Refusal :=
  .next (s.guarded onActivate)

/-- OFFER_RETRY (R477). -/
def execOfferRetry (s : State) : Host.Outcome State Fault Refusal :=
  .next (s.guarded onOfferRetry)

/-- RECOVER_REQ (R480). -/
def execRecoverReq (s : State) : Host.Outcome State Fault Refusal :=
  .next (s.guarded onRecoverReq)

/-- RECOVER_REQ_SEND (R480). -/
def execRecoverReqSend (s : State) : Host.Outcome State Fault Refusal :=
  .next (s.guarded onRecoverReqSend)

/-- FWU_RECOVER_GO (R480). -/
def execFwuRecoverGo (p : Path) (v : Word) (bad : Fin 3) (s : State) : Host.Outcome State Fault Refusal :=
  .next (s.guarded (onFwuRecoverGo p v bad))

/-- CHK_PRESET_WRITE (R486). -/
def execChkPresetWrite (p : Path) (u : Fin 32) (v : Word) (s : State) : Host.Outcome State Fault Refusal :=
  .next (s.guarded (onChkPresetWrite p u v))

/-- CHK_FEED (R488). -/
def execChkFeed (p : Path) (u : Fin 32) (v : Word) (s : State) : Host.Outcome State Fault Refusal :=
  .next (s.guarded (onChkFeed p u v))

/-- CHK_FEED1 (R488). -/
def execChkFeed1 (p : Path) (u : Fin 32) (v : Word) (s : State) : Host.Outcome State Fault Refusal :=
  .next (s.guarded (onChkFeed1 p u v))

/-- CHK_LOAD (R488). -/
def execChkLoad (p : Path) (u : Fin 32) (v : Word) (s : State) : Host.Outcome State Fault Refusal :=
  .next (s.guarded (onChkLoad p u v))

/-- CHK_RUN_COMPUTE (R489). -/
def execChkRunCompute (q : Fin 24) (tag : Nat) (s : State) : Host.Outcome State Fault Refusal :=
  .next (s.guarded (onChkRunCompute q tag))

/-- CHK_RUN_APPEND (R489). -/
def execChkRunAppend (q : Fin 24) (tag : Nat) (s : State) : Host.Outcome State Fault Refusal :=
  .next (s.guarded (onChkRunAppend q tag))

/-- CHK_RUN_CHECK (R489). -/
def execChkRunCheck (q : Fin 24) (tag : Nat) (s : State) : Host.Outcome State Fault Refusal :=
  .next (s.guarded (onChkRunCheck q tag))

/-- CHK_RUN_CHECK_STRIP (R489). -/
def execChkRunCheckStrip (q : Fin 24) (tag : Nat) (s : State) : Host.Outcome State Fault Refusal :=
  .next (s.guarded (onChkRunCheckStrip q tag))

/-- GPIO_SET (R517). -/
def execGpioSet (p : Path) (v : Word) (s : State) : Host.Outcome State Fault Refusal :=
  .next (s.guarded (onGpioSet p v))

/-- GPIO_CLR (R517). -/
def execGpioClr (p : Path) (v : Word) (s : State) : Host.Outcome State Fault Refusal :=
  .next (s.guarded (onGpioClr p v))

/-- PCIE_LINK_CHANGE (R46). -/
def execPcieLinkChange (up : Bool) (s : State) : Host.Outcome State Fault Refusal :=
  .next (onPcieLinkChange up s)

/-- SUPPLY_RETURN_AFTER_RESET (R451). -/
def execSupplyReturnAfterReset (v : Fin 8) (s : State) : Host.Outcome State Fault Refusal :=
  .next (onSupplyReturnAfterReset v s)

/-- FWU_ACTIVATE_AT (R479). -/
def execFwuActivateAt (s : State) : Host.Outcome State Fault Refusal :=
  .next (s.guarded onFwuActivateAt)

end Sys2Proof.Machine
end

