-- ==== Sys2Proof/Machine/Dispatch.lean ====
section
/-! DEFINITION. The dispatcher: one arm for every command, each one call of its meaning. -/

namespace Sys2Proof.Machine

def exec (i : Instr) (s : State) : Host.Outcome State Fault Refusal :=
  match i with
  | .registerWrite p addr bytes => Sys2Proof.Machine.execRegisterWrite p addr bytes s
  | .readClear p addr width meets => Sys2Proof.Machine.execReadClear p addr width meets s
  | .pairLoRead p addr => Sys2Proof.Machine.execPairLoRead p addr s
  | .pairLoWrite p addr v => Sys2Proof.Machine.execPairLoWrite p addr v s
  | .pairHiWrite p addr v => Sys2Proof.Machine.execPairHiWrite p addr v s
  | .bar2Read addr width => Sys2Proof.Machine.execBar2Read addr width s
  | .bar2Write addr bytes => Sys2Proof.Machine.execBar2Write addr bytes s
  | .deckDataRead p => Sys2Proof.Machine.execDeckDataRead p s
  | .deckDataWrite p v => Sys2Proof.Machine.execDeckDataWrite p v s
  | .portDisable p port => Sys2Proof.Machine.execPortDisable p port s
  | .portEnable p port => Sys2Proof.Machine.execPortEnable p port s
  | .queueEnable p q v => Sys2Proof.Machine.execQueueEnable p q v s
  | .queueDisable p q v => Sys2Proof.Machine.execQueueDisable p q v s
  | .eventRingEnable p ring v => Sys2Proof.Machine.execEventRingEnable p ring v s
  | .eventRingDisable p ring v => Sys2Proof.Machine.execEventRingDisable p ring v s
  | .sqDoorbell p q v => Sys2Proof.Machine.execSqDoorbell p q v s
  | .cqHeadWrite p q v => Sys2Proof.Machine.execCqHeadWrite p q v s
  | .evHeadWrite p ring v => Sys2Proof.Machine.execEvHeadWrite p ring v s
  | .commandFetch => Sys2Proof.Machine.execCommandFetch s
  | .commandStartAtTime q tag => Sys2Proof.Machine.execCommandStartAtTime q tag s
  | .cmdNop q tag => Sys2Proof.Machine.execCmdNop q tag s
  | .cmdAbort q tag => Sys2Proof.Machine.execCmdAbort q tag s
  | .safePointStop q tag n => Sys2Proof.Machine.execSafePointStop q tag n s
  | .fnReset p n v => Sys2Proof.Machine.execFnReset p n v s
  | .fnResetDone n => Sys2Proof.Machine.execFnResetDone n s
  | .modeFollow n => Sys2Proof.Machine.execModeFollow n s
  | .assistLate n period => Sys2Proof.Machine.execAssistLate n period s
  | .decideCfg q tag => Sys2Proof.Machine.execDecideCfg q tag s
  | .decideIngSdi q tag => Sys2Proof.Machine.execDecideIngSdi q tag s
  | .decidePtp q tag => Sys2Proof.Machine.execDecidePtp q tag s
  | .decideRate q tag => Sys2Proof.Machine.execDecideRate q tag s
  | .decideEnc q tag => Sys2Proof.Machine.execDecideEnc q tag s
  | .decideLnk q tag => Sys2Proof.Machine.execDecideLnk q tag s
  | .decideSpan q tag => Sys2Proof.Machine.execDecideSpan q tag s
  | .decideTim q tag => Sys2Proof.Machine.execDecideTim q tag s
  | .decideDec q tag => Sys2Proof.Machine.execDecideDec q tag s
  | .decideCmp q tag => Sys2Proof.Machine.execDecideCmp q tag s
  | .decideCor q tag => Sys2Proof.Machine.execDecideCor q tag s
  | .decideStr q tag => Sys2Proof.Machine.execDecideStr q tag s
  | .decideTherm q tag => Sys2Proof.Machine.execDecideTherm q tag s
  | .decideDia q tag => Sys2Proof.Machine.execDecideDia q tag s
  | .decideMem q tag => Sys2Proof.Machine.execDecideMem q tag s
  | .decideDeck q tag => Sys2Proof.Machine.execDecideDeck q tag s
  | .decideLdg q tag => Sys2Proof.Machine.execDecideLdg q tag s
  | .decideRed q tag => Sys2Proof.Machine.execDecideRed q tag s
  | .decidePwr q tag => Sys2Proof.Machine.execDecidePwr q tag s
  | .bayFault b lsram => Sys2Proof.Machine.execBayFault b lsram s
  | .bayWatchdog b => Sys2Proof.Machine.execBayWatchdog b s
  | .bayLoadDone b ok => Sys2Proof.Machine.execBayLoadDone b ok s
  | .tollhouseRestart => Sys2Proof.Machine.execTollhouseRestart s
  | .tollhouseRestartEnd => Sys2Proof.Machine.execTollhouseRestartEnd s
  | .tollhouseStart => Sys2Proof.Machine.execTollhouseStart s
  | .commitWindowClose => Sys2Proof.Machine.execCommitWindowClose s
  | .frameStart bad => Sys2Proof.Machine.execFrameStart bad s
  | .provisionalStart bad => Sys2Proof.Machine.execProvisionalStart bad s
  | .cmdCfgStage q tag => Sys2Proof.Machine.execCmdCfgStage q tag s
  | .cmdCfgStageFlash q tag => Sys2Proof.Machine.execCmdCfgStageFlash q tag s
  | .cmdCfgVerify q tag => Sys2Proof.Machine.execCmdCfgVerify q tag s
  | .cmdCfgApply q tag => Sys2Proof.Machine.execCmdCfgApply q tag s
  | .cmdCfgSvnRaise q tag => Sys2Proof.Machine.execCmdCfgSvnRaise q tag s
  | .cfgApplyNoCadence => Sys2Proof.Machine.execCfgApplyNoCadence s
  | .cfgAutoload => Sys2Proof.Machine.execCfgAutoload s
  | .sdiLock idx std f => Sys2Proof.Machine.execSdiLock idx std f s
  | .sdiLockLoss idx => Sys2Proof.Machine.execSdiLockLoss idx s
  | .flowTimeout k => Sys2Proof.Machine.execFlowTimeout k s
  | .sourceFrameComplete idx crcErr overflow => Sys2Proof.Machine.execSourceFrameComplete idx crcErr overflow s
  | .sourceFrameStart idx rows => Sys2Proof.Machine.execSourceFrameStart idx rows s
  | .ancPacket idx bytes full => Sys2Proof.Machine.execAncPacket idx bytes full s
  | .ethPacket e p => Sys2Proof.Machine.execEthPacket e p s
  | .ptpMessage e m => Sys2Proof.Machine.execPtpMessage e m s
  | .igmpJoin k => Sys2Proof.Machine.execIgmpJoin k s
  | .igmpQuery e => Sys2Proof.Machine.execIgmpQuery e s
  | .arpRequest e ip => Sys2Proof.Machine.execArpRequest e ip s
  | .sliceRowDeadline l row written => Sys2Proof.Machine.execSliceRowDeadline l row written s
  | .cmdIngPlay q tag => Sys2Proof.Machine.execCmdIngPlay q tag s
  | .sliceAllocate l c written => Sys2Proof.Machine.execSliceAllocate l c written s
  | .sliceEncodeDone l c row blocks lost => Sys2Proof.Machine.execSliceEncodeDone l c row blocks lost s
  | .encOverrun l written => Sys2Proof.Machine.execEncOverrun l written s
  | .cmdEncRefresh q tag => Sys2Proof.Machine.execCmdEncRefresh q tag s
  | .cdrLock k => Sys2Proof.Machine.execCdrLock k s
  | .blockLock k lanes => Sys2Proof.Machine.execBlockLock k lanes s
  | .blockLockLoss lane heads => Sys2Proof.Machine.execBlockLockLoss lane heads s
  | .bringupTimeout k => Sys2Proof.Machine.execBringupTimeout k s
  | .waitEnd k => Sys2Proof.Machine.execWaitEnd k s
  | .capPlankSend k => Sys2Proof.Machine.execCapPlankSend k s
  | .capPlank k blocks => Sys2Proof.Machine.execCapPlank k blocks s
  | .stepPropose k blocks => Sys2Proof.Machine.execStepPropose k blocks s
  | .stepTxreq k blocks => Sys2Proof.Machine.execStepTxreq k blocks s
  | .eyeCheckDone k points => Sys2Proof.Machine.execEyeCheckDone k points s
  | .stepResult k blocks => Sys2Proof.Machine.execStepResult k blocks s
  | .stepTimeout k => Sys2Proof.Machine.execStepTimeout k s
  | .spanEnableWrite p k v => Sys2Proof.Machine.execSpanEnableWrite p k v s
  | .spanRetrainWrite p k => Sys2Proof.Machine.execSpanRetrainWrite p k s
  | .cmdSpanRetrain q tag => Sys2Proof.Machine.execCmdSpanRetrain q tag s
  | .spanInject p k v => Sys2Proof.Machine.execSpanInject p k v s
  | .laneInjectOne p lane => Sys2Proof.Machine.execLaneInjectOne p lane s
  | .prbsLock lane l => Sys2Proof.Machine.execPrbsLock lane l s
  | .eyeScanStart p lane v => Sys2Proof.Machine.execEyeScanStart p lane v s
  | .eyeScanDone lane count => Sys2Proof.Machine.execEyeScanDone lane count s
  | .fecUncorrectable lane symbols => Sys2Proof.Machine.execFecUncorrectable lane symbols s
  | .plankSend k sub => Sys2Proof.Machine.execPlankSend k sub s
  | .linkPlankSend k => Sys2Proof.Machine.execLinkPlankSend k s
  | .linkPlank k blocks => Sys2Proof.Machine.execLinkPlank k blocks s
  | .dataPlank k blocks => Sys2Proof.Machine.execDataPlank k blocks s
  | .vc1Plank k blocks => Sys2Proof.Machine.execVc1Plank k blocks s
  | .replayTimeout k vc2 => Sys2Proof.Machine.execReplayTimeout k vc2 s
  | .vc1StallTimeout k => Sys2Proof.Machine.execVc1StallTimeout k s
  | .routeWaitTimeout k vc2 => Sys2Proof.Machine.execRouteWaitTimeout k vc2 s
  | .spanFabricStop => Sys2Proof.Machine.execSpanFabricStop s
  | .bypassEnter => Sys2Proof.Machine.execBypassEnter s
  | .bypassExit => Sys2Proof.Machine.execBypassExit s
  | .probe => Sys2Proof.Machine.execProbe s
  | .announce => Sys2Proof.Machine.execAnnounce s
  | .assign => Sys2Proof.Machine.execAssign s
  | .hello => Sys2Proof.Machine.execHello s
  | .links => Sys2Proof.Machine.execLinks s
  | .settleExpiry => Sys2Proof.Machine.execSettleExpiry s
  | .routes => Sys2Proof.Machine.execRoutes s
  | .regRead => Sys2Proof.Machine.execRegRead s
  | .regWrite => Sys2Proof.Machine.execRegWrite s
  | .notify => Sys2Proof.Machine.execNotify s
  | .subscribe => Sys2Proof.Machine.execSubscribe s
  | .subscribeSend k => Sys2Proof.Machine.execSubscribeSend k s
  | .refreshReq => Sys2Proof.Machine.execRefreshReq s
  | .messageResponse => Sys2Proof.Machine.execMessageResponse s
  | .e2eTimeout => Sys2Proof.Machine.execE2eTimeout s
  | .cmdViaDiscover q tag => Sys2Proof.Machine.execCmdViaDiscover q tag s
  | .cmdViaAssign q tag => Sys2Proof.Machine.execCmdViaAssign q tag s
  | .cmdViaRoutes q tag => Sys2Proof.Machine.execCmdViaRoutes q tag s
  | .cmdViaForget q tag => Sys2Proof.Machine.execCmdViaForget q tag s
  | .cmdViaReg q tag => Sys2Proof.Machine.execCmdViaReg q tag s
  | .timePlankSend k sub => Sys2Proof.Machine.execTimePlankSend k sub s
  | .timePlank k sub blocks => Sys2Proof.Machine.execTimePlank k sub blocks s
  | .offerExpiry k => Sys2Proof.Machine.execOfferExpiry k s
  | .holdoverExpiry => Sys2Proof.Machine.execHoldoverExpiry s
  | .wallTimeWrite p v => Sys2Proof.Machine.execWallTimeWrite p v s
  | .ftSyncEdge => Sys2Proof.Machine.execFtSyncEdge s
  | .sliceDecodeStart => Sys2Proof.Machine.execSliceDecodeStart s
  | .sliceDecodeDone idx bound => Sys2Proof.Machine.execSliceDecodeDone idx bound s
  | .cmdDecRequest q tag => Sys2Proof.Machine.execCmdDecRequest q tag s
  | .cmdCmpCommit q tag => Sys2Proof.Machine.execCmdCmpCommit q tag s
  | .cmdCmpAlloc q tag => Sys2Proof.Machine.execCmdCmpAlloc q tag s
  | .cmdCmpWrite q tag => Sys2Proof.Machine.execCmdCmpWrite q tag s
  | .cmdCmpFree q tag => Sys2Proof.Machine.execCmdCmpFree q tag s
  | .cmdCmpLut q tag => Sys2Proof.Machine.execCmdCmpLut q tag s
  | .cmdCmpParapet q tag => Sys2Proof.Machine.execCmdCmpParapet q tag s
  | .bandCompose k => Sys2Proof.Machine.execBandCompose k s
  | .bandRecompose => Sys2Proof.Machine.execBandRecompose s
  | .cmdCorLoad q tag => Sys2Proof.Machine.execCmdCorLoad q tag s
  | .corImageComplete => Sys2Proof.Machine.execCorImageComplete s
  | .cmdCorPatch q tag => Sys2Proof.Machine.execCmdCorPatch q tag s
  | .refreshStart => Sys2Proof.Machine.execRefreshStart s
  | .rowSlotStart under mis flags bad => Sys2Proof.Machine.execRowSlotStart under mis flags bad s
  | .teRise f => Sys2Proof.Machine.execTeRise f s
  | .teWindowExpiry f => Sys2Proof.Machine.execTeWindowExpiry f s
  | .thermSample xs => Sys2Proof.Machine.execThermSample xs s
  | .tjSample t => Sys2Proof.Machine.execTjSample t s
  | .tjCooldownExpiry => Sys2Proof.Machine.execTjCooldownExpiry s
  | .cmdStrIrefTrim q tag => Sys2Proof.Machine.execCmdStrIrefTrim q tag s
  | .irefTrimDone gain ratio => Sys2Proof.Machine.execIrefTrimDone gain ratio s
  | .cadenceDecision => Sys2Proof.Machine.execCadenceDecision s
  | .voteWaitExpiry => Sys2Proof.Machine.execVoteWaitExpiry s
  | .closureIssue => Sys2Proof.Machine.execClosureIssue s
  | .propose => Sys2Proof.Machine.execPropose s
  | .closure => Sys2Proof.Machine.execClosure s
  | .epochStart => Sys2Proof.Machine.execEpochStart s
  | .probeRoundStart => Sys2Proof.Machine.execProbeRoundStart s
  | .pinTestRequest => Sys2Proof.Machine.execPinTestRequest s
  | .pinTestEnd => Sys2Proof.Machine.execPinTestEnd s
  | .cmdDiaPinTest q tag => Sys2Proof.Machine.execCmdDiaPinTest q tag s
  | .diaOpRemove q tag => Sys2Proof.Machine.execDiaOpRemove q tag s
  | .diaOpRestore q tag => Sys2Proof.Machine.execDiaOpRestore q tag s
  | .diaOpForget q tag => Sys2Proof.Machine.execDiaOpForget q tag s
  | .cmdDiaRead q tag => Sys2Proof.Machine.execCmdDiaRead q tag s
  | .removedSave => Sys2Proof.Machine.execRemovedSave s
  | .memTrainingDone pops => Sys2Proof.Machine.execMemTrainingDone pops s
  | .dramRefreshDue c rank bank panic => Sys2Proof.Machine.execDramRefreshDue c rank bank panic s
  | .memSensorRead temps => Sys2Proof.Machine.execMemSensorRead temps s
  | .neighbourRefresh c => Sys2Proof.Machine.execNeighbourRefresh c s
  | .rankRetrainDue c rank panic => Sys2Proof.Machine.execRankRetrainDue c rank panic s
  | .memRequestTimeout port line write => Sys2Proof.Machine.execMemRequestTimeout port line write s
  | .ceHourBoundary => Sys2Proof.Machine.execCeHourBoundary s
  | .memPatrolScrub line flips => Sys2Proof.Machine.execMemPatrolScrub line flips s
  | .deckScrub word err => Sys2Proof.Machine.execDeckScrub word err s
  | .cmdMemWrite q tag => Sys2Proof.Machine.execCmdMemWrite q tag s
  | .cmdMemRead q tag errs => Sys2Proof.Machine.execCmdMemRead q tag errs s
  | .ledgerAudit => Sys2Proof.Machine.execLedgerAudit s
  | .cmdLdgAudit q tag => Sys2Proof.Machine.execCmdLdgAudit q tag s
  | .leasePlank k blocks => Sys2Proof.Machine.execLeasePlank k blocks s
  | .leaseAck => Sys2Proof.Machine.execLeaseAck s
  | .leaseExpiry e => Sys2Proof.Machine.execLeaseExpiry e s
  | .leaseClaim e => Sys2Proof.Machine.execLeaseClaim e s
  | .claimGapExpiry e => Sys2Proof.Machine.execClaimGapExpiry e s
  | .cmdRedHandover q tag => Sys2Proof.Machine.execCmdRedHandover q tag s
  | .handoverReq => Sys2Proof.Machine.execHandoverReq s
  | .handoverDone => Sys2Proof.Machine.execHandoverDone s
  | .handoverTimeout => Sys2Proof.Machine.execHandoverTimeout s
  | .powerOn vddq strands => Sys2Proof.Machine.execPowerOn vddq strands s
  | .deviceResetEnd => Sys2Proof.Machine.execDeviceResetEnd s
  | .rootPllLock => Sys2Proof.Machine.execRootPllLock s
  | .resetPin => Sys2Proof.Machine.execResetPin s
  | .rootPllLoss => Sys2Proof.Machine.execRootPllLoss s
  | .glbResetWrite p v => Sys2Proof.Machine.execGlbResetWrite p v s
  | .supplyWarn v mv => Sys2Proof.Machine.execSupplyWarn v mv s
  | .supplyRecover low => Sys2Proof.Machine.execSupplyRecover low s
  | .supplyReset v => Sys2Proof.Machine.execSupplyReset v s
  | .strandSupplyRise => Sys2Proof.Machine.execStrandSupplyRise s
  | .cmdPwrState q tag => Sys2Proof.Machine.execCmdPwrState q tag s
  | .cmdPwrWake q tag => Sys2Proof.Machine.execCmdPwrWake q tag s
  | .wakePin => Sys2Proof.Machine.execWakePin s
  | .wakeMatch k blocks => Sys2Proof.Machine.execWakeMatch k blocks s
  | .cadenceStart bad => Sys2Proof.Machine.execCadenceStart bad s
  | .bandgapCheck dev => Sys2Proof.Machine.execBandgapCheck dev s
  | .cmdFwuWrite q tag => Sys2Proof.Machine.execCmdFwuWrite q tag s
  | .cmdFwuForward q tag => Sys2Proof.Machine.execCmdFwuForward q tag s
  | .cmdFwuActivate q tag => Sys2Proof.Machine.execCmdFwuActivate q tag s
  | .cmdFwuCancel q tag => Sys2Proof.Machine.execCmdFwuCancel q tag s
  | .cmdFwuCommit q tag => Sys2Proof.Machine.execCmdFwuCommit q tag s
  | .cmdFwuFallback q tag => Sys2Proof.Machine.execCmdFwuFallback q tag s
  | .cmdFwuSvnRaise q tag => Sys2Proof.Machine.execCmdFwuSvnRaise q tag s
  | .fwCommitTimer => Sys2Proof.Machine.execFwCommitTimer s
  | .offer => Sys2Proof.Machine.execOffer s
  | .chunk bad => Sys2Proof.Machine.execChunk bad s
  | .fwuEnd => Sys2Proof.Machine.execFwuEnd s
  | .activate => Sys2Proof.Machine.execActivate s
  | .offerRetry => Sys2Proof.Machine.execOfferRetry s
  | .recoverReq => Sys2Proof.Machine.execRecoverReq s
  | .recoverReqSend => Sys2Proof.Machine.execRecoverReqSend s
  | .fwuRecoverGo p v bad => Sys2Proof.Machine.execFwuRecoverGo p v bad s
  | .chkPresetWrite p u v => Sys2Proof.Machine.execChkPresetWrite p u v s
  | .chkFeed p u v => Sys2Proof.Machine.execChkFeed p u v s
  | .chkFeed1 p u v => Sys2Proof.Machine.execChkFeed1 p u v s
  | .chkLoad p u v => Sys2Proof.Machine.execChkLoad p u v s
  | .chkRunCompute q tag => Sys2Proof.Machine.execChkRunCompute q tag s
  | .chkRunAppend q tag => Sys2Proof.Machine.execChkRunAppend q tag s
  | .chkRunCheck q tag => Sys2Proof.Machine.execChkRunCheck q tag s
  | .chkRunCheckStrip q tag => Sys2Proof.Machine.execChkRunCheckStrip q tag s
  | .gpioSet p v => Sys2Proof.Machine.execGpioSet p v s
  | .gpioClr p v => Sys2Proof.Machine.execGpioClr p v s
  | .pcieLinkChange up => Sys2Proof.Machine.execPcieLinkChange up s
  | .supplyReturnAfterReset v => Sys2Proof.Machine.execSupplyReturnAfterReset v s
  | .fwuActivateAt => Sys2Proof.Machine.execFwuActivateAt s

end Sys2Proof.Machine
end

