-- ==== Sys2Proof/Machine/Step.lean ====
section
/-! DEFINITION. One step of the block: the command at the front of the queue, or, where none waits, one cycle of CLK_PIX. -/

namespace Sys2Proof.Machine

/-- The state without the command at the front of its queue. -/
def State.popped (s : State) (rest : List Instr) : State := { s with pending := rest }

/-- The command at the front of the queue runs on the state with the queue's rest; with none waiting the block idles for one
tick of wall time. -/
def step (s : State) : Host.Outcome State Fault Refusal :=
  match s.pending with
  | c :: rest => exec c (s.popped rest)
  | [] => .next s.idle

/-- A command put at the front of the queue. -/
def State.pushed (s : State) (c : Instr) : State := { s with pending := c :: s.pending }

/-- The command that a word spells, put at the front of the queue; no word spells one. -/
def State.withFetchWord (s : State) (nbits w : Nat) : State :=
  match decodeTableWord nbits w with
  | some c => s.pushed c
  | none => s

end Sys2Proof.Machine
end

