-- ==== Sys2Proof/Safety.lean ====
section
/-! DEFINITION. What every run keeps: the canonical form of tables and memories, the queue that a command finds, what has left
the device, the free values already drawn, the fuses, which are blown one way only. -/

namespace Sys2Proof.Machine

/-- The canonical form of the tables and memories of a state: addresses strictly rising, no entry equal to what an unlisted
address reads as. -/
def State.Canon (s : State) : Prop :=
  Memory.wf blank s.host.mem = true ∧ Memory.wf blank s.host.area = true ∧ Memory.wf blank s.mem.deck = true ∧
  Memory.wf blank s.mem.ext = true ∧ Memory.wf erased s.flash = true ∧ Sparse.rising s.regs = true

/-- Every fetched command is one of a queue of the device. -/
def State.Queued (s : State) : Prop := ∀ c ∈ s.host.cmds, c.q < 24

/-- Fuses `g` may follow fuses `f`: minimum SVNs only rise, everything else stays (R10, R75). -/
def Fuses.follows (f g : Fuses) : Prop :=
  f.svn ≤ g.svn ∧ f.fwSvn ≤ g.fwSvn ∧ g = { f with svn := g.svn, fwSvn := g.fwSvn }

/-- What the effect of every command on a state keeps. -/
structure Kept (s t : State) : Prop where
  /-- The queue is the step's, not the command's. -/
  pending : t.pending = s.pending
  /-- What has left the device stays so: new output comes in front of it. -/
  out : s.out <:+ t.out
  /-- A free value is drawn once. -/
  drawn : s.drawn ≤ t.drawn
  /-- Straps and pins are the board's. -/
  pins : t.pins = s.pins
  /-- Fuses are blown one way. -/
  fuses : s.fuses.follows t.fuses
  /-- Tables and memories stay canonical. -/
  canon : s.Canon → t.Canon
  /-- Commands stay commands of the queues. -/
  queued : s.Queued → t.Queued

/-- The commands that act on a device that does not run: supplies, the reset and wake pins, the PCIe link, the relays of the
bypass (R447, R451, R453, R456, R230). -/
def fromBoard : Instr → Bool
  | .powerOn _ _ | .deviceResetEnd | .resetPin | .supplyReset _ | .supplyReturnAfterReset _ | .wakePin | .wakeMatch _ _
  | .bypassEnter | .pcieLinkChange _ => true
  | _ => false

/-- Whether a byte range holds an address. -/
def inRange (r : Nat × Nat) (a : Nat) : Prop := r.1 ≤ a ∧ a < r.1 + r.2

/-- A range that begins `b` higher. -/
def shifted (b : Nat) (r : Nat × Nat) : Nat × Nat := (b + r.1, r.2)

/-- The registers in which a report counts: those of host control, and the count of planks without a route. -/
def reportReg (a : Nat) : Prop := (0x20000 ≤ a ∧ a < 0x28000) ∨ a = VIA_CNT_DROP.NOROUTE.addr 0

/-- The frame of a report: what raising an event, posting a completion and notifying a port leave alone. They write records into
the rings of the ports, count in the registers of host control, and send notifications. -/
structure Reported (s t : State) : Prop where
  /-- Every other register keeps its word. -/
  regs : ∀ a rst, ¬ reportReg a → t.word a rst = s.word a rst
  /-- Everything but host control, planks on their way out and what has left the device stays. -/
  rest : t = { s with regs := t.regs, host := t.host, span := { s.span with ports := t.span.ports }, via := t.via, out := t.out }
  /-- Host control but its rings, its commands and its notifications stays. -/
  host : t.host = { s.host with mem := t.host.mem, area := t.host.area, queues := t.host.queues, rings := t.host.rings,
                                cmds := t.host.cmds, msixSent := t.host.msixSent, remoteNotified := t.host.remoteNotified,
                                heldDone := t.host.heldDone }
  /-- The rings stay where they are. -/
  ev : ∀ p, p < 3 → t.evRange p = s.evRange p
  cq : ∀ q, q < 24 → t.cqRange q = s.cqRange q
  /-- Host memory outside the rings of port 0 stays. -/
  mem : ∀ a, ¬ inRange (s.evRange 0) a → (∀ q, q < 8 → ¬ inRange (s.cqRange q) a) →
    readByte blank t.host.mem a = readByte blank s.host.mem a
  /-- The two areas outside the rings of ports 1 and 2 stay. -/
  area : ∀ a, (∀ p, 0 < p → p < 3 → ¬ inRange (shifted (areaBase p) (s.evRange p)) a) →
    (∀ q, 7 < q → q < 24 → ¬ inRange (shifted (areaBase (queuePort q)) (s.cqRange q)) a) →
    readByte blank t.host.area a = readByte blank s.host.area a

end Sys2Proof.Machine
end

