-- ==== Sys2Proof/Certificates/Slice0/Obligations.lean ====
section
/-! DEFINITION. The statements about the block, for the provers. A statement about a value or a behaviour that the spec leaves open
says so and names the log entry. -/

open Sys2Proof Sys2Proof.Machine

/-! ### The block as a whole -/

/-- For every command and state, a step with the command at the front of the queue is the command's effect on the state with
the queue's rest. -/
def Obligations.StepRunsFront : Prop :=
  ∀ (c : Instr) (s : State), step (s.pushed c) = exec c s ∧
    ∀ rest, s.pending = c :: rest → step s = exec c (s.popped rest)

/-- With no command waiting, a device that runs with its root PLL in lock advances wall time by one CLK_PIX cycle: fraction plus 2^40
plus RATE, the carry counted, for every RATE within 200 ppm by 0, 1 or 2; the PTP clock advances too, and a bay in RESET begins to
reload or is gated; with no such bay, and none waiting to be ungated, nothing else changes. A device that does not count stays as
it is. That an empty queue stands for a cycle is the model's choice (log entry 21). -/
def Obligations.IdleStepCounts : Prop :=
  ∀ s : State, s.pending = [] →
    (s.clocked = true → ∃ u t : State, step s = .next t ∧ t = u.tickBays ∧
      u = { s with time := { s.time with wall := u.time.wall, frac := u.time.frac, cycles := s.time.cycles + 1 }
                   ing := { s.ing with ptp := s.ing.ptp + (5 * (2 ^ 40 + s.ing.ptpRate)).toNat } } ∧
      u.time.wall = (s.time.wall + ((s.time.frac + 2 ^ 40 + s.fldS TIM_RATE.RATE).toNat) / 2 ^ 40) % 2 ^ 64 ∧
      u.time.frac = (s.time.frac + 2 ^ 40 + s.fldS TIM_RATE.RATE).toNat % 2 ^ 40 ∧
      (s.time.frac < 2 ^ 40 → -219902325 ≤ s.fldS TIM_RATE.RATE → s.fldS TIM_RATE.RATE ≤ 219902325 → s.time.wall + 2 < 2 ^ 64 →
        u.time.wall ≤ s.time.wall + 2 ∧ s.time.wall ≤ u.time.wall ∧ u.time.frac < 2 ^ 40 ∧
        (2 ^ 40 * u.time.wall + u.time.frac : Int) = 2 ^ 40 * s.time.wall + s.time.frac + 2 ^ 40 + s.fldS TIM_RATE.RATE) ∧
      ((∀ b < 16, s.bayState b ≠ bayReset) → s.pwr.ungate = [] → t = u)) ∧
    (s.clocked = false → step s = .next s)

/-- After reset every register of the map reads its Reset column, but those that take a strap, a fuse, their index or the cause of the
reset (fuse and strap values are the model's choice, log entries 22 and 23); memories list nothing, no command waits, and the
cause of a power-on is recorded. -/
def Obligations.ResetLeavesColumns : Prop :=
  (∀ a, a ∉ (bootWords Fuses.blank Pins.board 1 0).map (·.1) → State.reset.cur a = resetWord a) ∧
  State.reset.pending = [] ∧ State.reset.host.mem = [] ∧ State.reset.host.area = [] ∧ State.reset.mem.deck = [] ∧
  State.reset.mem.ext = [] ∧ State.reset.fld GLB_ID.DEVICE = 0x7240 ∧ State.reset.fld GLB_ID.VENDOR = 0x5354 ∧
  State.reset.fld PWR_RESET_LOG.CAUSE = 1 ∧ State.reset.cadence = false ∧ State.reset.time.wall = 0 ∧
  (∀ u : Fin 8, State.reset.word (CHK_CFG.WIDTH.addr u) 0 = 0x101A0)

/-- The state after reset has its memories and its register file in canonical form, and every command it has fetched (there is none) is
one of the 24 queues. -/
def Obligations.ResetCanonical : Prop := State.reset.Canon ∧ State.reset.Queued

/-- From every state whose memories and register file are canonical, a step answers a state whose memories and register file are
canonical: host memory, the two areas, deck, external memory, the boot flash, the registers. From every state whose fetched commands
are commands of the 24 queues, it answers such a state. -/
def Obligations.StepKeepsCanonical : Prop :=
  ∀ s t : State, step s = .next t → (s.Canon → t.Canon) ∧ (s.Queued → t.Queued)

/-- The effect of every command leaves the queue to the step, takes back nothing that has left the device, draws each free value at
most once, leaves straps and pins, and blows fuses one way: minimum SVNs only rise, every other fuse stays. Canonical memories and
tables stay so, and fetched commands stay commands of the 24 queues. -/
def Obligations.CommandsKeep : Prop :=
  ∀ (c : Instr) (s t : State), exec c s = .next t → Kept s t

/-- In every state every command answers a next state, and so does every step: no command faults and none is refused. -/
def Obligations.EveryCommandCompletes : Prop :=
  (∀ (c : Instr) (s : State), ∃ t, exec c s = .next t) ∧ ∀ s : State, ∃ t, step s = .next t

/-- While device reset is held or CORE_EN is low, every command but those of the board (supplies, the reset and wake pins, the PCIe
link, the bypass relays) leaves the device as it is. -/
def Obligations.NothingRunsInReset : Prop :=
  ∀ (c : Instr) (s t : State), s.awake = false → fromBoard c = false → exec c s = .next t → t = s

/-- Raising an event whose detail lies in bytes 16 to 31 of its record changes nothing but reporting: records go into the rings of the
ports, counts into the registers of host control; every other register and every byte of memory outside the rings stays. -/
def Obligations.RaiseFrame : Prop :=
  ∀ (s : State) (code : Nat) (fs : List ByteField), (∀ f ∈ fs, 16 ≤ f.1 ∧ f.1 + f.2.1 ≤ 32) → Reported s (s.raise code fs)

/-- Completing a command, with a result of at most 16 bytes, changes nothing but reporting: the record goes into the completion ring of
the command's queue, completed commands leave the list; every other register and every byte outside the rings stays. -/
def Obligations.FinishFrame : Prop :=
  ∀ (s : State) (c : Cmd) (st : Nat) (res : List Byte), c.q < 24 → s.Queued → res.length ≤ 16 →
    Reported s (s.finish c st res)

/-- An event record of a port lies at base plus 32 times its slot: code, PHASE (1 on the first pass, inverted on each later one), SEQ,
wall time, detail, each byte as Table 2-9 lays it out; SEQ rises by one modulo 2^32. A completion record lies so in its queue's ring:
tag, status, slot of the command, queue, PHASE and LATE_START, wall time, result, as Table 2-6 lays it out. Records of port 0 lie in
host memory, those of ports 1 and 2 in the port's area; no other byte of host memory or of the areas changes. -/
def Obligations.RecordsStored : Prop :=
  ∀ (s : State) (p q : Nat) (e : Event) (c : Completion), p < 3 → q < 24 → e.detail.length = 16 → c.result.length = 16 → c.q = q →
    (let r := s.ring p
     let n := s.evSize p
     let a := s.pair HIF_EV_BASE.BASE p + 32 * (r.written % n)
     let t := s.putEvent p e
     t.portRead p a 32 = leBytes 2 e.code ++ leBytes 1 ((r.written / n + 1) % 2) ++ [0] ++ leBytes 4 r.seq ++
       leBytes 8 e.time ++ e.detail ∧
     (∀ b, p = 0 → b < a ∨ a + 32 ≤ b → readByte blank t.host.mem b = readByte blank s.host.mem b) ∧
     (∀ b, p ≠ 0 → b < areaBase p + a ∨ areaBase p + a + 32 ≤ b → readByte blank t.host.area b = readByte blank s.host.area b) ∧
     (p = 0 → t.host.area = s.host.area) ∧ (p ≠ 0 → t.host.mem = s.host.mem) ∧
     (t.ring p).seq = (r.seq + 1) % 2 ^ 32 ∧ (t.ring p).written = r.written + 1) ∧
    (let x := s.queue q
     let n := s.cqSize q
     let a := s.pair HIF_Q_CQ_BASE.BASE q + 32 * (x.posted % n)
     let t := s.postNow c
     t.portRead (queuePort q) a 32 = leBytes 2 c.tag ++ leBytes 2 c.status ++ leBytes 2 c.slot ++ leBytes 1 q ++
       leBytes 1 ((x.posted / n + 1) % 2 + 2 * b2n c.late) ++ leBytes 8 s.now ++ c.result ∧
     (∀ b, queuePort q = 0 → b < a ∨ a + 32 ≤ b → readByte blank t.host.mem b = readByte blank s.host.mem b) ∧
     (∀ b, queuePort q ≠ 0 → b < areaBase (queuePort q) + a ∨ areaBase (queuePort q) + a + 32 ≤ b →
       readByte blank t.host.area b = readByte blank s.host.area b) ∧
     (queuePort q = 0 → t.host.area = s.host.area) ∧ (queuePort q ≠ 0 → t.host.mem = s.host.mem) ∧
     (t.queue q).posted = x.posted + 1)

/-! ### Host ports and registers -/

/-- Through a path whose port is disabled, or whose remote node is not listed, every read and every write of registers, areas and deck
leaves the device as it is, but for HIF_PORT_CFG: a listed path of the SPI or the remote port takes a write of it although the port is
disabled, so that it can enable itself. With the PCIe port disabled BAR2 takes no access. -/
def Obligations.ClosedPathIgnored : Prop :=
  ∀ (s : State) (p : Path), s.awake = true →
    (s.pathOpen p = false →
      (∀ a n m, exec (.readClear p a n m) s = .next s) ∧
      (∀ a bs, (p.port = 0 ∨ s.pathKnown p = false ∨ a / 4096 ≠ 0x20) → exec (.registerWrite p a bs) s = .next s) ∧
      (∀ (a : Nat) (v : Word), exec (.pairLoRead p a) s = .next s ∧ exec (.pairLoWrite p a v) s = .next s ∧
        exec (.pairHiWrite p a v) s = .next s) ∧
      (∀ (v : Word) (q : Fin 24) (r : Fin 3) (k : Fin 16) (n : Fin 48) (u : Fin 32) (lane : Fin 128) (bad : Fin 3),
        ∀ c ∈ [Instr.deckDataRead p, .deckDataWrite p v, .queueEnable p q v, .queueDisable p q v, .eventRingEnable p r v,
          .eventRingDisable p r v, .sqDoorbell p q v, .cqHeadWrite p q v, .evHeadWrite p r v, .fnReset p n v, .spanEnableWrite p k v,
          .spanRetrainWrite p k, .spanInject p k v, .laneInjectOne p lane, .eyeScanStart p lane v, .wallTimeWrite p v,
          .chkPresetWrite p u v, .chkFeed p u v, .chkFeed1 p u v, .chkLoad p u v, .gpioSet p v, .gpioClr p v, .glbResetWrite p v,
          .fwuRecoverGo p v bad], exec c s = .next s) ∧
      (∀ r : Fin 3, (p.port = 0 ∨ s.pathKnown p = false) → exec (.portEnable p r) s = .next s ∧ exec (.portDisable p r) s = .next s) ∧
      (p.port ≠ 0 → s.pathKnown p = true → ∀ (v : Word) (r : Fin 3),
        exec (.registerWrite p 0x20000 (leBytes 4 v.toNat)) s = .next (s.writePortCfg v.toNat) ∧
        exec (.portEnable p r) s = .next (s.writePortCfg (s.portCfgWith r true)) ∧
        exec (.portDisable p r) s = .next (s.writePortCfg (s.portCfgWith r false)))) ∧
    (s.portOn 0 = false → ∀ a n bs, exec (.bar2Read a n) s = .next s ∧ exec (.bar2Write a bs) s = .next s)

/-- A write of one aligned word through an open path: in the areas it stores the word's four bytes; at an unmapped address it only counts
and latches the address; a half of a pair is staged or committed; a register takes it by writeReg, which for every register but
those with an effect of their own (listed) is writePlain. Under writePlain each field follows its access code: RW takes an encoding that is
not reserved and keeps its value otherwise, W1C clears and W1S sets the bits written 1, RO, WO and RC keep; bits of no field
keep. Reads return the stored word of an area, zero of an unmapped address, and the register's word with WO fields zero; an RC
field of it then reads 0, or 1 where a hardware increment meets the read, every other field is left. A PCIe access of any width moves
the words it touches in ascending order; a write that covers no whole word changes nothing. -/
def Obligations.WordAccess : Prop :=
  (∀ (s : State) (p : Path) (a v m : Nat), s.awake = true → s.pathOpen p = true → a % 4 = 0 → a + 4 ≤ 2 ^ 26 → v < 2 ^ 32 →
    (inArea a = true →
      exec (.registerWrite p a (leBytes 4 v)) s = .next (s.areaWrite a (leBytes 4 v)) ∧
      exec (.readClear p a 4 m) s = .next (s.reply p (leBytes 4 (leNat (readBytes blank s.host.area a 4))))) ∧
    (inArea a = false → regAt a = none →
      exec (.registerWrite p a (leBytes 4 v)) s = .next (s.unmapped a) ∧
      exec (.readClear p a 4 m) s = .next ((s.unmapped a).reply p [0, 0, 0, 0])) ∧
    (∀ d i, inArea a = false → regAt a = some (d, i, false) → d.pair = false →
      exec (.registerWrite p a (leBytes 4 v)) s = .next (s.writeReg p.port d i a v) ∧
      (d.base ≠ 0x20024 → exec (.readClear p a 4 m) s = .next (((s.readValue d false a).2.afterRead d i a m).reply p
        (leBytes 4 (s.readValue d false a).1))) ∧
      (d.base ∉ [0x18, 0x88, 0x8C, 0x10000, 0x20000, 0x20010, 0x20024, 0x21000, 0x21014, 0x21018, 0x21400, 0x2140C, 0x40000, 0x40028,
          0x4002C, 0x4003C, 0x60040, 0x80000, 0x80008, 0x80020, 0x80038, 0xA0000, 0xA0040, 0xE0008, 0x100000, 0x100200, 0x120100,
          0x120104, 0x120108, 0x1C0100, 0x200004, 0x200008, 0x20000C, 0x200010, 0x200014, 0x200100, 0x200104, 0x200108, 0x240004,
          0x30000C] → s.writeReg p.port d i a v = s.writePlain d a v)) ∧
    (∀ d i, inArea a = false → regAt a = some (d, i, true) → d.pair = true →
      exec (.registerWrite p a (leBytes 4 v)) s = .next (s.commitPair p d i (a - 4) v)) ∧
    (∀ d i, inArea a = false → regAt a = some (d, i, false) → d.pair = true →
      exec (.registerWrite p a (leBytes 4 v)) s = .next (s.writeLow p a v))) ∧
  (∀ (s : State) (a v m i : Nat) (d : RegDesc), regAt a = some (d, i, false) → d.pair = false →
    (∀ f ∈ d.fields,
      let old := bits (s.cur a).toNat f.lo f.width
      let x := bits v f.lo f.width
      let new := bits ((s.writePlain d a v).cur a).toNat f.lo f.width
      (f.acc = .rw → new = if f.least ≤ x ∧ x ≤ f.most then x else old) ∧
      (f.acc = .w1c → ∀ j, new.testBit j = (old.testBit j && ! x.testBit j)) ∧
      (f.acc = .w1s → ∀ j, new.testBit j = (old.testBit j || x.testBit j)) ∧
      (f.acc = .ro ∨ f.acc = .wo ∨ f.acc = .rc → new = old) ∧
      bits (((s.readValue d false a).2.afterRead d i a m).cur a).toNat f.lo f.width =
        if f.acc = .rc then bits m f.lo 1 else bits ((s.readValue d false a).2.cur a).toNat f.lo f.width) ∧
    (∀ j < 32, (∀ f ∈ d.fields, j < f.lo ∨ f.lo + f.width ≤ j) →
      ((s.writePlain d a v).cur a).toNat.testBit j = (s.cur a).toNat.testBit j) ∧
    (∀ b rst, b ≠ a → (s.writePlain d a v).word b rst = s.word b rst) ∧ s.writePlain d a v = { s with regs := (s.writePlain d a v).regs }) ∧
  (∀ (s : State) (a n m : Nat) (bs : List Byte), s.awake = true → s.portOn 0 = true → 0 < n → a + n ≤ 2 ^ 26 →
    (let r := State.readWords nextWord .pcie m (a / 4 * 4) (wordSpan a n) s
     exec (.readClear .pcie a n m) s = .next (r.2.reply .pcie (bytesAt r.1 (a % 4) n))) ∧
    (a + bs.length ≤ 2 ^ 26 → (a + bs.length) / 4 ≤ (a + 3) / 4 → exec (.registerWrite .pcie a bs) s = .next s))

/-- Through an open path: a read of NAME_LO of a pair answers its low half and latches its high half for that path; a later read of
NAME_HI through that path answers the latched half, whatever another path has latched; a write of NAME_LO only stages the half
for that path (a pair of a check unit only while the unit is the host's and free); a write of NAME_HI writes both halves in one step, the
staged one or the one in force, and clears what was staged for that path; with nothing staged the low half in force stays. -/
def Obligations.PairAccess : Prop :=
  ∀ (s : State) (p o : Path) (d : RegDesc) (i a : Nat) (v : Word), s.awake = true → s.pathOpen p = true → a % 4 = 0 → a + 8 ≤ 2 ^ 26 →
    inArea a = false → inArea (a + 4) = false → d.pair = true → regAt a = some (d, i, false) → regAt (a + 4) = some (d, i, true) →
    (∃ t, exec (.pairLoRead p a) s = .next t ∧ t.out = .readData p (leBytes 4 (s.readValue d false a).1) :: s.out ∧
      t.regs = s.regs ∧ Sparse.find t.host.snaps (pathKey p a) = some (BitVec.ofNat 32 (s.readValue d true (a + 4)).1) ∧
      (o ≠ p → ∀ b, Sparse.find t.host.snaps (pathKey o b) = Sparse.find s.host.snaps (pathKey o b))) ∧
    exec (.readClear p (a + 4) 4 0) s = .next (s.reply p (leBytes 4 (Sparse.get 0 s.host.snaps (pathKey p a)).toNat)) ∧
    ((a < 0x40000 ∨ 0x40800 ≤ a ∨ d.base = 0x40030) → exec (.pairLoWrite p a v) s = .next (s.stageLow p a v.toNat)) ∧
    (0x40000 ≤ a → a < 0x40800 → d.base ≠ 0x40030 →
      (i < 8 → exec (.pairLoWrite p a v) s = .next s) ∧
      (8 ≤ i → s.flag CHK_STATUS.BUSY i = false → exec (.pairLoWrite p a v) s = .next (s.stageLow p a v.toNat)) ∧
      (8 ≤ i → s.flag CHK_STATUS.BUSY i = true → exec (.pairLoWrite p a v) s = .next (s.setFlag CHK_STATUS.COLLIDE true i))) ∧
    ((s.stageLow p a v.toNat).stagedLow p a = some v.toNat ∧ (s.stageLow p a v.toNat).regs = s.regs ∧
      (o ≠ p → (s.stageLow p a v.toNat).stagedLow o a = s.stagedLow o a)) ∧
    (let u : State := { s with host := { s.host with staged := Sparse.erase s.host.staged (pathKey p a) } }
     (∀ low, s.stagedLow p a = some low → exec (.pairHiWrite p (a + 4) v) s = .next (u.writePair d i a (low + 2 ^ 32 * v.toNat))) ∧
     (s.stagedLow p a = none → exec (.pairHiWrite p (a + 4) v) s = .next (u.writeHigh d i a v.toNat)) ∧
     ((d.fields.any fun f => f.acc = .w1c ∨ f.acc = .w1s) = true → (u.writeHigh d i a v.toNat).cur a = s.cur a) ∧
     u.stagedLow p a = none)

/-- An access that R29 refuses raises EV_DECK_REFUSED with port and address and has no other effect on deck, and a refused read answers
zeros; any other access of the 64 MiB window reads or writes the deck bytes; one outside the window does nothing. An access to
HIF_DECK_DATA moves the word at the address that HIF_DECK_ADDR names, under the same refusals, and ADDR then rises by one word,
wrapping to 0. -/
def Obligations.DeckAccess : Prop :=
  ∀ (s : State) (p : Path) (a n : Nat) (bs : List Byte) (v : Word), s.awake = true →
    (s.portOn 0 = true → inBar2 a n = true →
      (s.deckRefused false a n = true → exec (.bar2Read a n) s = .next ((s.refuseDeck a 0).reply .pcie (List.replicate n 0))) ∧
      (s.deckRefused false a n = false → exec (.bar2Read a n) s = .next ((s.deckRead a n 4).2.reply .pcie (s.deckRead a n 4).1))) ∧
    (s.portOn 0 = true → inBar2 a bs.length = true →
      (s.deckRefused true a bs.length = true → exec (.bar2Write a bs) s = .next (s.refuseDeck a 0)) ∧
      (s.deckRefused true a bs.length = false → exec (.bar2Write a bs) s = .next (s.deckWrite a bs fun _ => 4))) ∧
    (inBar2 a n = false → exec (.bar2Read a n) s = .next s) ∧ (inBar2 a bs.length = false → exec (.bar2Write a bs) s = .next s) ∧
    (s.pathOpen p = true →
      exec (.deckDataRead p) s = .next ((s.deckPairRead p.port).2.reply p (leBytes 4 (s.deckPairRead p.port).1)) ∧
      exec (.deckDataWrite p v) s = .next ((s.hostDeckWrite p.port (4 * s.fld HIF_DECK_ADDR.ADDR) (leBytes 4 v.toNat)).deckNext)) ∧
    (let b := 4 * s.fld HIF_DECK_ADDR.ADDR
     (s.deckRefused false b 4 = true → s.deckPairRead p.port = (0, (s.refuseDeck b p.port).deckNext)) ∧
     (s.deckRefused false b 4 = false → s.deckPairRead p.port = (leNat (s.deckRead b 4 4).1, (s.deckRead b 4 4).2.deckNext)) ∧
     (s.deckRefused true b 4 = true → s.hostDeckWrite p.port b (leBytes 4 v.toNat) = s.refuseDeck b p.port) ∧
     (s.deckRefused true b 4 = false → s.hostDeckWrite p.port b (leBytes 4 v.toNat) = s.deckWrite b (leBytes 4 v.toNat) fun _ => 4)) ∧
    s.deckNext.fld HIF_DECK_ADDR.ADDR = (s.fld HIF_DECK_ADDR.ADDR + 1) % 2 ^ 24

/-- After a deck write the bytes written read back; every other byte of deck, and every byte of external memory and flash, is
unchanged. -/
def Obligations.DeckWriteFrame : Prop :=
  ∀ (s : State) (a : Nat) (bs : List Byte) (cls : Nat → Nat), 0 < bs.length →
    let t := s.deckWrite a bs cls
    t.memRead false a bs.length = bs ∧
    (∀ b, b < a ∨ a + bs.length ≤ b → readByte blank t.mem.deck b = readByte blank s.mem.deck b) ∧
    t.mem.ext = s.mem.ext ∧ t.flash = s.flash

/-- PORT_DISABLE through an open path clears the port's enable bit, after closing the queues and the event ring of a port that was
enabled; PORT_ENABLE sets the bit and leaves the queues and the ring as they were; the other two enable bits are written as they stand.
The PCIe link sets PCIE_UP and nothing else. Closing a port leaves each of its queues and its event ring disabled with indices 0, the
commands fetched from it running with their completions dropped, and the completions held for it discarded; no register outside host
control changes. -/
def Obligations.PortEnables : Prop :=
  ∀ s : State,
    (∀ (p : Path) (r : Fin 3) (up : Bool), s.awake = true → s.pathOpen p = true →
      exec (.portDisable p r) s = .next ([0, 1, 2].foldl (fun (t : State) k =>
        (if k = r.val ∧ t.portOn k = true then t.closePort k else t).setFlag (portEnFld k) (decide (k ≠ r.val) && s.portOn k)) s) ∧
      exec (.portEnable p r) s = .next ([0, 1, 2].foldl (fun (t : State) k =>
        t.setFlag (portEnFld k) (decide (k = r.val) || s.portOn k)) s) ∧
      (∃ t, exec (.portDisable p r) s = .next t ∧ t.portOn r = false) ∧ (∃ t, exec (.portEnable p r) s = .next t ∧ t.portOn r = true) ∧
      exec (.pcieLinkChange up) s = .next (s.setFlag HIF_PORT_CFG.PCIE_UP up)) ∧
    (∀ p : Fin 3, s.Queued →
      let t := s.closePort p
      (∀ k : Fin 8, t.flag HIF_Q_CFG.ENABLE (8 * p + k) = false ∧ t.fld HIF_Q_STATUS.SQ_HEAD (8 * p + k) = 0 ∧
        t.fld HIF_Q_SQ_TAIL.TAIL (8 * p + k) = 0 ∧ t.fld HIF_Q_CQ_HEAD.HEAD (8 * p + k) = 0 ∧ t.queue (8 * p + k) = QueueSt.reset) ∧
      t.flag HIF_EV_CFG.ENABLE p = false ∧ t.fld HIF_EV_HEAD.HEAD p = 0 ∧ t.ring p = RingSt.reset ∧
      (∀ c ∈ t.host.cmds, queuePort c.q = p → c.dropped = true) ∧ (∀ c ∈ t.host.heldDone, queuePort c.q ≠ p) ∧
      (∀ a rst, ¬ reportReg a → t.word a rst = s.word a rst))
/-! ### Queues, rings and commands -/

/-- Through an open path, a write of HIF_Q_CFG[q] with ENABLE = 1 on a disabled queue whose rings stand where R47 lets them enables it
with SQ_HEAD, TAIL and HEAD 0, ERR and STALLED clear and the next record in slot 0 of each ring; a refused one leaves it disabled with
CFG_ERR set. ENABLE = 1 on an enabled queue only stores the other fields, and is ignored while the queue drains. ENABLE = 0 on an
enabled queue disables it as R49 says: entries not fetched are discarded; it reads disabled at once where no command of it is
outstanding and no completion of it waits, otherwise it reads enabled and drains. ENABLE = 0 on one that is disabled or drains only
stores the other fields. A value whose ENABLE is that of the other row is no command of the row. -/
def Obligations.QueueEnables : Prop :=
  ∀ (s : State) (p : Path) (q : Fin 24) (v : Word), s.awake = true → s.pathOpen p = true →
    ∃ d, regAt (HIF_Q_CFG.ENABLE.addr q) = some (d, q.val, false) ∧
    let w := (s.writePlain d (HIF_Q_CFG.ENABLE.addr q) v.toNat).setFlag HIF_Q_CFG.ENABLE (s.flag HIF_Q_CFG.ENABLE q) q
    let placed : Prop := [w.sqRange q, w.cqRange q].all (ringPlaced (queuePort q)) = true ∧
      rangesMeet (w.sqRange q) (w.cqRange q) = false ∧
      [w.sqRange q, w.cqRange q].any (fun r => (w.otherRings (queuePort q) (some q.val) true).any (rangesMeet r)) = false
    (v.toNat % 2 = 1 → s.flag HIF_Q_CFG.ENABLE q = false →
      (placed → ∃ t, exec (.queueEnable p q v) s = .next t ∧
          t.flag HIF_Q_CFG.ENABLE q = true ∧ t.flag HIF_Q_CFG.CFG_ERR q = false ∧ t.fld HIF_Q_STATUS.SQ_HEAD q = 0 ∧
          t.fld HIF_Q_SQ_TAIL.TAIL q = 0 ∧ t.fld HIF_Q_CQ_HEAD.HEAD q = 0 ∧ t.flag HIF_Q_STATUS.ERR q = false ∧
          t.flag HIF_Q_STATUS.STALLED q = false ∧ t.queue q = QueueSt.reset ∧
          t.sqSize q = w.sqSize q ∧ t.cqSize q = w.cqSize q ∧
          t = { w with regs := t.regs, host := { w.host with queues := t.host.queues } }) ∧
      (¬ placed → exec (.queueEnable p q v) s = .next (w.setFlag HIF_Q_CFG.CFG_ERR true q) ∧
          (w.setFlag HIF_Q_CFG.CFG_ERR true q).flag HIF_Q_CFG.ENABLE q = false)) ∧
    (v.toNat % 2 = 1 → s.flag HIF_Q_CFG.ENABLE q = true →
      exec (.queueEnable p q v) s = .next (if (s.queue q).draining then s else w)) ∧
    (v.toNat % 2 = 0 → (s.flag HIF_Q_CFG.ENABLE q = false ∨ (s.queue q).draining = true) →
      exec (.queueDisable p q v) s = .next w) ∧
    (v.toNat % 2 = 0 → s.flag HIF_Q_CFG.ENABLE q = true → (s.queue q).draining = false →
      let u := w.orphan fun d => decide (d.q = q)
      ∃ t, exec (.queueDisable p q v) s = .next t ∧ t.hasEntries q = false ∧
        ((∀ c ∈ u.host.cmds, c.q = q.val → c.dropped = true) → (∀ c ∈ u.host.heldDone, c.q ≠ q.val) →
          t.flag HIF_Q_CFG.ENABLE q = false) ∧
        ((∃ c ∈ u.host.cmds, c.q = q.val ∧ c.dropped = false) → u.flag HIF_Q_CFG.ENABLE q = true →
          t.flag HIF_Q_CFG.ENABLE q = true ∧ (t.queue q).draining = true)) ∧
    (v.toNat % 2 = 0 → exec (.queueEnable p q v) s = .next s) ∧
    (v.toNat % 2 = 1 → exec (.queueDisable p q v) s = .next s)

/-- Through an open path, ENABLE = 1 on a disabled event ring that stands where R47 lets it enables it with HEAD 0, no record written
and SEQ 0 (events that a tollhouse restart holds for it stay held: log entry 121); the events held for the first ring are then raised
for its port, each once. A refused one leaves it disabled with CFG_ERR set; ENABLE = 1 on an enabled ring only stores its other fields;
ENABLE = 0 disables it. A value whose ENABLE is that of the other row is no command of the row. -/
def Obligations.RingEnables : Prop :=
  ∀ (s : State) (p : Path) (r : Fin 3) (v : Word), s.awake = true → s.pathOpen p = true →
    ∃ d, regAt (HIF_EV_CFG.ENABLE.addr r) = some (d, r.val, false) ∧
    let w := (s.writePlain d (HIF_EV_CFG.ENABLE.addr r) v.toNat).setFlag HIF_EV_CFG.ENABLE (s.flag HIF_EV_CFG.ENABLE r) r
    let placed : Prop := ringPlaced r (w.evRange r) = true ∧ (w.otherRings r none false).any (rangesMeet (w.evRange r)) = false
    (v.toNat % 2 = 1 → s.flag HIF_EV_CFG.ENABLE r = false →
      (placed → ∃ u : State, exec (.eventRingEnable p r v) s =
            .next (s.host.untilRing.foldl (fun (x : State) e => x.raiseFor e r) u) ∧
          u.host.untilRing = [] ∧ u.flag HIF_EV_CFG.ENABLE r = true ∧ u.flag HIF_EV_CFG.CFG_ERR r = false ∧
          u.fld HIF_EV_HEAD.HEAD r = 0 ∧ (u.ring r).written = 0 ∧ (u.ring r).seq = 0 ∧ (u.ring r).losing = false ∧
          (u.ring r).held = (s.ring r).held ∧
          (∀ a rst, a ≠ HIF_EV_CFG.ENABLE.addr r → a ≠ HIF_EV_HEAD.HEAD.addr r → u.word a rst = s.word a rst) ∧
          u = { s with regs := u.regs, host := { s.host with rings := u.host.rings, untilRing := [] } }) ∧
      (¬ placed → exec (.eventRingEnable p r v) s = .next (w.setFlag HIF_EV_CFG.CFG_ERR true r))) ∧
    (v.toNat % 2 = 1 → s.flag HIF_EV_CFG.ENABLE r = true → exec (.eventRingEnable p r v) s = .next w) ∧
    (v.toNat % 2 = 0 → exec (.eventRingDisable p r v) s = .next (w.setFlag HIF_EV_CFG.ENABLE false r)) ∧
    (v.toNat % 2 = 0 → exec (.eventRingEnable p r v) s = .next s) ∧
    (v.toNat % 2 = 1 → exec (.eventRingDisable p r v) s = .next s)

/-- Through an open path, a doorbell below the ring size sets TAIL, one that is not sets ERR and raises EV_QUEUE_ERROR with q and leaves
TAIL; a write of a completion or event head sets HEAD and lets the vectors routed to that ring notify again; an event head also ends
the loss of events. -/
def Obligations.DoorbellsAndHeads : Prop :=
  ∀ (s : State) (p : Path) (q : Fin 24) (r : Fin 3) (v : Word), s.awake = true → s.pathOpen p = true →
    (bits v.toNat 0 12 < s.sqSize q → exec (.sqDoorbell p q v) s = .next (s.setFld HIF_Q_SQ_TAIL.TAIL (bits v.toNat 0 12) q)) ∧
    (s.sqSize q ≤ bits v.toNat 0 12 →
      exec (.sqDoorbell p q v) s = .next ((s.setFlag HIF_Q_STATUS.ERR true q).raise 0x0007 [(16, 1, q)])) ∧
    exec (.cqHeadWrite p q v) s = .next ((s.setFld HIF_Q_CQ_HEAD.HEAD (bits v.toNat 0 12) q).rearm (queuePort q)
      [s.fld HIF_Q_CFG.VEC q]) ∧
    exec (.evHeadWrite p r v) s = .next (((s.setFld HIF_EV_HEAD.HEAD (bits v.toNat 0 12) r).setRing r
      { s.ring r with losing := false }).rearm r ((List.range 49).map fun g => s.fld HIF_EV_VEC.VEC g))

/-- COMMAND_FETCH takes the entry of the queue served next (round-robin after the last one, among the enabled queues with entries
and room for a completion) and shows which queues stall; with no such queue it only shows that; in a tollhouse restart and in recovery
nothing is fetched. Fetching moves SQ_HEAD past the entry; the command that its record spells completes ST_ABORTED where an abort marked
the slot, with the status of the check that it fails, starts where it may, and else waits. COMMAND_START_AT_TIME starts a command that
waits once its conditions are met and leaves it otherwise. One started past its START_TIME carries LATE_START. -/
def Obligations.FetchAndStart : Prop :=
  ∀ (s : State) (q : Fin 24) (tag : Nat), s.awake = true →
    ((s.restarting = true ∨ s.flag FWU_STATUS.RECOVERY = true) → exec .commandFetch s = .next s) ∧
    (s.restarting = true → exec (.commandStartAtTime q tag) s = .next s) ∧
    (s.restarting = false → s.flag FWU_STATUS.RECOVERY = false →
      (∀ n, s.nextQueue = some n →
        s.hasEntries n = true ∧ s.hasRoom n = true ∧ n < 24 ∧
        (let slot := s.fld HIF_Q_STATUS.SQ_HEAD n
         let r := s.record n slot
         let gone := s.host.discards.find? fun d => d.q = n ∧ d.slot = slot
         let c : Cmd := { cmdOfRecord n slot r with id := s.host.fetched, aborts := (gone.map (·.aborts)).getD [] }
         ∃ u : State, u.host.cmds = s.host.cmds ++ [c] ∧ u.host.lastServed = n ∧ u.host.fetched = s.host.fetched + 1 ∧
          u.regs = (s.setFld HIF_Q_STATUS.SQ_HEAD ((slot + 1) % s.sqSize n) n).regs ∧
          u.host.discards = s.host.discards.filter (fun d => ¬ (d.q = n ∧ d.slot = slot)) ∧
          exec .commandFetch s = .next (State.showStalled
            (if gone.isSome then u.finish c stAborted
             else match s.checkCmd { cmdOfRecord n slot r with id := s.host.fetched } r with
               | some st => u.finish c st
               | none => if u.canStart c then u.startCmd c else u)))) ∧
      (s.nextQueue = none → exec .commandFetch s = .next s.showStalled)) ∧
    (s.restarting = false → ∀ c, s.host.cmds.find? (fun c => c.q = q.val ∧ c.tag = tag ∧ c.phase = .waiting) = some c →
      (s.canStart c = true → ∃ u : State,
          u = s.setCmd { c with
            phase := .started, since := s.clock, late := decide (bits c.flags 1 1 = 1) && decide (c.startTime < s.now) } ∧
          exec (.commandStartAtTime q tag) s = .next (s.startCmd c) ∧
          (c.opcode ∉ [0x1601, 0x0203, 0x0002] → exec (.commandStartAtTime q tag) s = .next u)) ∧
      (s.canStart c = false → exec (.commandStartAtTime q tag) s = .next s)) ∧
    (s.host.cmds.find? (fun c => c.q = q.val ∧ c.tag = tag ∧ c.phase = .waiting) = none →
      exec (.commandStartAtTime q tag) s = .next s)

/-- A started CMD_NOP completes ST_OK. A started CMD_ABORT completes ST_ALREADY_DONE where its target is not outstanding, ST_BAD_TARGET
where it is itself an abort. Otherwise the abort waits with its target: one that waits to start completes ST_ABORTED without
effect, one for which every moment is a safe point stops at once, one that runs goes on to its safe point, one not yet fetched has its
slot marked. With no such command started, as in a tollhouse restart, nothing changes. -/
def Obligations.NopAndAbort : Prop :=
  ∀ (s : State) (q : Fin 24) (tag : Nat), s.awake = true →
    (∀ c, s.cmd q tag 0x0000 = some c → exec (.cmdNop q tag) s = .next (s.finish c stOk)) ∧
    (s.cmd q tag 0x0000 = none → exec (.cmdNop q tag) s = .next s) ∧
    (s.cmd q tag 0x0001 = none → exec (.cmdAbort q tag) s = .next s) ∧
    (∀ c, s.cmd q tag 0x0001 = some c →
      (s.target (c.opnd 32 1) (c.opnd 34 2) = .none → exec (.cmdAbort q tag) s = .next (s.finish c stAlreadyDone)) ∧
      (∀ t, s.target (c.opnd 32 1) (c.opnd 34 2) = .fetched t →
        (t.opcode = 0x0001 → exec (.cmdAbort q tag) s = .next (s.finish c stBadTarget)) ∧
        (t.opcode ≠ 0x0001 →
          let t' := { t with aborts := t.aborts ++ [(c.q, c.id)] }
          let u := (s.setCmd { c with phase := .running }).setCmd t'
          (t.phase = .waiting → exec (.cmdAbort q tag) s = .next (u.finish t' stAborted)) ∧
          (t.phase ≠ .waiting → t.opcode ∈ [0x0E02, 0x1002, 0x1901] → exec (.cmdAbort q tag) s = .next (u.stopAt t' 0)) ∧
          (t.phase ≠ .waiting → t.opcode ∉ [0x0E02, 0x1002, 0x1901] → exec (.cmdAbort q tag) s = .next u))) ∧
      (∀ slot op, s.target (c.opnd 32 1) (c.opnd 34 2) = .waiting slot op →
        (op = 0x0001 → exec (.cmdAbort q tag) s = .next (s.finish c stBadTarget)) ∧
        (op ≠ 0x0001 → ∃ u, exec (.cmdAbort q tag) s = .next u ∧
          u.host.cmds = (s.setCmd { c with phase := .running }).host.cmds ∧
          (∃ x ∈ u.host.discards, x.q = c.opnd 32 1 ∧ x.slot = slot ∧ (c.q, c.id) ∈ x.aborts) ∧
          (∀ x ∈ s.host.discards, ¬ (x.q = c.opnd 32 1 ∧ x.slot = slot) → x ∈ u.host.discards) ∧
          u = { s with host := { s.host with cmds := u.host.cmds, discards := u.host.discards } })))

/-- A command that has started or runs, with an accepted abort, stops at SAFE_POINT_STOP by its chapter's rule. A lamp operation held for
the next frame start is withdrawn; a memory write has stored the whole MiB before its safe point and reports them, and goes on where n
names no MiB inside its data; a power change that waits changes nothing and shows the change waiting after it; each completes ST_ABORTED. The commands whose safe points
are frame starts, and CMD_CFG_APPLY, whose safe points are closes, run on; so does one whose opcode names none. Where no command of the
queue and tag has an accepted abort, nothing changes. -/
def Obligations.SafePoints : Prop :=
  ∀ (s : State) (q : Fin 24) (tag n : Nat), s.awake = true →
    (s.host.cmds.find? (fun c => c.q = q.val ∧ c.tag = tag ∧ c.aborts ≠ [] ∧ c.phase ≠ .waiting ∧ c.opcode ≠ 0x0001) = none →
      exec (.safePointStop q tag n) s = .next s) ∧
    (∀ c, s.host.cmds.find? (fun c => c.q = q.val ∧ c.tag = tag ∧ c.aborts ≠ [] ∧ c.phase ≠ .waiting ∧ c.opcode ≠ 0x0001) = some c →
      (c.opcode ∈ [0x0204, 0x0301, 0x0601, 0x0F01, 0x1001, 0x1401] → exec (.safePointStop q tag n) s = .next s) ∧
      (c.opcode ∉ [0x0204, 0x0301, 0x0601, 0x0F01, 0x1001, 0x1401] → exec (.safePointStop q tag n) s = .next (s.stopAt c n)) ∧
      (c.opcode = 0x1002 → (c.q, c.id) ∈ s.dia.ops → s.stopAt c n =
        State.finish { s with dia := { s.dia with ops := s.dia.ops.filter (· ≠ (c.q, c.id)) } } c stAborted) ∧
      (c.opcode = 0x1101 → c.phase = .started → s.memRefusal (c.opnd 32 8) c.payLen true = none →
        (0 < n → n * mib < c.payLen →
          s.stopAt c n = (s.extWrite (c.opnd 32 8) ((s.payload c).take (n * mib)) 5).finish c stAborted (result [(24, 8, n * mib)])) ∧
        ((n = 0 ∨ c.payLen ≤ n * mib) → s.stopAt c n = s)) ∧
      (c.opcode = 0x1901 → s.stopAt c n = (s.finish c stAborted).showPend) ∧
      (c.opcode ∈ [0x0000, 0x0002, 0x0205, 0x0901, 0x0A02, 0x0A03, 0x0A04, 0x0C01, 0x0D01, 0x0D02, 0x0D04, 0x0D05, 0x1003, 0x1301,
        0x1503, 0x1504, 0x1505, 0x1506, 0x1507, 0x1902] → s.stopAt c n = s))
/-! ### Functions, decisions, bays -/

/-- Through an open path, a write of RST = 1 to a function that is present and not in reset first takes MODE_REQ, then sets RST and STATE
RESET, completes every fetched command of the function ST_FN_RESET, drops the decisions held for it, does what Table 2-12 says of
it and clears its counters and error bits; a function that is ABSENT or in reset only takes MODE_REQ, and a value without RST is no
command of the row. The reset of a function that has no more to wait for ends: RST reads 0, STATE RUN, or for a bay what the bay shows,
and EV_FN_RESET_DONE names it; one that waits goes on. With no frame cadence MODE_ACT takes MODE_REQ. A decision missed at its deadline counts and raises
EV_ASSIST_LATE with function and PERIOD, once; FN_LNK's when the step's time is over, with a refusing vote; FN_PTP's in ASSIST. -/
def Obligations.ResetsAndModes : Prop :=
  ∀ (s : State) (p : Path) (n : Fin 48) (v : Word) (period : Nat), s.awake = true →
    (s.pathOpen p = true → bits v.toNat 8 1 = 1 →
      let u := (s.setFld FNT_CTRL.MODE_REQ (bits v.toNat 0 1) n).markMode n
      ((u.fnState n = fnAbsent ∨ u.flag FNT_CTRL.RST n = true) → exec (.fnReset p n v) s = .next u) ∧
      (u.fnState n ≠ fnAbsent → u.flag FNT_CTRL.RST n = false →
        ∃ t x, exec (.fnReset p n v) s = .next ((State.fnEffect x n).clearCounters n) ∧
          t = ((u.setFlag FNT_CTRL.RST true n).setFld FNT_STATUS.STATE fnReset n).cancelCmds n ∧
          x = { t with fnt := { t.fnt with resets := Sparse.set t.fnt.resets n t.clock
                                           decisions := t.fnt.decisions.filter fun d => d.fn ≠ n.val } })) ∧
    (bits v.toNat 8 1 = 0 → exec (.fnReset p n v) s = .next s) ∧
    (s.flag FNT_CTRL.RST n = true → s.resetOver n = true →
      ∃ t : State, t.flag FNT_CTRL.RST n = false ∧ t.fnState n = fnRun ∧ Sparse.find t.fnt.resets n = none ∧
        (∀ a rst, a ≠ FNT_CTRL.RST.addr n → a ≠ FNT_STATUS.STATE.addr n → t.word a rst = s.word a rst) ∧
        t = { s with regs := t.regs, fnt := { s.fnt with resets := t.fnt.resets }, red := t.red } ∧
        (n.val ≠ 19 → t.red = s.red) ∧ (n.val = 19 → t.red = { s.red with issue := if s.issueDue then none else s.red.issue }) ∧
        (n.val < 32 → exec (.fnResetDone n) s = .next (t.raise 0x0005 [(16, 1, n)])) ∧
        (32 ≤ n.val → exec (.fnResetDone n) s = .next ((t.setFnState n (t.bayFn (n - 32))).raise 0x0005 [(16, 1, n)]))) ∧
    ((s.flag FNT_CTRL.RST n = false ∨ s.resetOver n = false) → exec (.fnResetDone n) s = .next s) ∧
    (s.cadence = false → ∃ t, exec (.modeFollow n) s = .next t ∧ t.assist n = s.flag FNT_CTRL.MODE_REQ n ∧
      t.flag FNT_STATUS.MODE_PEND n = false ∧
      (∀ a rst, a ≠ FNT_STATUS.MODE_ACT.addr n → (n.val < 32 ∨ a ≠ BAY_STATUS.STATE.addr (n - 32)) → t.word a rst = s.word a rst) ∧
      t = { s with regs := t.regs, fnt := t.fnt }) ∧
    (s.cadence = true → exec (.modeFollow n) s = .next s) ∧
    (n.val ≠ 4 → n.val ≠ 7 → (n.val, period) ∈ s.fnt.missed →
      exec (.assistLate n period) s = .next (State.missAssist
        { s with fnt := { s.fnt with missed := s.fnt.missed.erase (n.val, period) } } n period)) ∧
    (n.val ≠ 4 → n.val ≠ 7 → (n.val, period) ∉ s.fnt.missed → exec (.assistLate n period) s = .next s) ∧
    (n.val = 4 → exec (.assistLate n period) s = .next (if s.assist 4 then s.missAssist 4 period else s)) ∧
    (n.val = 7 → ∀ k, k = period / 65536 → ∀ st t, (s.port k).step = some st → st.deadline = some t →
      k < 16 → st.vote = none → period = s.stepPeriod k →
      (t ≤ s.clock → exec (.assistLate n period) s = .next ((s.missAssist 7 period).stepVote k false)) ∧
      (s.clock < t → exec (.assistLate n period) s = .next s)) ∧
    (n.val = 7 → (s.port (period / 65536)).step = none → exec (.assistLate n period) s = .next s)

/-- For each of the 19 functions that take decisions: a started CMD_DECIDE that names the function completes ST_NOT_ASSIST where the
function neither is in ASSIST nor will be at the frame of the PERIOD; otherwise ST_TOO_LATE or ST_TOO_EARLY where the PERIOD is
past or beyond its look-ahead; otherwise the decision is taken and the command completes ST_OK. A command that names another
function is not this one's, and with none started, as in a tollhouse restart, nothing changes. -/
def Obligations.DecisionsTaken : Prop :=
  ∀ (s : State) (q : Fin 24) (tag : Nat), s.awake = true →
    ∀ r ∈ [(Instr.decideCfg q tag, 1), (.decideIngSdi q tag, 2), (.decidePtp q tag, 4), (.decideEnc q tag, 5), (.decideRate q tag, 6),
      (.decideLnk q tag, 7), (.decideSpan q tag, 8), (.decideTim q tag, 10), (.decideDec q tag, 11), (.decideCmp q tag, 12),
      (.decideCor q tag, 13), (.decideStr q tag, 14), (.decideDia q tag, 15), (.decideMem q tag, 16), (.decideDeck q tag, 17),
      (.decideLdg q tag, 18), (.decideRed q tag, 19), (.decideTherm q tag, 22), (.decidePwr q tag, 24)],
      (s.cmd q tag 0x0002 = none → exec r.1 s = .next s) ∧
      ∀ c, s.cmd q tag 0x0002 = some c →
      (c.opnd 32 1 ≠ r.2 → exec r.1 s = .next s) ∧
      (c.opnd 32 1 = r.2 →
        (s.mayDecide r.2 (c.opnd 36 4) = false → exec r.1 s = .next (s.finish c stNotAssist)) ∧
        (s.mayDecide r.2 (c.opnd 36 4) = true → s.timely r.2 (c.opnd 36 4) ≠ stOk →
          exec r.1 s = .next (s.finish c (s.timely r.2 (c.opnd 36 4)))) ∧
        (s.mayDecide r.2 (c.opnd 36 4) = true → s.timely r.2 (c.opnd 36 4) = stOk →
          exec r.1 s = .next ((s.accept r.2 (c.opnd 36 4) (s.decisionBytes c)).finish c stOk)))

/-- A decision of a function other than PTP and LNK for the earliest frame still open, or up to four frames later, is timely; one for an
earlier frame is too late; an accepted one is the only one held for its function and PERIOD, and changes none of another. COR and
THERM decide one frame further ahead. A function in ASSIST takes decisions; one in HW mode takes one only with a switch to ASSIST
pending, and then none for a frame before the switch; a decision of FN_LNK only answers a step. -/
def Obligations.DecisionTimes : Prop :=
  ∀ (s : State) (n d : Nat) (bs : List Byte), n ≠ 4 → n ≠ 7 → d < 2 ^ 31 →
    let first := s.nextOpen + (if n = 13 ∨ n = 22 then 1 else 0)
    (d ≤ 4 → s.timely n (periodOf (first + d)) = stOk) ∧ (4 < d → s.timely n (periodOf (first + d)) = stTooEarly) ∧
    (0 < d → d ≤ first → s.timely n (periodOf (first - d)) = stTooLate) ∧
    (∀ period, (s.accept n period bs).decision n period = some bs ∧
      ∀ m r, ¬ (m = n ∧ r = period) → (s.accept n period bs).decision m r = s.decision m r) ∧
    (∀ k period, s.assist k = true → s.mayDecide k period = true) ∧
    (∀ k period, s.assist k = false → s.flag FNT_STATUS.MODE_PEND k = false → s.mayDecide k period = false) ∧
    (∀ k period, s.assist k = false → s.flag FNT_CTRL.MODE_REQ k = false → s.mayDecide k period = false) ∧
    (∀ k, s.assist k = false → k ≠ 4 → k ≠ 7 → s.cadence = true → s.flag FNT_STATUS.MODE_PEND k = true →
      s.flag FNT_CTRL.MODE_REQ k = true → d ≤ s.switchFrame k →
      s.mayDecide k (periodOf (s.switchFrame k + d)) = true ∧ (0 < d → s.mayDecide k (periodOf (s.switchFrame k - d)) = false)) ∧
    (∀ period, s.assist 7 = false → s.mayDecide 7 period = false)

/-- A girder fault or an uncorrectable local SRAM word in a bay that is neither gated nor in reset sets its bit of BAY_ERR, raises
EV_BAY_FAULT with the bay and BAY_ERR where the bit was clear, and puts the bay in FAULT: it no longer joins, and the work it held in
the frame is late; the watchdog does the same to a bay that runs and nothing to another. A bay that has loaded goes to IDLE and joins at
the next frame start, at once where no cadence runs; one whose load failed, or whose kernel lies where a line or word is uncorrectable,
reports what it read and goes to FAULT; a bay that does not load stays as it is. -/
def Obligations.BayEvents : Prop :=
  ∀ (s : State) (b : Fin 16) (lsram : Bool), s.awake = true →
    (s.bayState b ≠ bayGated → s.bayState b ≠ bayReset →
      let f := if lsram then BAY_ERR.LSRAM_UC else BAY_ERR.ENG_FAULT
      let u := s.setFlag f true b
      (s.flag f b = false → exec (.bayFault b lsram) s = .next
        ((u.raise 0x0002 [(16, 1, b), (20, 4, (u.word (BAY_ERR.ENG_FAULT.addr b) 0).toNat)]).failBay b)) ∧
      (s.flag f b = true → exec (.bayFault b lsram) s = .next (u.failBay b))) ∧
    ((s.bayState b = bayGated ∨ s.bayState b = bayReset) → exec (.bayFault b lsram) s = .next s) ∧
    (s.bayState b = bayRun →
      let u := s.setFlag BAY_ERR.WDOG true b
      (s.flag BAY_ERR.WDOG b = false → exec (.bayWatchdog b) s = .next
        ((u.raise 0x0002 [(16, 1, b), (20, 4, (u.word (BAY_ERR.ENG_FAULT.addr b) 0).toNat)]).failBay b)) ∧
      (s.flag BAY_ERR.WDOG b = true → exec (.bayWatchdog b) s = .next (u.failBay b))) ∧
    (s.bayState b ≠ bayRun → exec (.bayWatchdog b) s = .next s) ∧
    (∃ u : State, s.failBay b = (u.setBayState b bayFault).endApply ∧ (u.bay b).joining = false ∧
      (u.bay b).late = decide (s.bayState b = bayRun) ∧ ∀ w : Fin 16, w ≠ b → u.bay w = s.bay w) ∧
    (∀ ok, s.bayState b ≠ bayLoading → exec (.bayLoadDone b ok) s = .next s) ∧
    (s.bayState b = bayLoading →
      let at' := s.kernelAt b
      let bad := at'.any fun k => if k.1 then s.lostLines k.2.1 k.2.2 ≠ [] else s.badWords k.2.1 k.2.2 ≠ []
      let u : State := match at' with | some k => s.reportBad k.1 k.2.1 k.2.2 (bayClass b) 6 | none => s
      let v := (u.setBay b { u.bay b with joining := true }).setBayState b bayIdle
      (bad = false → v.cadence = true → exec (.bayLoadDone b true) s = .next v) ∧
      (bad = false → v.cadence = false → exec (.bayLoadDone b true) s = .next v.joinBays) ∧
      (∀ ok, (ok = false ∨ bad = true) → exec (.bayLoadDone b ok) s = .next (((u.setFlag BAY_ERR.ENG_FAULT true b).raise 0x0002
        [(16, 1, b), (20, 4, ((u.word (BAY_ERR.ENG_FAULT.addr b) 0).toNat ||| 1))]).failBay b)))

/-- A restart stops the tollhouse once; the ROM then withdraws tried slots and starts the highest candidate that passes its checks, or
enters recovery where none does; the end of the restart, once firmware runs, writes the records held for each port and lets the
firmware take its own bit-stream. A start waits while a warning keeps flash writes back; a restart end waits for the firmware; each
does nothing outside its place. -/
def Obligations.TollhouseRestarts : Prop :=
  ∀ (s : State), s.awake = true →
    (s.restarting = false → exec .tollhouseRestart s = .next s.restartTollhouse ∧ s.restartTollhouse.restarting = true) ∧
    (s.restarting = true → exec .tollhouseRestart s = .next s) ∧
    (s.restarting = true → s.fwu.started = false → s.flashHeld = false →
      let u := (s.dropTried 0).dropTried 1
      (∀ i, (u.chooseSlot u.candidates).2 = some i → exec .tollhouseStart s = .next ((u.chooseSlot u.candidates).1.startFirmware i)) ∧
      ((u.chooseSlot u.candidates).2 = none → exec .tollhouseStart s = .next (u.chooseSlot u.candidates).1.enterRecovery)) ∧
    ((s.restarting = false ∨ s.fwu.started = true ∨ s.flashHeld = true) → exec .tollhouseStart s = .next s) ∧
    (s.restarting = true → s.fwu.started = true → exec .tollhouseRestartEnd s = .next (State.takeOwnStream (State.viaResume
      ([0, 1, 2].foldl (fun (t : State) p => t.writeHeld p) { s with fnt := { s.fnt with restarting := false } })))) ∧
    ((s.restarting = false ∨ s.fwu.started = false) → exec .tollhouseRestartEnd s = .next s)
/-! ### Check units and GPIO -/

/-- A write of CHK_CFG with a PRESET of Table 20-1 to a host unit that is not busy, through an open path, gives the unit the preset's six
parameters and its INIT as VAL; one without a preset stores WIDTH (1 to 64), REFIN and REFOUT; no other unit changes. Over the nine ASCII bytes of "123456789" each preset gives the table's check value. -/
def Obligations.CheckPresets : Prop :=
  (∀ (s : State) (p : Path) (u : Fin 32) (v : Word) (x : CrcParams), s.awake = true → s.pathOpen p = true → 8 ≤ u.val →
    s.flag CHK_STATUS.BUSY u = false → crcPreset (bits v.toNat 12 4) = some x →
    ∃ t, exec (.chkPresetWrite p u v) s = .next t ∧ t.chkParams u = x ∧ t.chkVal u = x.init ∧
      ∀ w : Fin 32, w ≠ u → t.chkParams w = s.chkParams w ∧ t.chkVal w = s.chkVal w) ∧
  (∀ (s : State) (p : Path) (u : Fin 32) (v : Word), s.awake = true → s.pathOpen p = true → 8 ≤ u.val →
    s.flag CHK_STATUS.BUSY u = false → crcPreset (bits v.toNat 12 4) = none →
    ∃ t, exec (.chkPresetWrite p u v) s = .next t ∧
      t.fld CHK_CFG.WIDTH u = (if 1 ≤ bits v.toNat 0 7 ∧ bits v.toNat 0 7 ≤ 64 then bits v.toNat 0 7 else s.fld CHK_CFG.WIDTH u) ∧
      t.fld CHK_CFG.REFIN u = bits v.toNat 7 1 ∧ t.fld CHK_CFG.REFOUT u = bits v.toNat 8 1 ∧
      ∀ w : Fin 32, w ≠ u → t.chkParams w = s.chkParams w ∧ t.chkVal w = s.chkVal w) ∧
  crcPreset 1 = some ⟨32, 0x1EDC6F41, 0xFFFFFFFF, 0xFFFFFFFF, true, true⟩ ∧
  crcPreset 2 = some ⟨32, 0x04C11DB7, 0xFFFFFFFF, 0xFFFFFFFF, true, true⟩ ∧
  crcPreset 3 = some ⟨16, 0x1021, 0xFFFF, 0, false, false⟩ ∧
  crcPreset 4 = some ⟨64, 0x42F0E1EBA9EA3693, 2 ^ 64 - 1, 2 ^ 64 - 1, true, true⟩ ∧
  crcPreset 5 = some ⟨8, 0x07, 0, 0, false, false⟩ ∧
  ∀ e ∈ [(1, 0xE3069283), (2, 0xCBF43926), (3, 0x29B1), (4, 0x995DC9BBDF1939FA), (5, 0xF4)], ∀ x, crcPreset e.1 = some x →
    crcResult x (crcFeed x x.init [0x31, 0x32, 0x33, 0x34, 0x35, 0x36, 0x37, 0x38, 0x39]) = e.2

/-- Through an open path, on a host unit that is not busy: CHK_FEED feeds the word's four bytes, bits [7:0] first; CHK_FEED1 feeds bits
[7:0]; LOAD = 1 loads VAL with INIT; a write of VAL loads the value written, and since what a unit holds after bytes are fed follows from
its parameters and VAL alone, feeding after that resumes the computation exactly; writes from every port act one after another. -/
def Obligations.CheckFeeding : Prop :=
  (∀ (s : State) (p : Path) (u : Fin 32) (v : Word), s.awake = true → s.pathOpen p = true → 8 ≤ u.val →
    s.flag CHK_STATUS.BUSY u = false →
    exec (.chkFeed p u v) s = .next (s.setChkVal u (crcFeed (s.chkParams u) (s.chkVal u)
      [BitVec.ofNat 8 v.toNat, BitVec.ofNat 8 (v.toNat / 256), BitVec.ofNat 8 (v.toNat / 65536), BitVec.ofNat 8 (v.toNat / 16777216)])) ∧
    exec (.chkFeed1 p u v) s = .next (s.setChkVal u (crcFeed (s.chkParams u) (s.chkVal u) [BitVec.ofNat 8 v.toNat])) ∧
    (v.toNat % 2 = 1 → exec (.chkLoad p u v) s = .next (s.setChkVal u (s.pair CHK_INIT.INIT u))) ∧
    (v.toNat % 2 = 0 → exec (.chkLoad p u v) s = .next s) ∧
    (∀ x, x < 2 ^ s.fld CHK_CFG.WIDTH u → x < 2 ^ 64 → Sparse.find s.host.staged (pathKey p (CHK_VAL.VAL.addr u)) =
        some (BitVec.ofNat 32 x) →
      ∃ t, exec (.pairHiWrite p (CHK_VAL.VAL.addr u + 4) (BitVec.ofNat 32 (x / 2 ^ 32))) s = .next t ∧ t.chkVal u = x ∧
        t.chkParams u = s.chkParams u)) ∧
  (∀ (s : State) (u x : Nat), (s.setChkVal u x).chkVal u = x % 2 ^ 64 ∧ (s.setChkVal u x).chkParams u = s.chkParams u) ∧
  (∀ (x : CrcParams) (v : Nat) (a b : List Byte), crcFeed x v (a ++ b) = crcFeed x (crcFeed x v a) b)

/-- Register writes to the parameters, the feeding registers and CHK_CTRL leave an internal unit as it is; on a host unit that is BUSY
they are ignored and set its COLLIDE. -/
def Obligations.CheckGuards : Prop :=
  ∀ (s : State) (p : Path) (u : Fin 32) (v : Word), s.awake = true → s.pathOpen p = true →
    ∀ c ∈ [Instr.chkPresetWrite p u v, .chkFeed p u v, .chkFeed1 p u v, .chkLoad p u v],
      (u.val < 8 → exec c s = .next s) ∧
      (8 ≤ u.val → s.flag CHK_STATUS.BUSY u = true → exec c s = .next (s.setFlag CHK_STATUS.COLLIDE true u))

/-- A started CMD_CHK_RUN of each operation on a host unit, whose bytes are all permitted and readable and do not overlap, runs over its
source (the trailing CRC excluded for CHECK and CHECK_STRIP), and completes ST_OK with the result and the bytes fed; a CHECK or
CHECK_STRIP whose trailing CRC differs sets MISMATCH and completes 0x1603. A run on an internal unit completes 0x1601, one whose
source is shorter than the CRC 0x1604, one whose source meets its destination 0x1602. A run stops before the first byte that may not be
read or written, which completes 0x1602, or that is uncorrectable, which is reported and completes 0x1605 with its address. A command of
another operation is not the row's, and with none started nothing changes. -/
def Obligations.CheckRuns : Prop :=
  ∀ (s : State) (q : Fin 24) (tag : Nat), s.awake = true →
    ∀ e ∈ [(Instr.chkRunCompute q tag, 0), (.chkRunAppend q tag, 1), (.chkRunCheck q tag, 2), (.chkRunCheckStrip q tag, 3)],
      (s.cmd q tag 0x1601 = none → exec e.1 s = .next s) ∧
      ∀ c, s.cmd q tag 0x1601 = some c →
      let r := chkRunOf c
      let u := s.chkProceed c r (max r.len (s.chkOut r))
      let good := (s.chkSource c r).drop (s.chkFed r) = crcBytes (u.chkParams r.unit) (u.chkResult r.unit)
      (r.op ≠ e.2 → exec e.1 s = .next s) ∧
      (r.op = e.2 → r.unit < 8 → exec e.1 s = .next (s.finish c 0x1601)) ∧
      (r.op = e.2 → 8 ≤ r.unit → 2 ≤ r.op → r.len < crcLen (s.chkParams r.unit) →
        exec e.1 s = .next ((s.setFlag CHK_STATUS.BUSY false r.unit).finish c 0x1604)) ∧
      (r.op = e.2 → 8 ≤ r.unit → (r.op < 2 ∨ crcLen (s.chkParams r.unit) ≤ r.len) →
        (r.overlap (s.chkOut r) = true → exec e.1 s = .next ((s.setFlag CHK_STATUS.BUSY false r.unit).finish c 0x1602)) ∧
        (r.overlap (s.chkOut r) = false → s.chkStopAt r = none →
          ((r.op < 2 ∨ good) → exec e.1 s = .next (u.chkEnd c r (s.chkFed r) stOk 0)) ∧
          (2 ≤ r.op → ¬ good →
            exec e.1 s = .next ((u.setFlag CHK_STATUS.MISMATCH true r.unit).chkEnd c r (s.chkFed r) 0x1603 0))) ∧
        (∀ k, r.overlap (s.chkOut r) = false → s.chkStopAt r = some (k, false) →
          exec e.1 s = .next ((s.chkProceed c r k).chkEnd c r (min k (s.chkFed r)) 0x1602 0)) ∧
        (∀ k, r.overlap (s.chkOut r) = false → s.chkStopAt r = some (k, true) → ∃ t addr,
          exec e.1 s = .next (t.chkEnd c r (min k (s.chkFed r)) 0x1605 addr) ∧
          (r.src = 1 → addr = (r.from' + k) / 8 * 8 ∧ t = (s.chkProceed c r k).deckUc ((r.from' + k) / 8) 3)))

/-- Through an open path GPIO_SET and GPIO_CLR change exactly the output bits written as 1 and no other register or byte; a write of
GLB_RESET with KEY 0x7240 begins the device reset, one with another key does nothing. -/
def Obligations.GpioAndReset : Prop :=
  ∀ (s : State) (p : Path) (v : Word), s.awake = true → s.pathOpen p = true →
    (∃ t, exec (.gpioSet p v) s = .next t ∧ (∀ i < 32, (t.fld GLB_GPIO_OUT.OUT).testBit i =
        ((s.fld GLB_GPIO_OUT.OUT).testBit i || v.toNat.testBit i)) ∧
      (∀ a rst, a ≠ GLB_GPIO_OUT.OUT.addr 0 → t.word a rst = s.word a rst) ∧ t = { s with regs := t.regs }) ∧
    (∃ t, exec (.gpioClr p v) s = .next t ∧ (∀ i < 32, (t.fld GLB_GPIO_OUT.OUT).testBit i =
        ((s.fld GLB_GPIO_OUT.OUT).testBit i && ! v.toNat.testBit i)) ∧
      (∀ a rst, a ≠ GLB_GPIO_OUT.OUT.addr 0 → t.word a rst = s.word a rst) ∧ t = { s with regs := t.regs }) ∧
    (v.toNat % 65536 = 0x7240 → exec (.glbResetWrite p v) s = .next s.hostReset) ∧
    (v.toNat % 65536 ≠ 0x7240 → exec (.glbResetWrite p v) s = .next s)

/-! ### Frames, closures, ledgers -/

/-- While a cadence runs: the window of the frame scheduled next closes from 38,400 ticks before its start, once; a frame scheduled by a
closure starts once wall time is at least its S, a provisional one likewise, counting NOQUORUM where closures of its frame were held;
before those times, and without a cadence, nothing happens. The cadence starts 1 ms after the firmware did, outside recovery, P3 and
P4, with the frame after the last closure accepted, or 0, and not otherwise. The frame that starts takes its number, start and period limits. -/
def Obligations.FrameTimes : Prop :=
  ∀ (s : State) (x : Sched) (bad : List Nat), s.awake = true →
    (s.cadence = true → s.cad.next = some x →
      (x.start ≤ s.now + 38400 → exec .commitWindowClose s = .next s.closeWindow) ∧
      (s.now + 38400 < x.start → exec .commitWindowClose s = .next s) ∧
      (x.closed = true → s.closeWindow = s) ∧
      (x.closed = false → s.closeWindow.cad.next = some { x with closed := true }) ∧
      (x.prov = false → x.start ≤ s.now → exec (.frameStart bad) s = .next (s.startFrame x bad)) ∧
      (x.prov = false → exec (.provisionalStart bad) s = .next s) ∧
      (s.now < x.start → exec (.frameStart bad) s = .next s ∧ exec (.provisionalStart bad) s = .next s) ∧
      (x.prov = true → exec (.frameStart bad) s = .next s) ∧
      (x.prov = true → x.start ≤ s.now →
        (s.red.closures.any (fun c => c.frame = x.num) = true → exec (.provisionalStart bad) s =
          .next (State.startFrame ((s.bump RED_VOTE_CNT.NOQUORUM).raise 0x1402 [(24, 8, x.num)]) x bad)) ∧
        (s.red.closures.any (fun c => c.frame = x.num) = false →
          exec (.provisionalStart bad) s = .next (s.startFrame x bad)))) ∧
    (s.cadence = false → exec .commitWindowClose s = .next s ∧ exec (.frameStart bad) s = .next s ∧
      exec (.provisionalStart bad) s = .next s) ∧
    (s.cadence = false → s.restarting = false → s.flag FWU_STATUS.RECOVERY = false → s.flag GLB_CLK.ROOT_LOCK = true →
      s.fwu.since + ms ≤ s.clock → s.fld PWR_STATE.STATE < 3 →
      let first := (match s.cad.accepted with | some a => a + 1 | none => 0)
      let u := State.closeWindow { s with cad := { s.cad with next := some ⟨first, s.now, 0, false, false, true⟩ }
                                          str := { s.str with trims := List.range 16 } }
      let w := if u.str.next.isSome then u else u.takeHard u.str.hard
      exec (.cadenceStart bad) s = .next (w.startFrame ⟨first, s.now, 0, false, true, true⟩ bad)) ∧
    ((s.cadence = true ∨ s.restarting = true ∨ s.flag FWU_STATUS.RECOVERY = true ∨ s.flag GLB_CLK.ROOT_LOCK = false ∨
        s.clock < s.fwu.since + ms ∨ 3 ≤ s.fld PWR_STATE.STATE) → exec (.cadenceStart bad) s = .next s) ∧
    ((s.enterFrame x).frame = x.num % 2 ^ 64 ∧ (s.enterFrame x).pair TIM_START.START = x.start % 2 ^ 64 ∧
      ∀ a b c, s.cad.soft = some (a, b, c) → (s.enterFrame x).cad.tMin = a ∧ (s.enterFrame x).cad.tNom = b ∧
        (s.enterFrame x).cad.tMax = c)

/-- On a device whose plane engine runs, the first row of Table 13-2 whose condition holds decides: dark under a hard transition (swapped
where confirmed); otherwise the front buffer repeats during a tollhouse restart, at a provisional start, and under a closure whose
generation is not held; a confirmed back buffer of this frame is presented; a late one of the frame before, now confirmed, is presented
and this frame dropped; otherwise the front buffer repeats. The row names the counter, the swap and what becomes of the back buffer. -/
def Obligations.FrameOutcomes : Prop :=
  ∀ (s : State) (x : Sched) (prev : Nat) (trans : Bool),
    let settled (t : State) (shown : Bool) : State := if x.prov then t else t.settle shown
    let repeats (kind : Nat) : State := (s.bump TIM_CNT_REPEAT.COUNT).frameEvent kind x.num
    (trans = true →
      let u := settled ((s.bump TIM_CNT_DARK.COUNT).frameEvent 0 x.num) false
      (u.backConfirmed = true → s.outcome x prev trans = (u.swapChecked none, .begin)) ∧
      (u.backConfirmed = false → x.num ≤ s.cad.target → s.outcome x prev trans = (u, .keep)) ∧
      (u.backConfirmed = false → s.cad.target < x.num → s.outcome x prev trans = (u.frameEvent 4 s.cad.target, .retarget))) ∧
    (trans = false → s.restarting = true → s.outcome x prev trans = (settled (repeats 0) false, .keep)) ∧
    (trans = false → s.restarting = false → x.prov = true → s.outcome x prev trans = (repeats 2, .retarget)) ∧
    (trans = false → s.restarting = false → x.prov = false → x.ok = false →
      s.outcome x prev trans = ((repeats 0).settle false, .retarget)) ∧
    (trans = false → s.restarting = false → x.prov = false → x.ok = true → s.backConfirmed = true → s.cad.target = x.num →
      s.outcome x prev trans = (((s.bump TIM_CNT_PRES.COUNT).frameShown.swapChecked (some x.num)).settle true, .begin)) ∧
    (trans = false → s.restarting = false → x.prov = false → x.ok = true → s.backConfirmed = true → s.cad.target ≠ x.num →
      s.cad.late = true → s.cad.target = prev → s.outcome x prev trans =
        ((((s.bump TIM_CNT_PRES.COUNT).bump TIM_CNT_DROP.COUNT).frameShown.swapChecked (some prev)).settle true, .begin)) ∧
    (trans = false → s.restarting = false → x.prov = false → x.ok = true →
      ¬ (s.backConfirmed = true ∧ s.cad.target = x.num) → ¬ (s.backConfirmed = true ∧ s.cad.late = true ∧ s.cad.target = prev) →
      (x.num ≤ s.cad.target → s.outcome x prev trans = ((repeats 0).settle false, .keep)) ∧
      (s.cad.target < x.num → s.outcome x prev trans = (((repeats 0).settle false).frameEvent 4 s.cad.target, .retarget)))

/-- A keystone whose cadence runs decides the next frame once: in FREE at once, in SOURCE at a new stamp or T_MAX less LEAD after the frame
start; the start lies within T_MIN to T_MAX of the frame before. A proposal of a listed keystone replaces its earlier one for the frame;
one of another node, one a device that is no keystone gets, or one that is no closure is dropped. When its wait ends it adopts the S of
the lowest-indexed other keystone below it held for that frame if it may, else keeps its own; at S less LEAD, outside a reset of FN_RED, it
broadcasts the closure naming the newest generation committed, and holds it itself. With nothing due nothing changes. -/
def Obligations.KeystoneVotes : Prop :=
  ∀ (s : State) (key : Nat), s.awake = true →
    (s.ownKey = some key → s.cadence = true → s.key.frame ≠ some (s.frame + 1) →
      (s.cad.set'.1 = 0 → exec .cadenceDecision s = .next (s.decideFrame (s.frame + 1) key none)) ∧
      (s.cad.set'.1 ≠ 0 → ∀ t, s.key.stamp = some t →
        exec .cadenceDecision s = .next (s.decideFrame (s.frame + 1) key (some t))) ∧
      (s.cad.set'.1 ≠ 0 → s.key.stamp = none →
        (s.pair TIM_START.START + s.cad.tMax ≤ s.now + s.cad.set'.2.1 →
          exec .cadenceDecision s = .next (s.decideFrame (s.frame + 1) key none)) ∧
        (s.now + s.cad.set'.2.1 < s.pair TIM_START.START + s.cad.tMax → exec .cadenceDecision s = .next s))) ∧
    ((s.ownKey = none ∨ s.cadence = false ∨ s.key.frame = some (s.frame + 1)) → exec .cadenceDecision s = .next s) ∧
    (∀ a : Int, s.cad.tMin ≤ s.cad.tMax →
      let start := sat a (s.pair TIM_START.START + s.cad.tMin : Nat) (s.pair TIM_START.START + s.cad.tMax : Nat)
      ((s.pair TIM_START.START + s.cad.tMin : Nat) : Int) ≤ start ∧ start ≤ ((s.pair TIM_START.START + s.cad.tMax : Nat) : Int)) ∧
    (s.takeMsg 0x21 = none → exec .propose s = .next s) ∧
    (∀ k m u, s.takeMsg 0x21 = some (k, m, u) →
      ((u.keyOf m.src = none ∨ u.ownKey = none ∨ ∃ i, u.keyOf m.src = some i ∧ closureOf i m.payload = none) →
        exec .propose s = .next u) ∧
      (∀ i c, u.keyOf m.src = some i → u.ownKey ≠ none → closureOf i m.payload = some c →
        exec .propose s = .next { u with red := { u.red with
          props := c :: u.red.props.filter fun d => ¬ (d.key = i ∧ d.frame = c.frame) } })) ∧
    (s.red.own = none → exec .voteWaitExpiry s = .next s) ∧
    (∀ own stop, s.red.own = some (own, stop) →
      let issues (c : Closure) : State := { s with red := { s.red with own := none, issue := some c } }
      (s.now < stop → exec .voteWaitExpiry s = .next s) ∧
      (stop ≤ s.now → (∀ d ∈ s.red.props, d.frame = own.frame → own.key ≤ d.key) → exec .voteWaitExpiry s = .next (issues own)) ∧
      (stop ≤ s.now → ∀ d ∈ s.red.props, d.frame = own.frame → d.key < own.key →
        (∀ e ∈ s.red.props, e.frame = own.frame → e.key < own.key → e = d ∨ d.key < e.key) →
        (s.adopts own d = true → exec .voteWaitExpiry s = .next (issues { own with start := d.start, adopted := true })) ∧
        (s.adopts own d = false → exec .voteWaitExpiry s = .next (issues own)))) ∧
    (s.red.issue = none → exec .closureIssue s = .next s) ∧
    (∀ c, s.red.issue = some c →
      (s.now + s.cad.set'.2.1 < c.start → exec .closureIssue s = .next s) ∧
      (s.fnState 19 = fnReset → exec .closureIssue s = .next s) ∧
      (c.start ≤ s.now + s.cad.set'.2.1 → s.fnState 19 ≠ fnReset →
        let c' : Closure := { c with gen := s.namedGen.1, hash := s.namedGen.2 }
        let u := s.sendMsg .all 0 0x20 0 (closureBytes c') false
        exec .closureIssue s = .next (State.holdClosure { u.bumpPair LDG_ISSUED.ISSUED with
          red := { u.red with issue := none }, ldg := { u.ldg with issued := c.frame } } c')))

/-- A closure from a node that is no keystone only counts in FOREIGN; one that is no closure, or comes to a device without a cadence,
changes nothing else. One of a listed keystone is held while fewer than the quorum agree in FRAME, S, G and DESC_HASH; with the quorum it
is accepted: ignored where its frame is not above the one in progress, missed where its S has passed, else scheduled at S in place of what
was scheduled. A second one of the same keystone and frame changes nothing. One that comes after acceptance and differs counts in DISAGREE
and raises EV_RED_DISAGREE once per episode; one that agrees ends it. -/
def Obligations.ClosuresAccepted : Prop :=
  ∀ (s : State), s.awake = true →
    (s.takeMsg 0x20 = none → exec .closure s = .next s) ∧
    (∀ k m u, s.takeMsg 0x20 = some (k, m, u) →
      (u.keyOf m.src = none → exec .closure s = .next (u.bump RED_FOREIGN.FOREIGN)) ∧
      (∀ i, u.keyOf m.src = some i → closureOf i m.payload = none → exec .closure s = .next u) ∧
      (∀ i c, u.keyOf m.src = some i → closureOf i m.payload = some c →
        (u.cadence = false → exec .closure s = .next u) ∧
        (u.cadence = true → u.red.accepted.find? (fun d => d.frame = c.frame) = none →
          let votes := (u.red.closures ++ [c]).filter c.agrees
          ((∃ d ∈ u.red.closures, d.key = c.key ∧ d.frame = c.frame) → exec .closure s = .next u) ∧
          ((∀ d ∈ u.red.closures, d.key = c.key → d.frame ≠ c.frame) →
            (votes.length < u.quorum → exec .closure s =
              .next { u with red := { u.red with closures := u.red.closures ++ [c] } }) ∧
            (u.quorum ≤ votes.length → ∃ t : State, exec .closure s = .next (t.acceptClosure c) ∧
              t.red.accepted.head? = some c ∧ (∀ d ∈ t.red.closures, d.frame ≠ c.frame) ∧
              t.cad = u.cad ∧ t.time = u.time ∧ t.out = u.out ∧
              (∀ a rst, a ≠ RED_STATUS.AGREE.addr 0 → t.word a rst = u.word a rst)))) ∧
        (u.cadence = true → ∀ d, u.red.accepted.find? (fun d => d.frame = c.frame) = some d →
          (c.agrees d = true → ∃ t : State, exec .closure s = .next t ∧ c.key ∉ t.red.differ ∧ t.cad = u.cad ∧
            t.red.accepted = u.red.accepted ∧ t.red.closures = u.red.closures) ∧
          (c.agrees d = false → c.key ∈ u.red.differ → exec .closure s = .next (u.bump RED_VOTE_CNT.DISAGREE)) ∧
          (c.agrees d = false → c.key ∉ u.red.differ → exec .closure s = .next (State.raise
            { u.bump RED_VOTE_CNT.DISAGREE with red := { u.red with differ := c.key :: u.red.differ } } 0x1401
            [(16, 1, c.key), (24, 8, c.frame)]))))) ∧
    (∀ c : Closure,
      (c.frame ≤ s.frame → s.acceptClosure c = { s with cad := { s.cad with accepted := some c.frame } }) ∧
      (s.frame < c.frame → let t := State.bumpPair { s with cad := { s.cad with accepted := some c.frame } } LDG_ACCEPTED.ACCEPTED
        (c.start < s.now → s.acceptClosure c = t.missClosure c) ∧ (s.now ≤ c.start → s.acceptClosure c = t.scheduleClosure c)) ∧
      (s.now + 38400 < c.start → ∃ ok closed, (s.scheduleClosure c).cad.next = some ⟨c.frame, c.start, c.gen, ok, closed, false⟩))

/-- The tollhouse audits the enabled quantities once per frame, 1,536 ticks after its start, or every millisecond without a cadence, and not
before or in a restart; CMD_LDG_AUDIT audits those of its mask at once and answers the mask of those of which an instance fails. An audit
that finds no instance changes nothing; one that finds nothing wrong counts; one that first finds an instance wrong counts as a failure too,
shows the quantity in IMBAL and raises EV_LDG_IMBALANCE with the quantity, the instance and both sides of the invariant; while it stays
wrong no further event is raised. -/
def Obligations.LedgerAudits : Prop :=
  ∀ (s : State) (q : Fin 24) (tag : Nat), s.awake = true →
    (s.restarting = false →
      ((s.cadence = true → s.ldg.audited = false ∧ s.pair TIM_START.START + 1536 ≤ s.now) ∧ (s.cadence = false → s.ldg.last + ms ≤ s.clock)) →
      ∃ t, exec .ledgerAudit s = .next { t with ldg := { t.ldg with two := false } } ∧
        t = (List.range 8).foldl (fun (t : State) i => if bits (t.fld LDG_CFG.EN) i 1 = 1 then t.audit i else t)
          { s with ldg := { s.ldg with audited := true, last := s.clock } }) ∧
    ((s.restarting = true ∨ (s.cadence = true ∧ (s.ldg.audited = true ∨ s.now < s.pair TIM_START.START + 1536)) ∨
        (s.cadence = false ∧ s.clock < s.ldg.last + ms)) → exec .ledgerAudit s = .next s) ∧
    (s.cmd q tag 0x1301 = none → exec (.cmdLdgAudit q tag) s = .next s) ∧
    (∀ c, s.cmd q tag 0x1301 = some c →
      let failed := maskWhere 8 fun i => decide (bits (c.opnd 32 1) i 1 = 1) && (s.found i).any fun x => ! x.ok
      exec (.cmdLdgAudit q tag) s = .next (State.finish
        ((List.range 8).foldl (fun (t : State) i => if bits (c.opnd 32 1) i 1 = 1 then t.audit i else t) s)
        c stOk (result [(16, 1, failed)]))) ∧
    (∀ n, s.found n = [] → s.audit n = s) ∧
    (∀ n < 8, s.found n ≠ [] →
      ∃ t : State, t.ldg.failed = s.ldg.failed.filter (fun p => p.1 ≠ n) ++
          ((s.found n).filter fun x => ! x.ok).map (fun x => (n, x.inst)) ∧
        t = { s with regs := t.regs, ldg := t.ldg } ∧
        ((s.found n).filter (fun x => ! x.ok) = [] → bits (s.fld LDG_STATUS.IMBAL) n 1 = 0 →
          s.audit n = t ∧ t.fld LDG_STATUS.IMBAL = s.fld LDG_STATUS.IMBAL) ∧
        (∀ x more, (s.found n).filter (fun x => ! x.ok) = x :: more → bits (t.fld LDG_STATUS.IMBAL) n 1 = 1 ∧
          (bits (s.fld LDG_STATUS.IMBAL) n 1 = 0 →
            s.audit n = t.raise 0x1301 [(16, 1, n), (18, 2, x.inst), (20, 4, x.x), (24, 4, x.y)]) ∧
          (bits (s.fld LDG_STATUS.IMBAL) n 1 = 1 → s.audit n = t)))
/-! ### Bit-streams -/

/-- CMD_CFG_STAGE: refused while a stage is in use; a chunk that does not continue the stage completes 0x0201, one whose stream does not fit
0x0202; a first chunk opens a stage of the length it names, a later one continues it, and each that is not the last completes ST_OK with the
stage RECEIVING; after a last one check unit 0 has run over the bytes before the trailer, and the stage is COMPLETE where the trailer holds
their CRC-32C, FAILED with 0x0203 where it does not. CMD_CFG_STAGE_FLASH stages a slot's stream likewise unless a stage is in use.
CMD_CFG_VERIFY checks the stage that it found COMPLETE and no other. Every status but ST_OK shows in LAST_ERR. With no such command started nothing changes. -/
def Obligations.Staging : Prop :=
  ∀ (s : State) (q : Fin 24) (tag : Nat), s.awake = true →
    (s.cmd q tag 0x0201 = none → exec (.cmdCfgStage q tag) s = .next s) ∧
    (s.cmd q tag 0x0202 = none → exec (.cmdCfgStageFlash q tag) s = .next s) ∧
    (s.cmd q tag 0x0203 = none → exec (.cmdCfgVerify q tag) s = .next s) ∧
    (∀ (t : State) c st res, t.cfgFinish c st res =
      (if st = stOk then t else t.setFld CFG_STATUS.LAST_ERR (st % 256)).finish c st res) ∧
    (∀ c, s.cmd q tag 0x0201 = some c →
      let off := c.opnd 32 4
      let bs := s.payload c
      let first := decide (c.opnd 36 1 % 2 = 1)
      let last := decide (c.opnd 36 1 / 2 % 2 = 1)
      let total := if first then leAt bs 12 4 else s.cfg.total
      let put := (s.putStage off bs).setFld CFG_STATUS.STAGE sgReceiving
      let u := if first then put.setFlag CFG_STATUS.PARTIAL (isPartial bs) else put
      let w : State := { u with cfg := { u.cfg with total := total } }
      let x := w.unitRun 0 (w.staged.take (w.staged.length - 4))
      (s.stageBusy = true → exec (.cmdCfgStage q tag) s = .next (s.cfgFinish c 0x0211)) ∧
      (s.stageBusy = false → first = true → (off ≠ 0 ∨ bs.length < 512) →
        exec (.cmdCfgStage q tag) s = .next (s.cfgFinish c 0x0201)) ∧
      (s.stageBusy = false → first = false → (s.stage ≠ sgReceiving ∨ off ≠ s.fld CFG_STAGED_LEN.LEN) →
        exec (.cmdCfgStage q tag) s = .next (s.cfgFinish c 0x0201)) ∧
      (s.stageBusy = false → first = true → off = 0 → 512 ≤ bs.length → (64 * mib < total ∨ s.stageArea.2.2 < total) →
        exec (.cmdCfgStage q tag) s = .next (s.cfgFinish c 0x0202)) ∧
      (s.stageBusy = false → (first = true → off = 0 ∧ 512 ≤ bs.length ∧ total ≤ 64 * mib ∧ total ≤ s.stageArea.2.2) →
        (first = false → s.stage = sgReceiving ∧ off = s.fld CFG_STAGED_LEN.LEN) →
        (total < off + bs.length → exec (.cmdCfgStage q tag) s = .next (s.cfgFinish c 0x0201)) ∧
        (last = true → off + bs.length ≠ total → exec (.cmdCfgStage q tag) s = .next (s.cfgFinish c 0x0201)) ∧
        (last = false → off + bs.length ≤ total → exec (.cmdCfgStage q tag) s = .next (w.cfgFinish c stOk)) ∧
        (last = true → off + bs.length = total → trailerOk x.staged = true →
          exec (.cmdCfgStage q tag) s = .next ((x.setFld CFG_STATUS.STAGE sgComplete).cfgFinish c stOk)) ∧
        (last = true → off + bs.length = total → trailerOk x.staged = false →
          exec (.cmdCfgStage q tag) s = .next ((x.setFld CFG_STATUS.STAGE sgFailed).cfgFinish c 0x0203)))) ∧
    (∀ c, s.cmd q tag 0x0202 = some c →
      let bs := s.slotStream (c.opnd 32 1)
      let u := (s.putStage 0 bs).setFlag CFG_STATUS.PARTIAL (isPartial bs)
      let x := State.unitRun { u with cfg := { u.cfg with total := bs.length } } 0 (bs.take (bs.length - 4))
      (s.stageBusy = true → exec (.cmdCfgStageFlash q tag) s = .next (s.cfgFinish c 0x0211)) ∧
      (s.stageBusy = false → (64 * mib < bs.length ∨ s.stageArea.2.2 < bs.length) →
        exec (.cmdCfgStageFlash q tag) s = .next (s.cfgFinish c 0x0202)) ∧
      (s.stageBusy = false → bs.length ≤ 64 * mib → bs.length ≤ s.stageArea.2.2 →
        (trailerOk bs = true → exec (.cmdCfgStageFlash q tag) s = .next ((x.setFld CFG_STATUS.STAGE sgComplete).cfgFinish c stOk)) ∧
        (trailerOk bs = false → exec (.cmdCfgStageFlash q tag) s = .next ((x.setFld CFG_STATUS.STAGE sgFailed).cfgFinish c 0x0203)))) ∧
    (∀ c, s.cmd q tag 0x0203 = some c →
      (s.stage ≠ sgComplete → (s.stage ≠ sgVerifying ∨ s.cfg.verify ≠ some (c.q, c.id)) →
        exec (.cmdCfgVerify q tag) s = .next (s.cfgFinish c 0x0211)) ∧
      ((s.stage = sgComplete ∨ s.stage = sgVerifying ∧ s.cfg.verify = some (c.q, c.id)) →
        let u := s.setFld CFG_STATUS.STAGE sgVerifying
        let v : State := { (if s.stage = sgComplete then u else s) with cfg := { s.cfg with verify := none } }
        exec (.cmdCfgVerify q tag) s = .next (v.runVerify.1.cfgFinish c v.runVerify.2.1 v.runVerify.2.2) ∧
        (v.verifyCfg v.staged = none → v.runVerify = (v.setFld CFG_STATUS.STAGE sgVerified, stOk, [])) ∧
        (∀ f, v.verifyCfg v.staged = some f → v.runVerify.2.1 = f.status ∧
          (f.sect ≠ noSection → v.runVerify = ((v.setFld CFG_STATUS.STAGE sgFailed).raise 0x0202
            [(16, 2, f.status), (18, 2, f.sect), (20, 4, f.offset)], f.status, result [(16, 2, f.sect), (20, 4, f.offset)])))))

/-- CMD_CFG_APPLY makes a VERIFIED stage PENDING with its START_TIME, unless the role would change outside P2 Dark (0x0212) or the stage is not
VERIFIED (0x0211). Without a cadence, outside a tollhouse restart, a pending load whose time has passed takes effect, unless an accepted
abort of its APPLY stops it; one of another role outside P2 Dark goes back to VERIFIED. CMD_CFG_SVN_RAISE
fuses a minimum between the one fused and that of the stream in force, and no other (0x0213). Automatic loading runs once, in HW mode,
with no stream in force and no stage in use; one that cannot be staged or fails a check ends it. With no such command started nothing changes. -/
def Obligations.ApplyingAndSvn : Prop :=
  ∀ (s : State) (q : Fin 24) (tag : Nat), s.awake = true →
    (s.cmd q tag 0x0204 = none → exec (.cmdCfgApply q tag) s = .next s) ∧
    (∀ c, s.cmd q tag 0x0204 = some c →
      (s.stage ≠ sgVerified → exec (.cmdCfgApply q tag) s = .next (s.cfgFinish c 0x0211)) ∧
      (s.stage = sgVerified → s.roleBlocked = true → exec (.cmdCfgApply q tag) s = .next (s.cfgFinish c 0x0212)) ∧
      (s.stage = sgVerified → s.roleBlocked = false → ∃ t, exec (.cmdCfgApply q tag) s = .next t ∧ t.stage = sgPending ∧
        t.cfg = { s.cfg with apply := some (c.q, c.id), startAt := if bits c.flags 1 1 = 1 then some c.startTime else none, taken := false } ∧
        t.host = (s.setCmd { c with phase := .running, since := s.clock }).host ∧
        (∀ a rst, a ≠ CFG_STATUS.STAGE.addr 0 → t.word a rst = s.word a rst) ∧
        t = { s with regs := t.regs, host := t.host, cfg := t.cfg })) ∧
    (s.cadence = false → s.restarting = false → s.stage = sgPending →
      let u := s.stopAll [0x0204]
      ((∀ t, s.cfg.startAt = some t → t ≤ s.now) →
        (u.loadDue true = true → exec .cfgApplyNoCadence s = .next u.applyLoad) ∧
        (u.loadDue true = false → exec .cfgApplyNoCadence s = .next u) ∧
        ((∀ c ∈ s.host.cmds, c.opcode = 0x0204 → c.aborts = []) → exec .cfgApplyNoCadence s = .next s.applyLoad)) ∧
      (∀ t, s.cfg.startAt = some t → s.now < t → exec .cfgApplyNoCadence s = .next s)) ∧
    ((s.cadence = true ∨ s.restarting = true ∨ s.stage ≠ sgPending) → exec .cfgApplyNoCadence s = .next s) ∧
    (s.roleBlocked = false → s.applyLoad = s.takeStream) ∧
    (s.roleBlocked = true → s.cfg.apply = none → s.applyLoad = State.cfgErr { s.setFld CFG_STATUS.STAGE sgVerified with
      cfg := { s.cfg with apply := none, startAt := none, taken := false } } 0x0212) ∧
    (s.cmd q tag 0x0205 = none → exec (.cmdCfgSvnRaise q tag) s = .next s) ∧
    (∀ c, s.cmd q tag 0x0205 = some c →
      ((c.opnd 32 1 < s.fuses.svn ∨ s.fld CFG_SVN.CUR < c.opnd 32 1) →
        exec (.cmdCfgSvnRaise q tag) s = .next (s.cfgFinish c 0x0213)) ∧
      (s.fuses.svn ≤ c.opnd 32 1 → c.opnd 32 1 ≤ s.fld CFG_SVN.CUR → ∃ t, exec (.cmdCfgSvnRaise q tag) s = .next (t.cfgFinish c stOk) ∧
        t = { s.setFld CFG_SVN.MIN (c.opnd 32 1) with fuses := { s.fuses with svn := c.opnd 32 1 } })) ∧
    ((s.cfg.auto = false ∨ s.assist 1 = true ∨ s.restarting = true ∨ s.flag CFG_STATUS.IN_FORCE = true ∨ s.stageBusy = true) →
      exec .cfgAutoload s = .next s) ∧
    (s.cfg.auto = true → s.assist 1 = false → s.restarting = false → s.flag CFG_STATUS.IN_FORCE = false → s.stageBusy = false →
      let u : State := { s with cfg := { s.cfg with auto := false } }
      let i := s.fld FWU_STATUS.ACTIVE - 1
      let r := u.stageSlot i
      ((s.fld FWU_STATUS.ACTIVE = 0 ∨ (u.slotStream i).length = 0) → exec .cfgAutoload s = .next u) ∧
      (s.fld FWU_STATUS.ACTIVE ≠ 0 → (u.slotStream i).length ≠ 0 →
        (r.2 ≠ stOk → exec .cfgAutoload s = .next (r.1.rejectStage r.2)) ∧
        (r.2 = stOk → r.1.runVerify.2.1 ≠ stOk → exec .cfgAutoload s = .next (r.1.runVerify.1.cfgErr r.1.runVerify.2.1)) ∧
        (r.2 = stOk → r.1.runVerify.2.1 = stOk → ∃ t, exec .cfgAutoload s = .next t ∧ t.stage = sgPending ∧
          t.cfg = { r.1.runVerify.1.cfg with apply := none, startAt := none, taken := false } ∧
          t = { r.1.runVerify.1.setFld CFG_STATUS.STAGE sgPending with cfg := t.cfg })))
/-! ### Sources, encoders, decoders -/

/-- An enabled receiver without lock locks: it reads LOCK, the standard byte and whether the format is supported; its source holds a supported
format once every link of it has locked; an interlaced signal raises EV_ING_FORMAT. A lost lock clears LOCK and FMT_OK, forgets the format
and the frames that are not whole, and the source counts as lost. Ancillary packets are copied raw, or counted when the ring is full.
A source frame that starts (of a receiver, one that its format and rows describe) is reported once: its stamp to FN_TIM where ING_CADENCE
names its layer, and the layers that encode it in SLICE mode begin their picture unless one has begun in the wall frame. The newest frame above
the complete one whose samples are all there becomes complete, numbered, and ends the loss of its source; with none the rest of the lines'
CRC errors count; one that overflowed is counted and closed without rows. What is not locked, not enabled or has no frame stays as it is. -/
def Obligations.SdiSources : Prop :=
  ∀ (s : State) (i : Fin 32) (j : Fin 96) (std : Fin 256) (f : SdiFormat) (bs : List Byte) (full : Bool) (rows : List (List Nat))
    (crc ovf : Nat), s.awake = true →
    ((bits (s.sdiWord i) 0 1 = 0 ∨ s.flag ING_SDI_STATUS.LOCK i = true) → exec (.sdiLock i std f) s = .next s) ∧
    (bits (s.sdiWord i) 0 1 = 1 → s.flag ING_SDI_STATUS.LOCK i = false →
      let g := s.sdiSource i
      let ok := sdiSupported f (s.quadOf g)
      let u := ((s.setFlag ING_SDI_STATUS.LOCK true i).setFld ING_SDI_STATUS.STD std i).setFlag ING_SDI_STATUS.FMT_OK ok i
      let links := if s.quadOf g then [g, g + 1, g + 2, g + 3] else [g]
      let held := ok && links.all fun k => u.flag ING_SDI_STATUS.LOCK k && u.flag ING_SDI_STATUS.FMT_OK k
      (held = true → exec (.sdiLock i std f) s = .next (u.setSource g { u.source g with fmt := some f })) ∧
      (held = false → f.scan ≠ 2 → exec (.sdiLock i std f) s = .next u) ∧
      (f.scan = 2 → exec (.sdiLock i std f) s = .next (u.raise 0x0301 [(16, 1, 0), (17, 1, i)]))) ∧
    (s.flag ING_SDI_STATUS.LOCK i = false → exec (.sdiLockLoss i) s = .next s) ∧
    (s.flag ING_SDI_STATUS.LOCK i = true → exec (.sdiLockLoss i) s = .next
      (let u := (s.setFlag ING_SDI_STATUS.LOCK false i).setFlag ING_SDI_STATUS.FMT_OK false i
       let x := u.source (s.sdiSource i)
       (u.setSource (s.sdiSource i) { x with fmt := none, frames := x.frames.filter (·.whole) }).sourceLost (s.sdiSource i))) ∧
    (s.flag ING_SDI_STATUS.LOCK i = true → bits (s.sdiWord i) 0 1 = 1 → bits (s.sdiWord i) 3 1 = 1 →
      exec (.ancPacket i bs true) s = .next (s.bump ING_SDI_ANC.ANC_LOST i) ∧
      exec (.ancPacket i bs false) s = .next (s.emit (.ancillary i bs))) ∧
    ((s.flag ING_SDI_STATUS.LOCK i = false ∨ bits (s.sdiWord i) 0 1 = 0 ∨ bits (s.sdiWord i) 3 1 = 0) →
      exec (.ancPacket i bs full) s = .next s) ∧
    (∃ u : State,
      (32 ≤ j.val → u = s) ∧ (j.val < 32 → (s.source j).fmt = none → u = s) ∧
      (∀ g, j.val < 32 → (s.source j).fmt = some g → u = s.openFrame j ⟨0, s.now, g.width, g.height, g.full, g.rgb, g.deep,
        decide (bits (s.sdiWord j) 4 1 = 1), 0, rows.zipIdx.map (fun r => (r.2, r.1.map some)), false, false⟩) ∧
      let x := u.source j
      ((x.frames = [] ∨ x.reported = true) → exec (.sourceFrameStart j rows) s = .next u) ∧
      (∀ g gs, x.frames = g :: gs → x.reported = false → ∃ v : State,
        ((u.ingLayer (u.fld ING_CADENCE.LAYER)).source = some j.val → v = { u.setSource j { x with reported := true } with
          key := { u.key with stamp := some g.stamp, stamps := (g.stamp :: u.key.stamps).take 3 } }) ∧
        ((u.ingLayer (u.fld ING_CADENCE.LAYER)).source ≠ some j.val → v = u.setSource j { x with reported := true }) ∧
        exec (.sourceFrameStart j rows) s = .next ((v.layersOf j).foldl (fun (t : State) l =>
          if t.encodes l ∧ bits (t.ingLayer l).word 3 1 = 1 ∧ ! (t.encLayer l).opened then
            t.openPicture l (some g) (x.frames.find? (·.whole)) true else t) v))) ∧
    (let fs := (s.source j).frames.takeWhile fun g => ! g.whole
     let u := if j.val < 32 then s.bump ING_SDI_STATUS.CRC_ERR j crc else s
     (fs = [] → exec (.sourceFrameComplete j crc ovf) s = .next s) ∧
     (fs ≠ [] → 0 < ovf → exec (.sourceFrameComplete j crc ovf) s = .next
       ((u.bump MEM_PORT_STAT.OVERFLOW 0 ovf).mapFrame j 0 fun g => { g with closed := true, rows := [] })) ∧
     (fs ≠ [] → (∀ g ∈ fs, g.full' = true → j.val < 32 ∨ g.closed = true → False) →
       exec (.sourceFrameComplete j crc 0) s = .next u) ∧
     (∀ n (h : n < fs.length), fs[n].full' = true → (j.val < 32 ∨ fs[n].closed = true) →
       (∀ m (hm : m < n), ¬ (fs[m].full' = true ∧ (j.val < 32 ∨ fs[m].closed = true))) →
       exec (.sourceFrameComplete j crc 0) s = .next (u.frameWhole j n) ∧
       ((u.frameWhole j n).source j).lost = false ∧ ((u.frameWhole j n).source j).next = (s.source j).next + 1))

/-- A packet to an enabled port that no enabled flow takes, or that carries IPv6 or options, is counted and dropped; else each flow that it
matches gets it: a field refuses the flow with EV_ING_FORMAT once; other samples are placed in the flow's open frame of that timestamp, a
later timestamp opening a frame first (log entry 132), and a marker closes it. Two frame periods without a packet lose the source. In HW mode,
outside a restart, an enabled flow is joined once, a disabled one left, a query repeats the port's joins; ARP for the port's own address is
answered. A Sync of domain 127 begins an exchange; with its time of sending known a Delay_Req leaves; the Delay_Resp ends it, with half the
difference of the two ways as the offset: the first sets the PTP clock; a later one, in HW mode, draws the servo's correction, which the spec does not give. -/
def Obligations.NetworkSources : Prop :=
  ∀ (s : State) (e : Fin 8) (k : Fin 64) (p : EthPacket) (ip : Nat) (m : PtpMsg), s.awake = true →
    (bits (s.ethWord e) 0 1 = 0 → exec (.ethPacket e p) s = .next s) ∧
    (bits (s.ethWord e) 0 1 = 1 →
      ((p.ipv6 = true ∨ p.options = true ∨ ∀ n < 64, s.flowTakes e p n = false) →
        exec (.ethPacket e p) s = .next (s.bump ING_ETH_DROP.DROP e)) ∧
      (p.ipv6 = false → p.options = false → (∃ n < 64, s.flowTakes e p n = true) →
        exec (.ethPacket e p) s = .next
          (((List.range 64).filter (s.flowTakes e p)).foldl (fun (t : State) n => t.flowPacket p n) s))) ∧
    (∀ n, let x := s.source (32 + n)
      let put (t : State) : State := t.mapFrame (32 + n) 0 fun f => { placeRows f p with closed := p.marker }
      let later (f : SrcFrame) : Prop := 0 < sInt 32 (uNat 32 ((p.time.toNat : Int) - f.time))
      (p.fields = true → x.refused = true → s.flowPacket p n = s) ∧
      (p.fields = true → x.refused = false →
        s.flowPacket p n = (s.setSource (32 + n) { x with refused := true }).raise 0x0301 [(16, 1, 1), (17, 1, n)]) ∧
      (p.fields = false →
        s.flowPacket p n = (s.setSource (32 + n) { x with refused := false, lastSeen := s.clock }).placePacket n p) ∧
      (∀ f fs, x.frames = f :: fs → f.time = p.time.toNat → f.closed = false → s.placePacket n p = put s) ∧
      ((x.frames = [] ∨ ∃ f fs, x.frames = f :: fs ∧ later f) →
        s.placePacket n p = put (s.openFrame (32 + n) (s.flowFrame n p.time.toNat))) ∧
      (∀ f fs, x.frames = f :: fs → ¬ later f → (∀ g ∈ x.frames, g.time = p.time.toNat → g.closed = true) → s.placePacket n p = s)) ∧
    (let x := s.source (32 + k)
     (0 < x.period → x.lastSeen + 2 * x.period ≤ s.clock → exec (.flowTimeout k) s = .next (s.sourceLost (32 + k))) ∧
     ((x.period = 0 ∨ s.clock < x.lastSeen + 2 * x.period) → exec (.flowTimeout k) s = .next s)) ∧
    (let port := s.fld ING_FLOW_CFG.PORT k
     let group := s.fld ING_FLOW_DST.DST_IP k
     let src := s.fld ING_FLOW_SRC.SRC_IP k
     ((s.assist 3 = true ∨ s.restarting = true) → exec (.igmpJoin k) s = .next s ∧ exec (.igmpQuery e) s = .next s) ∧
     (s.assist 3 = false → s.restarting = false →
       (s.flag ING_FLOW_CFG.EN k = true → k.val ∉ s.ing.joined → exec (.igmpJoin k) s = .next
         (State.emit { s with ing := { s.ing with joined := k.val :: s.ing.joined } } (.igmp port group src false))) ∧
       (s.flag ING_FLOW_CFG.EN k = false → k.val ∈ s.ing.joined → exec (.igmpJoin k) s = .next
         (State.emit { s with ing := { s.ing with joined := s.ing.joined.filter (· ≠ k.val) } } (.igmp port group src true))) ∧
       (s.flag ING_FLOW_CFG.EN k = decide (k.val ∈ s.ing.joined) → exec (.igmpJoin k) s = .next s) ∧
       exec (.igmpQuery e) s = .next { s with
         out := ((s.ing.joined.filter fun k => s.fld ING_FLOW_CFG.PORT k = e.val).map fun k =>
           Output.igmp e (s.fld ING_FLOW_DST.DST_IP k) (s.fld ING_FLOW_SRC.SRC_IP k) false).reverse ++ s.out })) ∧
    (s.restarting = false → s.flag ING_ETH_CFG.EN e = true → ip = s.fld ING_ETH_IP.IP e → ip ≠ 0 →
      exec (.arpRequest e ip) s = .next (s.emit (.arpReply e ip))) ∧
    ((s.restarting = true ∨ s.flag ING_ETH_CFG.EN e = false ∨ ip ≠ s.fld ING_ETH_IP.IP e ∨ ip = 0) →
      exec (.arpRequest e ip) s = .next s) ∧
    ((s.restarting = true ∨ s.flag ING_ETH_CFG.EN e = false ∨ m.domain ≠ 127) → exec (.ptpMessage e m) s = .next s) ∧
    (s.restarting = false → s.flag ING_ETH_CFG.EN e = true → m.domain = 127 →
      (m.kind = .sync true → exec (.ptpMessage e m) s = .next
        { s with ing := { s.ing with trip := some ⟨e, m.seq.toNat, none, s.ing.ptp - m.corr * (3 * 2 ^ 24), 0, none⟩ } }) ∧
      (m.kind = .sync false → exec (.ptpMessage e m) s = .next
        (s.delayReq ⟨e, m.seq.toNat, some (ptpUnits m 1), s.ing.ptp, 0, none⟩)) ∧
      (∀ x, s.ing.trip = some x → m.kind = .followUp →
        (x.port = e.val → x.seq = m.seq.toNat → x.t1 = none → exec (.ptpMessage e m) s = .next
          (s.delayReq { x with t1 := some (ptpUnits m 1) })) ∧
        ((x.port ≠ e.val ∨ x.seq ≠ m.seq.toNat ∨ x.t1 ≠ none) → exec (.ptpMessage e m) s = .next s)) ∧
      (∀ x t1 t3, s.ing.trip = some x → m.kind = .delayResp → x.t1 = some t1 → x.t3 = some t3 →
        (x.port = e.val → x.req = m.seq.toNat → exec (.ptpMessage e m) s = .next (State.ptpOffset
          { s with ing := { s.ing with trip := none } } (((x.t2 - t1) - (ptpUnits m (-1) - t3)) / 2))) ∧
        ((x.port ≠ e.val ∨ x.req ≠ m.seq.toNat) → exec (.ptpMessage e m) s = .next s)) ∧
      (s.ing.trip = none → (m.kind = .followUp ∨ m.kind = .delayResp) → exec (.ptpMessage e m) s = .next s)) ∧
    (∀ x, s.delayReq x = State.emit { s with ing := { s.ing with
      trip := some { x with req := s.ing.nextReq, t3 := some s.ing.ptp }, nextReq := (s.ing.nextReq + 1) % 65536 } }
      (.delayReq x.port s.ing.nextReq)) ∧
    (∀ off : Int,
      (s.ing.ptpSet = false → s.ptpOffset off = { s with ing := { s.ing with ptpSet := true, ptp := ((s.ing.ptp : Int) - off).toNat } }) ∧
      (s.ing.ptpSet = true → s.assist 4 = true → s.ptpOffset off = s) ∧
      (s.ing.ptpSet = true → s.assist 4 = false → s.ptpOffset off =
        State.draw { s with ing := { s.ing with ptpRate := sInt 32 s.free } }))

/-- A stream whose next row is ready, with a slice encoder free, its base known and the record that its QP needs, gets it: the slice has its row's
blocks, its cap, and is intra where its column or its row is refreshed; otherwise nothing is allocated. The blocks of a slice in coding that obey the
syntax of a slice, none referring back in an intra one, free the encoder, and the slice is handed on in order; others leave it in coding; where a line
of the bay's WORK read uncorrectable or poisoned it goes out all-tail. A picture that waits, its row 0 ready, takes the layer over by
fill slices. A deadline that passes with rows unwritten counts the torn row, EV_ING_TORN once a picture, and nothing before it. A refresh that a pier asks for is
scheduled for the streams of a layer that encodes, in ASSIST told to the host once; a command's refresh schedules its columns, with none it completes; a
clip plays from the next frame start, and a playback in progress ends. Without such a row, message or command nothing changes. -/
def Obligations.EncoderRows : Prop :=
  ∀ (s : State) (l : Fin 63) (c : Fin 64) (q : Fin 24) (tag row n : Nat) (bl : List (List Bool)) (lost : List Nat), s.awake = true →
    let i := 64 * l.val + c
    let x := s.encStream i
    let y := s.encLayer l
    (y.pic = none → exec (.sliceAllocate l c n) s = .next s) ∧
    (∀ p₀, y.pic = some p₀ →
      let p := s.fixPicture l (if p₀.slice then s.freshSrc l p₀ else p₀)
      let may : Prop := c.val < colsOf p.width ∧ x.row < rowsOf p.height ∧ rowsReady p x.row n = true ∧ x.recordKnown p x.row = true
      ((¬ may ∨ x.base = none ∨ s.freeEncoder = none) → exec (.sliceAllocate l c n) s = .next s) ∧
      (∀ f8 enc, may → x.base = some f8 → s.freeEncoder = some enc →
        let u := (s.takePicture l p).beginColumn l c p
        let z := u.newSlice l c p f8 enc
        z.pic = p ∧ z.row = (u.encStream i).row ∧ z.n = blocksOf p.width p.height c z.row ∧ z.enc = enc ∧ z.blocks = none ∧
        z.cap = (u.encStream i).cap f8 (fillOf (p.setting 5) z.n) (bucketOf (p.setting 5) (p.setting 6)) ∧
        z.intra = (u.allIntra l c p || u.refreshes l c z.row p) ∧
        exec (.sliceAllocate l c n) s = .next ((((u.addSlice i z ((u.encStream i).carry.filter (· ≠ x.row))).give
          (enc / 16)).showActive).tryBegin l))) ∧
    ((∀ e ∈ x.slices, e.row = row → e.coding = false) → exec (.sliceEncodeDone l c row bl lost) s = .next s) ∧
    (∀ k e, x.slices.findIdx? (fun e => decide (e.row = row) && e.coding) = some k → x.slices[k]? = some e →
      let put (t : State) (e : EncSlice) : State := ((t.setEncStream i { x with slices := x.slices.set k e }).showActive).flushStream i
      let gone := s.workLost (e.enc / 16) lost
      let good : Prop := bl.length = e.n ∧ ¬ (e.intra = true ∧ bl.any refersBack = true) ∧
        blocksObey (e.hdr i) ⟨[], 0, 0, 0, false⟩ bl = true
      (gone = [] → good → exec (.sliceEncodeDone l c row bl lost) s = .next (put s { e with blocks := some bl })) ∧
      (gone = [] → ¬ good → exec (.sliceEncodeDone l c row bl lost) s = .next s) ∧
      (gone ≠ [] → exec (.sliceEncodeDone l c row bl lost) s = .next (put
        ((gone.filter fun l => l ∈ s.mem.extBad || ! s.extUp).foldl (fun (t : State) l => t.lineUc l 2) s)
        { e with kind := 1, intra := true, blocks := some [] }))) ∧
    (y.waiting = none → exec (.encOverrun l n) s = .next s) ∧
    (∀ p, y.waiting = some p →
      (rowsReady (s.freshSrc l p) 0 n = true → exec (.encOverrun l n) s = .next (s.encOverrun l)) ∧
      (rowsReady (s.freshSrc l p) 0 n = false → exec (.encOverrun l n) s = .next s)) ∧
    ((y.pic = none ∨ (s.ingLayer l).source = none ∨ ∃ p, y.pic = some p ∧ p.src = none) →
      exec (.sliceRowDeadline l row n) s = .next s) ∧
    (∀ p f j, y.pic = some p → (s.ingLayer l).source = some j → p.src = some f →
      let due := f.stamp + (row + 1) * (s.source j).period / rowsOf p.height + s.fld ENC_GLOBAL.SLICE_WAIT * us
      let late : Prop := p.slice = true ∧ row < rowsOf p.height ∧ due ≤ s.now ∧ rowsReady (s.freshSrc l p) row n = false
      let miss := (List.range f.height).filter fun y => decide (n ≤ y) && decide (32 * row ≤ y) && decide (y < 32 * row + 32)
      let v := (s.setEncLayer l { y with pic := some { p with torn := Sparse.set p.torn row miss } }).bump ING_TORN.TORN l
      (¬ late → exec (.sliceRowDeadline l row n) s = .next s) ∧
      (late → p.torn = [] → exec (.sliceRowDeadline l row n) s = .next (v.raise 0x0305 [(16, 1, l), (20, 4, row)])) ∧
      (late → p.torn ≠ [] → exec (.sliceRowDeadline l row n) s = .next v)) ∧
    (s.takeMsg 0x0B = none → exec .refreshReq s = .next s) ∧
    (∀ k m u, s.takeMsg 0x0B = some (k, m, u) →
      let stream := beAt m.payload 0 2 % 4096
      let z := u.encLayer (stream / 64)
      ((m.payload.length ≠ 5 ∨ z.on = false ∨ u.layerCols (stream / 64) ≤ stream % 64) → exec .refreshReq s = .next u) ∧
      (m.payload.length = 5 → z.on = true → stream % 64 < u.layerCols (stream / 64) →
        (u.assist 5 = false → exec .refreshReq s = .next (u.askRefresh (stream / 64) (stream % 64) none)) ∧
        (u.assist 5 = true → stream ∈ z.told → exec .refreshReq s = .next u) ∧
        (u.assist 5 = true → stream ∉ z.told → exec .refreshReq s = .next
          ((u.setEncLayer (stream / 64) { z with told := stream :: z.told }).raise 0x0602 [(16, 2, stream), (18, 2, m.src)])))) ∧
    (s.cmd q tag 0x0601 = none → exec (.cmdEncRefresh q tag) s = .next s) ∧
    (∀ x, s.cmd q tag 0x0601 = some x →
      let cols := (List.range (s.layerCols (x.opnd 32 1))).filter fun k => bits (x.opnd 40 8) k 1 = 1
      (s.flag ENC_LAYER_CFG.EN (x.opnd 32 1) = false → exec (.cmdEncRefresh q tag) s = .next (s.finish x 0x0601)) ∧
      (s.flag ENC_LAYER_CFG.EN (x.opnd 32 1) = true → cols = [] → exec (.cmdEncRefresh q tag) s = .next (s.finish x stOk)) ∧
      (s.flag ENC_LAYER_CFG.EN (x.opnd 32 1) = true → cols ≠ [] → exec (.cmdEncRefresh q tag) s = .next
        (cols.foldl (fun (t : State) k => t.askRefresh (x.opnd 32 1) k (some (x.q, x.id))) (s.run x)))) ∧
    (s.cmd q tag 0x0301 = none → exec (.cmdIngPlay q tag) s = .next s) ∧
    (∀ x, s.cmd q tag 0x0301 = some x →
      let old := (s.ingLayer (x.opnd 32 1)).play
      let u := (s.run x).setIngLayer (x.opnd 32 1) { s.ingLayer (x.opnd 32 1) with
        play := some ⟨x.q, x.id, x.opnd 40 8 * 4096, decide (x.opnd 33 1 % 2 = 1), 0, old.any (·.on)⟩ }
      let running := old.bind fun o => u.cmdAt o.q o.id 0x0301
      (running = none → exec (.cmdIngPlay q tag) s = .next u) ∧
      (∀ d, running = some d → exec (.cmdIngPlay q tag) s = .next (u.finish d stOk)))

/-- The first slice whose reference rows are ready starts on a slice decoder of a DEC bay of the rotation with room: with no bay in ASSIST, of the one
with fewest slices in decode; with no such decoder or slice nothing starts. A slice leaves its decoder once no slice of another picture of its context
came before it and while its bay runs: a malformed one is lost, a stale one is discarded, one of another size is lost, a conformant one is decoded into
the picture of its PIC_CNT, the picture before closed first. A requested refresh names the stream and, in an episode, its first picture and cause, and counts in
SENT; with no episode both are free values (log entry 2); a stream without context, or without a source, refuses the command. -/
def Obligations.DecoderRows : Prop :=
  ∀ (s : State) (q : Fin 24) (tag i : Nat) (bound : Option Nat), s.awake = true →
    ((s.freeDecoder = none ∨ nextSlice [] s.dec.slices = none) → exec .sliceDecodeStart s = .next s) ∧
    (∀ b j x, s.freeDecoder = some b → nextSlice [] s.dec.slices = some j → s.dec.slices[j]? = some x →
      b ∈ s.takers 1 ∧ s.running b < 16 ∧ x.running = false ∧
      ((∀ d ∈ s.takers 1, s.assist (32 + d) = false) → ∀ d ∈ s.takers 1, s.running b ≤ s.running d) ∧
      ∃ t : State, exec .sliceDecodeStart s = .next t ∧
        t = { s with dec := { s.dec with slices := t.dec.slices }, bays := (s.give b).bays } ∧
        t.dec.slices.length = s.dec.slices.length ∧ t.dec.slices[j]? = some { x with running := true, bay := b } ∧
        ∀ k, k ≠ j → t.dec.slices[k]? = s.dec.slices[k]?) ∧
    (s.dec.slices[i]? = none → exec (.sliceDecodeDone i bound) s = .next s) ∧
    (∀ x, s.dec.slices[i]? = some x →
      let others := (s.dec.slices.take i).any fun z => decide (z.ctx = x.ctx) &&
        decide ((parseHdr z.bytes).map (·.pic) ≠ (parseHdr x.bytes).map (·.pic))
      let v : State := { s with dec := { s.dec with slices := s.dec.slices.eraseIdx i } }
      let w := v.setCtx x.ctx { v.ctx x.ctx with used := (v.ctx x.ctx).used - x.bytes.length }
      ((others = true ∨ x.running = false ∨ s.bayState x.bay ≠ bayRun) → exec (.sliceDecodeDone i bound) s = .next s) ∧
      (others = false → x.running = true → s.bayState x.bay = bayRun →
        ((s.ctx x.ctx).state ≠ cxFree →
          exec (.sliceDecodeDone i bound) s = .next (w.sliceOutcome x.ctx x.bytes bound x.bay)) ∧
        ((s.ctx x.ctx).state = cxFree → exec (.sliceDecodeDone i bound) s = .next w))) ∧
    (∀ n bs b,
      (parseHdr bs = none → s.sliceOutcome n bs bound b = s.loseSlice n 0x03 bs) ∧
      (∀ h, parseHdr bs = some h →
        ((h.headerOk = false ∨ h.stream ≠ (s.ctx n).stream) → s.sliceOutcome n bs bound b = s.loseSlice n 0x03 bs) ∧
        (h.headerOk = true → h.stream = (s.ctx n).stream →
          ((s.ctx n).stale h = true → s.sliceOutcome n bs bound b = s.bump DEC_CNT_VIOL.DISCARD) ∧
          ((s.ctx n).stale h = false → (s.ctx n).geometry h = false → s.sliceOutcome n bs bound b = s.loseSlice n 0x04 bs) ∧
          ((s.ctx n).stale h = false → (s.ctx n).geometry h = true →
            let u := if (s.ctx n).cur.any (fun p => decide (p.cnt ≠ h.pic)) then s.closePicture n else s
            let v := u.decodeInto n h bs bound b
            let w := if (v.ctx n).cur.any (fun p => p.missingRows = []) then v.closePicture n else v
            s.sliceOutcome n bs bound b = w.endEpisode n)))) ∧
    (s.cmd q tag 0x0C01 = none → exec (.cmdDecRequest q tag) s = .next s) ∧
    (∀ c, s.cmd q tag 0x0C01 = some c →
      (s.ctxOf (c.opnd 32 2) = none → exec (.cmdDecRequest q tag) s = .next (s.finish c 0x0C02)) ∧
      (∀ n y, s.ctxOf (c.opnd 32 2) = some (n, y) →
        (y.src = none → exec (.cmdDecRequest q tag) s = .next (s.finish c 0x0C01)) ∧
        (∀ e a, y.ep = some e → y.src = some a → exec (.cmdDecRequest q tag) s = .next
          (((s.sendMsg (.node a) 0 0x0B 0 (beBytes 2 y.stream ++ beBytes 2 e.pic0 ++ beBytes 1 e.cause0) false).bump
            DEC_CNT_REQ.SENT).finish c stOk)) ∧
        (∀ a, y.ep = none → y.src = some a → ∃ f g : Nat, exec (.cmdDecRequest q tag) s = .next (State.finish
          ((((s.sendMsg (.node a) 0 0x0B 0 (beBytes 2 y.stream ++ beBytes 2 (f % 65536) ++ beBytes 1 (g % 256)) false).bump
            DEC_CNT_REQ.SENT).draw).draw) c stOk))))
/-! ### Span links -/

/-- The descrambler gives back what the scrambler of the same state sent. The blocks of a plank of 276 or of 20 bytes carry just those
bytes, with IDLE blocks before them and a MARKER among them or not. What is dealt over the lanes of a port, each with its MARKERs at any place
and count, is collected as it was, where no MARKER stood in it. The bytes of a long plank whose fields fit give the plank back. With block lock,
fewer than 16 invalid headers in a row do not end it and 16 do; without it, 64 valid ones in a row give it. -/
def Obligations.LineCodes : Prop :=
  (∀ st l : List Bool, descramble st (scramble st l) = l) ∧
  (∀ (bs : List Byte) (long : Bool) (n : Nat), bs.length = (if long then 276 else 20) →
    plankIn (List.replicate n idleBlock ++ plankLine long bs) = some (long, bs) ∧
    ∀ lane width count, ∀ a b, plankLine long bs = a ++ b →
      plankIn (List.replicate n idleBlock ++ a ++ markerBlock lane width count :: b) = some (long, bs)) ∧
  (∀ (w : Nat) (left count : Nat → Nat) (width : Nat) (l : List Block), 0 < w → (∀ b ∈ l, blockCtl b ≠ some markerType) →
    collected ((List.range w).map fun i => laneLine w i width (left i) (count i) l) = l) ∧
  (∀ x : Plank, x.typ < 16 → x.vc < 4 → x.hops < 256 → x.src < 4096 → x.dst < 4096 → x.stream < 4096 → x.flags < 256 → x.lseq < 65536 →
    x.tag < 2 ^ 32 → x.rsv < 2 ^ 13 → x.payload.length ≤ 256 → plankOf (plankBytes x) = x) ∧
  (∀ (h : BitVec 2) (n : Nat), headOk h = false → (unlocks (List.replicate n h) = true ↔ 16 ≤ n)) ∧
  (∀ (h : BitVec 2) (n : Nat), headOk h = true → (locks (List.replicate n h) = true ↔ 64 ≤ n))

/-- A bound port in DETECT goes to LOCK at CDR lock; in a step CDR lock only locks the lanes. Sync headers give lanes with CDR lock block
lock; once every lane of the port has it and they are aligned, a port in LOCK goes to CAP, and one in a step tunes each lane, or at
1.25 Gbit/s comes UP. A lane that loses block lock takes an UP port of its own down with cause 0, one that climbs at 1.25 Gbit/s to
WAIT. DETECT, LOCK and CAP end in WAIT after 2 ms, WAIT in DETECT after 10 ms. In CAP the port's own values leave every 10 µs, SEEN 1
once a CAP has come; a received CAP gives PEER, in UP it takes the port down with cause 3. A PROPOSE is kept and begins the step once
both ends have proposed the next rate; a valid request for taps is applied but under TX_MANUAL; the eye check of R187 gives the vote,
sent at once in HW mode and held 2 ms in ASSIST with EV_LNK_STEP; a RESULT for the rate of the step gives the far vote; after 6 ms a
step fails, at 1.25 Gbit/s into WAIT. A port that does not wait for what the row reports is unchanged. -/
def Obligations.SpanBringUp : Prop :=
  ∀ (s : State) (k : Fin 16) (lane : Fin 128) (ins : List LaneIn) (heads : List (BitVec 2)) (points : List EyePoint) (bs : List Byte)
    (blocks : List Block) (long : Bool), s.awake = true →
    let st := s.fld SPN_STATUS.STATE k
    let y := s.port k
    let clocked := s.each (s.lanes k) fun i s => s.setFlag LNE_STATUS.CDR_LOCK true i
    let locked := s.each (s.lanes k) fun i s =>
      if (ins[i - (s.binding k).first]?).any (fun l => locks l.heads) then s.setFlag LNE_STATUS.BLOCK_LOCK true i else s
    let whole := plankIn blocks = some (long, bs) ∧ crcGood long bs = true ∧ plankFault long bs = false
    let live := st = spCap ∨ st = spStep ∨ st = spanUp
    (st = spDetect → (s.binding k).width ≠ 0 → exec (.cdrLock k) s = .next (clocked.setSpan k spLock)) ∧
    (st = spStep → y.step.isSome = true → exec (.cdrLock k) s = .next clocked) ∧
    ((st ≠ spDetect ∨ (s.binding k).width = 0) → (st ≠ spStep ∨ y.step = none) → exec (.cdrLock k) s = .next s) ∧
    (ins.length = s.laneCount k → (∀ i ∈ s.lanes k, s.flag LNE_STATUS.CDR_LOCK i = true) →
      ((locked.allBlockLock k = false ∨ aligned ins = false) → (st = spLock ∨ st = spCap ∨ st = spStep) →
        exec (.blockLock k ins) s = .next locked) ∧
      (locked.allBlockLock k = true → aligned ins = true →
        (st = spLock → exec (.blockLock k ins) s = .next ((locked.setPort k { locked.port k with
          capSent := false, capSeenOut := false, capGot := false, capSeenIn := false, lastCap := none }).setSpan k spCap)) ∧
        (∀ x, st = spStep → s.allBlockLock k = false → (locked.port k).step = some x →
          (x.rate = 0 → exec (.blockLock k ins) s = .next (State.upAt k 0 locked)) ∧
          (x.rate ≠ 0 → exec (.blockLock k ins) s = .next
            (locked.each (locked.lanes k) fun i s => State.tuneLane k x.rate i s))))) ∧
    ((ins.length ≠ s.laneCount k ∨ (∃ i ∈ s.lanes k, s.flag LNE_STATUS.CDR_LOCK i = false) ∨
      (st ≠ spLock ∧ st ≠ spCap ∧ st ≠ spStep)) → exec (.blockLock k ins) s = .next s) ∧
    (s.flag LNE_STATUS.BLOCK_LOCK lane = true → unlocks heads = true →
      let u := s.setFlag LNE_STATUS.BLOCK_LOCK false lane
      (u.activePort lane = none → exec (.blockLockLoss lane heads) s = .next u) ∧
      (∀ j, u.activePort lane = some j → exec (.blockLockLoss lane heads) s = .next (
        if u.portUp j then u.spanDown j 0
        else if u.fld SPN_STATUS.STATE j = spStep ∧ u.fld SPN_STATUS.RATE j = 0 then u.toWait j
        else u))) ∧
    ((s.flag LNE_STATUS.BLOCK_LOCK lane = false ∨ unlocks heads = false) → exec (.blockLockLoss lane heads) s = .next s) ∧
    ((st = spDetect ∨ st = spLock ∨ st = spCap) → y.since + 2 * ms < s.clock → exec (.bringupTimeout k) s = .next (s.toWait k)) ∧
    ((s.clock ≤ y.since + 2 * ms ∨ (st ≠ spDetect ∧ st ≠ spLock ∧ st ≠ spCap)) → exec (.bringupTimeout k) s = .next s) ∧
    (st = spWait → y.since + 10 * ms ≤ s.clock → exec (.waitEnd k) s = .next (s.toDetect k)) ∧
    ((st ≠ spWait ∨ s.clock < y.since + 10 * ms) → exec (.waitEnd k) s = .next s) ∧
    (st = spCap → (∀ t, y.lastCap = some t → t + 10 * us ≤ s.clock) → exec (.capPlankSend k) s = .next
      (((s.emit (.capPlank k (s.ownCap k) (capCrc (s.ownCap k)))).setPort k
        { y with capSent := true, capSeenOut := y.capSeenOut || y.capGot, lastCap := some s.clock }).capEnd k) ∧
      (s.ownCap k).seen = y.capGot ∧ (s.ownCap k).device = 0x7240 ∧ (s.ownCap k).port = k) ∧
    ((st ≠ spCap ∨ ∃ t, y.lastCap = some t ∧ s.clock < t + 10 * us) → exec (.capPlankSend k) s = .next s) ∧
    (whole → live → (plankOf bs).typ = 4 →
      let c := capOf (plankOf bs).payload
      (s.portUp k = true → exec (.capPlank k blocks) s = .next (s.spanDown k 3)) ∧
      (st = spCap → exec (.capPlank k blocks) s = .next (((s.setPort k { y with
          capGot := true, capSeenIn := y.capSeenIn || c.seen, farRate := c.rateMax, farWidth := c.width }).setFld
            SPN_STATUS.PEER c.node k).capEnd k)) ∧
      (s.portUp k = false → st ≠ spCap → exec (.capPlank k blocks) s = .next s)) ∧
    (whole → live → (plankOf bs).typ = 5 →
      (beAt bs 1 1 = 1 → s.portUp k = false →
        let u := s.setPort k { y with farStep := some (beAt bs 2 1) }
        ((y.proposed = false ∨ st ≠ spStep ∨ y.step.isSome = true ∨ beAt bs 2 1 ≠ s.fld SPN_STATUS.RATE k + 1 ∨
            s.fld SPN_LADDER.TOP k ≤ s.fld SPN_STATUS.RATE k) → exec (.stepPropose k blocks) s = .next u) ∧
        (y.proposed = true → st = spStep → y.step = none → beAt bs 2 1 = s.fld SPN_STATUS.RATE k + 1 →
          s.fld SPN_STATUS.RATE k < s.fld SPN_LADDER.TOP k → exec (.stepPropose k blocks) s = .next
            ((u.setFld SPN_LADDER.STEP_SEQ (s.fld SPN_LADDER.STEP_SEQ k + 1) k).retune k (s.fld SPN_STATUS.RATE k + 1) false))) ∧
      ((beAt bs 1 1 ≠ 1 ∨ s.portUp k = true) → exec (.stepPropose k blocks) s = .next s) ∧
      (let i := (s.binding k).first + beAt bs 3 1
       let takes := beAt bs 1 1 = 3 ∧ st = spStep ∧ y.step.isSome = true ∧ beAt bs 3 1 < s.laneCount k ∧
        tapsOk (tapsAt bs) = true ∧ s.flag LNE_CFG.TX_MANUAL i = false
       (takes → exec (.stepTxreq k blocks) s = .next (s.setFld LNE_TXEQ_ACT.TAPS (tapsWord (tapsAt bs)) i)) ∧
       (¬ takes → exec (.stepTxreq k blocks) s = .next s)) ∧
      (y.step = none → exec (.stepResult k blocks) s = .next s) ∧
      (∀ x, y.step = some x →
        (beAt bs 1 1 = 2 → x.rate = beAt bs 2 1 → exec (.stepResult k blocks) s = .next
          ((s.setPort k { y with step := some { x with far := some (decide (beAt bs 3 1 = 1)) } }).stepDecide k)) ∧
        ((beAt bs 1 1 ≠ 2 ∨ x.rate ≠ beAt bs 2 1) → exec (.stepResult k blocks) s = .next s))) ∧
    (y.step = none → exec (.eyeCheckDone k points) s = .next s ∧ exec (.stepTimeout k) s = .next s) ∧
    (∀ x, y.step = some x →
      ((x.eye ≠ none ∨ x.rate = 0 ∨ s.allBlockLock k = false) → exec (.eyeCheckDone k points) s = .next s) ∧
      (x.eye = none → x.rate ≠ 0 → s.allBlockLock k = true →
        let mask := maskWhere (s.laneCount k) (eyePasses (s.eyePoints k x.rate) points)
        let ok := decide (mask = 2 ^ s.laneCount k - 1)
        let u := s.setPort k { y with step := some { x with eye := some ok, deadline := some (s.clock + 2 * ms) } }
        (s.assist 7 = false → exec (.eyeCheckDone k points) s = .next
          ((s.setPort k { y with step := some { x with eye := some ok, vote := some ok } }).sendStep k 2 x.rate (b2n ok) [0, 0, 0, 0, 0])) ∧
        (s.assist 7 = true → exec (.eyeCheckDone k points) s = .next
          (u.raise 0x0801 [(16, 1, k), (17, 1, x.rate), (18, 1, mask), (20, 4, u.stepPeriod k)]))) ∧
      (s.clock < x.since + 6 * ms → exec (.stepTimeout k) s = .next s) ∧
      (x.since + 6 * ms ≤ s.clock → exec (.stepTimeout k) s = .next (if x.rate = 0 then s.toWait k else s.stepFail k x)))

/-- Through an open path: a write of SPN_CFG stores EN; where it changes on a bound port outside bypass, 1 starts bring-up and 0 disables
the port with cause 7, its running retrains ending with 0x0901; RETRAIN, or the command, retrains a port that is neither disabled nor in
bypass with cause 4 (the command is refused 0x0901 on a port unbound or not enabled, 0x0902 in bypass). SPN_INJ arms what it names,
LNE_INJ.ONE flips one bit, START begins a scan, or one that waits for a step's eye check. Bits feed a checker that is on, which counts
once it is locked; a scan's end sets the count, at most 0xFFFFFFFF, and DONE. A codeword on a PAM4 lane counts what is corrected, or
UNCORR; more than 8 of these within 1 ms take an UP port down with cause 2. The stopped fabric holds the lanes idle; after 100 µs, or in
P3, but not in P4, bypass joins the pairs; 10 ms of running outside P3 end it, and the ports go to DETECT, or DISABLED where not enabled or
unbound. -/
def Obligations.SpanControl : Prop :=
  ∀ (s : State) (p : Path) (k : Fin 16) (lane : Fin 128) (q : Fin 24) (tag n : Nat) (v : Word) (l : List Bool)
    (symbols : List (BitVec 10)), s.awake = true →
    (s.pathOpen p = true →
      (∃ d, regAt (SPN_CFG.EN.addr k) = some (d, k.val, false) ∧
        let stored (v : Nat) : State := s.writePlain d (SPN_CFG.EN.addr k) (insertBits v 0 2 (bits (s.cur (SPN_CFG.EN.addr k)).toNat 0 1))
        let en := decide (bits v.toNat 0 1 = 1)
        let w := stored v.toNat
        let u := w.setFlag SPN_CFG.EN en k
        (bits v.toNat 1 1 = 0 →
          (w.flag SPN_CFG.EN k = en → exec (.spanEnableWrite p k v) s = .next w) ∧
          (w.flag SPN_CFG.EN k ≠ en →
            (((u.binding k).width = 0 ∨ u.fld SPN_STATUS.STATE k = spBypass) → exec (.spanEnableWrite p k v) s = .next u) ∧
            ((u.binding k).width ≠ 0 → u.fld SPN_STATUS.STATE k ≠ spBypass →
              (en = true → exec (.spanEnableWrite p k v) s = .next (u.bringUp k)) ∧
              (en = false → exec (.spanEnableWrite p k v) s = .next
                ((((u.leaveUp k 7).toDetect k).setSpan k spDisabled).endRetrains k 0x0901 fun _ => true))))) ∧
        (bits v.toNat 1 1 = 1 → exec (.spanEnableWrite p k v) s = .next s) ∧
        (let v := insertBits (s.word (SPN_CFG.EN.addr k) SPN_CFG.EN.rst).toNat 1 1 1
         let en := decide (bits v 0 1 = 1)
         let w := if (stored v).flag SPN_CFG.EN k = en then stored v else (stored v).setSpanEnable k en
         (w.fld SPN_STATUS.STATE k ≠ spDisabled → w.fld SPN_STATUS.STATE k ≠ spBypass →
           exec (.spanRetrainWrite p k) s = .next ((w.setFlag SPN_CFG.RETRAIN true k).retrain k 4)) ∧
         ((w.fld SPN_STATUS.STATE k = spDisabled ∨ w.fld SPN_STATUS.STATE k = spBypass) →
           exec (.spanRetrainWrite p k) s = .next w))) ∧
      exec (.spanInject p k v) s = .next (s.inject k (bits v.toNat 0 2)
        (decide (bits v.toNat 2 1 = 1) && decide (bits v.toNat 0 2 ≠ 3)) (decide (bits v.toNat 3 1 = 1))) ∧
      (∃ d, regAt (LNE_INJ.ONE.addr lane) = some (d, lane.val, false) ∧
        let w := s.writePlain d (LNE_INJ.ONE.addr lane) (1 + 2 * s.fld LNE_INJ.RATE lane)
        let u := if w.fld LNE_INJ.RATE lane = s.fld LNE_INJ.RATE lane then w else w.emit (.flippedRate lane (w.fld LNE_INJ.RATE lane))
        exec (.laneInjectOne p lane) s = .next (u.emit (.flippedBit lane))) ∧
      (∃ d, regAt (LNE_EYE_CTRL.START.addr lane) = some (d, lane.val, false) ∧
        let v' := if s.fld LNE_STATUS.RATE lane ≠ 6 ∧ bits v.toNat 16 2 ≠ 0 then
          insertBits v.toNat 16 2 (s.fld LNE_EYE_CTRL.EYE lane) else v.toNat
        let w := (s.writePlain d (LNE_EYE_CTRL.START.addr lane) v').setFlag LNE_EYE_CTRL.DONE false lane
        let busy := (s.writePlain d (LNE_EYE_CTRL.START.addr lane) v').eyeBusy lane
        (bits v.toNat 24 1 = 1 → exec (.eyeScanStart p lane v) s =
          .next (w.setLane lane { w.lane lane with scanning := !busy, waiting := busy })) ∧
        (bits v.toNat 24 1 = 0 → exec (.eyeScanStart p lane v) s = .next s))) ∧
    (s.cmd q tag 0x0901 = none → exec (.cmdSpanRetrain q tag) s = .next s) ∧
    (∀ c, s.cmd q tag 0x0901 = some c →
      let j := c.opnd 32 1
      (((s.binding j).width = 0 ∨ s.flag SPN_CFG.EN j = false) → exec (.cmdSpanRetrain q tag) s = .next (s.finish c 0x0901)) ∧
      ((s.binding j).width ≠ 0 → s.flag SPN_CFG.EN j = true →
        (s.fld SPN_STATUS.STATE j = spBypass → exec (.cmdSpanRetrain q tag) s = .next (s.finish c 0x0902)) ∧
        (s.fld SPN_STATUS.STATE j ≠ spBypass → exec (.cmdSpanRetrain q tag) s = .next ((s.run c).retrain j 4)))) ∧
    ((s.flag LNE_CFG.PRBS_CHK lane = false ∨ prbsTaps (s.fld LNE_CFG.PRBS_SEL lane) = none) →
      exec (.prbsLock lane l) s = .next s) ∧
    (∀ t, s.flag LNE_CFG.PRBS_CHK lane = true → prbsTaps (s.fld LNE_CFG.PRBS_SEL lane) = some t →
      let r := Checker.feed t (s.lane lane).checker l
      let u := (s.setFlag LNE_STATUS.PRBS_LOCK r.1.lock lane).bump LNE_PRBS_ERR.ERR lane r.2.2
      let w := u.setPair LNE_PRBS_BITS.BITS (u.pair LNE_PRBS_BITS.BITS lane + r.2.1) lane
      exec (.prbsLock lane l) s = .next (w.setLane lane { w.lane lane with checker := r.1 })) ∧
    (let runs := (s.lane lane).scanning = true ∨ ((s.lane lane).waiting = true ∧ s.eyeBusy lane = false)
     (runs → exec (.eyeScanDone lane n) s = .next
      (((s.setFld LNE_EYE_ERR.ERR (min n 0xFFFFFFFF) lane).setFlag LNE_EYE_CTRL.DONE true lane).setLane lane
        { s.lane lane with scanning := false, waiting := false })) ∧
     (¬ runs → exec (.eyeScanDone lane n) s = .next s)) ∧
    ((s.fld LNE_STATUS.RATE lane ≠ 6 ∨ symbols.length ≠ 544) → exec (.fecUncorrectable lane symbols) s = .next s) ∧
    (s.fld LNE_STATUS.RATE lane = 6 → symbols.length = 544 →
      (∀ m, corrected (symbols.map (·.toNat)) = some m →
        exec (.fecUncorrectable lane symbols) s = .next (s.bump LNE_FEC.CORR_SYM lane m)) ∧
      (corrected (symbols.map (·.toNat)) = none →
        let u := s.bump LNE_FEC.UNCORR lane
        (u.activePort lane = none → exec (.fecUncorrectable lane symbols) s = .next u) ∧
        (∀ j, u.activePort lane = some j →
          (u.portUp j = false → exec (.fecUncorrectable lane symbols) s = .next u) ∧
          (u.portUp j = true →
            let at' := ((u.port j).uncorrAt.filter fun t => u.clock ≤ t + ms) ++ [u.clock]
            let w := (u.setPort j { u.port j with uncorr := (u.port j).uncorr + 1, uncorrAt := at' }).degrade j
            exec (.fecUncorrectable lane symbols) s = .next (if 8 < at'.length then w.spanDown j 2 else w))))) ∧
    (s.span.stopped = none →
      exec .spanFabricStop s = .next { s with span := { s.span with stopped := some s.clock, idle := true } }) ∧
    (s.span.stopped ≠ none → exec .spanFabricStop s = .next s) ∧
    (let long := ∃ t, s.span.stopped = some t ∧ (s.clocked = false ∨ t + 100 * us ≤ s.clock)
     let st := s.fld PWR_STATE.STATE
     (s.span.bypass = false → st ≠ 4 → (long ∨ st = 3) → exec .bypassEnter s = .next s.joinBypass) ∧
     ((s.span.bypass = true ∨ st = 4 ∨ (¬ long ∧ st ≠ 3)) → exec .bypassEnter s = .next s)) ∧
    (let due := s.span.bypass = true ∧ s.span.stopped = none ∧ s.fld PWR_STATE.STATE ≠ 3 ∧ s.span.running + 10 * ms ≤ s.clock
     (due → exec .bypassExit s = .next (State.each { s with span := { s.span with bypass := false } } s.bypassPorts fun k s =>
       if s.flag SPN_CFG.EN k = true ∧ (s.binding k).width ≠ 0 then s.toDetect k else (s.toDetect k).setSpan k spDisabled)) ∧
     (¬ due → exec .bypassExit s = .next s))

/-- Every row of a received plank: a port not in CAP, STEP or UP, blocks that carry no plank, and a whole plank of another TYPE change
nothing; a failed CRC counts in SPN_CRC_ERR, what R179 refuses in SPN_DROP, and a discarded DATA plank of VC0 or VC2 is refused. At a
boundary a port in UP sends a due TIME plank, else a due LINK plank, else control, else data of the VC its shares choose; a port not in UP
sends control only. A VC0 or VC2 plank at the expected LSEQ is routed and the position advances; another is refused. A VC1
plank at or after its position is delivered or forwarded, missing ones counted; a LINK plank takes ACKs, NAKs and freed slots. Without ACK
progress for REPLAY_TO the sender replays, the fourth time in a row the port goes down with cause 1. A VC1 copy that waited longer than VC1_STALL
without credit is dropped, the event once an episode; a VC0 or VC2 plank that waited 1 ms for a port not in UP is dropped, unless a
retrain keeps it. -/
def Obligations.Planks : Prop :=
  ∀ (s : State) (k sub : Fin 16) (blocks : List Block) (long : Bool) (bs : List Byte) (vc2 : Bool), s.awake = true →
    let st := s.fld SPN_STATUS.STATE k
    let live := st = spCap ∨ st = spStep ∨ st = spanUp
    let y := s.port k
    let x := plankOf bs
    let whole := plankIn blocks = some (long, bs) ∧ crcGood long bs = true ∧ plankFault long bs = false ∧ s.portUp k = true
    (∀ c ∈ [(Instr.capPlank k blocks, 4), (.stepPropose k blocks, 5), (.stepTxreq k blocks, 5), (.stepResult k blocks, 5),
        (.dataPlank k blocks, 1), (.linkPlank k blocks, 2), (.vc1Plank k blocks, 1), (.leasePlank k blocks, 1),
        (.timePlank k sub blocks, 3)],
      (¬ live → exec c.1 s = .next s) ∧
      (live → plankIn blocks = none → exec c.1 s = .next s) ∧
      (live → plankIn blocks = some (long, bs) →
        (crcGood long bs = false → exec c.1 s = .next ((s.bump SPN_CRC_ERR.COUNT k).discardPlank k long bs)) ∧
        (crcGood long bs = true → plankFault long bs = true →
          exec c.1 s = .next ((s.bump SPN_DROP.COUNT k).discardPlank k long bs)) ∧
        (crcGood long bs = true → plankFault long bs = false → x.typ ≠ c.2 → exec c.1 s = .next s))) ∧
    exec (.linkPlankSend k) s = .next (if s.portUp k then s.sendLink k else s) ∧
    (let sends := s.portUp k = true
     (sends → y.timeDue = true → 31 ≤ y.sinceTime → exec (.plankSend k sub) s = .next (s.sendTime k sub)) ∧
     (sends → (y.timeDue = false ∨ y.sinceTime < 31) → y.linkDue = true → exec (.plankSend k sub) s = .next (s.sendLink k)) ∧
     ((¬ sends ∨ ((y.timeDue = false ∨ y.sinceTime < 31) ∧ y.linkDue = false)) →
       (∀ o os, y.control = o :: os → exec (.plankSend k sub) s = .next (s.sendControl k o os)) ∧
       (y.control = [] →
         (¬ sends → exec (.plankSend k sub) s = .next s) ∧
         (∀ vc, sends → s.nextVc k = some vc → exec (.plankSend k sub) s = .next (s.sendData k vc)) ∧
         (s.nextVc k = none → exec (.plankSend k sub) s = .next s)))) ∧
    (whole → x.typ = 1 →
      (x.vc ≠ 1 →
        (x.lseq = (y.rx x.vc).expect → exec (.dataPlank k blocks) s = .next
          ((s.setPort k ({ y with linkDue := true }.setRx x.vc
            { y.rx x.vc with expect := ((y.rx x.vc).expect + 1) % 65536, refused := false })).routeArrival k x)) ∧
        (x.lseq ≠ (y.rx x.vc).expect → exec (.dataPlank k blocks) s = .next (s.refusePlank k x.vc x.lseq)) ∧
        exec (.vc1Plank k blocks) s = .next s ∧ exec (.leasePlank k blocks) s = .next s) ∧
      (x.vc = 1 → exec (.dataPlank k blocks) s = .next s ∧
        let u := s.vc1Gap k x.lseq
        let w := u.setPort k { u.port k with linkDue := true, rx1 := { (u.port k).rx1 with expect := (x.lseq + 1) % 65536 } }
        (x.stream ≠ 0xFFF → exec (.leasePlank k blocks) s = .next s ∧
          (x.lseq = (u.port k).rx1.expect → exec (.vc1Plank k blocks) s = .next (w.arriveStream k x)) ∧
          (x.lseq ≠ (u.port k).rx1.expect → exec (.vc1Plank k blocks) s = .next u)) ∧
        (x.stream = 0xFFF → exec (.vc1Plank k blocks) s = .next s ∧
          (x.lseq = (u.port k).rx1.expect → exec (.leasePlank k blocks) s = .next (w.arriveLease k x)) ∧
          (x.lseq ≠ (u.port k).rx1.expect → exec (.leasePlank k blocks) s = .next u)))) ∧
    (whole → x.typ = 2 →
      let l := linkOf bs
      let u := (((s.takeAck k 0 l.ack0).takeAck k 2 l.ack2).takeNak k 0 l.ack0 l.nak0).takeNak k 2 l.ack2 l.nak2
      let w := ((u.takeFreed k 0 l.freed0).takeFreed k 1 l.freed1).takeFreed k 2 l.freed2
      exec (.linkPlank k blocks) s = .next ((w.setPort k { w.port k with linkAt := w.clock }).vc1Gap k l.sent1)) ∧
    (let vc := if vc2 then 2 else 0
     let tx := y.tx vc
     (s.portUp k = true → tx.unacked ≠ [] → tx.progress + s.fld SPN_CFG.REPLAY_TO k * us ≤ s.clock →
       let u := s.startReplay k vc
       let t := (u.port k).tx vc
       let w := u.setPort k ((u.port k).setTx vc { t with timeouts := t.timeouts + 1, progress := u.clock })
       exec (.replayTimeout k vc2) s = .next (if 3 ≤ t.timeouts then w.spanDown k 1 else w)) ∧
     ((s.portUp k = false ∨ tx.unacked = [] ∨ s.clock < tx.progress + s.fld SPN_CFG.REPLAY_TO k * us) →
       exec (.replayTimeout k vc2) s = .next s) ∧
     (tx.queue.find? (fun i => ! i.kept) = none → exec (.routeWaitTimeout k vc2) s = .next s) ∧
     (∀ i, tx.queue.find? (fun i => ! i.kept) = some i →
       (s.portUp k = false → i.since + ms ≤ s.clock → exec (.routeWaitTimeout k vc2) s = .next
         (((s.bump SPN_DROP.COUNT k).setPort k (y.setTx vc { tx with queue := tx.queue.erase i })).releaseSlot i.slot)) ∧
       ((s.portUp k = true ∨ s.clock < i.since + ms) → exec (.routeWaitTimeout k vc2) s = .next s))) ∧
    (y.tx1.queue = [] → exec (.vc1StallTimeout k) s = .next s) ∧
    (∀ i is, y.tx1.queue = i :: is →
      let stalled := s.portUp k = true ∧ s.fld SPN_CREDIT_A.CR1 k = 0 ∧ i.since + s.fld SPN_CFG.VC1_STALL k * 4 * us < s.clock
      let u := ((s.bump SPN_VC1_DROP.COUNT k).setPort k { y with tx1 := { y.tx1 with queue := is }, stalling := true }).releaseSlot i.slot
      (stalled → exec (.vc1StallTimeout k) s = .next
        (if y.stalling then u else u.raise 0x0904 [(16, 1, k), (18, 2, i.plank.stream)])) ∧
      (¬ stalled → exec (.vc1StallTimeout k) s = .next s))
/-! ### The viaduct and wall time -/

/-- A message row takes the first delivered message of its type; in a tollhouse restart, or with none, it changes nothing (SUBSCRIBE goes on
in a restart). An unassigned device keeps the port of the first PROBE and answers each with ANNOUNCE; an assigned one announces itself
to a new master; a master that meets another raises EV_VIA_MASTER_CONFLICT and gives way to a lower address. A proxy fills in and
forwards ANNOUNCE, the master maps it; the device that ASSIGN names takes ADDR and MASTER, sends HELLO and probes, another passes it on;
HELLO gives PEER; LINKS and ROUTES are answered, a malformed ROUTES with ERR 0x02; NOTIFY raises its event. After SETTLE a master
computes routes, in ASSIST it only settles. SUBSCRIBE of 512 bytes replaces the mask; an announcement leaves on an UP port with SUB_EN
when it changed or after 100 ms. The commands act at the master, or refuse. -/
def Obligations.Discovery : Prop :=
  ∀ (s : State) (port : Fin 16) (q : Fin 24) (tag : Nat), s.awake = true →
    (∀ c ∈ [(Instr.probe, 0x01), (.announce, 0x02), (.assign, 0x03), (.hello, 0x04), (.links, 0x05), (.routes, 0x06), (.notify, 0x09)],
      (s.restarting = true → exec c.1 s = .next s) ∧ (s.takeMsg c.2 = none → exec c.1 s = .next s)) ∧
    (s.takeMsg 0x0A = none → exec .subscribe s = .next s) ∧
    (∀ T k m u, s.takeMsg T = some (k, m, u) → (k, m) ∈ s.via.inbox ∧ m.typ = T ∧ m.resp = false ∧
      u = { s with via := { s.via with inbox := s.via.inbox.erase (k, m) } }) ∧
    (∀ k m u, s.takeMsg 0x0A = some (k, m, u) → exec .subscribe s = .next (if m.payload.length = 512 then
        { u with via := { u.via with interest := Sparse.set u.via.interest k m.payload } } else u)) ∧
    (s.restarting = false →
      (∀ k m u, s.takeMsg 0x01 = some (k, m, u) →
        let master := beAt m.payload 0 2
        let far (v : State) : State := { v with via := { v.via with steps := beAt m.payload 2 2 + 1 } }
        (u.isMaster = true →
          let w := u.raise 0x0A04 [(16, 2, master)]
          (master = u.self → exec .probe s = .next u) ∧
          (master ≠ u.self → exec .probe s = .next (if master < w.self then
            (far w.yieldMaster).sendMsg (.node master) 0 0x02 0 w.yieldMaster.announceBytes true else w))) ∧
        (u.isMaster = false → u.self = 0 →
          let w : State := if u.via.probed then u else { far (u.setFld VIA_STATUS.UPPORT k) with
            via := { (far (u.setFld VIA_STATUS.UPPORT k)).via with probed := true } }
          exec .probe s = .next (w.sendMsg (.neighbour k) 0 0x02 0 w.announceBytes true)) ∧
        (u.isMaster = false → u.self ≠ 0 → exec .probe s = .next (if master ≠ u.fld VIA_STATUS.MASTER then
          (far u).sendMsg (.node master) 0 0x02 0 u.announceBytes true else u))) ∧
      (∀ k m u, s.takeMsg 0x02 = some (k, m, u) →
        (u.isMaster = true → exec .announce s = .next (if beAt m.payload 14 2 = 0 ∧ m.hops = 0 then u.masterAnnounce m k u.self
          else u.masterAnnounce m (beAt m.payload 9 1) (beAt m.payload 14 2))) ∧
        (u.isMaster = false → exec .announce s = .next (if u.self = 0 then u else u.sendMsg (.node (u.fld VIA_STATUS.MASTER)) 0 0x02 0
          (m.payload.take 9 ++ beBytes 1 k ++ bytesAt m.payload 10 4 ++ beBytes 2 u.self ++ m.payload.drop 16) true))) ∧
      (∀ k m u, s.takeMsg 0x03 = some (k, m, u) →
        let mine (p : Pending) : Bool := decide (p.msg.typ = 0x02 ∧ beAt p.msg.payload 0 8 = beAt m.payload 0 8)
        let w := (u.via.pend.filter mine).foldl (fun (s : State) p => s.nextPending p.msg.dst p.msg.vc)
          { u with via := { u.via with pend := u.via.pend.filter fun p => ! mine p } }
        (beAt m.payload 0 8 ≠ w.fuses.serial → exec .assign s = .next
          (w.sendMsg (.neighbour (beAt m.payload 12 1)) 0 0x03 0 m.payload false)) ∧
        (beAt m.payload 0 8 = w.fuses.serial →
          let x := ((w.takeAddr (beAt m.payload 8 2)).setFld VIA_STATUS.MASTER (beAt m.payload 10 2)).setFld VIA_STATUS.DISC 1
          exec .assign s = .next (((portsWhere 16 x.portUp).foldl
            (fun (s : State) k => s.sendMsg (.neighbour k) 0 0x04 0 (beBytes 1 k) false) x).probeAll.linksChanged))) ∧
      (∀ k m u, s.takeMsg 0x04 = some (k, m, u) → exec .hello s = .next (if u.fld SPN_STATUS.PEER k = m.src then u
        else (u.setFld SPN_STATUS.PEER m.src k).linksChanged)) ∧
      (∀ k m u, s.takeMsg 0x05 = some (k, m, u) →
        let w := u.respond m [0]
        let x : State := { w with via := { w.via with
          quietAt := w.clock, moved := true
          nodes := w.via.nodes.map fun n =>
            if n.addr = m.src then { n with ports := (List.range 16).map fun k => beAt m.payload (2 * k) 2 } else n } }
        (w.isMaster = false → exec .links s = .next w) ∧
        (w.isMaster = true → exec .links s = .next (if x.assist 9 then x.raise 0x0A08 [(16, 2, m.src)] else x))) ∧
      (∀ k m u, s.takeMsg 0x06 = some (k, m, u) →
        let first := beAt m.payload 0 2 % 4096
        let z := (m.payload.length - 4) / 4
        ((z = 0 ∨ m.payload.length % 4 ≠ 0 ∨ 4096 < first + z) → exec .routes s = .next (u.respond m [2])) ∧
        (0 < z → m.payload.length % 4 = 0 → first + z ≤ 4096 → exec .routes s = .next
          (((u.putRoutes first (routeEntries z (m.payload.drop 4))).setFld VIA_STATUS.DISC 2).respond m [0]))) ∧
      (∀ k m u, s.takeMsg 0x09 = some (k, m, u) → exec .notify s = .next (u.raise 0x0A09 [(16, 2, m.src)]))) ∧
    (let due := s.isMaster = true ∧ (s.via.searching = true ∨ (s.via.moved = true ∧ s.fld VIA_STATUS.DISC = 4 ∧ s.assist 9 = false)) ∧
      s.restarting = false ∧ s.via.quietAt + s.fld VIA_CFG.SETTLE * ms ≤ s.clock
     let w : State := { s.setFld VIA_STATUS.DISC 4 with
      via := { s.via with searching := false, settle := true, moved := false } }
     (¬ due → exec .settleExpiry s = .next s) ∧
     (due → w.assist 9 = true → exec .settleExpiry s = .next w.discoverDone) ∧
     (due → w.assist 9 = false →
       let x := (w.topology.map (·.1)).foldl (fun (s : State) a => s.putRoute a (routeWord w.topology s.self a)) w
       let y := x.loseNodes.sendRoutes
       exec .settleExpiry s = .next ((y.raise 0x0A02 [(16, 2, y.via.nodes.length + 1)]).discoverDone))) ∧
    (let due := s.portUp port = true ∧ s.flag VIA_PORT_CFG.SUB_EN port = true ∧
      (Sparse.find s.via.announced port ≠ some (s.announcement port) ∨ Sparse.get 0 s.via.announcedAt port + 100 * ms ≤ s.clock)
     (due → exec (.subscribeSend port) s = .next (State.sendMsg { s with via := { s.via with
          announced := Sparse.set s.via.announced port (s.announcement port),
          announcedAt := Sparse.set s.via.announcedAt port s.clock } }
        (.neighbour port) 0 0x0A 0 (s.announcement port) false)) ∧
     (¬ due → exec (.subscribeSend port) s = .next s)) ∧
    (s.cmd q tag 0x0A01 = none → exec (.cmdViaDiscover q tag) s = .next s) ∧
    (∀ c, s.cmd q tag 0x0A01 = some c →
      exec (.cmdViaDiscover q tag) s = .next (if s.isMaster then (s.run c).startDiscovery else s.finish c 0x0A01)) ∧
    (s.cmd q tag 0x0A02 = none → exec (.cmdViaAssign q tag) s = .next s) ∧
    (∀ c, s.cmd q tag 0x0A02 = some c →
      (s.via.nodes.find? (fun n => n.serial = c.opnd 40 8) = none → exec (.cmdViaAssign q tag) s = .next (s.finish c 0x0A03)) ∧
      (∀ n, s.via.nodes.find? (fun n => n.serial = c.opnd 40 8) = some n →
        exec (.cmdViaAssign q tag) s = .next (if s.addrHeld (c.opnd 40 8) (c.opnd 48 2) then s.finish c 0x0A02 else
          (((s.putNode { n with addr := c.opnd 48 2 }).countNodes).sendAssign (c.opnd 40 8) (c.opnd 48 2) n.proxy n.port none).finish
            c stOk))) ∧
    (s.cmd q tag 0x0A04 = none → exec (.cmdViaForget q tag) s = .next s) ∧
    (∀ c, s.cmd q tag 0x0A04 = some c → exec (.cmdViaForget q tag) s = .next (State.finish
      (State.countNodes { s with via := { s.via with nodes := s.via.nodes.filter fun n => n.addr ≠ c.opnd 32 2 } }) c stOk))

/-- A REG_READ or REG_WRITE from a listed node through the enabled remote port reads or writes its registers in ascending order and is
answered; a disabled remote port takes only a write that meets HIF_PORT_CFG; one from another node is dropped with EV_REMOTE_REFUSED
once for the node; a malformed one is dropped. CMD_VIA_REG and CMD_VIA_ROUTES send their message tracked, and run on. A response that
answers a tracked message ends its tracking and what waited for it; one that answers none is only taken. A message overdue is sent again
up to three times, counted in RETRY, then given up, with the offer of an image that it carried. A restart stops both. -/
def Obligations.RemoteMessages : Prop :=
  ∀ (s : State) (q : Fin 24) (tag : Nat), s.awake = true →
    (s.takeMsg 0x07 = none → exec .regRead s = .next s) ∧
    (∀ k m u, s.takeMsg 0x07 = some (k, m, u) →
      (u.remoteEntry m.src = none → exec .regRead s = .next (u.refuseNode m)) ∧
      (∀ e, u.remoteEntry m.src = some e →
        let good := u.portOn 2 = true ∧ m.payload.length = 1 ∧ 0 < beAt m.payload 0 1 ∧ beAt m.payload 0 1 ≤ 64
        let r := State.readWords nextWord (.remote e) 0 (4 * m.arg) (beAt m.payload 0 1) u
        (good → exec .regRead s = .next (r.2.respond m (swapWords (beAt m.payload 0 1) r.1))) ∧
        (¬ good → exec .regRead s = .next (u.dropRequest m)))) ∧
    (s.takeMsg 0x08 = none → exec .regWrite s = .next s) ∧
    (∀ k m u, s.takeMsg 0x08 = some (k, m, u) →
      (u.remoteEntry m.src = none → exec .regWrite s = .next (u.refuseNode m)) ∧
      (∀ e, u.remoteEntry m.src = some e →
        let n := m.payload.length / 4
        let good := (u.portOn 2 = true ∨ (4 * m.arg ≤ 0x20000 ∧ 0x20000 < 4 * (m.arg + n))) ∧
          m.payload.length % 4 = 0 ∧ 0 < n ∧ n ≤ 64
        let w := State.remoteWords (.remote e) (4 * m.arg) (routeEntries n m.payload) u
        (good → exec .regWrite s = .next (if w.awake then w.respond m [0] else w)) ∧
        (¬ good → exec .regWrite s = .next (u.dropRequest m)))) ∧
    (s.cmd q tag 0x0A03 = none → exec (.cmdViaRoutes q tag) s = .next s) ∧
    (∀ c, s.cmd q tag 0x0A03 = some c → exec (.cmdViaRoutes q tag) s = .next
      ((s.run c).sendMsg (.node (c.opnd 32 2 % 4096)) 2 0x06 0 (beBytes 2 (c.opnd 34 2 % 4096) ++ beBytes 2 0 ++
        swapWords ((s.payload c).length / 4) (s.payload c)) true (some (c.q, c.id)))) ∧
    (s.cmd q tag 0x0A05 = none → exec (.cmdViaReg q tag) s = .next s) ∧
    (∀ c, s.cmd q tag 0x0A05 = some c →
      let d := Dest.node (c.opnd 32 2 % 4096)
      exec (.cmdViaReg q tag) s = .next (if c.opnd 34 1 = 1 then
          (s.run c).sendMsg d 0 0x08 (c.opnd 36 4 / 4) (swapWords (c.opnd 35 1) (s.payload c)) true (some (c.q, c.id))
        else (s.run c).sendMsg d 0 0x07 (c.opnd 36 4 / 4) (beBytes 1 (c.opnd 35 1)) true (some (c.q, c.id)))) ∧
    (s.restarting = true → exec .messageResponse s = .next s ∧ exec .e2eTimeout s = .next s) ∧
    (s.restarting = false →
      (s.via.inbox.find? (fun e => e.2.resp) = none → exec .messageResponse s = .next s) ∧
      (∀ k m, s.via.inbox.find? (fun e => e.2.resp) = some (k, m) →
        let w : State := { s with via := { s.via with inbox := s.via.inbox.erase (k, m) } }
        let mine (p : Pending) : Bool :=
          decide (p.msg.dst = m.src ∧ p.msg.vc = m.vc ∧ p.msg.seq = m.seq ∧ p.msg.typ = m.typ ∧ p.sent ≠ none)
        (w.via.pend.find? mine = none → exec .messageResponse s = .next w) ∧
        (∀ p, w.via.pend.find? mine = some p → exec .messageResponse s = .next
          (((State.answeredBy { w with via := { w.via with pend := w.via.pend.erase p } } k p m).nextPending
            p.msg.dst p.msg.vc).discoverDone))) ∧
      (s.overdue = none → exec .e2eTimeout s = .next s) ∧
      (∀ p, s.overdue = some p →
        (∃ t, p.sent = some t ∧ t + s.fld VIA_CFG.E2E_TO * ms ≤ s.clock ∧ p ∈ s.via.pend) ∧
        (p.tries < 3 → exec .e2eTimeout s = .next (State.relaunch
          { s.bump VIA_CNT_E2E.RETRY with via := { s.via with
            pend := s.via.pend.map fun c =>
            if c = p then { c with tries := c.tries + 1, sent := some s.clock } else c } } p.msg)) ∧
        (3 ≤ p.tries →
          let w := s.giveUp p
          let k := w.offerPort 0 p.msg.dst
          exec .e2eTimeout s = .next (if fwType p.msg.typ = true ∧ (Sparse.find w.fwu.offers k).isSome = true ∧
            w.fld SPN_STATUS.PEER k = p.msg.dst then w.endOffer k false else w))))

/-- A port in UP whose interval has passed sends its TIME plank, or waits for its place in the arbitration; else nothing. A whole
TIME plank at an UP port gives its exchange and its offer, or is counted in SPN_DROP where 56 planks stand in the VC3 buffer. A
lapsed offer makes the device choose its parent again; HOLDOVER ends in FREE after HOLD_MAX. A host write of TIM_WALL sets wall time in
ROOT or FREE without a cadence, else not. A peer that samples FT_SYNC sets its count to E + 8 and FT_DELAY sixteenths, E the next multiple of
1,048,576 at or after the keystone's last plank, and follows the keystone in LOCKED; without FT_SYNC_EN, a footing link or a plank on it,
or at the keystone, it does nothing. -/
def Obligations.WallTime : Prop :=
  ∀ (s : State) (k sub : Fin 16) (blocks : List Block) (bs : List Byte) (long : Bool) (p : Path) (v : Word), s.awake = true →
    (s.portUp k = true → (s.timePort k).lastSend + s.interval ≤ s.clock →
      exec (.timePlankSend k sub) s = .next (if 31 ≤ (s.port k).sinceTime then s.sendTime k sub
        else s.setPort k { s.port k with timeDue := true })) ∧
    ((s.portUp k = false ∨ s.clock < (s.timePort k).lastSend + s.interval) → exec (.timePlankSend k sub) s = .next s) ∧
    (s.portUp k = true → plankIn blocks = some (long, bs) → crcGood long bs = true → plankFault long bs = false → (plankOf bs).typ = 3 →
      let held := (s.port k).timeAt.filter fun t => decide (s.clock < t + 2 * us)
      (56 ≤ held.length → exec (.timePlank k sub blocks) s = .next (s.bump SPN_DROP.COUNT k)) ∧
      (held.length < 56 → exec (.timePlank k sub blocks) s = .next
        ((State.timeArrives (s.setPort k { s.port k with timeAt := held ++ [s.clock] }) k (timeOf (plankOf bs).payload) sub).afterStep))) ∧
    ((s.timePort k).offer.isSome = true → s.offerValid k = false → exec (.offerExpiry k) s = .next s.chooseParent) ∧
    (((s.timePort k).offer = none ∨ s.offerValid k = true) → exec (.offerExpiry k) s = .next s) ∧
    (s.lock = tmHoldover → s.time.holdSince + s.fld TIM_HOLD.HOLD_MAX * ms ≤ s.clock →
      exec .holdoverExpiry s = .next (s.setLock tmFree)) ∧
    ((s.lock ≠ tmHoldover ∨ s.clock < s.time.holdSince + s.fld TIM_HOLD.HOLD_MAX * ms) → exec .holdoverExpiry s = .next s) ∧
    (s.pathOpen p = true → ∃ u : State, exec (.wallTimeWrite p v) s = .next u ∧
      (((s.lock = tmRoot ∨ s.lock = tmFree) ∧ s.cadence = false) →
        u.time = { s.time with wall := ((s.stagedLow p 0xE0000).getD (s.regWord 0xE0000) + 2 ^ 32 * v.toNat) % 2 ^ 64 }) ∧
      ((s.cadence = true ∨ (s.lock ≠ tmRoot ∧ s.lock ≠ tmFree)) → u.time = s.time)) ∧
    (∀ n t, s.flag TIM_CFG.FT_SYNC_EN = true → s.pins.ftId ≠ 0 → s.footingPort = some n → (s.timePort n).offer = some t →
      ∃ u : State, exec .ftSyncEdge s = .next u ∧
        (let c : Nat := (((t.tx / 16 + 1048575) / 1048576 * 1048576 + 8) * 16 + s.fldS TIM_FT.FT_DELAY).toNat
         u.time.wall = c / 16 % 2 ^ 64 ∧ u.time.frac = c % 16 * 2 ^ 36) ∧
        u.flag TIM_STATUS.PARENT_FT = true ∧ u.fld TIM_STATUS.STATE = tmLocked) ∧
    ((s.flag TIM_CFG.FT_SYNC_EN = false ∨ s.pins.ftId = 0 ∨ s.footingPort = none ∨
      ∃ n, s.footingPort = some n ∧ (s.timePort n).offer = none) → exec .ftSyncEdge s = .next s)
/-! ### Composition, correction, strands, temperatures -/

/-- A commit that a check of Table 10-4 refuses completes with that check's status and index; else the generation is held last, with its
hash and, on a pier, the handle slots it binds and the contexts it needs; LAST names it, and it completes ST_OK. On a pier: a
handle is allocated under a free name where a slot and the pages are free, its pixels zero; a write into a live handle stores its rows and
raises the write count by one per MiB begun; a freed handle is live no longer, EV_CMP_HANDLE where references hold its space; a table whose
format holds and that no held generation names is stored with its CRC; a record whose length, reserved bits, key, signature, sequence,
address and content pass takes effect with EV_PARAPET. Each refusal has its status; a device that is no pier refuses these five with 0x0D15. -/
def Obligations.ComposerCommands : Prop :=
  ∀ (s : State) (q : Fin 24) (tag : Nat), s.awake = true →
    (∀ c ∈ [(Instr.cmdCmpCommit q tag, 0x0D01), (.cmdCmpAlloc q tag, 0x0D02), (.cmdCmpWrite q tag, 0x0D03),
        (.cmdCmpFree q tag, 0x0D04), (.cmdCmpLut q tag, 0x0D05), (.cmdCmpParapet q tag, 0x0D06)],
      (s.cmd q tag c.2 = none → exec c.1 s = .next s) ∧
      (∀ d, s.cmd q tag c.2 = some d → c.2 ≠ 0x0D01 → s.isPier = false → exec c.1 s = .next (s.finish d 0x0D15))) ∧
    (∀ c, s.cmd q tag 0x0D01 = some c →
      let num := c.opnd 32 4
      let loc := decide (c.opnd 36 1 % 2 = 1)
      let t := (s.payload c).take 4096
      let b := if loc then (s.payload c).drop 4096 else (match s.cmp.gens.getLast? with | some x => x.loc | none => [])
      let check := s.checkCommit num (s.payload c) t b loc
      (∀ f, check = some f → exec (.cmdCmpCommit q tag) s = .next (s.finish c f.1 (result [(16, 2, f.2)]))) ∧
      (check = none → ∃ (binds : List (Nat × Nat × Nat)) (u : State),
        exec (.cmdCmpCommit q tag) s = .next ((if s.isPier then u.needStreams (streamsNeeded t b) else u).showCmp.finish c stOk) ∧
        u = State.setFld { s with cmp := { s.cmp with
            gens := s.cmp.gens ++ [⟨num, descHash num t, t, b, binds, false⟩], newest := some num } } CMP_GEN_LAST.LAST num ∧
        (s.isPier = false → binds = []) ∧
        (∀ l i n, s.isPier = true → ((l, i, n) ∈ binds ↔ l < 63 ∧ (layerEnt t l).visible = true ∧ (layerEnt t l).handle = true ∧
          (layerEnt t l).touches b = true ∧ ∃ h, s.handleNamed (layerEnt t l).name = some (i, h) ∧ h.uses = n))) ∧
      (s.genAhead num = false → check = some (0x0D01, 0xFFFE)) ∧
      (s.genAhead num = true → 3 ≤ s.pendingGens → check = some (0x0D02, 0xFFFE))) ∧
    (s.isPier = true →
      (∀ c, s.cmd q tag 0x0D02 = some c →
        let n := (c.opnd 36 2 * c.opnd 38 2 * pixelBytes (c.opnd 40 1) + 4095) / 4096
        let free := (List.range 4096).find? fun i => (s.handle i).all fun x => !x.live && !x.space
        ((s.handleNamed (c.opnd 32 4)).isSome = true → exec (.cmdCmpAlloc q tag) s = .next (s.finish c 0x0D0E)) ∧
        ((s.handleNamed (c.opnd 32 4)).isSome = false →
          ((s.fitLayer n = none ∨ free = none) → exec (.cmdCmpAlloc q tag) s = .next (s.finish c 0x0D0D)) ∧
          (∀ pg pt slot, s.fitLayer n = some (pt, pg) → free = some slot →
            let x : Handle := ⟨c.opnd 32 4, c.opnd 36 2, c.opnd 38 2, c.opnd 40 1,
              (((s.handle slot).map (·.uses)).getD 0 + 1) % 2 ^ 20, 0, true, true, pg, n, pt⟩
            exec (.cmdCmpAlloc q tag) s = .next ((((s.memZero (s.handleAt x).1 (s.handleAt x).2 (4096 * n)).setHandle slot
              x).showCmp).finish c stOk (result [(16, 4, handleNum slot x)]))))) ∧
      (∀ c, s.cmd q tag 0x0D03 = some c →
        (s.liveHandle (c.opnd 32 4) = none → exec (.cmdCmpWrite q tag) s = .next (s.finish c 0x0D0C)) ∧
        (∀ i h, s.liveHandle (c.opnd 32 4) = some (i, h) →
          let bs := s.payload c
          let ok := writeOk h (c.opnd 36 2) (c.opnd 38 2) (c.opnd 40 2) (c.opnd 42 2) bs.length
          (ok = false → exec (.cmdCmpWrite q tag) s = .next (s.finish c 0x0D0F)) ∧
          (ok = true → exec (.cmdCmpWrite q tag) s = .next ((State.setHandle
            (s.putRows h (c.opnd 36 2) (c.opnd 38 2) (c.opnd 40 2) (c.opnd 42 2) bs) i
            { h with writes := h.writes + (bs.length - 1) / mib + 1 }).finish c stOk)))) ∧
      (∀ c, s.cmd q tag 0x0D04 = some c →
        (s.liveHandle (c.opnd 32 4) = none → exec (.cmdCmpFree q tag) s = .next (s.finish c 0x0D0C)) ∧
        (∀ i h, s.liveHandle (c.opnd 32 4) = some (i, h) →
          let u := (s.setHandle i { h with live := false, space := decide (0 < s.handleRefs i) }).showCmp
          exec (.cmdCmpFree q tag) s = .next ((if 0 < s.handleRefs i then
            u.raise 0x0D02 [(16, 4, c.opnd 32 4), (20, 4, s.handleRefs i)] else u).finish c stOk))) ∧
      (∀ c, s.cmd q tag 0x0D05 = some c →
        let kind := c.opnd 32 1
        let bs := s.payload c
        let k := (if kind = 0 then 0 else if kind = 1 then 32 else 36) + c.opnd 33 1
        (lutFormat kind (c.opnd 33 1) bs = false → exec (.cmdCmpLut q tag) s = .next (s.finish c 0x0D11)) ∧
        (lutFormat kind (c.opnd 33 1) bs = true → s.lutBusy kind (c.opnd 33 1) = true →
          exec (.cmdCmpLut q tag) s = .next (s.finish c 0x0D10)) ∧
        (lutFormat kind (c.opnd 33 1) bs = true → s.lutBusy kind (c.opnd 33 1) = false →
          exec (.cmdCmpLut q tag) s = .next (((State.unitRun
            { s with cmp := { s.cmp with lut := Sparse.set s.cmp.lut k bs } } 4 bs).setFld CMP_LUT_CRC.CRC (crc32 bs) k).finish c stOk
            (result [(16, 4, crc32 bs)])))) ∧
      (∀ c, s.cmd q tag 0x0D06 = some c →
        let r := s.payload c
        let keyed := s.parapetKeyOk (bytesAt r 160 96)
        let meant := s.pair CMP_PARAPET_SEQ.SEQ < leAt r 0 8 ∧ (leAt r 8 2 = s.self ∨ leAt r 8 2 = 0xFFF)
        (r.length < 256 → exec (.cmdCmpParapet q tag) s = .next (s.finish c stBadPayload)) ∧
        (256 ≤ r.length →
          (parapetReserved r = true → exec (.cmdCmpParapet q tag) s = .next (s.finish c stReserved)) ∧
          (parapetReserved r = false → parapetLen r = false → exec (.cmdCmpParapet q tag) s = .next (s.finish c stBadPayload)) ∧
          (parapetReserved r = false → parapetLen r = true →
            (keyed = false → exec (.cmdCmpParapet q tag) s = .next (s.finish c 0x0D12)) ∧
            (keyed = true → recordSigOk r = false → exec (.cmdCmpParapet q tag) s = .next (s.finish c 0x0D13)) ∧
            (keyed = true → recordSigOk r = true →
              (¬ meant → exec (.cmdCmpParapet q tag) s = .next (s.finish c 0x0D14)) ∧
              (meant → (s.parapetContent r).2 ≠ stOk → exec (.cmdCmpParapet q tag) s = .next (s.finish c (s.parapetContent r).2)) ∧
              (meant → (s.parapetContent r).2 = stOk → ∃ u : State, exec (.cmdCmpParapet q tag) s =
                .next ((u.raise 0x0D04 [(16, 8, leAt r 0 8), (24, 1, leAt r 10 1)]).finish c stOk) ∧
                u.cmp = { s.cmp with parapet := some (s.parapetContent r).1 } ∧ u.pair CMP_PARAPET_SEQ.SEQ = leAt r 0 8 ∧
                u.flag CMP_PARAPET.ACTIVE = decide (leAt r 10 1 ≠ 0) ∧ u.flag CMP_PARAPET.SAFE = decide (leAt r 10 1 = 2)))))))

/-- A band of the canvas of the generation in force that is not composed and whose bays hold it is composed once its inputs are there and no
composed band is to be redone; a band to redo comes first, counted in RECOMP, and one outside the canvas is only dropped; otherwise the rows
change nothing. A chunk in order of an image is stored and completes the command, the last but for the check; one out of order is refused
0x0E01; while an image is being checked a further chunk waits. The check feeds check unit 3; when it ends the image is complete and its command
with it, or the command fails 0x0E02 with the first bad entry. A patch that fits waits for the frame start, a fifth waits to be taken; one that
does not fit is refused. -/
def Obligations.BandsAndImages : Prop :=
  ∀ (s : State) (q : Fin 24) (tag k : Nat), s.awake = true →
    (s.genInForce = none → exec (.bandCompose k) s = .next s ∧ exec .bandRecompose s = .next s) ∧
    (∀ g, s.genInForce = some g →
      let due := s.canCompose g k = true ∧ k < bandCount g.loc ∧ Sparse.find s.cmp.bands k = none ∧ s.nextStale g = none
      (¬ due → exec (.bandCompose k) s = .next s) ∧
      (due → (s.bandInputs g k = none → exec (.bandCompose k) s = .next s) ∧
        (∀ xs, s.bandInputs g k = some xs → exec (.bandCompose k) s = .next (s.makeBand g k xs).showConfirmed)) ∧
      (s.nextStale g = none → exec .bandRecompose s = .next s) ∧
      (∀ j, s.nextStale g = some j →
        (bandCount g.loc ≤ j → exec .bandRecompose s =
          .next { s with cmp := { s.cmp with bands := Sparse.erase s.cmp.bands j } }) ∧
        (∀ xs, j < bandCount g.loc → s.bandInputs g j = some xs → exec .bandRecompose s =
          .next ((s.makeBand g j xs).bump CMP_SPEC.RECOMP).sweepHandles.showCmp.showConfirmed) ∧
        (j < bandCount g.loc → (s.bandInputs g j).isSome = true ∧ s.canCompose g j = true))) ∧
    (s.cmd q tag 0x0E01 = none → exec (.cmdCorLoad q tag) s = .next s) ∧
    (∀ c, s.cmd q tag 0x0E01 = some c →
      let j := c.opnd 32 1
      let first := decide (bits (c.opnd 40 1) 0 1 = 1)
      let last := decide (bits (c.opnd 40 1) 1 1 = 1)
      let bs := s.payload c
      let u := s.writeChunk j (c.opnd 36 4) bs first
      (s.cor.closing ≠ none → exec (.cmdCorLoad q tag) s = .next s) ∧
      (s.cor.closing = none →
        (s.chunkOk j (c.opnd 36 4) bs.length first last = false → exec (.cmdCorLoad q tag) s = .next (s.finish c 0x0E01)) ∧
        (s.chunkOk j (c.opnd 36 4) bs.length first last = true → exec (.cmdCorLoad q tag) s = .next (if last then
            State.run { u with cor := { u.cor with closing := some (c.q, c.id) } } c
          else (u.setFlag COR_STATUS.LOADING false).finish c stOk)))) ∧
    (s.cor.closing = none → exec .corImageComplete s = .next s) ∧
    (∀ x id, s.cor.closing = some (x, id) →
      let j := s.fld COR_LOADED.IMAGE
      let bytes := s.memRead false (s.imageAt j) (s.imageLen j)
      let u := State.setFlag (State.unitRun { s with cor := { s.cor with closing := none } } 3 bytes) COR_STATUS.LOADING false
      let fin (w : State) (st : Nat) (res : List Byte) : State := match w.cmdAt x id 0x0E01 with | some d => w.finish d st res | none => w
      (∀ n, j = 0 → s.badMapEntry = some n →
        exec .corImageComplete s = .next (fin u 0x0E02 (result [(16, 4, crc32 bytes), (20, 4, n)]))) ∧
      ((j ≠ 0 ∨ s.badMapEntry = none) →
        exec .corImageComplete s = .next (fin (u.completeImage j) stOk (result [(16, 4, crc32 bytes)])))) ∧
    (s.cmd q tag 0x0E02 = none → exec (.cmdCorPatch q tag) s = .next s) ∧
    (∀ c, s.cmd q tag 0x0E02 = some c →
      let j := c.opnd 32 1
      let off := c.opnd 36 4
      let bs := s.payload c
      let fits := j ≠ 0 ∧ s.imageOk j = true ∧ off % entryLen j = 0 ∧ bs.length % entryLen j = 0 ∧ bs.length ≤ 65536 ∧
        off + bs.length ≤ s.imageLen j
      (¬ fits → exec (.cmdCorPatch q tag) s = .next (s.finish c 0x0E01)) ∧
      (fits → exec (.cmdCorPatch q tag) s = .next (if 4 ≤ s.cor.patches.length then s else State.showPatches
          { s.run c with cor := { s.cor with patches := s.cor.patches ++ [⟨c.q, c.id, j, off, bs⟩] } })))

/-- While a pier, or a device without a bit-stream, shows, refresh r of a frame starts r T_REF after its start, and slot i of it
i T_REF / slots later; an underrun is counted, the diagnostic slot serves FN_DIA, a row slot is echoed, reported and, where the
lamps are lit, sent. The first TE rise after SYNC gives the delay, in its window it ends an episode; a window without one is missed
once per SYNC. A trim takes the fans of its mask, one trim at a time; 2 ms after a fan's start its trims are written, the last completes the
command. Each THERM input gives TEMP and FAULT. A junction at TJ_STOP stops the lamps with EV_THERM_TJ_STOP once; below the hysteresis for
1 s they resume at the next frame start. Before its time, or where nothing awaits it, a row changes nothing. -/
def Obligations.StrandsAndHeat : Prop :=
  ∀ (s : State) (f : Fin 16) (gain ratio : Fin 256) (q : Fin 24) (tag : Nat) (j : Int) (xs bad flags : List Nat)
    (mis : List (Nat × Nat × Nat)), s.awake = true →
    let h := s.str.hard
    let r := s.cad.refresh
    (let due := s.cad.running = true ∧ (s.isPier = true ∨ s.flag CFG_STATUS.IN_FORCE = false) ∧ s.str.off = false ∧
       s.cad.aborted = false ∧ s.str.trans = false ∧ r < s.nRef ∧ s.frameAt + r * h.tref ≤ s.now
     (due → exec .refreshStart s = .next { s.endRefresh with cad := { s.endRefresh.cad with refresh := r + 1, slot := 0 } }) ∧
     (¬ due → exec .refreshStart s = .next s)) ∧
    (let due := s.cad.running = true ∧ s.cad.aborted = false ∧ 0 < r ∧ s.cad.slot < h.slots ∧
       s.frameAt + (r - 1) * h.tref + s.cad.slot * h.tref / h.slots ≤ s.now
     (¬ due → exec (.rowSlotStart true mis flags bad) s = .next s ∧ exec (.rowSlotStart false mis flags bad) s = .next s) ∧
     (due →
       let l := s.loadFlags flags
       let u : State := { l with cad := { l.cad with slot := s.cad.slot + 1 } }
       let v := (u.echoes s.cad.slot ((h.planes 1 (h.lowBit (r - 1)) false).map (·.1)) mis).reportRow s.cad.slot
       exec (.rowSlotStart true mis flags bad) s = .next (u.underrun (r - 1) s.cad.slot) ∧
       (h.rows ≤ s.cad.slot → exec (.rowSlotStart false mis flags bad) s = .next (u.diagSlot (r - 1) bad)) ∧
       (s.cad.slot < h.rows → exec (.rowSlotStart false mis flags bad) s = .next (if v.lit then
         State.emit { v with dia := { v.dia with shown := some ⟨s.cad.slot, 0, v.qualified s.cad.slot (r - 1)⟩ } }
           (.rowSlot s.cad.slot (v.scanLevels s.cad.slot) (v.slotPlanes s.cad.slot (r - 1))) else v)))) ∧
    (Sparse.find s.str.syncAt f = none → exec (.teRise f) s = .next s ∧ exec (.teWindowExpiry f) s = .next s) ∧
    (∀ t, Sparse.find s.str.syncAt f = some t →
      let n := Sparse.get 0 s.str.teCount f + 1
      let missed := 16 + f.val ∉ s.str.teRise ∧ (f.val ∉ s.str.teRise ∨ s.str.teWin < s.fld STR_FAN_TE.DELAY f) ∧ t + s.str.teWin < s.clock
      (f.val ∈ s.str.teRise → exec (.teRise f) s = .next
        { s with str := { s.str with teCount := Sparse.set s.str.teCount f n } }) ∧
      (f.val ∉ s.str.teRise → ∃ u : State, exec (.teRise f) s = .next u ∧ u.fld STR_FAN_TE.DELAY f = min (s.clock - t) 65535 ∧
        f.val ∈ u.str.teRise ∧ Sparse.find u.str.teCount f = some n ∧
        (s.clock - t ≤ s.str.teWin → u.flag STR_FAN_STATUS.TE_MISS f = false ∧ f.val ∉ u.str.teEp)) ∧
      (missed → exec (.teWindowExpiry f) s =
        .next (State.teMiss { s with str := { s.str with teRise := (16 + f.val) :: s.str.teRise } } f)) ∧
      (¬ missed → exec (.teWindowExpiry f) s = .next s)) ∧
    (s.cmd q tag 0x0F01 = none → exec (.cmdStrIrefTrim q tag) s = .next s) ∧
    (∀ c, s.cmd q tag 0x0F01 = some c →
      let fans := (List.range 16).filter fun f => bits (c.opnd 32 2) f 1 = 1
      (s.str.trimCmd ≠ none → exec (.cmdStrIrefTrim q tag) s = .next s) ∧
      (s.str.trimCmd = none → exec (.cmdStrIrefTrim q tag) s = .next (if fans = [] then s.finish c stOk else
        { s.run c with str := { s.str with trims := fans, trimCmd := some (c.q, c.id) } }))) ∧
    (s.str.trim = none → exec (.irefTrimDone gain ratio) s = .next s) ∧
    (∀ n t, s.str.trim = some (n, t) →
      (s.clock < t + 2 * ms → exec (.irefTrimDone gain ratio) s = .next s) ∧
      (t + 2 * ms ≤ s.clock →
        let u := State.setFlag ((s.setFld STR_IREF_TRIM.GAIN_TRIM gain n).setFld STR_IREF_TRIM.RATIO_TRIM ratio n)
          STR_IREF_TRIM.TRIMMED true n
        let w : State := { u with str := { u.str with trim := none } }
        let e : State := { w with str := { w.str with trimCmd := none } }
        (w.str.trims ≠ [] → exec (.irefTrimDone gain ratio) s = .next w) ∧
        (∀ x id c, w.str.trims = [] → w.str.trimCmd = some (x, id) → w.cmdAt x id 0x0F01 = some c →
          exec (.irefTrimDone gain ratio) s = .next (e.finish c stOk)) ∧
        (w.str.trims = [] → (w.str.trimCmd = none ∨ ∃ x id, w.str.trimCmd = some (x, id) ∧ w.cmdAt x id 0x0F01 = none) →
          exec (.irefTrimDone gain ratio) s = .next e))) ∧
    exec (.thermSample xs) s = .next ((List.range 16).foldl (fun (s : State) f => s.thermOne f (xs.getD f 0)) s) ∧
    (∃ u : State, exec (.tjSample j) s = .next u ∧ u.fld PWR_THERM_TJ.TJ = uNat 16 j ∧
      ((16 * s.fld PWR_THERM_STOP.TJ_STOP : Nat) ≤ j → u.therm.stopped = true ∧ u.therm.coolAt = none ∧ u.therm.resume = false) ∧
      (j < (16 * s.fld PWR_THERM_STOP.TJ_STOP : Nat) → u.therm.stopped = s.therm.stopped ∧
        (j < 16 * ((s.fld PWR_THERM_STOP.TJ_STOP : Int) - s.fld PWR_THERM_STOP.TJ_HYST) → u.therm.coolAt =
          if s.therm.stopped = true ∧ s.therm.coolAt = none then some s.clock else s.therm.coolAt) ∧
        (16 * ((s.fld PWR_THERM_STOP.TJ_STOP : Int) - s.fld PWR_THERM_STOP.TJ_HYST) ≤ j →
          u.therm.coolAt = none ∧ u.therm.resume = false))) ∧
    (let due := s.therm.stopped = true ∧ ∃ t, s.therm.coolAt = some t ∧ t + 1000 * ms ≤ s.clock
     (due → exec .tjCooldownExpiry s = .next { s with therm := { s.therm with resume := true } }) ∧
     (¬ due → exec .tjCooldownExpiry s = .next s))
/-! ### Lamps, memory, leases, power -/

/-- On a pier, once wall time has passed a multiple of half VERIFY_AGE the epoch shifts every diagnosed lamp's SEEN, and OK of a
lamp not measured lapses; after a multiple of PROBE_INT a round over the rows begins, and after one of PIN_INT a pin test is requested, in HW
mode where enabled; without a diagnostic slot NO_SLOT is shown instead. The command requests or joins a test and waits, or fails 0x1001; a
test whose frames are over ends with EV_DIA_PIN_TEST, PIN_RUN 0 and its time, its commands complete. A lamp operation of the row's own op in a
fitting range waits for the frame start, another op is no command of the row; a read returns the table's bytes; a range that does not fit is
refused 0x1002; REMOVED bits or an address that changed are saved while flash may be written outside a tollhouse restart. -/
def Obligations.LampTests : Prop :=
  ∀ (s : State) (q : Fin 24) (tag : Nat), s.awake = true →
    (let n := s.fld DIA_TIME.VERIFY_AGE * 300000000
     let due := s.isPier = true ∧ s.dia.epochAt / n < s.now / n
     (due → exec .epochStart s = .next (s.dia.lamps.foldl (fun (s : State) p =>
         if s.diagnosed p.1 then
           s.putLamp p.1 (if p.2 % 8 = lpOk ∧ bits p.2 6 1 = 0 then p.2 % 64 + 128 * bits p.2 6 1 - lpOk
             else p.2 % 64 + 128 * bits p.2 6 1)
         else s) { s with dia := { s.dia with epochAt := s.now } })) ∧
     (¬ due → exec .epochStart s = .next s)) ∧
    (let n := s.fld DIA_TIME.PROBE_INT * 600000000
     let due := s.isPier = true ∧ s.dia.roundAt / n < s.now / n
     let u : State := { s with dia := { s.dia with roundAt := s.now } }
     (due → (s.assist 15 = true ∨ s.flag DIA_CFG.PROBE_EN = false) → exec .probeRoundStart s = .next u) ∧
     (due → s.assist 15 = false → s.flag DIA_CFG.PROBE_EN = true → exec .probeRoundStart s = .next (if s.hasSlots then
       State.showRound { u with dia := { u.dia with round := List.range s.str.hard.rows } } else u.noSlot)) ∧
     (¬ due → exec .probeRoundStart s = .next s)) ∧
    (let n := s.fld DIA_TIME.PIN_INT * 600000000
     let due := s.isPier = true ∧ s.dia.pinAt / n < s.now / n
     let u : State := { s with dia := { s.dia with pinAt := s.now } }
     (due → (s.assist 15 = true ∨ s.flag DIA_CFG.PIN_EN = false) → exec .pinTestRequest s = .next u) ∧
     (due → s.assist 15 = false → s.flag DIA_CFG.PIN_EN = true →
       exec .pinTestRequest s = .next (if s.hasSlots then u.requestPin else u.noSlot) ∧ u.requestPin.dia.pin.isSome = true) ∧
     (¬ due → exec .pinTestRequest s = .next s)) ∧
    (s.noSlot.flag DIA_STATUS.NO_SLOT = true) ∧
    (s.cmd q tag 0x1001 = none → exec (.cmdDiaPinTest q tag) s = .next s) ∧
    (∀ c, s.cmd q tag 0x1001 = some c →
      (s.hasSlots = false → exec (.cmdDiaPinTest q tag) s = .next (s.noSlot.finish c 0x1001)) ∧
      (s.hasSlots = true → ∃ t : State, exec (.cmdDiaPinTest q tag) s = .next t ∧ t.dia.pin.isSome = true ∧
        t.dia.joined = s.dia.joined ++ [(c.q, c.id)] ∧ (∀ x, s.dia.pin = some x → t.dia.pin = some x) ∧
        t = { s.run c with dia := t.dia })) ∧
    (let ended := ∃ p, s.dia.pin = some p ∧ p.begun = true ∧ p.frames = 0
     (ended → ∃ u : State, exec .pinTestEnd s = .next (s.dia.joined.foldl (fun (s : State) p =>
         match s.cmdAt p.1 p.2 0x1001 with | some c => s.finish c stOk | none => s) u) ∧
       u.dia.pin = none ∧ u.dia.joined = [] ∧ u.flag DIA_STATUS.PIN_RUN = false ∧ u.pair DIA_PIN_LAST.TIME = s.now % 2 ^ 64 ∧
       u.host = (s.raise 0x1003 [(16, 4, s.countState lpLeak), (20, 4, s.countState lpBridge), (24, 1, 0)]).host) ∧
     (¬ ended → exec .pinTestEnd s = .next s)) ∧
    (s.cmd q tag 0x1002 = none →
      exec (.diaOpRemove q tag) s = .next s ∧ exec (.diaOpRestore q tag) s = .next s ∧ exec (.diaOpForget q tag) s = .next s) ∧
    (∀ c, s.cmd q tag 0x1002 = some c →
      let taken (op : Nat) : Host.Outcome State Fault Refusal := .next (if c.opnd 40 1 ≠ op then s
        else if lampRangeOk (c.opnd 32 4) (c.opnd 36 4) = true then
          { s.run c with dia := { s.dia with ops := s.dia.ops ++ [(c.q, c.id)] } }
        else s.finish c 0x1002)
      exec (.diaOpRemove q tag) s = taken 0 ∧ exec (.diaOpRestore q tag) s = taken 1 ∧ exec (.diaOpForget q tag) s = taken 2) ∧
    (s.cmd q tag 0x1003 = none → exec (.cmdDiaRead q tag) s = .next s) ∧
    (∀ c, s.cmd q tag 0x1003 = some c →
      exec (.cmdDiaRead q tag) s = .next (if lampRangeOk (c.opnd 32 4) (c.opnd 36 4) = true ∧ c.opnd 36 4 ≤ c.payLen then
        (s.portWrite (queuePort q) c.payAddr ((List.range (c.opnd 36 4)).map fun k =>
          BitVec.ofNat 8 (s.lampShown (c.opnd 32 4 + k)))).finish c stOk
        else s.finish c 0x1002)) ∧
    exec .removedSave s = .next (if s.restarting = true ∨ s.flashHeld = true ∨ s.dia.unsaved = none then s else s.saveSettings)

/-- Training ends once per device reset, and again after VDDQ has failed, with the capacity of the channels it may use, 8/9 of it in wide
mode, and EV_MEM_TRAINED. A bank's refresh that falls due is issued and dated tREFI later, or owed, at most four, in a panic. Sensors give
temperatures every 10 ms. A neighbour refresh counts and moves the LFSR to a free value (log entry 2). A rank past due is retrained, in a
panic only after a whole interval, and in ASSIST only reported, once. A scrubbed line or deck word counts its errors; a request
unserved completes poisoned; at the hour boundary the devices over CE_LIMIT are marked in HW mode and the counts restart. Writes and reads of memory take the
ranges that a host may, else answer the status of the refusal; a read of an uncorrectable or poisoned line answers 0x1103 with its address. -/
def Obligations.ExternalMemory : Prop :=
  ∀ (s : State) (ch : Fin 4) (rank : Fin 16) (bank : Fin 4) (port : Fin 8) (pops : List ChannelPop) (temps : List Nat)
    (flips : List BitAt) (errs : List (Nat × List BitAt)) (line word : Nat) (panic write : Bool) (q : Fin 24) (tag : Nat),
    s.awake = true →
    let r := 16 * ch.val + rank.val
    (let ready := (s.mem.lost = true ∨ (s.flag MEM_STATUS.TRAINED = false ∧ s.fld MEM_CH_STATUS.FAIL 0 ≠ 1)) ∧ 4 ∉ s.pwr.down
     (¬ ready → exec (.memTrainingDone pops) s = .next s) ∧
     (ready → ∃ t : State, exec (.memTrainingDone pops) s = .next t ∧ t.flag MEM_STATUS.TRAINED = decide (0 < channelsUsed pops) ∧
       t.mem.lost = false ∧ t.flag MEM_STATUS.WIDE_ACT = s.mem.wide ∧
       (let gib := ((pops.head?.map popGib).getD 0) * channelsUsed pops
        t.pair MEM_CAP.CAP = (if s.mem.wide then gib * 2 ^ 30 / 8 * 9 else gib * 2 ^ 30) % 2 ^ 64))) ∧
    (let k := 4 * r + bank.val
     let at' := (Sparse.find s.mem.due k).getD s.clock
     let n := Sparse.get 0 s.mem.owed r
     ((s.hasRank ch rank = false ∨ s.clock < at') → exec (.dramRefreshDue ch rank bank panic) s = .next s) ∧
     (s.hasRank ch rank = true → at' ≤ s.clock → exec (.dramRefreshDue ch rank bank panic) s = .next { s with mem := { s.mem with
       due := Sparse.set s.mem.due k (at' + s.trefi ch),
       owed := Sparse.put 0 s.mem.owed r (if panic = true ∧ n < 4 then n + 1 else 0) } })) ∧
    (let due := s.flag MEM_STATUS.TRAINED = true ∧ s.mem.sensedAt + 10 * ms ≤ s.clock
     (¬ due → exec (.memSensorRead temps) s = .next s) ∧
     (due → exec (.memSensorRead temps) s = .next ([0, 1, 2, 3].foldl (fun (s : State) c => s.senseChannel temps c)
       { s with mem := { s.mem with sensedAt := s.clock, temps := (List.range 8).map fun i => (i, temps.getD i 0) } }))) ∧
    (let on := s.flag MEM_CH_STATUS.USED ch = true ∧ s.fld MEM_CFG.NRF_P ≠ 0
     (on → exec (.neighbourRefresh ch) s = .next (State.bump
       (State.draw { s with mem := { s.mem with lfsr := Sparse.set s.mem.lfsr ch (s.free % 2 ^ 32) } }) MEM_CH_NRF.SAMPLES ch)) ∧
     (¬ on → exec (.neighbourRefresh ch) s = .next s)) ∧
    ((s.hasRank ch rank = false ∨ s.retrainDue r = none) → exec (.rankRetrainDue ch rank panic) s = .next s) ∧
    (∀ d, s.hasRank ch rank = true → s.retrainDue r = some d →
      let held : State := { s with mem := { s.mem with dueAt := Sparse.set s.mem.dueAt r d } }
      (s.assist 16 = false → panic = false → exec (.rankRetrainDue ch rank panic) s = .next (s.retrainRank r)) ∧
      (s.assist 16 = false → panic = true → exec (.rankRetrainDue ch rank panic) s = .next
        (if d + s.retrainInt ≤ s.clock then (s.retrainRank r).bump MEM_CH_RETRAIN.LATE ch else held)) ∧
      (s.assist 16 = true → exec (.rankRetrainDue ch rank panic) s = .next
        (if d + s.retrainInt < s.clock ∧ r ∉ s.mem.overdue then
          State.raise { held with mem := { held.mem with overdue := r :: s.mem.overdue } } 0x1105 [(16, 1, ch), (17, 1, rank)]
        else held))) ∧
    (let there := s.extUp = true ∧ line * s.lineBytes < s.pair MEM_CAP.CAP
     (¬ there → exec (.memPatrolScrub line flips) s = .next s ∧ exec (.memRequestTimeout port line write) s = .next s) ∧
     (there →
       exec (.memPatrolScrub line flips) s = .next (if line ∈ s.mem.extBad then s.lineUc line 7 else s.lineErrors line flips 7) ∧
       (let u := s.bump MEM_CH_UC.TIMEOUT (s.channelOf line)
        let w : State := { u with mem := { u.mem with poison := u.mem.poison ++ [(port.val, line, write)] } }
        exec (.memRequestTimeout port line write) s = .next (if write then w else w.lineUc line port)))) ∧
    (s.now / hourTicks = s.mem.hour → exec .ceHourBoundary s = .next s) ∧
    (s.now / hourTicks ≠ s.mem.hour →
      let w : State := { s with mem := { s.mem with ceHour := [], hour := s.now / hourTicks } }
      (s.assist 16 = true → exec .ceHourBoundary s = .next w) ∧
      (s.assist 16 = false → exec .ceHourBoundary s = .next
        (((s.mem.ceHour.filter fun x => s.fld MEM_SCRUB.CE_LIMIT ≤ x.2).map (·.1)).foldl (fun (s : State) k => s.markDevice k) w))) ∧
    (0x800000 ≤ word → ∀ err, exec (.deckScrub word err) s = .next s) ∧
    (word < 0x800000 →
      (word ∈ s.mem.deckBad → ∀ err, exec (.deckScrub word err) s = .next (s.deckUc word 5)) ∧
      (word ∉ s.mem.deckBad → exec (.deckScrub word 0) s = .next s ∧
        exec (.deckScrub word 1) s = .next (s.bump DECK_ECC.CE (word / 0x80000)) ∧
        exec (.deckScrub word 2) s = .next (State.deckUc { s with mem := { s.mem with deckBad := word :: s.mem.deckBad } } word 5))) ∧
    (s.cmd q tag 0x1101 = none → exec (.cmdMemWrite q tag) s = .next s) ∧
    (∀ c, s.cmd q tag 0x1101 = some c →
      (∀ st, s.memRefusal (c.opnd 32 8) c.payLen true = some st → exec (.cmdMemWrite q tag) s = .next (s.finish c st)) ∧
      (s.memRefusal (c.opnd 32 8) c.payLen true = none →
        exec (.cmdMemWrite q tag) s = .next ((s.extWrite (c.opnd 32 8) (s.payload c) 5).finish c stOk))) ∧
    (s.cmd q tag 0x1102 = none → exec (.cmdMemRead q tag errs) s = .next s) ∧
    (∀ c, s.cmd q tag 0x1102 = some c →
      (∀ st, s.memRefusal (c.opnd 32 8) c.payLen false = some st → exec (.cmdMemRead q tag errs) s = .next (s.finish c st)) ∧
      (s.memRefusal (c.opnd 32 8) c.payLen false = none →
        let was := s.badLines (c.opnd 32 8) c.payLen
        let u := was.foldl (fun (s : State) l => s.lineUc l 5) s
        let w := (errs.filter fun e => e.1 ∈ u.linesOf (c.opnd 32 8) c.payLen ∧ e.1 ∉ was).foldl
          (fun (s : State) e => s.lineErrors e.1 e.2 5) u
        let x := w.memFill c c.payLen
        let lost := (x.linesOf (c.opnd 32 8) c.payLen).find? fun l => l ∈ x.badLines (c.opnd 32 8) c.payLen ∨ (5, l, false) ∈ x.mem.poison
        (lost = none → exec (.cmdMemRead q tag errs) s = .next (x.finish c stOk)) ∧
        (∀ l, lost = some l → exec (.cmdMemRead q tag errs) s = .next (x.finish c 0x1103 (result [(16, 8, l * x.lineBytes)]))))) ∧
    (∀ a n, a % 4 = 0 → s.flag MEM_STATUS.TRAINED = false → s.memRefusal a n true = some 0x1101 ∧ s.memRefusal a n false = some 0x1101)

/-- The holder counts an acknowledgement of its last renewal and no other; after a claim of a handover, PIERS of them complete it. A
tracked lease without renewal for GRACE after the start of frame R + 4 expires with EV_RED_EXPIRED. In HW mode an end whose view
has expired claims, the one that held the lease last not before its 4 frames; CLAIM_GAP later its streams restart. A handover asks the other end, fails with
0x1401 where there is nothing to take over, waits for one in progress, and times out after 4 frames without release or 8 after its claim; a
holder asked releases at the next frame start, any other end answers; the answer lets the issuing end claim. Messages that name no
entry of this end, or have another length, are only taken. -/
def Obligations.Leases : Prop :=
  ∀ (s : State) (e : Fin 16) (q : Fin 24) (tag : Nat), s.awake = true →
    (s.takeMsg 0x22 = none → exec .leaseAck s = .next s) ∧
    (∀ k m u, s.takeMsg 0x22 = some (k, m, u) →
      (u.endEntry (beAt m.payload 0 2) = none → exec .leaseAck s = .next u) ∧
      (∀ n, u.endEntry (beAt m.payload 0 2) = some n →
        let counts := m.payload.length = 16 ∧ u.fld RED_SEG_STATUS.STATE n = segHolder ∧
          beAt m.payload 4 4 = u.fld RED_SEG_EPOCH.EPOCH n ∧ beAt m.payload 8 8 = (u.seg n).named
        let w := u.setSeg n { u.seg n with acks := (u.seg n).acks + 1, noAck := false }
        let ended := ∃ h f, w.red.handover = some h ∧ h.seg = n ∧ h.claim = some f ∧ f < (u.seg n).named ∧
          w.fld RED_SEG_PIERS.PIERS n ≤ (u.seg n).acks + 1
        (¬ counts → exec .leaseAck s = .next u) ∧
        (counts → ¬ ended → exec .leaseAck s = .next w) ∧
        (counts → ended → exec .leaseAck s = .next (w.endHandover stOk)))) ∧
    (let expires := ∃ t, (s.seg e).due = some t ∧ s.flag RED_SEG_CFG.EN e = true ∧ (s.seg e).view = 1 ∧
       t + s.fld RED_CFG.GRACE * us ≤ s.clock
     (¬ expires → exec (.leaseExpiry e) s = .next s) ∧
     (expires →
       let u := s.setSeg e { s.seg e with
         view := 2, due := none, claimAt := if s.flag RED_SEG_STATUS.LAST e then some (s.frame + 4) else none }
       let w := if u.isEnd e then u else u.setFld RED_SEG_STATUS.STATE (u.seg e).view e
       exec (.leaseExpiry e) s = .next (w.raise 0x1403
         [(16, 1, e), (18, 2, u.fld RED_SEG_STATUS.HOLDER e), (20, 4, u.fld RED_SEG_EPOCH.EPOCH e)]))) ∧
    (let claims := s.assist 19 = false ∧ s.mayClaim e = true ∧ ∀ f, (s.seg e).claimAt = some f → f ≤ s.frame
     (claims → exec (.leaseClaim e) s = .next (s.claim e)) ∧
     (¬ claims → exec (.leaseClaim e) s = .next s)) ∧
    ((s.seg e).gap = none → exec (.claimGapExpiry e) s = .next s) ∧
    (∀ t, (s.seg e).gap = some t → exec (.claimGapExpiry e) s = .next (if s.clock < t then s else
      (s.setSeg e { s.seg e with gap := none }).restartSegment e)) ∧
    (s.cmd q tag 0x1401 = none → exec (.cmdRedHandover q tag) s = .next s) ∧
    (∀ c, s.cmd q tag 0x1401 = some c →
      let n := c.opnd 32 1
      let nothing := s.flag RED_SEG_CFG.EN n = false ∨ s.isEnd n = false ∨ (s.fld RED_SEG_STATUS.STATE n = segHolder ∧
        s.fld RED_SEG_PIERS.PIERS n ≤ s.fld RED_SEG_ACK.ACKS n)
      (s.red.handover ≠ none → exec (.cmdRedHandover q tag) s = .next s) ∧
      (s.red.handover = none → nothing → exec (.cmdRedHandover q tag) s = .next (s.finish c 0x1401)) ∧
      (s.red.handover = none → ¬ nothing →
        let w := (s.run c).sendMsg (.node (s.otherEnd n)) 0 0x23 0 (beBytes 2 (s.fld RED_SEG_CFG.SEG n)) false
        exec (.cmdRedHandover q tag) s = .next { w with red := { w.red with handover := some ⟨c.q, c.id, n, w.frame, none⟩ } })) ∧
    (s.takeMsg 0x23 = none → exec .handoverReq s = .next s) ∧
    (∀ k m u, s.takeMsg 0x23 = some (k, m, u) →
      ((m.payload.length ≠ 2 ∨ u.endEntry (beAt m.payload 0 2) = none) → exec .handoverReq s = .next u) ∧
      (∀ n, m.payload.length = 2 → u.endEntry (beAt m.payload 0 2) = some n → exec .handoverReq s = .next
        (if u.fld RED_SEG_STATUS.STATE n = segHolder then u.setSeg n { u.seg n with release := some m.src } else u.sendDone n m.src))) ∧
    (s.takeMsg 0x24 = none → exec .handoverDone s = .next s) ∧
    (∀ k m u, s.takeMsg 0x24 = some (k, m, u) →
      ((m.payload.length ≠ 8 ∨ u.endEntry (beAt m.payload 0 2) = none) → exec .handoverDone s = .next u) ∧
      (∀ n, m.payload.length = 8 → u.endEntry (beAt m.payload 0 2) = some n → exec .handoverDone s = .next
        ((u.setSeg n { u.seg n with seen := max (u.seg n).seen (beAt m.payload 4 4) }).handoverClaim n))) ∧
    (s.red.handover = none → exec .handoverTimeout s = .next s) ∧
    (∀ h, s.red.handover = some h →
      (h.claim = none → exec .handoverTimeout s = .next (if h.sent + 4 ≤ s.frame then s.endHandover 0x1403 else s)) ∧
      (∀ t, h.claim = some t → exec .handoverTimeout s = .next (if t + 8 ≤ s.frame then s.endHandover 0x1402 else s)))

/-- A reset pin, in a running device a lost root PLL, or the loss of a supply other than VDDQ and VDDIO_STR begins a device reset with its cause
and supply, unless one is in progress; when it ends the device is in its reset state, fuses, flash and host memory kept. The root PLL
in lock starts wall time at 0. A supply below WARN is counted once per episode with EV_BROWN_WARN, ACTIVE reads 1; above WARN it is no warning.
All above again, RECOVERING reads 1, and without a cadence the device resumes. VDDQ gone loses the memory, VDDIO_STR gone the strands. A
present power state completes at once, another waits for its moment, and no change takes effect during a warning. WAKE planks leave on
an UP port. A wake pin, or four matching blocks within 100 µs on a port with a pair, in P3 reset the device. The band-gap is checked each second. -/
def Obligations.PowerAndResets : Prop :=
  ∀ (s : State) (v : Fin 8) (mv : Nat) (low : List Nat) (q : Fin 24) (tag : Nat) (k : Fin 16) (blocks : List (Nat × Block))
    (vddq strands : Bool) (dev : Int),
    (s.pwr.hold = none → ∃ t : State, exec .resetPin s = .next t ∧ t.pwr.hold = some (2, 0) ∧ t.awake = false) ∧
    (s.pwr.hold ≠ none → exec .resetPin s = .next s ∧ exec .rootPllLoss s = .next s ∧ exec .wakePin s = .next s ∧
      exec (.wakeMatch k blocks) s = .next s) ∧
    (s.awake = true → ∃ t : State, exec .rootPllLoss s = .next t ∧ t.pwr.hold = some (4, 0)) ∧
    (s.pwr.hold = none → exec .deviceResetEnd s = .next s) ∧
    (∀ cause supply, s.pwr.hold = some (cause, supply) → ∃ t : State, exec .deviceResetEnd s = .next t ∧ t.awake = true ∧
      t.fuses = s.fuses ∧ t.flash = s.flash ∧ t.host.mem = s.host.mem ∧ t.host.cmds = [] ∧ t.cadence = false ∧ t.pending = s.pending) ∧
    (∃ t : State, exec (.powerOn vddq strands) s = .next t ∧ t.awake = true ∧ t.fuses = s.fuses ∧ t.flash = s.flash ∧ t.mem.ext = [] ∧
      t.pwr.down = (if vddq then [] else [4]) ++ (if strands then [] else [6])) ∧
    (s.awake = true → s.flag GLB_CLK.ROOT_LOCK = true → exec .rootPllLock s = .next s) ∧
    (s.awake = true → s.flag GLB_CLK.ROOT_LOCK = false → ∃ u : State,
      exec .rootPllLock s = .next ((portsWhere 16 fun k => (u.binding k).footing).foldl (fun s k => s.setSpanEnable k true) u) ∧
      u.now = 0 ∧ u.span.stopped = none ∧ u.clocked = true ∧ u.flag GLB_CLK.CORE_REF = true) ∧
    (s.awake = true → s.belowWarn v mv = false → exec (.supplyWarn v mv) s = .next s) ∧
    (s.awake = true → s.belowWarn v mv = true → ∃ t : State, exec (.supplyWarn v mv) s = .next t ∧ v.val ∈ t.pwr.warned ∧
      t.flag PWR_BROWN.ACTIVE = true ∧ t.flag PWR_BROWN.RECOVERING = false ∧ t.flag PWR_SUP_STAT.BELOW_WARN v = true ∧
      (s.str.brownOn = true → t.str.brown = true)) ∧
    (s.awake = true → s.flag PWR_BROWN.ACTIVE = false → exec (.supplyRecover low) s = .next s) ∧
    (s.awake = true → s.flag PWR_BROWN.ACTIVE = true →
      let u := (s.pwr.warned.foldl (fun (s : State) v =>
        (if low.getD v 0 = 0 then s else s.lower v (low.getD v 0)).setFlag PWR_SUP_STAT.BELOW_WARN false v) s).setFlag PWR_BROWN.RECOVERING true
      (u.cadence = true → exec (.supplyRecover low) s = .next u) ∧
      (u.cadence = false → exec (.supplyRecover low) s = .next u.resume.powerDue)) ∧
    (s.pwr.coreEn = true →
      (v.val ≠ 4 → v.val ≠ 6 → s.pwr.hold = none → ∃ t : State, exec (.supplyReset v) s = .next t ∧ t.pwr.hold = some (3, v.val)) ∧
      (∃ t : State, exec (.supplyReset 4) s = .next t ∧ t.mem.ext = [] ∧ t.mem.lost = true ∧ 4 ∈ t.pwr.down ∧ t.pwr.hold = s.pwr.hold) ∧
      (∃ t : State, exec (.supplyReset 6) s = .next t ∧ t.str.off = true ∧ 6 ∈ t.pwr.down ∧ t.pwr.hold = s.pwr.hold)) ∧
    (s.pwr.coreEn = false → v.val ≠ 2 → v.val ≠ 3 → exec (.supplyReset v) s = .next s) ∧
    exec (.supplyReturnAfterReset v) s = .next { s with pwr := { s.pwr with down := s.pwr.down.filter (· ≠ v.val) } } ∧
    (s.awake = true → exec .strandSupplyRise s = .next
      { s with pwr := { s.pwr with down := s.pwr.down.filter (· ≠ 6) }, str := { s.str with off := true } }) ∧
    (s.awake = true → s.cmd q tag 0x1901 = none → exec (.cmdPwrState q tag) s = .next s) ∧
    (∀ c, s.awake = true → s.cmd q tag 0x1901 = some c →
      let u := (s.run c).showPend
      (c.opnd 32 1 = s.fld PWR_STATE.STATE → exec (.cmdPwrState q tag) s = .next (s.finish c stOk)) ∧
      (c.opnd 32 1 ≠ s.fld PWR_STATE.STATE → u.cadence = true → c.opnd 32 1 ≠ 3 → exec (.cmdPwrState q tag) s = .next u) ∧
      (c.opnd 32 1 ≠ s.fld PWR_STATE.STATE → (u.cadence = false ∨ c.opnd 32 1 = 3) →
        exec (.cmdPwrState q tag) s = .next u.powerDue ∧ (u.flag PWR_BROWN.ACTIVE = true → u.powerDue = u))) ∧
    (s.awake = true → s.cmd q tag 0x1902 = none → exec (.cmdPwrWake q tag) s = .next s) ∧
    (∀ c, s.awake = true → s.cmd q tag 0x1902 = some c →
      (s.portUp (c.opnd 32 1) = false → exec (.cmdPwrWake q tag) s = .next (s.finish c 0x1901)) ∧
      (s.portUp (c.opnd 32 1) = true → exec (.cmdPwrWake q tag) s = .next (State.finish
        { s with out := List.replicate 16 (.wakePlank (c.opnd 32 1) (c.opnd 34 2 % 4096) (c.opnd 36 3)) ++ s.out } c stOk))) ∧
    (s.inRelay = false → exec .wakePin s = .next s ∧ exec (.wakeMatch k blocks) s = .next s) ∧
    (s.inRelay = true → s.pwr.hold = none →
      let wakes := k.val ∈ s.bypassPorts ∧ fourWithin ((blocks.filter fun b => s.wakes b.2).map (·.1)) = true
      (∃ t : State, exec .wakePin s = .next t ∧ t.pwr.hold = some (5, 0)) ∧
      (wakes → ∃ t : State, exec (.wakeMatch k blocks) s = .next t ∧ t.pwr.hold = some (6, 0)) ∧
      (¬ wakes → exec (.wakeMatch k blocks) s = .next s)) ∧
    (s.awake = true → s.clock < s.pwr.checked + 1000 * ms → exec (.bandgapCheck dev) s = .next s) ∧
    (s.awake = true → s.pwr.checked + 1000 * ms ≤ s.clock →
      let bad := decide (100 < dev) || decide (dev < -100)
      ∃ u : State, u.fld PWR_BG.DEV = uNat 16 dev ∧ u.flag PWR_BG.FAULT = bad ∧ u.pwr.checked = s.clock ∧
        exec (.bandgapCheck dev) s = .next (if bad = s.flag PWR_BG.FAULT then u else
          u.raise 0x1904 [(16, 2, uNat 16 dev), (18, 1, b2n bad)]))
/-- A row whose command is not started changes nothing. With no warning standing a chunk that continues the image being written is stored in the slot
that is not active and counts in FWU_WRITTEN; the last one completes with the outcome of the slot's verification (with 0x1508 the failing check's
status); a first chunk erases the slot. A write is refused on a peer, with RX_EN clear, on trial, while busy, out of order, of a wrong size. Forwarding
needs an image held and no other transfer, and offers it on the ports of the mask. An activation is scheduled for an image held at a time 1 s ahead,
broadcast unless LOCAL; a cancel ends the schedule; what is due without a cadence is carried out, once it may be: the slot takes GEN and TRIAL and the
tollhouse restarts. Commit makes a tried active slot GOOD, in HW mode after COMMIT_S; fallback marks the active slot BAD and restarts the tollhouse where
the other is GOOD; the minimum rises, never falls, and not past the running image. A warning keeps flash writes back. -/
def Obligations.FirmwareCommands : Prop :=
  ∀ (s : State) (q : Fin 24) (tag : Nat), s.awake = true →
    (∀ r ∈ [(Instr.cmdFwuWrite q tag, 0x1501), (.cmdFwuForward q tag, 0x1502), (.cmdFwuActivate q tag, 0x1503), (.cmdFwuCancel q tag, 0x1504),
      (.cmdFwuCommit q tag, 0x1505), (.cmdFwuFallback q tag, 0x1506), (.cmdFwuSvnRaise q tag, 0x1507)],
      s.cmd q tag r.2 = none → exec r.1 s = .next s) ∧
    (∀ c, s.cmd q tag 0x1501 = some c →
      let off := c.opnd 32 4
      let first := c.opnd 36 1 % 2 = 1
      let last := c.opnd 36 1 / 2 % 2 = 1
      let bs := s.payload c
      let k := s.spareSlot
      let total := if first then leAt bs 8 4 else s.fwu.writing.getD 0
      let shut := s.isPeer = true ∨ (first ∧ (s.flag FWU_CFG.RX_EN = false ∨ s.onTrial = true))
      let order := (first ∧ (off ≠ 0 ∨ bs.length < 512)) ∨ (¬ first ∧ (s.fwu.writing = none ∨ off ≠ s.fld FWU_WRITTEN.LEN))
      let size := first ∧ (total < 4096 ∨ slotBytes < total)
      let past := total < off + bs.length ∨ (last ∧ off + bs.length ≠ total)
      let u := (State.imagePut (if first then s.eraseSlot k else s) k off bs).setFld FWU_WRITTEN.LEN (off + bs.length)
      let w : State := { u with fwu := { u.fwu with writing := none } }
      (s.flashHeld = true → exec (.cmdFwuWrite q tag) s = .next s) ∧
      (s.flashHeld = false →
        (shut → exec (.cmdFwuWrite q tag) s = .next (s.finish c 0x150A)) ∧
        (¬ shut → (first ∧ s.fwuBusy = true) → exec (.cmdFwuWrite q tag) s = .next (s.finish c 0x150F)) ∧
        (¬ shut → ¬ (first ∧ s.fwuBusy = true) →
          (order → exec (.cmdFwuWrite q tag) s = .next (s.finish c 0x1501)) ∧
          (¬ order → size → exec (.cmdFwuWrite q tag) s = .next (s.finish c 0x1502)) ∧
          (¬ order → ¬ size → past → exec (.cmdFwuWrite q tag) s = .next (s.finish c 0x1501)) ∧
          (¬ order → ¬ size → ¬ past →
            (¬ last → ∃ t : State, t = { u with fwu := { u.fwu with writing := some total } } ∧
              exec (.cmdFwuWrite q tag) s = .next (t.finish c stOk)) ∧
            (last →
              (w.verifySlot k = none → exec (.cmdFwuWrite q tag) s = .next ((w.putSlotState k slWritten).finish c stOk)) ∧
              (∀ f, w.verifySlot k = some f → exec (.cmdFwuWrite q tag) s = .next
                ((w.setFld FWU_WRITTEN.LEN 0).finish c f.1 (if f.1 = 0x1508 then result [(20, 2, f.2)] else []))))))))  ∧
    (∀ c, s.cmd q tag 0x1502 = some c →
      (s.heldSlot = none → exec (.cmdFwuForward q tag) s = .next (s.finish c 0x150B)) ∧
      (∀ i, s.heldSlot = some i →
        ((s.fwu.fwd.isSome = true ∨ s.fwu.rx.isSome = true) → exec (.cmdFwuForward q tag) s = .next (s.finish c 0x150F)) ∧
        (s.fwu.fwd = none → s.fwu.rx = none → ∃ t : State, t = { s.run c with fwu := { s.fwu with fwd := some (c.q, c.id, 0) } } ∧
          exec (.cmdFwuForward q tag) s = .next ((portsWhere 16 fun k => bits (c.opnd 32 2) k 1 = 1).foldl
            (fun (s : State) k => s.offerOn i k) t).forwardDone))) ∧
    (∀ c, s.cmd q tag 0x1503 = some c →
      let at' := c.opnd 40 8
      (s.holdsImage (s.payload c) = false → exec (.cmdFwuActivate q tag) s = .next (s.finish c 0x150B)) ∧
      (s.holdsImage (s.payload c) = true → at' < s.now + 600000000 → exec (.cmdFwuActivate q tag) s = .next (s.finish c 0x150C)) ∧
      (s.holdsImage (s.payload c) = true → s.now + 600000000 ≤ at' → exec (.cmdFwuActivate q tag) s = .next
        (State.finish (if c.opnd 32 1 % 2 = 1 then s.schedule at'
          else (s.schedule at').sendMsg .all 2 0x13 0 (s.payload c ++ beBytes 8 at') false) c stOk))) ∧
    (∀ c, s.cmd q tag 0x1504 = some c → exec (.cmdFwuCancel q tag) s = .next
      (((s.setPair FWU_AT.AT 0).setFlag FWU_STATUS.SCHED false).finish c stOk)) ∧
    (let due := s.flag FWU_STATUS.SCHED = true ∧ s.pair FWU_AT.AT ≤ s.now ∧ s.flashHeld = false ∧ s.restarting = false ∧ s.cadence = false
      let u := (s.setPair FWU_AT.AT 0).setFlag FWU_STATUS.SCHED false
      (due → exec .fwuActivateAt s = .next
        (if u.slotState u.spareSlot = slWritten then (u.putTrial u.spareSlot).restartTollhouse else u)) ∧
      (¬ due → exec .fwuActivateAt s = .next s)) ∧
    (let due (i : Nat) : Prop := s.restarting = false ∧ s.assist 20 = false ∧ s.flashHeld = false ∧ s.slotState i = slTried ∧
        s.streamInForce i = true ∧ s.fwu.since + s.fld FWU_CFG.COMMIT_S * 1000 * ms ≤ s.clock;
      (∀ i, s.activeSlot = some i → (due i → exec .fwCommitTimer s = .next ((s.putSlotState i slGood).raise 0x1506 [(16, 1, i)])) ∧
        (¬ due i → exec .fwCommitTimer s = .next s)) ∧
      (s.activeSlot = none → exec .fwCommitTimer s = .next s)) ∧
    (∀ c, s.cmd q tag 0x1505 = some c →
      (∀ i, s.activeSlot = some i → s.slotState i = slTried → exec (.cmdFwuCommit q tag) s = .next
        (if s.flashHeld then s else ((s.putSlotState i slGood).raise 0x1506 [(16, 1, i)]).finish c stOk)) ∧
      ((∀ i, s.activeSlot = some i → s.slotState i ≠ slTried) → exec (.cmdFwuCommit q tag) s = .next (s.finish c 0x1501))) ∧
    (∀ c, s.cmd q tag 0x1506 = some c →
      (∀ i, s.activeSlot = some i → s.slotState (1 - i) = slGood → exec (.cmdFwuFallback q tag) s = .next
        (if s.flashHeld then s
          else (((s.putSlotState i slBad).raise 0x1507 [(16, 1, i), (17, 1, 1)]).finish c stOk).restartTollhouse)) ∧
      ((∀ i, s.activeSlot = some i → s.slotState (1 - i) ≠ slGood) → exec (.cmdFwuFallback q tag) s = .next (s.finish c 0x150D))) ∧
    (∀ c, s.cmd q tag 0x1507 = some c →
      let v := c.opnd 32 1
      ((v < s.fuses.fwSvn ∨ s.fld FWU_SVN.CUR < v) → exec (.cmdFwuSvnRaise q tag) s = .next (s.finish c 0x150E)) ∧
      (s.fuses.fwSvn ≤ v → v ≤ s.fld FWU_SVN.CUR → ∃ t : State, exec (.cmdFwuSvnRaise q tag) s = .next (t.finish c stOk) ∧
        t.fuses.fwSvn = v ∧ t = { s.setFld FWU_SVN.MIN v with fuses := { s.fuses with fwSvn := v } }))

/-- A row whose message has not come changes nothing, nor does one that programs flash while a warning stands, nor any in a tollhouse restart. An OFFER is
answered by the rules of R476; one accepted resumes a part of the same image (with CUT it is offered on) or erases the slot. A chunk next in order of the
transfer's port that passes its CRC-32C is stored, answered 0x00 and pushed on, any other answered 0x01; a second bad read-back ends the transfer. END of
the whole hash marks a slot that verifies WRITTEN with EV_FWU_RECEIVED (in recovery it takes GEN and TRIAL and the tollhouse restarts; in HW mode without
CUT it is offered onward), or rejects it. A received ACTIVATE schedules an image held, else raises EV_FWU_ACT_MISSING. A BUSY offer is made again after 1 s.
In recovery the device asks on each UP port each second, and at GO, of a command through an open path, takes the image in its RAM; a neighbour that serves
offers its active GOOD slot. -/
def Obligations.FirmwareTransfers : Prop :=
  ∀ (s : State) (bad : Fin 3) (p : Path) (v : Word), s.awake = true →
    (∀ r ∈ [(Instr.offer, 0x10), (.chunk bad, 0x11), (.fwuEnd, 0x12), (.activate, 0x13), (.recoverReq, 0x14)],
      (s.restarting = true → exec r.1 s = .next s) ∧ (s.takeMsg r.2 = none → exec r.1 s = .next s)) ∧
    (s.flashHeld = true → exec .offer s = .next s ∧ exec (.chunk bad) s = .next s ∧ exec .fwuEnd s = .next s) ∧
    (s.restarting = false →
      (s.flashHeld = false →
        (∀ port m u, s.takeMsg 0x10 = some (port, m, u) →
          let len := beAt m.payload 0 4
          let hash := bytesAt m.payload 4 48
          let i := u.spareSlot
          let part := 0 < u.fld FWU_WRITTEN.LEN ∧ u.slotHash i = hash
          let w := if part then u else u.eraseSlot i
          (u.offerRule len hash ≠ 0 → exec .offer s = .next (u.respond m (beBytes 1 (u.offerRule len hash) ++ List.replicate 7 0))) ∧
          (u.offerRule len hash = 0 → ∃ x : State, x = { w with fwu := { w.fwu with rx := some ⟨port, hash, len⟩ } } ∧
            (let y := x.respond m (List.replicate 4 0 ++ beBytes 4 (x.fld FWU_WRITTEN.LEN));
              exec .offer s = .next (State.showXfer (if part then y.offerCut i port else y))))) ∧
        (∀ port m u, s.takeMsg 0x11 = some (port, m, u) → u.fwu.rx = none → exec (.chunk bad) s = .next (u.respond m [1])) ∧
        (∀ port m u r, s.takeMsg 0x11 = some (port, m, u) → u.fwu.rx = some r →
          let off := chunkBytes * beAt m.payload 0 4
          let bs := m.payload.drop 8
          let fits := r.port = port ∧ off = u.fld FWU_WRITTEN.LEN ∧ off < r.len ∧ bs.length = chunkBytes ∧ beAt m.payload 4 4 = crc32c bs
          let kept := bs.take (r.len - off)
          let w := (u.imagePut u.spareSlot off kept).setFld FWU_WRITTEN.LEN (off + kept.length)
          let x := (w.respond m [0]).unitRun 1 (w.flashRead (slotBase w.spareSlot + off) kept.length)
          let y := if beAt m.payload 0 4 = 0 then x.offerCut x.spareSlot port else x
          (¬ fits → exec (.chunk bad) s = .next (u.respond m [1])) ∧
          (fits → bad.val = 2 → exec (.chunk bad) s = .next ((u.respond m [1]).rejectImage port 0x1509)) ∧
          (fits → bad.val < 2 → exec (.chunk bad) s = .next (y.fwu.offers.foldl (fun (s : State) p => s.push p.1) y))) ∧
        (∀ port m u, s.takeMsg 0x12 = some (port, m, u) →
          (u.fwu.rx = none → exec .fwuEnd s = .next (u.respond m (beBytes 2 0x1501))) ∧
          (∀ r, u.fwu.rx = some r →
            let i := u.spareSlot
            let st := if u.slotHash i ≠ r.hash then 0x1505 else match u.verifySlot i with | some f => f.1 | none => stOk
            let w := u.respond m (beBytes 2 st)
            ((r.port ≠ port ∨ m.payload ≠ r.hash) → exec .fwuEnd s = .next (u.respond m (beBytes 2 0x1501))) ∧
            (r.port = port → m.payload = r.hash → st ≠ stOk → exec .fwuEnd s = .next ((w.fwu.offers.foldl
              (fun (s : State) p => if p.2.slot = i then s.endOffer p.1 false else s) w).rejectImage port st)) ∧
            (r.port = port → m.payload = r.hash → st = stOk → ∃ x : State,
              x = { w.putSlotState i slWritten with fwu := { (w.putSlotState i slWritten).fwu with rx := none } } ∧
              (let y := x.raise 0x1501 [(16, 8, leAt r.hash 0 8), (24, 1, port)]
                let z := y.fwu.offers.foldl (fun (s : State) p => s.push p.1) y
                let on := portsWhere 16 fun j => z.portUp j && decide (j ≠ port) && !(z.binding j).footing &&
                  (Sparse.find z.fwu.offers j).isNone && !z.flag FWU_CFG.CUT;
                (y.flag FWU_STATUS.RECOVERY = true → exec .fwuEnd s = .next
                  ((y.putTrial i).setFlag FWU_STATUS.RECOVERY false).restartTollhouse) ∧
                (y.flag FWU_STATUS.RECOVERY = false → z.assist 20 = true → exec .fwuEnd s = .next z.showXfer) ∧
                (y.flag FWU_STATUS.RECOVERY = false → z.assist 20 = false → exec .fwuEnd s = .next
                  (on.foldl (fun (s : State) j => s.offerOn i j) z).showXfer)))))) ∧
      (∀ port m u, s.takeMsg 0x13 = some (port, m, u) →
        let at' := beAt m.payload 48 8
        let held := u.holdsImage (bytesAt m.payload 0 48)
        (u.isPeer = true → exec .activate s = .next u) ∧
        (u.isPeer = false → held = false → exec .activate s = .next (u.raise 0x1504 [(16, 1, 0)])) ∧
        (u.isPeer = false → held = true → at' ≤ u.now → exec .activate s = .next (u.raise 0x1504 [(16, 1, 1)])) ∧
        (u.isPeer = false → held = true → u.now < at' → exec .activate s = .next ((u.schedule at').raise 0x1503 [(16, 8, at')]))) ∧
      (∀ port (o : FwuOffer), s.fwu.offers = [(port, o)] → exec .offerRetry s = .next
        (if o.retry.any (fun t => decide (t ≤ s.clock)) then (s.setOffer port { o with retry := none }).sendMsg (.neighbour port) 2 0x10 0
          (s.offerMsg o.slot) true else s)) ∧
      (∀ port m u, s.takeMsg 0x14 = some (port, m, u) → exec .recoverReq s = .next (match u.activeSlot with
        | some i => if u.flag FWU_CFG.SERVE = true ∧ u.slotState i = slGood ∧ Sparse.find u.fwu.offers port = none then u.offerOn i port else u
        | none => u))) ∧
    ((s.restarting = true ∨ s.fwu.offers = []) → exec .offerRetry s = .next s) ∧
    (let due := s.flag FWU_STATUS.RECOVERY = true ∧ s.fwu.reqAt + 1000 * ms ≤ s.clock;
      (due → ∃ t : State, t = { s with fwu := { s.fwu with reqAt := s.clock } } ∧ exec .recoverReqSend s = .next
        ((portsWhere 16 s.portUp).foldl (fun (s : State) k => s.sendMsg (.neighbour k) 2 0x14 0 [0] false) t)) ∧
      (¬ due → exec .recoverReqSend s = .next s)) ∧
    ((s.pathOpen p = false ∨ bits v.toNat 26 1 ≠ 1) → exec (.fwuRecoverGo p v bad) s = .next s) ∧
    (s.pathOpen p = true → bits v.toNat 26 1 = 1 → ∃ d, regAt 0x60040 = some (d, 0, false) ∧
      (let u := s.writePlain d 0x60040 v.toNat
        let image := u.memRead false 0x400000 (u.fld FWU_RECOVER.LEN)
        let verdict := u.imageCheck fun o n => bytesAt image o n
        let wrong := slotBytes < u.fld FWU_RECOVER.LEN ∨ u.fld FWU_RECOVER.LEN ≠ leAt image 8 4
        let k := u.fld FWU_RECOVER.SLOT;
        ((u.flag FWU_STATUS.RECOVERY = false ∨ u.flashHeld = true) → exec (.fwuRecoverGo p v bad) s = .next u) ∧
        (u.flag FWU_STATUS.RECOVERY = true → u.flashHeld = false →
          (∀ st, verdict = some st → exec (.fwuRecoverGo p v bad) s = .next (u.setFld FWU_RECOVER_ERR.ERR (st % 256))) ∧
          (verdict = none → wrong → exec (.fwuRecoverGo p v bad) s = .next (u.setFld FWU_RECOVER_ERR.ERR 0x02)) ∧
          (verdict = none → ¬ wrong → bad.val = 2 → exec (.fwuRecoverGo p v bad) s = .next (u.setFld FWU_RECOVER_ERR.ERR 0x09)) ∧
          (verdict = none → ¬ wrong → bad.val < 2 → exec (.fwuRecoverGo p v bad) s = .next
            ((((((u.eraseSlot k).imagePut k 0 image).unitRun 2 image).putSlotState k slWritten).putTrial k).setFlag
              FWU_STATUS.RECOVERY false).restartTollhouse))))
end

