-- ==== Sys2Proof/Laws/Sparse.lean ====
section
/-! SUPPORT. Sparse tables and memories: reading after writing, and every operation keeps the canonical form. -/

namespace Sys2Proof.Machine

variable {α : Type}

/-! ### Rising keys as a pairwise order -/

theorem Sparse.rising_iff (m : Sparse α) : Sparse.rising m = true ↔ m.Pairwise fun c e => c.1 < e.1 := by
  induction m with
  | nil => simp [Sparse.rising]
  | cons c m ih =>
    cases m with
    | nil => simp [Sparse.rising]
    | cons e m =>
      simp only [Sparse.rising, Bool.and_eq_true, decide_eq_true_eq, ih, List.pairwise_cons, List.mem_cons, forall_eq_or_imp]
      constructor
      · rintro ⟨h, h1, h2⟩; exact ⟨⟨h, fun x hx => h.trans (h1 x hx)⟩, h1, h2⟩
      · rintro ⟨⟨h, -⟩, h1, h2⟩; exact ⟨h, h1, h2⟩

theorem Sparse.rising_filter {m : Sparse α} (p : Nat × α → Bool) (h : Sparse.rising m = true) :
    Sparse.rising (m.filter p) = true := by
  rw [Sparse.rising_iff] at *; exact h.filter p

theorem Sparse.rising_erase {m : Sparse α} (a : Nat) (h : Sparse.rising m = true) :
    Sparse.rising (Sparse.erase m a) = true := Sparse.rising_filter _ h

theorem Sparse.rising_clear {m : Sparse α} (a n : Nat) (h : Sparse.rising m = true) :
    Sparse.rising (Sparse.clear m a n) = true := Sparse.rising_filter _ h

theorem Sparse.mem_insert {m : Sparse α} {a : Nat} {v : α} {x : Nat × α} (h : x ∈ Sparse.insert m a v) :
    x = (a, v) ∨ x ∈ m := by
  induction m with
  | nil => simpa [Sparse.insert] using h
  | cons c m ih =>
    simp only [Sparse.insert] at h
    split at h
    · simpa using h
    · rcases List.mem_cons.mp h with h | h
      · simp [h]
      · rcases ih h with h | h <;> simp [h]

theorem Sparse.rising_insert {m : Sparse α} {a : Nat} (v : α) (h : Sparse.rising m = true) (ha : ∀ x ∈ m, x.1 ≠ a) :
    Sparse.rising (Sparse.insert m a v) = true := by
  rw [Sparse.rising_iff] at *
  induction m with
  | nil => simp [Sparse.insert]
  | cons c m ih =>
    obtain ⟨h1, h2⟩ := List.pairwise_cons.mp h
    simp only [Sparse.insert]
    split
    · refine List.pairwise_cons.mpr ⟨?_, h⟩
      intro x hx
      rcases List.mem_cons.mp hx with rfl | hx
      · assumption
      · exact lt_trans (by assumption) (h1 x hx)
    · refine List.pairwise_cons.mpr ⟨?_, ih h2 fun x hx => ha x (List.mem_cons_of_mem _ hx)⟩
      intro x hx
      rcases Sparse.mem_insert hx with rfl | hx
      · have := ha c List.mem_cons_self
        simp only; omega
      · exact h1 x hx

theorem Sparse.rising_set {m : Sparse α} (a : Nat) (v : α) (h : Sparse.rising m = true) :
    Sparse.rising (Sparse.set m a v) = true := by
  refine Sparse.rising_insert v (Sparse.rising_erase a h) fun x hx => ?_
  simpa using (List.mem_filter.mp hx).2

/-! ### Reading after writing -/

theorem Sparse.find_insert (m : Sparse α) (a b : Nat) (v : α) (ha : ∀ x ∈ m, x.1 ≠ a) :
    Sparse.find (Sparse.insert m a v) b = if b = a then some v else Sparse.find m b := by
  induction m with
  | nil => simp only [Sparse.insert, Sparse.find, eq_comm]
  | cons c m ih =>
    obtain ⟨k, w⟩ := c
    have hk : k ≠ a := ha (k, w) List.mem_cons_self
    simp only [Sparse.insert]
    split
    · simp only [Sparse.find, eq_comm]
    · simp only [Sparse.find, ih fun x hx => ha x (List.mem_cons_of_mem _ hx)]
      by_cases h : k = b
      · subst h; simp [hk]
      · simp [h]

theorem Sparse.find_erase (m : Sparse α) (a b : Nat) :
    Sparse.find (Sparse.erase m a) b = if b = a then none else Sparse.find m b := by
  induction m with
  | nil => simp [Sparse.erase, Sparse.find]
  | cons c m ih =>
    obtain ⟨k, w⟩ := c
    simp only [Sparse.erase, List.filter_cons] at *
    by_cases h : k = a
    · subst h
      simp only [ne_eq, not_true_eq_false, decide_false, Bool.false_eq_true, ↓reduceIte, ih, Sparse.find]
      by_cases hb : b = k
      · simp [hb]
      · simp [hb, Ne.symm hb]
    · simp only [ne_eq, h, not_false_eq_true, decide_true, ↓reduceIte, Sparse.find, ih]
      by_cases hb : k = b
      · subst hb; simp [h]
      · simp [hb]

/-- A read after a write of a table: the value written, everywhere else what was there. -/
theorem Sparse.find_set (m : Sparse α) (a b : Nat) (v : α) :
    Sparse.find (Sparse.set m a v) b = if b = a then some v else Sparse.find m b := by
  rw [Sparse.set, Sparse.find_insert, Sparse.find_erase]
  · split <;> simp_all
  · intro x hx; simpa [Sparse.erase] using (List.mem_filter.mp hx).2

@[simp] theorem Sparse.find_set_self (m : Sparse α) (a : Nat) (v : α) : Sparse.find (Sparse.set m a v) a = some v := by
  simp [Sparse.find_set]

theorem Sparse.find_set_ne (m : Sparse α) {a b : Nat} (v : α) (h : b ≠ a) :
    Sparse.find (Sparse.set m a v) b = Sparse.find m b := by
  simp [Sparse.find_set, h]

/-- A read after a write in canonical form. -/
theorem Sparse.get_put [DecidableEq α] (d : α) (m : Sparse α) (a b : Nat) (v : α) :
    Sparse.get d (Sparse.put d m a v) b = if b = a then v else Sparse.get d m b := by
  simp only [Sparse.put, Sparse.get]
  split
  · rw [Sparse.find_erase]; split <;> simp_all
  · rw [Sparse.find_set]; split <;> simp

/-! ### Memories -/

theorem Memory.wf_iff (d : Byte) (m : Memory) :
    Memory.wf d m = true ↔ Sparse.rising m = true ∧ ∀ c ∈ m, c.2 ≠ d := by
  simp [Memory.wf, List.all_eq_true]

theorem Memory.wf_nil (d : Byte) : Memory.wf d [] = true := by simp [Memory.wf, Sparse.rising]

theorem Memory.wf_filter {d : Byte} {m : Memory} (p : Nat × Byte → Bool) (h : Memory.wf d m = true) :
    Memory.wf d (m.filter p) = true := by
  rw [Memory.wf_iff] at *
  exact ⟨Sparse.rising_filter p h.1, fun c hc => h.2 c (List.mem_filter.mp hc).1⟩

theorem Memory.wf_clear {d : Byte} {m : Memory} (a n : Nat) (h : Memory.wf d m = true) :
    Memory.wf d (Sparse.clear m a n) = true := Memory.wf_filter _ h

theorem Memory.wf_put {d : Byte} {m : Memory} (a : Nat) (v : Byte) (h : Memory.wf d m = true) :
    Memory.wf d (Sparse.put d m a v) = true := by
  simp only [Sparse.put]
  split
  · exact Memory.wf_filter _ h
  · rename_i hv
    rw [Memory.wf_iff] at *
    refine ⟨Sparse.rising_set a v h.1, fun c hc => ?_⟩
    rcases Sparse.mem_insert hc with rfl | hc
    · exact hv
    · exact h.2 c (List.mem_filter.mp hc).1

theorem Memory.wf_writeBytes {d : Byte} {m : Memory} (a : Nat) (bs : List Byte) (h : Memory.wf d m = true) :
    Memory.wf d (writeBytes d m a bs) = true := by
  induction bs generalizing m a with
  | nil => exact h
  | cons b bs ih => exact ih (a + 1) (Memory.wf_put a b h)

/-- What a byte reads as after bytes have been written: the byte written there, else what it read before. -/
theorem readByte_writeBytes (d : Byte) (m : Memory) (a b : Nat) (bs : List Byte) :
    readByte d (writeBytes d m a bs) b = if a ≤ b ∧ b < a + bs.length then bs.getD (b - a) d else readByte d m b := by
  induction bs generalizing m a with
  | nil => simp [writeBytes]
  | cons c bs ih =>
    rw [writeBytes, ih]
    simp only [readByte, Sparse.get_put, List.length_cons]
    by_cases h : b = a
    · subst h; simp
    · by_cases h2 : a ≤ b ∧ b < a + (bs.length + 1)
      · obtain ⟨k, rfl⟩ : ∃ k, b = a + 1 + k := ⟨b - (a + 1), by omega⟩
        rw [if_pos (by omega), if_pos h2, show a + 1 + k - (a + 1) = k by omega, show a + 1 + k - a = k + 1 by omega]
        simp
      · rw [if_neg (by omega), if_neg h, if_neg h2]

theorem Memory.wf_putBlock {d : Byte} {m : Memory} (a : Nat) (bs : List Byte) (h : Memory.wf d m = true) :
    Memory.wf d (putBlock d m a bs) = true := by
  rw [Memory.wf_iff] at *
  have hmid : ∀ x ∈ bs.zipIdx.filterMap (fun p => if p.1 = d then none else some (a + p.2, p.1)),
      a ≤ x.1 ∧ x.1 < a + bs.length ∧ x.2 ≠ d := by
    intro x hx
    obtain ⟨p, hp, hx⟩ := List.mem_filterMap.mp hx
    have hlt := (List.mem_zipIdx hp).2.1
    split at hx
    · cases hx
    · rename_i hd
      cases hx
      refine ⟨by omega, by simp only; omega, hd⟩
  refine ⟨?_, fun c hc => ?_⟩
  · rw [Sparse.rising_iff] at *
    refine List.pairwise_append.mpr ⟨List.pairwise_append.mpr ⟨h.1.filter _, ?_, ?_⟩, h.1.filter _, ?_⟩
    · have hz : bs.zipIdx.Pairwise fun p q => p.2 < q.2 := by
        rw [← List.pairwise_map (f := Prod.snd) (R := (· < ·)), List.zipIdx_map_snd]
        exact List.pairwise_lt_range'
      refine hz.filterMap _ ?_
      intro p q hpq x hx y hy
      split at hx <;> cases hx
      split at hy <;> cases hy
      simp only; omega
    · intro x hx y hy
      have := (List.mem_filter.mp hx).2
      have := hmid y hy
      simp only [decide_eq_true_eq] at *
      omega
    · intro x hx y hy
      have hy := (List.mem_filter.mp hy).2
      simp only [decide_eq_true_eq] at hy
      rcases List.mem_append.mp hx with hx | hx
      · have := (List.mem_filter.mp hx).2
        simp only [decide_eq_true_eq] at this
        omega
      · have := hmid x hx
        omega
  · rcases List.mem_append.mp hc with hc | hc
    · rcases List.mem_append.mp hc with hc | hc
      · exact h.2 c (List.mem_filter.mp hc).1
      · exact (hmid c hc).2.2
    · exact h.2 c (List.mem_filter.mp hc).1

end Sys2Proof.Machine
end

