-- ==== Sys2Proof/Laws/Kept.lean ====
section
/-! SUPPORT. What every operation keeps (`Kept`), one lemma for each operation; the files Laws/Kept*.lean go through the
operations in the order of the files of Machine/. -/

namespace Sys2Proof.Machine

variable {σ s u t : State}

theorem Fuses.follows_refl (f : Fuses) : f.follows f := ⟨le_rfl, le_rfl, rfl⟩

theorem Fuses.follows_trans {f g h : Fuses} (h1 : f.follows g) (h2 : g.follows h) : f.follows h := by
  obtain ⟨a1, b1, c1⟩ := h1
  obtain ⟨a2, b2, c2⟩ := h2
  exact ⟨a1.trans a2, b1.trans b2, by rw [c2, c1]⟩

theorem Kept.refl (s : State) : Kept s s :=
  ⟨rfl, List.suffix_refl _, le_rfl, rfl, Fuses.follows_refl _, id, id⟩

theorem Kept.trans (h1 : Kept σ s) (h2 : Kept s t) : Kept σ t :=
  ⟨h2.pending.trans h1.pending, h1.out.trans h2.out, h1.drawn.trans h2.drawn, h2.pins.trans h1.pins,
    Fuses.follows_trans h1.fuses h2.fuses, fun h => h2.canon (h1.canon h), fun h => h2.queued (h1.queued h)⟩

/-- An update of the fields that `Kept` does not speak of. -/
theorem Kept.mk_iff {regs host fnt bays span via time cad key mem cfg dec cmp cor str therm dia ing enc red pwr fwu ldg tap}
    (hm : host.mem = u.host.mem) (ha : host.area = u.host.area) (hd : mem.deck = u.mem.deck) (he : mem.ext = u.mem.ext)
    (hr : regs = u.regs) (hc : host.cmds = u.host.cmds) :
    Kept σ ⟨u.pending, regs, host, fnt, bays, span, via, time, cad, key, mem, cfg, dec, cmp, cor, str, therm, dia, ing, enc,
      red, pwr, fwu, ldg, u.flash, u.fuses, u.pins, tap, u.out, u.drawn⟩ ↔ Kept σ u := by
  subst hr
  constructor <;> intro h <;> refine h.trans ⟨rfl, List.suffix_refl _, le_rfl, rfl, Fuses.follows_refl _, ?_, ?_⟩ <;>
    simp [State.Canon, State.Queued, hm, ha, hd, he, hc]

/-- An update of host control that leaves its memories and lists no command of another queue. -/
theorem Kept.host {h : HostSt} (hm : h.mem = s.host.mem) (ha : h.area = s.host.area)
    (hc : s.Queued → ∀ c ∈ h.cmds, c.q < 24) (hk : Kept σ s) : Kept σ { s with host := h } :=
  hk.trans ⟨rfl, List.suffix_refl _, le_rfl, rfl, Fuses.follows_refl _, by simp [State.Canon, hm, ha], hc⟩

theorem Kept.foldl {β : Type} {f : State → β → State} (l : List β) (hf : ∀ u x, Kept σ u → Kept σ (f u x)) (hk : Kept σ s) :
    Kept σ (l.foldl f s) := by
  induction l generalizing s with
  | nil => exact hk
  | cons x l ih => exact ih (hf _ _ hk)

/-- The same for a fold that carries a value beside the state. -/
theorem Kept.foldl_fst {α β : Type} {f : State × α → β → State × α} (l : List β) (hf : ∀ u x, Kept σ u.1 → Kept σ (f u x).1)
    {a : α} (hk : Kept σ s) : Kept σ (l.foldl f (s, a)).1 := by
  suffices h : ∀ u : State × α, Kept σ u.1 → Kept σ (l.foldl f u).1 from h _ hk
  induction l with
  | nil => exact fun _ h => h
  | cons x l ih => exact fun u h => ih _ (hf _ _ h)

theorem Kept.ite {c : Prop} [Decidable c] (h1 : Kept σ s) (h2 : Kept σ t) : Kept σ (if c then s else t) := by
  split <;> assumption

/-! ### The operations that touch registers, memories, the output and the count of free values -/

theorem State.setWord_kept {x : Nat} {w : Word} (hk : Kept σ s) : Kept σ (s.setWord x w) := by
  refine hk.trans ⟨rfl, List.suffix_refl _, le_rfl, rfl, Fuses.follows_refl _, ?_, id⟩
  rintro ⟨h1, h2, h3, h4, h5, h6⟩
  exact ⟨h1, h2, h3, h4, h5, Sparse.rising_set _ _ h6⟩

theorem State.emit_kept {o : Output} (hk : Kept σ s) : Kept σ (s.emit o) :=
  hk.trans ⟨rfl, List.suffix_cons _ _, le_rfl, rfl, Fuses.follows_refl _, id, id⟩

theorem State.draw_kept (hk : Kept σ s) : Kept σ s.draw :=
  hk.trans ⟨rfl, List.suffix_refl _, Nat.le_succ _, rfl, Fuses.follows_refl _, id, id⟩

theorem Kept.drawn_le {m : Nat} {mem : MemSt} (hm : s.drawn ≤ m) (hd : mem.deck = s.mem.deck) (he : mem.ext = s.mem.ext)
    (hk : Kept σ s) : Kept σ { s with drawn := m, mem := mem } :=
  hk.trans ⟨rfl, List.suffix_refl _, hm, rfl, Fuses.follows_refl _, by simp [State.Canon, hd, he], id⟩

theorem Kept.deck {d : Memory} (hd : Memory.wf blank s.mem.deck = true → Memory.wf blank d = true) (hk : Kept σ s) :
    Kept σ { s with mem := { s.mem with deck := d } } :=
  hk.trans ⟨rfl, List.suffix_refl _, le_rfl, rfl, Fuses.follows_refl _,
    fun ⟨h1, h2, h3, h4, h5, h6⟩ => ⟨h1, h2, hd h3, h4, h5, h6⟩, id⟩

theorem Kept.fuseSvn {v : Nat} (hv : s.fuses.svn ≤ v) (hk : Kept σ s) :
    Kept σ { s with fuses := { s.fuses with svn := v } } :=
  hk.trans ⟨rfl, List.suffix_refl _, le_rfl, rfl, ⟨hv, le_rfl, rfl⟩, id, id⟩

theorem Kept.fuseFwSvn {v : Nat} (hv : s.fuses.fwSvn ≤ v) (hk : Kept σ s) :
    Kept σ { s with fuses := { s.fuses with fwSvn := v } } :=
  hk.trans ⟨rfl, List.suffix_refl _, le_rfl, rfl, ⟨le_rfl, hv, rfl⟩, id, id⟩

theorem State.areaWrite_kept {b : Nat} {bs : List Byte} (hk : Kept σ s) : Kept σ (s.areaWrite b bs) :=
  hk.trans ⟨rfl, List.suffix_refl _, le_rfl, rfl, Fuses.follows_refl _,
    fun ⟨h1, h2, h3, h4, h5, h6⟩ => ⟨h1, Memory.wf_writeBytes _ _ h2, h3, h4, h5, h6⟩, id⟩

theorem State.portWrite_kept {p b : Nat} {bs : List Byte} (hk : Kept σ s) : Kept σ (s.portWrite p b bs) := by
  unfold State.portWrite
  split
  · refine hk.trans ⟨rfl, List.suffix_refl _, le_rfl, rfl, Fuses.follows_refl _, ?_, id⟩
    rintro ⟨h1, h2, h3, h4, h5, h6⟩
    exact ⟨Memory.wf_writeBytes _ _ h1, h2, h3, h4, h5, h6⟩
  · exact State.areaWrite_kept hk

end Sys2Proof.Machine
end

