-- ==== Sys2Proof/Laws/KeptOps.lean ====
section
/-! SUPPORT. What the operations of Machine/Ops.lean keep. -/

namespace Sys2Proof.Machine

variable {σ s : State}

theorem State.setFld_kept {f : Fld} {v : Nat} {i : Nat} (hk : Kept σ s) : Kept σ (State.setFld s f v i) := by
  unfold State.setFld
  repeat' first
    | with_reducible assumption
    | with_reducible apply State.setWord_kept

theorem State.setFlag_kept {f : Fld} {b : Bool} {i : Nat} (hk : Kept σ s) : Kept σ (State.setFlag s f b i) := by
  unfold State.setFlag
  repeat' first
    | with_reducible assumption
    | with_reducible apply State.setFld_kept

theorem State.bump_kept {f : Fld} {i : Nat} {n : Nat} (hk : Kept σ s) : Kept σ (State.bump s f i n) := by
  unfold State.bump
  repeat' first
    | with_reducible assumption
    | with_reducible apply State.setFld_kept

theorem State.setPair_kept {p : PairReg} {v : Nat} {i : Nat} (hk : Kept σ s) : Kept σ (State.setPair s p v i) := by
  unfold State.setPair
  repeat' first
    | with_reducible assumption
    | with_reducible apply State.setWord_kept

theorem State.setPort_kept {k : Nat} {x : PortSt} (hk : Kept σ s) : Kept σ (State.setPort s k x) := by
  unfold State.setPort
  repeat' first
    | with_reducible assumption
    | simp only [↓Kept.mk_iff]

theorem State.setBay_kept {b : Nat} {x : BaySt} (hk : Kept σ s) : Kept σ (State.setBay s b x) := by
  unfold State.setBay
  repeat' first
    | with_reducible assumption
    | simp only [↓Kept.mk_iff]

end Sys2Proof.Machine
end

