-- ==== Sys2Proof/Laws/KeptMessage.lean ====
section
/-! SUPPORT. What the operations of Machine/Message.lean keep. -/

namespace Sys2Proof.Machine

variable {σ s : State}

theorem State.releaseSlot_kept {slot : Option (Nat × Nat)} (hk : Kept σ s) : Kept σ (State.releaseSlot s slot) := by
  unfold State.releaseSlot
  repeat' first
    | with_reducible assumption
    | intro _
    | with_reducible apply State.setPort_kept
    | with_reducible apply Kept.ite
    | simp only [↓Kept.mk_iff]
    | split

theorem State.queuePlank_kept {k : Nat} {x : Plank} {slot : Option (Nat × Nat)} (hk : Kept σ s) : Kept σ (State.queuePlank s k x slot) := by
  unfold State.queuePlank
  repeat' first
    | with_reducible assumption
    | with_reducible apply State.bump_kept
    | with_reducible apply State.releaseSlot_kept
    | with_reducible apply State.setPort_kept
    | with_reducible apply Kept.ite

theorem State.routePlank_kept {x : Plank} {slot : Option (Nat × Nat)} (hk : Kept σ s) : Kept σ (State.routePlank s x slot) := by
  unfold State.routePlank
  repeat' first
    | with_reducible assumption
    | with_reducible apply State.queuePlank_kept
    | with_reducible apply State.bump_kept
    | with_reducible apply State.releaseSlot_kept
    | split

theorem State.launch_kept {d : Dest} {m : Msg} (hk : Kept σ s) : Kept σ (State.launch s d m) := by
  unfold State.launch
  repeat' first
    | with_reducible assumption
    | intro _
    | with_reducible apply State.queuePlank_kept
    | with_reducible apply State.routePlank_kept
    | with_reducible apply Kept.foldl
    | with_reducible apply Kept.foldl_fst
    | with_reducible apply Kept.ite
    | simp only [↓Kept.mk_iff]
    | split

theorem State.relaunch_kept {m : Msg} (hk : Kept σ s) : Kept σ (State.relaunch s m) := by
  unfold State.relaunch
  repeat' first
    | with_reducible assumption
    | intro _
    | with_reducible apply State.launch_kept
    | with_reducible apply Kept.ite
    | split

theorem State.seqTaken_kept {a : Nat} {vc : Nat} (hk : Kept σ s) : Kept σ (State.seqTaken s a vc) := by
  unfold State.seqTaken
  repeat' first
    | with_reducible assumption
    | simp only [↓Kept.mk_iff]

theorem State.sendMsg_kept {d : Dest} {vc : Nat} {typ : Nat} {arg : Nat} {payload : List Byte} {track : Bool} {cmd : Option (Nat × Nat)} (hk : Kept σ s) : Kept σ (State.sendMsg s d vc typ arg payload track cmd) := by
  unfold State.sendMsg
  repeat' first
    | with_reducible assumption
    | intro _
    | with_reducible apply State.seqTaken_kept
    | with_reducible apply State.launch_kept
    | with_reducible apply Kept.ite
    | simp only [↓Kept.mk_iff]

theorem State.holdAnswer_kept {q : Msg} {r : Msg} (hk : Kept σ s) : Kept σ (State.holdAnswer s q r) := by
  unfold State.holdAnswer
  repeat' first
    | with_reducible assumption
    | intro _
    | with_reducible apply Kept.ite
    | simp only [↓Kept.mk_iff]

theorem State.respond_kept {q : Msg} {payload : List Byte} (hk : Kept σ s) : Kept σ (State.respond s q payload) := by
  unfold State.respond
  repeat' first
    | with_reducible assumption
    | with_reducible apply State.holdAnswer_kept
    | with_reducible apply State.launch_kept

end Sys2Proof.Machine
end

