-- ==== Sys2Proof/Laws/KeptFlags.lean ====
section
/-! SUPPORT. What the operations of Machine/Flags.lean keep. -/

namespace Sys2Proof.Machine

variable {σ s : State}

theorem State.setQueue_kept {q : Nat} {x : QueueSt} (hk : Kept σ s) : Kept σ (State.setQueue s q x) := by
  unfold State.setQueue
  repeat' first
    | with_reducible assumption
    | simp only [↓Kept.mk_iff]

theorem State.setRing_kept {p : Nat} {x : RingSt} (hk : Kept σ s) : Kept σ (State.setRing s p x) := by
  unfold State.setRing
  repeat' first
    | with_reducible assumption
    | simp only [↓Kept.mk_iff]

theorem State.notify_kept {p : Nat} {vec : Nat} (hk : Kept σ s) : Kept σ (State.notify s p vec) := by
  unfold State.notify
  repeat' first
    | with_reducible assumption
    | intro _
    | with_reducible apply State.emit_kept
    | with_reducible apply State.sendMsg_kept
    | with_reducible apply Kept.foldl
    | with_reducible apply Kept.foldl_fst
    | with_reducible apply Kept.ite
    | simp only [↓Kept.mk_iff]

theorem State.rearm_kept {p : Nat} {vecs : List Nat} (hk : Kept σ s) : Kept σ (State.rearm s p vecs) := by
  unfold State.rearm
  repeat' first
    | with_reducible assumption
    | with_reducible apply Kept.ite
    | simp only [↓Kept.mk_iff]

theorem State.putEvent_kept {p : Nat} {e : Event} (hk : Kept σ s) : Kept σ (State.putEvent s p e) := by
  unfold State.putEvent
  repeat' first
    | with_reducible assumption
    | with_reducible apply State.portWrite_kept
    | with_reducible apply State.setRing_kept
    | with_reducible apply State.notify_kept

theorem State.loseEvent_kept {p : Nat} (hk : Kept σ s) : Kept σ (State.loseEvent s p) := by
  unfold State.loseEvent
  repeat' first
    | with_reducible assumption
    | with_reducible apply State.setRing_kept
    | with_reducible apply State.bump_kept

theorem State.deliverEvent_kept {p : Nat} {e : Event} (hk : Kept σ s) : Kept σ (State.deliverEvent s p e) := by
  unfold State.deliverEvent
  repeat' first
    | with_reducible assumption
    | with_reducible apply State.loseEvent_kept
    | with_reducible apply State.putEvent_kept
    | with_reducible apply Kept.ite

theorem State.raiseFor_kept {e : Event} {p : Nat} (hk : Kept σ s) : Kept σ (State.raiseFor s e p) := by
  unfold State.raiseFor
  repeat' first
    | with_reducible assumption
    | with_reducible apply State.setRing_kept
    | with_reducible apply State.bump_kept
    | with_reducible apply State.deliverEvent_kept
    | with_reducible apply Kept.ite

theorem State.raise_kept {code : Nat} {fs : List ByteField} (hk : Kept σ s) : Kept σ (State.raise s code fs) := by
  unfold State.raise
  repeat' first
    | with_reducible assumption
    | intro _
    | with_reducible apply State.raiseFor_kept
    | with_reducible apply Kept.foldl

theorem State.raiseHeld_kept {code : Nat} {fs : List ByteField} (hk : Kept σ s) : Kept σ (State.raiseHeld s code fs) := by
  unfold State.raiseHeld
  repeat' first
    | with_reducible assumption
    | intro _
    | with_reducible apply State.raise_kept
    | with_reducible apply Kept.ite
    | simp only [↓Kept.mk_iff]

theorem State.postNow_kept {c : Completion} (hk : Kept σ s) : Kept σ (State.postNow s c) := by
  unfold State.postNow
  repeat' first
    | with_reducible assumption
    | with_reducible apply State.portWrite_kept
    | with_reducible apply State.setQueue_kept
    | with_reducible apply State.notify_kept

theorem State.drained_kept {q : Nat} (hk : Kept σ s) : Kept σ (State.drained s q) := by
  unfold State.drained
  repeat' first
    | with_reducible assumption
    | intro _
    | with_reducible apply State.setQueue_kept
    | with_reducible apply State.setFlag_kept
    | with_reducible apply Kept.ite

theorem State.finishOne_kept {c : Cmd} {status : Nat} {res : List Byte} (hk : Kept σ s) : Kept σ (s.finishOne c status res) := by
  unfold State.finishOne
  dsimp only
  have h1 : Kept σ { s with host := { s.host with cmds := s.host.cmds.filter fun d => d.id ≠ c.id } } :=
    Kept.host rfl rfl (fun h d hd => h d (List.mem_of_mem_filter hd)) hk
  split
  · exact h1
  · split
    · exact h1.trans ⟨rfl, List.suffix_refl _, le_rfl, rfl, Fuses.follows_refl _, id, id⟩
    · exact State.drained_kept (State.postNow_kept h1)

theorem State.finish_kept {c : Cmd} {status : Nat} {res : List Byte} (hk : Kept σ s) : Kept σ (State.finish s c status res) := by
  unfold State.finish
  repeat' first
    | with_reducible assumption
    | intro _
    | with_reducible apply State.finishOne_kept
    | with_reducible apply Kept.foldl
    | with_reducible apply Kept.foldl_fst
    | with_reducible apply Kept.ite
    | split

theorem State.setCmd_kept {c : Cmd} (hk : Kept σ s) : Kept σ (s.setCmd c) := by
  refine Kept.host rfl rfl (fun h d hd => ?_) hk
  obtain ⟨e, he, rfl⟩ := List.mem_map.mp hd
  split <;> exact h e he

theorem State.run_kept {c : Cmd} (hk : Kept σ s) : Kept σ (State.run s c) := by
  unfold State.run
  repeat' first
    | with_reducible assumption
    | with_reducible apply State.setCmd_kept

theorem State.setFnState_kept {n : Nat} {v : Nat} (hk : Kept σ s) : Kept σ (State.setFnState s n v) := by
  unfold State.setFnState
  repeat' first
    | with_reducible assumption
    | with_reducible apply State.setFld_kept
    | with_reducible apply State.raise_kept
    | with_reducible apply Kept.ite

theorem State.markMode_kept {n : Nat} (hk : Kept σ s) : Kept σ (State.markMode s n) := by
  unfold State.markMode
  repeat' first
    | with_reducible assumption
    | with_reducible apply State.setFlag_kept

theorem State.takeMode_kept {n : Nat} {m : Bool} (hk : Kept σ s) : Kept σ (State.takeMode s n m) := by
  unfold State.takeMode
  repeat' first
    | with_reducible assumption
    | intro _
    | with_reducible apply State.setFlag_kept
    | with_reducible apply State.markMode_kept
    | with_reducible apply Kept.ite
    | simp only [↓Kept.mk_iff]

theorem State.missAssist_kept {n : Nat} {period : Nat} (hk : Kept σ s) : Kept σ (State.missAssist s n period) := by
  unfold State.missAssist
  repeat' first
    | with_reducible assumption
    | with_reducible apply State.bump_kept
    | with_reducible apply State.raise_kept

theorem State.useDecision_kept {n : Nat} {period : Nat} (hk : Kept σ s) : Kept σ (State.useDecision s n period).2 := by
  unfold State.useDecision
  repeat' first
    | with_reducible assumption
    | intro _
    | simp only [↓Kept.mk_iff]
    | split

theorem State.useDecision_kept' {n : Nat} {period : Nat} {τ : State} {x0} (he : State.useDecision s n period = (x0, τ)) (hk : Kept σ s) : Kept σ τ := by
  have := State.useDecision_kept (hk := hk) (n := n) (period := period)
  rwa [he] at this

end Sys2Proof.Machine
end

