-- ==== Sys2Proof/Laws/KeptStore.lean ====
section
/-! SUPPORT. What the operations of Machine/Store.lean keep. -/

namespace Sys2Proof.Machine

variable {σ s : State}

theorem State.memPut_kept {ext : Bool} {a : Nat} {bs : List Byte} (hk : Kept σ s) : Kept σ (s.memPut ext a bs) := by
  unfold State.memPut
  split <;> refine hk.trans ⟨rfl, List.suffix_refl _, le_rfl, rfl, Fuses.follows_refl _, ?_, id⟩ <;>
    rintro ⟨h1, h2, h3, h4, h5, h6⟩
  · exact ⟨h1, h2, h3, Memory.wf_writeBytes _ _ h4, h5, h6⟩
  · exact ⟨h1, h2, Memory.wf_writeBytes _ _ h3, h4, h5, h6⟩

theorem State.memZero_kept {ext : Bool} {a n : Nat} (hk : Kept σ s) : Kept σ (s.memZero ext a n) := by
  unfold State.memZero
  split <;> refine hk.trans ⟨rfl, List.suffix_refl _, le_rfl, rfl, Fuses.follows_refl _, ?_, id⟩ <;>
    rintro ⟨h1, h2, h3, h4, h5, h6⟩
  · exact ⟨h1, h2, h3, Memory.wf_clear _ _ h4, h5, h6⟩
  · exact ⟨h1, h2, Memory.wf_clear _ _ h3, h4, h5, h6⟩


theorem State.deckUc_kept {word : Nat} {cls : Nat} (hk : Kept σ s) : Kept σ (State.deckUc s word cls) := by
  unfold State.deckUc
  repeat' first
    | with_reducible assumption
    | with_reducible apply State.setFlag_kept
    | with_reducible apply State.bump_kept
    | with_reducible apply State.setFld_kept
    | with_reducible apply State.raise_kept

theorem State.deckRead_kept {a : Nat} {n : Nat} {cls : Nat} (hk : Kept σ s) : Kept σ (State.deckRead s a n cls).2 := by
  unfold State.deckRead
  repeat' first
    | with_reducible assumption
    | intro _
    | with_reducible apply State.deckUc_kept
    | with_reducible apply Kept.foldl

theorem State.deckRead_kept' {a : Nat} {n : Nat} {cls : Nat} {τ : State} {x0} (he : State.deckRead s a n cls = (x0, τ)) (hk : Kept σ s) : Kept σ τ := by
  have := State.deckRead_kept (hk := hk) (a := a) (n := n) (cls := cls)
  rwa [he] at this

theorem State.deckWrite_kept {a : Nat} {bs : List Byte} {cls : Nat → Nat} (hk : Kept σ s) : Kept σ (State.deckWrite s a bs cls) := by
  unfold State.deckWrite
  repeat' first
    | with_reducible assumption
    | intro _
    | with_reducible apply State.deckUc_kept
    | with_reducible apply State.memPut_kept
    | with_reducible apply Kept.foldl
    | with_reducible apply Kept.foldl_fst
    | simp only [↓Kept.mk_iff]

theorem State.lineUc_kept {line : Nat} {port : Nat} (hk : Kept σ s) : Kept σ (State.lineUc s line port) := by
  unfold State.lineUc
  repeat' first
    | with_reducible assumption
    | with_reducible apply State.bump_kept
    | with_reducible apply State.setPair_kept
    | with_reducible apply State.setFld_kept
    | with_reducible apply State.raise_kept
    | with_reducible apply Kept.ite
    | simp only [↓Kept.mk_iff]
    | split

theorem State.extWrite_kept {a : Nat} {bs : List Byte} {port : Nat} (hk : Kept σ s) : Kept σ (State.extWrite s a bs port) := by
  unfold State.extWrite
  repeat' first
    | with_reducible assumption
    | intro _
    | with_reducible apply State.lineUc_kept
    | with_reducible apply State.memPut_kept
    | with_reducible apply Kept.foldl
    | with_reducible apply Kept.foldl_fst
    | with_reducible apply Kept.ite
    | simp only [↓Kept.mk_iff]

theorem State.spaceWrite_kept {ext : Bool} {a : Nat} {bs : List Byte} {cls : Nat → Nat} {port : Nat} (hk : Kept σ s) : Kept σ (State.spaceWrite s ext a bs cls port) := by
  unfold State.spaceWrite
  repeat' first
    | with_reducible assumption
    | with_reducible apply State.extWrite_kept
    | with_reducible apply State.deckWrite_kept
    | with_reducible apply Kept.ite

theorem State.reportBad_kept {ext : Bool} {a : Nat} {n : Nat} {cls : Nat → Nat} {port : Nat} (hk : Kept σ s) : Kept σ (State.reportBad s ext a n cls port) := by
  unfold State.reportBad
  repeat' first
    | with_reducible assumption
    | intro _
    | with_reducible apply State.lineUc_kept
    | with_reducible apply State.deckUc_kept
    | with_reducible apply Kept.foldl
    | with_reducible apply Kept.foldl_fst
    | with_reducible apply Kept.ite

theorem State.refuseDeck_kept {a : Nat} {port : Nat} (hk : Kept σ s) : Kept σ (State.refuseDeck s a port) := by
  unfold State.refuseDeck
  repeat' first
    | with_reducible assumption
    | with_reducible apply State.raise_kept

theorem State.setChkVal_kept {u : Nat} {v : Nat} (hk : Kept σ s) : Kept σ (State.setChkVal s u v) := by
  unfold State.setChkVal
  repeat' first
    | with_reducible assumption
    | with_reducible apply State.setPair_kept

theorem State.chkLoad_kept {u : Nat} (hk : Kept σ s) : Kept σ (State.chkLoad s u) := by
  unfold State.chkLoad
  repeat' first
    | with_reducible assumption
    | with_reducible apply State.setChkVal_kept

theorem State.chkFeed_kept {u : Nat} {bs : List Byte} (hk : Kept σ s) : Kept σ (State.chkFeed s u bs) := by
  unfold State.chkFeed
  repeat' first
    | with_reducible assumption
    | with_reducible apply State.setChkVal_kept

theorem State.chkPreset_kept {u : Nat} {p : CrcParams} (hk : Kept σ s) : Kept σ (State.chkPreset s u p) := by
  unfold State.chkPreset
  repeat' first
    | with_reducible assumption
    | with_reducible apply State.setFld_kept
    | with_reducible apply State.setFlag_kept
    | with_reducible apply State.setPair_kept
    | with_reducible apply State.chkLoad_kept

theorem State.unitRun_kept {u : Nat} {bs : List Byte} (hk : Kept σ s) : Kept σ (State.unitRun s u bs) := by
  unfold State.unitRun
  repeat' first
    | with_reducible assumption
    | with_reducible apply State.chkLoad_kept
    | with_reducible apply State.chkFeed_kept

end Sys2Proof.Machine
end

