-- ==== Sys2Proof/Laws/KeptBays.lean ====
section
/-! SUPPORT. What the operations of Machine/Bays.lean keep. -/

namespace Sys2Proof.Machine

variable {σ s : State}

theorem State.setBayState_kept {b : Nat} {st : Nat} (hk : Kept σ s) : Kept σ (State.setBayState s b st) := by
  unfold State.setBayState
  repeat' first
    | with_reducible assumption
    | with_reducible apply State.setFld_kept
    | with_reducible apply State.setFnState_kept

theorem State.showRotation_kept {b : Nat} (hk : Kept σ s) : Kept σ (State.showRotation s b) := by
  unfold State.showRotation
  repeat' first
    | with_reducible assumption
    | with_reducible apply State.setFlag_kept
    | with_reducible apply Kept.ite

theorem State.give_kept {b : Nat} (hk : Kept σ s) : Kept σ (State.give s b) := by
  unfold State.give
  repeat' first
    | with_reducible assumption
    | with_reducible apply State.setBay_kept

theorem State.endApply_kept (hk : Kept σ s) : Kept σ (State.endApply s) := by
  unfold State.endApply
  repeat' first
    | with_reducible assumption
    | intro _
    | with_reducible apply State.setFld_kept
    | with_reducible apply State.setFlag_kept
    | with_reducible apply State.raise_kept
    | with_reducible apply State.finish_kept
    | with_reducible apply Kept.ite
    | simp only [↓Kept.mk_iff]
    | split

theorem State.returnSlices_kept {b : Nat} (hk : Kept σ s) : Kept σ (State.returnSlices s b) := by
  unfold State.returnSlices
  repeat' first
    | with_reducible assumption
    | intro _
    | with_reducible apply Kept.ite
    | simp only [↓Kept.mk_iff]

theorem State.showActive_kept (hk : Kept σ s) : Kept σ (State.showActive s) := by
  unfold State.showActive
  repeat' first
    | with_reducible assumption
    | intro _
    | with_reducible apply State.setFld_kept

theorem State.leaveSlices_kept {b : Nat} (hk : Kept σ s) : Kept σ (State.leaveSlices s b) := by
  unfold State.leaveSlices
  repeat' first
    | with_reducible assumption
    | intro _
    | with_reducible apply State.showActive_kept
    | with_reducible apply Kept.ite
    | simp only [↓Kept.mk_iff]

theorem State.failBay_kept {b : Nat} (hk : Kept σ s) : Kept σ (State.failBay s b) := by
  unfold State.failBay
  repeat' first
    | with_reducible assumption
    | with_reducible apply State.setBay_kept
    | with_reducible apply State.leaveSlices_kept
    | with_reducible apply State.returnSlices_kept
    | with_reducible apply State.setBayState_kept
    | with_reducible apply State.endApply_kept
    | with_reducible apply Kept.ite

theorem State.bayError_kept {b : Nat} {f : Fld} (hk : Kept σ s) : Kept σ (State.bayError s b f) := by
  unfold State.bayError
  repeat' first
    | with_reducible assumption
    | with_reducible apply State.setFlag_kept
    | with_reducible apply State.raise_kept
    | with_reducible apply State.failBay_kept
    | with_reducible apply Kept.ite

theorem onBayFault_kept {b : Fin 16} {lsram : Bool} (hk : Kept σ s) : Kept σ (onBayFault b lsram s) := by
  unfold onBayFault
  repeat' first
    | with_reducible assumption
    | with_reducible apply State.bayError_kept

theorem onBayWatchdog_kept {b : Fin 16} (hk : Kept σ s) : Kept σ (onBayWatchdog b s) := by
  unfold onBayWatchdog
  repeat' first
    | with_reducible assumption
    | with_reducible apply State.bayError_kept
    | with_reducible apply Kept.ite

theorem State.beginLoad_kept {b : Nat} (hk : Kept σ s) : Kept σ (State.beginLoad s b) := by
  unfold State.beginLoad
  repeat' first
    | with_reducible assumption
    | with_reducible apply State.setBayState_kept

theorem State.clearBay_kept {b : Nat} (hk : Kept σ s) : Kept σ (State.clearBay s b) := by
  unfold State.clearBay
  repeat' first
    | with_reducible assumption
    | with_reducible apply State.setWord_kept
    | with_reducible apply State.setFlag_kept
    | with_reducible apply State.setBay_kept
    | with_reducible apply State.returnSlices_kept
    | with_reducible apply State.leaveSlices_kept

theorem State.reloadBay_kept {b : Nat} (hk : Kept σ s) : Kept σ (State.reloadBay s b) := by
  unfold State.reloadBay
  repeat' first
    | with_reducible assumption
    | with_reducible apply State.clearBay_kept
    | with_reducible apply State.beginLoad_kept

theorem State.resetBay_kept {b : Nat} (hk : Kept σ s) : Kept σ (State.resetBay s b) := by
  unfold State.resetBay
  repeat' first
    | with_reducible assumption
    | with_reducible apply State.clearBay_kept
    | with_reducible apply State.setBayState_kept

theorem State.ungateNext_kept (hk : Kept σ s) : Kept σ (State.ungateNext s) := by
  unfold State.ungateNext
  repeat' first
    | with_reducible assumption
    | intro _
    | with_reducible apply State.reloadBay_kept
    | with_reducible apply Kept.ite
    | simp only [↓Kept.mk_iff]
    | split

theorem State.tickBays_kept (hk : Kept σ s) : Kept σ (State.tickBays s) := by
  unfold State.tickBays
  repeat' first
    | with_reducible assumption
    | intro _
    | with_reducible apply State.ungateNext_kept
    | with_reducible apply State.beginLoad_kept
    | with_reducible apply State.endApply_kept
    | with_reducible apply Kept.foldl
    | with_reducible apply Kept.foldl_fst
    | with_reducible apply Kept.ite

theorem State.joinBays_kept (hk : Kept σ s) : Kept σ (State.joinBays s) := by
  unfold State.joinBays
  repeat' first
    | with_reducible assumption
    | intro _
    | with_reducible apply State.setBay_kept
    | with_reducible apply State.setBayState_kept
    | with_reducible apply State.showRotation_kept
    | with_reducible apply State.endApply_kept
    | with_reducible apply Kept.foldl
    | with_reducible apply Kept.foldl_fst
    | with_reducible apply Kept.ite

theorem State.bayFrame_kept (hk : Kept σ s) : Kept σ (State.bayFrame s) := by
  unfold State.bayFrame
  repeat' first
    | with_reducible assumption
    | intro _
    | with_reducible apply State.joinBays_kept
    | with_reducible apply State.setFlag_kept
    | with_reducible apply State.returnSlices_kept
    | with_reducible apply State.setBay_kept
    | with_reducible apply State.showRotation_kept
    | with_reducible apply Kept.foldl
    | with_reducible apply Kept.foldl_fst
    | with_reducible apply Kept.ite

theorem onBayLoadDone_kept {b : Fin 16} {ok : Bool} (hk : Kept σ s) : Kept σ (onBayLoadDone b ok s) := by
  unfold onBayLoadDone
  repeat' first
    | with_reducible assumption
    | intro _
    | with_reducible apply State.reportBad_kept
    | with_reducible apply State.setFlag_kept
    | with_reducible apply State.raise_kept
    | with_reducible apply State.failBay_kept
    | with_reducible apply State.setBay_kept
    | with_reducible apply State.setBayState_kept
    | with_reducible apply State.joinBays_kept
    | with_reducible apply Kept.ite
    | simp only [↓Kept.mk_iff]
    | split

theorem State.gateBays_kept {trim : Bool} (hk : Kept σ s) : Kept σ (State.gateBays s trim) := by
  unfold State.gateBays
  repeat' first
    | with_reducible assumption
    | intro _
    | with_reducible apply State.setBay_kept
    | with_reducible apply State.setBayState_kept
    | with_reducible apply State.endApply_kept
    | with_reducible apply Kept.foldl
    | with_reducible apply Kept.foldl_fst
    | with_reducible apply Kept.ite
    | simp only [↓Kept.mk_iff]

theorem State.usePresent_kept (hk : Kept σ s) : Kept σ (State.usePresent s) := by
  unfold State.usePresent
  repeat' first
    | with_reducible assumption
    | intro _
    | with_reducible apply State.setFnState_kept
    | with_reducible apply Kept.foldl
    | with_reducible apply Kept.foldl_fst
    | with_reducible apply Kept.ite

end Sys2Proof.Machine
end

