-- ==== Sys2Proof/Laws/KeptMem.lean ====
section
/-! SUPPORT. What the operations of Machine/Mem.lean keep. -/

namespace Sys2Proof.Machine

variable {σ s : State}

theorem State.setChannel_kept {pops : List ChannelPop} {used : Nat} {c : Nat} (hk : Kept σ s) : Kept σ (State.setChannel s pops used c) := by
  unfold State.setChannel
  repeat' first
    | with_reducible assumption
    | with_reducible apply State.setFlag_kept
    | with_reducible apply State.setFld_kept
    | split

theorem State.freshTraining_kept (hk : Kept σ s) : Kept σ s.freshTraining :=
  Kept.drawn_le (Nat.le_add_right _ _) rfl rfl hk

theorem onMemTrainingDone_kept {pops : List ChannelPop} (hk : Kept σ s) : Kept σ (onMemTrainingDone pops s) := by
  unfold onMemTrainingDone
  repeat' first
    | with_reducible assumption
    | intro _
    | with_reducible apply State.setChannel_kept
    | with_reducible apply State.setFlag_kept
    | with_reducible apply State.setFld_kept
    | with_reducible apply State.setPair_kept
    | with_reducible apply State.freshTraining_kept
    | with_reducible apply State.raise_kept
    | with_reducible apply Kept.foldl
    | with_reducible apply Kept.foldl_fst
    | with_reducible apply Kept.ite
    | simp only [↓Kept.mk_iff]

theorem onDramRefreshDue_kept {c : Fin 4} {rank : Fin 16} {bank : Fin 4} {panic : Bool} (hk : Kept σ s) : Kept σ (onDramRefreshDue c rank bank panic s) := by
  unfold onDramRefreshDue
  repeat' first
    | with_reducible assumption
    | with_reducible apply Kept.ite
    | simp only [↓Kept.mk_iff]

theorem State.senseChannel_kept {temps : List Nat} {c : Nat} (hk : Kept σ s) : Kept σ (State.senseChannel s temps c) := by
  unfold State.senseChannel
  repeat' first
    | with_reducible assumption
    | intro _
    | with_reducible apply State.setFld_kept
    | with_reducible apply State.setFlag_kept
    | with_reducible apply State.raise_kept
    | with_reducible apply Kept.foldl
    | with_reducible apply Kept.foldl_fst
    | with_reducible apply Kept.ite

theorem onMemSensorRead_kept {temps : List Nat} (hk : Kept σ s) : Kept σ (onMemSensorRead temps s) := by
  unfold onMemSensorRead
  repeat' first
    | with_reducible assumption
    | intro _
    | with_reducible apply State.senseChannel_kept
    | with_reducible apply Kept.foldl
    | with_reducible apply Kept.foldl_fst
    | with_reducible apply Kept.ite
    | simp only [↓Kept.mk_iff]

theorem onNeighbourRefresh_kept {c : Fin 4} (hk : Kept σ s) : Kept σ (onNeighbourRefresh c s) := by
  unfold onNeighbourRefresh
  repeat' first
    | with_reducible assumption
    | with_reducible apply State.draw_kept
    | with_reducible apply State.bump_kept
    | with_reducible apply Kept.ite
    | simp only [↓Kept.mk_iff]

theorem State.retrainRank_kept {r : Nat} (hk : Kept σ s) : Kept σ (State.retrainRank s r) := by
  unfold State.retrainRank
  repeat' first
    | with_reducible assumption
    | with_reducible apply State.bump_kept
    | simp only [↓Kept.mk_iff]

theorem onRankRetrainDue_kept {c : Fin 4} {rank : Fin 16} {panic : Bool} (hk : Kept σ s) : Kept σ (onRankRetrainDue c rank panic s) := by
  unfold onRankRetrainDue
  repeat' first
    | with_reducible assumption
    | with_reducible apply State.raise_kept
    | with_reducible apply State.retrainRank_kept
    | with_reducible apply State.bump_kept
    | with_reducible apply Kept.ite
    | simp only [↓Kept.mk_iff]
    | split

theorem State.memFrame_kept {frame : Nat} (hk : Kept σ s) : Kept σ (State.memFrame s frame) := by
  unfold State.memFrame
  repeat' first
    | with_reducible assumption
    | intro _
    | with_reducible apply State.useDecision_kept
    | with_reducible refine State.useDecision_kept' (he := by assumption) ?_
    | with_reducible apply State.retrainRank_kept
    | with_reducible apply Kept.foldl
    | with_reducible apply Kept.foldl_fst
    | with_reducible apply Kept.ite
    | simp only [↓Kept.mk_iff]
    | split

theorem State.lineErrors_kept {line : Nat} {flips : List BitAt} {port : Nat} (hk : Kept σ s) : Kept σ (State.lineErrors s line flips port) := by
  unfold State.lineErrors
  repeat' first
    | with_reducible assumption
    | intro _
    | with_reducible apply State.memPut_kept
    | with_reducible apply State.bump_kept
    | with_reducible apply State.lineUc_kept
    | with_reducible apply Kept.foldl
    | with_reducible apply Kept.foldl_fst
    | with_reducible apply Kept.ite
    | simp only [↓Kept.mk_iff]

theorem State.markDevice_kept {k : Nat} (hk : Kept σ s) : Kept σ (State.markDevice s k) := by
  unfold State.markDevice
  repeat' first
    | with_reducible assumption
    | with_reducible apply State.setFlag_kept
    | with_reducible apply State.setFld_kept
    | with_reducible apply State.raise_kept
    | with_reducible apply Kept.ite

theorem onCeHourBoundary_kept (hk : Kept σ s) : Kept σ (onCeHourBoundary s) := by
  unfold onCeHourBoundary
  repeat' first
    | with_reducible assumption
    | intro _
    | with_reducible apply State.markDevice_kept
    | with_reducible apply Kept.foldl
    | with_reducible apply Kept.foldl_fst
    | with_reducible apply Kept.ite
    | simp only [↓Kept.mk_iff]

theorem onMemPatrolScrub_kept {line : Nat} {flips : List BitAt} (hk : Kept σ s) : Kept σ (onMemPatrolScrub line flips s) := by
  unfold onMemPatrolScrub
  repeat' first
    | with_reducible assumption
    | with_reducible apply State.lineUc_kept
    | with_reducible apply State.lineErrors_kept
    | with_reducible apply Kept.ite

theorem onMemRequestTimeout_kept {port : Fin 8} {line : Nat} {write : Bool} (hk : Kept σ s) : Kept σ (onMemRequestTimeout port line write s) := by
  unfold onMemRequestTimeout
  repeat' first
    | with_reducible assumption
    | with_reducible apply State.bump_kept
    | with_reducible apply State.lineUc_kept
    | with_reducible apply Kept.ite
    | simp only [↓Kept.mk_iff]

theorem onCmdMemWrite_kept {q : Fin 24} {tag : Nat} (hk : Kept σ s) : Kept σ (onCmdMemWrite q tag s) := by
  unfold onCmdMemWrite
  repeat' first
    | with_reducible assumption
    | with_reducible apply State.finish_kept
    | with_reducible apply State.extWrite_kept
    | split

theorem State.memFill_kept {c : Cmd} {n : Nat} (hk : Kept σ s) : Kept σ (State.memFill s c n) := by
  unfold State.memFill
  repeat' first
    | with_reducible assumption
    | with_reducible apply State.portWrite_kept

theorem onCmdMemRead_kept {q : Fin 24} {tag : Nat} {errs : List (Nat × List BitAt)} (hk : Kept σ s) : Kept σ (onCmdMemRead q tag errs s) := by
  unfold onCmdMemRead
  repeat' first
    | with_reducible assumption
    | intro _
    | with_reducible apply State.finish_kept
    | with_reducible apply State.lineUc_kept
    | with_reducible apply State.lineErrors_kept
    | with_reducible apply State.memFill_kept
    | with_reducible apply Kept.foldl
    | with_reducible apply Kept.foldl_fst
    | split
    | dsimp only

theorem State.memStop_kept {c : Cmd} {n : Nat} (hk : Kept σ s) : Kept σ (State.memStop s c n) := by
  unfold State.memStop
  repeat' first
    | with_reducible assumption
    | with_reducible apply State.extWrite_kept
    | with_reducible apply State.memFill_kept
    | with_reducible apply State.finish_kept
    | with_reducible apply Kept.ite

theorem onDeckScrub_kept {word : Nat} {err : Fin 3} (hk : Kept σ s) : Kept σ (onDeckScrub word err s) := by
  unfold onDeckScrub
  repeat' first
    | with_reducible assumption
    | with_reducible apply State.deckUc_kept
    | with_reducible apply State.bump_kept
    | with_reducible apply Kept.ite
    | simp only [↓Kept.mk_iff]

theorem State.deckFrame_kept {frame : Nat} (hk : Kept σ s) : Kept σ (State.deckFrame s frame) := by
  unfold State.deckFrame
  repeat' first
    | with_reducible assumption
    | with_reducible apply State.useDecision_kept
    | with_reducible refine State.useDecision_kept' (he := by assumption) ?_
    | with_reducible apply Kept.ite

theorem State.memReset_kept (hk : Kept σ s) : Kept σ (State.memReset s) := by
  unfold State.memReset
  repeat' first
    | with_reducible assumption
    | with_reducible apply State.freshTraining_kept
    | with_reducible apply Kept.ite
    | simp only [↓Kept.mk_iff]

theorem State.deckReset_kept (hk : Kept σ s) : Kept σ (State.deckReset s) := by
  unfold State.deckReset
  repeat' first
    | with_reducible assumption
    | with_reducible apply State.setFld_kept
    | with_reducible apply State.setWord_kept

end Sys2Proof.Machine
end

