-- ==== Sys2Proof/Laws/KeptChk.lean ====
section
/-! SUPPORT. What the operations of Machine/Chk.lean keep. -/

namespace Sys2Proof.Machine

variable {σ s : State}

theorem State.chkTrim_kept {u : Nat} (hk : Kept σ s) : Kept σ (State.chkTrim s u) := by
  unfold State.chkTrim
  repeat' first
    | with_reducible assumption
    | with_reducible apply State.setPair_kept

theorem State.chkGuard_kept {u : Nat} {act : State → State} (hfact : ∀ x0, Kept σ x0 → Kept σ (act x0)) (hk : Kept σ s) : Kept σ (State.chkGuard s u act) := by
  unfold State.chkGuard
  repeat' first
    | with_reducible assumption
    | with_reducible apply State.setFlag_kept
    | with_reducible apply Kept.ite
    | apply hfact

theorem State.writeChkCfg_kept {u : Nat} {v : Nat} (hk : Kept σ s) : Kept σ (State.writeChkCfg s u v) := by
  unfold State.writeChkCfg
  repeat' first
    | with_reducible assumption
    | intro _
    | with_reducible apply State.chkGuard_kept
    | with_reducible apply State.chkPreset_kept
    | with_reducible apply State.setFld_kept
    | with_reducible apply State.chkTrim_kept
    | with_reducible apply Kept.ite
    | split

theorem State.writeChkPair_kept {r : PairReg} {u : Nat} {v : Nat} (hk : Kept σ s) : Kept σ (State.writeChkPair s r u v) := by
  unfold State.writeChkPair
  repeat' first
    | with_reducible assumption
    | intro _
    | with_reducible apply State.chkGuard_kept
    | with_reducible apply State.setPair_kept

theorem State.writeChkFeed_kept {u : Nat} {v : Nat} (hk : Kept σ s) : Kept σ (State.writeChkFeed s u v) := by
  unfold State.writeChkFeed
  repeat' first
    | with_reducible assumption
    | intro _
    | with_reducible apply State.chkGuard_kept
    | with_reducible apply State.chkFeed_kept

theorem State.writeChkFeed1_kept {u : Nat} {v : Nat} (hk : Kept σ s) : Kept σ (State.writeChkFeed1 s u v) := by
  unfold State.writeChkFeed1
  repeat' first
    | with_reducible assumption
    | intro _
    | with_reducible apply State.chkGuard_kept
    | with_reducible apply State.chkFeed_kept

theorem State.writeChkCtrl_kept {u : Nat} {v : Nat} (hk : Kept σ s) : Kept σ (State.writeChkCtrl s u v) := by
  unfold State.writeChkCtrl
  repeat' first
    | with_reducible assumption
    | intro _
    | with_reducible apply State.chkGuard_kept
    | with_reducible apply State.chkLoad_kept
    | with_reducible apply Kept.ite

theorem State.chkWrite_kept {r : ChkRun} {bs : List Byte} (hk : Kept σ s) : Kept σ (State.chkWrite s r bs) := by
  unfold State.chkWrite
  repeat' first
    | with_reducible assumption
    | with_reducible apply State.deckWrite_kept
    | with_reducible apply State.extWrite_kept
    | split

theorem State.chkProceed_kept {c : Cmd} {r : ChkRun} {k : Nat} (hk : Kept σ s) : Kept σ (State.chkProceed s c r k) := by
  unfold State.chkProceed
  repeat' first
    | with_reducible assumption
    | with_reducible apply State.chkLoad_kept
    | with_reducible apply State.chkFeed_kept
    | with_reducible apply State.chkWrite_kept
    | with_reducible apply Kept.ite

theorem State.chkEnd_kept {c : Cmd} {r : ChkRun} {fed : Nat} {st : Nat} {addr : Nat} (hk : Kept σ s) : Kept σ (State.chkEnd s c r fed st addr) := by
  unfold State.chkEnd
  repeat' first
    | with_reducible assumption
    | with_reducible apply State.setFlag_kept
    | with_reducible apply State.finish_kept

theorem State.chkRun_kept {q : Nat} {tag : Nat} {op : Nat} (hk : Kept σ s) : Kept σ (State.chkRun s q tag op) := by
  unfold State.chkRun
  repeat' first
    | with_reducible assumption
    | with_reducible apply State.finish_kept
    | with_reducible apply State.setFlag_kept
    | with_reducible apply State.chkProceed_kept
    | with_reducible apply State.deckUc_kept
    | with_reducible apply State.lineUc_kept
    | with_reducible apply State.chkEnd_kept
    | with_reducible apply Kept.ite
    | split

theorem onChkRunCompute_kept {q : Fin 24} {tag : Nat} (hk : Kept σ s) : Kept σ (onChkRunCompute q tag s) := by
  unfold onChkRunCompute
  repeat' first
    | with_reducible assumption
    | with_reducible apply State.chkRun_kept

theorem onChkRunAppend_kept {q : Fin 24} {tag : Nat} (hk : Kept σ s) : Kept σ (onChkRunAppend q tag s) := by
  unfold onChkRunAppend
  repeat' first
    | with_reducible assumption
    | with_reducible apply State.chkRun_kept

theorem onChkRunCheck_kept {q : Fin 24} {tag : Nat} (hk : Kept σ s) : Kept σ (onChkRunCheck q tag s) := by
  unfold onChkRunCheck
  repeat' first
    | with_reducible assumption
    | with_reducible apply State.chkRun_kept

theorem onChkRunCheckStrip_kept {q : Fin 24} {tag : Nat} (hk : Kept σ s) : Kept σ (onChkRunCheckStrip q tag s) := by
  unfold onChkRunCheckStrip
  repeat' first
    | with_reducible assumption
    | with_reducible apply State.chkRun_kept

theorem State.chkAbort_kept {c : Cmd} {n : Nat} (hk : Kept σ s) : Kept σ (State.chkAbort s c n) := by
  unfold State.chkAbort
  repeat' first
    | with_reducible assumption
    | intro _
    | with_reducible apply State.chkProceed_kept
    | with_reducible apply State.chkEnd_kept
    | with_reducible apply Kept.ite

theorem State.chkStart_kept {c : Cmd} (hk : Kept σ s) : Kept σ (State.chkStart s c) := by
  unfold State.chkStart
  repeat' first
    | with_reducible assumption
    | with_reducible apply State.setFlag_kept
    | with_reducible apply Kept.ite

theorem State.chkReset_kept (hk : Kept σ s) : Kept σ (State.chkReset s) := by
  unfold State.chkReset
  repeat' first
    | with_reducible assumption
    | intro _
    | with_reducible apply State.setWord_kept
    | with_reducible apply Kept.foldl

end Sys2Proof.Machine
end

