-- ==== Sys2Proof/Laws/KeptCfg.lean ====
section
/-! SUPPORT. What the operations of Machine/Cfg.lean keep. -/

namespace Sys2Proof.Machine

variable {σ s : State}

theorem State.cfgErr_kept {st : Nat} (hk : Kept σ s) : Kept σ (State.cfgErr s st) := by
  unfold State.cfgErr
  repeat' first
    | with_reducible assumption
    | with_reducible apply State.setFld_kept

theorem State.cfgFinish_kept {c : Cmd} {st : Nat} {res : List Byte} (hk : Kept σ s) : Kept σ (State.cfgFinish s c st res) := by
  unfold State.cfgFinish
  repeat' first
    | with_reducible assumption
    | with_reducible apply State.cfgErr_kept
    | with_reducible apply State.finish_kept
    | with_reducible apply Kept.ite

theorem State.putStage_kept {off : Nat} {bs : List Byte} (hk : Kept σ s) : Kept σ (State.putStage s off bs) := by
  unfold State.putStage
  repeat' first
    | with_reducible assumption
    | with_reducible apply State.spaceWrite_kept
    | with_reducible apply State.setFld_kept

theorem State.feedTrailer_kept {bs : List Byte} (hk : Kept σ s) : Kept σ (State.feedTrailer s bs) := by
  unfold State.feedTrailer
  repeat' first
    | with_reducible assumption
    | with_reducible apply State.unitRun_kept

theorem onCmdCfgStage_kept {q : Fin 24} {tag : Nat} (hk : Kept σ s) : Kept σ (onCmdCfgStage q tag s) := by
  unfold onCmdCfgStage
  repeat' first
    | with_reducible assumption
    | with_reducible apply State.cfgFinish_kept
    | with_reducible apply State.putStage_kept
    | with_reducible apply State.setFld_kept
    | with_reducible apply State.setFlag_kept
    | with_reducible apply State.feedTrailer_kept
    | with_reducible apply Kept.ite
    | simp only [↓Kept.mk_iff]
    | split

theorem State.stageSlot_kept {i : Nat} (hk : Kept σ s) : Kept σ (State.stageSlot s i).1 := by
  unfold State.stageSlot
  repeat' first
    | with_reducible assumption
    | with_reducible apply State.putStage_kept
    | with_reducible apply State.setFlag_kept
    | with_reducible apply State.feedTrailer_kept
    | with_reducible apply State.setFld_kept
    | with_reducible apply Kept.ite
    | simp only [↓Kept.mk_iff]
    | split

theorem State.stageSlot_kept' {i : Nat} {τ : State} {x0} (he : State.stageSlot s i = (τ, x0)) (hk : Kept σ s) : Kept σ τ := by
  have := State.stageSlot_kept (hk := hk) (i := i)
  rwa [he] at this

theorem onCmdCfgStageFlash_kept {q : Fin 24} {tag : Nat} (hk : Kept σ s) : Kept σ (onCmdCfgStageFlash q tag s) := by
  unfold onCmdCfgStageFlash
  repeat' first
    | with_reducible assumption
    | with_reducible apply State.cfgFinish_kept
    | with_reducible apply State.stageSlot_kept
    | with_reducible refine State.stageSlot_kept' (he := by assumption) ?_
    | with_reducible apply Kept.ite
    | split

theorem State.runVerify_kept (hk : Kept σ s) : Kept σ (State.runVerify s).1 := by
  unfold State.runVerify
  repeat' first
    | with_reducible assumption
    | with_reducible apply State.setFld_kept
    | with_reducible apply State.draw_kept
    | with_reducible apply State.raise_kept
    | with_reducible apply Kept.ite
    | split

theorem State.runVerify_kept' {τ : State} {x0 x1} (he : State.runVerify s = (τ, x0, x1)) (hk : Kept σ s) : Kept σ τ := by
  have := State.runVerify_kept (hk := hk)
  rwa [he] at this

theorem State.rejectStage_kept {st : Nat} (hk : Kept σ s) : Kept σ (State.rejectStage s st) := by
  unfold State.rejectStage
  repeat' first
    | with_reducible assumption
    | with_reducible apply State.cfgErr_kept
    | with_reducible apply State.draw_kept
    | with_reducible apply State.raise_kept

theorem State.beginVerify_kept {c : Cmd} (hk : Kept σ s) : Kept σ (State.beginVerify s c) := by
  unfold State.beginVerify
  repeat' first
    | with_reducible assumption
    | intro _
    | with_reducible apply State.setFld_kept
    | with_reducible apply Kept.ite
    | simp only [↓Kept.mk_iff]

theorem onCmdCfgVerify_kept {q : Fin 24} {tag : Nat} (hk : Kept σ s) : Kept σ (onCmdCfgVerify q tag s) := by
  unfold onCmdCfgVerify
  repeat' first
    | with_reducible assumption
    | intro _
    | with_reducible apply State.beginVerify_kept
    | with_reducible apply State.cfgFinish_kept
    | with_reducible apply State.runVerify_kept
    | with_reducible refine State.runVerify_kept' (he := by assumption) ?_
    | with_reducible apply Kept.ite
    | simp only [↓Kept.mk_iff]
    | split

theorem onCmdCfgApply_kept {q : Fin 24} {tag : Nat} (hk : Kept σ s) : Kept σ (onCmdCfgApply q tag s) := by
  unfold onCmdCfgApply
  repeat' first
    | with_reducible assumption
    | intro _
    | with_reducible apply State.cfgFinish_kept
    | with_reducible apply State.run_kept
    | with_reducible apply State.setFld_kept
    | with_reducible apply Kept.ite
    | simp only [↓Kept.mk_iff]
    | split

theorem onCmdCfgSvnRaise_kept {q : Fin 24} {tag : Nat} (hk : Kept σ s) : Kept σ (onCmdCfgSvnRaise q tag s) := by
  unfold onCmdCfgSvnRaise
  split
  · exact hk
  · dsimp only
    split
    · exact State.cfgFinish_kept hk
    · rename_i h
      exact State.cfgFinish_kept (Kept.fuseSvn (by simp only [not_or, Nat.not_lt] at h; exact h.1) (State.setFld_kept hk))

theorem onCfgAutoload_kept (hk : Kept σ s) : Kept σ (onCfgAutoload s) := by
  unfold onCfgAutoload
  repeat' first
    | with_reducible assumption
    | with_reducible apply State.stageSlot_kept
    | with_reducible refine State.stageSlot_kept' (he := by assumption) ?_
    | with_reducible apply State.rejectStage_kept
    | with_reducible apply State.runVerify_kept
    | with_reducible refine State.runVerify_kept' (he := by assumption) ?_
    | with_reducible apply State.cfgErr_kept
    | with_reducible apply State.setFld_kept
    | with_reducible apply Kept.ite
    | simp only [↓Kept.mk_iff]

theorem State.stageStop_kept {c : Cmd} {n : Nat} (hk : Kept σ s) : Kept σ (State.stageStop s c n) := by
  unfold State.stageStop
  repeat' first
    | with_reducible assumption
    | with_reducible apply State.putStage_kept
    | with_reducible apply State.setFld_kept
    | with_reducible apply State.setFlag_kept
    | with_reducible apply State.cfgFinish_kept
    | with_reducible apply Kept.ite
    | simp only [↓Kept.mk_iff]

theorem State.stageFlashStop_kept {c : Cmd} {n : Nat} (hk : Kept σ s) : Kept σ (State.stageFlashStop s c n) := by
  unfold State.stageFlashStop
  repeat' first
    | with_reducible assumption
    | with_reducible apply State.setFld_kept
    | with_reducible apply State.setFlag_kept
    | with_reducible apply State.cfgFinish_kept
    | with_reducible apply Kept.ite

theorem State.verifyStop_kept {c : Cmd} {n : Nat} (hk : Kept σ s) : Kept σ (State.verifyStop s c n) := by
  unfold State.verifyStop
  repeat' first
    | with_reducible assumption
    | intro _
    | with_reducible apply State.cfgFinish_kept
    | with_reducible apply State.setFld_kept
    | with_reducible apply Kept.ite
    | simp only [↓Kept.mk_iff]

theorem State.applyStop_kept {c : Cmd} (hk : Kept σ s) : Kept σ (State.applyStop s c) := by
  unfold State.applyStop
  repeat' first
    | with_reducible assumption
    | with_reducible apply State.finish_kept
    | with_reducible apply State.setFld_kept
    | with_reducible apply Kept.ite
    | simp only [↓Kept.mk_iff]

end Sys2Proof.Machine
end

