-- ==== Sys2Proof/Laws/KeptCor.lean ====
section
/-! SUPPORT. What the operations of Machine/Cor.lean keep. -/

namespace Sys2Proof.Machine

variable {σ s : State}

theorem State.putGrey_kept {i : Nat} {grey : Nat} (hk : Kept σ s) : Kept σ (State.putGrey s i grey) := by
  unfold State.putGrey
  repeat' first
    | with_reducible assumption
    | with_reducible apply State.memPut_kept

theorem State.bayReports_kept {bay : Nat} {words : List Nat} (hk : Kept σ s) : Kept σ (State.bayReports s bay words) := by
  unfold State.bayReports
  repeat' first
    | with_reducible assumption
    | intro _
    | with_reducible apply State.deckUc_kept
    | with_reducible apply Kept.foldl

theorem State.correctBand_kept {bay : Nat} {k : Nat} {w : Nat} {h : Nat} {pixel : Nat → Nat → Nat} (hk : Kept σ s) : Kept σ (State.correctBand s bay k w h pixel) := by
  unfold State.correctBand
  repeat' first
    | with_reducible assumption
    | intro _
    | with_reducible apply State.memZero_kept
    | with_reducible apply State.putGrey_kept
    | with_reducible apply State.bayReports_kept
    | with_reducible apply State.bump_kept
    | with_reducible apply Kept.foldl
    | with_reducible apply Kept.foldl_fst
    | with_reducible apply Kept.ite

theorem State.closeCor_kept (hk : Kept σ s) : Kept σ (State.closeCor s) := by
  unfold State.closeCor
  repeat' first
    | with_reducible assumption
    | simp only [↓Kept.mk_iff]

theorem State.fixBrightness_kept {f : Nat} (hk : Kept σ s) : Kept σ (State.fixBrightness s f) := by
  unfold State.fixBrightness
  repeat' first
    | with_reducible assumption
    | with_reducible apply State.useDecision_kept
    | with_reducible refine State.useDecision_kept' (he := by assumption) ?_
    | with_reducible apply State.setFld_kept
    | with_reducible apply Kept.ite
    | split

theorem State.showPatches_kept (hk : Kept σ s) : Kept σ (State.showPatches s) := by
  unfold State.showPatches
  repeat' first
    | with_reducible assumption
    | with_reducible apply State.setFld_kept

theorem State.applyPatches_kept (hk : Kept σ s) : Kept σ (State.applyPatches s) := by
  unfold State.applyPatches
  repeat' first
    | with_reducible assumption
    | intro _
    | with_reducible apply State.deckWrite_kept
    | with_reducible apply State.finish_kept
    | with_reducible apply State.showPatches_kept
    | with_reducible apply Kept.foldl
    | with_reducible apply Kept.foldl_fst
    | simp only [↓Kept.mk_iff]
    | split

theorem State.fixCorrection_kept {f : Nat} {removed : List Nat} {ds : List Nat} (hk : Kept σ s) : Kept σ (State.fixCorrection s f removed ds) := by
  unfold State.fixCorrection
  repeat' first
    | with_reducible assumption
    | intro _
    | with_reducible apply State.fixBrightness_kept
    | with_reducible apply State.setFld_kept
    | with_reducible apply Kept.foldl
    | with_reducible apply Kept.foldl_fst
    | simp only [↓Kept.mk_iff]

theorem State.recountOutside_kept {canvas : Option (Nat × Nat)} {gen : Nat} (hk : Kept σ s) : Kept σ (State.recountOutside s canvas gen) := by
  unfold State.recountOutside
  repeat' first
    | with_reducible assumption
    | intro _
    | with_reducible apply State.setFld_kept
    | with_reducible apply State.raise_kept
    | with_reducible apply Kept.ite
    | simp only [↓Kept.mk_iff]

theorem State.unconfirmBands_kept (hk : Kept σ s) : Kept σ (State.unconfirmBands s) := by
  unfold State.unconfirmBands
  repeat' first
    | with_reducible assumption
    | simp only [↓Kept.mk_iff]

theorem State.completeImage_kept {j : Nat} (hk : Kept σ s) : Kept σ (State.completeImage s j) := by
  unfold State.completeImage
  repeat' first
    | with_reducible assumption
    | intro _
    | with_reducible apply State.setFlag_kept
    | with_reducible apply State.memPut_kept
    | with_reducible apply State.setFld_kept
    | with_reducible apply State.raise_kept
    | with_reducible apply State.unconfirmBands_kept
    | with_reducible apply Kept.ite
    | simp only [↓Kept.mk_iff]

theorem State.discardPatches_kept {j : Nat} (hk : Kept σ s) : Kept σ (State.discardPatches s j) := by
  unfold State.discardPatches
  repeat' first
    | with_reducible assumption
    | intro _
    | with_reducible apply State.finish_kept
    | with_reducible apply State.showPatches_kept
    | with_reducible apply Kept.foldl
    | with_reducible apply Kept.foldl_fst
    | simp only [↓Kept.mk_iff]
    | split

theorem State.writeChunk_kept {j : Nat} {off : Nat} {bs : List Byte} {first : Bool} (hk : Kept σ s) : Kept σ (State.writeChunk s j off bs first) := by
  unfold State.writeChunk
  repeat' first
    | with_reducible assumption
    | with_reducible apply State.setFlag_kept
    | with_reducible apply State.discardPatches_kept
    | with_reducible apply State.deckWrite_kept
    | with_reducible apply State.setFld_kept
    | with_reducible apply Kept.ite
    | simp only [↓Kept.mk_iff]

theorem onCmdCorLoad_kept {q : Fin 24} {tag : Nat} (hk : Kept σ s) : Kept σ (onCmdCorLoad q tag s) := by
  unfold onCmdCorLoad
  repeat' first
    | with_reducible assumption
    | intro _
    | with_reducible apply State.writeChunk_kept
    | with_reducible apply State.run_kept
    | with_reducible apply State.setFlag_kept
    | with_reducible apply State.finish_kept
    | with_reducible apply Kept.ite
    | simp only [↓Kept.mk_iff]
    | split

theorem onCorImageComplete_kept (hk : Kept σ s) : Kept σ (onCorImageComplete s) := by
  unfold onCorImageComplete
  repeat' first
    | with_reducible assumption
    | intro _
    | with_reducible apply State.unitRun_kept
    | with_reducible apply State.setFlag_kept
    | with_reducible apply State.finish_kept
    | with_reducible apply State.completeImage_kept
    | with_reducible apply Kept.ite
    | simp only [↓Kept.mk_iff]
    | split

theorem onCmdCorPatch_kept {q : Fin 24} {tag : Nat} (hk : Kept σ s) : Kept σ (onCmdCorPatch q tag s) := by
  unfold onCmdCorPatch
  repeat' first
    | with_reducible assumption
    | intro _
    | with_reducible apply State.finish_kept
    | with_reducible apply State.showPatches_kept
    | with_reducible apply State.run_kept
    | with_reducible apply Kept.ite
    | simp only [↓Kept.mk_iff]
    | split

theorem State.corStop_kept {c : Cmd} {n : Nat} (hk : Kept σ s) : Kept σ (State.corStop s c n) := by
  unfold State.corStop
  repeat' first
    | with_reducible assumption
    | intro _
    | with_reducible apply State.showPatches_kept
    | with_reducible apply State.finish_kept
    | with_reducible apply State.writeChunk_kept
    | with_reducible apply State.setFlag_kept
    | with_reducible apply Kept.ite
    | simp only [↓Kept.mk_iff]

theorem State.corReset_kept (hk : Kept σ s) : Kept σ (State.corReset s) := by
  unfold State.corReset
  repeat' first
    | with_reducible assumption
    | with_reducible apply State.showPatches_kept
    | with_reducible apply State.unconfirmBands_kept
    | with_reducible apply State.setFlag_kept
    | simp only [↓Kept.mk_iff]

end Sys2Proof.Machine
end

