-- ==== Sys2Proof/Laws/KeptViaduct.lean ====
section
/-! SUPPORT. What the operations of Machine/Viaduct.lean keep. -/

namespace Sys2Proof.Machine

variable {σ s : State}

theorem State.takeMsg_kept {typ k : Nat} {m : Msg} {t : State} (he : s.takeMsg typ = some (k, m, t)) (hk : Kept σ s) : Kept σ t := by
  unfold State.takeMsg at he
  split at he
  · cases he; simpa only [↓Kept.mk_iff] using hk
  · cases he

theorem State.putRoute_kept {a w : Nat} (hk : Kept σ s) : Kept σ (s.putRoute a w) := by
  unfold State.putRoute
  split
  · exact hk
  · exact State.setWord_kept hk

theorem State.putRoutes_kept {a : Nat} {ws : List Nat} (hk : Kept σ s) : Kept σ (s.putRoutes a ws) := by
  induction ws generalizing s a with
  | nil => exact hk
  | cons w ws ih => exact ih (State.putRoute_kept hk)

theorem State.onMsg_kept {typ : Nat} {f : Nat → Msg → State → State} (hff : ∀ x0 x1 x2, Kept σ x2 → Kept σ (f x0 x1 x2)) (hk : Kept σ s) : Kept σ (State.onMsg s typ f) := by
  unfold State.onMsg
  repeat' first
    | with_reducible assumption
    | with_reducible refine State.takeMsg_kept (he := by assumption) ?_
    | with_reducible apply Kept.ite
    | apply hff
    | split

theorem State.linksChanged_kept (hk : Kept σ s) : Kept σ (State.linksChanged s) := by
  unfold State.linksChanged
  repeat' first
    | with_reducible assumption
    | with_reducible apply State.sendMsg_kept
    | with_reducible apply Kept.ite
    | simp only [↓Kept.mk_iff]

theorem State.probeOn_kept {k : Nat} (hk : Kept σ s) : Kept σ (State.probeOn s k) := by
  unfold State.probeOn
  repeat' first
    | with_reducible assumption
    | with_reducible apply State.setFlag_kept
    | with_reducible apply State.raise_kept
    | with_reducible apply State.sendMsg_kept
    | with_reducible apply Kept.ite
    | simp only [↓Kept.mk_iff]

theorem State.probeAll_kept (hk : Kept σ s) : Kept σ (State.probeAll s) := by
  unfold State.probeAll
  repeat' first
    | with_reducible assumption
    | intro _
    | with_reducible apply State.probeOn_kept
    | with_reducible apply Kept.foldl

theorem State.countNodes_kept (hk : Kept σ s) : Kept σ (State.countNodes s) := by
  unfold State.countNodes
  repeat' first
    | with_reducible assumption
    | intro _
    | with_reducible apply State.setFld_kept

theorem State.addrChanged_kept (hk : Kept σ s) : Kept σ (State.addrChanged s) := by
  unfold State.addrChanged
  repeat' first
    | with_reducible assumption
    | simp only [↓Kept.mk_iff]

theorem State.takeAddr_kept {a : Nat} (hk : Kept σ s) : Kept σ (State.takeAddr s a) := by
  unfold State.takeAddr
  repeat' first
    | with_reducible assumption
    | with_reducible apply State.setFld_kept
    | with_reducible apply State.addrChanged_kept
    | with_reducible apply Kept.ite

theorem State.startDiscovery_kept (hk : Kept σ s) : Kept σ (State.startDiscovery s) := by
  unfold State.startDiscovery
  repeat' first
    | with_reducible assumption
    | intro _
    | with_reducible apply State.takeAddr_kept
    | with_reducible apply State.setFld_kept
    | with_reducible apply State.probeAll_kept
    | with_reducible apply State.countNodes_kept
    | with_reducible apply Kept.ite
    | simp only [↓Kept.mk_iff]

theorem State.viaPortUp_kept {k : Nat} (hk : Kept σ s) : Kept σ (State.viaPortUp s k) := by
  unfold State.viaPortUp
  repeat' first
    | with_reducible assumption
    | with_reducible apply State.linksChanged_kept
    | with_reducible apply State.startDiscovery_kept
    | with_reducible apply State.probeOn_kept
    | with_reducible apply Kept.ite
    | simp only [↓Kept.mk_iff]

theorem State.viaResume_kept (hk : Kept σ s) : Kept σ (State.viaResume s) := by
  unfold State.viaResume
  repeat' first
    | with_reducible assumption
    | intro _
    | with_reducible apply State.startDiscovery_kept
    | with_reducible apply State.probeOn_kept
    | with_reducible apply State.linksChanged_kept
    | with_reducible apply Kept.foldl
    | with_reducible apply Kept.foldl_fst
    | with_reducible apply Kept.ite
    | simp only [↓Kept.mk_iff]

theorem onSubscribeSend_kept {k : Fin 16} (hk : Kept σ s) : Kept σ (onSubscribeSend k s) := by
  unfold onSubscribeSend
  repeat' first
    | with_reducible assumption
    | with_reducible apply State.sendMsg_kept
    | with_reducible apply Kept.ite
    | simp only [↓Kept.mk_iff]

theorem onSubscribe_kept (hk : Kept σ s) : Kept σ (onSubscribe s) := by
  unfold onSubscribe
  repeat' first
    | with_reducible assumption
    | with_reducible refine State.takeMsg_kept (he := by assumption) ?_
    | with_reducible apply Kept.ite
    | simp only [↓Kept.mk_iff]
    | split

theorem State.nextPending_kept {dst : Nat} {vc : Nat} (hk : Kept σ s) : Kept σ (State.nextPending s dst vc) := by
  unfold State.nextPending
  repeat' first
    | with_reducible assumption
    | intro _
    | with_reducible apply State.relaunch_kept
    | with_reducible apply Kept.ite
    | simp only [↓Kept.mk_iff]
    | split

theorem State.yieldMaster_kept (hk : Kept σ s) : Kept σ (State.yieldMaster s) := by
  unfold State.yieldMaster
  repeat' first
    | with_reducible assumption
    | intro _
    | with_reducible apply State.setFlag_kept
    | with_reducible apply State.setFld_kept
    | with_reducible apply State.finish_kept
    | with_reducible apply Kept.foldl
    | with_reducible apply Kept.foldl_fst
    | with_reducible apply Kept.ite
    | simp only [↓Kept.mk_iff]

theorem onProbe_kept (hk : Kept σ s) : Kept σ (onProbe s) := by
  unfold onProbe
  repeat' first
    | with_reducible assumption
    | intro _
    | with_reducible apply State.onMsg_kept
    | with_reducible apply State.raise_kept
    | with_reducible apply State.yieldMaster_kept
    | with_reducible apply State.sendMsg_kept
    | with_reducible apply State.setFld_kept
    | with_reducible apply Kept.ite
    | simp only [↓Kept.mk_iff]

theorem State.sendAssign_kept {serial : Nat} {addr : Nat} {proxy : Nat} {port : Nat} {q : Option Msg} (hk : Kept σ s) : Kept σ (State.sendAssign s serial addr proxy port q) := by
  unfold State.sendAssign
  repeat' first
    | with_reducible assumption
    | with_reducible apply State.holdAnswer_kept
    | with_reducible apply State.sendMsg_kept
    | with_reducible apply Kept.ite
    | split

theorem State.putNode_kept {n : NodeSt} (hk : Kept σ s) : Kept σ (State.putNode s n) := by
  unfold State.putNode
  repeat' first
    | with_reducible assumption
    | intro _
    | simp only [↓Kept.mk_iff]

theorem State.masterAnnounce_kept {q : Msg} {port : Nat} {proxy : Nat} (hk : Kept σ s) : Kept σ (State.masterAnnounce s q port proxy) := by
  unfold State.masterAnnounce
  repeat' first
    | with_reducible assumption
    | intro _
    | with_reducible apply State.putNode_kept
    | with_reducible apply State.raise_kept
    | with_reducible apply State.countNodes_kept
    | with_reducible apply State.sendAssign_kept
    | with_reducible apply Kept.ite
    | simp only [↓Kept.mk_iff]

theorem onAnnounce_kept (hk : Kept σ s) : Kept σ (onAnnounce s) := by
  unfold onAnnounce
  repeat' first
    | with_reducible assumption
    | intro _
    | with_reducible apply State.onMsg_kept
    | with_reducible apply State.masterAnnounce_kept
    | with_reducible apply State.sendMsg_kept
    | with_reducible apply Kept.ite

theorem onAssign_kept (hk : Kept σ s) : Kept σ (onAssign s) := by
  unfold onAssign
  repeat' first
    | with_reducible assumption
    | intro _
    | with_reducible apply State.onMsg_kept
    | with_reducible apply State.nextPending_kept
    | with_reducible apply State.takeAddr_kept
    | with_reducible apply State.setFld_kept
    | with_reducible apply State.sendMsg_kept
    | with_reducible apply State.probeAll_kept
    | with_reducible apply State.linksChanged_kept
    | with_reducible apply Kept.foldl
    | with_reducible apply Kept.foldl_fst
    | with_reducible apply Kept.ite
    | simp only [↓Kept.mk_iff]

theorem onHello_kept (hk : Kept σ s) : Kept σ (onHello s) := by
  unfold onHello
  repeat' first
    | with_reducible assumption
    | intro _
    | with_reducible apply State.onMsg_kept
    | with_reducible apply State.setFld_kept
    | with_reducible apply State.linksChanged_kept
    | with_reducible apply Kept.ite

theorem onLinks_kept (hk : Kept σ s) : Kept σ (onLinks s) := by
  unfold onLinks
  repeat' first
    | with_reducible assumption
    | intro _
    | with_reducible apply State.onMsg_kept
    | with_reducible apply State.respond_kept
    | with_reducible apply State.raise_kept
    | with_reducible apply Kept.ite
    | simp only [↓Kept.mk_iff]

theorem onRoutes_kept (hk : Kept σ s) : Kept σ (onRoutes s) := by
  unfold onRoutes
  repeat' first
    | with_reducible assumption
    | intro _
    | with_reducible apply State.onMsg_kept
    | with_reducible apply State.respond_kept
    | with_reducible apply State.putRoutes_kept
    | with_reducible apply State.setFld_kept
    | with_reducible apply Kept.ite

theorem State.loseNodes_kept (hk : Kept σ s) : Kept σ (State.loseNodes s) := by
  unfold State.loseNodes
  repeat' first
    | with_reducible assumption
    | intro _
    | with_reducible apply State.raise_kept
    | with_reducible apply Kept.foldl
    | with_reducible apply Kept.foldl_fst
    | simp only [↓Kept.mk_iff]

theorem State.sendRoutes_kept (hk : Kept σ s) : Kept σ (State.sendRoutes s) := by
  unfold State.sendRoutes
  repeat' first
    | with_reducible assumption
    | intro _
    | with_reducible apply State.sendMsg_kept
    | with_reducible apply Kept.foldl
    | with_reducible apply Kept.foldl_fst
    | with_reducible apply Kept.ite
    | simp only [↓Kept.mk_iff]

theorem State.discoverDone_kept (hk : Kept σ s) : Kept σ (State.discoverDone s) := by
  unfold State.discoverDone
  repeat' first
    | with_reducible assumption
    | intro _
    | with_reducible apply State.finish_kept
    | with_reducible apply Kept.foldl
    | with_reducible apply Kept.foldl_fst
    | with_reducible apply Kept.ite

theorem onSettleExpiry_kept (hk : Kept σ s) : Kept σ (onSettleExpiry s) := by
  unfold onSettleExpiry
  repeat' first
    | with_reducible assumption
    | intro _
    | with_reducible apply State.setFld_kept
    | with_reducible apply State.discoverDone_kept
    | with_reducible apply State.putRoute_kept
    | with_reducible apply State.loseNodes_kept
    | with_reducible apply State.sendRoutes_kept
    | with_reducible apply State.raise_kept
    | with_reducible apply Kept.foldl
    | with_reducible apply Kept.foldl_fst
    | with_reducible apply Kept.ite
    | simp only [↓Kept.mk_iff]

theorem onNotify_kept (hk : Kept σ s) : Kept σ (onNotify s) := by
  unfold onNotify
  repeat' first
    | with_reducible assumption
    | intro _
    | with_reducible apply State.onMsg_kept
    | with_reducible apply State.raise_kept

theorem State.giveUp_kept {p : Pending} (hk : Kept σ s) : Kept σ (State.giveUp s p) := by
  unfold State.giveUp
  repeat' first
    | with_reducible assumption
    | intro _
    | with_reducible apply State.bump_kept
    | with_reducible apply State.raise_kept
    | with_reducible apply State.finish_kept
    | with_reducible apply State.nextPending_kept
    | with_reducible apply State.discoverDone_kept
    | simp only [↓Kept.mk_iff]
    | split

theorem onCmdViaDiscover_kept {q : Fin 24} {tag : Nat} (hk : Kept σ s) : Kept σ (onCmdViaDiscover q tag s) := by
  unfold onCmdViaDiscover
  repeat' first
    | with_reducible assumption
    | with_reducible apply State.finish_kept
    | with_reducible apply State.run_kept
    | with_reducible apply State.startDiscovery_kept
    | with_reducible apply Kept.ite
    | split

theorem onCmdViaAssign_kept {q : Fin 24} {tag : Nat} (hk : Kept σ s) : Kept σ (onCmdViaAssign q tag s) := by
  unfold onCmdViaAssign
  repeat' first
    | with_reducible assumption
    | intro _
    | with_reducible apply State.finish_kept
    | with_reducible apply State.putNode_kept
    | with_reducible apply State.countNodes_kept
    | with_reducible apply State.sendAssign_kept
    | with_reducible apply Kept.ite
    | simp only [↓Kept.mk_iff]
    | split

theorem onCmdViaRoutes_kept {q : Fin 24} {tag : Nat} (hk : Kept σ s) : Kept σ (onCmdViaRoutes q tag s) := by
  unfold onCmdViaRoutes
  repeat' first
    | with_reducible assumption
    | intro _
    | with_reducible apply State.run_kept
    | with_reducible apply State.sendMsg_kept
    | split

theorem onCmdViaForget_kept {q : Fin 24} {tag : Nat} (hk : Kept σ s) : Kept σ (onCmdViaForget q tag s) := by
  unfold onCmdViaForget
  repeat' first
    | with_reducible assumption
    | intro _
    | with_reducible apply State.countNodes_kept
    | with_reducible apply State.finish_kept
    | simp only [↓Kept.mk_iff]
    | split

theorem onCmdViaReg_kept {q : Fin 24} {tag : Nat} (hk : Kept σ s) : Kept σ (onCmdViaReg q tag s) := by
  unfold onCmdViaReg
  repeat' first
    | with_reducible assumption
    | intro _
    | with_reducible apply State.run_kept
    | with_reducible apply State.sendMsg_kept
    | with_reducible apply Kept.ite
    | split

end Sys2Proof.Machine
end

