-- ==== Sys2Proof/Laws/KeptDec.lean ====
section
/-! SUPPORT. What the operations of Machine/Dec.lean keep. -/

namespace Sys2Proof.Machine

variable {σ s : State}

theorem State.setCtx_kept {n : Nat} {c : Ctx} (hk : Kept σ s) : Kept σ (State.setCtx s n c) := by
  unfold State.setCtx
  repeat' first
    | with_reducible assumption
    | with_reducible apply Kept.ite
    | simp only [↓Kept.mk_iff]

theorem State.slotWrite_kept {c : Ctx} {slot : Nat} {off : Nat} {bs : List Byte} {cls : Nat → Nat} (hk : Kept σ s) : Kept σ (State.slotWrite s c slot off bs cls) := by
  unfold State.slotWrite
  repeat' first
    | with_reducible assumption
    | intro _
    | with_reducible apply State.spaceWrite_kept
    | with_reducible apply Kept.foldl
    | with_reducible apply Kept.foldl_fst

theorem State.reportSlot_kept {c : Ctx} {slot : Nat} {off : Nat} {n : Nat} {bay : Nat} (hk : Kept σ s) : Kept σ (State.reportSlot s c slot off n bay) := by
  unfold State.reportSlot
  repeat' first
    | with_reducible assumption
    | intro _
    | with_reducible apply State.reportBad_kept
    | with_reducible apply Kept.foldl

theorem State.storeRow_kept {c : Ctx} {p : Pic} {row : Nat} {rows : Nat} {cls : Nat → Nat} (hk : Kept σ s) : Kept σ (State.storeRow s c p row rows cls) := by
  unfold State.storeRow
  repeat' first
    | with_reducible assumption
    | intro _
    | with_reducible apply State.slotWrite_kept
    | with_reducible apply Kept.foldl

theorem State.sendRefresh_kept {c : Ctx} {pic : Nat} {cause : Nat} (hk : Kept σ s) : Kept σ (State.sendRefresh s c pic cause) := by
  unfold State.sendRefresh
  repeat' first
    | with_reducible assumption
    | with_reducible apply State.sendMsg_kept
    | with_reducible apply State.bump_kept
    | split

theorem State.requestPoint_kept {n : Nat} (hk : Kept σ s) : Kept σ (State.requestPoint s n) := by
  unfold State.requestPoint
  repeat' first
    | with_reducible assumption
    | with_reducible apply State.raise_kept
    | with_reducible apply State.sendRefresh_kept
    | with_reducible apply State.setCtx_kept
    | with_reducible apply Kept.ite
    | simp only [↓Kept.mk_iff]
    | split

theorem State.damage_kept {n : Nat} {cause : Nat} {pic : Nat} {row : Nat} (hk : Kept σ s) : Kept σ (State.damage s n cause pic row) := by
  unfold State.damage
  repeat' first
    | with_reducible assumption
    | intro _
    | with_reducible apply State.setCtx_kept
    | with_reducible apply State.raise_kept
    | with_reducible apply State.requestPoint_kept
    | with_reducible apply Kept.ite

theorem State.endEpisode_kept {n : Nat} (hk : Kept σ s) : Kept σ (State.endEpisode s n) := by
  unfold State.endEpisode
  repeat' first
    | with_reducible assumption
    | with_reducible apply State.setCtx_kept
    | with_reducible apply State.raise_kept
    | with_reducible apply Kept.ite
    | simp only [↓Kept.mk_iff]
    | split

theorem State.loseSlice_kept {n : Nat} {cause : Nat} {bs : List Byte} (hk : Kept σ s) : Kept σ (State.loseSlice s n cause bs) := by
  unfold State.loseSlice
  repeat' first
    | with_reducible assumption
    | with_reducible apply State.bump_kept
    | with_reducible apply State.damage_kept

theorem State.dropAsm_kept {n : Nat} (hk : Kept σ s) : Kept σ (State.dropAsm s n) := by
  unfold State.dropAsm
  repeat' first
    | with_reducible assumption
    | with_reducible apply State.setCtx_kept
    | simp only [↓Kept.mk_iff]
    | split

theorem State.addPlank_kept {n : Nat} {x : Plank} {a : Assembly} (hk : Kept σ s) : Kept σ (State.addPlank s n x a) := by
  unfold State.addPlank
  repeat' first
    | with_reducible assumption
    | with_reducible apply State.raise_kept
    | with_reducible apply State.setCtx_kept
    | with_reducible apply State.dropAsm_kept
    | with_reducible apply State.loseSlice_kept
    | with_reducible apply Kept.ite
    | simp only [↓Kept.mk_iff]

theorem State.decPlank_kept {x : Plank} (hk : Kept σ s) : Kept σ (State.decPlank s x) := by
  unfold State.decPlank
  repeat' first
    | with_reducible assumption
    | with_reducible apply State.setCtx_kept
    | with_reducible apply State.sendRefresh_kept
    | with_reducible apply State.dropAsm_kept
    | with_reducible apply State.loseSlice_kept
    | with_reducible apply State.addPlank_kept
    | with_reducible apply Kept.ite
    | simp only [↓Kept.mk_iff]
    | split

theorem onSliceDecodeStart_kept (hk : Kept σ s) : Kept σ (onSliceDecodeStart s) := by
  unfold onSliceDecodeStart
  repeat' first
    | with_reducible assumption
    | intro _
    | with_reducible apply State.give_kept
    | with_reducible apply Kept.ite
    | simp only [↓Kept.mk_iff]
    | split

theorem State.closePicture_kept {n : Nat} (hk : Kept σ s) : Kept σ (State.closePicture s n) := by
  unfold State.closePicture
  repeat' first
    | with_reducible assumption
    | intro _
    | with_reducible apply State.storeRow_kept
    | with_reducible apply State.setCtx_kept
    | with_reducible apply State.bump_kept
    | with_reducible apply State.damage_kept
    | with_reducible apply Kept.foldl
    | with_reducible apply Kept.foldl_fst
    | with_reducible apply Kept.ite
    | simp only [↓Kept.mk_iff]
    | split

theorem State.decodeInto_kept {n : Nat} {h : SliceHdr} {bs : List Byte} {bound : Option Nat} {bay : Nat} (hk : Kept σ s) : Kept σ (State.decodeInto s n h bs bound bay) := by
  unfold State.decodeInto
  repeat' first
    | with_reducible assumption
    | intro _
    | with_reducible apply State.reportSlot_kept
    | with_reducible apply State.storeRow_kept
    | with_reducible apply State.setCtx_kept
    | with_reducible apply State.bump_kept
    | with_reducible apply State.damage_kept
    | with_reducible apply State.raise_kept
    | with_reducible apply Kept.foldl
    | with_reducible apply Kept.foldl_fst
    | with_reducible apply Kept.ite
    | simp only [↓Kept.mk_iff]
    | split

theorem State.sliceOutcome_kept {n : Nat} {bs : List Byte} {bound : Option Nat} {bay : Nat} (hk : Kept σ s) : Kept σ (State.sliceOutcome s n bs bound bay) := by
  unfold State.sliceOutcome
  repeat' first
    | with_reducible assumption
    | intro _
    | with_reducible apply State.loseSlice_kept
    | with_reducible apply State.bump_kept
    | with_reducible apply State.closePicture_kept
    | with_reducible apply State.decodeInto_kept
    | with_reducible apply State.endEpisode_kept
    | with_reducible apply Kept.ite
    | split

theorem onSliceDecodeDone_kept {i : Nat} {bound : Option Nat} (hk : Kept σ s) : Kept σ (onSliceDecodeDone i bound s) := by
  unfold onSliceDecodeDone
  repeat' first
    | with_reducible assumption
    | intro _
    | with_reducible apply State.setCtx_kept
    | with_reducible apply State.sliceOutcome_kept
    | with_reducible apply Kept.ite
    | simp only [↓Kept.mk_iff]
    | split

theorem State.repeatRequests_kept (hk : Kept σ s) : Kept σ (State.repeatRequests s) := by
  unfold State.repeatRequests
  repeat' first
    | with_reducible assumption
    | intro _
    | with_reducible apply State.setCtx_kept
    | with_reducible apply State.requestPoint_kept
    | with_reducible apply Kept.foldl
    | with_reducible apply Kept.foldl_fst
    | with_reducible apply Kept.ite
    | simp only [↓Kept.mk_iff]
    | split

theorem State.requestFor_kept {x : Ctx} (hk : Kept σ s) : Kept σ (State.requestFor s x) := by
  unfold State.requestFor
  repeat' first
    | with_reducible assumption
    | with_reducible apply State.sendRefresh_kept
    | with_reducible apply State.draw_kept
    | split

theorem State.decideRefresh_kept {bs : List Byte} (hk : Kept σ s) : Kept σ (State.decideRefresh s bs) := by
  unfold State.decideRefresh
  repeat' first
    | with_reducible assumption
    | intro _
    | with_reducible apply State.requestFor_kept
    | with_reducible apply Kept.foldl
    | with_reducible apply Kept.foldl_fst
    | split

theorem onCmdDecRequest_kept {q : Fin 24} {tag : Nat} (hk : Kept σ s) : Kept σ (onCmdDecRequest q tag s) := by
  unfold onCmdDecRequest
  repeat' first
    | with_reducible assumption
    | with_reducible apply State.finish_kept
    | with_reducible apply State.requestFor_kept
    | with_reducible apply Kept.ite
    | split

theorem State.needStreams_kept {need : List (Nat × Nat × Nat)} (hk : Kept σ s) : Kept σ (State.needStreams s need) := by
  unfold State.needStreams
  repeat' first
    | with_reducible assumption
    | intro _
    | with_reducible apply State.setCtx_kept
    | with_reducible apply Kept.foldl
    | with_reducible apply Kept.foldl_fst
    | with_reducible apply Kept.ite
    | simp only [↓Kept.mk_iff]
    | split

theorem State.freeCtxs_kept {gone : Nat → Ctx → Bool} (hk : Kept σ s) : Kept σ (State.freeCtxs s gone) := by
  unfold State.freeCtxs
  repeat' first
    | with_reducible assumption
    | intro _
    | simp only [↓Kept.mk_iff]

theorem State.freeClosing_kept {need : List Nat} (hk : Kept σ s) : Kept σ (State.freeClosing s need) := by
  unfold State.freeClosing
  repeat' first
    | with_reducible assumption
    | intro _
    | with_reducible apply State.freeCtxs_kept

theorem State.decReset_kept (hk : Kept σ s) : Kept σ (State.decReset s) := by
  unfold State.decReset
  repeat' first
    | with_reducible assumption
    | intro _
    | simp only [↓Kept.mk_iff]

theorem State.refChanged_kept (hk : Kept σ s) : Kept σ (State.refChanged s) := by
  unfold State.refChanged
  repeat' first
    | with_reducible assumption
    | intro _
    | with_reducible apply State.raise_kept
    | with_reducible apply State.setCtx_kept
    | with_reducible apply Kept.foldl
    | with_reducible apply Kept.foldl_fst
    | with_reducible apply Kept.ite
    | simp only [↓Kept.mk_iff]
    | split

end Sys2Proof.Machine
end

