-- ==== Sys2Proof/Laws/KeptCmp.lean ====
section
/-! SUPPORT. What the operations of Machine/Cmp.lean keep. -/

namespace Sys2Proof.Machine

variable {σ s : State}

theorem State.setHandle_kept {i : Nat} {h : Handle} (hk : Kept σ s) : Kept σ (State.setHandle s i h) := by
  unfold State.setHandle
  repeat' first
    | with_reducible assumption
    | simp only [↓Kept.mk_iff]

theorem State.sweepHandles_kept (hk : Kept σ s) : Kept σ (State.sweepHandles s) := by
  unfold State.sweepHandles
  repeat' first
    | with_reducible assumption
    | intro _
    | with_reducible apply Kept.ite
    | simp only [↓Kept.mk_iff]

theorem State.showCmp_kept (hk : Kept σ s) : Kept σ (State.showCmp s) := by
  unfold State.showCmp
  repeat' first
    | with_reducible assumption
    | intro _
    | with_reducible apply State.setFld_kept
    | with_reducible apply State.setFlag_kept
    | with_reducible apply State.setPair_kept

theorem onCmdCmpCommit_kept {q : Fin 24} {tag : Nat} (hk : Kept σ s) : Kept σ (onCmdCmpCommit q tag s) := by
  unfold onCmdCmpCommit
  repeat' first
    | with_reducible assumption
    | intro _
    | with_reducible apply State.finish_kept
    | with_reducible apply State.setFld_kept
    | with_reducible apply State.needStreams_kept
    | with_reducible apply State.showCmp_kept
    | with_reducible apply Kept.ite
    | simp only [↓Kept.mk_iff]
    | split

theorem onCmdCmpAlloc_kept {q : Fin 24} {tag : Nat} (hk : Kept σ s) : Kept σ (onCmdCmpAlloc q tag s) := by
  unfold onCmdCmpAlloc
  repeat' first
    | with_reducible assumption
    | intro _
    | with_reducible apply State.finish_kept
    | with_reducible apply State.memZero_kept
    | with_reducible apply State.setHandle_kept
    | with_reducible apply State.showCmp_kept
    | with_reducible apply Kept.ite
    | split
    | dsimp only

theorem State.putRows_kept {h : Handle} {x : Nat} {y : Nat} {w : Nat} {rows : Nat} {bs : List Byte} (hk : Kept σ s) : Kept σ (State.putRows s h x y w rows bs) := by
  unfold State.putRows
  repeat' first
    | with_reducible assumption
    | intro _
    | with_reducible apply State.spaceWrite_kept
    | with_reducible apply Kept.foldl

theorem onCmdCmpWrite_kept {q : Fin 24} {tag : Nat} (hk : Kept σ s) : Kept σ (onCmdCmpWrite q tag s) := by
  unfold onCmdCmpWrite
  repeat' first
    | with_reducible assumption
    | with_reducible apply State.finish_kept
    | with_reducible apply State.putRows_kept
    | with_reducible apply State.setHandle_kept
    | with_reducible apply Kept.ite
    | simp only [↓Kept.mk_iff]
    | split

theorem State.cmpWriteStop_kept {c : Cmd} {n : Nat} (hk : Kept σ s) : Kept σ (State.cmpWriteStop s c n) := by
  unfold State.cmpWriteStop
  repeat' first
    | with_reducible assumption
    | with_reducible apply State.putRows_kept
    | with_reducible apply State.setHandle_kept
    | with_reducible apply State.finish_kept
    | with_reducible apply Kept.ite
    | simp only [↓Kept.mk_iff]
    | split

theorem onCmdCmpFree_kept {q : Fin 24} {tag : Nat} (hk : Kept σ s) : Kept σ (onCmdCmpFree q tag s) := by
  unfold onCmdCmpFree
  repeat' first
    | with_reducible assumption
    | with_reducible apply State.finish_kept
    | with_reducible apply State.setHandle_kept
    | with_reducible apply State.showCmp_kept
    | with_reducible apply State.raise_kept
    | with_reducible apply Kept.ite
    | simp only [↓Kept.mk_iff]
    | split

theorem onCmdCmpLut_kept {q : Fin 24} {tag : Nat} (hk : Kept σ s) : Kept σ (onCmdCmpLut q tag s) := by
  unfold onCmdCmpLut
  repeat' first
    | with_reducible assumption
    | with_reducible apply State.finish_kept
    | with_reducible apply State.unitRun_kept
    | with_reducible apply State.setFld_kept
    | with_reducible apply Kept.ite
    | simp only [↓Kept.mk_iff]
    | split

theorem onCmdCmpParapet_kept {q : Fin 24} {tag : Nat} (hk : Kept σ s) : Kept σ (onCmdCmpParapet q tag s) := by
  unfold onCmdCmpParapet
  repeat' first
    | with_reducible assumption
    | with_reducible apply State.finish_kept
    | with_reducible apply State.setPair_kept
    | with_reducible apply State.setFlag_kept
    | with_reducible apply State.setFld_kept
    | with_reducible apply State.raise_kept
    | with_reducible apply Kept.ite
    | simp only [↓Kept.mk_iff]
    | split

theorem State.parapetStop_kept {c : Cmd} {n : Nat} (hk : Kept σ s) : Kept σ (State.parapetStop s c n) := by
  unfold State.parapetStop
  repeat' first
    | with_reducible assumption
    | with_reducible apply State.finish_kept
    | with_reducible apply Kept.ite

theorem State.reportBand_kept {bay : Nat} {reads : List (Bool × Nat × Nat)} (hk : Kept σ s) : Kept σ (State.reportBand s bay reads) := by
  unfold State.reportBand
  repeat' first
    | with_reducible assumption
    | intro _
    | with_reducible apply State.reportBad_kept
    | with_reducible apply Kept.foldl

theorem State.makeBand_kept {g : Gen} {k : Nat} {xs : List (Nat × Choice)} (hk : Kept σ s) : Kept σ (State.makeBand s g k xs) := by
  unfold State.makeBand
  repeat' first
    | with_reducible assumption
    | intro _
    | with_reducible apply State.reportBand_kept
    | with_reducible apply State.correctBand_kept
    | with_reducible apply State.bump_kept
    | with_reducible apply Kept.ite
    | simp only [↓Kept.mk_iff]

theorem State.showConfirmed_kept (hk : Kept σ s) : Kept σ (State.showConfirmed s) := by
  unfold State.showConfirmed
  repeat' first
    | with_reducible assumption
    | with_reducible apply State.setFlag_kept

theorem State.confirmGen_kept {g : Nat} {hash : List Byte} (hk : Kept σ s) : Kept σ (State.confirmGen s g hash) := by
  unfold State.confirmGen
  repeat' first
    | with_reducible assumption
    | intro _
    | with_reducible apply State.raise_kept
    | with_reducible apply State.bump_kept
    | with_reducible apply State.showConfirmed_kept
    | with_reducible apply State.showCmp_kept
    | with_reducible apply State.sweepHandles_kept
    | with_reducible apply Kept.ite
    | simp only [↓Kept.mk_iff]
    | split

theorem onBandCompose_kept {k : Nat} (hk : Kept σ s) : Kept σ (onBandCompose k s) := by
  unfold onBandCompose
  repeat' first
    | with_reducible assumption
    | with_reducible apply State.makeBand_kept
    | with_reducible apply State.showConfirmed_kept
    | with_reducible apply Kept.ite
    | split

theorem onBandRecompose_kept (hk : Kept σ s) : Kept σ (onBandRecompose s) := by
  unfold onBandRecompose
  repeat' first
    | with_reducible assumption
    | intro _
    | with_reducible apply State.makeBand_kept
    | with_reducible apply State.bump_kept
    | with_reducible apply State.sweepHandles_kept
    | with_reducible apply State.showCmp_kept
    | with_reducible apply State.showConfirmed_kept
    | with_reducible apply Kept.ite
    | simp only [↓Kept.mk_iff]
    | split

theorem State.layerLate_kept {l : Nat} {ch : Choice} (hk : Kept σ s) : Kept σ (State.layerLate s l ch) := by
  unfold State.layerLate
  repeat' first
    | with_reducible assumption
    | with_reducible apply State.bump_kept
    | with_reducible apply State.setFlag_kept
    | with_reducible apply State.raise_kept
    | with_reducible apply Kept.ite
    | simp only [↓Kept.mk_iff]

theorem State.layerReady_kept {l : Nat} (hk : Kept σ s) : Kept σ (State.layerReady s l) := by
  unfold State.layerReady
  repeat' first
    | with_reducible assumption
    | with_reducible apply State.setFlag_kept
    | simp only [↓Kept.mk_iff]

theorem State.fixInput_kept {l : Nat} (hk : Kept σ s) : Kept σ (State.fixInput s l) := by
  unfold State.fixInput
  repeat' first
    | with_reducible assumption
    | intro _
    | with_reducible apply State.layerReady_kept
    | with_reducible apply State.layerLate_kept
    | with_reducible apply Kept.ite
    | simp only [↓Kept.mk_iff]
    | split

theorem State.readyPoint_kept {f : Nat} (hk : Kept σ s) : Kept σ (State.readyPoint s f) := by
  unfold State.readyPoint
  repeat' first
    | with_reducible assumption
    | intro _
    | with_reducible apply State.useDecision_kept
    | with_reducible refine State.useDecision_kept' (he := by assumption) ?_
    | with_reducible apply State.fixInput_kept
    | with_reducible apply State.sweepHandles_kept
    | with_reducible apply State.showCmp_kept
    | with_reducible apply State.showConfirmed_kept
    | with_reducible apply Kept.foldl
    | with_reducible apply Kept.foldl_fst
    | with_reducible apply Kept.ite
    | simp only [↓Kept.mk_iff]
    | split

theorem State.latchSignatures_kept {frame : Nat} (hk : Kept σ s) : Kept σ (State.latchSignatures s frame) := by
  unfold State.latchSignatures
  repeat' first
    | with_reducible assumption
    | intro _
    | with_reducible apply State.setPair_kept
    | with_reducible apply State.setFld_kept
    | with_reducible apply State.raise_kept
    | with_reducible apply Kept.foldl
    | with_reducible apply Kept.foldl_fst
    | with_reducible apply Kept.ite
    | simp only [↓Kept.mk_iff]
    | split

theorem State.passInputs_kept (hk : Kept σ s) : Kept σ (State.passInputs s) := by
  unfold State.passInputs
  repeat' first
    | with_reducible assumption
    | simp only [↓Kept.mk_iff]

theorem State.swapBack_kept {frame : Option Nat} (hk : Kept σ s) : Kept σ (State.swapBack s frame) := by
  unfold State.swapBack
  repeat' first
    | with_reducible assumption
    | intro _
    | with_reducible apply State.latchSignatures_kept
    | with_reducible apply State.bump_kept
    | with_reducible apply State.setFld_kept
    | with_reducible apply State.passInputs_kept
    | with_reducible apply State.sweepHandles_kept
    | with_reducible apply State.showCmp_kept
    | with_reducible apply State.showConfirmed_kept
    | with_reducible apply Kept.ite
    | simp only [↓Kept.mk_iff]
    | split

theorem State.retargetBack_kept (hk : Kept σ s) : Kept σ (State.retargetBack s) := by
  unfold State.retargetBack
  repeat' first
    | with_reducible assumption
    | with_reducible apply State.passInputs_kept
    | with_reducible apply State.sweepHandles_kept
    | with_reducible apply State.showCmp_kept
    | with_reducible apply State.showConfirmed_kept

theorem State.cmpReset_kept (hk : Kept σ s) : Kept σ (State.cmpReset s) := by
  unfold State.cmpReset
  repeat' first
    | with_reducible assumption
    | with_reducible apply State.showConfirmed_kept
    | simp only [↓Kept.mk_iff]

theorem State.sigReset_kept (hk : Kept σ s) : Kept σ (State.sigReset s) := by
  unfold State.sigReset
  repeat' first
    | with_reducible assumption
    | intro _
    | with_reducible apply State.setFld_kept
    | with_reducible apply State.setPair_kept
    | with_reducible apply Kept.foldl
    | with_reducible apply Kept.foldl_fst
    | simp only [↓Kept.mk_iff]

theorem State.keepGens_kept {keep : Gen → Bool} (hk : Kept σ s) : Kept σ (State.keepGens s keep) := by
  unfold State.keepGens
  repeat' first
    | with_reducible assumption
    | intro _
    | simp only [↓Kept.mk_iff]

theorem State.layerChanged_kept (hk : Kept σ s) : Kept σ (State.layerChanged s) := by
  unfold State.layerChanged
  repeat' first
    | with_reducible assumption
    | intro _
    | with_reducible apply State.keepGens_kept
    | with_reducible apply State.unconfirmBands_kept
    | with_reducible apply State.showCmp_kept
    | with_reducible apply State.showConfirmed_kept
    | simp only [↓Kept.mk_iff]

theorem State.cmpChanged_kept (hk : Kept σ s) : Kept σ (State.cmpChanged s) := by
  unfold State.cmpChanged
  repeat' first
    | with_reducible assumption
    | intro _
    | with_reducible apply State.setFld_kept
    | with_reducible apply State.setFlag_kept
    | with_reducible apply State.keepGens_kept
    | with_reducible apply State.unconfirmBands_kept
    | with_reducible apply State.sweepHandles_kept
    | with_reducible apply State.showCmp_kept
    | with_reducible apply State.showConfirmed_kept
    | with_reducible apply Kept.foldl
    | with_reducible apply Kept.foldl_fst
    | simp only [↓Kept.mk_iff]

end Sys2Proof.Machine
end

