-- ==== Sys2Proof/Laws/KeptStrand.lean ====
section
/-! SUPPORT. What the operations of Machine/Strand.lean keep. -/

namespace Sys2Proof.Machine

variable {σ s : State}

theorem State.hardMark_kept (hk : Kept σ s) : Kept σ (State.hardMark s) := by
  unfold State.hardMark
  repeat' first
    | with_reducible assumption
    | with_reducible apply State.setFlag_kept

theorem State.takeHard_kept {h : HardSet} (hk : Kept σ s) : Kept σ (State.takeHard s h) := by
  unfold State.takeHard
  repeat' first
    | with_reducible assumption
    | simp only [↓Kept.mk_iff]

theorem State.timingError_kept {e : Nat} (hk : Kept σ s) : Kept σ (State.timingError s e) := by
  unfold State.timingError
  repeat' first
    | with_reducible assumption
    | with_reducible apply State.setFld_kept
    | with_reducible apply State.raise_kept

theorem State.closeHard_kept {tMin : Nat} (hk : Kept σ s) : Kept σ (State.closeHard s tMin) := by
  unfold State.closeHard
  repeat' first
    | with_reducible assumption
    | with_reducible apply State.setFlag_kept
    | with_reducible apply State.setFld_kept
    | with_reducible apply State.takeHard_kept
    | with_reducible apply State.timingError_kept
    | with_reducible apply Kept.ite

theorem State.showStr_kept (hk : Kept σ s) : Kept σ (State.showStr s) := by
  unfold State.showStr
  repeat' first
    | with_reducible assumption
    | with_reducible apply State.setFld_kept

theorem State.setDrive_kept {m : Nat} (hk : Kept σ s) : Kept σ (State.setDrive s m) := by
  unfold State.setDrive
  repeat' first
    | with_reducible assumption
    | with_reducible apply State.setFld_kept
    | with_reducible apply State.raise_kept
    | with_reducible apply Kept.ite

theorem State.closeSoftStr_kept {frame : Nat} (hk : Kept σ s) : Kept σ (State.closeSoftStr s frame) := by
  unfold State.closeSoftStr
  repeat' first
    | with_reducible assumption
    | intro _
    | with_reducible apply State.useDecision_kept
    | with_reducible refine State.useDecision_kept' (he := by assumption) ?_
    | with_reducible apply Kept.ite
    | simp only [↓Kept.mk_iff]
    | split

theorem State.applyStr_kept {tMin : Nat} (hk : Kept σ s) : Kept σ (State.applyStr s tMin) := by
  unfold State.applyStr
  repeat' first
    | with_reducible assumption
    | intro _
    | with_reducible apply State.setFld_kept
    | with_reducible apply State.setDrive_kept
    | with_reducible apply Kept.foldl
    | with_reducible apply Kept.foldl_fst
    | simp only [↓Kept.mk_iff]
    | split

theorem State.readBack_kept {f : Nat} {bad : List Nat} (hk : Kept σ s) : Kept σ (State.readBack s f bad) := by
  unfold State.readBack
  repeat' first
    | with_reducible assumption
    | intro _
    | with_reducible apply State.setFlag_kept
    | with_reducible apply State.raise_kept
    | with_reducible apply Kept.foldl
    | with_reducible apply Kept.foldl_fst
    | with_reducible apply Kept.ite
    | simp only [↓Kept.mk_iff]

theorem State.configSinks_kept {bad : List Nat} (hk : Kept σ s) : Kept σ (State.configSinks s bad) := by
  unfold State.configSinks
  repeat' first
    | with_reducible assumption
    | intro _
    | with_reducible apply State.emit_kept
    | with_reducible apply State.readBack_kept
    | with_reducible apply Kept.foldl
    | with_reducible apply Kept.foldl_fst
    | with_reducible apply Kept.ite
    | simp only [↓Kept.mk_iff]
    | split

theorem onCmdStrIrefTrim_kept {q : Fin 24} {tag : Nat} (hk : Kept σ s) : Kept σ (onCmdStrIrefTrim q tag s) := by
  unfold onCmdStrIrefTrim
  repeat' first
    | with_reducible assumption
    | intro _
    | with_reducible apply State.finish_kept
    | with_reducible apply State.run_kept
    | with_reducible apply Kept.ite
    | simp only [↓Kept.mk_iff]
    | split

theorem State.startTrim_kept (hk : Kept σ s) : Kept σ (State.startTrim s) := by
  unfold State.startTrim
  repeat' first
    | with_reducible assumption
    | simp only [↓Kept.mk_iff]
    | split

theorem onIrefTrimDone_kept {gain : Fin 256} {ratio : Fin 256} (hk : Kept σ s) : Kept σ (onIrefTrimDone gain ratio s) := by
  unfold onIrefTrimDone
  repeat' first
    | with_reducible assumption
    | intro _
    | with_reducible apply State.setFld_kept
    | with_reducible apply State.setFlag_kept
    | with_reducible apply State.finish_kept
    | with_reducible apply Kept.ite
    | simp only [↓Kept.mk_iff]
    | split

theorem State.trimStop_kept {c : Cmd} (hk : Kept σ s) : Kept σ (State.trimStop s c) := by
  unfold State.trimStop
  repeat' first
    | with_reducible assumption
    | intro _
    | with_reducible apply State.finish_kept
    | with_reducible apply Kept.ite
    | simp only [↓Kept.mk_iff]

theorem State.kneeCheck_kept {f : Nat} (hk : Kept σ s) : Kept σ (State.kneeCheck s f) := by
  unfold State.kneeCheck
  repeat' first
    | with_reducible assumption
    | intro _
    | with_reducible apply State.setFld_kept
    | with_reducible apply State.raise_kept
    | with_reducible apply Kept.ite
    | simp only [↓Kept.mk_iff]

theorem State.thermOne_kept {f : Nat} {x : Nat} (hk : Kept σ s) : Kept σ (State.thermOne s f x) := by
  unfold State.thermOne
  repeat' first
    | with_reducible assumption
    | with_reducible apply State.setFlag_kept
    | with_reducible apply State.raise_kept
    | with_reducible apply State.setFld_kept
    | with_reducible apply State.kneeCheck_kept
    | with_reducible apply Kept.ite
    | simp only [↓Kept.mk_iff]

theorem onThermSample_kept {xs : List Nat} (hk : Kept σ s) : Kept σ (onThermSample xs s) := by
  unfold onThermSample
  repeat' first
    | with_reducible assumption
    | intro _
    | with_reducible apply State.thermOne_kept
    | with_reducible apply Kept.foldl

theorem State.closeTherm_kept (hk : Kept σ s) : Kept σ (State.closeTherm s) := by
  unfold State.closeTherm
  repeat' first
    | with_reducible assumption
    | simp only [↓Kept.mk_iff]

theorem State.computeDerate_kept {frame : Nat} (hk : Kept σ s) : Kept σ (State.computeDerate s frame) := by
  unfold State.computeDerate
  repeat' first
    | with_reducible assumption
    | intro _
    | with_reducible apply State.useDecision_kept
    | with_reducible refine State.useDecision_kept' (he := by assumption) ?_
    | with_reducible apply State.setFld_kept
    | with_reducible apply Kept.foldl
    | with_reducible apply Kept.foldl_fst
    | with_reducible apply Kept.ite
    | simp only [↓Kept.mk_iff]
    | split

theorem onTjSample_kept {t : Int} (hk : Kept σ s) : Kept σ (onTjSample t s) := by
  unfold onTjSample
  repeat' first
    | with_reducible assumption
    | with_reducible apply State.setFld_kept
    | with_reducible apply State.showStr_kept
    | with_reducible apply State.raise_kept
    | with_reducible apply Kept.ite
    | simp only [↓Kept.mk_iff]

theorem onTjCooldownExpiry_kept (hk : Kept σ s) : Kept σ (onTjCooldownExpiry s) := by
  unfold onTjCooldownExpiry
  repeat' first
    | with_reducible assumption
    | with_reducible apply Kept.ite
    | simp only [↓Kept.mk_iff]
    | split

theorem State.thermResume_kept (hk : Kept σ s) : Kept σ (State.thermResume s) := by
  unfold State.thermResume
  repeat' first
    | with_reducible assumption
    | with_reducible apply State.raise_kept
    | with_reducible apply Kept.ite
    | simp only [↓Kept.mk_iff]

theorem State.reportFan_kept {f : Nat} (hk : Kept σ s) : Kept σ (State.reportFan s f) := by
  unfold State.reportFan
  repeat' first
    | with_reducible assumption
    | intro _
    | with_reducible apply State.deckUc_kept
    | with_reducible apply Kept.foldl

theorem State.syncFans_kept (hk : Kept σ s) : Kept σ (State.syncFans s) := by
  unfold State.syncFans
  repeat' first
    | with_reducible assumption
    | intro _
    | with_reducible apply State.setFld_kept
    | with_reducible apply State.emit_kept
    | with_reducible apply State.reportFan_kept
    | with_reducible apply Kept.foldl
    | with_reducible apply Kept.foldl_fst
    | simp only [↓Kept.mk_iff]

theorem State.teMiss_kept {f : Nat} (hk : Kept σ s) : Kept σ (State.teMiss s f) := by
  unfold State.teMiss
  repeat' first
    | with_reducible assumption
    | with_reducible apply State.bump_kept
    | with_reducible apply State.setFlag_kept
    | with_reducible apply State.raise_kept
    | with_reducible apply Kept.ite
    | simp only [↓Kept.mk_iff]

theorem onTeRise_kept {f : Fin 16} (hk : Kept σ s) : Kept σ (onTeRise f s) := by
  unfold onTeRise
  repeat' first
    | with_reducible assumption
    | with_reducible apply State.setFld_kept
    | with_reducible apply State.setFlag_kept
    | with_reducible apply State.raise_kept
    | with_reducible apply Kept.ite
    | simp only [↓Kept.mk_iff]
    | split

theorem onTeWindowExpiry_kept {f : Fin 16} (hk : Kept σ s) : Kept σ (onTeWindowExpiry f s) := by
  unfold onTeWindowExpiry
  repeat' first
    | with_reducible assumption
    | with_reducible apply State.teMiss_kept
    | with_reducible apply Kept.ite
    | simp only [↓Kept.mk_iff]
    | split

theorem State.strReset_kept (hk : Kept σ s) : Kept σ (State.strReset s) := by
  unfold State.strReset
  repeat' first
    | with_reducible assumption
    | with_reducible apply State.showStr_kept
    | simp only [↓Kept.mk_iff]

end Sys2Proof.Machine
end

