-- ==== Sys2Proof/Laws/KeptDiag.lean ====
section
/-! SUPPORT. What the operations of Machine/Diag.lean keep. -/

namespace Sys2Proof.Machine

variable {σ s : State}

theorem State.putLamp_kept {i : Nat} {b : Nat} (hk : Kept σ s) : Kept σ (State.putLamp s i b) := by
  unfold State.putLamp
  repeat' first
    | with_reducible assumption
    | with_reducible apply Kept.ite
    | simp only [↓Kept.mk_iff]

theorem State.evidenceFor_kept {i : Nat} {cls : Nat} {fault : Bool} {meas : Bool} (hk : Kept σ s) : Kept σ (State.evidenceFor s i cls fault meas) := by
  unfold State.evidenceFor
  repeat' first
    | with_reducible assumption
    | with_reducible apply State.putLamp_kept

theorem State.pinEvidence_kept {p : PinTest} {row : Nat} (hk : Kept σ s) : Kept σ (State.pinEvidence s p row) := by
  unfold State.pinEvidence
  repeat' first
    | with_reducible assumption
    | intro _
    | with_reducible apply State.evidenceFor_kept
    | with_reducible apply Kept.foldl
    | with_reducible apply Kept.foldl_fst
    | with_reducible apply Kept.ite

theorem State.loadFlags_kept {flags : List Nat} (hk : Kept σ s) : Kept σ (State.loadFlags s flags) := by
  unfold State.loadFlags
  repeat' first
    | with_reducible assumption
    | intro _
    | with_reducible apply State.evidenceFor_kept
    | with_reducible apply State.pinEvidence_kept
    | with_reducible apply Kept.foldl
    | with_reducible apply Kept.foldl_fst
    | with_reducible apply Kept.ite
    | simp only [↓Kept.mk_iff]
    | split

theorem State.echoes_kept {r : Nat} {ps : List Nat} {mis : List (Nat × Nat × Nat)} (hk : Kept σ s) : Kept σ (State.echoes s r ps mis) := by
  unfold State.echoes
  repeat' first
    | with_reducible assumption
    | intro _
    | with_reducible apply State.bump_kept
    | with_reducible apply State.raise_kept
    | with_reducible apply Kept.foldl
    | with_reducible apply Kept.foldl_fst
    | with_reducible apply Kept.ite
    | simp only [↓Kept.mk_iff]

theorem State.setStrand_kept {st : Nat} {fault : Nat} {code : Nat} (hk : Kept σ s) : Kept σ (State.setStrand s st fault code) := by
  unfold State.setStrand
  repeat' first
    | with_reducible assumption
    | with_reducible apply State.setFld_kept
    | with_reducible apply State.raise_kept
    | with_reducible apply Kept.ite

theorem State.classifyStrands_kept (hk : Kept σ s) : Kept σ (State.classifyStrands s) := by
  unfold State.classifyStrands
  repeat' first
    | with_reducible assumption
    | intro _
    | with_reducible apply State.run_kept
    | with_reducible apply State.setStrand_kept
    | with_reducible apply Kept.foldl
    | with_reducible apply Kept.foldl_fst
    | with_reducible apply Kept.ite
    | simp only [↓Kept.mk_iff]
    | split

theorem State.endRefresh_kept (hk : Kept σ s) : Kept σ (State.endRefresh s) := by
  unfold State.endRefresh
  repeat' first
    | with_reducible assumption
    | with_reducible apply State.classifyStrands_kept
    | with_reducible apply Kept.ite
    | simp only [↓Kept.mk_iff]

theorem onRefreshStart_kept (hk : Kept σ s) : Kept σ (onRefreshStart s) := by
  unfold onRefreshStart
  repeat' first
    | with_reducible assumption
    | with_reducible apply State.endRefresh_kept
    | with_reducible apply Kept.ite
    | simp only [↓Kept.mk_iff]

theorem State.abortFrame_kept {cause : Nat} (hk : Kept σ s) : Kept σ (State.abortFrame s cause) := by
  unfold State.abortFrame
  repeat' first
    | with_reducible assumption
    | with_reducible apply State.bump_kept
    | with_reducible apply State.raise_kept
    | with_reducible apply Kept.ite
    | simp only [↓Kept.mk_iff]

theorem State.underrun_kept {refresh : Nat} {slot : Nat} (hk : Kept σ s) : Kept σ (State.underrun s refresh slot) := by
  unfold State.underrun
  repeat' first
    | with_reducible assumption
    | with_reducible apply State.bump_kept
    | with_reducible apply State.raise_kept
    | with_reducible apply State.abortFrame_kept
    | with_reducible apply Kept.ite
    | simp only [↓Kept.mk_iff]

theorem State.showDiag_kept {row : Nat} {on : Nat → Bool} (hk : Kept σ s) : Kept σ (State.showDiag s row on) := by
  unfold State.showDiag
  repeat' first
    | with_reducible assumption
    | intro _
    | with_reducible apply State.emit_kept

theorem State.reportRow_kept {row : Nat} (hk : Kept σ s) : Kept σ (State.reportRow s row) := by
  unfold State.reportRow
  repeat' first
    | with_reducible assumption
    | intro _
    | with_reducible apply State.deckUc_kept
    | with_reducible apply Kept.foldl

theorem State.noSlot_kept (hk : Kept σ s) : Kept σ (State.noSlot s) := by
  unfold State.noSlot
  repeat' first
    | with_reducible assumption
    | with_reducible apply State.setFlag_kept
    | with_reducible apply State.raise_kept
    | with_reducible apply Kept.ite
    | simp only [↓Kept.mk_iff]

theorem State.probe_kept {row : Nat} (hk : Kept σ s) : Kept σ (State.probe s row) := by
  unfold State.probe
  repeat' first
    | with_reducible assumption
    | intro _
    | with_reducible apply State.bump_kept
    | with_reducible apply State.setFld_kept
    | with_reducible apply State.showDiag_kept
    | simp only [↓Kept.mk_iff]

theorem State.showRound_kept (hk : Kept σ s) : Kept σ (State.showRound s) := by
  unfold State.showRound
  repeat' first
    | with_reducible assumption
    | with_reducible apply State.setFlag_kept

theorem State.slotReadBack_kept {bad : List Nat} (hk : Kept σ s) : Kept σ (State.slotReadBack s bad) := by
  unfold State.slotReadBack
  repeat' first
    | with_reducible assumption
    | intro _
    | with_reducible apply State.emit_kept
    | with_reducible apply State.readBack_kept
    | with_reducible apply Kept.ite
    | simp only [↓Kept.mk_iff]
    | split

theorem State.pinPattern_kept {p : PinTest} (hk : Kept σ s) : Kept σ (State.pinPattern s p) := by
  unfold State.pinPattern
  repeat' first
    | with_reducible assumption
    | intro _
    | with_reducible apply State.showDiag_kept
    | simp only [↓Kept.mk_iff]

theorem State.askedProbe_kept {bad : List Nat} (hk : Kept σ s) : Kept σ (State.askedProbe s bad) := by
  unfold State.askedProbe
  repeat' first
    | with_reducible assumption
    | intro _
    | with_reducible apply State.bump_kept
    | with_reducible apply State.slotReadBack_kept
    | with_reducible apply State.probe_kept
    | simp only [↓Kept.mk_iff]
    | split

theorem State.roundProbe_kept {bad : List Nat} (hk : Kept σ s) : Kept σ (State.roundProbe s bad) := by
  unfold State.roundProbe
  repeat' first
    | with_reducible assumption
    | intro _
    | with_reducible apply State.probe_kept
    | with_reducible apply State.showRound_kept
    | with_reducible apply State.slotReadBack_kept
    | simp only [↓Kept.mk_iff]
    | split

theorem State.diagSlot_kept {r : Nat} {bad : List Nat} (hk : Kept σ s) : Kept σ (State.diagSlot s r bad) := by
  unfold State.diagSlot
  repeat' first
    | with_reducible assumption
    | with_reducible apply State.slotReadBack_kept
    | with_reducible apply State.pinPattern_kept
    | with_reducible apply State.askedProbe_kept
    | with_reducible apply State.roundProbe_kept
    | with_reducible apply Kept.ite
    | split

theorem onRowSlotStart_kept {under : Bool} {mis : List (Nat × Nat × Nat)} {flags : List Nat} {bad : List Nat} (hk : Kept σ s) : Kept σ (onRowSlotStart under mis flags bad s) := by
  unfold onRowSlotStart
  repeat' first
    | with_reducible assumption
    | with_reducible apply State.loadFlags_kept
    | with_reducible apply State.underrun_kept
    | with_reducible apply State.diagSlot_kept
    | with_reducible apply State.echoes_kept
    | with_reducible apply State.reportRow_kept
    | with_reducible apply State.emit_kept
    | with_reducible apply Kept.ite
    | simp only [↓Kept.mk_iff]

theorem State.rewindDia_kept (hk : Kept σ s) : Kept σ (State.rewindDia s) := by
  unfold State.rewindDia
  repeat' first
    | with_reducible assumption
    | simp only [↓Kept.mk_iff]

theorem onEpochStart_kept (hk : Kept σ s) : Kept σ (onEpochStart s) := by
  unfold onEpochStart
  repeat' first
    | with_reducible assumption
    | intro _
    | with_reducible apply State.putLamp_kept
    | with_reducible apply Kept.foldl
    | with_reducible apply Kept.foldl_fst
    | with_reducible apply Kept.ite
    | simp only [↓Kept.mk_iff]

theorem onProbeRoundStart_kept (hk : Kept σ s) : Kept σ (onProbeRoundStart s) := by
  unfold onProbeRoundStart
  repeat' first
    | with_reducible assumption
    | with_reducible apply State.noSlot_kept
    | with_reducible apply State.showRound_kept
    | with_reducible apply Kept.ite
    | simp only [↓Kept.mk_iff]

theorem State.requestPin_kept (hk : Kept σ s) : Kept σ (State.requestPin s) := by
  unfold State.requestPin
  repeat' first
    | with_reducible assumption
    | simp only [↓Kept.mk_iff]
    | split

theorem onPinTestRequest_kept (hk : Kept σ s) : Kept σ (onPinTestRequest s) := by
  unfold onPinTestRequest
  repeat' first
    | with_reducible assumption
    | with_reducible apply State.noSlot_kept
    | with_reducible apply State.requestPin_kept
    | with_reducible apply Kept.ite
    | simp only [↓Kept.mk_iff]

theorem onCmdDiaPinTest_kept {q : Fin 24} {tag : Nat} (hk : Kept σ s) : Kept σ (onCmdDiaPinTest q tag s) := by
  unfold onCmdDiaPinTest
  repeat' first
    | with_reducible assumption
    | intro _
    | with_reducible apply State.noSlot_kept
    | with_reducible apply State.finish_kept
    | with_reducible apply State.run_kept
    | with_reducible apply State.requestPin_kept
    | with_reducible apply Kept.ite
    | simp only [↓Kept.mk_iff]
    | split

theorem State.endPin_kept {abandoned : Bool} (hk : Kept σ s) : Kept σ (State.endPin s abandoned) := by
  unfold State.endPin
  repeat' first
    | with_reducible assumption
    | intro _
    | with_reducible apply State.raise_kept
    | with_reducible apply State.setFlag_kept
    | with_reducible apply State.setPair_kept
    | with_reducible apply State.finish_kept
    | with_reducible apply Kept.foldl
    | with_reducible apply Kept.foldl_fst
    | simp only [↓Kept.mk_iff]
    | split

theorem onPinTestEnd_kept (hk : Kept σ s) : Kept σ (onPinTestEnd s) := by
  unfold onPinTestEnd
  repeat' first
    | with_reducible assumption
    | with_reducible apply State.endPin_kept
    | with_reducible apply Kept.ite
    | split

theorem State.dropPin_kept (hk : Kept σ s) : Kept σ (State.dropPin s) := by
  unfold State.dropPin
  repeat' first
    | with_reducible assumption
    | with_reducible apply State.endPin_kept
    | with_reducible apply Kept.ite
    | simp only [↓Kept.mk_iff]
    | split

theorem State.pinStop_kept {c : Cmd} (hk : Kept σ s) : Kept σ (State.pinStop s c) := by
  unfold State.pinStop
  repeat' first
    | with_reducible assumption
    | intro _
    | with_reducible apply State.finish_kept
    | with_reducible apply State.dropPin_kept
    | with_reducible apply Kept.ite
    | simp only [↓Kept.mk_iff]

theorem State.setRemoved_kept {i : Nat} {r : Bool} (hk : Kept σ s) : Kept σ (State.setRemoved s i r) := by
  unfold State.setRemoved
  repeat' first
    | with_reducible assumption
    | with_reducible apply Kept.ite
    | simp only [↓Kept.mk_iff]

theorem State.holdLampOp_kept {q : Fin 24} {tag : Nat} {op : Nat} (hk : Kept σ s) : Kept σ (State.holdLampOp s q tag op) := by
  unfold State.holdLampOp
  repeat' first
    | with_reducible assumption
    | intro _
    | with_reducible apply State.finish_kept
    | with_reducible apply State.run_kept
    | with_reducible apply Kept.ite
    | simp only [↓Kept.mk_iff]
    | split

theorem onDiaOpRemove_kept {q : Fin 24} {tag : Nat} (hk : Kept σ s) : Kept σ (onDiaOpRemove q tag s) := by
  unfold onDiaOpRemove
  repeat' first
    | with_reducible assumption
    | with_reducible apply State.holdLampOp_kept

theorem onDiaOpRestore_kept {q : Fin 24} {tag : Nat} (hk : Kept σ s) : Kept σ (onDiaOpRestore q tag s) := by
  unfold onDiaOpRestore
  repeat' first
    | with_reducible assumption
    | with_reducible apply State.holdLampOp_kept

theorem onDiaOpForget_kept {q : Fin 24} {tag : Nat} (hk : Kept σ s) : Kept σ (onDiaOpForget q tag s) := by
  unfold onDiaOpForget
  repeat' first
    | with_reducible assumption
    | with_reducible apply State.holdLampOp_kept

theorem State.lampOp_kept {op : Nat} {i : Nat} (hk : Kept σ s) : Kept σ (State.lampOp s op i) := by
  unfold State.lampOp
  repeat' first
    | with_reducible assumption
    | with_reducible apply State.setRemoved_kept
    | with_reducible apply State.putLamp_kept
    | split

theorem State.applyLampOps_kept (hk : Kept σ s) : Kept σ (State.applyLampOps s) := by
  unfold State.applyLampOps
  repeat' first
    | with_reducible assumption
    | intro _
    | with_reducible apply State.lampOp_kept
    | with_reducible apply State.finish_kept
    | with_reducible apply Kept.foldl
    | with_reducible apply Kept.foldl_fst
    | simp only [↓Kept.mk_iff]
    | split

theorem State.lampOpStop_kept {c : Cmd} (hk : Kept σ s) : Kept σ (State.lampOpStop s c) := by
  unfold State.lampOpStop
  repeat' first
    | with_reducible assumption
    | intro _
    | with_reducible apply State.finish_kept
    | simp only [↓Kept.mk_iff]

theorem onCmdDiaRead_kept {q : Fin 24} {tag : Nat} (hk : Kept σ s) : Kept σ (onCmdDiaRead q tag s) := by
  unfold onCmdDiaRead
  repeat' first
    | with_reducible assumption
    | intro _
    | with_reducible apply State.finish_kept
    | with_reducible apply State.portWrite_kept
    | with_reducible apply Kept.ite
    | split

theorem State.closeDia_kept {frame : Nat} (hk : Kept σ s) : Kept σ (State.closeDia s frame) := by
  unfold State.closeDia
  repeat' first
    | with_reducible assumption
    | intro _
    | with_reducible apply State.useDecision_kept
    | with_reducible refine State.useDecision_kept' (he := by assumption) ?_
    | with_reducible apply Kept.ite
    | simp only [↓Kept.mk_iff]
    | split

theorem State.takeAsked_kept (hk : Kept σ s) : Kept σ (State.takeAsked s) := by
  unfold State.takeAsked
  repeat' first
    | with_reducible assumption
    | with_reducible apply State.bump_kept
    | with_reducible apply State.noSlot_kept
    | with_reducible apply Kept.ite
    | simp only [↓Kept.mk_iff]

theorem State.reportChanges_kept (hk : Kept σ s) : Kept σ (State.reportChanges s) := by
  unfold State.reportChanges
  repeat' first
    | with_reducible assumption
    | intro _
    | with_reducible apply State.raise_kept
    | simp only [↓Kept.mk_iff]
    | split

theorem State.autoRemove_kept (hk : Kept σ s) : Kept σ (State.autoRemove s) := by
  unfold State.autoRemove
  repeat' first
    | with_reducible assumption
    | intro _
    | with_reducible apply State.setRemoved_kept
    | with_reducible apply State.raise_kept
    | with_reducible apply Kept.foldl
    | with_reducible apply Kept.foldl_fst
    | with_reducible apply Kept.ite
    | simp only [↓Kept.mk_iff]

theorem State.pinFrame_kept {frame : Nat} (hk : Kept σ s) : Kept σ (State.pinFrame s frame) := by
  unfold State.pinFrame
  repeat' first
    | with_reducible assumption
    | intro _
    | with_reducible apply State.setFld_kept
    | with_reducible apply State.setFlag_kept
    | with_reducible apply State.noSlot_kept
    | with_reducible apply State.finish_kept
    | with_reducible apply Kept.foldl
    | with_reducible apply Kept.foldl_fst
    | with_reducible apply Kept.ite
    | simp only [↓Kept.mk_iff]
    | split

theorem State.resetLamps_kept (hk : Kept σ s) : Kept σ (State.resetLamps s) := by
  unfold State.resetLamps
  repeat' first
    | with_reducible assumption
    | intro _
    | with_reducible apply State.putLamp_kept
    | with_reducible apply State.setStrand_kept
    | with_reducible apply State.endPin_kept
    | with_reducible apply Kept.foldl
    | with_reducible apply Kept.foldl_fst
    | with_reducible apply Kept.ite
    | simp only [↓Kept.mk_iff]

theorem State.diaFrame_kept {frame : Nat} {trans : Bool} (hk : Kept σ s) : Kept σ (State.diaFrame s frame trans) := by
  unfold State.diaFrame
  repeat' first
    | with_reducible assumption
    | with_reducible apply State.takeAsked_kept
    | with_reducible apply State.reportChanges_kept
    | with_reducible apply State.applyLampOps_kept
    | with_reducible apply State.autoRemove_kept
    | with_reducible apply State.resetLamps_kept
    | with_reducible apply State.setFlag_kept
    | with_reducible apply State.pinFrame_kept
    | with_reducible apply Kept.ite
    | simp only [↓Kept.mk_iff]

theorem State.diaReset_kept (hk : Kept σ s) : Kept σ (State.diaReset s) := by
  unfold State.diaReset
  repeat' first
    | with_reducible assumption
    | with_reducible apply State.dropPin_kept
    | simp only [↓Kept.mk_iff]

theorem State.rebuildLamps_kept {removed : List Nat} (hk : Kept σ s) : Kept σ (State.rebuildLamps s removed) := by
  unfold State.rebuildLamps
  repeat' first
    | with_reducible assumption
    | intro _
    | with_reducible apply Kept.foldl
    | with_reducible apply Kept.foldl_fst
    | simp only [↓Kept.mk_iff]

end Sys2Proof.Machine
end

