-- ==== Sys2Proof/Laws/KeptSpan.lean ====
section
/-! SUPPORT. What the operations of Machine/Span.lean keep. -/

namespace Sys2Proof.Machine

variable {σ s : State}

theorem State.each_kept {l : List Nat} {f : Nat → State → State} (hff : ∀ x0 x1, Kept σ x1 → Kept σ (f x0 x1)) (hk : Kept σ s) : Kept σ (State.each s l f) := by
  unfold State.each
  repeat' first
    | with_reducible assumption
    | intro _
    | with_reducible apply Kept.foldl
    | with_reducible apply Kept.foldl_fst
    | apply hff

theorem State.setSpan_kept {k : Nat} {st : Nat} (hk : Kept σ s) : Kept σ (State.setSpan s k st) := by
  unfold State.setSpan
  repeat' first
    | with_reducible assumption
    | with_reducible apply State.setFld_kept
    | with_reducible apply State.setPort_kept
    | with_reducible apply State.setFlag_kept
    | with_reducible apply State.linksChanged_kept
    | with_reducible apply Kept.ite

theorem State.unlockLane_kept {i : Nat} (hk : Kept σ s) : Kept σ (State.unlockLane i s) := by
  unfold State.unlockLane
  repeat' first
    | with_reducible assumption
    | with_reducible apply State.setFlag_kept

theorem State.toDetect_kept {k : Nat} (hk : Kept σ s) : Kept σ (State.toDetect s k) := by
  unfold State.toDetect
  repeat' first
    | with_reducible assumption
    | intro _
    | with_reducible apply State.each_kept
    | with_reducible apply State.unlockLane_kept
    | with_reducible apply State.setFld_kept
    | with_reducible apply State.setFlag_kept
    | with_reducible apply State.setPort_kept
    | with_reducible apply State.setSpan_kept

theorem State.dropLink_kept {k : Nat} {retrain : Bool} (hk : Kept σ s) : Kept σ (State.dropLink s k retrain) := by
  unfold State.dropLink
  repeat' first
    | with_reducible assumption
    | intro _
    | with_reducible apply State.bump_kept
    | with_reducible apply State.releaseSlot_kept
    | with_reducible apply State.setPort_kept
    | with_reducible apply State.setFld_kept
    | with_reducible apply Kept.foldl

theorem State.leaveUp_kept {k : Nat} {cause : Nat} (hk : Kept σ s) : Kept σ (State.leaveUp s k cause) := by
  unfold State.leaveUp
  repeat' first
    | with_reducible assumption
    | with_reducible apply State.dropLink_kept
    | with_reducible apply State.raise_kept
    | with_reducible apply Kept.ite

theorem State.spanDown_kept {k : Nat} {cause : Nat} (hk : Kept σ s) : Kept σ (State.spanDown s k cause) := by
  unfold State.spanDown
  repeat' first
    | with_reducible assumption
    | with_reducible apply State.leaveUp_kept
    | with_reducible apply State.toDetect_kept
    | with_reducible apply Kept.ite

theorem State.endRetrains_kept {k : Nat} {status : Nat} {t : Cmd → Bool} (hk : Kept σ s) : Kept σ (State.endRetrains s k status t) := by
  unfold State.endRetrains
  repeat' first
    | with_reducible assumption
    | intro _
    | with_reducible apply State.finish_kept
    | with_reducible apply Kept.foldl

theorem State.spanComesUp_kept {k : Nat} {topFail : Bool} (hk : Kept σ s) : Kept σ (State.spanComesUp s k topFail) := by
  unfold State.spanComesUp
  repeat' first
    | with_reducible assumption
    | intro _
    | with_reducible apply State.setPort_kept
    | with_reducible apply State.setFld_kept
    | with_reducible apply State.setFlag_kept
    | with_reducible apply State.setSpan_kept
    | with_reducible apply State.raise_kept
    | with_reducible apply State.endRetrains_kept
    | with_reducible apply State.viaPortUp_kept

theorem State.setRate_kept {k : Nat} {r : Nat} (hk : Kept σ s) : Kept σ (State.setRate s k r) := by
  unfold State.setRate
  repeat' first
    | with_reducible assumption
    | intro _
    | with_reducible apply State.setFld_kept
    | with_reducible apply State.each_kept

theorem State.retrainPoint_kept {k : Nat} {stop : State → State} (hfstop : ∀ x0, Kept σ x0 → Kept σ (stop x0)) {go : State → State} (hfgo : ∀ x0, Kept σ x0 → Kept σ (go x0)) (hk : Kept σ s) : Kept σ (State.retrainPoint s k stop go) := by
  unfold State.retrainPoint
  repeat' first
    | with_reducible assumption
    | intro _
    | with_reducible apply State.endRetrains_kept
    | with_reducible apply Kept.ite
    | apply hfstop
    | apply hfgo

theorem State.upAt_kept {k : Nat} {r : Nat} (hk : Kept σ s) : Kept σ (State.upAt k r s) := by
  unfold State.upAt
  repeat' first
    | with_reducible assumption
    | intro _
    | with_reducible apply State.setRate_kept
    | with_reducible apply State.each_kept
    | with_reducible apply State.setFlag_kept
    | with_reducible apply State.spanComesUp_kept

theorem State.toWait_kept {k : Nat} (hk : Kept σ s) : Kept σ (State.toWait s k) := by
  unfold State.toWait
  repeat' first
    | with_reducible assumption
    | intro _
    | with_reducible apply State.setPort_kept
    | with_reducible apply State.setSpan_kept
    | with_reducible apply State.retrainPoint_kept
    | simp only [↓Kept.mk_iff]
    | (dsimp only [id]; assumption)

theorem State.bringUp_kept {k : Nat} (hk : Kept σ s) : Kept σ (State.bringUp s k) := by
  unfold State.bringUp
  repeat' first
    | with_reducible assumption
    | with_reducible apply State.setFld_kept
    | with_reducible apply State.toDetect_kept

theorem State.restartSpan_kept {k : Nat} {cause : Nat} (hk : Kept σ s) : Kept σ (State.restartSpan s k cause) := by
  unfold State.restartSpan
  repeat' first
    | with_reducible assumption
    | with_reducible apply State.leaveUp_kept
    | with_reducible apply State.toDetect_kept
    | with_reducible apply Kept.ite

theorem State.retune_kept {k : Nat} {r : Nat} {fallback : Bool} (hk : Kept σ s) : Kept σ (State.retune s k r fallback) := by
  unfold State.retune
  repeat' first
    | with_reducible assumption
    | intro _
    | with_reducible apply State.setRate_kept
    | with_reducible apply State.each_kept
    | with_reducible apply State.unlockLane_kept
    | with_reducible apply State.setPort_kept

theorem onCdrLock_kept {k : Fin 16} (hk : Kept σ s) : Kept σ (onCdrLock k s) := by
  unfold onCdrLock
  repeat' first
    | with_reducible assumption
    | intro _
    | with_reducible apply State.each_kept
    | with_reducible apply State.setFlag_kept
    | with_reducible apply State.setSpan_kept
    | with_reducible apply Kept.ite

theorem State.adaptLane_kept {i : Nat} (hk : Kept σ s) : Kept σ (State.adaptLane i s) := by
  unfold State.adaptLane
  repeat' first
    | with_reducible assumption
    | intro _
    | with_reducible apply State.setFld_kept
    | with_reducible apply State.draw_kept
    | with_reducible apply Kept.foldl
    | with_reducible apply Kept.foldl_fst
    | with_reducible apply Kept.ite

theorem State.sendStep_kept {k : Nat} {op : Nat} {rate : Nat} {arg : Nat} {taps : List Nat} (hk : Kept σ s) : Kept σ (State.sendStep s k op rate arg taps) := by
  unfold State.sendStep
  repeat' first
    | with_reducible assumption
    | with_reducible apply State.setPort_kept

theorem State.tuneLane_kept {k : Nat} {rate : Nat} {lane : Nat} (hk : Kept σ s) : Kept σ (State.tuneLane k rate lane s) := by
  unfold State.tuneLane
  repeat' first
    | with_reducible assumption
    | with_reducible apply State.adaptLane_kept
    | with_reducible apply State.draw_kept
    | with_reducible apply State.sendStep_kept

theorem onBlockLock_kept {k : Fin 16} {lanes : List LaneIn} (hk : Kept σ s) : Kept σ (onBlockLock k lanes s) := by
  unfold onBlockLock
  repeat' first
    | with_reducible assumption
    | intro _
    | with_reducible apply State.each_kept
    | with_reducible apply State.setFlag_kept
    | with_reducible apply State.setPort_kept
    | with_reducible apply State.setSpan_kept
    | with_reducible apply State.upAt_kept
    | with_reducible apply State.tuneLane_kept
    | with_reducible apply Kept.ite
    | simp only [↓Kept.mk_iff]
    | split

theorem onBlockLockLoss_kept {lane : Fin 128} {heads : List (BitVec 2)} (hk : Kept σ s) : Kept σ (onBlockLockLoss lane heads s) := by
  unfold onBlockLockLoss
  repeat' first
    | with_reducible assumption
    | with_reducible apply State.setFlag_kept
    | with_reducible apply State.spanDown_kept
    | with_reducible apply State.toWait_kept
    | with_reducible apply Kept.ite
    | split
    | dsimp only

theorem onBringupTimeout_kept {k : Fin 16} (hk : Kept σ s) : Kept σ (onBringupTimeout k s) := by
  unfold onBringupTimeout
  repeat' first
    | with_reducible assumption
    | with_reducible apply State.toWait_kept
    | with_reducible apply Kept.ite

theorem onWaitEnd_kept {k : Fin 16} (hk : Kept σ s) : Kept σ (onWaitEnd k s) := by
  unfold onWaitEnd
  repeat' first
    | with_reducible assumption
    | with_reducible apply State.toDetect_kept
    | with_reducible apply Kept.ite

theorem State.beginStep_kept {k : Nat} (hk : Kept σ s) : Kept σ (State.beginStep s k) := by
  unfold State.beginStep
  repeat' first
    | with_reducible assumption
    | with_reducible apply State.setFld_kept
    | with_reducible apply State.retune_kept
    | with_reducible apply Kept.ite

theorem State.propose_kept {k : Nat} (hk : Kept σ s) : Kept σ (State.propose k s) := by
  unfold State.propose
  repeat' first
    | with_reducible assumption
    | with_reducible apply State.sendStep_kept

theorem State.capEnd_kept {k : Nat} (hk : Kept σ s) : Kept σ (State.capEnd s k) := by
  unfold State.capEnd
  repeat' first
    | with_reducible assumption
    | intro _
    | with_reducible apply State.setFld_kept
    | with_reducible apply State.each_kept
    | with_reducible apply State.unlockLane_kept
    | with_reducible apply State.raise_kept
    | with_reducible apply State.setSpan_kept
    | with_reducible apply State.retrainPoint_kept
    | with_reducible apply State.upAt_kept
    | with_reducible apply State.propose_kept
    | with_reducible apply Kept.ite

theorem onCapPlankSend_kept {k : Fin 16} (hk : Kept σ s) : Kept σ (onCapPlankSend k s) := by
  unfold onCapPlankSend
  repeat' first
    | with_reducible assumption
    | intro _
    | with_reducible apply State.emit_kept
    | with_reducible apply State.setPort_kept
    | with_reducible apply State.capEnd_kept
    | with_reducible apply Kept.ite

theorem State.refusePlank_kept {k : Nat} {vc : Nat} {lseq : Nat} (hk : Kept σ s) : Kept σ (State.refusePlank s k vc lseq) := by
  unfold State.refusePlank
  repeat' first
    | with_reducible assumption
    | with_reducible apply State.setPort_kept
    | with_reducible apply Kept.ite

theorem State.discardPlank_kept {k : Nat} {long : Bool} {bs : List Byte} (hk : Kept σ s) : Kept σ (State.discardPlank s k long bs) := by
  unfold State.discardPlank
  repeat' first
    | with_reducible assumption
    | with_reducible apply State.refusePlank_kept
    | with_reducible apply Kept.ite

theorem State.receive_kept {k : Nat} {typ : Nat} {blocks : List Block} {f : List Byte → State → State} (hff : ∀ x0 x1, Kept σ x1 → Kept σ (f x0 x1)) (hk : Kept σ s) : Kept σ (State.receive s k typ blocks f) := by
  unfold State.receive
  repeat' first
    | with_reducible assumption
    | with_reducible apply State.bump_kept
    | with_reducible apply State.discardPlank_kept
    | with_reducible apply Kept.ite
    | apply hff
    | split

theorem onCapPlank_kept {k : Fin 16} {blocks : List Block} (hk : Kept σ s) : Kept σ (onCapPlank k blocks s) := by
  unfold onCapPlank
  repeat' first
    | with_reducible assumption
    | intro _
    | with_reducible apply State.receive_kept
    | with_reducible apply State.spanDown_kept
    | with_reducible apply State.setPort_kept
    | with_reducible apply State.setFld_kept
    | with_reducible apply State.capEnd_kept
    | with_reducible apply Kept.ite

theorem State.stepFail_kept {k : Nat} {st : Step} (hk : Kept σ s) : Kept σ (State.stepFail s k st) := by
  unfold State.stepFail
  repeat' first
    | with_reducible assumption
    | intro _
    | with_reducible apply State.setFld_kept
    | with_reducible apply State.retune_kept
    | with_reducible apply State.retrainPoint_kept
    | with_reducible apply State.upAt_kept
    | with_reducible apply Kept.ite

theorem State.stepDecide_kept {k : Nat} (hk : Kept σ s) : Kept σ (State.stepDecide s k) := by
  unfold State.stepDecide
  repeat' first
    | with_reducible assumption
    | intro _
    | with_reducible apply State.spanComesUp_kept
    | with_reducible apply State.retrainPoint_kept
    | with_reducible apply State.upAt_kept
    | with_reducible apply State.propose_kept
    | with_reducible apply State.setPort_kept
    | with_reducible apply State.stepFail_kept
    | with_reducible apply Kept.ite
    | simp only [↓Kept.mk_iff]
    | split

theorem onStepPropose_kept {k : Fin 16} {blocks : List Block} (hk : Kept σ s) : Kept σ (onStepPropose k blocks s) := by
  unfold onStepPropose
  repeat' first
    | with_reducible assumption
    | intro _
    | with_reducible apply State.receive_kept
    | with_reducible apply State.setPort_kept
    | with_reducible apply State.beginStep_kept
    | with_reducible apply Kept.ite

theorem State.sendControl_kept {k : Nat} {o : Output} {os : List Output} (hk : Kept σ s) : Kept σ (State.sendControl s k o os) := by
  unfold State.sendControl
  repeat' first
    | with_reducible assumption
    | with_reducible apply State.emit_kept
    | with_reducible apply State.setPort_kept
    | with_reducible apply State.beginStep_kept
    | with_reducible apply State.stepDecide_kept
    | with_reducible apply Kept.ite
    | simp only [↓Kept.mk_iff]
    | split

theorem onStepTxreq_kept {k : Fin 16} {blocks : List Block} (hk : Kept σ s) : Kept σ (onStepTxreq k blocks s) := by
  unfold onStepTxreq
  repeat' first
    | with_reducible assumption
    | intro _
    | with_reducible apply State.receive_kept
    | with_reducible apply State.setFld_kept
    | with_reducible apply Kept.ite

theorem onEyeCheckDone_kept {k : Fin 16} {points : List EyePoint} (hk : Kept σ s) : Kept σ (onEyeCheckDone k points s) := by
  unfold onEyeCheckDone
  repeat' first
    | with_reducible assumption
    | with_reducible apply State.setPort_kept
    | with_reducible apply State.raise_kept
    | with_reducible apply State.sendStep_kept
    | with_reducible apply Kept.ite
    | simp only [↓Kept.mk_iff]
    | split

theorem State.stepVote_kept {k : Nat} {accept : Bool} (hk : Kept σ s) : Kept σ (State.stepVote s k accept) := by
  unfold State.stepVote
  repeat' first
    | with_reducible assumption
    | with_reducible apply State.setPort_kept
    | with_reducible apply State.sendStep_kept
    | simp only [↓Kept.mk_iff]
    | split

theorem onStepResult_kept {k : Fin 16} {blocks : List Block} (hk : Kept σ s) : Kept σ (onStepResult k blocks s) := by
  unfold onStepResult
  repeat' first
    | with_reducible assumption
    | intro _
    | with_reducible apply State.receive_kept
    | with_reducible apply State.setPort_kept
    | with_reducible apply State.stepDecide_kept
    | with_reducible apply Kept.ite
    | simp only [↓Kept.mk_iff]
    | split

theorem onStepTimeout_kept {k : Fin 16} (hk : Kept σ s) : Kept σ (onStepTimeout k s) := by
  unfold onStepTimeout
  repeat' first
    | with_reducible assumption
    | with_reducible apply State.toWait_kept
    | with_reducible apply State.stepFail_kept
    | with_reducible apply Kept.ite
    | split

theorem State.setSpanEnable_kept {k : Nat} {en : Bool} (hk : Kept σ s) : Kept σ (State.setSpanEnable s k en) := by
  unfold State.setSpanEnable
  repeat' first
    | with_reducible assumption
    | intro _
    | with_reducible apply State.setFlag_kept
    | with_reducible apply State.bringUp_kept
    | with_reducible apply State.leaveUp_kept
    | with_reducible apply State.toDetect_kept
    | with_reducible apply State.setSpan_kept
    | with_reducible apply State.endRetrains_kept
    | with_reducible apply Kept.ite

theorem State.retrain_kept {k : Nat} {cause : Nat} (hk : Kept σ s) : Kept σ (State.retrain s k cause) := by
  unfold State.retrain
  repeat' first
    | with_reducible assumption
    | with_reducible apply State.leaveUp_kept
    | with_reducible apply State.toDetect_kept
    | with_reducible apply Kept.ite

theorem onCmdSpanRetrain_kept {q : Fin 24} {tag : Nat} (hk : Kept σ s) : Kept σ (onCmdSpanRetrain q tag s) := by
  unfold onCmdSpanRetrain
  repeat' first
    | with_reducible assumption
    | with_reducible apply State.finish_kept
    | with_reducible apply State.run_kept
    | with_reducible apply State.retrain_kept
    | with_reducible apply Kept.ite
    | split

theorem State.inject_kept {k : Nat} {vc : Nat} {crc : Bool} {link : Bool} (hk : Kept σ s) : Kept σ (State.inject s k vc crc link) := by
  unfold State.inject
  repeat' first
    | with_reducible assumption
    | with_reducible apply State.setPort_kept

theorem State.setLane_kept {i : Nat} {x : LaneSt} (hk : Kept σ s) : Kept σ (State.setLane s i x) := by
  unfold State.setLane
  repeat' first
    | with_reducible assumption
    | simp only [↓Kept.mk_iff]

theorem State.clearChecker_kept {lane : Nat} (hk : Kept σ s) : Kept σ (State.clearChecker s lane) := by
  unfold State.clearChecker
  repeat' first
    | with_reducible assumption
    | with_reducible apply State.setFlag_kept
    | with_reducible apply State.setLane_kept

theorem onPrbsLock_kept {lane : Fin 128} {l : List Bool} (hk : Kept σ s) : Kept σ (onPrbsLock lane l s) := by
  unfold onPrbsLock
  repeat' first
    | with_reducible assumption
    | with_reducible apply State.setFlag_kept
    | with_reducible apply State.bump_kept
    | with_reducible apply State.setPair_kept
    | with_reducible apply State.setLane_kept
    | with_reducible apply Kept.ite
    | simp only [↓Kept.mk_iff]
    | split

theorem State.startScan_kept {lane : Nat} (hk : Kept σ s) : Kept σ (State.startScan s lane) := by
  unfold State.startScan
  repeat' first
    | with_reducible assumption
    | with_reducible apply State.setFlag_kept
    | with_reducible apply State.setLane_kept

theorem onEyeScanDone_kept {lane : Fin 128} {count : Nat} (hk : Kept σ s) : Kept σ (onEyeScanDone lane count s) := by
  unfold onEyeScanDone
  repeat' first
    | with_reducible assumption
    | with_reducible apply State.setFld_kept
    | with_reducible apply State.setFlag_kept
    | with_reducible apply State.setLane_kept
    | with_reducible apply Kept.ite

theorem State.degrade_kept {k : Nat} (hk : Kept σ s) : Kept σ (State.degrade s k) := by
  unfold State.degrade
  repeat' first
    | with_reducible assumption
    | with_reducible apply State.setFlag_kept
    | with_reducible apply State.raise_kept
    | with_reducible apply Kept.ite

theorem State.startReplay_kept {k : Nat} {vc : Nat} (hk : Kept σ s) : Kept σ (State.startReplay s k vc) := by
  unfold State.startReplay
  repeat' first
    | with_reducible assumption
    | with_reducible apply State.bump_kept
    | with_reducible apply State.setPort_kept
    | with_reducible apply State.degrade_kept

theorem onFecUncorrectable_kept {lane : Fin 128} {symbols : List (BitVec 10)} (hk : Kept σ s) : Kept σ (onFecUncorrectable lane symbols s) := by
  unfold onFecUncorrectable
  repeat' first
    | with_reducible assumption
    | intro _
    | with_reducible apply State.bump_kept
    | with_reducible apply State.setPort_kept
    | with_reducible apply State.degrade_kept
    | with_reducible apply State.spanDown_kept
    | with_reducible apply Kept.ite
    | simp only [↓Kept.mk_iff]
    | split

theorem State.degradedFrame_kept {mask : Nat} {k : Nat} (hk : Kept σ s) : Kept σ (State.degradedFrame s mask k) := by
  unfold State.degradedFrame
  repeat' first
    | with_reducible assumption
    | with_reducible apply State.setFlag_kept
    | with_reducible apply State.setPort_kept
    | with_reducible apply State.spanDown_kept
    | with_reducible apply Kept.ite

theorem State.sendLink_kept {k : Nat} (hk : Kept σ s) : Kept σ (State.sendLink s k) := by
  unfold State.sendLink
  repeat' first
    | with_reducible assumption
    | with_reducible apply State.emit_kept
    | with_reducible apply State.setPort_kept
    | with_reducible apply Kept.ite

theorem State.emitData_kept {k : Nat} {vc : Nat} {p : Plank} (hk : Kept σ s) : Kept σ (State.emitData s k vc p) := by
  unfold State.emitData
  repeat' first
    | with_reducible assumption
    | with_reducible apply State.draw_kept
    | with_reducible apply State.emit_kept
    | with_reducible apply State.setPort_kept
    | with_reducible apply Kept.ite

theorem State.sendData_kept {k : Nat} {vc : Nat} (hk : Kept σ s) : Kept σ (State.sendData s k vc) := by
  unfold State.sendData
  repeat' first
    | with_reducible assumption
    | with_reducible apply State.setPort_kept
    | with_reducible apply State.emitData_kept
    | with_reducible apply State.setFld_kept
    | with_reducible apply State.releaseSlot_kept
    | with_reducible apply Kept.ite
    | simp only [↓Kept.mk_iff]
    | split

theorem onLinkPlankSend_kept {k : Fin 16} (hk : Kept σ s) : Kept σ (onLinkPlankSend k s) := by
  unfold onLinkPlankSend
  repeat' first
    | with_reducible assumption
    | with_reducible apply State.sendLink_kept
    | with_reducible apply Kept.ite

theorem State.takeAck_kept {k : Nat} {vc : Nat} {ack : Nat} (hk : Kept σ s) : Kept σ (State.takeAck s k vc ack) := by
  unfold State.takeAck
  repeat' first
    | with_reducible assumption
    | intro _
    | with_reducible apply State.setPort_kept

theorem State.takeNak_kept {k : Nat} {vc : Nat} {ack : Nat} {nak : Bool} (hk : Kept σ s) : Kept σ (State.takeNak s k vc ack nak) := by
  unfold State.takeNak
  repeat' first
    | with_reducible assumption
    | with_reducible apply State.startReplay_kept
    | with_reducible apply Kept.ite

theorem State.takeFreed_kept {k : Nat} {vc : Nat} {freed : Nat} (hk : Kept σ s) : Kept σ (State.takeFreed s k vc freed) := by
  unfold State.takeFreed
  repeat' first
    | with_reducible assumption
    | with_reducible apply State.setPort_kept
    | with_reducible apply State.setFld_kept

theorem State.vc1Gap_kept {k : Nat} {lseq : Nat} (hk : Kept σ s) : Kept σ (State.vc1Gap s k lseq) := by
  unfold State.vc1Gap
  repeat' first
    | with_reducible assumption
    | with_reducible apply State.bump_kept
    | with_reducible apply State.setPort_kept
    | with_reducible apply Kept.ite

theorem onLinkPlank_kept {k : Fin 16} {blocks : List Block} (hk : Kept σ s) : Kept σ (onLinkPlank k blocks s) := by
  unfold onLinkPlank
  repeat' first
    | with_reducible assumption
    | intro _
    | with_reducible apply State.receive_kept
    | with_reducible apply State.takeAck_kept
    | with_reducible apply State.takeNak_kept
    | with_reducible apply State.takeFreed_kept
    | with_reducible apply State.setPort_kept
    | with_reducible apply State.vc1Gap_kept
    | with_reducible apply Kept.ite

theorem onReplayTimeout_kept {k : Fin 16} {vc2 : Bool} (hk : Kept σ s) : Kept σ (onReplayTimeout k vc2 s) := by
  unfold onReplayTimeout
  repeat' first
    | with_reducible assumption
    | with_reducible apply State.startReplay_kept
    | with_reducible apply State.setPort_kept
    | with_reducible apply State.spanDown_kept
    | with_reducible apply Kept.ite

theorem onVc1StallTimeout_kept {k : Fin 16} (hk : Kept σ s) : Kept σ (onVc1StallTimeout k s) := by
  unfold onVc1StallTimeout
  repeat' first
    | with_reducible assumption
    | with_reducible apply State.bump_kept
    | with_reducible apply State.setPort_kept
    | with_reducible apply State.releaseSlot_kept
    | with_reducible apply State.raise_kept
    | with_reducible apply Kept.ite
    | simp only [↓Kept.mk_iff]
    | split

theorem onRouteWaitTimeout_kept {k : Fin 16} {vc2 : Bool} (hk : Kept σ s) : Kept σ (onRouteWaitTimeout k vc2 s) := by
  unfold onRouteWaitTimeout
  repeat' first
    | with_reducible assumption
    | intro _
    | with_reducible apply State.bump_kept
    | with_reducible apply State.setPort_kept
    | with_reducible apply State.releaseSlot_kept
    | with_reducible apply Kept.ite
    | simp only [↓Kept.mk_iff]
    | split

theorem State.deliver_kept {k : Nat} {m : Msg} (hk : Kept σ s) : Kept σ (State.deliver s k m) := by
  unfold State.deliver
  repeat' first
    | with_reducible assumption
    | intro _
    | with_reducible apply State.launch_kept
    | with_reducible apply State.relaunch_kept
    | with_reducible apply Kept.ite
    | simp only [↓Kept.mk_iff]
    | split

theorem State.takeSegment_kept {k : Nat} {x : Plank} (hk : Kept σ s) : Kept σ (State.takeSegment s k x) := by
  unfold State.takeSegment
  repeat' first
    | with_reducible assumption
    | intro _
    | with_reducible apply State.deliver_kept
    | with_reducible apply Kept.ite
    | simp only [↓Kept.mk_iff]
    | split

theorem State.learn_kept {k : Nat} {x : Plank} (hk : Kept σ s) : Kept σ (State.learn s k x) := by
  unfold State.learn
  repeat' first
    | with_reducible assumption
    | with_reducible apply State.setFld_kept
    | with_reducible apply State.setFlag_kept
    | with_reducible apply Kept.ite

theorem State.fillSlot_kept {k : Nat} {vc : Nat} {copies : Nat} (hk : Kept σ s) : Kept σ (State.fillSlot s k vc copies) := by
  unfold State.fillSlot
  repeat' first
    | with_reducible assumption
    | with_reducible apply State.setPort_kept

theorem State.broadcast_kept {k : Nat} {x : Plank} (hk : Kept σ s) : Kept σ (State.broadcast s k x) := by
  unfold State.broadcast
  repeat' first
    | with_reducible assumption
    | intro _
    | with_reducible apply State.fillSlot_kept
    | with_reducible apply State.queuePlank_kept
    | with_reducible apply State.takeSegment_kept
    | with_reducible apply State.releaseSlot_kept
    | with_reducible apply Kept.foldl
    | with_reducible apply Kept.foldl_fst
    | with_reducible apply Kept.ite
    | simp only [↓Kept.mk_iff]

theorem State.routeArrival_kept {k : Nat} {x : Plank} (hk : Kept σ s) : Kept σ (State.routeArrival s k x) := by
  unfold State.routeArrival
  repeat' first
    | with_reducible assumption
    | intro _
    | with_reducible apply State.learn_kept
    | with_reducible apply State.broadcast_kept
    | with_reducible apply State.fillSlot_kept
    | with_reducible apply State.takeSegment_kept
    | with_reducible apply State.releaseSlot_kept
    | with_reducible apply State.bump_kept
    | with_reducible apply State.routePlank_kept
    | with_reducible apply Kept.ite

theorem onDataPlank_kept {k : Fin 16} {blocks : List Block} (hk : Kept σ s) : Kept σ (onDataPlank k blocks s) := by
  unfold onDataPlank
  repeat' first
    | with_reducible assumption
    | intro _
    | with_reducible apply State.receive_kept
    | with_reducible apply State.setPort_kept
    | with_reducible apply State.routeArrival_kept
    | with_reducible apply State.refusePlank_kept
    | with_reducible apply Kept.ite

theorem onSpanFabricStop_kept (hk : Kept σ s) : Kept σ (onSpanFabricStop s) := by
  unfold onSpanFabricStop
  repeat' first
    | with_reducible assumption
    | with_reducible apply Kept.ite
    | simp only [↓Kept.mk_iff]

theorem State.joinBypass_kept (hk : Kept σ s) : Kept σ (State.joinBypass s) := by
  unfold State.joinBypass
  repeat' first
    | with_reducible assumption
    | intro _
    | with_reducible apply State.each_kept
    | with_reducible apply State.setFld_kept
    | with_reducible apply State.leaveUp_kept
    | with_reducible apply State.setFlag_kept
    | with_reducible apply State.setPort_kept
    | with_reducible apply State.setSpan_kept
    | with_reducible apply Kept.ite
    | simp only [↓Kept.mk_iff]

theorem onBypassEnter_kept (hk : Kept σ s) : Kept σ (onBypassEnter s) := by
  unfold onBypassEnter
  repeat' first
    | with_reducible assumption
    | with_reducible apply State.joinBypass_kept
    | with_reducible apply Kept.ite

theorem onBypassExit_kept (hk : Kept σ s) : Kept σ (onBypassExit s) := by
  unfold onBypassExit
  repeat' first
    | with_reducible assumption
    | intro _
    | with_reducible apply State.each_kept
    | with_reducible apply State.toDetect_kept
    | with_reducible apply State.setSpan_kept
    | with_reducible apply Kept.ite
    | simp only [↓Kept.mk_iff]

end Sys2Proof.Machine
end

