-- ==== Sys2Proof/Laws/KeptLedger.lean ====
section
/-! SUPPORT. What the operations of Machine/Ledger.lean keep. -/

namespace Sys2Proof.Machine

variable {σ s : State}

theorem State.audit_kept {q : Nat} (hk : Kept σ s) : Kept σ (State.audit s q) := by
  unfold State.audit
  repeat' first
    | with_reducible assumption
    | intro _
    | with_reducible apply State.bump_kept
    | with_reducible apply State.setFld_kept
    | with_reducible apply State.draw_kept
    | with_reducible apply State.raise_kept
    | with_reducible apply Kept.ite
    | simp only [↓Kept.mk_iff]
    | split

theorem onLedgerAudit_kept (hk : Kept σ s) : Kept σ (onLedgerAudit s) := by
  unfold onLedgerAudit
  repeat' first
    | with_reducible assumption
    | intro _
    | with_reducible apply State.audit_kept
    | with_reducible apply Kept.foldl
    | with_reducible apply Kept.foldl_fst
    | with_reducible apply Kept.ite
    | simp only [↓Kept.mk_iff]

theorem onCmdLdgAudit_kept {q : Fin 24} {tag : Nat} (hk : Kept σ s) : Kept σ (onCmdLdgAudit q tag s) := by
  unfold onCmdLdgAudit
  repeat' first
    | with_reducible assumption
    | intro _
    | with_reducible apply State.audit_kept
    | with_reducible apply State.finish_kept
    | with_reducible apply Kept.foldl
    | with_reducible apply Kept.foldl_fst
    | with_reducible apply Kept.ite
    | split

theorem State.ldgFrame_kept (hk : Kept σ s) : Kept σ (State.ldgFrame s) := by
  unfold State.ldgFrame
  repeat' first
    | with_reducible assumption
    | with_reducible apply State.setFld_kept
    | with_reducible apply State.bump_kept
    | with_reducible apply Kept.ite
    | simp only [↓Kept.mk_iff]

theorem State.clearAudits_kept (hk : Kept σ s) : Kept σ (State.clearAudits s) := by
  unfold State.clearAudits
  repeat' first
    | with_reducible assumption
    | intro _
    | with_reducible apply State.setWord_kept
    | with_reducible apply Kept.foldl

theorem State.ldgReset_kept (hk : Kept σ s) : Kept σ (State.ldgReset s) := by
  unfold State.ldgReset
  repeat' first
    | with_reducible assumption
    | with_reducible apply State.clearAudits_kept
    | with_reducible apply State.setFld_kept
    | simp only [↓Kept.mk_iff]

end Sys2Proof.Machine
end

