-- ==== Sys2Proof/Laws/KeptFwu.lean ====
section
/-! SUPPORT. What the operations of Machine/Fwu.lean keep. -/

namespace Sys2Proof.Machine

variable {σ s : State}

theorem State.flashPut_kept {a : Nat} {bs : List Byte} (hk : Kept σ s) : Kept σ (s.flashPut a bs) := by
  refine hk.trans ⟨rfl, List.suffix_refl _, le_rfl, rfl, Fuses.follows_refl _, ?_, id⟩
  rintro ⟨h1, h2, h3, h4, h5, h6⟩
  exact ⟨h1, h2, h3, h4, Memory.wf_putBlock _ _ h5, h6⟩

theorem State.flashErase_kept {a n : Nat} (hk : Kept σ s) : Kept σ (s.flashErase a n) := by
  refine hk.trans ⟨rfl, List.suffix_refl _, le_rfl, rfl, Fuses.follows_refl _, ?_, id⟩
  rintro ⟨h1, h2, h3, h4, h5, h6⟩
  exact ⟨h1, h2, h3, h4, Memory.wf_clear _ _ h5, h6⟩

theorem State.showSlots_kept (hk : Kept σ s) : Kept σ (State.showSlots s) := by
  unfold State.showSlots
  repeat' first
    | with_reducible assumption
    | intro _
    | with_reducible apply State.setFld_kept
    | with_reducible apply Kept.foldl

theorem State.putSlotState_kept {i : Nat} {v : Nat} (hk : Kept σ s) : Kept σ (State.putSlotState s i v) := by
  unfold State.putSlotState
  repeat' first
    | with_reducible assumption
    | with_reducible apply State.flashPut_kept
    | with_reducible apply State.showSlots_kept

theorem State.putSettings_kept {i : Nat} {fmt : Nat} {carry : List Byte} {removed : List Byte} {body : List Byte} (hk : Kept σ s) : Kept σ (State.putSettings s i fmt carry removed body) := by
  unfold State.putSettings
  repeat' first
    | with_reducible assumption
    | with_reducible apply State.unitRun_kept
    | with_reducible apply State.flashErase_kept
    | with_reducible apply State.flashPut_kept

theorem State.saveSettings_kept (hk : Kept σ s) : Kept σ (State.saveSettings s) := by
  unfold State.saveSettings
  repeat' first
    | with_reducible assumption
    | with_reducible apply State.putSettings_kept
    | with_reducible apply Kept.ite
    | simp only [↓Kept.mk_iff]
    | split

theorem onRemovedSave_kept (hk : Kept σ s) : Kept σ (onRemovedSave s) := by
  unfold onRemovedSave
  repeat' first
    | with_reducible assumption
    | with_reducible apply State.saveSettings_kept
    | with_reducible apply Kept.ite

theorem State.freeBytes_kept {n : Nat} (hk : Kept σ s) : Kept σ (s.freeBytes n).2 :=
  Kept.drawn_le (mem := s.mem) (Nat.le_add_right _ _) rfl rfl hk

theorem State.freeBytes_kept' {n : Nat} {τ : State} {x0} (he : s.freeBytes n = (x0, τ)) (hk : Kept σ s) : Kept σ τ := by
  have := State.freeBytes_kept (n := n) hk
  rwa [he] at this

theorem State.freeBody_kept (hk : Kept σ s) : Kept σ (State.freeBody s).2 := by
  unfold State.freeBody
  repeat' first
    | with_reducible assumption
    | with_reducible apply State.draw_kept
    | with_reducible apply State.freeBytes_kept

theorem State.freeBody_kept' {τ : State} {x0} (he : State.freeBody s = (x0, τ)) (hk : Kept σ s) : Kept σ τ := by
  have := State.freeBody_kept (hk := hk)
  rwa [he] at this

theorem State.carrySettings_kept {i : Nat} (hk : Kept σ s) : Kept σ (State.carrySettings s i).1 := by
  unfold State.carrySettings
  repeat' first
    | with_reducible assumption
    | intro _
    | with_reducible apply State.putSettings_kept
    | with_reducible apply State.freeBody_kept
    | with_reducible refine State.freeBody_kept' (he := by assumption) ?_
    | with_reducible apply Kept.ite
    | split
    | dsimp only

theorem State.carrySettings_kept' {i : Nat} {τ : State} {x0} (he : State.carrySettings s i = (τ, x0)) (hk : Kept σ s) : Kept σ τ := by
  have := State.carrySettings_kept (hk := hk) (i := i)
  rwa [he] at this

theorem State.takeSettings_kept {i : Nat} (hk : Kept σ s) : Kept σ (State.takeSettings s i) := by
  unfold State.takeSettings
  repeat' first
    | with_reducible assumption
    | intro _
    | with_reducible apply State.setPair_kept
    | with_reducible apply State.setFld_kept
    | with_reducible apply State.setRemoved_kept
    | with_reducible apply Kept.foldl
    | with_reducible apply Kept.foldl_fst
    | with_reducible apply Kept.ite
    | simp only [↓Kept.mk_iff]
    | split

theorem State.strWrite_kept {a : Nat} {v : Nat} (hk : Kept σ s) : Kept σ (State.strWrite s a v) := by
  unfold State.strWrite
  repeat' first
    | with_reducible assumption
    | intro _
    | with_reducible apply State.setWord_kept
    | with_reducible apply Kept.foldl
    | with_reducible apply Kept.foldl_fst
    | with_reducible apply Kept.ite
    | split

theorem State.prepareSafe_kept (hk : Kept σ s) : Kept σ s.prepareSafe := by
  unfold State.prepareSafe
  split
  · exact hk
  · dsimp only
    split
    · refine State.raise_kept ?_
      simp only [↓Kept.mk_iff]
      exact State.setFlag_kept hk
    · simp only [↓Kept.mk_iff]
      refine State.setFlag_kept (State.hardMark_kept (Kept.foldl _ (fun _ _ h => State.strWrite_kept h) ?_))
      exact Kept.deck (fun h => Memory.wf_putBlock _ _ (Memory.wf_clear _ _ (Memory.wf_putBlock _ _ (Memory.wf_clear _ _ h)))) hk

theorem State.showXfer_kept (hk : Kept σ s) : Kept σ (State.showXfer s) := by
  unfold State.showXfer
  repeat' first
    | with_reducible assumption
    | with_reducible apply State.setFld_kept

theorem State.forwardDone_kept (hk : Kept σ s) : Kept σ (State.forwardDone s) := by
  unfold State.forwardDone
  repeat' first
    | with_reducible assumption
    | with_reducible apply State.finish_kept
    | with_reducible apply Kept.ite
    | simp only [↓Kept.mk_iff]
    | split

theorem State.dropTransfers_kept (hk : Kept σ s) : Kept σ (State.dropTransfers s) := by
  unfold State.dropTransfers
  repeat' first
    | with_reducible assumption
    | with_reducible apply State.showXfer_kept
    | with_reducible apply State.forwardDone_kept
    | simp only [↓Kept.mk_iff]

theorem State.restartTollhouse_kept (hk : Kept σ s) : Kept σ (State.restartTollhouse s) := by
  unfold State.restartTollhouse
  repeat' first
    | with_reducible assumption
    | with_reducible apply State.dropTransfers_kept
    | simp only [↓Kept.mk_iff]

theorem onTollhouseRestart_kept (hk : Kept σ s) : Kept σ (onTollhouseRestart s) := by
  unfold onTollhouseRestart
  repeat' first
    | with_reducible assumption
    | with_reducible apply State.restartTollhouse_kept
    | with_reducible apply Kept.ite

theorem State.dropTried_kept {i : Nat} (hk : Kept σ s) : Kept σ (State.dropTried s i) := by
  unfold State.dropTried
  repeat' first
    | with_reducible assumption
    | with_reducible apply State.putSlotState_kept
    | with_reducible apply State.raise_kept
    | with_reducible apply Kept.ite

theorem State.chooseSlot_cons (s : State) (i : Nat) (is : List Nat) : s.chooseSlot (i :: is) =
    (match s.imageCheck (s.slotRead i) with
     | none => (s, some i)
     | some _ => if s.isPeer then s.chooseSlot is
        else ((s.putSlotState i slBad).raise 0x1507 [(16, 1, i), (17, 1, 2)]).chooseSlot is) := by rfl

theorem State.chooseSlot_kept {is : List Nat} (hk : Kept σ s) : Kept σ (s.chooseSlot is).1 := by
  induction is generalizing s with
  | nil => exact hk
  | cons i is ih =>
    rw [State.chooseSlot_cons]
    generalize s.imageCheck (s.slotRead i) = c
    cases c with
    | none => exact hk
    | some c =>
      dsimp only
      split
      · exact ih hk
      · exact ih (State.raise_kept (State.putSlotState_kept hk))

theorem State.chooseSlot_kept' {is : List Nat} {τ : State} {x0} (he : s.chooseSlot is = (τ, x0)) (hk : Kept σ s) : Kept σ τ := by
  have := State.chooseSlot_kept (is := is) hk
  rwa [he] at this

theorem State.startFirmware_kept {i : Nat} (hk : Kept σ s) : Kept σ (State.startFirmware s i) := by
  unfold State.startFirmware
  repeat' first
    | with_reducible assumption
    | with_reducible apply State.putSlotState_kept
    | with_reducible apply State.setFld_kept
    | with_reducible apply State.setFlag_kept
    | with_reducible apply State.showSlots_kept
    | with_reducible apply State.carrySettings_kept
    | with_reducible refine State.carrySettings_kept' (he := by assumption) ?_
    | with_reducible apply State.takeSettings_kept
    | with_reducible apply State.raise_kept
    | with_reducible apply State.usePresent_kept
    | with_reducible apply State.prepareSafe_kept
    | with_reducible apply Kept.ite
    | simp only [↓Kept.mk_iff]
    | split

theorem State.enterRecovery_kept (hk : Kept σ s) : Kept σ (State.enterRecovery s) := by
  unfold State.enterRecovery
  repeat' first
    | with_reducible assumption
    | intro _
    | with_reducible apply State.setFld_kept
    | with_reducible apply State.setFlag_kept
    | with_reducible apply State.showSlots_kept
    | with_reducible apply State.setSpanEnable_kept
    | with_reducible apply State.usePresent_kept
    | with_reducible apply State.showStr_kept
    | with_reducible apply State.raiseHeld_kept
    | with_reducible apply Kept.foldl
    | with_reducible apply Kept.foldl_fst
    | simp only [↓Kept.mk_iff]

theorem onTollhouseStart_kept (hk : Kept σ s) : Kept σ (onTollhouseStart s) := by
  unfold onTollhouseStart
  repeat' first
    | with_reducible assumption
    | with_reducible apply State.dropTried_kept
    | with_reducible apply State.chooseSlot_kept
    | with_reducible refine State.chooseSlot_kept' (he := by assumption) ?_
    | with_reducible apply State.startFirmware_kept
    | with_reducible apply State.enterRecovery_kept
    | with_reducible apply Kept.ite
    | split
    | dsimp only

theorem State.setOffer_kept {k : Nat} {x : FwuOffer} (hk : Kept σ s) : Kept σ (State.setOffer s k x) := by
  unfold State.setOffer
  repeat' first
    | with_reducible assumption
    | simp only [↓Kept.mk_iff]

theorem State.pushOne_kept {k : Nat} (hk : Kept σ s) : Kept σ (State.pushOne s k) := by
  unfold State.pushOne
  repeat' first
    | with_reducible assumption
    | with_reducible apply State.setOffer_kept
    | with_reducible apply State.sendMsg_kept
    | with_reducible apply Kept.ite
    | simp only [↓Kept.mk_iff]
    | split

theorem State.push_kept {k : Nat} (hk : Kept σ s) : Kept σ (State.push s k) := by
  unfold State.push
  repeat' first
    | with_reducible assumption
    | intro _
    | with_reducible apply State.pushOne_kept
    | with_reducible apply Kept.foldl

theorem State.offerOn_kept {i : Nat} {k : Nat} (hk : Kept σ s) : Kept σ (State.offerOn s i k) := by
  unfold State.offerOn
  repeat' first
    | with_reducible assumption
    | with_reducible apply State.setOffer_kept
    | with_reducible apply State.sendMsg_kept
    | with_reducible apply State.showXfer_kept
    | with_reducible apply Kept.ite

theorem State.offerAll_kept {i : Nat} {src : Nat} (hk : Kept σ s) : Kept σ (State.offerAll s i src) := by
  unfold State.offerAll
  repeat' first
    | with_reducible assumption
    | intro _
    | with_reducible apply State.offerOn_kept
    | with_reducible apply Kept.foldl
    | with_reducible apply Kept.foldl_fst
    | with_reducible apply Kept.ite

theorem State.endOffer_kept {k : Nat} {took : Bool} (hk : Kept σ s) : Kept σ (State.endOffer s k took) := by
  unfold State.endOffer
  repeat' first
    | with_reducible assumption
    | intro _
    | with_reducible apply State.showXfer_kept
    | with_reducible apply State.forwardDone_kept
    | with_reducible apply Kept.ite
    | simp only [↓Kept.mk_iff]

theorem State.offerAnswer_kept {k : Nat} {bs : List Byte} (hk : Kept σ s) : Kept σ (State.offerAnswer s k bs) := by
  unfold State.offerAnswer
  repeat' first
    | with_reducible assumption
    | with_reducible apply State.setOffer_kept
    | with_reducible apply State.push_kept
    | with_reducible apply State.endOffer_kept
    | with_reducible apply Kept.ite
    | simp only [↓Kept.mk_iff]
    | split

theorem State.chunkAnswer_kept {k : Nat} {sent : List Byte} {bs : List Byte} (hk : Kept σ s) : Kept σ (State.chunkAnswer s k sent bs) := by
  unfold State.chunkAnswer
  repeat' first
    | with_reducible assumption
    | with_reducible apply State.setOffer_kept
    | with_reducible apply State.push_kept
    | with_reducible apply State.sendMsg_kept
    | with_reducible apply Kept.ite
    | simp only [↓Kept.mk_iff]
    | split

theorem State.endAnswer_kept {k : Nat} {bs : List Byte} (hk : Kept σ s) : Kept σ (State.endAnswer s k bs) := by
  unfold State.endAnswer
  repeat' first
    | with_reducible assumption
    | with_reducible apply State.endOffer_kept
    | with_reducible apply Kept.ite

theorem onOfferRetry_kept (hk : Kept σ s) : Kept σ (onOfferRetry s) := by
  unfold onOfferRetry
  repeat' first
    | with_reducible assumption
    | intro _
    | with_reducible apply State.setOffer_kept
    | with_reducible apply State.sendMsg_kept
    | with_reducible apply Kept.foldl
    | with_reducible apply Kept.foldl_fst
    | with_reducible apply Kept.ite
    | simp only [↓Kept.mk_iff]
    | split

theorem onCmdFwuForward_kept {q : Fin 24} {tag : Nat} (hk : Kept σ s) : Kept σ (onCmdFwuForward q tag s) := by
  unfold onCmdFwuForward
  repeat' first
    | with_reducible assumption
    | intro _
    | with_reducible apply State.finish_kept
    | with_reducible apply State.run_kept
    | with_reducible apply State.offerOn_kept
    | with_reducible apply State.forwardDone_kept
    | with_reducible apply Kept.foldl
    | with_reducible apply Kept.foldl_fst
    | with_reducible apply Kept.ite
    | simp only [↓Kept.mk_iff]
    | split

theorem State.forwardStop_kept {c : Cmd} (hk : Kept σ s) : Kept σ (State.forwardStop s c) := by
  unfold State.forwardStop
  repeat' first
    | with_reducible assumption
    | intro _
    | with_reducible apply State.showXfer_kept
    | with_reducible apply State.finish_kept
    | with_reducible apply Kept.ite
    | simp only [↓Kept.mk_iff]

theorem State.imagePut_kept {i : Nat} {off : Nat} {bs : List Byte} (hk : Kept σ s) : Kept σ (State.imagePut s i off bs) := by
  unfold State.imagePut
  repeat' first
    | with_reducible assumption
    | intro _
    | with_reducible apply State.flashPut_kept

theorem State.putTrial_kept {i : Nat} (hk : Kept σ s) : Kept σ (State.putTrial s i) := by
  unfold State.putTrial
  repeat' first
    | with_reducible assumption
    | with_reducible apply State.flashPut_kept
    | with_reducible apply State.putSlotState_kept

theorem State.eraseSlot_kept {i : Nat} (hk : Kept σ s) : Kept σ (State.eraseSlot s i) := by
  unfold State.eraseSlot
  repeat' first
    | with_reducible assumption
    | with_reducible apply State.flashErase_kept
    | with_reducible apply State.setFld_kept
    | with_reducible apply State.showSlots_kept

theorem State.offerCut_kept {i : Nat} {k : Nat} (hk : Kept σ s) : Kept σ (State.offerCut s i k) := by
  unfold State.offerCut
  repeat' first
    | with_reducible assumption
    | with_reducible apply State.offerAll_kept
    | with_reducible apply Kept.ite

theorem onOffer_kept (hk : Kept σ s) : Kept σ (onOffer s) := by
  unfold onOffer
  repeat' first
    | with_reducible assumption
    | intro _
    | with_reducible apply State.onMsg_kept
    | with_reducible apply State.respond_kept
    | with_reducible apply State.eraseSlot_kept
    | with_reducible apply State.offerCut_kept
    | with_reducible apply State.showXfer_kept
    | with_reducible apply Kept.ite
    | simp only [↓Kept.mk_iff]

theorem State.rejectImage_kept {port : Nat} {st : Nat} (hk : Kept σ s) : Kept σ (State.rejectImage s port st) := by
  unfold State.rejectImage
  repeat' first
    | with_reducible assumption
    | with_reducible apply State.setFld_kept
    | with_reducible apply State.raise_kept
    | with_reducible apply State.showXfer_kept
    | with_reducible apply Kept.ite
    | simp only [↓Kept.mk_iff]

theorem onChunk_kept {bad : Fin 3} (hk : Kept σ s) : Kept σ (onChunk bad s) := by
  unfold onChunk
  repeat' first
    | with_reducible assumption
    | intro _
    | with_reducible apply State.onMsg_kept
    | with_reducible apply State.respond_kept
    | with_reducible apply State.rejectImage_kept
    | with_reducible apply State.imagePut_kept
    | with_reducible apply State.setFld_kept
    | with_reducible apply State.unitRun_kept
    | with_reducible apply State.offerCut_kept
    | with_reducible apply State.push_kept
    | with_reducible apply Kept.foldl
    | with_reducible apply Kept.foldl_fst
    | with_reducible apply Kept.ite
    | split

theorem onFwuEnd_kept (hk : Kept σ s) : Kept σ (onFwuEnd s) := by
  unfold onFwuEnd
  repeat' first
    | with_reducible assumption
    | intro _
    | with_reducible apply State.onMsg_kept
    | with_reducible apply State.respond_kept
    | with_reducible apply State.endOffer_kept
    | with_reducible apply State.rejectImage_kept
    | with_reducible apply State.putSlotState_kept
    | with_reducible apply State.raise_kept
    | with_reducible apply State.putTrial_kept
    | with_reducible apply State.setFlag_kept
    | with_reducible apply State.restartTollhouse_kept
    | with_reducible apply State.push_kept
    | with_reducible apply State.offerOn_kept
    | with_reducible apply State.showXfer_kept
    | with_reducible apply Kept.foldl
    | with_reducible apply Kept.foldl_fst
    | with_reducible apply Kept.ite
    | simp only [↓Kept.mk_iff]
    | split

theorem onCmdFwuWrite_kept {q : Fin 24} {tag : Nat} (hk : Kept σ s) : Kept σ (onCmdFwuWrite q tag s) := by
  unfold onCmdFwuWrite
  repeat' first
    | with_reducible assumption
    | with_reducible apply State.finish_kept
    | with_reducible apply State.eraseSlot_kept
    | with_reducible apply State.imagePut_kept
    | with_reducible apply State.setFld_kept
    | with_reducible apply State.putSlotState_kept
    | with_reducible apply Kept.ite
    | simp only [↓Kept.mk_iff]
    | split

theorem State.fwuWriteStop_kept {c : Cmd} {n : Nat} (hk : Kept σ s) : Kept σ (State.fwuWriteStop s c n) := by
  unfold State.fwuWriteStop
  repeat' first
    | with_reducible assumption
    | with_reducible apply State.eraseSlot_kept
    | with_reducible apply State.imagePut_kept
    | with_reducible apply State.setFld_kept
    | with_reducible apply State.finish_kept
    | with_reducible apply Kept.ite
    | simp only [↓Kept.mk_iff]

theorem State.schedule_kept {at' : Nat} (hk : Kept σ s) : Kept σ (State.schedule s at') := by
  unfold State.schedule
  repeat' first
    | with_reducible assumption
    | with_reducible apply State.setPair_kept
    | with_reducible apply State.setFlag_kept

theorem onCmdFwuActivate_kept {q : Fin 24} {tag : Nat} (hk : Kept σ s) : Kept σ (onCmdFwuActivate q tag s) := by
  unfold onCmdFwuActivate
  repeat' first
    | with_reducible assumption
    | with_reducible apply State.finish_kept
    | with_reducible apply State.schedule_kept
    | with_reducible apply State.sendMsg_kept
    | with_reducible apply Kept.ite
    | split

theorem onActivate_kept (hk : Kept σ s) : Kept σ (onActivate s) := by
  unfold onActivate
  repeat' first
    | with_reducible assumption
    | intro _
    | with_reducible apply State.onMsg_kept
    | with_reducible apply State.raise_kept
    | with_reducible apply State.schedule_kept
    | with_reducible apply Kept.ite

theorem onCmdFwuCancel_kept {q : Fin 24} {tag : Nat} (hk : Kept σ s) : Kept σ (onCmdFwuCancel q tag s) := by
  unfold onCmdFwuCancel
  repeat' first
    | with_reducible assumption
    | with_reducible apply State.setPair_kept
    | with_reducible apply State.setFlag_kept
    | with_reducible apply State.finish_kept
    | split

theorem State.activateDue_kept (hk : Kept σ s) : Kept σ (State.activateDue s) := by
  unfold State.activateDue
  repeat' first
    | with_reducible assumption
    | with_reducible apply State.setPair_kept
    | with_reducible apply State.setFlag_kept
    | with_reducible apply State.putTrial_kept
    | with_reducible apply State.restartTollhouse_kept
    | with_reducible apply Kept.ite

theorem onFwuActivateAt_kept (hk : Kept σ s) : Kept σ (onFwuActivateAt s) := by
  unfold onFwuActivateAt
  repeat' first
    | with_reducible assumption
    | with_reducible apply State.activateDue_kept
    | with_reducible apply Kept.ite

theorem State.commitSlot_kept {i : Nat} (hk : Kept σ s) : Kept σ (State.commitSlot s i) := by
  unfold State.commitSlot
  repeat' first
    | with_reducible assumption
    | with_reducible apply State.putSlotState_kept
    | with_reducible apply State.raise_kept

theorem onFwCommitTimer_kept (hk : Kept σ s) : Kept σ (onFwCommitTimer s) := by
  unfold onFwCommitTimer
  repeat' first
    | with_reducible assumption
    | with_reducible apply State.commitSlot_kept
    | with_reducible apply Kept.ite
    | split

theorem onCmdFwuCommit_kept {q : Fin 24} {tag : Nat} (hk : Kept σ s) : Kept σ (onCmdFwuCommit q tag s) := by
  unfold onCmdFwuCommit
  repeat' first
    | with_reducible assumption
    | intro _
    | with_reducible apply State.finish_kept
    | with_reducible apply State.commitSlot_kept
    | with_reducible apply Kept.ite
    | split

theorem onCmdFwuFallback_kept {q : Fin 24} {tag : Nat} (hk : Kept σ s) : Kept σ (onCmdFwuFallback q tag s) := by
  unfold onCmdFwuFallback
  repeat' first
    | with_reducible assumption
    | intro _
    | with_reducible apply State.finish_kept
    | with_reducible apply State.putSlotState_kept
    | with_reducible apply State.raise_kept
    | with_reducible apply State.restartTollhouse_kept
    | with_reducible apply Kept.ite
    | split

theorem onCmdFwuSvnRaise_kept {q : Fin 24} {tag : Nat} (hk : Kept σ s) : Kept σ (onCmdFwuSvnRaise q tag s) := by
  unfold onCmdFwuSvnRaise
  split
  · exact hk
  · dsimp only
    split
    · exact State.finish_kept hk
    · rename_i h
      exact State.finish_kept (Kept.fuseFwSvn (by simp only [not_or, Nat.not_lt] at h; exact h.1) (State.setFld_kept hk))

theorem onRecoverReq_kept (hk : Kept σ s) : Kept σ (onRecoverReq s) := by
  unfold onRecoverReq
  repeat' first
    | with_reducible assumption
    | intro _
    | with_reducible apply State.onMsg_kept
    | with_reducible apply State.offerOn_kept
    | with_reducible apply Kept.ite
    | split

theorem onRecoverReqSend_kept (hk : Kept σ s) : Kept σ (onRecoverReqSend s) := by
  unfold onRecoverReqSend
  repeat' first
    | with_reducible assumption
    | intro _
    | with_reducible apply State.sendMsg_kept
    | with_reducible apply Kept.foldl
    | with_reducible apply Kept.foldl_fst
    | with_reducible apply Kept.ite
    | simp only [↓Kept.mk_iff]

theorem State.recoverGo_kept {bad : Fin 3} (hk : Kept σ s) : Kept σ (State.recoverGo s bad) := by
  unfold State.recoverGo
  repeat' first
    | with_reducible assumption
    | intro _
    | with_reducible apply State.setFld_kept
    | with_reducible apply State.eraseSlot_kept
    | with_reducible apply State.imagePut_kept
    | with_reducible apply State.unitRun_kept
    | with_reducible apply State.putSlotState_kept
    | with_reducible apply State.putTrial_kept
    | with_reducible apply State.setFlag_kept
    | with_reducible apply State.restartTollhouse_kept
    | with_reducible apply Kept.ite
    | split
    | dsimp only

theorem State.fwuReset_kept (hk : Kept σ s) : Kept σ (State.fwuReset s) := by
  unfold State.fwuReset
  repeat' first
    | with_reducible assumption
    | with_reducible apply State.showXfer_kept
    | simp only [↓Kept.mk_iff]

end Sys2Proof.Machine
end

