-- ==== Sys2Proof/Laws/KeptPower.lean ====
section
/-! SUPPORT. What the operations of Machine/Power.lean keep. -/

namespace Sys2Proof.Machine

variable {σ s : State}

theorem State.holdReset_kept {cause : Nat} {supply : Nat} {keep : Bool} (hk : Kept σ s) : Kept σ (State.holdReset s cause supply keep) := by
  unfold State.holdReset
  repeat' first
    | with_reducible assumption
    | with_reducible apply onSpanFabricStop_kept
    | with_reducible apply Kept.ite
    | simp only [↓Kept.mk_iff]

theorem bootRegs_rising (f : Fuses) (p : Pins) (cause supply : Nat) : Sparse.rising (bootRegs f p cause supply) = true := by
  have fold : ∀ (l : List (Nat × Nat)) (m : Sparse Word), Sparse.rising m = true →
      Sparse.rising (l.foldl (fun m e => Sparse.set m e.1 (BitVec.ofNat 32 e.2)) m) = true := by
    intro l
    induction l with
    | nil => exact fun _ h => h
    | cons e l ih => exact fun m h => ih _ (Sparse.rising_set _ _ h)
  unfold bootRegs
  exact fold (bootWords f p cause supply) [] (by simp [Sparse.rising])

theorem State.rebooted_canon {cause supply : Nat} (h : s.Canon) : (s.rebooted cause supply).Canon := by
  obtain ⟨h1, -, -, h4, h5, -⟩ := h
  unfold State.rebooted State.boot State.Canon
  dsimp only [HostSt.reset, MemSt.reset]
  refine ⟨h1, Memory.wf_nil _, Memory.wf_nil _, ?_, h5, bootRegs_rising _ _ _ _⟩
  split
  · exact h4
  · exact Memory.wf_nil _

theorem State.rebooted_kept {cause supply : Nat} (hk : Kept σ s) : Kept σ (s.rebooted cause supply) := by
  refine hk.trans (Kept.mk ?_ ?_ ?_ ?_ ?_ State.rebooted_canon (fun _ d hd => ?_)) <;> unfold State.rebooted State.boot at * <;> dsimp only at *
  · exact List.suffix_refl _
  · exact Nat.le_refl _
  · exact Fuses.follows_refl _
  · cases hd

theorem State.deviceReset_kept {cause : Nat} {supply : Nat} (hk : Kept σ s) : Kept σ (State.deviceReset s cause supply) := by
  unfold State.deviceReset
  repeat' first
    | with_reducible assumption
    | intro _
    | with_reducible apply State.rebooted_kept
    | with_reducible apply State.setFlag_kept
    | with_reducible apply State.setFld_kept
    | with_reducible apply Kept.foldl
    | with_reducible apply Kept.foldl_fst
    | with_reducible apply Kept.ite

theorem State.loseExt_kept (hk : Kept σ s) : Kept σ s.loseExt :=
  hk.trans ⟨rfl, List.suffix_refl _, le_rfl, rfl, Fuses.follows_refl _,
    fun ⟨h1, h2, h3, _, h5, h6⟩ => ⟨h1, h2, h3, Memory.wf_nil _, h5, h6⟩, id⟩

theorem onDeviceResetEnd_kept (hk : Kept σ s) : Kept σ (onDeviceResetEnd s) := by
  unfold onDeviceResetEnd
  repeat' first
    | with_reducible assumption
    | with_reducible apply State.deviceReset_kept
    | split

theorem State.losePairs_kept (hk : Kept σ s) : Kept σ (State.losePairs s) := by
  unfold State.losePairs
  repeat' first
    | with_reducible assumption
    | with_reducible apply State.setFlag_kept
    | with_reducible apply State.setFld_kept
    | simp only [↓Kept.mk_iff]

theorem onPowerOn_kept {vddq : Bool} {strands : Bool} (hk : Kept σ s) : Kept σ (onPowerOn vddq strands s) := by
  unfold onPowerOn
  repeat' first
    | with_reducible assumption
    | with_reducible apply State.losePairs_kept
    | with_reducible apply State.deviceReset_kept
    | with_reducible apply State.loseExt_kept
    | with_reducible apply Kept.ite
    | simp only [↓Kept.mk_iff]

theorem onRootPllLock_kept (hk : Kept σ s) : Kept σ (onRootPllLock s) := by
  unfold onRootPllLock
  repeat' first
    | with_reducible assumption
    | intro _
    | with_reducible apply State.setFlag_kept
    | with_reducible apply State.setFld_kept
    | with_reducible apply State.setSpanEnable_kept
    | with_reducible apply Kept.foldl
    | with_reducible apply Kept.foldl_fst
    | with_reducible apply Kept.ite
    | simp only [↓Kept.mk_iff]

theorem onResetPin_kept (hk : Kept σ s) : Kept σ (onResetPin s) := by
  unfold onResetPin
  repeat' first
    | with_reducible assumption
    | with_reducible apply State.holdReset_kept

theorem onRootPllLoss_kept (hk : Kept σ s) : Kept σ (onRootPllLoss s) := by
  unfold onRootPllLoss
  repeat' first
    | with_reducible assumption
    | with_reducible apply State.holdReset_kept

theorem State.hostReset_kept (hk : Kept σ s) : Kept σ (State.hostReset s) := by
  unfold State.hostReset
  repeat' first
    | with_reducible assumption
    | with_reducible apply State.holdReset_kept

theorem State.countBlank_kept (hk : Kept σ s) : Kept σ (State.countBlank s) := by
  unfold State.countBlank
  repeat' first
    | with_reducible assumption
    | with_reducible apply State.bump_kept
    | with_reducible apply Kept.ite
    | simp only [↓Kept.mk_iff]

theorem State.lower_kept {v : Nat} {mv : Nat} (hk : Kept σ s) : Kept σ (State.lower s v mv) := by
  unfold State.lower
  repeat' first
    | with_reducible assumption
    | with_reducible apply State.setFld_kept
    | simp only [↓Kept.mk_iff]

theorem onSupplyWarn_kept {v : Fin 8} {mv : Nat} (hk : Kept σ s) : Kept σ (onSupplyWarn v mv s) := by
  unfold onSupplyWarn
  repeat' first
    | with_reducible assumption
    | with_reducible apply State.lower_kept
    | with_reducible apply State.setFlag_kept
    | with_reducible apply State.raise_kept
    | with_reducible apply State.bump_kept
    | with_reducible apply State.showStr_kept
    | with_reducible apply State.countBlank_kept
    | with_reducible apply Kept.ite
    | simp only [↓Kept.mk_iff]

theorem State.resume_kept (hk : Kept σ s) : Kept σ (State.resume s) := by
  unfold State.resume
  repeat' first
    | with_reducible assumption
    | intro _
    | with_reducible apply State.setFlag_kept
    | with_reducible apply State.raise_kept
    | with_reducible apply State.showStr_kept
    | with_reducible apply Kept.foldl
    | with_reducible apply Kept.foldl_fst
    | simp only [↓Kept.mk_iff]

theorem State.brownResume_kept {frame : Nat} (hk : Kept σ s) : Kept σ (State.brownResume s frame) := by
  unfold State.brownResume
  repeat' first
    | with_reducible assumption
    | intro _
    | with_reducible apply State.useDecision_kept
    | with_reducible refine State.useDecision_kept' (he := by assumption) ?_
    | with_reducible apply State.resume_kept
    | with_reducible apply Kept.ite
    | split

theorem State.showPend_kept (hk : Kept σ s) : Kept σ (State.showPend s) := by
  unfold State.showPend
  repeat' first
    | with_reducible assumption
    | with_reducible apply State.setFlag_kept

theorem State.enterPower_kept {t : Nat} (hk : Kept σ s) : Kept σ (State.enterPower s t) := by
  unfold State.enterPower
  repeat' first
    | with_reducible assumption
    | with_reducible apply State.setFld_kept
    | with_reducible apply State.gateBays_kept
    | with_reducible apply State.showStr_kept
    | with_reducible apply State.showPend_kept
    | with_reducible apply State.raise_kept
    | with_reducible apply Kept.ite
    | simp only [↓Kept.mk_iff]

theorem State.sleep_kept {c : Cmd} {t : Nat} (hk : Kept σ s) : Kept σ (State.sleep s c t) := by
  unfold State.sleep
  repeat' first
    | with_reducible assumption
    | with_reducible apply State.saveSettings_kept
    | with_reducible apply State.enterPower_kept
    | with_reducible apply State.setFld_kept
    | with_reducible apply State.finish_kept
    | with_reducible apply State.showPend_kept
    | with_reducible apply onSpanFabricStop_kept
    | with_reducible apply State.showStr_kept
    | with_reducible apply State.loseExt_kept
    | with_reducible apply Kept.ite
    | simp only [↓Kept.mk_iff]

theorem State.powerDue_kept (hk : Kept σ s) : Kept σ (State.powerDue s) := by
  unfold State.powerDue
  repeat' first
    | with_reducible assumption
    | intro _
    | with_reducible apply State.sleep_kept
    | with_reducible apply State.enterPower_kept
    | with_reducible apply State.finish_kept
    | with_reducible apply State.showPend_kept
    | with_reducible apply Kept.foldl
    | with_reducible apply Kept.foldl_fst
    | with_reducible apply Kept.ite

theorem onCmdPwrState_kept {q : Fin 24} {tag : Nat} (hk : Kept σ s) : Kept σ (onCmdPwrState q tag s) := by
  unfold onCmdPwrState
  repeat' first
    | with_reducible assumption
    | with_reducible apply State.finish_kept
    | with_reducible apply State.run_kept
    | with_reducible apply State.showPend_kept
    | with_reducible apply State.powerDue_kept
    | with_reducible apply Kept.ite
    | split

theorem State.powerStop_kept {c : Cmd} (hk : Kept σ s) : Kept σ (State.powerStop s c) := by
  unfold State.powerStop
  repeat' first
    | with_reducible assumption
    | with_reducible apply State.finish_kept
    | with_reducible apply State.showPend_kept

theorem onSupplyRecover_kept {low : List Nat} (hk : Kept σ s) : Kept σ (onSupplyRecover low s) := by
  unfold onSupplyRecover
  repeat' first
    | with_reducible assumption
    | intro _
    | with_reducible apply State.lower_kept
    | with_reducible apply State.setFlag_kept
    | with_reducible apply State.resume_kept
    | with_reducible apply State.powerDue_kept
    | with_reducible apply Kept.foldl
    | with_reducible apply Kept.foldl_fst
    | with_reducible apply Kept.ite

theorem onSupplyReset_kept {v : Fin 8} (hk : Kept σ s) : Kept σ (onSupplyReset v s) := by
  unfold onSupplyReset
  repeat' first
    | with_reducible assumption
    | with_reducible apply State.losePairs_kept
    | with_reducible apply State.holdReset_kept
    | with_reducible apply State.loseExt_kept
    | with_reducible apply State.showStr_kept
    | with_reducible apply Kept.ite
    | simp only [↓Kept.mk_iff]

theorem onSupplyReturnAfterReset_kept {v : Fin 8} (hk : Kept σ s) : Kept σ (onSupplyReturnAfterReset v s) := by
  unfold onSupplyReturnAfterReset
  repeat' first
    | with_reducible assumption
    | simp only [↓Kept.mk_iff]

theorem onStrandSupplyRise_kept (hk : Kept σ s) : Kept σ (onStrandSupplyRise s) := by
  unfold onStrandSupplyRise
  repeat' first
    | with_reducible assumption
    | simp only [↓Kept.mk_iff]

theorem State.strandFrame_kept (hk : Kept σ s) : Kept σ (State.strandFrame s) := by
  unfold State.strandFrame
  repeat' first
    | with_reducible assumption
    | with_reducible apply State.takeHard_kept
    | with_reducible apply Kept.ite
    | simp only [↓Kept.mk_iff]

theorem onCmdPwrWake_kept {q : Fin 24} {tag : Nat} (hk : Kept σ s) : Kept σ (onCmdPwrWake q tag s) := by
  unfold onCmdPwrWake
  repeat' first
    | with_reducible assumption
    | intro _
    | with_reducible apply State.finish_kept
    | with_reducible apply State.emit_kept
    | with_reducible apply Kept.foldl
    | with_reducible apply Kept.foldl_fst
    | with_reducible apply Kept.ite
    | split

theorem onWakePin_kept (hk : Kept σ s) : Kept σ (onWakePin s) := by
  unfold onWakePin
  repeat' first
    | with_reducible assumption
    | with_reducible apply State.holdReset_kept
    | with_reducible apply Kept.ite

theorem onWakeMatch_kept {k : Fin 16} {blocks : List (Nat × Block)} (hk : Kept σ s) : Kept σ (onWakeMatch k blocks s) := by
  unfold onWakeMatch
  repeat' first
    | with_reducible assumption
    | intro _
    | with_reducible apply State.holdReset_kept
    | with_reducible apply Kept.ite

theorem onBandgapCheck_kept {dev : Int} (hk : Kept σ s) : Kept σ (onBandgapCheck dev s) := by
  unfold onBandgapCheck
  repeat' first
    | with_reducible assumption
    | with_reducible apply State.setFld_kept
    | with_reducible apply State.setFlag_kept
    | with_reducible apply State.raise_kept
    | with_reducible apply Kept.ite
    | simp only [↓Kept.mk_iff]

end Sys2Proof.Machine
end

