-- ==== Sys2Proof/Laws/KeptIngest.lean ====
section
/-! SUPPORT. What the operations of Machine/Ingest.lean keep. -/

namespace Sys2Proof.Machine

variable {σ s : State}

theorem State.setSource_kept {i : Nat} {x : Feed} (hk : Kept σ s) : Kept σ (State.setSource s i x) := by
  unfold State.setSource
  repeat' first
    | with_reducible assumption
    | simp only [↓Kept.mk_iff]

theorem State.setIngLayer_kept {l : Nat} {x : IngLayer} (hk : Kept σ s) : Kept σ (State.setIngLayer s l x) := by
  unfold State.setIngLayer
  repeat' first
    | with_reducible assumption
    | simp only [↓Kept.mk_iff]

theorem State.sourceLost_kept {i : Nat} (hk : Kept σ s) : Kept σ (State.sourceLost s i) := by
  unfold State.sourceLost
  repeat' first
    | with_reducible assumption
    | intro _
    | with_reducible apply State.setSource_kept
    | with_reducible apply State.setIngLayer_kept
    | with_reducible apply State.raise_kept
    | with_reducible apply Kept.foldl
    | with_reducible apply Kept.foldl_fst
    | with_reducible apply Kept.ite

theorem onSdiLock_kept {i : Fin 32} {std : Fin 256} {f : SdiFormat} (hk : Kept σ s) : Kept σ (onSdiLock i std f s) := by
  unfold onSdiLock
  repeat' first
    | with_reducible assumption
    | intro _
    | with_reducible apply State.setFlag_kept
    | with_reducible apply State.setFld_kept
    | with_reducible apply State.setSource_kept
    | with_reducible apply State.raise_kept
    | with_reducible apply Kept.ite

theorem State.sdiDrop_kept {i : Nat} {g : Nat} (hk : Kept σ s) : Kept σ (State.sdiDrop s i g) := by
  unfold State.sdiDrop
  repeat' first
    | with_reducible assumption
    | with_reducible apply State.setFlag_kept
    | with_reducible apply State.setSource_kept
    | with_reducible apply State.sourceLost_kept

theorem onSdiLockLoss_kept {i : Fin 32} (hk : Kept σ s) : Kept σ (onSdiLockLoss i s) := by
  unfold onSdiLockLoss
  repeat' first
    | with_reducible assumption
    | with_reducible apply State.sdiDrop_kept
    | with_reducible apply Kept.ite

theorem State.sdiSettle_kept {was : State} (hk : Kept σ s) : Kept σ (State.sdiSettle s was) := by
  unfold State.sdiSettle
  repeat' first
    | with_reducible assumption
    | intro _
    | with_reducible apply State.sdiDrop_kept
    | with_reducible apply Kept.foldl
    | with_reducible apply Kept.foldl_fst
    | with_reducible apply Kept.ite

theorem onAncPacket_kept {i : Fin 32} {bytes : List Byte} {full : Bool} (hk : Kept σ s) : Kept σ (onAncPacket i bytes full s) := by
  unfold onAncPacket
  repeat' first
    | with_reducible assumption
    | with_reducible apply State.bump_kept
    | with_reducible apply State.emit_kept
    | with_reducible apply Kept.ite

theorem State.openFrame_kept {i : Nat} {f : SrcFrame} (hk : Kept σ s) : Kept σ (State.openFrame s i f) := by
  unfold State.openFrame
  repeat' first
    | with_reducible assumption
    | with_reducible apply State.setSource_kept

theorem State.mapFrame_kept {i : Nat} {n : Nat} {h : SrcFrame → SrcFrame} (hk : Kept σ s) : Kept σ (State.mapFrame s i n h) := by
  unfold State.mapFrame
  repeat' first
    | with_reducible assumption
    | with_reducible apply State.setSource_kept

theorem State.frameWhole_kept {i : Nat} {n : Nat} (hk : Kept σ s) : Kept σ (State.frameWhole s i n) := by
  unfold State.frameWhole
  repeat' first
    | with_reducible assumption
    | intro _
    | with_reducible apply State.setSource_kept
    | with_reducible apply State.mapFrame_kept
    | with_reducible apply State.setIngLayer_kept
    | with_reducible apply State.raise_kept
    | with_reducible apply Kept.foldl
    | with_reducible apply Kept.foldl_fst
    | with_reducible apply Kept.ite

theorem onSourceFrameComplete_kept {i : Fin 96} {crcErr : Nat} {overflow : Nat} (hk : Kept σ s) : Kept σ (onSourceFrameComplete i crcErr overflow s) := by
  unfold onSourceFrameComplete
  repeat' first
    | with_reducible assumption
    | intro _
    | with_reducible apply State.bump_kept
    | with_reducible apply State.mapFrame_kept
    | with_reducible apply State.frameWhole_kept
    | with_reducible apply Kept.ite
    | simp only [↓Kept.mk_iff]
    | split

theorem onFlowTimeout_kept {k : Fin 64} (hk : Kept σ s) : Kept σ (onFlowTimeout k s) := by
  unfold onFlowTimeout
  repeat' first
    | with_reducible assumption
    | with_reducible apply State.sourceLost_kept
    | with_reducible apply Kept.ite

theorem State.placePacket_kept {k : Nat} {p : EthPacket} (hk : Kept σ s) : Kept σ (State.placePacket s k p) := by
  unfold State.placePacket
  repeat' first
    | with_reducible assumption
    | intro _
    | with_reducible apply State.openFrame_kept
    | with_reducible apply State.mapFrame_kept
    | with_reducible apply Kept.ite
    | simp only [↓Kept.mk_iff]
    | split

theorem State.flowPacket_kept {p : EthPacket} {k : Nat} (hk : Kept σ s) : Kept σ (State.flowPacket s p k) := by
  unfold State.flowPacket
  repeat' first
    | with_reducible assumption
    | with_reducible apply State.setSource_kept
    | with_reducible apply State.raise_kept
    | with_reducible apply State.placePacket_kept
    | with_reducible apply Kept.ite

theorem onEthPacket_kept {e : Fin 8} {p : EthPacket} (hk : Kept σ s) : Kept σ (onEthPacket e p s) := by
  unfold onEthPacket
  repeat' first
    | with_reducible assumption
    | intro _
    | with_reducible apply State.bump_kept
    | with_reducible apply State.flowPacket_kept
    | with_reducible apply Kept.foldl
    | with_reducible apply Kept.foldl_fst
    | with_reducible apply Kept.ite

theorem onIgmpJoin_kept {k : Fin 64} (hk : Kept σ s) : Kept σ (onIgmpJoin k s) := by
  unfold onIgmpJoin
  repeat' first
    | with_reducible assumption
    | with_reducible apply State.emit_kept
    | with_reducible apply Kept.ite
    | simp only [↓Kept.mk_iff]

theorem onIgmpQuery_kept {e : Fin 8} (hk : Kept σ s) : Kept σ (onIgmpQuery e s) := by
  unfold onIgmpQuery
  repeat' first
    | with_reducible assumption
    | intro _
    | with_reducible apply State.emit_kept
    | with_reducible apply Kept.foldl
    | with_reducible apply Kept.foldl_fst
    | with_reducible apply Kept.ite

theorem onArpRequest_kept {e : Fin 8} {ip : Nat} (hk : Kept σ s) : Kept σ (onArpRequest e ip s) := by
  unfold onArpRequest
  repeat' first
    | with_reducible assumption
    | with_reducible apply State.emit_kept
    | with_reducible apply Kept.ite

theorem State.ptpOffset_kept {offset : Int} (hk : Kept σ s) : Kept σ (State.ptpOffset s offset) := by
  unfold State.ptpOffset
  repeat' first
    | with_reducible assumption
    | with_reducible apply State.draw_kept
    | with_reducible apply Kept.ite
    | simp only [↓Kept.mk_iff]

theorem State.delayReq_kept {x : PtpTrip} (hk : Kept σ s) : Kept σ (State.delayReq s x) := by
  unfold State.delayReq
  repeat' first
    | with_reducible assumption
    | with_reducible apply State.emit_kept
    | simp only [↓Kept.mk_iff]

theorem onPtpMessage_kept {e : Fin 8} {m : PtpMsg} (hk : Kept σ s) : Kept σ (onPtpMessage e m s) := by
  unfold onPtpMessage
  repeat' first
    | with_reducible assumption
    | with_reducible apply State.delayReq_kept
    | with_reducible apply State.ptpOffset_kept
    | with_reducible apply Kept.ite
    | simp only [↓Kept.mk_iff]
    | split

theorem State.ptpTick_kept (hk : Kept σ s) : Kept σ (State.ptpTick s) := by
  unfold State.ptpTick
  repeat' first
    | with_reducible assumption
    | simp only [↓Kept.mk_iff]

theorem State.ptpDecision_kept {bs : List Byte} (hk : Kept σ s) : Kept σ (State.ptpDecision s bs) := by
  unfold State.ptpDecision
  repeat' first
    | with_reducible assumption
    | simp only [↓Kept.mk_iff]

theorem State.takeIngWords_kept (hk : Kept σ s) : Kept σ (State.takeIngWords s) := by
  unfold State.takeIngWords
  repeat' first
    | with_reducible assumption
    | intro _
    | with_reducible apply State.sdiSettle_kept
    | simp only [↓Kept.mk_iff]

theorem State.recordPair_kept (hk : Kept σ s) : Kept σ (State.recordPair s) := by
  unfold State.recordPair
  repeat' first
    | with_reducible assumption
    | simp only [↓Kept.mk_iff]

theorem State.repeatFrame_kept {l : Nat} {x : IngLayer} {lost : Bool} (hk : Kept σ s) : Kept σ (State.repeatFrame s l x lost) := by
  unfold State.repeatFrame
  repeat' first
    | with_reducible assumption
    | with_reducible apply State.bump_kept
    | with_reducible apply State.setIngLayer_kept
    | with_reducible apply Kept.ite

theorem State.readFrame_kept {l : Nat} {i : Nat} {x : IngLayer} {f : SrcFrame} (hk : Kept σ s) : Kept σ (State.readFrame s l i x f) := by
  unfold State.readFrame
  repeat' first
    | with_reducible assumption
    | intro _
    | with_reducible apply State.bump_kept
    | with_reducible apply State.setIngLayer_kept

theorem State.layerFrame_kept {mask : Option Nat} {l : Nat} (hk : Kept σ s) : Kept σ (State.layerFrame s mask l) := by
  unfold State.layerFrame
  repeat' first
    | with_reducible assumption
    | intro _
    | with_reducible apply State.raise_kept
    | with_reducible apply State.setIngLayer_kept
    | with_reducible apply State.repeatFrame_kept
    | with_reducible apply State.readFrame_kept
    | with_reducible apply Kept.ite
    | simp only [↓Kept.mk_iff]
    | split

theorem State.ingFrame_kept {frame : Nat} (hk : Kept σ s) : Kept σ (State.ingFrame s frame) := by
  unfold State.ingFrame
  repeat' first
    | with_reducible assumption
    | intro _
    | with_reducible apply State.useDecision_kept
    | with_reducible refine State.useDecision_kept' (he := by assumption) ?_
    | with_reducible apply State.recordPair_kept
    | with_reducible apply State.takeIngWords_kept
    | with_reducible apply State.layerFrame_kept
    | with_reducible apply Kept.foldl
    | with_reducible apply Kept.foldl_fst
    | with_reducible apply Kept.ite
    | split

theorem State.ingSdiReset_kept (hk : Kept σ s) : Kept σ (State.ingSdiReset s) := by
  unfold State.ingSdiReset
  repeat' first
    | with_reducible assumption
    | intro _
    | with_reducible apply State.setFlag_kept
    | with_reducible apply State.setSource_kept
    | with_reducible apply Kept.foldl
    | with_reducible apply Kept.foldl_fst
    | with_reducible apply Kept.ite

theorem State.ingNetReset_kept (hk : Kept σ s) : Kept σ (State.ingNetReset s) := by
  unfold State.ingNetReset
  repeat' first
    | with_reducible assumption
    | intro _
    | with_reducible apply State.setSource_kept
    | with_reducible apply Kept.foldl
    | with_reducible apply Kept.foldl_fst
    | with_reducible apply Kept.ite
    | simp only [↓Kept.mk_iff]

theorem State.ptpReset_kept (hk : Kept σ s) : Kept σ (State.ptpReset s) := by
  unfold State.ptpReset
  repeat' first
    | with_reducible assumption
    | simp only [↓Kept.mk_iff]

end Sys2Proof.Machine
end

