-- ==== Sys2Proof/Laws/KeptEnc.lean ====
section
/-! SUPPORT. What the operations of Machine/Enc.lean keep. -/

namespace Sys2Proof.Machine

variable {σ s : State}

theorem State.setEncLayer_kept {l : Nat} {x : EncLayer} (hk : Kept σ s) : Kept σ (State.setEncLayer s l x) := by
  unfold State.setEncLayer
  repeat' first
    | with_reducible assumption
    | simp only [↓Kept.mk_iff]

theorem State.setEncStream_kept {i : Nat} {x : EncStream} (hk : Kept σ s) : Kept σ (State.setEncStream s i x) := by
  unfold State.setEncStream
  repeat' first
    | with_reducible assumption
    | simp only [↓Kept.mk_iff]

theorem State.multicast_kept {g : Nat} {x : Plank} {except : Option Nat} {slot : Option (Nat × Nat)} (hk : Kept σ s) : Kept σ (State.multicast s g x except slot) := by
  unfold State.multicast
  repeat' first
    | with_reducible assumption
    | intro _
    | with_reducible apply State.queuePlank_kept
    | with_reducible apply Kept.foldl

theorem State.sendSlice_kept {stream : Nat} {bs : List Byte} (hk : Kept σ s) : Kept σ (State.sendSlice s stream bs) := by
  unfold State.sendSlice
  repeat' first
    | with_reducible assumption
    | intro _
    | with_reducible apply State.setEncStream_kept
    | with_reducible apply State.multicast_kept
    | with_reducible apply Kept.foldl
    | with_reducible apply Kept.foldl_fst
    | with_reducible apply Kept.ite

theorem State.dropStream_kept {i : Nat} (hk : Kept σ s) : Kept σ (State.dropStream s i) := by
  unfold State.dropStream
  repeat' first
    | with_reducible assumption
    | with_reducible apply State.setEncStream_kept
    | with_reducible apply State.showActive_kept

theorem State.handOne_kept {stream : Nat} {τ : State} (he : s.handOne stream = some τ) (hk : Kept σ s) : Kept σ τ := by
  unfold State.handOne at he
  dsimp only at he
  split at he
  · cases he
  · split at he
    · cases he
    · split at he
      · cases he
      · rw [Option.some.injEq] at he
        subst he
        repeat' first
          | with_reducible assumption
          | with_reducible apply State.sendSlice_kept
          | with_reducible apply State.setEncStream_kept
          | with_reducible apply State.setEncLayer_kept
          | dsimp only
          | with_reducible apply State.raise_kept
          | with_reducible apply State.bump_kept
          | simp only [↓Kept.mk_iff]
          | split

theorem State.handOn_kept {stream n : Nat} (hk : Kept σ s) : Kept σ (s.handOn stream n) := by
  induction n generalizing s with
  | zero => exact hk
  | succ n ih =>
    unfold State.handOn
    split
    · rename_i he
      exact ih (State.handOne_kept he hk)
    · exact hk

theorem State.flushStream_kept {stream : Nat} (hk : Kept σ s) : Kept σ (State.flushStream s stream) := by
  unfold State.flushStream
  repeat' first
    | with_reducible assumption
    | with_reducible apply State.handOn_kept

theorem State.endAsked_kept {gone : List (Nat × Option (Nat × Nat))} {rest : List (Nat × Option (Nat × Nat))} (hk : Kept σ s) : Kept σ (State.endAsked s gone rest) := by
  unfold State.endAsked
  repeat' first
    | with_reducible assumption
    | intro _
    | with_reducible apply State.finish_kept
    | with_reducible apply Kept.foldl
    | with_reducible apply Kept.foldl_fst
    | with_reducible apply Kept.ite
    | split

theorem State.dropAsked_kept {l : Nat} {cols : Nat} (hk : Kept σ s) : Kept σ (State.dropAsked s l cols) := by
  unfold State.dropAsked
  repeat' first
    | with_reducible assumption
    | with_reducible apply State.setEncLayer_kept
    | with_reducible apply State.endAsked_kept

theorem State.beginPicture_kept {l : Nat} (hk : Kept σ s) : Kept σ (State.beginPicture s l) := by
  unfold State.beginPicture
  repeat' first
    | with_reducible assumption
    | intro _
    | with_reducible apply State.setEncLayer_kept
    | with_reducible apply State.setFld_kept
    | with_reducible apply State.dropAsked_kept
    | with_reducible apply State.setEncStream_kept
    | with_reducible apply Kept.foldl
    | with_reducible apply Kept.foldl_fst
    | with_reducible apply Kept.ite
    | simp only [↓Kept.mk_iff]
    | split

theorem State.tryBegin_kept {l : Nat} (hk : Kept σ s) : Kept σ (State.tryBegin s l) := by
  unfold State.tryBegin
  repeat' first
    | with_reducible assumption
    | with_reducible apply State.beginPicture_kept
    | with_reducible apply Kept.ite

theorem State.takePicture_kept {l : Nat} {p : EncPic} (hk : Kept σ s) : Kept σ (State.takePicture s l p) := by
  unfold State.takePicture
  repeat' first
    | with_reducible assumption
    | with_reducible apply State.setEncLayer_kept

theorem State.addSlice_kept {stream : Nat} {e : EncSlice} {carry : List Nat} (hk : Kept σ s) : Kept σ (State.addSlice s stream e carry) := by
  unfold State.addSlice
  repeat' first
    | with_reducible assumption
    | with_reducible apply State.setEncStream_kept

theorem State.beginForced_kept {l : Nat} {c : Nat} (hk : Kept σ s) : Kept σ (State.beginForced s l c) := by
  unfold State.beginForced
  repeat' first
    | with_reducible assumption
    | with_reducible apply State.setEncLayer_kept
    | with_reducible apply State.bump_kept
    | with_reducible apply State.endAsked_kept
    | with_reducible apply Kept.ite

theorem State.beginColumn_kept {l : Nat} {c : Nat} {p : EncPic} (hk : Kept σ s) : Kept σ (State.beginColumn s l c p) := by
  unfold State.beginColumn
  repeat' first
    | with_reducible assumption
    | with_reducible apply State.beginForced_kept
    | with_reducible apply State.setEncStream_kept
    | with_reducible apply Kept.ite

theorem onSliceAllocate_kept {l : Fin 63} {c : Fin 64} {written : Nat} (hk : Kept σ s) : Kept σ (onSliceAllocate l c written s) := by
  unfold onSliceAllocate
  repeat' first
    | with_reducible assumption
    | with_reducible apply State.takePicture_kept
    | with_reducible apply State.beginColumn_kept
    | with_reducible apply State.addSlice_kept
    | with_reducible apply State.give_kept
    | with_reducible apply State.showActive_kept
    | with_reducible apply State.tryBegin_kept
    | with_reducible apply Kept.ite
    | split
    | dsimp only

theorem onSliceEncodeDone_kept {l : Fin 63} {c : Fin 64} {row : Nat} {blocks : List (List Bool)} {lost : List Nat} (hk : Kept σ s) : Kept σ (onSliceEncodeDone l c row blocks lost s) := by
  unfold onSliceEncodeDone
  repeat' first
    | with_reducible assumption
    | intro _
    | with_reducible apply State.setEncStream_kept
    | with_reducible apply State.showActive_kept
    | with_reducible apply State.flushStream_kept
    | with_reducible apply State.lineUc_kept
    | with_reducible apply Kept.foldl
    | with_reducible apply Kept.foldl_fst
    | with_reducible apply Kept.ite
    | simp only [↓Kept.mk_iff]
    | split

theorem State.fillOne_kept {l : Nat} {i : Nat} {p : EncPic} (hk : Kept σ s) : Kept σ (State.fillOne s l i p) := by
  unfold State.fillOne
  repeat' first
    | with_reducible assumption
    | with_reducible apply State.beginColumn_kept
    | with_reducible apply State.addSlice_kept

theorem State.fillRest_kept {l i n : Nat} {p : EncPic} (hk : Kept σ s) : Kept σ (s.fillRest l i p n) := by
  induction n generalizing s with
  | zero => exact hk
  | succ n ih =>
    unfold State.fillRest
    split
    · exact hk
    · exact ih (State.fillOne_kept hk)

theorem State.reportFill_kept {l : Nat} {cnt : Nat} {n : Nat} (hk : Kept σ s) : Kept σ (State.reportFill s l cnt n) := by
  unfold State.reportFill
  repeat' first
    | with_reducible assumption
    | with_reducible apply State.bump_kept
    | with_reducible apply State.setEncLayer_kept
    | with_reducible apply State.raise_kept
    | with_reducible apply Kept.ite

theorem State.encOverrun_kept {l : Nat} (hk : Kept σ s) : Kept σ (State.encOverrun s l) := by
  unfold State.encOverrun
  repeat' first
    | with_reducible assumption
    | intro _
    | with_reducible apply State.tryBegin_kept
    | with_reducible apply State.takePicture_kept
    | with_reducible apply State.fillRest_kept
    | with_reducible apply State.flushStream_kept
    | with_reducible apply State.reportFill_kept
    | with_reducible apply Kept.foldl
    | with_reducible apply Kept.foldl_fst
    | split
    | dsimp only

theorem onEncOverrun_kept {l : Fin 63} {written : Nat} (hk : Kept σ s) : Kept σ (onEncOverrun l written s) := by
  unfold onEncOverrun
  repeat' first
    | with_reducible assumption
    | with_reducible apply State.encOverrun_kept
    | with_reducible apply Kept.ite
    | split

theorem State.fillLeft_kept {l : Nat} (hk : Kept σ s) : Kept σ (State.fillLeft s l) := by
  unfold State.fillLeft
  repeat' first
    | with_reducible assumption
    | intro _
    | with_reducible apply State.setEncStream_kept
    | with_reducible apply State.flushStream_kept
    | with_reducible apply State.reportFill_kept
    | with_reducible apply Kept.foldl
    | with_reducible apply Kept.foldl_fst
    | with_reducible apply Kept.ite

theorem State.openPicture_kept {l : Nat} {src : Option SrcFrame} {before : Option SrcFrame} {slice : Bool} (hk : Kept σ s) : Kept σ (State.openPicture s l src before slice) := by
  unfold State.openPicture
  repeat' first
    | with_reducible assumption
    | intro _
    | with_reducible apply State.encOverrun_kept
    | with_reducible apply State.setEncLayer_kept
    | with_reducible apply State.tryBegin_kept
    | with_reducible apply Kept.ite
    | simp only [↓Kept.mk_iff]
    | split

theorem onSourceFrameStart_kept {i : Fin 96} {rows : List (List Nat)} (hk : Kept σ s) : Kept σ (onSourceFrameStart i rows s) := by
  unfold onSourceFrameStart
  repeat' first
    | with_reducible assumption
    | intro _
    | with_reducible apply State.openFrame_kept
    | with_reducible apply State.setSource_kept
    | with_reducible apply State.openPicture_kept
    | with_reducible apply Kept.foldl
    | with_reducible apply Kept.foldl_fst
    | with_reducible apply Kept.ite
    | simp only [↓Kept.mk_iff]
    | split

theorem onSliceRowDeadline_kept {l : Fin 63} {row : Nat} {written : Nat} (hk : Kept σ s) : Kept σ (onSliceRowDeadline l row written s) := by
  unfold onSliceRowDeadline
  repeat' first
    | with_reducible assumption
    | intro _
    | with_reducible apply State.setEncLayer_kept
    | with_reducible apply State.bump_kept
    | with_reducible apply State.raise_kept
    | with_reducible apply Kept.ite
    | simp only [↓Kept.mk_iff]
    | split

theorem State.askRefresh_kept {l : Nat} {c : Nat} {cmd : Option (Nat × Nat)} (hk : Kept σ s) : Kept σ (State.askRefresh s l c cmd) := by
  unfold State.askRefresh
  repeat' first
    | with_reducible assumption
    | with_reducible apply State.bump_kept
    | with_reducible apply State.setEncLayer_kept
    | with_reducible apply Kept.ite

theorem onRefreshReq_kept (hk : Kept σ s) : Kept σ (onRefreshReq s) := by
  unfold onRefreshReq
  repeat' first
    | with_reducible assumption
    | with_reducible refine State.takeMsg_kept (he := by assumption) ?_
    | with_reducible apply State.setEncLayer_kept
    | with_reducible apply State.raise_kept
    | with_reducible apply State.askRefresh_kept
    | with_reducible apply Kept.ite
    | simp only [↓Kept.mk_iff]
    | split

theorem onCmdEncRefresh_kept {q : Fin 24} {tag : Nat} (hk : Kept σ s) : Kept σ (onCmdEncRefresh q tag s) := by
  unfold onCmdEncRefresh
  repeat' first
    | with_reducible assumption
    | intro _
    | with_reducible apply State.finish_kept
    | with_reducible apply State.askRefresh_kept
    | with_reducible apply State.run_kept
    | with_reducible apply Kept.foldl
    | with_reducible apply Kept.foldl_fst
    | with_reducible apply Kept.ite
    | split

theorem State.refreshStop_kept {c : Cmd} (hk : Kept σ s) : Kept σ (State.refreshStop s c) := by
  unfold State.refreshStop
  repeat' first
    | with_reducible assumption
    | intro _
    | with_reducible apply State.setEncLayer_kept
    | with_reducible apply State.finish_kept
    | with_reducible apply Kept.ite

theorem onCmdIngPlay_kept {q : Fin 24} {tag : Nat} (hk : Kept σ s) : Kept σ (onCmdIngPlay q tag s) := by
  unfold onCmdIngPlay
  repeat' first
    | with_reducible assumption
    | intro _
    | with_reducible apply State.run_kept
    | with_reducible apply State.setIngLayer_kept
    | with_reducible apply State.finish_kept
    | simp only [↓Kept.mk_iff]
    | split

theorem State.leavePlay_kept {l : Nat} {p : Play} (hk : Kept σ s) : Kept σ (State.leavePlay s l p) := by
  unfold State.leavePlay
  repeat' first
    | with_reducible assumption
    | with_reducible apply State.setIngLayer_kept
    | with_reducible apply State.setEncLayer_kept
    | with_reducible apply Kept.ite

theorem State.endPlay_kept {l : Nat} {p : Play} {status : Nat} (hk : Kept σ s) : Kept σ (State.endPlay s l p status) := by
  unfold State.endPlay
  repeat' first
    | with_reducible assumption
    | intro _
    | with_reducible apply State.leavePlay_kept
    | with_reducible apply State.finish_kept
    | split
    | dsimp only

theorem State.endClips_kept (hk : Kept σ s) : Kept σ (State.endClips s) := by
  unfold State.endClips
  repeat' first
    | with_reducible assumption
    | intro _
    | with_reducible apply State.endPlay_kept
    | with_reducible apply Kept.foldl
    | with_reducible apply Kept.foldl_fst
    | with_reducible apply Kept.ite
    | split

theorem State.stopClips_kept (hk : Kept σ s) : Kept σ (State.stopClips s) := by
  unfold State.stopClips
  repeat' first
    | with_reducible assumption
    | intro _
    | with_reducible apply State.leavePlay_kept
    | with_reducible apply Kept.foldl
    | with_reducible apply Kept.foldl_fst
    | split

theorem State.drainLayer_kept {l : Nat} (hk : Kept σ s) : Kept σ (State.drainLayer s l) := by
  unfold State.drainLayer
  repeat' first
    | with_reducible assumption
    | with_reducible apply State.encOverrun_kept
    | with_reducible apply State.setEncLayer_kept
    | with_reducible apply Kept.ite

theorem State.addStored_kept {l : Nat} {cnt : Nat} {bs : List Byte} (hk : Kept σ s) : Kept σ (State.addStored s l cnt bs) := by
  unfold State.addStored
  repeat' first
    | with_reducible assumption
    | with_reducible apply State.setEncStream_kept
    | with_reducible apply State.flushStream_kept

theorem State.playFrame_kept {l : Nat} {p : Play} (hk : Kept σ s) : Kept σ (State.playFrame s l p) := by
  unfold State.playFrame
  repeat' first
    | with_reducible assumption
    | intro _
    | with_reducible apply State.drainLayer_kept
    | with_reducible apply State.reportBad_kept
    | with_reducible apply State.setEncLayer_kept
    | with_reducible apply State.setFld_kept
    | with_reducible apply State.setIngLayer_kept
    | with_reducible apply State.addStored_kept
    | with_reducible apply Kept.foldl
    | with_reducible apply Kept.foldl_fst
    | with_reducible apply Kept.ite

theorem State.playStop_kept {c : Cmd} (hk : Kept σ s) : Kept σ (State.playStop s c) := by
  unfold State.playStop
  repeat' first
    | with_reducible assumption
    | intro _
    | with_reducible apply State.endPlay_kept
    | with_reducible apply Kept.ite
    | split
    | dsimp only

theorem State.takeScale_kept {l : Nat} (hk : Kept σ s) : Kept σ (State.takeScale s l) := by
  unfold State.takeScale
  repeat' first
    | with_reducible assumption
    | with_reducible apply State.setFlag_kept
    | with_reducible apply State.setEncLayer_kept
    | with_reducible apply Kept.ite
    | simp only [↓Kept.mk_iff]
    | split

theorem State.owedPicture_kept {l : Nat} (hk : Kept σ s) : Kept σ (State.owedPicture s l) := by
  unfold State.owedPicture
  repeat' first
    | with_reducible assumption
    | with_reducible apply State.openPicture_kept
    | with_reducible apply Kept.ite

theorem State.encLayerFrame_kept {l : Nat} (hk : Kept σ s) : Kept σ (State.encLayerFrame s l) := by
  unfold State.encLayerFrame
  repeat' first
    | with_reducible assumption
    | with_reducible apply State.fillLeft_kept
    | with_reducible apply State.playFrame_kept
    | with_reducible apply State.owedPicture_kept
    | with_reducible apply State.takeScale_kept
    | with_reducible apply State.setEncLayer_kept
    | with_reducible apply State.openPicture_kept
    | with_reducible apply Kept.ite
    | simp only [↓Kept.mk_iff]
    | split

theorem State.encFrame_kept {frame : Nat} (hk : Kept σ s) : Kept σ (State.encFrame s frame) := by
  unfold State.encFrame
  repeat' first
    | with_reducible assumption
    | intro _
    | with_reducible apply State.useDecision_kept
    | with_reducible refine State.useDecision_kept' (he := by assumption) ?_
    | with_reducible apply State.encLayerFrame_kept
    | with_reducible apply Kept.foldl
    | with_reducible apply Kept.foldl_fst
    | with_reducible apply Kept.ite
    | simp only [↓Kept.mk_iff]
    | split

theorem State.restartStreams_kept {l : Nat} {next : Nat} (hk : Kept σ s) : Kept σ (State.restartStreams s l next) := by
  unfold State.restartStreams
  repeat' first
    | with_reducible assumption
    | intro _
    | with_reducible apply State.setEncLayer_kept
    | with_reducible apply State.dropAsked_kept
    | with_reducible apply State.dropStream_kept
    | with_reducible apply Kept.foldl
    | with_reducible apply Kept.foldl_fst
    | with_reducible apply Kept.ite

theorem State.encReset_kept (hk : Kept σ s) : Kept σ (State.encReset s) := by
  unfold State.encReset
  repeat' first
    | with_reducible assumption
    | intro _
    | with_reducible apply State.restartStreams_kept
    | with_reducible apply Kept.foldl
    | with_reducible apply Kept.foldl_fst
    | with_reducible apply Kept.ite

theorem State.rateReset_kept (hk : Kept σ s) : Kept σ (State.rateReset s) := by
  unfold State.rateReset
  repeat' first
    | with_reducible assumption
    | intro _
    | simp only [↓Kept.mk_iff]

end Sys2Proof.Machine
end

