-- ==== Sys2Proof/Laws/KeptRed.lean ====
section
/-! SUPPORT. What the operations of Machine/Red.lean keep. -/

namespace Sys2Proof.Machine

variable {σ s : State}

theorem State.setSeg_kept {e : Nat} {x : SegSt} (hk : Kept σ s) : Kept σ (State.setSeg s e x) := by
  unfold State.setSeg
  repeat' first
    | with_reducible assumption
    | simp only [↓Kept.mk_iff]

theorem State.sendLease_kept {e : Nat} {flags : Nat} {frame : Nat} (hk : Kept σ s) : Kept σ (State.sendLease s e flags frame) := by
  unfold State.sendLease
  repeat' first
    | with_reducible assumption
    | with_reducible apply State.setEncStream_kept
    | with_reducible apply State.multicast_kept

theorem State.showView_kept {e : Nat} (hk : Kept σ s) : Kept σ (State.showView s e) := by
  unfold State.showView
  repeat' first
    | with_reducible assumption
    | with_reducible apply State.setFld_kept
    | with_reducible apply Kept.ite

theorem State.takeLease_kept {e : Nat} {k : Nat} {view : Nat} {holder : Nat} {epoch : Nat} {frame : Nat} (hk : Kept σ s) : Kept σ (State.takeLease s e k view holder epoch frame) := by
  unfold State.takeLease
  repeat' first
    | with_reducible assumption
    | with_reducible apply State.setSeg_kept
    | with_reducible apply State.setFlag_kept
    | with_reducible apply State.setFld_kept
    | with_reducible apply State.showView_kept
    | with_reducible apply Kept.ite

theorem State.leaseOutcome_kept {e k : Nat} {bs : List Byte} {τ : State} (he : s.leaseOutcome e k bs = some τ) (hk : Kept σ s) :
    Kept σ τ := by
  unfold State.leaseOutcome at he
  dsimp only at he
  repeat' split at he
  all_goals cases he
  all_goals first
    | exact State.raise_kept (State.takeLease_kept hk)
    | exact State.takeLease_kept hk

theorem State.claim_kept {e : Nat} (hk : Kept σ s) : Kept σ (State.claim s e) := by
  unfold State.claim
  repeat' first
    | with_reducible assumption
    | with_reducible apply State.setSeg_kept
    | with_reducible apply State.setFld_kept
    | with_reducible apply State.setFlag_kept
    | with_reducible apply State.raise_kept
    | with_reducible apply State.sendLease_kept

theorem State.handoverClaim_kept {e : Nat} (hk : Kept σ s) : Kept σ (State.handoverClaim s e) := by
  unfold State.handoverClaim
  repeat' first
    | with_reducible assumption
    | with_reducible apply State.claim_kept
    | with_reducible apply Kept.ite
    | simp only [↓Kept.mk_iff]
    | split

theorem State.deliverLease_kept {k : Nat} {x : Plank} (hk : Kept σ s) : Kept σ (State.deliverLease s k x).1 := by
  unfold State.deliverLease
  repeat' first
    | with_reducible assumption
    | intro _
    | with_reducible apply State.bump_kept
    | with_reducible apply State.setSeg_kept
    | with_reducible refine State.leaseOutcome_kept (he := by assumption) ?_
    | with_reducible apply State.sendMsg_kept
    | with_reducible apply State.handoverClaim_kept
    | with_reducible apply Kept.ite
    | simp only [↓Kept.mk_iff]
    | split

theorem State.deliverLease_kept' {k : Nat} {x : Plank} {τ : State} {x0} (he : State.deliverLease s k x = (τ, x0)) (hk : Kept σ s) : Kept σ τ := by
  have := State.deliverLease_kept (hk := hk) (k := k) (x := x)
  rwa [he] at this

theorem State.moveVc1_kept {k : Nat} {x : Plank} {forward : Bool} {local' : State → State} (hflocal' : ∀ x0, Kept σ x0 → Kept σ (local' x0)) (hk : Kept σ s) : Kept σ (State.moveVc1 s k x forward local') := by
  unfold State.moveVc1
  repeat' first
    | with_reducible assumption
    | intro _
    | with_reducible apply State.fillSlot_kept
    | with_reducible apply State.queuePlank_kept
    | with_reducible apply State.releaseSlot_kept
    | with_reducible apply Kept.foldl
    | with_reducible apply Kept.foldl_fst
    | with_reducible apply Kept.ite
    | apply hflocal'

theorem State.arriveLease_kept {k : Nat} {x : Plank} (hk : Kept σ s) : Kept σ (State.arriveLease s k x) := by
  unfold State.arriveLease
  repeat' first
    | with_reducible assumption
    | intro _
    | with_reducible apply State.deliverLease_kept
    | with_reducible refine State.deliverLease_kept' (he := by assumption) ?_
    | with_reducible apply State.moveVc1_kept
    | with_reducible apply Kept.ite
    | (dsimp only [id]; assumption)

theorem State.arriveStream_kept {k : Nat} {x : Plank} (hk : Kept σ s) : Kept σ (State.arriveStream s k x) := by
  unfold State.arriveStream
  repeat' first
    | with_reducible assumption
    | intro _
    | with_reducible apply State.bump_kept
    | with_reducible apply State.moveVc1_kept
    | with_reducible apply State.decPlank_kept
    | with_reducible apply Kept.ite
    | simp only [↓Kept.mk_iff]
    | (dsimp only [id]; assumption)

theorem State.receiveVc1_kept {k : Nat} {blocks : List Block} {lease : Bool} {act : Plank → State → State} (hfact : ∀ x0 x1, Kept σ x1 → Kept σ (act x0 x1)) (hk : Kept σ s) : Kept σ (State.receiveVc1 s k blocks lease act) := by
  unfold State.receiveVc1
  repeat' first
    | with_reducible assumption
    | intro _
    | with_reducible apply State.receive_kept
    | with_reducible apply State.vc1Gap_kept
    | with_reducible apply State.setPort_kept
    | with_reducible apply Kept.ite
    | simp only [↓Kept.mk_iff]
    | apply hfact

theorem onVc1Plank_kept {k : Fin 16} {blocks : List Block} (hk : Kept σ s) : Kept σ (onVc1Plank k blocks s) := by
  unfold onVc1Plank
  repeat' first
    | with_reducible assumption
    | intro _
    | with_reducible apply State.receiveVc1_kept
    | with_reducible apply State.arriveStream_kept

theorem onLeasePlank_kept {k : Fin 16} {blocks : List Block} (hk : Kept σ s) : Kept σ (onLeasePlank k blocks s) := by
  unfold onLeasePlank
  repeat' first
    | with_reducible assumption
    | intro _
    | with_reducible apply State.receiveVc1_kept
    | with_reducible apply State.arriveLease_kept

theorem State.endHandover_kept {status : Nat} (hk : Kept σ s) : Kept σ (State.endHandover s status) := by
  unfold State.endHandover
  repeat' first
    | with_reducible assumption
    | intro _
    | with_reducible apply State.finish_kept
    | simp only [↓Kept.mk_iff]
    | split

theorem onLeaseAck_kept (hk : Kept σ s) : Kept σ (onLeaseAck s) := by
  unfold onLeaseAck
  repeat' first
    | with_reducible assumption
    | with_reducible refine State.takeMsg_kept (he := by assumption) ?_
    | with_reducible apply State.setSeg_kept
    | with_reducible apply State.claim_kept
    | with_reducible apply State.endHandover_kept
    | with_reducible apply Kept.ite
    | simp only [↓Kept.mk_iff]
    | split

theorem State.sendDone_kept {e : Nat} {node : Nat} (hk : Kept σ s) : Kept σ (State.sendDone s e node) := by
  unfold State.sendDone
  repeat' first
    | with_reducible assumption
    | with_reducible apply State.sendMsg_kept

theorem onHandoverReq_kept (hk : Kept σ s) : Kept σ (onHandoverReq s) := by
  unfold onHandoverReq
  repeat' first
    | with_reducible assumption
    | with_reducible refine State.takeMsg_kept (he := by assumption) ?_
    | with_reducible apply State.setSeg_kept
    | with_reducible apply State.sendDone_kept
    | with_reducible apply Kept.ite
    | simp only [↓Kept.mk_iff]
    | split

theorem onHandoverDone_kept (hk : Kept σ s) : Kept σ (onHandoverDone s) := by
  unfold onHandoverDone
  repeat' first
    | with_reducible assumption
    | with_reducible refine State.takeMsg_kept (he := by assumption) ?_
    | with_reducible apply State.setSeg_kept
    | with_reducible apply State.handoverClaim_kept
    | with_reducible apply Kept.ite
    | simp only [↓Kept.mk_iff]
    | split

theorem onCmdRedHandover_kept {q : Fin 24} {tag : Nat} (hk : Kept σ s) : Kept σ (onCmdRedHandover q tag s) := by
  unfold onCmdRedHandover
  repeat' first
    | with_reducible assumption
    | intro _
    | with_reducible apply State.finish_kept
    | with_reducible apply State.run_kept
    | with_reducible apply State.sendMsg_kept
    | with_reducible apply Kept.ite
    | simp only [↓Kept.mk_iff]
    | split

theorem onHandoverTimeout_kept (hk : Kept σ s) : Kept σ (onHandoverTimeout s) := by
  unfold onHandoverTimeout
  repeat' first
    | with_reducible assumption
    | with_reducible apply State.claim_kept
    | with_reducible apply State.endHandover_kept
    | with_reducible apply Kept.ite
    | split

theorem State.handoverStop_kept {c : Cmd} (hk : Kept σ s) : Kept σ (State.handoverStop s c) := by
  unfold State.handoverStop
  repeat' first
    | with_reducible assumption
    | intro _
    | with_reducible apply State.claim_kept
    | with_reducible apply State.endHandover_kept
    | with_reducible apply Kept.ite
    | split

theorem onLeaseExpiry_kept {e : Fin 16} (hk : Kept σ s) : Kept σ (onLeaseExpiry e s) := by
  unfold onLeaseExpiry
  repeat' first
    | with_reducible assumption
    | with_reducible apply State.setSeg_kept
    | with_reducible apply State.showView_kept
    | with_reducible apply State.raise_kept
    | with_reducible apply Kept.ite
    | simp only [↓Kept.mk_iff]
    | split

theorem onLeaseClaim_kept {e : Fin 16} (hk : Kept σ s) : Kept σ (onLeaseClaim e s) := by
  unfold onLeaseClaim
  repeat' first
    | with_reducible assumption
    | with_reducible apply State.claim_kept
    | with_reducible apply Kept.ite

theorem State.restartSegment_kept {e : Nat} (hk : Kept σ s) : Kept σ (State.restartSegment s e) := by
  unfold State.restartSegment
  repeat' first
    | with_reducible assumption
    | intro _
    | with_reducible apply State.restartStreams_kept
    | with_reducible apply Kept.foldl
    | with_reducible apply Kept.foldl_fst
    | with_reducible apply Kept.ite

theorem onClaimGapExpiry_kept {e : Fin 16} (hk : Kept σ s) : Kept σ (onClaimGapExpiry e s) := by
  unfold onClaimGapExpiry
  repeat' first
    | with_reducible assumption
    | with_reducible apply State.setSeg_kept
    | with_reducible apply State.restartSegment_kept
    | with_reducible apply Kept.ite
    | simp only [↓Kept.mk_iff]
    | split

theorem State.stopHolding_kept {e : Nat} {st : Nat} (hk : Kept σ s) : Kept σ (State.stopHolding s e st) := by
  unfold State.stopHolding
  repeat' first
    | with_reducible assumption
    | with_reducible apply State.setFld_kept
    | with_reducible apply State.setFlag_kept

theorem State.holderFrame_kept {e : Nat} {frame : Nat} {fence : Bool} (hk : Kept σ s) : Kept σ (State.holderFrame s e frame fence) := by
  unfold State.holderFrame
  repeat' first
    | with_reducible assumption
    | with_reducible apply State.setFld_kept
    | with_reducible apply State.setSeg_kept
    | with_reducible apply State.raise_kept
    | with_reducible apply State.stopHolding_kept
    | with_reducible apply State.sendDone_kept
    | with_reducible apply State.sendLease_kept
    | with_reducible apply Kept.ite
    | simp only [↓Kept.mk_iff]
    | split

theorem State.segDue_kept {frame : Nat} {e : Nat} (hk : Kept σ s) : Kept σ (State.segDue s frame e) := by
  unfold State.segDue
  repeat' first
    | with_reducible assumption
    | with_reducible apply State.setSeg_kept
    | with_reducible apply Kept.ite

theorem State.segFrame_kept {frame : Nat} {claims : Nat} {fences : Nat} {e : Nat} (hk : Kept σ s) : Kept σ (State.segFrame s frame claims fences e) := by
  unfold State.segFrame
  repeat' first
    | with_reducible assumption
    | with_reducible apply State.setSeg_kept
    | with_reducible apply State.setFld_kept
    | with_reducible apply State.claim_kept
    | with_reducible apply State.holderFrame_kept
    | with_reducible apply Kept.ite

theorem State.redFrame_kept {frame : Nat} (hk : Kept σ s) : Kept σ (State.redFrame s frame) := by
  unfold State.redFrame
  repeat' first
    | with_reducible assumption
    | intro _
    | with_reducible apply State.segDue_kept
    | with_reducible apply State.useDecision_kept
    | with_reducible refine State.useDecision_kept' (he := by assumption) ?_
    | with_reducible apply State.segFrame_kept
    | with_reducible apply State.setSeg_kept
    | with_reducible apply State.setFld_kept
    | with_reducible apply Kept.foldl
    | with_reducible apply Kept.foldl_fst
    | with_reducible apply Kept.ite
    | simp only [↓Kept.mk_iff]
    | split

theorem State.redReset_kept (hk : Kept σ s) : Kept σ (State.redReset s) := by
  unfold State.redReset
  repeat' first
    | with_reducible assumption
    | simp only [↓Kept.mk_iff]

end Sys2Proof.Machine
end

