-- ==== Sys2Proof/Laws/KeptTime.lean ====
section
/-! SUPPORT. What the operations of Machine/Time.lean keep. -/

namespace Sys2Proof.Machine

variable {σ s : State}

theorem State.tick_kept (hk : Kept σ s) : Kept σ (State.tick s) := by
  unfold State.tick
  repeat' first
    | with_reducible assumption
    | simp only [↓Kept.mk_iff]

theorem State.setTimePort_kept {k : Nat} {x : TimePort} (hk : Kept σ s) : Kept σ (State.setTimePort s k x) := by
  unfold State.setTimePort
  repeat' first
    | with_reducible assumption
    | simp only [↓Kept.mk_iff]

theorem State.setLock_kept {st : Nat} (hk : Kept σ s) : Kept σ (State.setLock s st) := by
  unfold State.setLock
  repeat' first
    | with_reducible assumption
    | with_reducible apply State.setFld_kept
    | with_reducible apply State.setFlag_kept
    | with_reducible apply State.raise_kept
    | with_reducible apply Kept.ite
    | simp only [↓Kept.mk_iff]

theorem State.setRoot_kept {root : Nat} {pri : Nat} (hk : Kept σ s) : Kept σ (State.setRoot s root pri) := by
  unfold State.setRoot
  repeat' first
    | with_reducible assumption
    | with_reducible apply State.setFld_kept
    | with_reducible apply State.raise_kept
    | with_reducible apply Kept.ite
    | simp only [↓Kept.mk_iff]

theorem State.takeOffer_kept {id : Nat} (hk : Kept σ s) : Kept σ (State.takeOffer s id) := by
  unfold State.takeOffer
  repeat' first
    | with_reducible assumption
    | intro _
    | with_reducible apply State.setFld_kept
    | with_reducible apply State.setFlag_kept
    | with_reducible apply State.setRoot_kept
    | with_reducible apply State.setLock_kept
    | with_reducible apply Kept.ite
    | simp only [↓Kept.mk_iff]
    | split

theorem State.refreshOffer_kept {id : Nat} (hk : Kept σ s) : Kept σ (State.refreshOffer s id) := by
  unfold State.refreshOffer
  repeat' first
    | with_reducible assumption
    | intro _
    | with_reducible apply State.setRoot_kept
    | with_reducible apply State.setFld_kept
    | with_reducible apply State.setLock_kept
    | with_reducible apply Kept.ite
    | simp only [↓Kept.mk_iff]
    | split

theorem State.chooseParent_kept (hk : Kept σ s) : Kept σ (State.chooseParent s) := by
  unfold State.chooseParent
  repeat' first
    | with_reducible assumption
    | intro _
    | with_reducible apply State.refreshOffer_kept
    | with_reducible apply State.setFlag_kept
    | with_reducible apply State.setLock_kept
    | with_reducible apply State.takeOffer_kept
    | with_reducible apply Kept.ite
    | simp only [↓Kept.mk_iff]
    | split

theorem State.stepWall_kept {e : Int} (hk : Kept σ s) : Kept σ (State.stepWall s e) := by
  unfold State.stepWall
  repeat' first
    | with_reducible assumption
    | with_reducible apply State.raise_kept
    | simp only [↓Kept.mk_iff]

theorem State.exchange_kept {e : Int} {dt : Nat} (hk : Kept σ s) : Kept σ (State.exchange s e dt) := by
  unfold State.exchange
  repeat' first
    | with_reducible assumption
    | with_reducible apply State.setFld_kept
    | with_reducible apply State.stepWall_kept
    | with_reducible apply State.setLock_kept
    | with_reducible apply Kept.ite
    | simp only [↓Kept.mk_iff]

theorem State.raiseRootSeq_kept (hk : Kept σ s) : Kept σ (State.raiseRootSeq s) := by
  unfold State.raiseRootSeq
  repeat' first
    | with_reducible assumption
    | with_reducible apply Kept.ite
    | simp only [↓Kept.mk_iff]

theorem State.sendTime_kept {k : Nat} {sub : Nat} (hk : Kept σ s) : Kept σ (State.sendTime s k sub) := by
  unfold State.sendTime
  repeat' first
    | with_reducible assumption
    | with_reducible apply State.raiseRootSeq_kept
    | with_reducible apply State.emit_kept
    | with_reducible apply State.setTimePort_kept
    | with_reducible apply State.setPort_kept

theorem onTimePlankSend_kept {k : Fin 16} {sub : Fin 16} (hk : Kept σ s) : Kept σ (onTimePlankSend k sub s) := by
  unfold onTimePlankSend
  repeat' first
    | with_reducible assumption
    | with_reducible apply State.sendTime_kept
    | with_reducible apply State.setPort_kept
    | with_reducible apply Kept.ite

theorem onPlankSend_kept {k : Fin 16} {sub : Fin 16} (hk : Kept σ s) : Kept σ (onPlankSend k sub s) := by
  unfold onPlankSend
  repeat' first
    | with_reducible assumption
    | with_reducible apply State.sendTime_kept
    | with_reducible apply State.sendLink_kept
    | with_reducible apply State.sendControl_kept
    | with_reducible apply State.sendData_kept
    | with_reducible apply Kept.ite
    | split

theorem State.timeArrives_kept {k : Nat} {t : TimeInfo} {sub : Nat} (hk : Kept σ s) : Kept σ (State.timeArrives s k t sub) := by
  unfold State.timeArrives
  repeat' first
    | with_reducible assumption
    | with_reducible apply State.setTimePort_kept
    | with_reducible apply State.setFld_kept
    | with_reducible apply State.chooseParent_kept
    | with_reducible apply State.exchange_kept
    | with_reducible apply Kept.ite
    | simp only [↓Kept.mk_iff]

theorem onOfferExpiry_kept {k : Fin 16} (hk : Kept σ s) : Kept σ (onOfferExpiry k s) := by
  unfold onOfferExpiry
  repeat' first
    | with_reducible assumption
    | with_reducible apply State.chooseParent_kept
    | with_reducible apply Kept.ite

theorem onHoldoverExpiry_kept (hk : Kept σ s) : Kept σ (onHoldoverExpiry s) := by
  unfold onHoldoverExpiry
  repeat' first
    | with_reducible assumption
    | with_reducible apply State.setLock_kept
    | with_reducible apply Kept.ite

theorem onFtSyncEdge_kept (hk : Kept σ s) : Kept σ (onFtSyncEdge s) := by
  unfold onFtSyncEdge
  repeat' first
    | with_reducible assumption
    | with_reducible apply State.setFld_kept
    | with_reducible apply State.setFlag_kept
    | with_reducible apply State.setRoot_kept
    | with_reducible apply State.setLock_kept
    | with_reducible apply Kept.ite
    | simp only [↓Kept.mk_iff]
    | split

theorem State.writeWall_kept {v : Nat} (hk : Kept σ s) : Kept σ (State.writeWall s v) := by
  unfold State.writeWall
  repeat' first
    | with_reducible assumption
    | with_reducible apply Kept.ite
    | simp only [↓Kept.mk_iff]

end Sys2Proof.Machine
end

