-- ==== Sys2Proof/Laws/KeptReset.lean ====
section
/-! SUPPORT. What the operations of Machine/Reset.lean keep. -/

namespace Sys2Proof.Machine

variable {σ s : State}

theorem State.resetFld_kept {f : Fld} {n : Nat} (hk : Kept σ s) : Kept σ (State.resetFld s f n) := by
  unfold State.resetFld
  repeat' first
    | with_reducible assumption
    | intro _
    | with_reducible apply State.setFld_kept
    | with_reducible apply Kept.foldl

theorem State.clearCounters_kept {n : Nat} (hk : Kept σ s) : Kept σ (s.clearCounters n) := by
  unfold State.clearCounters
  extract_lets s1 s2
  have h1 : Kept σ s1 := by
    refine hk.trans ⟨rfl, List.suffix_refl _, Nat.le_refl _, rfl, Fuses.follows_refl _, ?_, id⟩
    rintro ⟨h1, h2, h3, h4, h5, h6⟩
    refine ⟨h1, h2, h3, h4, h5, ?_⟩
    rw [Sparse.rising_iff] at *
    refine List.Pairwise.map _ ?_ h6
    intro c e h
    split <;> split <;> exact h
  have h2 : Kept σ s2 := Kept.foldl _ (fun _ _ h => State.resetFld_kept h) (State.setFld_kept h1)
  split
  · exact State.setPair_kept h2
  · exact h2

theorem State.orphan_kept {t : Discard → Bool} (hk : Kept σ s) : Kept σ (State.orphan s t) := by
  unfold State.orphan
  repeat' first
    | with_reducible assumption
    | intro _
    | with_reducible apply State.finishOne_kept
    | with_reducible apply Kept.foldl
    | with_reducible apply Kept.foldl_fst
    | simp only [↓Kept.mk_iff]
    | split

theorem State.zeroQueue_kept {q : Nat} (hk : Kept σ s) : Kept σ (State.zeroQueue s q) := by
  unfold State.zeroQueue
  repeat' first
    | with_reducible assumption
    | with_reducible apply State.setFlag_kept
    | with_reducible apply State.setFld_kept
    | with_reducible apply State.setQueue_kept

theorem State.closePort_kept {p : Nat} (hk : Kept σ s) : Kept σ (s.closePort p) := by
  unfold State.closePort
  dsimp only
  refine Kept.host rfl rfl (fun h d hd => ?_) (State.setRing_kept (State.setFld_kept (State.setFld_kept (State.setFlag_kept
    (State.setFlag_kept (Kept.foldl _ (fun _ _ h => State.zeroQueue_kept h) (State.orphan_kept hk)))))))
  obtain ⟨e, he, rfl⟩ := List.mem_map.mp hd
  split <;> exact h e he

theorem State.cfgReset_kept (hk : Kept σ s) : Kept σ (State.cfgReset s) := by
  unfold State.cfgReset
  repeat' first
    | with_reducible assumption
    | with_reducible apply State.setFld_kept
    | with_reducible apply State.setFlag_kept
    | with_reducible apply Kept.ite
    | simp only [↓Kept.mk_iff]

theorem State.spansReset_kept (hk : Kept σ s) : Kept σ (State.spansReset s) := by
  unfold State.spansReset
  repeat' first
    | with_reducible assumption
    | intro _
    | with_reducible apply State.restartSpan_kept
    | with_reducible apply Kept.foldl

theorem State.viaReset_kept (hk : Kept σ s) : Kept σ (State.viaReset s) := by
  unfold State.viaReset
  repeat' first
    | with_reducible assumption
    | intro _
    | simp only [↓Kept.mk_iff]

theorem State.timReset_kept (hk : Kept σ s) : Kept σ (State.timReset s) := by
  unfold State.timReset
  repeat' first
    | with_reducible assumption
    | with_reducible apply State.chooseParent_kept
    | with_reducible apply State.setLock_kept
    | simp only [↓Kept.mk_iff]

theorem State.fnEffect_kept {n : Nat} (hk : Kept σ s) : Kept σ (State.fnEffect s n) := by
  unfold State.fnEffect
  repeat' first
    | with_reducible assumption
    | intro _
    | with_reducible apply State.closePort_kept
    | with_reducible apply State.cfgReset_kept
    | with_reducible apply State.stopClips_kept
    | with_reducible apply State.ingSdiReset_kept
    | with_reducible apply State.ingNetReset_kept
    | with_reducible apply State.ptpReset_kept
    | with_reducible apply State.encReset_kept
    | with_reducible apply State.rateReset_kept
    | with_reducible apply State.spansReset_kept
    | with_reducible apply State.viaReset_kept
    | with_reducible apply State.timReset_kept
    | with_reducible apply State.decReset_kept
    | with_reducible apply State.cmpReset_kept
    | with_reducible apply State.corReset_kept
    | with_reducible apply State.strReset_kept
    | with_reducible apply State.diaReset_kept
    | with_reducible apply State.memReset_kept
    | with_reducible apply State.deckReset_kept
    | with_reducible apply State.ldgReset_kept
    | with_reducible apply State.redReset_kept
    | with_reducible apply State.fwuReset_kept
    | with_reducible apply State.chkReset_kept
    | with_reducible apply State.sigReset_kept
    | with_reducible apply State.resetBay_kept
    | with_reducible apply Kept.foldl
    | with_reducible apply Kept.foldl_fst
    | with_reducible apply Kept.ite
    | split

theorem State.cancelCmds_kept {n : Nat} (hk : Kept σ s) : Kept σ (State.cancelCmds s n) := by
  unfold State.cancelCmds
  repeat' first
    | with_reducible assumption
    | intro _
    | with_reducible apply State.finish_kept
    | with_reducible apply Kept.foldl

theorem State.startReset_kept {n : Nat} (hk : Kept σ s) : Kept σ (State.startReset s n) := by
  unfold State.startReset
  repeat' first
    | with_reducible assumption
    | intro _
    | with_reducible apply State.setFlag_kept
    | with_reducible apply State.setFld_kept
    | with_reducible apply State.cancelCmds_kept
    | with_reducible apply State.fnEffect_kept
    | with_reducible apply State.clearCounters_kept
    | with_reducible apply Kept.ite
    | simp only [↓Kept.mk_iff]

theorem onFnResetDone_kept {n : Fin 48} (hk : Kept σ s) : Kept σ (onFnResetDone n s) := by
  unfold onFnResetDone
  repeat' first
    | with_reducible assumption
    | with_reducible apply State.setFlag_kept
    | with_reducible apply State.setFld_kept
    | with_reducible apply State.setFnState_kept
    | with_reducible apply State.raise_kept
    | with_reducible apply Kept.ite
    | simp only [↓Kept.mk_iff]

theorem onModeFollow_kept {n : Fin 48} (hk : Kept σ s) : Kept σ (onModeFollow n s) := by
  unfold onModeFollow
  repeat' first
    | with_reducible assumption
    | with_reducible apply State.takeMode_kept
    | with_reducible apply State.showRotation_kept
    | with_reducible apply Kept.ite

theorem State.writeFntCtrl_kept {n : Nat} {v : Nat} (hk : Kept σ s) : Kept σ (State.writeFntCtrl s n v) := by
  unfold State.writeFntCtrl
  repeat' first
    | with_reducible assumption
    | with_reducible apply State.setFld_kept
    | with_reducible apply State.markMode_kept
    | with_reducible apply State.startReset_kept
    | with_reducible apply Kept.ite

end Sys2Proof.Machine
end

