-- ==== Sys2Proof/Laws/KeptControl.lean ====
section
/-! SUPPORT. What the operations of Machine/Control.lean keep. -/

namespace Sys2Proof.Machine

variable {σ s : State}

theorem State.startCmd_kept {c : Cmd} (hk : Kept σ s) : Kept σ (State.startCmd s c) := by
  unfold State.startCmd
  repeat' first
    | with_reducible assumption
    | with_reducible apply State.setCmd_kept
    | with_reducible apply State.chkStart_kept
    | with_reducible apply State.beginVerify_kept
    | with_reducible apply State.finish_kept
    | with_reducible apply Kept.ite

theorem onCommandStartAtTime_kept {q : Fin 24} {tag : Nat} (hk : Kept σ s) : Kept σ (onCommandStartAtTime q tag s) := by
  unfold onCommandStartAtTime
  repeat' first
    | with_reducible assumption
    | intro _
    | with_reducible apply State.startCmd_kept
    | with_reducible apply Kept.ite
    | split

theorem State.showStalled_kept (hk : Kept σ s) : Kept σ (State.showStalled s) := by
  unfold State.showStalled
  repeat' first
    | with_reducible assumption
    | intro _
    | with_reducible apply State.setFlag_kept
    | with_reducible apply Kept.foldl
    | with_reducible apply Kept.foldl_fst
    | with_reducible apply Kept.ite

theorem State.fetch_kept {q : Nat} (hq : q < 24) (hk : Kept σ s) : Kept σ (s.fetch q) := by
  unfold State.fetch
  dsimp only
  have h2 (c : Cmd) (hc : c.q = q) (ds : List Discard) (n m : Nat) : Kept σ { s.setFld HIF_Q_STATUS.SQ_HEAD m q with
      host := { (s.setFld HIF_Q_STATUS.SQ_HEAD m q).host with
        lastServed := q, cmds := (s.setFld HIF_Q_STATUS.SQ_HEAD m q).host.cmds ++ [c], fetched := n, discards := ds } } := by
    refine Kept.host rfl rfl (fun h d hd => ?_) (State.setFld_kept hk)
    rcases List.mem_append.mp hd with h' | h'
    · exact h d h'
    · rw [List.mem_singleton.mp h', hc]; exact hq
  split
  · exact State.finish_kept (h2 _ rfl _ _ _)
  · exact State.finish_kept (h2 _ rfl _ _ _)
  · split
    · exact State.startCmd_kept (h2 _ rfl _ _ _)
    · exact h2 _ rfl _ _ _

theorem State.nextQueue_lt {q : Nat} (h : s.nextQueue = some q) : q < 24 := by
  have h := List.mem_of_find?_eq_some h
  obtain ⟨k, -, rfl⟩ := List.mem_map.mp h
  exact Nat.mod_lt _ (by decide)

theorem onCommandFetch_kept (hk : Kept σ s) : Kept σ (onCommandFetch s) := by
  unfold onCommandFetch
  split
  · exact hk
  · split
    · rename_i h
      exact State.showStalled_kept (State.fetch_kept (State.nextQueue_lt h) hk)
    · exact State.showStalled_kept hk

theorem onCmdNop_kept {q : Fin 24} {tag : Nat} (hk : Kept σ s) : Kept σ (onCmdNop q tag s) := by
  unfold onCmdNop
  repeat' first
    | with_reducible assumption
    | with_reducible apply State.finish_kept
    | split

theorem State.abortWaits_kept {c : Cmd} (hk : Kept σ s) : Kept σ (State.abortWaits s c) := by
  unfold State.abortWaits
  repeat' first
    | with_reducible assumption
    | with_reducible apply State.setCmd_kept

theorem State.discoverStop_kept {c : Cmd} (hk : Kept σ s) : Kept σ (State.discoverStop s c) := by
  unfold State.discoverStop
  repeat' first
    | with_reducible assumption
    | intro _
    | with_reducible apply State.finish_kept
    | with_reducible apply Kept.ite
    | simp only [↓Kept.mk_iff]

theorem State.viaRegStop_kept {c : Cmd} (hk : Kept σ s) : Kept σ (State.viaRegStop s c) := by
  unfold State.viaRegStop
  repeat' first
    | with_reducible assumption
    | intro _
    | with_reducible apply State.nextPending_kept
    | with_reducible apply State.finish_kept
    | with_reducible apply Kept.ite
    | simp only [↓Kept.mk_iff]
    | split

theorem State.stopAt_kept {c : Cmd} {n : Nat} (hk : Kept σ s) : Kept σ (State.stopAt s c n) := by
  unfold State.stopAt
  repeat' first
    | with_reducible assumption
    | with_reducible apply State.stageStop_kept
    | with_reducible apply State.stageFlashStop_kept
    | with_reducible apply State.verifyStop_kept
    | with_reducible apply State.applyStop_kept
    | with_reducible apply State.playStop_kept
    | with_reducible apply State.refreshStop_kept
    | with_reducible apply State.discoverStop_kept
    | with_reducible apply State.viaRegStop_kept
    | with_reducible apply State.cmpWriteStop_kept
    | with_reducible apply State.parapetStop_kept
    | with_reducible apply State.corStop_kept
    | with_reducible apply State.trimStop_kept
    | with_reducible apply State.pinStop_kept
    | with_reducible apply State.lampOpStop_kept
    | with_reducible apply State.memStop_kept
    | with_reducible apply State.handoverStop_kept
    | with_reducible apply State.fwuWriteStop_kept
    | with_reducible apply State.forwardStop_kept
    | with_reducible apply State.chkAbort_kept
    | with_reducible apply State.powerStop_kept
    | split

theorem State.stopAll_kept {ops : List Nat} (hk : Kept σ s) : Kept σ (State.stopAll s ops) := by
  unfold State.stopAll
  repeat' first
    | with_reducible assumption
    | intro _
    | with_reducible apply State.stopAt_kept
    | with_reducible apply Kept.foldl

theorem onSafePointStop_kept {q : Fin 24} {tag : Nat} {n : Nat} (hk : Kept σ s) : Kept σ (onSafePointStop q tag n s) := by
  unfold onSafePointStop
  repeat' first
    | with_reducible assumption
    | intro _
    | with_reducible apply State.stopAt_kept
    | with_reducible apply Kept.ite
    | split

theorem onCmdAbort_kept {q : Fin 24} {tag : Nat} (hk : Kept σ s) : Kept σ (onCmdAbort q tag s) := by
  unfold onCmdAbort
  repeat' first
    | with_reducible assumption
    | intro _
    | with_reducible apply State.finish_kept
    | with_reducible apply State.abortWaits_kept
    | with_reducible apply State.setCmd_kept
    | with_reducible apply State.stopAt_kept
    | with_reducible apply Kept.ite
    | simp only [↓Kept.mk_iff]
    | split

theorem State.accept_kept {n : Nat} {period : Nat} {bs : List Byte} (hk : Kept σ s) : Kept σ (State.accept s n period bs) := by
  unfold State.accept
  repeat' first
    | with_reducible assumption
    | intro _
    | with_reducible apply State.ptpDecision_kept
    | with_reducible apply State.stepVote_kept
    | with_reducible apply Kept.ite
    | simp only [↓Kept.mk_iff]

theorem State.decide'_kept {n : Nat} {q : Nat} {tag : Nat} (hk : Kept σ s) : Kept σ (State.decide' s n q tag) := by
  unfold State.decide'
  repeat' first
    | with_reducible assumption
    | with_reducible apply State.finish_kept
    | with_reducible apply State.accept_kept
    | with_reducible apply Kept.ite
    | split

theorem onDecideCfg_kept {q : Fin 24} {tag : Nat} (hk : Kept σ s) : Kept σ (onDecideCfg q tag s) := by
  unfold onDecideCfg
  repeat' first
    | with_reducible assumption
    | with_reducible apply State.decide'_kept

theorem onDecideIngSdi_kept {q : Fin 24} {tag : Nat} (hk : Kept σ s) : Kept σ (onDecideIngSdi q tag s) := by
  unfold onDecideIngSdi
  repeat' first
    | with_reducible assumption
    | with_reducible apply State.decide'_kept

theorem onDecidePtp_kept {q : Fin 24} {tag : Nat} (hk : Kept σ s) : Kept σ (onDecidePtp q tag s) := by
  unfold onDecidePtp
  repeat' first
    | with_reducible assumption
    | with_reducible apply State.decide'_kept

theorem onDecideRate_kept {q : Fin 24} {tag : Nat} (hk : Kept σ s) : Kept σ (onDecideRate q tag s) := by
  unfold onDecideRate
  repeat' first
    | with_reducible assumption
    | with_reducible apply State.decide'_kept

theorem onDecideEnc_kept {q : Fin 24} {tag : Nat} (hk : Kept σ s) : Kept σ (onDecideEnc q tag s) := by
  unfold onDecideEnc
  repeat' first
    | with_reducible assumption
    | with_reducible apply State.decide'_kept

theorem onDecideLnk_kept {q : Fin 24} {tag : Nat} (hk : Kept σ s) : Kept σ (onDecideLnk q tag s) := by
  unfold onDecideLnk
  repeat' first
    | with_reducible assumption
    | with_reducible apply State.decide'_kept

theorem onDecideSpan_kept {q : Fin 24} {tag : Nat} (hk : Kept σ s) : Kept σ (onDecideSpan q tag s) := by
  unfold onDecideSpan
  repeat' first
    | with_reducible assumption
    | with_reducible apply State.decide'_kept

theorem onDecideTim_kept {q : Fin 24} {tag : Nat} (hk : Kept σ s) : Kept σ (onDecideTim q tag s) := by
  unfold onDecideTim
  repeat' first
    | with_reducible assumption
    | with_reducible apply State.decide'_kept

theorem onDecideDec_kept {q : Fin 24} {tag : Nat} (hk : Kept σ s) : Kept σ (onDecideDec q tag s) := by
  unfold onDecideDec
  repeat' first
    | with_reducible assumption
    | with_reducible apply State.decide'_kept

theorem onDecideCmp_kept {q : Fin 24} {tag : Nat} (hk : Kept σ s) : Kept σ (onDecideCmp q tag s) := by
  unfold onDecideCmp
  repeat' first
    | with_reducible assumption
    | with_reducible apply State.decide'_kept

theorem onDecideCor_kept {q : Fin 24} {tag : Nat} (hk : Kept σ s) : Kept σ (onDecideCor q tag s) := by
  unfold onDecideCor
  repeat' first
    | with_reducible assumption
    | with_reducible apply State.decide'_kept

theorem onDecideStr_kept {q : Fin 24} {tag : Nat} (hk : Kept σ s) : Kept σ (onDecideStr q tag s) := by
  unfold onDecideStr
  repeat' first
    | with_reducible assumption
    | with_reducible apply State.decide'_kept

theorem onDecideTherm_kept {q : Fin 24} {tag : Nat} (hk : Kept σ s) : Kept σ (onDecideTherm q tag s) := by
  unfold onDecideTherm
  repeat' first
    | with_reducible assumption
    | with_reducible apply State.decide'_kept

theorem onDecideDia_kept {q : Fin 24} {tag : Nat} (hk : Kept σ s) : Kept σ (onDecideDia q tag s) := by
  unfold onDecideDia
  repeat' first
    | with_reducible assumption
    | with_reducible apply State.decide'_kept

theorem onDecideMem_kept {q : Fin 24} {tag : Nat} (hk : Kept σ s) : Kept σ (onDecideMem q tag s) := by
  unfold onDecideMem
  repeat' first
    | with_reducible assumption
    | with_reducible apply State.decide'_kept

theorem onDecideDeck_kept {q : Fin 24} {tag : Nat} (hk : Kept σ s) : Kept σ (onDecideDeck q tag s) := by
  unfold onDecideDeck
  repeat' first
    | with_reducible assumption
    | with_reducible apply State.decide'_kept

theorem onDecideLdg_kept {q : Fin 24} {tag : Nat} (hk : Kept σ s) : Kept σ (onDecideLdg q tag s) := by
  unfold onDecideLdg
  repeat' first
    | with_reducible assumption
    | with_reducible apply State.decide'_kept

theorem onDecideRed_kept {q : Fin 24} {tag : Nat} (hk : Kept σ s) : Kept σ (onDecideRed q tag s) := by
  unfold onDecideRed
  repeat' first
    | with_reducible assumption
    | with_reducible apply State.decide'_kept

theorem onDecidePwr_kept {q : Fin 24} {tag : Nat} (hk : Kept σ s) : Kept σ (onDecidePwr q tag s) := by
  unfold onDecidePwr
  repeat' first
    | with_reducible assumption
    | with_reducible apply State.decide'_kept

theorem onAssistLate_kept {n : Fin 48} {period : Nat} (hk : Kept σ s) : Kept σ (onAssistLate n period s) := by
  unfold onAssistLate
  repeat' first
    | with_reducible assumption
    | intro _
    | with_reducible apply State.missAssist_kept
    | with_reducible apply State.stepVote_kept
    | with_reducible apply Kept.ite
    | simp only [↓Kept.mk_iff]
    | split

end Sys2Proof.Machine
end

