-- ==== Sys2Proof/Laws/KeptHost.lean ====
section
/-! SUPPORT. What the operations of Machine/Host.lean keep. -/

namespace Sys2Proof.Machine

variable {σ s : State}

theorem State.reply_kept {p : Path} {bs : List Byte} (hk : Kept σ s) : Kept σ (State.reply s p bs) := by
  unfold State.reply
  repeat' first
    | with_reducible assumption
    | with_reducible apply State.emit_kept

theorem State.unmapped_kept {a : Nat} (hk : Kept σ s) : Kept σ (State.unmapped s a) := by
  unfold State.unmapped
  repeat' first
    | with_reducible assumption
    | with_reducible apply State.bump_kept
    | with_reducible apply State.setFld_kept

theorem State.hostDeckRead_kept {port : Nat} {a : Nat} {n : Nat} (hk : Kept σ s) : Kept σ (State.hostDeckRead s port a n).2 := by
  unfold State.hostDeckRead
  repeat' first
    | with_reducible assumption
    | with_reducible apply State.refuseDeck_kept
    | with_reducible apply State.deckRead_kept
    | with_reducible refine State.deckRead_kept' (he := by assumption) ?_
    | with_reducible apply Kept.ite
    | split

theorem State.hostDeckRead_kept' {port : Nat} {a : Nat} {n : Nat} {τ : State} {x0} (he : State.hostDeckRead s port a n = (x0, τ)) (hk : Kept σ s) : Kept σ τ := by
  have := State.hostDeckRead_kept (hk := hk) (port := port) (a := a) (n := n)
  rwa [he] at this

theorem State.hostDeckWrite_kept {port : Nat} {a : Nat} {bs : List Byte} (hk : Kept σ s) : Kept σ (State.hostDeckWrite s port a bs) := by
  unfold State.hostDeckWrite
  repeat' first
    | with_reducible assumption
    | intro _
    | with_reducible apply State.refuseDeck_kept
    | with_reducible apply State.deckWrite_kept
    | with_reducible apply Kept.ite

theorem State.deckNext_kept (hk : Kept σ s) : Kept σ (State.deckNext s) := by
  unfold State.deckNext
  repeat' first
    | with_reducible assumption
    | with_reducible apply State.setFld_kept

theorem State.deckPairRead_kept {port : Nat} (hk : Kept σ s) : Kept σ (State.deckPairRead s port).2 := by
  unfold State.deckPairRead
  repeat' first
    | with_reducible assumption
    | with_reducible apply State.hostDeckRead_kept
    | with_reducible refine State.hostDeckRead_kept' (he := by assumption) ?_
    | with_reducible apply State.deckNext_kept

theorem State.deckPairRead_kept' {port : Nat} {τ : State} {x0} (he : State.deckPairRead s port = (x0, τ)) (hk : Kept σ s) : Kept σ τ := by
  have := State.deckPairRead_kept (hk := hk) (port := port)
  rwa [he] at this

theorem State.deckPairWrite_kept {port : Nat} {v : Nat} (hk : Kept σ s) : Kept σ (State.deckPairWrite s port v) := by
  unfold State.deckPairWrite
  repeat' first
    | with_reducible assumption
    | with_reducible apply State.hostDeckWrite_kept
    | with_reducible apply State.deckNext_kept

theorem State.adapted_kept {a : Nat} (hk : Kept σ s) : Kept σ (State.adapted s a) := by
  unfold State.adapted
  repeat' first
    | with_reducible assumption
    | with_reducible apply State.adaptLane_kept
    | with_reducible apply Kept.ite

theorem State.readValue_kept {d : RegDesc} {hi : Bool} {a : Nat} (hk : Kept σ s) : Kept σ (State.readValue s d hi a).2 := by
  unfold State.readValue
  repeat' first
    | with_reducible assumption
    | intro _
    | with_reducible apply State.adapted_kept
    | with_reducible apply State.draw_kept
    | with_reducible apply Kept.foldl
    | with_reducible apply Kept.foldl_fst
    | with_reducible apply Kept.ite
    | split
    | dsimp only

theorem State.readValue_kept' {d : RegDesc} {hi : Bool} {a : Nat} {τ : State} {x0} (he : State.readValue s d hi a = (x0, τ)) (hk : Kept σ s) : Kept σ τ := by
  have := State.readValue_kept (hk := hk) (d := d) (hi := hi) (a := a)
  rwa [he] at this

theorem State.afterRead_kept {d : RegDesc} {i : Nat} {a : Nat} {meets : Nat} (hk : Kept σ s) : Kept σ (State.afterRead s d i a meets) := by
  unfold State.afterRead
  repeat' first
    | with_reducible assumption
    | intro _
    | with_reducible apply State.setWord_kept
    | with_reducible apply State.setFld_kept
    | with_reducible apply Kept.foldl
    | with_reducible apply Kept.foldl_fst
    | with_reducible apply Kept.ite

theorem State.hostReadWord_kept {p : Path} {a : Nat} {meets : Nat} (hk : Kept σ s) : Kept σ (State.hostReadWord s p a meets).2 := by
  unfold State.hostReadWord
  repeat' first
    | with_reducible assumption
    | with_reducible apply State.unmapped_kept
    | with_reducible apply State.deckPairRead_kept
    | with_reducible refine State.deckPairRead_kept' (he := by assumption) ?_
    | with_reducible apply State.readValue_kept
    | with_reducible refine State.readValue_kept' (he := by assumption) ?_
    | with_reducible apply State.afterRead_kept
    | with_reducible apply Kept.ite
    | simp only [↓Kept.mk_iff]
    | split

theorem State.hostReadWord_kept' {p : Path} {a : Nat} {meets : Nat} {τ : State} {x0} (he : State.hostReadWord s p a meets = (x0, τ)) (hk : Kept σ s) : Kept σ τ := by
  have := State.hostReadWord_kept (hk := hk) (p := p) (a := a) (meets := meets)
  rwa [he] at this

theorem State.readWords_kept {next : Nat → Nat} {p : Path} {meets a n : Nat} (hk : Kept σ s) : Kept σ (State.readWords next p meets a n s).2 := by
  induction n generalizing s a meets with
  | zero => exact hk
  | succ n ih =>
    unfold State.readWords
    exact ih (State.hostReadWord_kept hk)

theorem State.readWords_kept' {next : Nat → Nat} {p : Path} {meets a n : Nat} {τ : State} {x0} (he : State.readWords next p meets a n s = (x0, τ))
    (hk : Kept σ s) : Kept σ τ := by
  have := State.readWords_kept (next := next) (p := p) (meets := meets) (a := a) (n := n) hk
  rwa [he] at this

theorem State.spiRead_kept {a : Nat} {n : Nat} {meets : Nat} (hk : Kept σ s) : Kept σ (State.spiRead s a n meets) := by
  unfold State.spiRead
  repeat' first
    | with_reducible assumption
    | with_reducible apply State.readWords_kept
    | with_reducible refine State.readWords_kept' (he := by assumption) ?_
    | with_reducible apply State.reply_kept

theorem State.hostRead_kept {p : Path} {a : Nat} {n : Nat} {meets : Nat} (hk : Kept σ s) : Kept σ (State.hostRead s p a n meets) := by
  unfold State.hostRead
  repeat' first
    | with_reducible assumption
    | with_reducible apply State.readWords_kept
    | with_reducible refine State.readWords_kept' (he := by assumption) ?_
    | with_reducible apply State.reply_kept
    | with_reducible apply State.spiRead_kept
    | with_reducible apply Kept.ite
    | split

theorem State.writePlain_kept {d : RegDesc} {a : Nat} {v : Nat} (hk : Kept σ s) : Kept σ (State.writePlain s d a v) := by
  unfold State.writePlain
  repeat' first
    | with_reducible assumption
    | intro _
    | with_reducible apply State.setWord_kept

theorem State.writePlainPair_kept {d : RegDesc} {a : Nat} {v : Nat} (hk : Kept σ s) : Kept σ (State.writePlainPair s d a v) := by
  unfold State.writePlainPair
  repeat' first
    | with_reducible assumption
    | intro _
    | with_reducible apply State.setWord_kept

theorem State.queueEnable_kept {q : Nat} (hk : Kept σ s) : Kept σ (State.queueEnable s q) := by
  unfold State.queueEnable
  repeat' first
    | with_reducible assumption
    | intro _
    | with_reducible apply State.zeroQueue_kept
    | with_reducible apply State.setFlag_kept
    | with_reducible apply Kept.ite

theorem State.queueDisable_kept {q : Nat} (hk : Kept σ s) : Kept σ (State.queueDisable s q) := by
  unfold State.queueDisable
  repeat' first
    | with_reducible assumption
    | intro _
    | with_reducible apply State.orphan_kept
    | with_reducible apply State.setFlag_kept
    | with_reducible apply State.setQueue_kept
    | with_reducible apply State.drained_kept

theorem State.writeQueueCfg_kept {d : RegDesc} {q : Nat} {a : Nat} {v : Nat} (hk : Kept σ s) : Kept σ (State.writeQueueCfg s d q a v) := by
  unfold State.writeQueueCfg
  repeat' first
    | with_reducible assumption
    | with_reducible apply State.writePlain_kept
    | with_reducible apply State.setFlag_kept
    | with_reducible apply State.queueEnable_kept
    | with_reducible apply State.queueDisable_kept
    | with_reducible apply Kept.ite

theorem State.writeRingCfg_kept {d : RegDesc} {p : Nat} {a : Nat} {v : Nat} (hk : Kept σ s) : Kept σ (State.writeRingCfg s d p a v) := by
  unfold State.writeRingCfg
  repeat' first
    | with_reducible assumption
    | intro _
    | with_reducible apply State.writePlain_kept
    | with_reducible apply State.setFlag_kept
    | with_reducible apply State.setFld_kept
    | with_reducible apply State.setRing_kept
    | with_reducible apply State.raiseFor_kept
    | with_reducible apply Kept.foldl
    | with_reducible apply Kept.foldl_fst
    | with_reducible apply Kept.ite
    | simp only [↓Kept.mk_iff]

theorem State.writeTail_kept {q : Nat} {v : Nat} (hk : Kept σ s) : Kept σ (State.writeTail s q v) := by
  unfold State.writeTail
  repeat' first
    | with_reducible assumption
    | with_reducible apply State.setFld_kept
    | with_reducible apply State.setFlag_kept
    | with_reducible apply State.raise_kept
    | with_reducible apply Kept.ite

theorem State.writeCqHead_kept {q : Nat} {v : Nat} (hk : Kept σ s) : Kept σ (State.writeCqHead s q v) := by
  unfold State.writeCqHead
  repeat' first
    | with_reducible assumption
    | with_reducible apply State.setFld_kept
    | with_reducible apply State.rearm_kept

theorem State.writeEvHead_kept {p : Nat} {v : Nat} (hk : Kept σ s) : Kept σ (State.writeEvHead s p v) := by
  unfold State.writeEvHead
  repeat' first
    | with_reducible assumption
    | intro _
    | with_reducible apply State.setFld_kept
    | with_reducible apply State.setRing_kept
    | with_reducible apply State.rearm_kept

theorem State.writePortCfg_kept {v : Nat} (hk : Kept σ s) : Kept σ (State.writePortCfg s v) := by
  unfold State.writePortCfg
  repeat' first
    | with_reducible assumption
    | intro _
    | with_reducible apply State.closePort_kept
    | with_reducible apply State.setFlag_kept
    | with_reducible apply Kept.foldl
    | with_reducible apply Kept.foldl_fst
    | with_reducible apply Kept.ite

theorem State.writeLaneCfg_kept {d : RegDesc} {i : Nat} {a : Nat} {v : Nat} (hk : Kept σ s) : Kept σ (State.writeLaneCfg s d i a v) := by
  unfold State.writeLaneCfg
  repeat' first
    | with_reducible assumption
    | intro _
    | with_reducible apply State.adaptLane_kept
    | with_reducible apply State.writePlain_kept
    | with_reducible apply State.setWord_kept
    | with_reducible apply State.emit_kept
    | with_reducible apply State.setFld_kept
    | with_reducible apply State.setPair_kept
    | with_reducible apply State.clearChecker_kept
    | with_reducible apply Kept.ite

theorem State.writeSpanCfg_kept {d : RegDesc} {k : Nat} {a : Nat} {v : Nat} (hk : Kept σ s) : Kept σ (State.writeSpanCfg s d k a v) := by
  unfold State.writeSpanCfg
  repeat' first
    | with_reducible assumption
    | with_reducible apply State.writePlain_kept
    | with_reducible apply State.setSpanEnable_kept
    | with_reducible apply State.setFlag_kept
    | with_reducible apply State.retrain_kept
    | with_reducible apply Kept.ite

theorem State.writeSpanInj_kept {k : Nat} {v : Nat} (hk : Kept σ s) : Kept σ (State.writeSpanInj s k v) := by
  unfold State.writeSpanInj
  repeat' first
    | with_reducible assumption
    | with_reducible apply State.inject_kept

theorem State.writeLaneInj_kept {d : RegDesc} {i : Nat} {a : Nat} {v : Nat} (hk : Kept σ s) : Kept σ (State.writeLaneInj s d i a v) := by
  unfold State.writeLaneInj
  repeat' first
    | with_reducible assumption
    | with_reducible apply State.writePlain_kept
    | with_reducible apply State.emit_kept
    | with_reducible apply Kept.ite

theorem State.writeEyeCtrl_kept {d : RegDesc} {i : Nat} {a : Nat} {v : Nat} (hk : Kept σ s) : Kept σ (State.writeEyeCtrl s d i a v) := by
  unfold State.writeEyeCtrl
  repeat' first
    | with_reducible assumption
    | with_reducible apply State.writePlain_kept
    | with_reducible apply State.startScan_kept
    | with_reducible apply Kept.ite

theorem State.writeSdiCfg_kept {d : RegDesc} {a : Nat} {v : Nat} (hk : Kept σ s) : Kept σ (State.writeSdiCfg s d a v) := by
  unfold State.writeSdiCfg
  repeat' first
    | with_reducible assumption
    | with_reducible apply State.writePlain_kept
    | with_reducible apply State.sdiSettle_kept

theorem State.writeEncLayer_kept {d : RegDesc} {l : Nat} {a : Nat} {v : Nat} (hk : Kept σ s) : Kept σ (State.writeEncLayer s d l a v) := by
  unfold State.writeEncLayer
  repeat' first
    | with_reducible assumption
    | with_reducible apply State.writePlain_kept
    | with_reducible apply State.setFlag_kept
    | with_reducible apply Kept.ite

theorem State.writeDiaTime_kept {d : RegDesc} {a : Nat} {v : Nat} (hk : Kept σ s) : Kept σ (State.writeDiaTime s d a v) := by
  unfold State.writeDiaTime
  repeat' first
    | with_reducible assumption
    | with_reducible apply State.writePlain_kept
    | with_reducible apply State.setFlag_kept
    | with_reducible apply Kept.ite

theorem State.writeShare_kept {d : RegDesc} {b : Nat} {a : Nat} {v : Nat} (hk : Kept σ s) : Kept σ (State.writeShare s d b a v) := by
  unfold State.writeShare
  repeat' first
    | with_reducible assumption
    | with_reducible apply State.writePlain_kept
    | with_reducible apply State.setBay_kept
    | with_reducible apply State.setFlag_kept
    | with_reducible apply Kept.ite

theorem State.writeReg_kept {port : Nat} {d : RegDesc} {i : Nat} {a : Nat} {v : Nat} (hk : Kept σ s) : Kept σ (State.writeReg s port d i a v) := by
  unfold State.writeReg
  repeat' first
    | with_reducible assumption
    | with_reducible apply State.hostReset_kept
    | with_reducible apply State.setFld_kept
    | with_reducible apply State.writeFntCtrl_kept
    | with_reducible apply State.writePortCfg_kept
    | with_reducible apply State.writePlain_kept
    | with_reducible apply State.deckPairWrite_kept
    | with_reducible apply State.writeQueueCfg_kept
    | with_reducible apply State.writeTail_kept
    | with_reducible apply State.writeCqHead_kept
    | with_reducible apply State.writeRingCfg_kept
    | with_reducible apply State.writeEvHead_kept
    | with_reducible apply State.writeChkCfg_kept
    | with_reducible apply State.writeChkFeed_kept
    | with_reducible apply State.writeChkFeed1_kept
    | with_reducible apply State.writeChkCtrl_kept
    | with_reducible apply State.recoverGo_kept
    | with_reducible apply State.writeLaneCfg_kept
    | with_reducible apply State.writeEyeCtrl_kept
    | with_reducible apply State.writeLaneInj_kept
    | with_reducible apply State.writeSpanCfg_kept
    | with_reducible apply State.writeSpanInj_kept
    | with_reducible apply State.chooseParent_kept
    | with_reducible apply State.setIngLayer_kept
    | with_reducible apply State.writeSdiCfg_kept
    | with_reducible apply State.writeEncLayer_kept
    | with_reducible apply State.hardMark_kept
    | with_reducible apply State.writeDiaTime_kept
    | with_reducible apply State.writeShare_kept
    | with_reducible apply Kept.ite
    | simp only [↓Kept.mk_iff]
    | split

theorem State.writePair_kept {d : RegDesc} {i : Nat} {a : Nat} {v : Nat} (hk : Kept σ s) : Kept σ (State.writePair s d i a v) := by
  unfold State.writePair
  repeat' first
    | with_reducible assumption
    | with_reducible apply State.writeWall_kept
    | with_reducible apply State.writeChkPair_kept
    | with_reducible apply State.writePlainPair_kept
    | split

theorem State.writeHigh_kept {d : RegDesc} {i : Nat} {a : Nat} {v : Nat} (hk : Kept σ s) : Kept σ (State.writeHigh s d i a v) := by
  unfold State.writeHigh
  repeat' first
    | with_reducible assumption
    | intro _
    | with_reducible apply State.writePair_kept
    | with_reducible apply State.setWord_kept
    | with_reducible apply Kept.ite

theorem State.commitPair_kept {p : Path} {d : RegDesc} {i : Nat} {a : Nat} {v : Nat} (hk : Kept σ s) : Kept σ (State.commitPair s p d i a v) := by
  unfold State.commitPair
  repeat' first
    | with_reducible assumption
    | with_reducible apply State.writePair_kept
    | with_reducible apply State.writeHigh_kept
    | simp only [↓Kept.mk_iff]
    | split

theorem State.stageLow_kept {p : Path} {a : Nat} {v : Nat} (hk : Kept σ s) : Kept σ (State.stageLow s p a v) := by
  unfold State.stageLow
  repeat' first
    | with_reducible assumption
    | simp only [↓Kept.mk_iff]

theorem State.writeLow_kept {p : Path} {a : Nat} {v : Nat} (hk : Kept σ s) : Kept σ (State.writeLow s p a v) := by
  unfold State.writeLow
  repeat' first
    | with_reducible assumption
    | intro _
    | with_reducible apply State.chkGuard_kept
    | with_reducible apply State.stageLow_kept
    | with_reducible apply Kept.ite

theorem State.putWord_kept {p : Path} {a : Nat} {v : Nat} (hk : Kept σ s) : Kept σ (State.putWord s p a v) := by
  unfold State.putWord
  repeat' first
    | with_reducible assumption
    | with_reducible apply State.areaWrite_kept
    | with_reducible apply State.unmapped_kept
    | with_reducible apply State.commitPair_kept
    | with_reducible apply State.writeLow_kept
    | with_reducible apply State.writeReg_kept
    | with_reducible apply Kept.ite
    | split

theorem State.hostWriteWord_kept {p : Path} {a : Nat} {v : Nat} (hk : Kept σ s) : Kept σ (State.hostWriteWord s p a v) := by
  unfold State.hostWriteWord
  repeat' first
    | with_reducible assumption
    | with_reducible apply State.putWord_kept
    | with_reducible apply Kept.ite

theorem State.writeWords_kept {next : Nat → Nat} {p : Path} {a : Nat} {bs : List Byte} (hk : Kept σ s) : Kept σ (State.writeWords next p a bs s) := by
  induction a, bs, s using State.writeWords.induct next p with
  | case1 a b0 b1 b2 b3 bs s ih =>
    unfold State.writeWords
    exact ih (State.hostWriteWord_kept hk)
  | case2 a bs s h =>
    unfold State.writeWords
    split
    · exact absurd rfl (h _ _ _ _ _)
    · exact hk

theorem State.hostWrite_kept {p : Path} {a : Nat} {bs : List Byte} (hk : Kept σ s) : Kept σ (State.hostWrite s p a bs) := by
  unfold State.hostWrite
  repeat' first
    | with_reducible assumption
    | with_reducible apply State.writeWords_kept
    | with_reducible apply Kept.ite
    | split

theorem onRegisterWrite_kept {p : Path} {addr : Nat} {bytes : List Byte} (hk : Kept σ s) : Kept σ (onRegisterWrite p addr bytes s) := by
  unfold onRegisterWrite
  repeat' first
    | with_reducible assumption
    | with_reducible apply State.hostWrite_kept

theorem onReadClear_kept {p : Path} {addr : Nat} {width : Nat} {meets : Nat} (hk : Kept σ s) : Kept σ (onReadClear p addr width meets s) := by
  unfold onReadClear
  repeat' first
    | with_reducible assumption
    | with_reducible apply State.hostRead_kept

theorem onPairLoRead_kept {p : Path} {addr : Nat} (hk : Kept σ s) : Kept σ (onPairLoRead p addr s) := by
  unfold onPairLoRead
  repeat' first
    | with_reducible assumption
    | with_reducible apply State.hostRead_kept
    | with_reducible apply Kept.ite
    | split

theorem onPairLoWrite_kept {p : Path} {addr : Nat} {v : Word} (hk : Kept σ s) : Kept σ (onPairLoWrite p addr v s) := by
  unfold onPairLoWrite
  repeat' first
    | with_reducible assumption
    | with_reducible apply State.hostWriteWord_kept
    | with_reducible apply Kept.ite
    | split

theorem onPairHiWrite_kept {p : Path} {addr : Nat} {v : Word} (hk : Kept σ s) : Kept σ (onPairHiWrite p addr v s) := by
  unfold onPairHiWrite
  repeat' first
    | with_reducible assumption
    | with_reducible apply State.hostWriteWord_kept
    | split

theorem onBar2Read_kept {addr : Nat} {width : Nat} (hk : Kept σ s) : Kept σ (onBar2Read addr width s) := by
  unfold onBar2Read
  repeat' first
    | with_reducible assumption
    | with_reducible apply State.hostDeckRead_kept
    | with_reducible refine State.hostDeckRead_kept' (he := by assumption) ?_
    | with_reducible apply State.reply_kept
    | with_reducible apply Kept.ite

theorem onBar2Write_kept {addr : Nat} {bytes : List Byte} (hk : Kept σ s) : Kept σ (onBar2Write addr bytes s) := by
  unfold onBar2Write
  repeat' first
    | with_reducible assumption
    | with_reducible apply State.hostDeckWrite_kept
    | with_reducible apply Kept.ite

theorem onDeckDataRead_kept {p : Path} (hk : Kept σ s) : Kept σ (onDeckDataRead p s) := by
  unfold onDeckDataRead
  repeat' first
    | with_reducible assumption
    | with_reducible apply State.hostRead_kept

theorem onDeckDataWrite_kept {p : Path} {v : Word} (hk : Kept σ s) : Kept σ (onDeckDataWrite p v s) := by
  unfold onDeckDataWrite
  repeat' first
    | with_reducible assumption
    | with_reducible apply State.hostWriteWord_kept

theorem onPortDisable_kept {p : Path} {port : Fin 3} (hk : Kept σ s) : Kept σ (onPortDisable p port s) := by
  unfold onPortDisable
  repeat' first
    | with_reducible assumption
    | with_reducible apply State.hostWriteWord_kept

theorem onPortEnable_kept {p : Path} {port : Fin 3} (hk : Kept σ s) : Kept σ (onPortEnable p port s) := by
  unfold onPortEnable
  repeat' first
    | with_reducible assumption
    | with_reducible apply State.hostWriteWord_kept

theorem onQueueEnable_kept {p : Path} {q : Fin 24} {v : Word} (hk : Kept σ s) : Kept σ (onQueueEnable p q v s) := by
  unfold onQueueEnable
  repeat' first
    | with_reducible assumption
    | with_reducible apply State.hostWriteWord_kept
    | with_reducible apply Kept.ite

theorem onQueueDisable_kept {p : Path} {q : Fin 24} {v : Word} (hk : Kept σ s) : Kept σ (onQueueDisable p q v s) := by
  unfold onQueueDisable
  repeat' first
    | with_reducible assumption
    | with_reducible apply State.hostWriteWord_kept
    | with_reducible apply Kept.ite

theorem onEventRingEnable_kept {p : Path} {ring : Fin 3} {v : Word} (hk : Kept σ s) : Kept σ (onEventRingEnable p ring v s) := by
  unfold onEventRingEnable
  repeat' first
    | with_reducible assumption
    | with_reducible apply State.hostWriteWord_kept
    | with_reducible apply Kept.ite

theorem onEventRingDisable_kept {p : Path} {ring : Fin 3} {v : Word} (hk : Kept σ s) : Kept σ (onEventRingDisable p ring v s) := by
  unfold onEventRingDisable
  repeat' first
    | with_reducible assumption
    | with_reducible apply State.hostWriteWord_kept
    | with_reducible apply Kept.ite

theorem onSqDoorbell_kept {p : Path} {q : Fin 24} {v : Word} (hk : Kept σ s) : Kept σ (onSqDoorbell p q v s) := by
  unfold onSqDoorbell
  repeat' first
    | with_reducible assumption
    | with_reducible apply State.hostWriteWord_kept

theorem onCqHeadWrite_kept {p : Path} {q : Fin 24} {v : Word} (hk : Kept σ s) : Kept σ (onCqHeadWrite p q v s) := by
  unfold onCqHeadWrite
  repeat' first
    | with_reducible assumption
    | with_reducible apply State.hostWriteWord_kept

theorem onEvHeadWrite_kept {p : Path} {ring : Fin 3} {v : Word} (hk : Kept σ s) : Kept σ (onEvHeadWrite p ring v s) := by
  unfold onEvHeadWrite
  repeat' first
    | with_reducible assumption
    | with_reducible apply State.hostWriteWord_kept

theorem onFnReset_kept {p : Path} {n : Fin 48} {v : Word} (hk : Kept σ s) : Kept σ (onFnReset p n v s) := by
  unfold onFnReset
  repeat' first
    | with_reducible assumption
    | with_reducible apply State.hostWriteWord_kept
    | with_reducible apply Kept.ite

theorem onSpanEnableWrite_kept {p : Path} {k : Fin 16} {v : Word} (hk : Kept σ s) : Kept σ (onSpanEnableWrite p k v s) := by
  unfold onSpanEnableWrite
  repeat' first
    | with_reducible assumption
    | with_reducible apply State.hostWriteWord_kept
    | with_reducible apply Kept.ite

theorem onSpanRetrainWrite_kept {p : Path} {k : Fin 16} (hk : Kept σ s) : Kept σ (onSpanRetrainWrite p k s) := by
  unfold onSpanRetrainWrite
  repeat' first
    | with_reducible assumption
    | with_reducible apply State.hostWriteWord_kept

theorem onSpanInject_kept {p : Path} {k : Fin 16} {v : Word} (hk : Kept σ s) : Kept σ (onSpanInject p k v s) := by
  unfold onSpanInject
  repeat' first
    | with_reducible assumption
    | with_reducible apply State.hostWriteWord_kept

theorem onLaneInjectOne_kept {p : Path} {lane : Fin 128} (hk : Kept σ s) : Kept σ (onLaneInjectOne p lane s) := by
  unfold onLaneInjectOne
  repeat' first
    | with_reducible assumption
    | with_reducible apply State.hostWriteWord_kept

theorem onEyeScanStart_kept {p : Path} {lane : Fin 128} {v : Word} (hk : Kept σ s) : Kept σ (onEyeScanStart p lane v s) := by
  unfold onEyeScanStart
  repeat' first
    | with_reducible assumption
    | with_reducible apply State.hostWriteWord_kept
    | with_reducible apply Kept.ite

theorem onWallTimeWrite_kept {p : Path} {v : Word} (hk : Kept σ s) : Kept σ (onWallTimeWrite p v s) := by
  unfold onWallTimeWrite
  repeat' first
    | with_reducible assumption
    | with_reducible apply State.hostWriteWord_kept

theorem onChkPresetWrite_kept {p : Path} {u : Fin 32} {v : Word} (hk : Kept σ s) : Kept σ (onChkPresetWrite p u v s) := by
  unfold onChkPresetWrite
  repeat' first
    | with_reducible assumption
    | with_reducible apply State.hostWriteWord_kept

theorem onChkFeed_kept {p : Path} {u : Fin 32} {v : Word} (hk : Kept σ s) : Kept σ (onChkFeed p u v s) := by
  unfold onChkFeed
  repeat' first
    | with_reducible assumption
    | with_reducible apply State.hostWriteWord_kept

theorem onChkFeed1_kept {p : Path} {u : Fin 32} {v : Word} (hk : Kept σ s) : Kept σ (onChkFeed1 p u v s) := by
  unfold onChkFeed1
  repeat' first
    | with_reducible assumption
    | with_reducible apply State.hostWriteWord_kept

theorem onChkLoad_kept {p : Path} {u : Fin 32} {v : Word} (hk : Kept σ s) : Kept σ (onChkLoad p u v s) := by
  unfold onChkLoad
  repeat' first
    | with_reducible assumption
    | with_reducible apply State.hostWriteWord_kept

theorem onGpioSet_kept {p : Path} {v : Word} (hk : Kept σ s) : Kept σ (onGpioSet p v s) := by
  unfold onGpioSet
  repeat' first
    | with_reducible assumption
    | with_reducible apply State.hostWriteWord_kept

theorem onGpioClr_kept {p : Path} {v : Word} (hk : Kept σ s) : Kept σ (onGpioClr p v s) := by
  unfold onGpioClr
  repeat' first
    | with_reducible assumption
    | with_reducible apply State.hostWriteWord_kept

theorem onGlbResetWrite_kept {p : Path} {v : Word} (hk : Kept σ s) : Kept σ (onGlbResetWrite p v s) := by
  unfold onGlbResetWrite
  repeat' first
    | with_reducible assumption
    | with_reducible apply State.hostWriteWord_kept

theorem onFwuRecoverGo_kept {p : Path} {v : Word} {bad : Fin 3} (hk : Kept σ s) : Kept σ (onFwuRecoverGo p v bad s) := by
  unfold onFwuRecoverGo
  repeat' first
    | with_reducible assumption
    | with_reducible apply State.writePlain_kept
    | with_reducible apply State.recoverGo_kept
    | with_reducible apply Kept.ite
    | split

theorem onPcieLinkChange_kept {up : Bool} (hk : Kept σ s) : Kept σ (onPcieLinkChange up s) := by
  unfold onPcieLinkChange
  repeat' first
    | with_reducible assumption
    | with_reducible apply State.setFlag_kept

end Sys2Proof.Machine
end

