-- ==== Sys2Proof/Laws/KeptLoad.lean ====
section
/-! SUPPORT. What the operations of Machine/Load.lean keep. -/

namespace Sys2Proof.Machine

variable {σ s : State}

theorem State.zeroPart_kept {p : Part} (hk : Kept σ s) : Kept σ (State.zeroPart s p) := by
  unfold State.zeroPart
  repeat' first
    | with_reducible assumption
    | intro _
    | with_reducible apply State.memZero_kept
    | with_reducible apply Kept.ite
    | simp only [↓Kept.mk_iff]

theorem State.takeParts_kept {ps : List Part} (hk : Kept σ s) : Kept σ (State.takeParts s ps) := by
  unfold State.takeParts
  repeat' first
    | with_reducible assumption
    | intro _
    | with_reducible apply State.zeroPart_kept
    | with_reducible apply Kept.foldl
    | with_reducible apply Kept.foldl_fst
    | simp only [↓Kept.mk_iff]

theorem State.takeKernels_kept {bs : List Byte} {ks : List Kernel} (hk : Kept σ s) : Kept σ (State.takeKernels s bs ks) := by
  unfold State.takeKernels
  repeat' first
    | with_reducible assumption
    | intro _
    | with_reducible apply State.memPut_kept
    | with_reducible apply Kept.foldl
    | with_reducible apply Kept.foldl_fst
    | simp only [↓Kept.mk_iff]
    | split

theorem State.takeBay_kept {ks : List Kernel} {b : Nat} {e : BayEnt} (hk : Kept σ s) : Kept σ (State.takeBay s ks b e) := by
  unfold State.takeBay
  repeat' first
    | with_reducible assumption
    | with_reducible apply State.setBay_kept
    | with_reducible apply State.setFld_kept
    | with_reducible apply State.reloadBay_kept
    | with_reducible apply Kept.ite
    | simp only [↓Kept.mk_iff]

theorem State.takeShares_kept {bs : List Byte} (hk : Kept σ s) : Kept σ (State.takeShares s bs) := by
  unfold State.takeShares
  repeat' first
    | with_reducible assumption
    | intro _
    | with_reducible apply State.setFld_kept
    | with_reducible apply State.setBay_kept
    | with_reducible apply Kept.foldl
    | with_reducible apply Kept.foldl_fst
    | simp only [↓Kept.mk_iff]
    | split

theorem State.takeBinding_kept {k : Nat} {b : Binding} (hk : Kept σ s) : Kept σ (State.takeBinding s k b) := by
  unfold State.takeBinding
  repeat' first
    | with_reducible assumption
    | intro _
    | with_reducible apply State.leaveUp_kept
    | with_reducible apply State.toDetect_kept
    | with_reducible apply State.setSpan_kept
    | with_reducible apply State.endRetrains_kept
    | with_reducible apply State.bringUp_kept
    | with_reducible apply Kept.ite
    | simp only [↓Kept.mk_iff]

theorem State.latchPairs_kept (hk : Kept σ s) : Kept σ (State.latchPairs s) := by
  unfold State.latchPairs
  repeat' first
    | with_reducible assumption
    | with_reducible apply State.setFlag_kept
    | simp only [↓Kept.mk_iff]

theorem State.takePreload_kept {key : Nat} {mask : Nat} (hk : Kept σ s) : Kept σ (State.takePreload s key mask) := by
  unfold State.takePreload
  repeat' first
    | with_reducible assumption
    | intro _
    | with_reducible apply State.setWord_kept
    | with_reducible apply State.setFld_kept
    | with_reducible apply Kept.ite
    | split

theorem State.takePreloads_kept {bs : List Byte} (hk : Kept σ s) : Kept σ (State.takePreloads s bs) := by
  unfold State.takePreloads
  repeat' first
    | with_reducible assumption
    | intro _
    | with_reducible apply State.takePreload_kept
    | with_reducible apply Kept.foldl
    | with_reducible apply Kept.foldl_fst
    | split

theorem State.writeParams_kept {ps : List (Nat × Nat)} {low : Sparse Nat} (hk : Kept σ s) : Kept σ (State.writeParams ps low s) := by
  induction ps generalizing s low with
  | nil => exact hk
  | cons p ps ih =>
    unfold State.writeParams
    repeat' first
      | with_reducible assumption
      | with_reducible apply ih
      | with_reducible apply State.writeReg_kept
      | with_reducible apply State.writePair_kept
      | split

theorem State.dropNone_kept (hk : Kept σ s) : Kept σ (State.dropNone s) := by
  unfold State.dropNone
  repeat' first
    | with_reducible assumption
    | intro _
    | with_reducible apply State.putLamp_kept
    | with_reducible apply Kept.foldl
    | with_reducible apply Kept.foldl_fst
    | with_reducible apply Kept.ite
    | simp only [↓Kept.mk_iff]

theorem State.takeImage_kept {m : List Byte} {j : Nat} (hk : Kept σ s) : Kept σ (State.takeImage s m j) := by
  unfold State.takeImage
  repeat' first
    | with_reducible assumption
    | with_reducible apply State.discardPatches_kept
    | with_reducible apply State.setFlag_kept
    | with_reducible apply State.deckWrite_kept
    | with_reducible apply State.completeImage_kept
    | with_reducible apply Kept.ite

theorem State.takeLampMap_kept {bs : List Byte} (hk : Kept σ s) : Kept σ (State.takeLampMap s bs) := by
  unfold State.takeLampMap
  repeat' first
    | with_reducible assumption
    | intro _
    | with_reducible apply State.setFld_kept
    | with_reducible apply State.takeImage_kept
    | with_reducible apply State.dropNone_kept
    | with_reducible apply Kept.foldl
    | with_reducible apply Kept.foldl_fst
    | simp only [↓Kept.mk_iff]
    | split

theorem State.fsyncChanged_kept (hk : Kept σ s) : Kept σ (State.fsyncChanged s) := by
  unfold State.fsyncChanged
  repeat' first
    | with_reducible assumption
    | intro _
    | simp only [↓Kept.mk_iff]

theorem State.takeHeader_kept {bs : List Byte} (hk : Kept σ s) : Kept σ (State.takeHeader s bs) := by
  unfold State.takeHeader
  repeat' first
    | with_reducible assumption
    | intro _
    | with_reducible apply State.setFlag_kept
    | with_reducible apply State.setFld_kept
    | with_reducible apply State.setPair_kept
    | with_reducible apply Kept.foldl

theorem State.takeStream_kept (hk : Kept σ s) : Kept σ (State.takeStream s) := by
  unfold State.takeStream
  repeat' first
    | with_reducible assumption
    | intro _
    | with_reducible apply State.takeHeader_kept
    | with_reducible apply State.takeParts_kept
    | with_reducible apply State.takeKernels_kept
    | with_reducible apply State.takeBay_kept
    | with_reducible apply State.takeShares_kept
    | with_reducible apply State.takeBinding_kept
    | with_reducible apply State.latchPairs_kept
    | with_reducible apply State.takePreloads_kept
    | with_reducible apply State.takeLampMap_kept
    | with_reducible apply State.writeParams_kept
    | with_reducible apply State.refChanged_kept
    | with_reducible apply State.layerChanged_kept
    | with_reducible apply State.cmpChanged_kept
    | with_reducible apply State.fsyncChanged_kept
    | with_reducible apply State.clearAudits_kept
    | with_reducible apply State.rebuildLamps_kept
    | with_reducible apply State.setFlag_kept
    | with_reducible apply State.usePresent_kept
    | with_reducible apply State.endApply_kept
    | with_reducible apply Kept.foldl
    | with_reducible apply Kept.foldl_fst
    | with_reducible apply Kept.ite
    | simp only [↓Kept.mk_iff]

theorem State.applyLoad_kept (hk : Kept σ s) : Kept σ (State.applyLoad s) := by
  unfold State.applyLoad
  repeat' first
    | with_reducible assumption
    | intro _
    | with_reducible apply State.setFld_kept
    | with_reducible apply State.cfgFinish_kept
    | with_reducible apply State.cfgErr_kept
    | with_reducible apply State.takeStream_kept
    | with_reducible apply Kept.ite
    | simp only [↓Kept.mk_iff]
    | split

theorem onCfgApplyNoCadence_kept (hk : Kept σ s) : Kept σ (onCfgApplyNoCadence s) := by
  unfold onCfgApplyNoCadence
  repeat' first
    | with_reducible assumption
    | with_reducible apply State.stopAll_kept
    | with_reducible apply State.applyLoad_kept
    | with_reducible apply Kept.ite

theorem State.writeHeld_kept {p : Nat} (hk : Kept σ s) : Kept σ (State.writeHeld s p) := by
  unfold State.writeHeld
  repeat' first
    | with_reducible assumption
    | intro _
    | with_reducible apply State.postNow_kept
    | with_reducible apply State.drained_kept
    | with_reducible apply State.setRing_kept
    | with_reducible apply State.deliverEvent_kept
    | with_reducible apply State.putEvent_kept
    | with_reducible apply Kept.foldl
    | with_reducible apply Kept.foldl_fst
    | with_reducible apply Kept.ite
    | simp only [↓Kept.mk_iff]

theorem State.takeOwnStream_kept (hk : Kept σ s) : Kept σ (State.takeOwnStream s) := by
  unfold State.takeOwnStream
  repeat' first
    | with_reducible assumption
    | with_reducible apply State.stageSlot_kept
    | with_reducible refine State.stageSlot_kept' (he := by assumption) ?_
    | with_reducible apply State.rejectStage_kept
    | with_reducible apply State.runVerify_kept
    | with_reducible refine State.runVerify_kept' (he := by assumption) ?_
    | with_reducible apply State.cfgErr_kept
    | with_reducible apply State.setFld_kept
    | with_reducible apply Kept.ite
    | simp only [↓Kept.mk_iff]

theorem onTollhouseRestartEnd_kept (hk : Kept σ s) : Kept σ (onTollhouseRestartEnd s) := by
  unfold onTollhouseRestartEnd
  repeat' first
    | with_reducible assumption
    | intro _
    | with_reducible apply State.takeOwnStream_kept
    | with_reducible apply State.viaResume_kept
    | with_reducible apply State.writeHeld_kept
    | with_reducible apply Kept.foldl
    | with_reducible apply Kept.foldl_fst
    | with_reducible apply Kept.ite
    | simp only [↓Kept.mk_iff]

end Sys2Proof.Machine
end

