-- ==== Sys2Proof/Laws/KeptCadence.lean ====
section
/-! SUPPORT. What the operations of Machine/Cadence.lean keep. -/

namespace Sys2Proof.Machine

variable {σ s : State}

theorem State.closePeriods_kept (hk : Kept σ s) : Kept σ (State.closePeriods s) := by
  unfold State.closePeriods
  repeat' first
    | with_reducible assumption
    | with_reducible apply State.timingError_kept
    | with_reducible apply Kept.ite
    | simp only [↓Kept.mk_iff]

theorem State.closeCadence_kept (hk : Kept σ s) : Kept σ (State.closeCadence s) := by
  unfold State.closeCadence
  repeat' first
    | with_reducible assumption
    | simp only [↓Kept.mk_iff]

theorem State.sampleModes_kept (hk : Kept σ s) : Kept σ (State.sampleModes s) := by
  unfold State.sampleModes
  repeat' first
    | with_reducible assumption
    | intro _
    | simp only [↓Kept.mk_iff]

theorem State.sampleLoad_kept {frame : Nat} (hk : Kept σ s) : Kept σ (State.sampleLoad s frame) := by
  unfold State.sampleLoad
  repeat' first
    | with_reducible assumption
    | intro _
    | with_reducible apply State.useDecision_kept
    | with_reducible refine State.useDecision_kept' (he := by assumption) ?_
    | with_reducible apply Kept.ite
    | simp only [↓Kept.mk_iff]

theorem State.sampleSettings_kept {frame : Nat} (hk : Kept σ s) : Kept σ (State.sampleSettings s frame) := by
  unfold State.sampleSettings
  repeat' first
    | with_reducible assumption
    | with_reducible apply State.closeHard_kept
    | with_reducible apply State.closePeriods_kept
    | with_reducible apply State.closeCadence_kept
    | with_reducible apply State.closeSoftStr_kept
    | with_reducible apply State.closeCor_kept
    | with_reducible apply State.closeTherm_kept
    | with_reducible apply Kept.ite

theorem State.restoreWord_kept {t : State} {a : Nat} (hk : Kept σ s) : Kept σ (s.restoreWord t a) := by
  unfold State.restoreWord
  refine hk.trans ⟨rfl, List.suffix_refl _, le_rfl, rfl, Fuses.follows_refl _, ?_, id⟩
  rintro ⟨h1, h2, h3, h4, h5, h6⟩
  refine ⟨h1, h2, h3, h4, h5, ?_⟩
  dsimp only
  split
  · exact Sparse.rising_set _ _ h6
  · exact Sparse.rising_erase _ h6

theorem State.sampleUnder_kept {frame : Nat} (hk : Kept σ s) : Kept σ (State.sampleUnder s frame) := by
  unfold State.sampleUnder
  repeat' first
    | with_reducible assumption
    | intro _
    | with_reducible apply State.writeParams_kept
    | with_reducible apply State.sampleSettings_kept
    | with_reducible apply State.restoreWord_kept
    | with_reducible apply Kept.foldl
    | with_reducible apply Kept.foldl_fst
    | with_reducible apply Kept.ite

theorem State.closeWindow_kept (hk : Kept σ s) : Kept σ (State.closeWindow s) := by
  unfold State.closeWindow
  repeat' first
    | with_reducible assumption
    | with_reducible apply State.sampleModes_kept
    | with_reducible apply State.stopAll_kept
    | with_reducible apply State.sampleLoad_kept
    | with_reducible apply State.sampleUnder_kept
    | with_reducible apply State.readyPoint_kept
    | with_reducible apply State.closeDia_kept
    | with_reducible apply Kept.ite
    | simp only [↓Kept.mk_iff]
    | split

theorem onCommitWindowClose_kept (hk : Kept σ s) : Kept σ (onCommitWindowClose s) := by
  unfold onCommitWindowClose
  repeat' first
    | with_reducible assumption
    | with_reducible apply State.closeWindow_kept
    | with_reducible apply Kept.ite
    | split

theorem State.frameEvent_kept {kind : Nat} {frame : Nat} (hk : Kept σ s) : Kept σ (State.frameEvent s kind frame) := by
  unfold State.frameEvent
  repeat' first
    | with_reducible assumption
    | with_reducible apply State.raise_kept
    | with_reducible apply Kept.ite
    | simp only [↓Kept.mk_iff]

theorem State.frameShown_kept (hk : Kept σ s) : Kept σ (State.frameShown s) := by
  unfold State.frameShown
  repeat' first
    | with_reducible assumption
    | simp only [↓Kept.mk_iff]

theorem State.bumpPair_kept {p : PairReg} (hk : Kept σ s) : Kept σ (State.bumpPair s p) := by
  unfold State.bumpPair
  repeat' first
    | with_reducible assumption
    | with_reducible apply State.setPair_kept

theorem State.settle_kept {presented : Bool} (hk : Kept σ s) : Kept σ (State.settle s presented) := by
  unfold State.settle
  repeat' first
    | with_reducible assumption
    | with_reducible apply State.setFlag_kept
    | with_reducible apply State.bumpPair_kept
    | with_reducible apply Kept.ite

theorem State.swapChecked_kept {frame : Option Nat} (hk : Kept σ s) : Kept σ (State.swapChecked s frame) := by
  unfold State.swapChecked
  repeat' first
    | with_reducible assumption
    | with_reducible apply State.bump_kept
    | with_reducible apply State.swapBack_kept
    | with_reducible apply Kept.ite

theorem State.outcome_kept {x : Sched} {prev : Nat} {trans : Bool} (hk : Kept σ s) : Kept σ (State.outcome s x prev trans).1 := by
  unfold State.outcome
  repeat' first
    | with_reducible assumption
    | with_reducible apply State.settle_kept
    | with_reducible apply State.bump_kept
    | with_reducible apply State.frameEvent_kept
    | with_reducible apply State.swapChecked_kept
    | with_reducible apply State.frameShown_kept
    | with_reducible apply Kept.ite
    | split
    | dsimp only

theorem State.outcome_kept' {x : Sched} {prev : Nat} {trans : Bool} {τ : State} {x0} (he : State.outcome s x prev trans = (τ, x0)) (hk : Kept σ s) : Kept σ τ := by
  have := State.outcome_kept (hk := hk) (x := x) (prev := prev) (trans := trans)
  rwa [he] at this

theorem State.freeExpired_kept {k : Nat} (hk : Kept σ s) : Kept σ (State.freeExpired s k) := by
  unfold State.freeExpired
  repeat' first
    | with_reducible assumption
    | intro _
    | with_reducible apply State.setPort_kept
    | with_reducible apply State.bump_kept
    | with_reducible apply Kept.foldl
    | with_reducible apply Kept.foldl_fst
    | with_reducible apply Kept.ite

theorem State.repairOne_kept {q : Nat} {inst : Nat} {frame : Nat} (hk : Kept σ s) : Kept σ (State.repairOne s q inst frame) := by
  unfold State.repairOne
  repeat' first
    | with_reducible assumption
    | with_reducible apply State.retrain_kept
    | with_reducible apply State.freeExpired_kept
    | with_reducible apply State.freeCtxs_kept
    | with_reducible apply State.startReset_kept
    | with_reducible apply State.bump_kept
    | with_reducible apply State.raise_kept
    | with_reducible apply Kept.ite
    | split

theorem State.repairFrame_kept {frame : Nat} (hk : Kept σ s) : Kept σ (State.repairFrame s frame) := by
  unfold State.repairFrame
  repeat' first
    | with_reducible assumption
    | intro _
    | with_reducible apply State.useDecision_kept
    | with_reducible refine State.useDecision_kept' (he := by assumption) ?_
    | with_reducible apply State.repairOne_kept
    | with_reducible apply Kept.foldl
    | with_reducible apply Kept.foldl_fst
    | with_reducible apply Kept.ite
    | simp only [↓Kept.mk_iff]
    | split

theorem State.takeModes_kept (hk : Kept σ s) : Kept σ (State.takeModes s) := by
  unfold State.takeModes
  repeat' first
    | with_reducible assumption
    | intro _
    | with_reducible apply State.markMode_kept
    | with_reducible apply State.takeMode_kept
    | with_reducible apply Kept.foldl
    | with_reducible apply Kept.foldl_fst
    | with_reducible apply Kept.ite
    | simp only [↓Kept.mk_iff]

theorem State.endEarly_kept (hk : Kept σ s) : Kept σ (State.endEarly s) := by
  unfold State.endEarly
  repeat' first
    | with_reducible assumption
    | with_reducible apply State.abortFrame_kept
    | with_reducible apply Kept.ite

theorem State.restartRaster_kept (hk : Kept σ s) : Kept σ (State.restartRaster s) := by
  unfold State.restartRaster
  repeat' first
    | with_reducible assumption
    | simp only [↓Kept.mk_iff]

theorem State.enterFrame_kept {x : Sched} (hk : Kept σ s) : Kept σ (State.enterFrame s x) := by
  unfold State.enterFrame
  repeat' first
    | with_reducible assumption
    | with_reducible apply State.setPair_kept
    | simp only [↓Kept.mk_iff]
    | split

theorem State.takeLoad_kept (hk : Kept σ s) : Kept σ (State.takeLoad s) := by
  unfold State.takeLoad
  repeat' first
    | with_reducible assumption
    | with_reducible apply State.applyLoad_kept
    | with_reducible apply State.setFlag_kept
    | with_reducible apply Kept.ite

theorem State.startStrands_kept {frame : Nat} {bad : List Nat} (hk : Kept σ s) : Kept σ (State.startStrands s frame bad) := by
  unfold State.startStrands
  repeat' first
    | with_reducible assumption
    | with_reducible apply State.thermResume_kept
    | with_reducible apply State.brownResume_kept
    | with_reducible apply State.applyStr_kept
    | with_reducible apply State.hardMark_kept
    | with_reducible apply State.configSinks_kept
    | with_reducible apply State.raise_kept
    | with_reducible apply State.setFlag_kept
    | with_reducible apply State.startTrim_kept
    | with_reducible apply State.syncFans_kept
    | with_reducible apply State.showStr_kept
    | with_reducible apply Kept.ite
    | simp only [↓Kept.mk_iff]

theorem State.rateFrame_kept {frame : Nat} (hk : Kept σ s) : Kept σ (State.rateFrame s frame) := by
  unfold State.rateFrame
  repeat' first
    | with_reducible assumption
    | with_reducible apply State.useDecision_kept
    | with_reducible refine State.useDecision_kept' (he := by assumption) ?_
    | with_reducible apply State.setFld_kept
    | with_reducible apply Kept.ite
    | split

theorem State.spanFrame_kept {frame : Nat} (hk : Kept σ s) : Kept σ (State.spanFrame s frame) := by
  unfold State.spanFrame
  repeat' first
    | with_reducible assumption
    | intro _
    | with_reducible apply State.useDecision_kept
    | with_reducible refine State.useDecision_kept' (he := by assumption) ?_
    | with_reducible apply State.degradedFrame_kept
    | with_reducible apply Kept.foldl
    | with_reducible apply Kept.foldl_fst
    | with_reducible apply Kept.ite
    | split

theorem State.refreshFrame_kept {frame : Nat} (hk : Kept σ s) : Kept σ (State.refreshFrame s frame) := by
  unfold State.refreshFrame
  repeat' first
    | with_reducible assumption
    | with_reducible apply State.useDecision_kept
    | with_reducible refine State.useDecision_kept' (he := by assumption) ?_
    | with_reducible apply State.decideRefresh_kept
    | with_reducible apply State.repeatRequests_kept
    | with_reducible apply Kept.ite
    | split

theorem State.beginFrame_kept {f : Nat} (hk : Kept σ s) : Kept σ (State.beginFrame s f) := by
  unfold State.beginFrame
  repeat' first
    | with_reducible assumption
    | with_reducible apply State.computeDerate_kept
    | with_reducible apply State.fixCorrection_kept
    | simp only [↓Kept.mk_iff]

theorem State.useBack_kept {n : Nat} {u : BackUse} (hk : Kept σ s) : Kept σ (State.useBack s n u) := by
  unfold State.useBack
  repeat' first
    | with_reducible assumption
    | with_reducible apply State.computeDerate_kept
    | with_reducible apply State.beginFrame_kept
    | with_reducible apply State.retargetBack_kept
    | with_reducible apply Kept.ite
    | simp only [↓Kept.mk_iff]

theorem State.dropDecisions_kept {n : Nat} (hk : Kept σ s) : Kept σ (State.dropDecisions s n) := by
  unfold State.dropDecisions
  repeat' first
    | with_reducible assumption
    | intro _
    | with_reducible apply Kept.ite
    | simp only [↓Kept.mk_iff]

theorem State.scheduleProvisional_kept {x : Sched} (hk : Kept σ s) : Kept σ (State.scheduleProvisional s x) := by
  unfold State.scheduleProvisional
  repeat' first
    | with_reducible assumption
    | with_reducible apply State.setPair_kept
    | with_reducible apply State.setFld_kept
    | with_reducible apply Kept.ite
    | simp only [↓Kept.mk_iff]

theorem State.restOfFrame_kept {n : Nat} (hk : Kept σ s) : Kept σ (State.restOfFrame s n) := by
  unfold State.restOfFrame
  repeat' first
    | with_reducible assumption
    | with_reducible apply State.rateFrame_kept
    | with_reducible apply State.bayFrame_kept
    | with_reducible apply State.memFrame_kept
    | with_reducible apply State.deckFrame_kept
    | with_reducible apply State.endClips_kept
    | with_reducible apply State.ingFrame_kept
    | with_reducible apply State.encFrame_kept
    | with_reducible apply State.refreshFrame_kept
    | with_reducible apply State.spanFrame_kept
    | with_reducible apply State.redFrame_kept
    | with_reducible apply State.repairFrame_kept
    | with_reducible apply State.ldgFrame_kept
    | with_reducible apply State.powerDue_kept
    | with_reducible apply Kept.ite

theorem State.startFrame_kept {x : Sched} {bad : List Nat} (hk : Kept σ s) : Kept σ (State.startFrame s x bad) := by
  unfold State.startFrame
  repeat' first
    | with_reducible assumption
    | intro _
    | with_reducible apply State.stopAll_kept
    | with_reducible apply State.closeWindow_kept
    | with_reducible apply State.takeModes_kept
    | with_reducible apply State.endRefresh_kept
    | with_reducible apply State.endEarly_kept
    | with_reducible apply State.enterFrame_kept
    | with_reducible apply State.restartRaster_kept
    | with_reducible apply State.activateDue_kept
    | with_reducible apply State.strandFrame_kept
    | with_reducible apply State.outcome_kept
    | with_reducible refine State.outcome_kept' (he := by assumption) ?_
    | with_reducible apply State.settle_kept
    | with_reducible apply State.freeClosing_kept
    | with_reducible apply State.takeLoad_kept
    | with_reducible apply State.applyPatches_kept
    | with_reducible apply State.startStrands_kept
    | with_reducible apply State.countBlank_kept
    | with_reducible apply State.diaFrame_kept
    | with_reducible apply State.recountOutside_kept
    | with_reducible apply State.useBack_kept
    | with_reducible apply State.scheduleProvisional_kept
    | with_reducible apply State.restOfFrame_kept
    | with_reducible apply State.dropDecisions_kept
    | with_reducible apply State.showConfirmed_kept
    | with_reducible apply Kept.ite
    | simp only [↓Kept.mk_iff]
    | split

theorem onFrameStart_kept {bad : List Nat} (hk : Kept σ s) : Kept σ (onFrameStart bad s) := by
  unfold onFrameStart
  repeat' first
    | with_reducible assumption
    | with_reducible apply State.startFrame_kept
    | with_reducible apply Kept.ite
    | split

theorem onProvisionalStart_kept {bad : List Nat} (hk : Kept σ s) : Kept σ (onProvisionalStart bad s) := by
  unfold onProvisionalStart
  repeat' first
    | with_reducible assumption
    | intro _
    | with_reducible apply State.bump_kept
    | with_reducible apply State.raise_kept
    | with_reducible apply State.startFrame_kept
    | with_reducible apply Kept.ite
    | split

theorem onCadenceStart_kept {bad : List Nat} (hk : Kept σ s) : Kept σ (onCadenceStart bad s) := by
  unfold onCadenceStart
  repeat' first
    | with_reducible assumption
    | with_reducible apply State.closeWindow_kept
    | with_reducible apply State.takeHard_kept
    | with_reducible apply State.startFrame_kept
    | with_reducible apply Kept.ite
    | simp only [↓Kept.mk_iff]
    | split

end Sys2Proof.Machine
end

