-- ==== Sys2Proof/Laws/KeptRemote.lean ====
section
/-! SUPPORT. What the operations of Machine/Remote.lean keep. -/

namespace Sys2Proof.Machine

variable {σ s : State}

theorem State.dropRequest_kept {m : Msg} (hk : Kept σ s) : Kept σ (State.dropRequest s m) := by
  unfold State.dropRequest
  repeat' first
    | with_reducible assumption
    | intro _
    | with_reducible apply Kept.ite
    | simp only [↓Kept.mk_iff]

theorem State.refuseNode_kept {m : Msg} (hk : Kept σ s) : Kept σ (State.refuseNode s m) := by
  unfold State.refuseNode
  repeat' first
    | with_reducible assumption
    | with_reducible apply State.dropRequest_kept
    | with_reducible apply State.raise_kept
    | with_reducible apply Kept.ite
    | simp only [↓Kept.mk_iff]

theorem onRegRead_kept (hk : Kept σ s) : Kept σ (onRegRead s) := by
  unfold onRegRead
  repeat' first
    | with_reducible assumption
    | with_reducible refine State.takeMsg_kept (he := by assumption) ?_
    | with_reducible apply State.refuseNode_kept
    | with_reducible apply State.dropRequest_kept
    | with_reducible apply State.readWords_kept
    | with_reducible refine State.readWords_kept' (he := by assumption) ?_
    | with_reducible apply State.respond_kept
    | with_reducible apply Kept.ite
    | split

theorem State.remoteWords_kept {p : Path} {a : Nat} {ws : List Nat} (hk : Kept σ s) : Kept σ (State.remoteWords p a ws s) := by
  induction ws generalizing s a with
  | nil => exact hk
  | cons w ws ih =>
    unfold State.remoteWords
    split
    · exact ih (State.hostWriteWord_kept hk)
    · exact hk

theorem onRegWrite_kept (hk : Kept σ s) : Kept σ (onRegWrite s) := by
  unfold onRegWrite
  repeat' first
    | with_reducible assumption
    | with_reducible refine State.takeMsg_kept (he := by assumption) ?_
    | with_reducible apply State.refuseNode_kept
    | with_reducible apply State.dropRequest_kept
    | with_reducible apply State.remoteWords_kept
    | with_reducible apply State.respond_kept
    | with_reducible apply Kept.ite
    | split

theorem State.answeredBy_kept {k : Nat} {p : Pending} {m : Msg} (hk : Kept σ s) : Kept σ (State.answeredBy s k p m) := by
  unfold State.answeredBy
  repeat' first
    | with_reducible assumption
    | intro _
    | with_reducible apply State.portWrite_kept
    | with_reducible apply State.finish_kept
    | with_reducible apply State.offerAnswer_kept
    | with_reducible apply State.chunkAnswer_kept
    | with_reducible apply State.endAnswer_kept
    | with_reducible apply Kept.ite
    | split

theorem onMessageResponse_kept (hk : Kept σ s) : Kept σ (onMessageResponse s) := by
  unfold onMessageResponse
  repeat' first
    | with_reducible assumption
    | intro _
    | with_reducible apply State.answeredBy_kept
    | with_reducible apply State.nextPending_kept
    | with_reducible apply State.discoverDone_kept
    | with_reducible apply Kept.ite
    | simp only [↓Kept.mk_iff]
    | split

theorem onE2eTimeout_kept (hk : Kept σ s) : Kept σ (onE2eTimeout s) := by
  unfold onE2eTimeout
  repeat' first
    | with_reducible assumption
    | intro _
    | with_reducible apply State.bump_kept
    | with_reducible apply State.relaunch_kept
    | with_reducible apply State.giveUp_kept
    | with_reducible apply State.endOffer_kept
    | with_reducible apply Kept.ite
    | simp only [↓Kept.mk_iff]
    | split

end Sys2Proof.Machine
end

