-- ==== Sys2Proof/Laws/KeptVote.lean ====
section
/-! SUPPORT. What the operations of Machine/Vote.lean keep. -/

namespace Sys2Proof.Machine

variable {σ s : State}

theorem State.confirmNamed_kept {c : Closure} (hk : Kept σ s) : Kept σ (State.confirmNamed s c) := by
  unfold State.confirmNamed
  repeat' first
    | with_reducible assumption
    | with_reducible apply State.confirmGen_kept
    | with_reducible apply Kept.ite

theorem State.scheduleClosure_kept {c : Closure} (hk : Kept σ s) : Kept σ (State.scheduleClosure s c) := by
  unfold State.scheduleClosure
  repeat' first
    | with_reducible assumption
    | with_reducible apply State.retargetBack_kept
    | with_reducible apply State.confirmNamed_kept
    | with_reducible apply State.settle_kept
    | with_reducible apply State.setFlag_kept
    | with_reducible apply State.setPair_kept
    | with_reducible apply State.setFld_kept
    | with_reducible apply State.closeWindow_kept
    | with_reducible apply Kept.ite
    | simp only [↓Kept.mk_iff]
    | split

theorem State.missClosure_kept {c : Closure} (hk : Kept σ s) : Kept σ (State.missClosure s c) := by
  unfold State.missClosure
  repeat' first
    | with_reducible assumption
    | with_reducible apply State.confirmNamed_kept
    | with_reducible apply State.bump_kept
    | with_reducible apply State.raise_kept
    | with_reducible apply State.bumpPair_kept
    | with_reducible apply State.setFld_kept
    | with_reducible apply Kept.ite

theorem State.acceptClosure_kept {c : Closure} (hk : Kept σ s) : Kept σ (State.acceptClosure s c) := by
  unfold State.acceptClosure
  repeat' first
    | with_reducible assumption
    | with_reducible apply State.bumpPair_kept
    | with_reducible apply State.missClosure_kept
    | with_reducible apply State.scheduleClosure_kept
    | with_reducible apply Kept.ite
    | simp only [↓Kept.mk_iff]

theorem State.compareClosure_kept {c : Closure} {d : Closure} (hk : Kept σ s) : Kept σ (State.compareClosure s c d) := by
  unfold State.compareClosure
  repeat' first
    | with_reducible assumption
    | with_reducible apply State.setFld_kept
    | with_reducible apply State.bump_kept
    | with_reducible apply State.raise_kept
    | with_reducible apply Kept.ite
    | simp only [↓Kept.mk_iff]

theorem State.holdClosure_kept {c : Closure} (hk : Kept σ s) : Kept σ (State.holdClosure s c) := by
  unfold State.holdClosure
  repeat' first
    | with_reducible assumption
    | intro _
    | with_reducible apply State.compareClosure_kept
    | with_reducible apply State.setFld_kept
    | with_reducible apply State.acceptClosure_kept
    | with_reducible apply Kept.ite
    | simp only [↓Kept.mk_iff]
    | split

theorem onClosure_kept (hk : Kept σ s) : Kept σ (onClosure s) := by
  unfold onClosure
  repeat' first
    | with_reducible assumption
    | with_reducible refine State.takeMsg_kept (he := by assumption) ?_
    | with_reducible apply State.bump_kept
    | with_reducible apply State.holdClosure_kept
    | split

theorem State.showLag_kept {lag : Int} (hk : Kept σ s) : Kept σ (State.showLag s lag) := by
  unfold State.showLag
  repeat' first
    | with_reducible assumption
    | with_reducible apply State.setFld_kept
    | with_reducible apply State.setFlag_kept
    | with_reducible apply State.raise_kept
    | with_reducible apply Kept.ite

theorem State.showSource_kept {lag : Int} (hk : Kept σ s) : Kept σ (State.showSource s lag) := by
  unfold State.showSource
  repeat' first
    | with_reducible assumption
    | with_reducible apply State.setFlag_kept
    | with_reducible apply State.raise_kept
    | with_reducible apply Kept.ite
    | simp only [↓Kept.mk_iff]

theorem State.decideFrame_kept {f : Nat} {key : Nat} {stamp : Option Nat} (hk : Kept σ s) : Kept σ (State.decideFrame s f key stamp) := by
  unfold State.decideFrame
  repeat' first
    | with_reducible assumption
    | intro _
    | with_reducible apply State.showLag_kept
    | with_reducible apply State.showSource_kept
    | with_reducible apply State.raise_kept
    | with_reducible apply State.sendMsg_kept
    | with_reducible apply Kept.foldl
    | with_reducible apply Kept.foldl_fst
    | with_reducible apply Kept.ite
    | simp only [↓Kept.mk_iff]

theorem onCadenceDecision_kept (hk : Kept σ s) : Kept σ (onCadenceDecision s) := by
  unfold onCadenceDecision
  repeat' first
    | with_reducible assumption
    | with_reducible apply State.decideFrame_kept
    | with_reducible apply Kept.ite
    | split

theorem onPropose_kept (hk : Kept σ s) : Kept σ (onPropose s) := by
  unfold onPropose
  repeat' first
    | with_reducible assumption
    | intro _
    | with_reducible refine State.takeMsg_kept (he := by assumption) ?_
    | simp only [↓Kept.mk_iff]
    | split

theorem onVoteWaitExpiry_kept (hk : Kept σ s) : Kept σ (onVoteWaitExpiry s) := by
  unfold onVoteWaitExpiry
  repeat' first
    | with_reducible assumption
    | intro _
    | with_reducible apply Kept.ite
    | simp only [↓Kept.mk_iff]
    | split

theorem onClosureIssue_kept (hk : Kept σ s) : Kept σ (onClosureIssue s) := by
  unfold onClosureIssue
  repeat' first
    | with_reducible assumption
    | with_reducible apply State.sendMsg_kept
    | with_reducible apply State.bumpPair_kept
    | with_reducible apply State.holdClosure_kept
    | with_reducible apply Kept.ite
    | simp only [↓Kept.mk_iff]
    | split

theorem State.afterStep_kept (hk : Kept σ s) : Kept σ (State.afterStep s) := by
  unfold State.afterStep
  repeat' first
    | with_reducible assumption
    | with_reducible apply State.abortFrame_kept
    | with_reducible apply State.rewindDia_kept
    | with_reducible apply Kept.ite
    | simp only [↓Kept.mk_iff]

theorem onTimePlank_kept {k : Fin 16} {sub : Fin 16} {blocks : List Block} (hk : Kept σ s) : Kept σ (onTimePlank k sub blocks s) := by
  unfold onTimePlank
  repeat' first
    | with_reducible assumption
    | intro _
    | with_reducible apply State.receive_kept
    | with_reducible apply State.bump_kept
    | with_reducible apply State.setPort_kept
    | with_reducible apply State.timeArrives_kept
    | with_reducible apply State.afterStep_kept
    | with_reducible apply Kept.ite

theorem State.idle_kept (hk : Kept σ s) : Kept σ (State.idle s) := by
  unfold State.idle
  repeat' first
    | with_reducible assumption
    | with_reducible apply State.tick_kept
    | with_reducible apply State.ptpTick_kept
    | with_reducible apply State.tickBays_kept
    | with_reducible apply Kept.ite

end Sys2Proof.Machine
end

