-- ==== Sys2Proof/Laws/PerInstr.lean ====
section
/-! SUPPORT. A statement per command: the rows whose operands have a width to keep to are the ones listed here; every other row is
well-formed whatever its operands, so that it always has an effect. -/

namespace Sys2Proof.Laws.Wellformed

/-- The rows whose operands carry an address, an access or the fields of a plank or packet. -/
def limited : Instr → Bool
  | .registerWrite _ _ _ | .readClear _ _ _ _ | .pairLoRead _ _ | .pairLoWrite _ _ _
  | .pairHiWrite _ _ _ | .bar2Read _ _ | .bar2Write _ _ | .blockLock _ _
  | .capPlank _ _ | .stepPropose _ _ | .stepTxreq _ _ | .stepResult _ _
  | .fecUncorrectable _ _ | .linkPlank _ _ | .dataPlank _ _ | .vc1Plank _ _
  | .timePlank _ _ _ | .leasePlank _ _ | .wakeMatch _ _ => true
  | _ => false

/-- Only a limited row can be ill-formed. -/
def Statement (i : Instr) : Prop := i.wf = false → limited i = true

theorem registerWrite (p : Path) (addr : Nat) (bytes : List Byte) : Statement (.registerWrite p addr bytes) := fun _ => rfl
theorem readClear (p : Path) (addr : Nat) (width : Nat) (meets : Nat) : Statement (.readClear p addr width meets) := fun _ => rfl
theorem pairLoRead (p : Path) (addr : Nat) : Statement (.pairLoRead p addr) := fun _ => rfl
theorem pairLoWrite (p : Path) (addr : Nat) (v : Word) : Statement (.pairLoWrite p addr v) := fun _ => rfl
theorem pairHiWrite (p : Path) (addr : Nat) (v : Word) : Statement (.pairHiWrite p addr v) := fun _ => rfl
theorem bar2Read (addr : Nat) (width : Nat) : Statement (.bar2Read addr width) := fun _ => rfl
theorem bar2Write (addr : Nat) (bytes : List Byte) : Statement (.bar2Write addr bytes) := fun _ => rfl
theorem deckDataRead (p : Path) : Statement (.deckDataRead p) := fun h => nomatch h
theorem deckDataWrite (p : Path) (v : Word) : Statement (.deckDataWrite p v) := fun h => nomatch h
theorem portDisable (p : Path) (port : Fin 3) : Statement (.portDisable p port) := fun h => nomatch h
theorem portEnable (p : Path) (port : Fin 3) : Statement (.portEnable p port) := fun h => nomatch h
theorem queueEnable (p : Path) (q : Fin 24) (v : Word) : Statement (.queueEnable p q v) := fun h => nomatch h
theorem queueDisable (p : Path) (q : Fin 24) (v : Word) : Statement (.queueDisable p q v) := fun h => nomatch h
theorem eventRingEnable (p : Path) (ring : Fin 3) (v : Word) : Statement (.eventRingEnable p ring v) := fun h => nomatch h
theorem eventRingDisable (p : Path) (ring : Fin 3) (v : Word) : Statement (.eventRingDisable p ring v) := fun h => nomatch h
theorem sqDoorbell (p : Path) (q : Fin 24) (v : Word) : Statement (.sqDoorbell p q v) := fun h => nomatch h
theorem cqHeadWrite (p : Path) (q : Fin 24) (v : Word) : Statement (.cqHeadWrite p q v) := fun h => nomatch h
theorem evHeadWrite (p : Path) (ring : Fin 3) (v : Word) : Statement (.evHeadWrite p ring v) := fun h => nomatch h
theorem commandFetch : Statement .commandFetch := fun h => nomatch h
theorem commandStartAtTime (q : Fin 24) (tag : Nat) : Statement (.commandStartAtTime q tag) := fun h => nomatch h
theorem cmdNop (q : Fin 24) (tag : Nat) : Statement (.cmdNop q tag) := fun h => nomatch h
theorem cmdAbort (q : Fin 24) (tag : Nat) : Statement (.cmdAbort q tag) := fun h => nomatch h
theorem safePointStop (q : Fin 24) (tag : Nat) (n : Nat) : Statement (.safePointStop q tag n) := fun h => nomatch h
theorem fnReset (p : Path) (n : Fin 48) (v : Word) : Statement (.fnReset p n v) := fun h => nomatch h
theorem fnResetDone (n : Fin 48) : Statement (.fnResetDone n) := fun h => nomatch h
theorem modeFollow (n : Fin 48) : Statement (.modeFollow n) := fun h => nomatch h
theorem assistLate (n : Fin 48) (period : Nat) : Statement (.assistLate n period) := fun h => nomatch h
theorem decideCfg (q : Fin 24) (tag : Nat) : Statement (.decideCfg q tag) := fun h => nomatch h
theorem decideIngSdi (q : Fin 24) (tag : Nat) : Statement (.decideIngSdi q tag) := fun h => nomatch h
theorem decidePtp (q : Fin 24) (tag : Nat) : Statement (.decidePtp q tag) := fun h => nomatch h
theorem decideRate (q : Fin 24) (tag : Nat) : Statement (.decideRate q tag) := fun h => nomatch h
theorem decideEnc (q : Fin 24) (tag : Nat) : Statement (.decideEnc q tag) := fun h => nomatch h
theorem decideLnk (q : Fin 24) (tag : Nat) : Statement (.decideLnk q tag) := fun h => nomatch h
theorem decideSpan (q : Fin 24) (tag : Nat) : Statement (.decideSpan q tag) := fun h => nomatch h
theorem decideTim (q : Fin 24) (tag : Nat) : Statement (.decideTim q tag) := fun h => nomatch h
theorem decideDec (q : Fin 24) (tag : Nat) : Statement (.decideDec q tag) := fun h => nomatch h
theorem decideCmp (q : Fin 24) (tag : Nat) : Statement (.decideCmp q tag) := fun h => nomatch h
theorem decideCor (q : Fin 24) (tag : Nat) : Statement (.decideCor q tag) := fun h => nomatch h
theorem decideStr (q : Fin 24) (tag : Nat) : Statement (.decideStr q tag) := fun h => nomatch h
theorem decideTherm (q : Fin 24) (tag : Nat) : Statement (.decideTherm q tag) := fun h => nomatch h
theorem decideDia (q : Fin 24) (tag : Nat) : Statement (.decideDia q tag) := fun h => nomatch h
theorem decideMem (q : Fin 24) (tag : Nat) : Statement (.decideMem q tag) := fun h => nomatch h
theorem decideDeck (q : Fin 24) (tag : Nat) : Statement (.decideDeck q tag) := fun h => nomatch h
theorem decideLdg (q : Fin 24) (tag : Nat) : Statement (.decideLdg q tag) := fun h => nomatch h
theorem decideRed (q : Fin 24) (tag : Nat) : Statement (.decideRed q tag) := fun h => nomatch h
theorem decidePwr (q : Fin 24) (tag : Nat) : Statement (.decidePwr q tag) := fun h => nomatch h
theorem bayFault (b : Fin 16) (lsram : Bool) : Statement (.bayFault b lsram) := fun h => nomatch h
theorem bayWatchdog (b : Fin 16) : Statement (.bayWatchdog b) := fun h => nomatch h
theorem bayLoadDone (b : Fin 16) (ok : Bool) : Statement (.bayLoadDone b ok) := fun h => nomatch h
theorem tollhouseRestart : Statement .tollhouseRestart := fun h => nomatch h
theorem tollhouseRestartEnd : Statement .tollhouseRestartEnd := fun h => nomatch h
theorem tollhouseStart : Statement .tollhouseStart := fun h => nomatch h
theorem commitWindowClose : Statement .commitWindowClose := fun h => nomatch h
theorem frameStart (bad : List Nat) : Statement (.frameStart bad) := fun h => nomatch h
theorem provisionalStart (bad : List Nat) : Statement (.provisionalStart bad) := fun h => nomatch h
theorem cmdCfgStage (q : Fin 24) (tag : Nat) : Statement (.cmdCfgStage q tag) := fun h => nomatch h
theorem cmdCfgStageFlash (q : Fin 24) (tag : Nat) : Statement (.cmdCfgStageFlash q tag) := fun h => nomatch h
theorem cmdCfgVerify (q : Fin 24) (tag : Nat) : Statement (.cmdCfgVerify q tag) := fun h => nomatch h
theorem cmdCfgApply (q : Fin 24) (tag : Nat) : Statement (.cmdCfgApply q tag) := fun h => nomatch h
theorem cmdCfgSvnRaise (q : Fin 24) (tag : Nat) : Statement (.cmdCfgSvnRaise q tag) := fun h => nomatch h
theorem cfgApplyNoCadence : Statement .cfgApplyNoCadence := fun h => nomatch h
theorem cfgAutoload : Statement .cfgAutoload := fun h => nomatch h
theorem sdiLock (idx : Fin 32) (std : Fin 256) (f : SdiFormat) : Statement (.sdiLock idx std f) := fun h => nomatch h
theorem sdiLockLoss (idx : Fin 32) : Statement (.sdiLockLoss idx) := fun h => nomatch h
theorem flowTimeout (k : Fin 64) : Statement (.flowTimeout k) := fun h => nomatch h
theorem sourceFrameComplete (idx : Fin 96) (crcErr : Nat) (overflow : Nat) : Statement (.sourceFrameComplete idx crcErr overflow) := fun h => nomatch h
theorem sourceFrameStart (idx : Fin 96) (rows : List (List Nat)) : Statement (.sourceFrameStart idx rows) := fun h => nomatch h
theorem ancPacket (idx : Fin 32) (bytes : List Byte) (full : Bool) : Statement (.ancPacket idx bytes full) := fun h => nomatch h
theorem ethPacket (e : Fin 8) (p : EthPacket) : Statement (.ethPacket e p) := fun h => nomatch h
theorem ptpMessage (e : Fin 8) (m : PtpMsg) : Statement (.ptpMessage e m) := fun h => nomatch h
theorem igmpJoin (k : Fin 64) : Statement (.igmpJoin k) := fun h => nomatch h
theorem igmpQuery (e : Fin 8) : Statement (.igmpQuery e) := fun h => nomatch h
theorem arpRequest (e : Fin 8) (ip : Nat) : Statement (.arpRequest e ip) := fun h => nomatch h
theorem sliceRowDeadline (l : Fin 63) (row : Nat) (written : Nat) : Statement (.sliceRowDeadline l row written) := fun h => nomatch h
theorem cmdIngPlay (q : Fin 24) (tag : Nat) : Statement (.cmdIngPlay q tag) := fun h => nomatch h
theorem sliceAllocate (l : Fin 63) (c : Fin 64) (written : Nat) : Statement (.sliceAllocate l c written) := fun h => nomatch h
theorem sliceEncodeDone (l : Fin 63) (c : Fin 64) (row : Nat) (blocks : List (List Bool)) (lost : List Nat) : Statement (.sliceEncodeDone l c row blocks lost) := fun h => nomatch h
theorem encOverrun (l : Fin 63) (written : Nat) : Statement (.encOverrun l written) := fun h => nomatch h
theorem cmdEncRefresh (q : Fin 24) (tag : Nat) : Statement (.cmdEncRefresh q tag) := fun h => nomatch h
theorem cdrLock (k : Fin 16) : Statement (.cdrLock k) := fun h => nomatch h
theorem blockLock (k : Fin 16) (lanes : List LaneIn) : Statement (.blockLock k lanes) := fun _ => rfl
theorem blockLockLoss (lane : Fin 128) (heads : List (BitVec 2)) : Statement (.blockLockLoss lane heads) := fun h => nomatch h
theorem bringupTimeout (k : Fin 16) : Statement (.bringupTimeout k) := fun h => nomatch h
theorem waitEnd (k : Fin 16) : Statement (.waitEnd k) := fun h => nomatch h
theorem capPlankSend (k : Fin 16) : Statement (.capPlankSend k) := fun h => nomatch h
theorem capPlank (k : Fin 16) (blocks : List Block) : Statement (.capPlank k blocks) := fun _ => rfl
theorem stepPropose (k : Fin 16) (blocks : List Block) : Statement (.stepPropose k blocks) := fun _ => rfl
theorem stepTxreq (k : Fin 16) (blocks : List Block) : Statement (.stepTxreq k blocks) := fun _ => rfl
theorem eyeCheckDone (k : Fin 16) (points : List EyePoint) : Statement (.eyeCheckDone k points) := fun h => nomatch h
theorem stepResult (k : Fin 16) (blocks : List Block) : Statement (.stepResult k blocks) := fun _ => rfl
theorem stepTimeout (k : Fin 16) : Statement (.stepTimeout k) := fun h => nomatch h
theorem spanEnableWrite (p : Path) (k : Fin 16) (v : Word) : Statement (.spanEnableWrite p k v) := fun h => nomatch h
theorem spanRetrainWrite (p : Path) (k : Fin 16) : Statement (.spanRetrainWrite p k) := fun h => nomatch h
theorem cmdSpanRetrain (q : Fin 24) (tag : Nat) : Statement (.cmdSpanRetrain q tag) := fun h => nomatch h
theorem spanInject (p : Path) (k : Fin 16) (v : Word) : Statement (.spanInject p k v) := fun h => nomatch h
theorem laneInjectOne (p : Path) (lane : Fin 128) : Statement (.laneInjectOne p lane) := fun h => nomatch h
theorem prbsLock (lane : Fin 128) (l : List Bool) : Statement (.prbsLock lane l) := fun h => nomatch h
theorem eyeScanStart (p : Path) (lane : Fin 128) (v : Word) : Statement (.eyeScanStart p lane v) := fun h => nomatch h
theorem eyeScanDone (lane : Fin 128) (count : Nat) : Statement (.eyeScanDone lane count) := fun h => nomatch h
theorem fecUncorrectable (lane : Fin 128) (symbols : List (BitVec 10)) : Statement (.fecUncorrectable lane symbols) := fun _ => rfl
theorem plankSend (k : Fin 16) (sub : Fin 16) : Statement (.plankSend k sub) := fun h => nomatch h
theorem linkPlankSend (k : Fin 16) : Statement (.linkPlankSend k) := fun h => nomatch h
theorem linkPlank (k : Fin 16) (blocks : List Block) : Statement (.linkPlank k blocks) := fun _ => rfl
theorem dataPlank (k : Fin 16) (blocks : List Block) : Statement (.dataPlank k blocks) := fun _ => rfl
theorem vc1Plank (k : Fin 16) (blocks : List Block) : Statement (.vc1Plank k blocks) := fun _ => rfl
theorem replayTimeout (k : Fin 16) (vc2 : Bool) : Statement (.replayTimeout k vc2) := fun h => nomatch h
theorem vc1StallTimeout (k : Fin 16) : Statement (.vc1StallTimeout k) := fun h => nomatch h
theorem routeWaitTimeout (k : Fin 16) (vc2 : Bool) : Statement (.routeWaitTimeout k vc2) := fun h => nomatch h
theorem spanFabricStop : Statement .spanFabricStop := fun h => nomatch h
theorem bypassEnter : Statement .bypassEnter := fun h => nomatch h
theorem bypassExit : Statement .bypassExit := fun h => nomatch h
theorem probe : Statement .probe := fun h => nomatch h
theorem announce : Statement .announce := fun h => nomatch h
theorem assign : Statement .assign := fun h => nomatch h
theorem hello : Statement .hello := fun h => nomatch h
theorem links : Statement .links := fun h => nomatch h
theorem settleExpiry : Statement .settleExpiry := fun h => nomatch h
theorem routes : Statement .routes := fun h => nomatch h
theorem regRead : Statement .regRead := fun h => nomatch h
theorem regWrite : Statement .regWrite := fun h => nomatch h
theorem notify : Statement .notify := fun h => nomatch h
theorem subscribe : Statement .subscribe := fun h => nomatch h
theorem subscribeSend (k : Fin 16) : Statement (.subscribeSend k) := fun h => nomatch h
theorem refreshReq : Statement .refreshReq := fun h => nomatch h
theorem messageResponse : Statement .messageResponse := fun h => nomatch h
theorem e2eTimeout : Statement .e2eTimeout := fun h => nomatch h
theorem cmdViaDiscover (q : Fin 24) (tag : Nat) : Statement (.cmdViaDiscover q tag) := fun h => nomatch h
theorem cmdViaAssign (q : Fin 24) (tag : Nat) : Statement (.cmdViaAssign q tag) := fun h => nomatch h
theorem cmdViaRoutes (q : Fin 24) (tag : Nat) : Statement (.cmdViaRoutes q tag) := fun h => nomatch h
theorem cmdViaForget (q : Fin 24) (tag : Nat) : Statement (.cmdViaForget q tag) := fun h => nomatch h
theorem cmdViaReg (q : Fin 24) (tag : Nat) : Statement (.cmdViaReg q tag) := fun h => nomatch h
theorem timePlankSend (k : Fin 16) (sub : Fin 16) : Statement (.timePlankSend k sub) := fun h => nomatch h
theorem timePlank (k : Fin 16) (sub : Fin 16) (blocks : List Block) : Statement (.timePlank k sub blocks) := fun _ => rfl
theorem offerExpiry (k : Fin 16) : Statement (.offerExpiry k) := fun h => nomatch h
theorem holdoverExpiry : Statement .holdoverExpiry := fun h => nomatch h
theorem wallTimeWrite (p : Path) (v : Word) : Statement (.wallTimeWrite p v) := fun h => nomatch h
theorem ftSyncEdge : Statement .ftSyncEdge := fun h => nomatch h
theorem sliceDecodeStart : Statement .sliceDecodeStart := fun h => nomatch h
theorem sliceDecodeDone (idx : Nat) (bound : Option Nat) : Statement (.sliceDecodeDone idx bound) := fun h => nomatch h
theorem cmdDecRequest (q : Fin 24) (tag : Nat) : Statement (.cmdDecRequest q tag) := fun h => nomatch h
theorem cmdCmpCommit (q : Fin 24) (tag : Nat) : Statement (.cmdCmpCommit q tag) := fun h => nomatch h
theorem cmdCmpAlloc (q : Fin 24) (tag : Nat) : Statement (.cmdCmpAlloc q tag) := fun h => nomatch h
theorem cmdCmpWrite (q : Fin 24) (tag : Nat) : Statement (.cmdCmpWrite q tag) := fun h => nomatch h
theorem cmdCmpFree (q : Fin 24) (tag : Nat) : Statement (.cmdCmpFree q tag) := fun h => nomatch h
theorem cmdCmpLut (q : Fin 24) (tag : Nat) : Statement (.cmdCmpLut q tag) := fun h => nomatch h
theorem cmdCmpParapet (q : Fin 24) (tag : Nat) : Statement (.cmdCmpParapet q tag) := fun h => nomatch h
theorem bandCompose (k : Nat) : Statement (.bandCompose k) := fun h => nomatch h
theorem bandRecompose : Statement .bandRecompose := fun h => nomatch h
theorem cmdCorLoad (q : Fin 24) (tag : Nat) : Statement (.cmdCorLoad q tag) := fun h => nomatch h
theorem corImageComplete : Statement .corImageComplete := fun h => nomatch h
theorem cmdCorPatch (q : Fin 24) (tag : Nat) : Statement (.cmdCorPatch q tag) := fun h => nomatch h
theorem refreshStart : Statement .refreshStart := fun h => nomatch h
theorem rowSlotStart (under : Bool) (mis : List (Nat × Nat × Nat)) (flags : List Nat) (bad : List Nat) : Statement (.rowSlotStart under mis flags bad) := fun h => nomatch h
theorem teRise (f : Fin 16) : Statement (.teRise f) := fun h => nomatch h
theorem teWindowExpiry (f : Fin 16) : Statement (.teWindowExpiry f) := fun h => nomatch h
theorem thermSample (xs : List Nat) : Statement (.thermSample xs) := fun h => nomatch h
theorem tjSample (t : Int) : Statement (.tjSample t) := fun h => nomatch h
theorem tjCooldownExpiry : Statement .tjCooldownExpiry := fun h => nomatch h
theorem cmdStrIrefTrim (q : Fin 24) (tag : Nat) : Statement (.cmdStrIrefTrim q tag) := fun h => nomatch h
theorem irefTrimDone (gain : Fin 256) (ratio : Fin 256) : Statement (.irefTrimDone gain ratio) := fun h => nomatch h
theorem cadenceDecision : Statement .cadenceDecision := fun h => nomatch h
theorem voteWaitExpiry : Statement .voteWaitExpiry := fun h => nomatch h
theorem closureIssue : Statement .closureIssue := fun h => nomatch h
theorem propose : Statement .propose := fun h => nomatch h
theorem closure : Statement .closure := fun h => nomatch h
theorem epochStart : Statement .epochStart := fun h => nomatch h
theorem probeRoundStart : Statement .probeRoundStart := fun h => nomatch h
theorem pinTestRequest : Statement .pinTestRequest := fun h => nomatch h
theorem pinTestEnd : Statement .pinTestEnd := fun h => nomatch h
theorem cmdDiaPinTest (q : Fin 24) (tag : Nat) : Statement (.cmdDiaPinTest q tag) := fun h => nomatch h
theorem diaOpRemove (q : Fin 24) (tag : Nat) : Statement (.diaOpRemove q tag) := fun h => nomatch h
theorem diaOpRestore (q : Fin 24) (tag : Nat) : Statement (.diaOpRestore q tag) := fun h => nomatch h
theorem diaOpForget (q : Fin 24) (tag : Nat) : Statement (.diaOpForget q tag) := fun h => nomatch h
theorem cmdDiaRead (q : Fin 24) (tag : Nat) : Statement (.cmdDiaRead q tag) := fun h => nomatch h
theorem removedSave : Statement .removedSave := fun h => nomatch h
theorem memTrainingDone (pops : List ChannelPop) : Statement (.memTrainingDone pops) := fun h => nomatch h
theorem dramRefreshDue (c : Fin 4) (rank : Fin 16) (bank : Fin 4) (panic : Bool) : Statement (.dramRefreshDue c rank bank panic) := fun h => nomatch h
theorem memSensorRead (temps : List Nat) : Statement (.memSensorRead temps) := fun h => nomatch h
theorem neighbourRefresh (c : Fin 4) : Statement (.neighbourRefresh c) := fun h => nomatch h
theorem rankRetrainDue (c : Fin 4) (rank : Fin 16) (panic : Bool) : Statement (.rankRetrainDue c rank panic) := fun h => nomatch h
theorem memRequestTimeout (port : Fin 8) (line : Nat) (write : Bool) : Statement (.memRequestTimeout port line write) := fun h => nomatch h
theorem ceHourBoundary : Statement .ceHourBoundary := fun h => nomatch h
theorem memPatrolScrub (line : Nat) (flips : List BitAt) : Statement (.memPatrolScrub line flips) := fun h => nomatch h
theorem deckScrub (word : Nat) (err : Fin 3) : Statement (.deckScrub word err) := fun h => nomatch h
theorem cmdMemWrite (q : Fin 24) (tag : Nat) : Statement (.cmdMemWrite q tag) := fun h => nomatch h
theorem cmdMemRead (q : Fin 24) (tag : Nat) (errs : List (Nat × List BitAt)) : Statement (.cmdMemRead q tag errs) := fun h => nomatch h
theorem ledgerAudit : Statement .ledgerAudit := fun h => nomatch h
theorem cmdLdgAudit (q : Fin 24) (tag : Nat) : Statement (.cmdLdgAudit q tag) := fun h => nomatch h
theorem leasePlank (k : Fin 16) (blocks : List Block) : Statement (.leasePlank k blocks) := fun _ => rfl
theorem leaseAck : Statement .leaseAck := fun h => nomatch h
theorem leaseExpiry (e : Fin 16) : Statement (.leaseExpiry e) := fun h => nomatch h
theorem leaseClaim (e : Fin 16) : Statement (.leaseClaim e) := fun h => nomatch h
theorem claimGapExpiry (e : Fin 16) : Statement (.claimGapExpiry e) := fun h => nomatch h
theorem cmdRedHandover (q : Fin 24) (tag : Nat) : Statement (.cmdRedHandover q tag) := fun h => nomatch h
theorem handoverReq : Statement .handoverReq := fun h => nomatch h
theorem handoverDone : Statement .handoverDone := fun h => nomatch h
theorem handoverTimeout : Statement .handoverTimeout := fun h => nomatch h
theorem powerOn (vddq : Bool) (strands : Bool) : Statement (.powerOn vddq strands) := fun h => nomatch h
theorem deviceResetEnd : Statement .deviceResetEnd := fun h => nomatch h
theorem rootPllLock : Statement .rootPllLock := fun h => nomatch h
theorem resetPin : Statement .resetPin := fun h => nomatch h
theorem rootPllLoss : Statement .rootPllLoss := fun h => nomatch h
theorem glbResetWrite (p : Path) (v : Word) : Statement (.glbResetWrite p v) := fun h => nomatch h
theorem supplyWarn (v : Fin 8) (mv : Nat) : Statement (.supplyWarn v mv) := fun h => nomatch h
theorem supplyRecover (low : List Nat) : Statement (.supplyRecover low) := fun h => nomatch h
theorem supplyReset (v : Fin 8) : Statement (.supplyReset v) := fun h => nomatch h
theorem strandSupplyRise : Statement .strandSupplyRise := fun h => nomatch h
theorem cmdPwrState (q : Fin 24) (tag : Nat) : Statement (.cmdPwrState q tag) := fun h => nomatch h
theorem cmdPwrWake (q : Fin 24) (tag : Nat) : Statement (.cmdPwrWake q tag) := fun h => nomatch h
theorem wakePin : Statement .wakePin := fun h => nomatch h
theorem wakeMatch (k : Fin 16) (blocks : List (Nat × Block)) : Statement (.wakeMatch k blocks) := fun _ => rfl
theorem cadenceStart (bad : List Nat) : Statement (.cadenceStart bad) := fun h => nomatch h
theorem bandgapCheck (dev : Int) : Statement (.bandgapCheck dev) := fun h => nomatch h
theorem cmdFwuWrite (q : Fin 24) (tag : Nat) : Statement (.cmdFwuWrite q tag) := fun h => nomatch h
theorem cmdFwuForward (q : Fin 24) (tag : Nat) : Statement (.cmdFwuForward q tag) := fun h => nomatch h
theorem cmdFwuActivate (q : Fin 24) (tag : Nat) : Statement (.cmdFwuActivate q tag) := fun h => nomatch h
theorem cmdFwuCancel (q : Fin 24) (tag : Nat) : Statement (.cmdFwuCancel q tag) := fun h => nomatch h
theorem cmdFwuCommit (q : Fin 24) (tag : Nat) : Statement (.cmdFwuCommit q tag) := fun h => nomatch h
theorem cmdFwuFallback (q : Fin 24) (tag : Nat) : Statement (.cmdFwuFallback q tag) := fun h => nomatch h
theorem cmdFwuSvnRaise (q : Fin 24) (tag : Nat) : Statement (.cmdFwuSvnRaise q tag) := fun h => nomatch h
theorem fwCommitTimer : Statement .fwCommitTimer := fun h => nomatch h
theorem offer : Statement .offer := fun h => nomatch h
theorem chunk (bad : Fin 3) : Statement (.chunk bad) := fun h => nomatch h
theorem fwuEnd : Statement .fwuEnd := fun h => nomatch h
theorem activate : Statement .activate := fun h => nomatch h
theorem offerRetry : Statement .offerRetry := fun h => nomatch h
theorem recoverReq : Statement .recoverReq := fun h => nomatch h
theorem recoverReqSend : Statement .recoverReqSend := fun h => nomatch h
theorem fwuRecoverGo (p : Path) (v : Word) (bad : Fin 3) : Statement (.fwuRecoverGo p v bad) := fun h => nomatch h
theorem chkPresetWrite (p : Path) (u : Fin 32) (v : Word) : Statement (.chkPresetWrite p u v) := fun h => nomatch h
theorem chkFeed (p : Path) (u : Fin 32) (v : Word) : Statement (.chkFeed p u v) := fun h => nomatch h
theorem chkFeed1 (p : Path) (u : Fin 32) (v : Word) : Statement (.chkFeed1 p u v) := fun h => nomatch h
theorem chkLoad (p : Path) (u : Fin 32) (v : Word) : Statement (.chkLoad p u v) := fun h => nomatch h
theorem chkRunCompute (q : Fin 24) (tag : Nat) : Statement (.chkRunCompute q tag) := fun h => nomatch h
theorem chkRunAppend (q : Fin 24) (tag : Nat) : Statement (.chkRunAppend q tag) := fun h => nomatch h
theorem chkRunCheck (q : Fin 24) (tag : Nat) : Statement (.chkRunCheck q tag) := fun h => nomatch h
theorem chkRunCheckStrip (q : Fin 24) (tag : Nat) : Statement (.chkRunCheckStrip q tag) := fun h => nomatch h
theorem gpioSet (p : Path) (v : Word) : Statement (.gpioSet p v) := fun h => nomatch h
theorem gpioClr (p : Path) (v : Word) : Statement (.gpioClr p v) := fun h => nomatch h
theorem pcieLinkChange (up : Bool) : Statement (.pcieLinkChange up) := fun h => nomatch h
theorem supplyReturnAfterReset (v : Fin 8) : Statement (.supplyReturnAfterReset v) := fun h => nomatch h
theorem fwuActivateAt : Statement .fwuActivateAt := fun h => nomatch h

end Sys2Proof.Laws.Wellformed
end

