-- ==== Sys2Proof/Laws/State.lean ====
section
/-! SUPPORT. What the named updates of the state leave alone, one lemma for each field and update; what a register and a field
read after a write. -/

namespace Sys2Proof.Machine

variable (s : State)

/-! ### `State.setWord` -/

@[simp] theorem State.setWord_pending (a : Nat) (w : Word) : (s.setWord a w).pending = s.pending := rfl
@[simp] theorem State.setWord_host (a : Nat) (w : Word) : (s.setWord a w).host = s.host := rfl
@[simp] theorem State.setWord_fnt (a : Nat) (w : Word) : (s.setWord a w).fnt = s.fnt := rfl
@[simp] theorem State.setWord_bays (a : Nat) (w : Word) : (s.setWord a w).bays = s.bays := rfl
@[simp] theorem State.setWord_span (a : Nat) (w : Word) : (s.setWord a w).span = s.span := rfl
@[simp] theorem State.setWord_via (a : Nat) (w : Word) : (s.setWord a w).via = s.via := rfl
@[simp] theorem State.setWord_time (a : Nat) (w : Word) : (s.setWord a w).time = s.time := rfl
@[simp] theorem State.setWord_cad (a : Nat) (w : Word) : (s.setWord a w).cad = s.cad := rfl
@[simp] theorem State.setWord_key (a : Nat) (w : Word) : (s.setWord a w).key = s.key := rfl
@[simp] theorem State.setWord_mem (a : Nat) (w : Word) : (s.setWord a w).mem = s.mem := rfl
@[simp] theorem State.setWord_cfg (a : Nat) (w : Word) : (s.setWord a w).cfg = s.cfg := rfl
@[simp] theorem State.setWord_dec (a : Nat) (w : Word) : (s.setWord a w).dec = s.dec := rfl
@[simp] theorem State.setWord_cmp (a : Nat) (w : Word) : (s.setWord a w).cmp = s.cmp := rfl
@[simp] theorem State.setWord_cor (a : Nat) (w : Word) : (s.setWord a w).cor = s.cor := rfl
@[simp] theorem State.setWord_str (a : Nat) (w : Word) : (s.setWord a w).str = s.str := rfl
@[simp] theorem State.setWord_therm (a : Nat) (w : Word) : (s.setWord a w).therm = s.therm := rfl
@[simp] theorem State.setWord_dia (a : Nat) (w : Word) : (s.setWord a w).dia = s.dia := rfl
@[simp] theorem State.setWord_ing (a : Nat) (w : Word) : (s.setWord a w).ing = s.ing := rfl
@[simp] theorem State.setWord_enc (a : Nat) (w : Word) : (s.setWord a w).enc = s.enc := rfl
@[simp] theorem State.setWord_red (a : Nat) (w : Word) : (s.setWord a w).red = s.red := rfl
@[simp] theorem State.setWord_pwr (a : Nat) (w : Word) : (s.setWord a w).pwr = s.pwr := rfl
@[simp] theorem State.setWord_fwu (a : Nat) (w : Word) : (s.setWord a w).fwu = s.fwu := rfl
@[simp] theorem State.setWord_ldg (a : Nat) (w : Word) : (s.setWord a w).ldg = s.ldg := rfl
@[simp] theorem State.setWord_flash (a : Nat) (w : Word) : (s.setWord a w).flash = s.flash := rfl
@[simp] theorem State.setWord_fuses (a : Nat) (w : Word) : (s.setWord a w).fuses = s.fuses := rfl
@[simp] theorem State.setWord_pins (a : Nat) (w : Word) : (s.setWord a w).pins = s.pins := rfl
@[simp] theorem State.setWord_tap (a : Nat) (w : Word) : (s.setWord a w).tap = s.tap := rfl
@[simp] theorem State.setWord_out (a : Nat) (w : Word) : (s.setWord a w).out = s.out := rfl
@[simp] theorem State.setWord_drawn (a : Nat) (w : Word) : (s.setWord a w).drawn = s.drawn := rfl

/-! ### `State.emit` -/

@[simp] theorem State.emit_pending (o : Output) : (s.emit o).pending = s.pending := rfl
@[simp] theorem State.emit_regs (o : Output) : (s.emit o).regs = s.regs := rfl
@[simp] theorem State.emit_host (o : Output) : (s.emit o).host = s.host := rfl
@[simp] theorem State.emit_fnt (o : Output) : (s.emit o).fnt = s.fnt := rfl
@[simp] theorem State.emit_bays (o : Output) : (s.emit o).bays = s.bays := rfl
@[simp] theorem State.emit_span (o : Output) : (s.emit o).span = s.span := rfl
@[simp] theorem State.emit_via (o : Output) : (s.emit o).via = s.via := rfl
@[simp] theorem State.emit_time (o : Output) : (s.emit o).time = s.time := rfl
@[simp] theorem State.emit_cad (o : Output) : (s.emit o).cad = s.cad := rfl
@[simp] theorem State.emit_key (o : Output) : (s.emit o).key = s.key := rfl
@[simp] theorem State.emit_mem (o : Output) : (s.emit o).mem = s.mem := rfl
@[simp] theorem State.emit_cfg (o : Output) : (s.emit o).cfg = s.cfg := rfl
@[simp] theorem State.emit_dec (o : Output) : (s.emit o).dec = s.dec := rfl
@[simp] theorem State.emit_cmp (o : Output) : (s.emit o).cmp = s.cmp := rfl
@[simp] theorem State.emit_cor (o : Output) : (s.emit o).cor = s.cor := rfl
@[simp] theorem State.emit_str (o : Output) : (s.emit o).str = s.str := rfl
@[simp] theorem State.emit_therm (o : Output) : (s.emit o).therm = s.therm := rfl
@[simp] theorem State.emit_dia (o : Output) : (s.emit o).dia = s.dia := rfl
@[simp] theorem State.emit_ing (o : Output) : (s.emit o).ing = s.ing := rfl
@[simp] theorem State.emit_enc (o : Output) : (s.emit o).enc = s.enc := rfl
@[simp] theorem State.emit_red (o : Output) : (s.emit o).red = s.red := rfl
@[simp] theorem State.emit_pwr (o : Output) : (s.emit o).pwr = s.pwr := rfl
@[simp] theorem State.emit_fwu (o : Output) : (s.emit o).fwu = s.fwu := rfl
@[simp] theorem State.emit_ldg (o : Output) : (s.emit o).ldg = s.ldg := rfl
@[simp] theorem State.emit_flash (o : Output) : (s.emit o).flash = s.flash := rfl
@[simp] theorem State.emit_fuses (o : Output) : (s.emit o).fuses = s.fuses := rfl
@[simp] theorem State.emit_pins (o : Output) : (s.emit o).pins = s.pins := rfl
@[simp] theorem State.emit_tap (o : Output) : (s.emit o).tap = s.tap := rfl
@[simp] theorem State.emit_drawn (o : Output) : (s.emit o).drawn = s.drawn := rfl

/-! ### `State.areaWrite` -/

@[simp] theorem State.areaWrite_pending (a : Nat) (bs : List Byte) : (s.areaWrite a bs).pending = s.pending := rfl
@[simp] theorem State.areaWrite_regs (a : Nat) (bs : List Byte) : (s.areaWrite a bs).regs = s.regs := rfl
@[simp] theorem State.areaWrite_fnt (a : Nat) (bs : List Byte) : (s.areaWrite a bs).fnt = s.fnt := rfl
@[simp] theorem State.areaWrite_bays (a : Nat) (bs : List Byte) : (s.areaWrite a bs).bays = s.bays := rfl
@[simp] theorem State.areaWrite_span (a : Nat) (bs : List Byte) : (s.areaWrite a bs).span = s.span := rfl
@[simp] theorem State.areaWrite_via (a : Nat) (bs : List Byte) : (s.areaWrite a bs).via = s.via := rfl
@[simp] theorem State.areaWrite_time (a : Nat) (bs : List Byte) : (s.areaWrite a bs).time = s.time := rfl
@[simp] theorem State.areaWrite_cad (a : Nat) (bs : List Byte) : (s.areaWrite a bs).cad = s.cad := rfl
@[simp] theorem State.areaWrite_key (a : Nat) (bs : List Byte) : (s.areaWrite a bs).key = s.key := rfl
@[simp] theorem State.areaWrite_mem (a : Nat) (bs : List Byte) : (s.areaWrite a bs).mem = s.mem := rfl
@[simp] theorem State.areaWrite_cfg (a : Nat) (bs : List Byte) : (s.areaWrite a bs).cfg = s.cfg := rfl
@[simp] theorem State.areaWrite_dec (a : Nat) (bs : List Byte) : (s.areaWrite a bs).dec = s.dec := rfl
@[simp] theorem State.areaWrite_cmp (a : Nat) (bs : List Byte) : (s.areaWrite a bs).cmp = s.cmp := rfl
@[simp] theorem State.areaWrite_cor (a : Nat) (bs : List Byte) : (s.areaWrite a bs).cor = s.cor := rfl
@[simp] theorem State.areaWrite_str (a : Nat) (bs : List Byte) : (s.areaWrite a bs).str = s.str := rfl
@[simp] theorem State.areaWrite_therm (a : Nat) (bs : List Byte) : (s.areaWrite a bs).therm = s.therm := rfl
@[simp] theorem State.areaWrite_dia (a : Nat) (bs : List Byte) : (s.areaWrite a bs).dia = s.dia := rfl
@[simp] theorem State.areaWrite_ing (a : Nat) (bs : List Byte) : (s.areaWrite a bs).ing = s.ing := rfl
@[simp] theorem State.areaWrite_enc (a : Nat) (bs : List Byte) : (s.areaWrite a bs).enc = s.enc := rfl
@[simp] theorem State.areaWrite_red (a : Nat) (bs : List Byte) : (s.areaWrite a bs).red = s.red := rfl
@[simp] theorem State.areaWrite_pwr (a : Nat) (bs : List Byte) : (s.areaWrite a bs).pwr = s.pwr := rfl
@[simp] theorem State.areaWrite_fwu (a : Nat) (bs : List Byte) : (s.areaWrite a bs).fwu = s.fwu := rfl
@[simp] theorem State.areaWrite_ldg (a : Nat) (bs : List Byte) : (s.areaWrite a bs).ldg = s.ldg := rfl
@[simp] theorem State.areaWrite_flash (a : Nat) (bs : List Byte) : (s.areaWrite a bs).flash = s.flash := rfl
@[simp] theorem State.areaWrite_fuses (a : Nat) (bs : List Byte) : (s.areaWrite a bs).fuses = s.fuses := rfl
@[simp] theorem State.areaWrite_pins (a : Nat) (bs : List Byte) : (s.areaWrite a bs).pins = s.pins := rfl
@[simp] theorem State.areaWrite_tap (a : Nat) (bs : List Byte) : (s.areaWrite a bs).tap = s.tap := rfl
@[simp] theorem State.areaWrite_out (a : Nat) (bs : List Byte) : (s.areaWrite a bs).out = s.out := rfl
@[simp] theorem State.areaWrite_drawn (a : Nat) (bs : List Byte) : (s.areaWrite a bs).drawn = s.drawn := rfl

/-! ### `State.setPort` -/

@[simp] theorem State.setPort_pending (k : Nat) (x : PortSt) : (s.setPort k x).pending = s.pending := rfl
@[simp] theorem State.setPort_regs (k : Nat) (x : PortSt) : (s.setPort k x).regs = s.regs := rfl
@[simp] theorem State.setPort_host (k : Nat) (x : PortSt) : (s.setPort k x).host = s.host := rfl
@[simp] theorem State.setPort_fnt (k : Nat) (x : PortSt) : (s.setPort k x).fnt = s.fnt := rfl
@[simp] theorem State.setPort_bays (k : Nat) (x : PortSt) : (s.setPort k x).bays = s.bays := rfl
@[simp] theorem State.setPort_via (k : Nat) (x : PortSt) : (s.setPort k x).via = s.via := rfl
@[simp] theorem State.setPort_time (k : Nat) (x : PortSt) : (s.setPort k x).time = s.time := rfl
@[simp] theorem State.setPort_cad (k : Nat) (x : PortSt) : (s.setPort k x).cad = s.cad := rfl
@[simp] theorem State.setPort_key (k : Nat) (x : PortSt) : (s.setPort k x).key = s.key := rfl
@[simp] theorem State.setPort_mem (k : Nat) (x : PortSt) : (s.setPort k x).mem = s.mem := rfl
@[simp] theorem State.setPort_cfg (k : Nat) (x : PortSt) : (s.setPort k x).cfg = s.cfg := rfl
@[simp] theorem State.setPort_dec (k : Nat) (x : PortSt) : (s.setPort k x).dec = s.dec := rfl
@[simp] theorem State.setPort_cmp (k : Nat) (x : PortSt) : (s.setPort k x).cmp = s.cmp := rfl
@[simp] theorem State.setPort_cor (k : Nat) (x : PortSt) : (s.setPort k x).cor = s.cor := rfl
@[simp] theorem State.setPort_str (k : Nat) (x : PortSt) : (s.setPort k x).str = s.str := rfl
@[simp] theorem State.setPort_therm (k : Nat) (x : PortSt) : (s.setPort k x).therm = s.therm := rfl
@[simp] theorem State.setPort_dia (k : Nat) (x : PortSt) : (s.setPort k x).dia = s.dia := rfl
@[simp] theorem State.setPort_ing (k : Nat) (x : PortSt) : (s.setPort k x).ing = s.ing := rfl
@[simp] theorem State.setPort_enc (k : Nat) (x : PortSt) : (s.setPort k x).enc = s.enc := rfl
@[simp] theorem State.setPort_red (k : Nat) (x : PortSt) : (s.setPort k x).red = s.red := rfl
@[simp] theorem State.setPort_pwr (k : Nat) (x : PortSt) : (s.setPort k x).pwr = s.pwr := rfl
@[simp] theorem State.setPort_fwu (k : Nat) (x : PortSt) : (s.setPort k x).fwu = s.fwu := rfl
@[simp] theorem State.setPort_ldg (k : Nat) (x : PortSt) : (s.setPort k x).ldg = s.ldg := rfl
@[simp] theorem State.setPort_flash (k : Nat) (x : PortSt) : (s.setPort k x).flash = s.flash := rfl
@[simp] theorem State.setPort_fuses (k : Nat) (x : PortSt) : (s.setPort k x).fuses = s.fuses := rfl
@[simp] theorem State.setPort_pins (k : Nat) (x : PortSt) : (s.setPort k x).pins = s.pins := rfl
@[simp] theorem State.setPort_tap (k : Nat) (x : PortSt) : (s.setPort k x).tap = s.tap := rfl
@[simp] theorem State.setPort_out (k : Nat) (x : PortSt) : (s.setPort k x).out = s.out := rfl
@[simp] theorem State.setPort_drawn (k : Nat) (x : PortSt) : (s.setPort k x).drawn = s.drawn := rfl

/-! ### `State.setBay` -/

@[simp] theorem State.setBay_pending (b : Nat) (x : BaySt) : (s.setBay b x).pending = s.pending := rfl
@[simp] theorem State.setBay_regs (b : Nat) (x : BaySt) : (s.setBay b x).regs = s.regs := rfl
@[simp] theorem State.setBay_host (b : Nat) (x : BaySt) : (s.setBay b x).host = s.host := rfl
@[simp] theorem State.setBay_fnt (b : Nat) (x : BaySt) : (s.setBay b x).fnt = s.fnt := rfl
@[simp] theorem State.setBay_span (b : Nat) (x : BaySt) : (s.setBay b x).span = s.span := rfl
@[simp] theorem State.setBay_via (b : Nat) (x : BaySt) : (s.setBay b x).via = s.via := rfl
@[simp] theorem State.setBay_time (b : Nat) (x : BaySt) : (s.setBay b x).time = s.time := rfl
@[simp] theorem State.setBay_cad (b : Nat) (x : BaySt) : (s.setBay b x).cad = s.cad := rfl
@[simp] theorem State.setBay_key (b : Nat) (x : BaySt) : (s.setBay b x).key = s.key := rfl
@[simp] theorem State.setBay_mem (b : Nat) (x : BaySt) : (s.setBay b x).mem = s.mem := rfl
@[simp] theorem State.setBay_cfg (b : Nat) (x : BaySt) : (s.setBay b x).cfg = s.cfg := rfl
@[simp] theorem State.setBay_dec (b : Nat) (x : BaySt) : (s.setBay b x).dec = s.dec := rfl
@[simp] theorem State.setBay_cmp (b : Nat) (x : BaySt) : (s.setBay b x).cmp = s.cmp := rfl
@[simp] theorem State.setBay_cor (b : Nat) (x : BaySt) : (s.setBay b x).cor = s.cor := rfl
@[simp] theorem State.setBay_str (b : Nat) (x : BaySt) : (s.setBay b x).str = s.str := rfl
@[simp] theorem State.setBay_therm (b : Nat) (x : BaySt) : (s.setBay b x).therm = s.therm := rfl
@[simp] theorem State.setBay_dia (b : Nat) (x : BaySt) : (s.setBay b x).dia = s.dia := rfl
@[simp] theorem State.setBay_ing (b : Nat) (x : BaySt) : (s.setBay b x).ing = s.ing := rfl
@[simp] theorem State.setBay_enc (b : Nat) (x : BaySt) : (s.setBay b x).enc = s.enc := rfl
@[simp] theorem State.setBay_red (b : Nat) (x : BaySt) : (s.setBay b x).red = s.red := rfl
@[simp] theorem State.setBay_pwr (b : Nat) (x : BaySt) : (s.setBay b x).pwr = s.pwr := rfl
@[simp] theorem State.setBay_fwu (b : Nat) (x : BaySt) : (s.setBay b x).fwu = s.fwu := rfl
@[simp] theorem State.setBay_ldg (b : Nat) (x : BaySt) : (s.setBay b x).ldg = s.ldg := rfl
@[simp] theorem State.setBay_flash (b : Nat) (x : BaySt) : (s.setBay b x).flash = s.flash := rfl
@[simp] theorem State.setBay_fuses (b : Nat) (x : BaySt) : (s.setBay b x).fuses = s.fuses := rfl
@[simp] theorem State.setBay_pins (b : Nat) (x : BaySt) : (s.setBay b x).pins = s.pins := rfl
@[simp] theorem State.setBay_tap (b : Nat) (x : BaySt) : (s.setBay b x).tap = s.tap := rfl
@[simp] theorem State.setBay_out (b : Nat) (x : BaySt) : (s.setBay b x).out = s.out := rfl
@[simp] theorem State.setBay_drawn (b : Nat) (x : BaySt) : (s.setBay b x).drawn = s.drawn := rfl

/-! ### `State.setQueue` -/

@[simp] theorem State.setQueue_pending (q : Nat) (x : QueueSt) : (s.setQueue q x).pending = s.pending := rfl
@[simp] theorem State.setQueue_regs (q : Nat) (x : QueueSt) : (s.setQueue q x).regs = s.regs := rfl
@[simp] theorem State.setQueue_fnt (q : Nat) (x : QueueSt) : (s.setQueue q x).fnt = s.fnt := rfl
@[simp] theorem State.setQueue_bays (q : Nat) (x : QueueSt) : (s.setQueue q x).bays = s.bays := rfl
@[simp] theorem State.setQueue_span (q : Nat) (x : QueueSt) : (s.setQueue q x).span = s.span := rfl
@[simp] theorem State.setQueue_via (q : Nat) (x : QueueSt) : (s.setQueue q x).via = s.via := rfl
@[simp] theorem State.setQueue_time (q : Nat) (x : QueueSt) : (s.setQueue q x).time = s.time := rfl
@[simp] theorem State.setQueue_cad (q : Nat) (x : QueueSt) : (s.setQueue q x).cad = s.cad := rfl
@[simp] theorem State.setQueue_key (q : Nat) (x : QueueSt) : (s.setQueue q x).key = s.key := rfl
@[simp] theorem State.setQueue_mem (q : Nat) (x : QueueSt) : (s.setQueue q x).mem = s.mem := rfl
@[simp] theorem State.setQueue_cfg (q : Nat) (x : QueueSt) : (s.setQueue q x).cfg = s.cfg := rfl
@[simp] theorem State.setQueue_dec (q : Nat) (x : QueueSt) : (s.setQueue q x).dec = s.dec := rfl
@[simp] theorem State.setQueue_cmp (q : Nat) (x : QueueSt) : (s.setQueue q x).cmp = s.cmp := rfl
@[simp] theorem State.setQueue_cor (q : Nat) (x : QueueSt) : (s.setQueue q x).cor = s.cor := rfl
@[simp] theorem State.setQueue_str (q : Nat) (x : QueueSt) : (s.setQueue q x).str = s.str := rfl
@[simp] theorem State.setQueue_therm (q : Nat) (x : QueueSt) : (s.setQueue q x).therm = s.therm := rfl
@[simp] theorem State.setQueue_dia (q : Nat) (x : QueueSt) : (s.setQueue q x).dia = s.dia := rfl
@[simp] theorem State.setQueue_ing (q : Nat) (x : QueueSt) : (s.setQueue q x).ing = s.ing := rfl
@[simp] theorem State.setQueue_enc (q : Nat) (x : QueueSt) : (s.setQueue q x).enc = s.enc := rfl
@[simp] theorem State.setQueue_red (q : Nat) (x : QueueSt) : (s.setQueue q x).red = s.red := rfl
@[simp] theorem State.setQueue_pwr (q : Nat) (x : QueueSt) : (s.setQueue q x).pwr = s.pwr := rfl
@[simp] theorem State.setQueue_fwu (q : Nat) (x : QueueSt) : (s.setQueue q x).fwu = s.fwu := rfl
@[simp] theorem State.setQueue_ldg (q : Nat) (x : QueueSt) : (s.setQueue q x).ldg = s.ldg := rfl
@[simp] theorem State.setQueue_flash (q : Nat) (x : QueueSt) : (s.setQueue q x).flash = s.flash := rfl
@[simp] theorem State.setQueue_fuses (q : Nat) (x : QueueSt) : (s.setQueue q x).fuses = s.fuses := rfl
@[simp] theorem State.setQueue_pins (q : Nat) (x : QueueSt) : (s.setQueue q x).pins = s.pins := rfl
@[simp] theorem State.setQueue_tap (q : Nat) (x : QueueSt) : (s.setQueue q x).tap = s.tap := rfl
@[simp] theorem State.setQueue_out (q : Nat) (x : QueueSt) : (s.setQueue q x).out = s.out := rfl
@[simp] theorem State.setQueue_drawn (q : Nat) (x : QueueSt) : (s.setQueue q x).drawn = s.drawn := rfl

/-! ### `State.setRing` -/

@[simp] theorem State.setRing_pending (p : Nat) (x : RingSt) : (s.setRing p x).pending = s.pending := rfl
@[simp] theorem State.setRing_regs (p : Nat) (x : RingSt) : (s.setRing p x).regs = s.regs := rfl
@[simp] theorem State.setRing_fnt (p : Nat) (x : RingSt) : (s.setRing p x).fnt = s.fnt := rfl
@[simp] theorem State.setRing_bays (p : Nat) (x : RingSt) : (s.setRing p x).bays = s.bays := rfl
@[simp] theorem State.setRing_span (p : Nat) (x : RingSt) : (s.setRing p x).span = s.span := rfl
@[simp] theorem State.setRing_via (p : Nat) (x : RingSt) : (s.setRing p x).via = s.via := rfl
@[simp] theorem State.setRing_time (p : Nat) (x : RingSt) : (s.setRing p x).time = s.time := rfl
@[simp] theorem State.setRing_cad (p : Nat) (x : RingSt) : (s.setRing p x).cad = s.cad := rfl
@[simp] theorem State.setRing_key (p : Nat) (x : RingSt) : (s.setRing p x).key = s.key := rfl
@[simp] theorem State.setRing_mem (p : Nat) (x : RingSt) : (s.setRing p x).mem = s.mem := rfl
@[simp] theorem State.setRing_cfg (p : Nat) (x : RingSt) : (s.setRing p x).cfg = s.cfg := rfl
@[simp] theorem State.setRing_dec (p : Nat) (x : RingSt) : (s.setRing p x).dec = s.dec := rfl
@[simp] theorem State.setRing_cmp (p : Nat) (x : RingSt) : (s.setRing p x).cmp = s.cmp := rfl
@[simp] theorem State.setRing_cor (p : Nat) (x : RingSt) : (s.setRing p x).cor = s.cor := rfl
@[simp] theorem State.setRing_str (p : Nat) (x : RingSt) : (s.setRing p x).str = s.str := rfl
@[simp] theorem State.setRing_therm (p : Nat) (x : RingSt) : (s.setRing p x).therm = s.therm := rfl
@[simp] theorem State.setRing_dia (p : Nat) (x : RingSt) : (s.setRing p x).dia = s.dia := rfl
@[simp] theorem State.setRing_ing (p : Nat) (x : RingSt) : (s.setRing p x).ing = s.ing := rfl
@[simp] theorem State.setRing_enc (p : Nat) (x : RingSt) : (s.setRing p x).enc = s.enc := rfl
@[simp] theorem State.setRing_red (p : Nat) (x : RingSt) : (s.setRing p x).red = s.red := rfl
@[simp] theorem State.setRing_pwr (p : Nat) (x : RingSt) : (s.setRing p x).pwr = s.pwr := rfl
@[simp] theorem State.setRing_fwu (p : Nat) (x : RingSt) : (s.setRing p x).fwu = s.fwu := rfl
@[simp] theorem State.setRing_ldg (p : Nat) (x : RingSt) : (s.setRing p x).ldg = s.ldg := rfl
@[simp] theorem State.setRing_flash (p : Nat) (x : RingSt) : (s.setRing p x).flash = s.flash := rfl
@[simp] theorem State.setRing_fuses (p : Nat) (x : RingSt) : (s.setRing p x).fuses = s.fuses := rfl
@[simp] theorem State.setRing_pins (p : Nat) (x : RingSt) : (s.setRing p x).pins = s.pins := rfl
@[simp] theorem State.setRing_tap (p : Nat) (x : RingSt) : (s.setRing p x).tap = s.tap := rfl
@[simp] theorem State.setRing_out (p : Nat) (x : RingSt) : (s.setRing p x).out = s.out := rfl
@[simp] theorem State.setRing_drawn (p : Nat) (x : RingSt) : (s.setRing p x).drawn = s.drawn := rfl

/-! ### `State.setCmd` -/

@[simp] theorem State.setCmd_pending (c : Cmd) : (s.setCmd c).pending = s.pending := rfl
@[simp] theorem State.setCmd_regs (c : Cmd) : (s.setCmd c).regs = s.regs := rfl
@[simp] theorem State.setCmd_fnt (c : Cmd) : (s.setCmd c).fnt = s.fnt := rfl
@[simp] theorem State.setCmd_bays (c : Cmd) : (s.setCmd c).bays = s.bays := rfl
@[simp] theorem State.setCmd_span (c : Cmd) : (s.setCmd c).span = s.span := rfl
@[simp] theorem State.setCmd_via (c : Cmd) : (s.setCmd c).via = s.via := rfl
@[simp] theorem State.setCmd_time (c : Cmd) : (s.setCmd c).time = s.time := rfl
@[simp] theorem State.setCmd_cad (c : Cmd) : (s.setCmd c).cad = s.cad := rfl
@[simp] theorem State.setCmd_key (c : Cmd) : (s.setCmd c).key = s.key := rfl
@[simp] theorem State.setCmd_mem (c : Cmd) : (s.setCmd c).mem = s.mem := rfl
@[simp] theorem State.setCmd_cfg (c : Cmd) : (s.setCmd c).cfg = s.cfg := rfl
@[simp] theorem State.setCmd_dec (c : Cmd) : (s.setCmd c).dec = s.dec := rfl
@[simp] theorem State.setCmd_cmp (c : Cmd) : (s.setCmd c).cmp = s.cmp := rfl
@[simp] theorem State.setCmd_cor (c : Cmd) : (s.setCmd c).cor = s.cor := rfl
@[simp] theorem State.setCmd_str (c : Cmd) : (s.setCmd c).str = s.str := rfl
@[simp] theorem State.setCmd_therm (c : Cmd) : (s.setCmd c).therm = s.therm := rfl
@[simp] theorem State.setCmd_dia (c : Cmd) : (s.setCmd c).dia = s.dia := rfl
@[simp] theorem State.setCmd_ing (c : Cmd) : (s.setCmd c).ing = s.ing := rfl
@[simp] theorem State.setCmd_enc (c : Cmd) : (s.setCmd c).enc = s.enc := rfl
@[simp] theorem State.setCmd_red (c : Cmd) : (s.setCmd c).red = s.red := rfl
@[simp] theorem State.setCmd_pwr (c : Cmd) : (s.setCmd c).pwr = s.pwr := rfl
@[simp] theorem State.setCmd_fwu (c : Cmd) : (s.setCmd c).fwu = s.fwu := rfl
@[simp] theorem State.setCmd_ldg (c : Cmd) : (s.setCmd c).ldg = s.ldg := rfl
@[simp] theorem State.setCmd_flash (c : Cmd) : (s.setCmd c).flash = s.flash := rfl
@[simp] theorem State.setCmd_fuses (c : Cmd) : (s.setCmd c).fuses = s.fuses := rfl
@[simp] theorem State.setCmd_pins (c : Cmd) : (s.setCmd c).pins = s.pins := rfl
@[simp] theorem State.setCmd_tap (c : Cmd) : (s.setCmd c).tap = s.tap := rfl
@[simp] theorem State.setCmd_out (c : Cmd) : (s.setCmd c).out = s.out := rfl
@[simp] theorem State.setCmd_drawn (c : Cmd) : (s.setCmd c).drawn = s.drawn := rfl

/-! ### `State.run` -/

@[simp] theorem State.run_pending (c : Cmd) : (s.run c).pending = s.pending := rfl
@[simp] theorem State.run_regs (c : Cmd) : (s.run c).regs = s.regs := rfl
@[simp] theorem State.run_fnt (c : Cmd) : (s.run c).fnt = s.fnt := rfl
@[simp] theorem State.run_bays (c : Cmd) : (s.run c).bays = s.bays := rfl
@[simp] theorem State.run_span (c : Cmd) : (s.run c).span = s.span := rfl
@[simp] theorem State.run_via (c : Cmd) : (s.run c).via = s.via := rfl
@[simp] theorem State.run_time (c : Cmd) : (s.run c).time = s.time := rfl
@[simp] theorem State.run_cad (c : Cmd) : (s.run c).cad = s.cad := rfl
@[simp] theorem State.run_key (c : Cmd) : (s.run c).key = s.key := rfl
@[simp] theorem State.run_mem (c : Cmd) : (s.run c).mem = s.mem := rfl
@[simp] theorem State.run_cfg (c : Cmd) : (s.run c).cfg = s.cfg := rfl
@[simp] theorem State.run_dec (c : Cmd) : (s.run c).dec = s.dec := rfl
@[simp] theorem State.run_cmp (c : Cmd) : (s.run c).cmp = s.cmp := rfl
@[simp] theorem State.run_cor (c : Cmd) : (s.run c).cor = s.cor := rfl
@[simp] theorem State.run_str (c : Cmd) : (s.run c).str = s.str := rfl
@[simp] theorem State.run_therm (c : Cmd) : (s.run c).therm = s.therm := rfl
@[simp] theorem State.run_dia (c : Cmd) : (s.run c).dia = s.dia := rfl
@[simp] theorem State.run_ing (c : Cmd) : (s.run c).ing = s.ing := rfl
@[simp] theorem State.run_enc (c : Cmd) : (s.run c).enc = s.enc := rfl
@[simp] theorem State.run_red (c : Cmd) : (s.run c).red = s.red := rfl
@[simp] theorem State.run_pwr (c : Cmd) : (s.run c).pwr = s.pwr := rfl
@[simp] theorem State.run_fwu (c : Cmd) : (s.run c).fwu = s.fwu := rfl
@[simp] theorem State.run_ldg (c : Cmd) : (s.run c).ldg = s.ldg := rfl
@[simp] theorem State.run_flash (c : Cmd) : (s.run c).flash = s.flash := rfl
@[simp] theorem State.run_fuses (c : Cmd) : (s.run c).fuses = s.fuses := rfl
@[simp] theorem State.run_pins (c : Cmd) : (s.run c).pins = s.pins := rfl
@[simp] theorem State.run_tap (c : Cmd) : (s.run c).tap = s.tap := rfl
@[simp] theorem State.run_out (c : Cmd) : (s.run c).out = s.out := rfl
@[simp] theorem State.run_drawn (c : Cmd) : (s.run c).drawn = s.drawn := rfl

/-! ### `State.draw` -/

@[simp] theorem State.draw_pending : (s.draw).pending = s.pending := rfl
@[simp] theorem State.draw_regs : (s.draw).regs = s.regs := rfl
@[simp] theorem State.draw_host : (s.draw).host = s.host := rfl
@[simp] theorem State.draw_fnt : (s.draw).fnt = s.fnt := rfl
@[simp] theorem State.draw_bays : (s.draw).bays = s.bays := rfl
@[simp] theorem State.draw_span : (s.draw).span = s.span := rfl
@[simp] theorem State.draw_via : (s.draw).via = s.via := rfl
@[simp] theorem State.draw_time : (s.draw).time = s.time := rfl
@[simp] theorem State.draw_cad : (s.draw).cad = s.cad := rfl
@[simp] theorem State.draw_key : (s.draw).key = s.key := rfl
@[simp] theorem State.draw_mem : (s.draw).mem = s.mem := rfl
@[simp] theorem State.draw_cfg : (s.draw).cfg = s.cfg := rfl
@[simp] theorem State.draw_dec : (s.draw).dec = s.dec := rfl
@[simp] theorem State.draw_cmp : (s.draw).cmp = s.cmp := rfl
@[simp] theorem State.draw_cor : (s.draw).cor = s.cor := rfl
@[simp] theorem State.draw_str : (s.draw).str = s.str := rfl
@[simp] theorem State.draw_therm : (s.draw).therm = s.therm := rfl
@[simp] theorem State.draw_dia : (s.draw).dia = s.dia := rfl
@[simp] theorem State.draw_ing : (s.draw).ing = s.ing := rfl
@[simp] theorem State.draw_enc : (s.draw).enc = s.enc := rfl
@[simp] theorem State.draw_red : (s.draw).red = s.red := rfl
@[simp] theorem State.draw_pwr : (s.draw).pwr = s.pwr := rfl
@[simp] theorem State.draw_fwu : (s.draw).fwu = s.fwu := rfl
@[simp] theorem State.draw_ldg : (s.draw).ldg = s.ldg := rfl
@[simp] theorem State.draw_flash : (s.draw).flash = s.flash := rfl
@[simp] theorem State.draw_fuses : (s.draw).fuses = s.fuses := rfl
@[simp] theorem State.draw_pins : (s.draw).pins = s.pins := rfl
@[simp] theorem State.draw_tap : (s.draw).tap = s.tap := rfl
@[simp] theorem State.draw_out : (s.draw).out = s.out := rfl

/-! ### `State.popped` -/

@[simp] theorem State.popped_regs (l : List Instr) : (s.popped l).regs = s.regs := rfl
@[simp] theorem State.popped_host (l : List Instr) : (s.popped l).host = s.host := rfl
@[simp] theorem State.popped_fnt (l : List Instr) : (s.popped l).fnt = s.fnt := rfl
@[simp] theorem State.popped_bays (l : List Instr) : (s.popped l).bays = s.bays := rfl
@[simp] theorem State.popped_span (l : List Instr) : (s.popped l).span = s.span := rfl
@[simp] theorem State.popped_via (l : List Instr) : (s.popped l).via = s.via := rfl
@[simp] theorem State.popped_time (l : List Instr) : (s.popped l).time = s.time := rfl
@[simp] theorem State.popped_cad (l : List Instr) : (s.popped l).cad = s.cad := rfl
@[simp] theorem State.popped_key (l : List Instr) : (s.popped l).key = s.key := rfl
@[simp] theorem State.popped_mem (l : List Instr) : (s.popped l).mem = s.mem := rfl
@[simp] theorem State.popped_cfg (l : List Instr) : (s.popped l).cfg = s.cfg := rfl
@[simp] theorem State.popped_dec (l : List Instr) : (s.popped l).dec = s.dec := rfl
@[simp] theorem State.popped_cmp (l : List Instr) : (s.popped l).cmp = s.cmp := rfl
@[simp] theorem State.popped_cor (l : List Instr) : (s.popped l).cor = s.cor := rfl
@[simp] theorem State.popped_str (l : List Instr) : (s.popped l).str = s.str := rfl
@[simp] theorem State.popped_therm (l : List Instr) : (s.popped l).therm = s.therm := rfl
@[simp] theorem State.popped_dia (l : List Instr) : (s.popped l).dia = s.dia := rfl
@[simp] theorem State.popped_ing (l : List Instr) : (s.popped l).ing = s.ing := rfl
@[simp] theorem State.popped_enc (l : List Instr) : (s.popped l).enc = s.enc := rfl
@[simp] theorem State.popped_red (l : List Instr) : (s.popped l).red = s.red := rfl
@[simp] theorem State.popped_pwr (l : List Instr) : (s.popped l).pwr = s.pwr := rfl
@[simp] theorem State.popped_fwu (l : List Instr) : (s.popped l).fwu = s.fwu := rfl
@[simp] theorem State.popped_ldg (l : List Instr) : (s.popped l).ldg = s.ldg := rfl
@[simp] theorem State.popped_flash (l : List Instr) : (s.popped l).flash = s.flash := rfl
@[simp] theorem State.popped_fuses (l : List Instr) : (s.popped l).fuses = s.fuses := rfl
@[simp] theorem State.popped_pins (l : List Instr) : (s.popped l).pins = s.pins := rfl
@[simp] theorem State.popped_tap (l : List Instr) : (s.popped l).tap = s.tap := rfl
@[simp] theorem State.popped_out (l : List Instr) : (s.popped l).out = s.out := rfl
@[simp] theorem State.popped_drawn (l : List Instr) : (s.popped l).drawn = s.drawn := rfl

/-! ### `State.pushed` -/

@[simp] theorem State.pushed_regs (c : Instr) : (s.pushed c).regs = s.regs := rfl
@[simp] theorem State.pushed_host (c : Instr) : (s.pushed c).host = s.host := rfl
@[simp] theorem State.pushed_fnt (c : Instr) : (s.pushed c).fnt = s.fnt := rfl
@[simp] theorem State.pushed_bays (c : Instr) : (s.pushed c).bays = s.bays := rfl
@[simp] theorem State.pushed_span (c : Instr) : (s.pushed c).span = s.span := rfl
@[simp] theorem State.pushed_via (c : Instr) : (s.pushed c).via = s.via := rfl
@[simp] theorem State.pushed_time (c : Instr) : (s.pushed c).time = s.time := rfl
@[simp] theorem State.pushed_cad (c : Instr) : (s.pushed c).cad = s.cad := rfl
@[simp] theorem State.pushed_key (c : Instr) : (s.pushed c).key = s.key := rfl
@[simp] theorem State.pushed_mem (c : Instr) : (s.pushed c).mem = s.mem := rfl
@[simp] theorem State.pushed_cfg (c : Instr) : (s.pushed c).cfg = s.cfg := rfl
@[simp] theorem State.pushed_dec (c : Instr) : (s.pushed c).dec = s.dec := rfl
@[simp] theorem State.pushed_cmp (c : Instr) : (s.pushed c).cmp = s.cmp := rfl
@[simp] theorem State.pushed_cor (c : Instr) : (s.pushed c).cor = s.cor := rfl
@[simp] theorem State.pushed_str (c : Instr) : (s.pushed c).str = s.str := rfl
@[simp] theorem State.pushed_therm (c : Instr) : (s.pushed c).therm = s.therm := rfl
@[simp] theorem State.pushed_dia (c : Instr) : (s.pushed c).dia = s.dia := rfl
@[simp] theorem State.pushed_ing (c : Instr) : (s.pushed c).ing = s.ing := rfl
@[simp] theorem State.pushed_enc (c : Instr) : (s.pushed c).enc = s.enc := rfl
@[simp] theorem State.pushed_red (c : Instr) : (s.pushed c).red = s.red := rfl
@[simp] theorem State.pushed_pwr (c : Instr) : (s.pushed c).pwr = s.pwr := rfl
@[simp] theorem State.pushed_fwu (c : Instr) : (s.pushed c).fwu = s.fwu := rfl
@[simp] theorem State.pushed_ldg (c : Instr) : (s.pushed c).ldg = s.ldg := rfl
@[simp] theorem State.pushed_flash (c : Instr) : (s.pushed c).flash = s.flash := rfl
@[simp] theorem State.pushed_fuses (c : Instr) : (s.pushed c).fuses = s.fuses := rfl
@[simp] theorem State.pushed_pins (c : Instr) : (s.pushed c).pins = s.pins := rfl
@[simp] theorem State.pushed_tap (c : Instr) : (s.pushed c).tap = s.tap := rfl
@[simp] theorem State.pushed_out (c : Instr) : (s.pushed c).out = s.out := rfl
@[simp] theorem State.pushed_drawn (c : Instr) : (s.pushed c).drawn = s.drawn := rfl

/-! ### `State.setFld` -/

@[simp] theorem State.setFld_pending (f : Fld) (v i : Nat) : (s.setFld f v i).pending = s.pending := rfl
@[simp] theorem State.setFld_host (f : Fld) (v i : Nat) : (s.setFld f v i).host = s.host := rfl
@[simp] theorem State.setFld_fnt (f : Fld) (v i : Nat) : (s.setFld f v i).fnt = s.fnt := rfl
@[simp] theorem State.setFld_bays (f : Fld) (v i : Nat) : (s.setFld f v i).bays = s.bays := rfl
@[simp] theorem State.setFld_span (f : Fld) (v i : Nat) : (s.setFld f v i).span = s.span := rfl
@[simp] theorem State.setFld_via (f : Fld) (v i : Nat) : (s.setFld f v i).via = s.via := rfl
@[simp] theorem State.setFld_time (f : Fld) (v i : Nat) : (s.setFld f v i).time = s.time := rfl
@[simp] theorem State.setFld_cad (f : Fld) (v i : Nat) : (s.setFld f v i).cad = s.cad := rfl
@[simp] theorem State.setFld_key (f : Fld) (v i : Nat) : (s.setFld f v i).key = s.key := rfl
@[simp] theorem State.setFld_mem (f : Fld) (v i : Nat) : (s.setFld f v i).mem = s.mem := rfl
@[simp] theorem State.setFld_cfg (f : Fld) (v i : Nat) : (s.setFld f v i).cfg = s.cfg := rfl
@[simp] theorem State.setFld_dec (f : Fld) (v i : Nat) : (s.setFld f v i).dec = s.dec := rfl
@[simp] theorem State.setFld_cmp (f : Fld) (v i : Nat) : (s.setFld f v i).cmp = s.cmp := rfl
@[simp] theorem State.setFld_cor (f : Fld) (v i : Nat) : (s.setFld f v i).cor = s.cor := rfl
@[simp] theorem State.setFld_str (f : Fld) (v i : Nat) : (s.setFld f v i).str = s.str := rfl
@[simp] theorem State.setFld_therm (f : Fld) (v i : Nat) : (s.setFld f v i).therm = s.therm := rfl
@[simp] theorem State.setFld_dia (f : Fld) (v i : Nat) : (s.setFld f v i).dia = s.dia := rfl
@[simp] theorem State.setFld_ing (f : Fld) (v i : Nat) : (s.setFld f v i).ing = s.ing := rfl
@[simp] theorem State.setFld_enc (f : Fld) (v i : Nat) : (s.setFld f v i).enc = s.enc := rfl
@[simp] theorem State.setFld_red (f : Fld) (v i : Nat) : (s.setFld f v i).red = s.red := rfl
@[simp] theorem State.setFld_pwr (f : Fld) (v i : Nat) : (s.setFld f v i).pwr = s.pwr := rfl
@[simp] theorem State.setFld_fwu (f : Fld) (v i : Nat) : (s.setFld f v i).fwu = s.fwu := rfl
@[simp] theorem State.setFld_ldg (f : Fld) (v i : Nat) : (s.setFld f v i).ldg = s.ldg := rfl
@[simp] theorem State.setFld_flash (f : Fld) (v i : Nat) : (s.setFld f v i).flash = s.flash := rfl
@[simp] theorem State.setFld_fuses (f : Fld) (v i : Nat) : (s.setFld f v i).fuses = s.fuses := rfl
@[simp] theorem State.setFld_pins (f : Fld) (v i : Nat) : (s.setFld f v i).pins = s.pins := rfl
@[simp] theorem State.setFld_tap (f : Fld) (v i : Nat) : (s.setFld f v i).tap = s.tap := rfl
@[simp] theorem State.setFld_out (f : Fld) (v i : Nat) : (s.setFld f v i).out = s.out := rfl
@[simp] theorem State.setFld_drawn (f : Fld) (v i : Nat) : (s.setFld f v i).drawn = s.drawn := rfl

/-! ### `State.setFlag` -/

@[simp] theorem State.setFlag_pending (f : Fld) (b : Bool) (i : Nat) : (s.setFlag f b i).pending = s.pending := rfl
@[simp] theorem State.setFlag_host (f : Fld) (b : Bool) (i : Nat) : (s.setFlag f b i).host = s.host := rfl
@[simp] theorem State.setFlag_fnt (f : Fld) (b : Bool) (i : Nat) : (s.setFlag f b i).fnt = s.fnt := rfl
@[simp] theorem State.setFlag_bays (f : Fld) (b : Bool) (i : Nat) : (s.setFlag f b i).bays = s.bays := rfl
@[simp] theorem State.setFlag_span (f : Fld) (b : Bool) (i : Nat) : (s.setFlag f b i).span = s.span := rfl
@[simp] theorem State.setFlag_via (f : Fld) (b : Bool) (i : Nat) : (s.setFlag f b i).via = s.via := rfl
@[simp] theorem State.setFlag_time (f : Fld) (b : Bool) (i : Nat) : (s.setFlag f b i).time = s.time := rfl
@[simp] theorem State.setFlag_cad (f : Fld) (b : Bool) (i : Nat) : (s.setFlag f b i).cad = s.cad := rfl
@[simp] theorem State.setFlag_key (f : Fld) (b : Bool) (i : Nat) : (s.setFlag f b i).key = s.key := rfl
@[simp] theorem State.setFlag_mem (f : Fld) (b : Bool) (i : Nat) : (s.setFlag f b i).mem = s.mem := rfl
@[simp] theorem State.setFlag_cfg (f : Fld) (b : Bool) (i : Nat) : (s.setFlag f b i).cfg = s.cfg := rfl
@[simp] theorem State.setFlag_dec (f : Fld) (b : Bool) (i : Nat) : (s.setFlag f b i).dec = s.dec := rfl
@[simp] theorem State.setFlag_cmp (f : Fld) (b : Bool) (i : Nat) : (s.setFlag f b i).cmp = s.cmp := rfl
@[simp] theorem State.setFlag_cor (f : Fld) (b : Bool) (i : Nat) : (s.setFlag f b i).cor = s.cor := rfl
@[simp] theorem State.setFlag_str (f : Fld) (b : Bool) (i : Nat) : (s.setFlag f b i).str = s.str := rfl
@[simp] theorem State.setFlag_therm (f : Fld) (b : Bool) (i : Nat) : (s.setFlag f b i).therm = s.therm := rfl
@[simp] theorem State.setFlag_dia (f : Fld) (b : Bool) (i : Nat) : (s.setFlag f b i).dia = s.dia := rfl
@[simp] theorem State.setFlag_ing (f : Fld) (b : Bool) (i : Nat) : (s.setFlag f b i).ing = s.ing := rfl
@[simp] theorem State.setFlag_enc (f : Fld) (b : Bool) (i : Nat) : (s.setFlag f b i).enc = s.enc := rfl
@[simp] theorem State.setFlag_red (f : Fld) (b : Bool) (i : Nat) : (s.setFlag f b i).red = s.red := rfl
@[simp] theorem State.setFlag_pwr (f : Fld) (b : Bool) (i : Nat) : (s.setFlag f b i).pwr = s.pwr := rfl
@[simp] theorem State.setFlag_fwu (f : Fld) (b : Bool) (i : Nat) : (s.setFlag f b i).fwu = s.fwu := rfl
@[simp] theorem State.setFlag_ldg (f : Fld) (b : Bool) (i : Nat) : (s.setFlag f b i).ldg = s.ldg := rfl
@[simp] theorem State.setFlag_flash (f : Fld) (b : Bool) (i : Nat) : (s.setFlag f b i).flash = s.flash := rfl
@[simp] theorem State.setFlag_fuses (f : Fld) (b : Bool) (i : Nat) : (s.setFlag f b i).fuses = s.fuses := rfl
@[simp] theorem State.setFlag_pins (f : Fld) (b : Bool) (i : Nat) : (s.setFlag f b i).pins = s.pins := rfl
@[simp] theorem State.setFlag_tap (f : Fld) (b : Bool) (i : Nat) : (s.setFlag f b i).tap = s.tap := rfl
@[simp] theorem State.setFlag_out (f : Fld) (b : Bool) (i : Nat) : (s.setFlag f b i).out = s.out := rfl
@[simp] theorem State.setFlag_drawn (f : Fld) (b : Bool) (i : Nat) : (s.setFlag f b i).drawn = s.drawn := rfl

/-! ### `State.bump` -/

@[simp] theorem State.bump_pending (f : Fld) (i n : Nat) : (s.bump f i n).pending = s.pending := rfl
@[simp] theorem State.bump_host (f : Fld) (i n : Nat) : (s.bump f i n).host = s.host := rfl
@[simp] theorem State.bump_fnt (f : Fld) (i n : Nat) : (s.bump f i n).fnt = s.fnt := rfl
@[simp] theorem State.bump_bays (f : Fld) (i n : Nat) : (s.bump f i n).bays = s.bays := rfl
@[simp] theorem State.bump_span (f : Fld) (i n : Nat) : (s.bump f i n).span = s.span := rfl
@[simp] theorem State.bump_via (f : Fld) (i n : Nat) : (s.bump f i n).via = s.via := rfl
@[simp] theorem State.bump_time (f : Fld) (i n : Nat) : (s.bump f i n).time = s.time := rfl
@[simp] theorem State.bump_cad (f : Fld) (i n : Nat) : (s.bump f i n).cad = s.cad := rfl
@[simp] theorem State.bump_key (f : Fld) (i n : Nat) : (s.bump f i n).key = s.key := rfl
@[simp] theorem State.bump_mem (f : Fld) (i n : Nat) : (s.bump f i n).mem = s.mem := rfl
@[simp] theorem State.bump_cfg (f : Fld) (i n : Nat) : (s.bump f i n).cfg = s.cfg := rfl
@[simp] theorem State.bump_dec (f : Fld) (i n : Nat) : (s.bump f i n).dec = s.dec := rfl
@[simp] theorem State.bump_cmp (f : Fld) (i n : Nat) : (s.bump f i n).cmp = s.cmp := rfl
@[simp] theorem State.bump_cor (f : Fld) (i n : Nat) : (s.bump f i n).cor = s.cor := rfl
@[simp] theorem State.bump_str (f : Fld) (i n : Nat) : (s.bump f i n).str = s.str := rfl
@[simp] theorem State.bump_therm (f : Fld) (i n : Nat) : (s.bump f i n).therm = s.therm := rfl
@[simp] theorem State.bump_dia (f : Fld) (i n : Nat) : (s.bump f i n).dia = s.dia := rfl
@[simp] theorem State.bump_ing (f : Fld) (i n : Nat) : (s.bump f i n).ing = s.ing := rfl
@[simp] theorem State.bump_enc (f : Fld) (i n : Nat) : (s.bump f i n).enc = s.enc := rfl
@[simp] theorem State.bump_red (f : Fld) (i n : Nat) : (s.bump f i n).red = s.red := rfl
@[simp] theorem State.bump_pwr (f : Fld) (i n : Nat) : (s.bump f i n).pwr = s.pwr := rfl
@[simp] theorem State.bump_fwu (f : Fld) (i n : Nat) : (s.bump f i n).fwu = s.fwu := rfl
@[simp] theorem State.bump_ldg (f : Fld) (i n : Nat) : (s.bump f i n).ldg = s.ldg := rfl
@[simp] theorem State.bump_flash (f : Fld) (i n : Nat) : (s.bump f i n).flash = s.flash := rfl
@[simp] theorem State.bump_fuses (f : Fld) (i n : Nat) : (s.bump f i n).fuses = s.fuses := rfl
@[simp] theorem State.bump_pins (f : Fld) (i n : Nat) : (s.bump f i n).pins = s.pins := rfl
@[simp] theorem State.bump_tap (f : Fld) (i n : Nat) : (s.bump f i n).tap = s.tap := rfl
@[simp] theorem State.bump_out (f : Fld) (i n : Nat) : (s.bump f i n).out = s.out := rfl
@[simp] theorem State.bump_drawn (f : Fld) (i n : Nat) : (s.bump f i n).drawn = s.drawn := rfl

/-! ### `State.setPair` -/

@[simp] theorem State.setPair_pending (p : PairReg) (v i : Nat) : (s.setPair p v i).pending = s.pending := rfl
@[simp] theorem State.setPair_host (p : PairReg) (v i : Nat) : (s.setPair p v i).host = s.host := rfl
@[simp] theorem State.setPair_fnt (p : PairReg) (v i : Nat) : (s.setPair p v i).fnt = s.fnt := rfl
@[simp] theorem State.setPair_bays (p : PairReg) (v i : Nat) : (s.setPair p v i).bays = s.bays := rfl
@[simp] theorem State.setPair_span (p : PairReg) (v i : Nat) : (s.setPair p v i).span = s.span := rfl
@[simp] theorem State.setPair_via (p : PairReg) (v i : Nat) : (s.setPair p v i).via = s.via := rfl
@[simp] theorem State.setPair_time (p : PairReg) (v i : Nat) : (s.setPair p v i).time = s.time := rfl
@[simp] theorem State.setPair_cad (p : PairReg) (v i : Nat) : (s.setPair p v i).cad = s.cad := rfl
@[simp] theorem State.setPair_key (p : PairReg) (v i : Nat) : (s.setPair p v i).key = s.key := rfl
@[simp] theorem State.setPair_mem (p : PairReg) (v i : Nat) : (s.setPair p v i).mem = s.mem := rfl
@[simp] theorem State.setPair_cfg (p : PairReg) (v i : Nat) : (s.setPair p v i).cfg = s.cfg := rfl
@[simp] theorem State.setPair_dec (p : PairReg) (v i : Nat) : (s.setPair p v i).dec = s.dec := rfl
@[simp] theorem State.setPair_cmp (p : PairReg) (v i : Nat) : (s.setPair p v i).cmp = s.cmp := rfl
@[simp] theorem State.setPair_cor (p : PairReg) (v i : Nat) : (s.setPair p v i).cor = s.cor := rfl
@[simp] theorem State.setPair_str (p : PairReg) (v i : Nat) : (s.setPair p v i).str = s.str := rfl
@[simp] theorem State.setPair_therm (p : PairReg) (v i : Nat) : (s.setPair p v i).therm = s.therm := rfl
@[simp] theorem State.setPair_dia (p : PairReg) (v i : Nat) : (s.setPair p v i).dia = s.dia := rfl
@[simp] theorem State.setPair_ing (p : PairReg) (v i : Nat) : (s.setPair p v i).ing = s.ing := rfl
@[simp] theorem State.setPair_enc (p : PairReg) (v i : Nat) : (s.setPair p v i).enc = s.enc := rfl
@[simp] theorem State.setPair_red (p : PairReg) (v i : Nat) : (s.setPair p v i).red = s.red := rfl
@[simp] theorem State.setPair_pwr (p : PairReg) (v i : Nat) : (s.setPair p v i).pwr = s.pwr := rfl
@[simp] theorem State.setPair_fwu (p : PairReg) (v i : Nat) : (s.setPair p v i).fwu = s.fwu := rfl
@[simp] theorem State.setPair_ldg (p : PairReg) (v i : Nat) : (s.setPair p v i).ldg = s.ldg := rfl
@[simp] theorem State.setPair_flash (p : PairReg) (v i : Nat) : (s.setPair p v i).flash = s.flash := rfl
@[simp] theorem State.setPair_fuses (p : PairReg) (v i : Nat) : (s.setPair p v i).fuses = s.fuses := rfl
@[simp] theorem State.setPair_pins (p : PairReg) (v i : Nat) : (s.setPair p v i).pins = s.pins := rfl
@[simp] theorem State.setPair_tap (p : PairReg) (v i : Nat) : (s.setPair p v i).tap = s.tap := rfl
@[simp] theorem State.setPair_out (p : PairReg) (v i : Nat) : (s.setPair p v i).out = s.out := rfl
@[simp] theorem State.setPair_drawn (p : PairReg) (v i : Nat) : (s.setPair p v i).drawn = s.drawn := rfl

/-! ### Registers -/

theorem State.word_setWord (a b rst : Nat) (w : Word) : (s.setWord a w).word b rst = if b = a then w else s.word b rst := by
  simp only [State.word, State.setWord, Sparse.find_set]
  split <;> rfl

@[simp] theorem State.word_setWord_same (a rst : Nat) (w : Word) : (s.setWord a w).word a rst = w := by
  simp [State.word_setWord]

theorem State.word_setWord_ne {a b : Nat} (rst : Nat) (w : Word) (h : b ≠ a) : (s.setWord a w).word b rst = s.word b rst := by
  simp [State.word_setWord, h]

theorem add_mul_lt {a b P Q : Nat} (ha : a < P) (hb : b < Q) : a + b * P < P * Q :=
  calc a + b * P < P + b * P := by omega
    _ = (b + 1) * P := by ring
    _ ≤ Q * P := Nat.mul_le_mul_right _ hb
    _ = P * Q := Nat.mul_comm _ _

/-- The field written reads the value written. -/
theorem bits_insertBits (n lo w v : Nat) : bits (insertBits n lo w v) lo w = v % 2 ^ w := by
  simp only [bits, insertBits, pow_add]
  have h1 : n % 2 ^ lo < 2 ^ lo := Nat.mod_lt _ (by positivity)
  rw [show n % 2 ^ lo + v % 2 ^ w * 2 ^ lo + n / (2 ^ lo * 2 ^ w) * (2 ^ lo * 2 ^ w) =
    n % 2 ^ lo + 2 ^ lo * (v % 2 ^ w + 2 ^ w * (n / (2 ^ lo * 2 ^ w))) by ring, Nat.add_mul_div_left _ _ (by positivity),
    Nat.div_eq_of_lt h1, Nat.zero_add, Nat.add_mul_mod_self_left, Nat.mod_mod]

/-- A field below the one written keeps its value. -/
theorem bits_insertBits_below (n lo w v l u : Nat) (h : l + u ≤ lo) : bits (insertBits n lo w v) l u = bits n l u := by
  simp only [bits, insertBits]
  obtain ⟨d, rfl⟩ := Nat.exists_eq_add_of_le h
  have e : n % 2 ^ (l + u + d) + v % 2 ^ w * 2 ^ (l + u + d) + n / 2 ^ (l + u + d + w) * 2 ^ (l + u + d + w) =
      n % 2 ^ (l + u + d) + 2 ^ l * (2 ^ u * (2 ^ d * (v % 2 ^ w) + 2 ^ d * 2 ^ w * (n / 2 ^ (l + u + d + w)))) := by
    simp only [pow_add]; ring
  rw [e, Nat.add_mul_div_left _ _ (by positivity), Nat.add_mul_mod_self_left]
  rw [show l + u + d = l + (u + d) by omega, pow_add, Nat.mod_mul_right_div_self, pow_add, Nat.mod_mul_right_mod]

/-- A field above the one written keeps its value. -/
theorem bits_insertBits_above (n lo w v l u : Nat) (h : lo + w ≤ l) : bits (insertBits n lo w v) l u = bits n l u := by
  simp only [bits, insertBits]
  obtain ⟨d, rfl⟩ := Nat.exists_eq_add_of_le h
  congr 1
  have hlt : n % 2 ^ lo + v % 2 ^ w * 2 ^ lo < 2 ^ (lo + w) := by
    have h1 : n % 2 ^ lo < 2 ^ lo := Nat.mod_lt _ (by positivity)
    have h2 : v % 2 ^ w < 2 ^ w := Nat.mod_lt _ (by positivity)
    rw [pow_add]; exact add_mul_lt h1 h2
  rw [pow_add _ (lo + w) d, ← Nat.div_div_eq_div_mul, ← Nat.div_div_eq_div_mul, Nat.add_mul_div_right _ _ (by positivity),
    Nat.div_eq_of_lt hlt, Nat.zero_add]

theorem insertBits_lt {n lo w v k : Nat} (hn : n < 2 ^ k) (h : lo + w ≤ k) : insertBits n lo w v < 2 ^ k := by
  simp only [insertBits]
  obtain ⟨d, rfl⟩ := Nat.exists_eq_add_of_le h
  have h1 : n % 2 ^ lo < 2 ^ lo := Nat.mod_lt _ (by positivity)
  have h2 : v % 2 ^ w < 2 ^ w := Nat.mod_lt _ (by positivity)
  have h3 : n / 2 ^ (lo + w) < 2 ^ d := by
    rw [Nat.div_lt_iff_lt_mul (by positivity), mul_comm, ← pow_add]; exact hn
  have h4 : n % 2 ^ lo + v % 2 ^ w * 2 ^ lo < 2 ^ (lo + w) := by rw [pow_add]; exact add_mul_lt h1 h2
  rw [pow_add 2 (lo + w) d]
  exact add_mul_lt h4 h3

theorem State.fld_setFld_same (f : Fld) (v i : Nat) (h : f.lo + f.width ≤ 32) : (s.setFld f v i).fld f i = v % 2 ^ f.width := by
  simp only [State.fld, State.setFld, State.word_setWord_same, BitVec.toNat_ofNat]
  rw [Nat.mod_eq_of_lt (insertBits_lt (BitVec.isLt _) h), bits_insertBits]

/-- A field of another register keeps its value. -/
theorem State.fld_setFld_ne {f g : Fld} {i j : Nat} (v : Nat) (h : g.addr j ≠ f.addr i) :
    (s.setFld f v i).fld g j = s.fld g j := by
  simp only [State.fld, State.setFld, State.word_setWord_ne s _ _ h]

/-- Another field of the same register keeps its value. -/
theorem State.fld_setFld_beside {f g : Fld} {i j : Nat} (v : Nat) (ha : g.addr j = f.addr i) (hr : g.rst = f.rst)
    (hw : f.lo + f.width ≤ 32) (h : g.lo + g.width ≤ f.lo ∨ f.lo + f.width ≤ g.lo) :
    (s.setFld f v i).fld g j = s.fld g j := by
  simp only [State.fld, State.setFld, ha, hr, State.word_setWord_same, BitVec.toNat_ofNat]
  rw [Nat.mod_eq_of_lt (insertBits_lt (BitVec.isLt _) hw)]
  rcases h with h | h
  · exact bits_insertBits_below _ _ _ _ _ _ h
  · exact bits_insertBits_above _ _ _ _ _ _ h

/-- The registers that an update of one field can change: its own. -/
theorem State.word_setFld_ne {f : Fld} {i a : Nat} (v rst : Nat) (h : a ≠ f.addr i) :
    (s.setFld f v i).word a rst = s.word a rst := State.word_setWord_ne s _ _ h

theorem State.word_setPair_ne {p : PairReg} {i a : Nat} (v rst : Nat) (h : a ≠ p.addr i) (h' : a ≠ p.addr i + 4) :
    (s.setPair p v i).word a rst = s.word a rst := by
  simp only [State.setPair, State.word_setWord_ne _ _ _ h', State.word_setWord_ne _ _ _ h]

theorem State.pair_setPair_same (p : PairReg) (v i : Nat) : (s.setPair p v i).pair p i = v % 2 ^ 64 := by
  simp only [State.pair, State.setPair, State.word_setWord_same, BitVec.toNat_ofNat]
  rw [State.word_setWord_ne _ _ _ (by omega), State.word_setWord_same, BitVec.toNat_ofNat]
  omega

end Sys2Proof.Machine
end

