-- ==== Sys2Proof/Machine/Tap.lean ====
section
/-! DEFINITION. The test access port of R499: the controller of IEEE 1149.1, which the spec names and does not print (log
entry 158). No row of the table drives TCK, so no meaning calls it. -/

namespace Sys2Proof.Machine

/-- The controller's state after a rising edge of TCK, by the level of TMS (PRESUMED, IEEE 1149.1). -/
def TapState.next (t : TapState) (tms : Bool) : TapState :=
  match t, tms with
  | .testLogicReset, true => .testLogicReset
  | .testLogicReset, false => .runTestIdle
  | .runTestIdle, true => .selectDr
  | .runTestIdle, false => .runTestIdle
  | .selectDr, true => .selectIr
  | .selectDr, false => .captureDr
  | .captureDr, true => .exit1Dr
  | .captureDr, false => .shiftDr
  | .shiftDr, true => .exit1Dr
  | .shiftDr, false => .shiftDr
  | .exit1Dr, true => .updateDr
  | .exit1Dr, false => .pauseDr
  | .pauseDr, true => .exit2Dr
  | .pauseDr, false => .pauseDr
  | .exit2Dr, true => .updateDr
  | .exit2Dr, false => .shiftDr
  | .updateDr, true => .selectDr
  | .updateDr, false => .runTestIdle
  | .selectIr, true => .testLogicReset
  | .selectIr, false => .captureIr
  | .captureIr, true => .exit1Ir
  | .captureIr, false => .shiftIr
  | .shiftIr, true => .exit1Ir
  | .shiftIr, false => .shiftIr
  | .exit1Ir, true => .updateIr
  | .exit1Ir, false => .pauseIr
  | .pauseIr, true => .exit2Ir
  | .pauseIr, false => .pauseIr
  | .exit2Ir, true => .updateIr
  | .exit2Ir, false => .shiftIr
  | .updateIr, true => .selectDr
  | .updateIr, false => .runTestIdle

/-- The TAP after an edge of TCK with TRST_N and TMS at some level: TRST_N low, and Test-Logic-Reset, take the boundary register
off the balls. -/
def TapSt.clock (x : TapSt) (trstN tms : Bool) : TapSt :=
  if ! trstN then { x with state := .testLogicReset, extest := false }
  else
    let t := x.state.next tms
    { x with state := t, extest := x.extest && decide (t ≠ .testLogicReset) }

/-- The device with TRST_N at VSS, as Table 21-7 pulls it, keeps its TAP in reset. -/
def TapSt.held (x : TapSt) (tms : List Bool) : TapSt := tms.foldl (fun x b => x.clock false b) x

end Sys2Proof.Machine
end

