-- ==== Sys2Proof/Tests/Slice0.lean ====
section
/-! SUPPORT. Tests of one step each, with results taken from the spec, and for every obligation that has hypotheses a state and
operands that meet them, clause by clause (`test_meets_…`). -/

namespace Sys2Proof.Tests

set_option maxRecDepth 100000
set_option Elab.async false

open Sys2Proof Sys2Proof.Machine

/-! ### Small states -/

/-- The reset state with the first tollhouse start over, 10^10 ticks of wall time later. -/
def calm : State :=
  { State.reset with fnt := { State.reset.fnt with restarting := false }
                     time := { State.reset.time with wall := 10 ^ 10, cycles := 10 ^ 10 } }

/-- A state with its cadence running. -/
def beat (s : State) : State := { s with cad := { s.cad with running := true } }

/-- A fetched command of queue 0, tag 7, with operand bytes and a payload of `n` bytes at 0x1000. -/
def cmdFor (op : Nat) (ph : Phase) (bs : List Byte) (n : Nat := 0) (flags : Nat := 4) : Cmd :=
  ⟨1, 0, 7, 0, op, flags, 0, 0x1000, n, bs, ph, false, false, [], 0, 0⟩

/-- A state with one more fetched command. -/
def withCmd (s : State) (c : Cmd) : State := { s with host := { s.host with cmds := s.host.cmds ++ [c] } }

/-- A started command with operand bytes. -/
def started (s : State) (op : Nat) (bs : List Byte) : State := withCmd s (cmdFor op .started bs)

/-- A started command with operand bytes and a payload in host memory. -/
def started' (s : State) (op : Nat) (bs pay : List Byte) : State :=
  withCmd { s with host := { s.host with mem := writeBytes blank s.host.mem 0x1000 pay } } (cmdFor op .started bs pay.length)

/-- A message delivered on port 3 from node 5. -/
def told (s : State) (typ : Nat) (pay : List Byte) (src : Nat := 5) : State :=
  { s with via := { s.via with inbox := [(3, ⟨0, src, 0, 0, false, typ, 1, 0, pay⟩)] } }

/-- The message that `told` delivers, taken: port, message, the state without it. -/
def toldOf (s : State) (typ : Nat) (pay : List Byte) (src : Nat := 5) : Option (Nat × Msg × State) :=
  some (3, ⟨0, src, 0, 0, false, typ, 1, 0, pay⟩, { s with via := { s.via with inbox := [] } })

/-- A span port put into a state of Table 7-3. -/
def portIn (s : State) (k st : Nat) : State := s.setFld SPN_STATUS.STATE st k

/-- The next state of an outcome, if it is one. -/
def nextOf : Host.Outcome State Fault Refusal → Option State
  | .next t => some t
  | _ => none

/-- What a command leaves of a state; the state itself where it stops. -/
def after (c : Instr) (s : State) : State := (nextOf (exec c s)).getD s

/-- A plank of VC `vc` with LSEQ 0 and a payload of one byte. -/
def plank (vc : Nat) (stream : Nat := 0) (typ : Nat := 1) : Plank := ⟨typ, vc, 0, 0, 0, stream, 0, 0, 0, 0, [1]⟩

/-- The blocks of a plank that leaves. -/
def lineOf (o : Output) : List Block := (o.line.map (·.2)).getD []

/-- The blocks of that plank on the line. -/
def planked (vc : Nat) (stream : Nat := 0) : List Block := lineOf (.dataPlank 0 (plank vc stream) (plankCrc (plank vc stream)))

/-- A device with 8 GiB of trained external memory, 2 GiB of it a MEDIA partition. -/
def medium : State :=
  let s := (calm.setFlag MEM_STATUS.TRAINED true).setPair MEM_CAP.CAP (2 ^ 33)
  { s with cfg := { s.cfg with parts := [⟨pkMedia, true, 0, 0, 2 ^ 19⟩] } }

/-- A pier. -/
def pier : State := calm.setFld CFG_STATUS.ROLE 1

/-- A state whose bay 0 runs a kernel of a kind (1 DEC, 2 ENC, 3 CMP, 4 COR). -/
def bayed (s : State) (kind : Nat) : State :=
  let s := (s.setFld BAY_STATUS.STATE bayRun 0).setFlag BAY_STATUS.IN_ROTATION true 0
  s.setFld BAY_STATUS.KIND kind 0

/-- Wall time of the small states. -/
def t0 : Nat := 10 ^ 10

/-- A device whose function n is in ASSIST. -/
def assisted (n : Nat) : State := calm.setFlag FNT_STATUS.MODE_ACT true n

/-- Port 3 bound to lanes 8 and 9 and in a state of Table 7-3, entered `ago` ticks before. -/
def linked (st : Nat) (ago : Nat := 0) : State :=
  let s := (portIn calm 3 st).setPort 3 { calm.port 3 with since := t0 - ago }
  { s with span := { s.span with bindings := [(3, ⟨8, 2, 1, false, false, 0⟩)] } }

/-- A device with no port bound. -/
def unbound : State := { calm with span := { calm.span with bindings := [] } }

/-- A message of a type reaches a device. -/
def reaches (s : State) (typ : Nat) (pay : List Byte) : Bool := (told s typ pay).takeMsg typ == toldOf s typ pay

/-- A running root PLL with RATE, as the bits of its field. -/
def ticking (rate : Nat) : State := (calm.setFlag GLB_CLK.ROOT_LOCK true).setFld TIM_RATE.RATE rate

/-! ### Operands that no command of the hardware has -/

theorem test_access_leaves_space :
    (Instr.registerWrite .pcie (2 ^ 26 - 1) [1, 2]).wf = false ∧ (Instr.registerWrite .pcie (2 ^ 26 - 2) [1, 2]).wf = true := by decide
theorem test_access_of_nothing : (Instr.bar2Read 0 0).wf = false ∧ (Instr.bar2Write 0 []).wf = false := by decide
theorem test_read_meets_32 : (Instr.readClear .pcie 0 4 32).wf = false ∧ (Instr.readClear .pcie 0 4 31).wf = true := by decide
theorem test_register_unaligned :
    (Instr.pairLoRead .pcie 2).wf = false ∧ (Instr.pairLoWrite .pcie (2 ^ 26) 0).wf = false ∧ (Instr.pairHiWrite .pcie 2 0).wf = false := by
  decide
theorem test_lanes_of_a_port : (Instr.blockLock 0 (List.replicate 9 ⟨[], 0⟩)).wf = false ∧ (Instr.blockLock 0 []).wf = true := by decide
theorem test_block_of_seven_bytes :
    (∀ f ∈ [Instr.capPlank 0, .stepPropose 0, .stepTxreq 0, .stepResult 0, .linkPlank 0, .dataPlank 0, .vc1Plank 0],
      (f [⟨1, List.replicate 7 0⟩]).wf = false ∧ (f [⟨1, List.replicate 8 0⟩]).wf = true) := by decide
theorem test_symbols_of_a_codeword :
    (Instr.fecUncorrectable 0 (List.replicate 543 0)).wf = false ∧ (Instr.fecUncorrectable 0 (List.replicate 544 0)).wf = true := by decide +kernel


/-! ### Results that the spec prints -/

/-- Spec 04, R108: the example pixel, by the BT.709 matrix and forward step 4. -/
theorem test_conversion : matrixRgb false (2400, 1600, 2800) = (3584, 2132, 1569) ∧ forwardYcocg (3584, 2132, 1569) = (2354, 2015, -444) := by
  decide +kernel

/-- Spec 05, Table 5-7. -/
def table57 : List Byte :=
  [0x48, 0x53, 0x1C, 0x06, 0x01, 0x47, 0x02, 0x00, 0x01, 0xFF, 0x0F, 0x80, 0x0F, 0x80, 0x00, 0x17, 0x29, 0x01, 0x42, 0x38, 0x80, 0xB0, 0x00]

theorem test_slice_header :
    parseHdr table57 = some ⟨0x4853, 1, true, true, false, 0, 0, 6, 0x147, 0x200, 0x1FF, 31, 0, 31, 0, 23⟩ := by decide +kernel

/-- Spec 05, Table 5-9: the samples of the example block at (0, 0), (3, 3) and (4, 0), and the output of R143. -/
theorem test_slice_samples :
    ((parseHdr table57).map fun h =>
      let out := decodeSlice h table57 (fun _ _ _ => 0)
      (out.stop, out.faulty, out.blocks.map fun b => [b.samples.getD 0 0, b.samples.getD 27 0, b.samples.getD 4 0, b.samples.getD 64 0, b.samples.getD 128 0]))
      = some (none, false, [[2131, 2125, 2048, -10, 0]]) ∧
    toRgb 12 2131 (-10) 0 = (2126, 2131, 2136) ∧ inv1 80 (-6) 0 0 = [83, 83, 77, 77] ∧
    [dequant 6 40, dequant 6 (-3), dequant 6 (-5)] = [80, -6, -10] := by decide +kernel

/-- Spec 06, the worked budget: r_full, B, the settled cap, the QP of row 0 after the cut. -/
theorem test_budget :
    fillOf 960 128 = 123016 ∧ bucketOf 960 4 = 492064 ∧ step64 33 = 2912 ∧ step64 34 = 3264 ∧ searchQp 157286400 50176 51 51 12 = 34 := by
  decide +kernel

/-- Spec 08, the example of R236. -/
theorem test_time_exchange :
    exchangeDelay 16000000 16005740 16262144 16266596 = 5096 ∧ exchangeError 16262144 16266596 5096 0 = 644 := by decide +kernel

/-- Spec 11, the worked lamp: stages 9 to 11. -/
theorem test_correction :
    corLinear (-328) 15892 492 31293 33792 410000 600308 250000 = 572757 ∧ corFactor 24576 30720 = 23040 ∧
    corWide 572757 23040 = 100678 ∧ [3, 1, 0, 2].map (corGrey 100678) = [25170, 25169, 25169, 25170] := by decide +kernel

/-- Spec 12, the reference point: k = 5, P = 12, 1:16, C = 128, 3,840 Hz. -/
def reference : HardSet := ⟨5, false, 156250, 16, 0, 180, 12, 8, 120, 0, 0, [⟨1, 128, 0, 0⟩]⟩

theorem test_reference_unit :
    { reference with uLimit := 40 }.unit = some 2 ∧ reference.fits 3 128 false = false ∧ reference.fits 3 128 true = false ∧ reference.pulse 2 128 = false ∧ reference.refreshes 10000000 = 64 := by
  decide +kernel

/-- Spec 12, Table 12-7, where BLANK is low. -/
theorem test_reference_slot :
    (reference.schedule 128 true (reference.planes 2 4 true)).out =
      [(4, 180, 212), (5, 675, 707), (6, 1325, 1389), (7, 1975, 2103), (8, 2625, 2881), (9, 3275, 3307), (10, 3925, 3989), (11, 4575, 4703),
        (12, 5225, 5481), (13, 5875, 6387), (14, 6525, 7549), (15, 7559, 9607)] := by decide +kernel

/-- Spec 12, R343: a fan at 90 °C with the reset values. -/
theorem test_derate : dTarget (90 * 16) 70 20 8192 = 19968 ∧ derateOf 19968 24576 = 26624 := by decide +kernel

/-- Spec 20: the check values of R486 over the bytes 0x31 to 0x39. -/
theorem test_check_values :
    crc32c [0x31, 0x32, 0x33, 0x34, 0x35, 0x36, 0x37, 0x38, 0x39] = 0xE3069283 ∧
    crc32 [0x31, 0x32, 0x33, 0x34, 0x35, 0x36, 0x37, 0x38, 0x39] = 0xCBF43926 := by decide +kernel

/-- Register writes over PCIe, in order. -/
def written (s : State) (ws : List (Nat × Nat)) : State := ws.foldl (fun s w => after (.registerWrite .pcie w.1 (leBytes 4 w.2)) s) s

/-- Spec 20, the example of unit 12: preset 0x2, four bytes through CHK_FEED, five through CHK_FEED1. -/
theorem test_feeding :
    (written calm [(0x40300, 0x2000), (0x40328, 0x34333231), (0x4032C, 0x35), (0x4032C, 0x36), (0x4032C, 0x37), (0x4032C, 0x38),
      (0x4032C, 0x39)]).chkResult 12 = 0xCBF43926 := by decide +kernel

/-- Spec 22: STR_FAN_IREF[5] and LNE_EYE_CTRL of lane 77. -/
theorem test_addresses : STR_FAN_IREF.CODE.addr 5 = 0x2001AC ∧ LNE_EYE_CTRL.START.addr 77 = 0x93420 := by decide +kernel

/-- Spec 15: line and channel of byte 0x12345678B8 in wide-word mode on four channels under MAP 0b10. -/
theorem test_line :
    (let s := ((calm.setFlag MEM_STATUS.WIDE_ACT true).setFld MEM_STATUS.CHANNELS 3).setFld MEM_STATUS.MAP_ACT 2
     s.linesOf 0x12345678B8 1 = [0x40BA1702] ∧ s.channelOf 0x40BA1702 = 1) := by decide +kernel

/-- FIPS 180-4's test of "abc" (log entry 3). -/
theorem test_sha384 :
    beNat (sha384 [0x61, 0x62, 0x63]) =
      0xcb00753f45a35e8bb5a03d699ac65007272c32ab0eded1631a8b605a43ff5bed8086072ba1e7cc2358baeca134c825a7 := by decide +kernel

/-- Spec 22, R515: GLB_ID reads 0x53547240, least significant byte first (R3). -/
theorem test_identity_reads :
    (after (.readClear .pcie 0 4 0) calm).out.head? = some (.readData .pcie [0x40, 0x72, 0x54, 0x53]) := by decide +kernel

/-- Table 0-3: a write of ones clears a W1C bit and no bit beside it (CHK_STATUS of unit 9). -/
theorem test_write_one_clears :
    (let s := after (.registerWrite .pcie 0x40278 (leBytes 4 2)) ((calm.setFlag CHK_STATUS.COLLIDE true 9).setFlag CHK_STATUS.MISMATCH true 9)
     (s.flag CHK_STATUS.COLLIDE 9, s.flag CHK_STATUS.MISMATCH 9)) = (false, true) := by decide +kernel

/-- Spec 00: lamp 10,641 of a 1:16 strand of 128 columns is the lamp (5, 3, 17). -/
theorem test_lamp_index :
    (let s : State := { calm with str := { calm.str with hard := reference } }
     (10641 / 2048, s.lampAt 10641)) = (5, 3, 17) := by decide +kernel

/-- Step on an empty queue: one tick of wall time (log entry 21). -/
theorem test_idle_ticks :
    (let s := calm.setFlag GLB_CLK.ROOT_LOCK true
     (nextOf (step s)).map (·.time.wall) = some (s.time.wall + 1)) ∧ (nextOf (step calm)).map (·.time.wall) = some calm.time.wall := by
  decide +kernel

/-- A command waits, runs and leaves the queue. -/
theorem test_front_runs :
    (nextOf (step { calm with pending := [.wakePin, .sdiLockLoss 0] })).map (·.pending) = some [.sdiLockLoss 0] := by decide +kernel

/-! ### Lines, codes, transforms -/

/-- Spec 15, the worked line of R396: subchannel A, channel 1, line 92, bank group 2, bank 3, rank 0, row 16,570. -/
theorem test_line_fields :
    (let s := ((calm.setFlag MEM_STATUS.WIDE_ACT true).setFld MEM_STATUS.CHANNELS 3).setFld MEM_STATUS.MAP_ACT 2
     let s := (s.setFld MEM_CH_STATUS.RANKS 2 0).setFld MEM_CH_STATUS.MODULES 1 0
     s.lineAt 0x40BA1702) = ⟨0, 1, 92, 2, 3, 0, 0, 16570⟩ := by decide +kernel

/-- A block of bytes 0 to 7, most significant nibble `n`. -/
def blockOf (n : Nat) : Block := ⟨dataSync, (List.range 8).map fun i => BitVec.ofNat 8 (16 * n + i)⟩

/-- Spec 07, R174: what the scrambler makes of a block comes back, and is not the block. -/
theorem test_scrambler :
    (let l := (List.range 2).flatMap fun i => blockBits (blockOf (i + 9))
     let st := (List.range 58).map fun i => decide (i % 3 = 0)
     (descramble st (scramble st l) == l, scramble st l == l)) = (true, false) := by decide +kernel

/-- Spec 05, R140 and R141: the inverse transform undoes the forward one. -/
theorem test_transforms :
    (let x : List Int := [5, -3, 0, 17, 100, -100, 7, 7, 1, 2, 3, 4, -255, 255, 0, -1]
     inverse4 (forward4 x)) = [5, -3, 0, 17, 100, -100, 7, 7, 1, 2, 3, 4, -255, 255, 0, -1] := by decide +kernel

/-- Spec 07, R177, and spec 15, R394: what the encoders make has no syndrome, and one wrong symbol shows in all. -/
theorem test_reed_solomon :
    rsSyndromes f10 6 (rsEncode f10 6 [1, 1023, 512, 77]) = List.replicate 6 0 ∧
    rsSyndromes f16 4 (rsEncode f16 4 [65535, 3, 0, 4096]) = List.replicate 4 0 ∧
    (rsSyndromes f16 4 [65535, 3, 0, 4097, 0, 0, 0, 0]).any (· = 0) = false := by decide +kernel


/-- Five edges with TMS = 1 take the TAP to Test-Logic-Reset from every state (IEEE 1149.1, R499), and TRST_N low keeps it there. -/
theorem test_tap_reset (t : TapState) :
    (List.replicate 5 true).foldl TapState.next t = .testLogicReset ∧ (TapSt.held ⟨t, true, []⟩ [false]).state = .testLogicReset := by
  cases t <;> decide
/-! ### States and operands that meet the hypotheses: the block as a whole -/

theorem test_meets_StepRunsFront :
    (State.reset.pushed .commandFetch).pending = [.commandFetch] ∧
    (calm.pushed .tollhouseRestart).pending = .tollhouseRestart :: calm.pending := by decide +kernel

theorem test_meets_IdleStepCounts :
    (∀ r ∈ [0, 219902325, 2 ^ 32 - 219902325], (ticking r).pending = [] ∧ (ticking r).clocked = true ∧ (ticking r).time.frac < 2 ^ 40 ∧
      -219902325 ≤ (ticking r).fldS TIM_RATE.RATE ∧ (ticking r).fldS TIM_RATE.RATE ≤ 219902325 ∧ (ticking r).time.wall + 2 < 2 ^ 64) ∧
    (ticking 219902325).fldS TIM_RATE.RATE = 219902325 ∧ (ticking (2 ^ 32 - 219902325)).fldS TIM_RATE.RATE = -219902325 ∧
    State.reset.pending = [] ∧ State.reset.clocked = false := by decide +kernel

theorem test_meets_ResetLeavesColumns :
    0x50000 ∉ (bootWords Fuses.blank Pins.board 1 0).map (·.1) ∧ 0xE0000 ∉ (bootWords Fuses.blank Pins.board 1 0).map (·.1) := by
  decide +kernel

theorem test_meets_StepKeepsCanonical :
    (calm.pushed .tollhouseRestart).Canon ∧ (∀ c ∈ (calm.pushed .tollhouseRestart).host.cmds, c.q < 24) ∧ (nextOf (step (calm.pushed .tollhouseRestart))).isSome = true := by
  unfold State.Canon; decide +kernel

theorem test_meets_CommandsKeep : (nextOf (exec .tollhouseRestart calm)).isSome = true := by decide +kernel

theorem test_meets_NothingRunsInReset :
    (after .resetPin calm).awake = false ∧ fromBoard .commandFetch = false ∧
    (nextOf (exec .commandFetch (after .resetPin calm))).isSome = true := by decide +kernel

theorem test_meets_RaiseFrame :
    (∀ f ∈ ([(16, 1, 3), (31, 1, 1)] : List ByteField), 16 ≤ f.1 ∧ f.1 + f.2.1 ≤ 32) := by decide +kernel

theorem test_meets_FinishFrame :
    (cmdFor 0 .started []).q < 24 ∧ (∀ d ∈ (started calm 0 []).host.cmds, d.q < 24) ∧
    (List.replicate 16 (0 : Byte)).length ≤ 16 := by decide +kernel

theorem test_meets_RecordsStored : (Event.mk 5 0 (List.replicate 16 0)).detail.length = 16 ∧
    (Completion.mk 23 7 0 0 false (List.replicate 16 0)).result.length = 16 ∧ (Completion.mk 23 7 0 0 false []).q = 23 ∧ 23 < 24 ∧ 2 < 3 := by decide +kernel

/-! ### Host ports and registers -/

theorem test_meets_ClosedPathIgnored :
    State.reset.awake = true ∧ State.reset.pathOpen (.remote 0) = false ∧ State.reset.pathKnown (.remote 0) = false ∧
    (let s := after (.portDisable .pcie 1) calm
     s.awake = true ∧ s.pathOpen .spi = false ∧ s.pathKnown .spi = true ∧ Path.spi.port ≠ 0) ∧
    (after (.portDisable .pcie 0) calm).portOn 0 = false := by decide +kernel

theorem test_meets_WordAccess :
    State.reset.awake = true ∧ State.reset.pathOpen .pcie = true ∧
    (∀ a ∈ [0x28000, 0x2FFFC], a % 4 = 0 ∧ a + 4 ≤ 2 ^ 26 ∧ inArea a = true) ∧
    (∀ a ∈ [0x27FFC, 2 ^ 26 - 4], a % 4 = 0 ∧ a + 4 ≤ 2 ^ 26 ∧ inArea a = false ∧ regAt a = none) ∧
    (∀ a ∈ [0x50000, 0x180000, 0x240008, 0x240030, 0x2E0000],
      (regAt a).any (fun r => ! r.2.2 && ! r.1.pair) = true ∧ (0x50000 ≤ a ∧ a < 0x60000 ∨ 0x180000 ≤ a ∧ a < 0x180800 ∨
        0x240008 ≤ a ∧ a < 0x240100 ∨ 0x2E0000 ≤ a ∧ a < 0x300000)) := by decide +kernel

theorem test_meets_PairAccess :
    State.reset.awake = true ∧ State.reset.pathOpen .spi = true ∧ 0xE0000 % 4 = 0 ∧ inArea 0xE0000 = false ∧ inArea 0xE0004 = false ∧
    (∀ a ∈ [0xE0000, CHK_VAL.VAL.addr 31], (regAt a).any (fun r => ! r.2.2 && r.1.pair && r.1.base ≠ 0x20024) = true ∧
      (regAt a).map (fun r => (r.1, r.2.1, true)) = regAt (a + 4) ∧ State.reset.measured a = none ∧ State.reset.measured (a + 4) = none) := by
  decide +kernel

/-- A device with partitions of 4 KiB at address 4096 of deck: LAMPBUF and LAYER. -/
def parted : State := { calm with cfg := { calm.cfg with parts := [⟨pkLayer, false, 0, 1, 1⟩, ⟨pkLampBuf, false, 0, 512, 1024⟩] } }

theorem test_meets_DeckAccess :
    parted.awake = true ∧ inBar2 0 64 = true ∧ inBar2 (2 ^ 26 - 64) 64 = true ∧ inBar2 (2 ^ 26 - 63) 64 = false ∧ parted.portOn 0 = true ∧ parted.pathOpen .spi = true ∧
    (∀ a ∈ [0, 4096 - 64, 8192, 2 ^ 26 - 64], parted.deckRefused false a 64 = false ∧ parted.deckRefused true a 64 = false) ∧
    parted.deckRefused true 4096 64 = true ∧ parted.deckRefused true 8188 4 = true ∧
    parted.deckRefused false (2 ^ 21) 4 = true ∧ parted.deckRefused false (2 ^ 22) 4 = false ∧
    (after (.portDisable .spi 0) calm).portOn 0 = false := by decide +kernel

theorem test_meets_DeckWriteFrame : 0 < ([1] : List Byte).length := by decide +kernel

theorem test_meets_PortEnables :
    State.reset.awake = true ∧ State.reset.pathOpen .pcie = true ∧ State.reset.portOn 0 = true ∧ State.reset.portOn 1 = true ∧
    (∀ d ∈ (started calm 0 []).host.cmds, d.q < 24) := by decide +kernel

/-! ### Queues, rings and commands -/

/-- Rings of queue 0 at two addresses, and the event ring of port 0 at 0x30000. -/
def ringed (sq cq : Nat) : State :=
  ((calm.setPair HIF_Q_SQ_BASE.BASE sq 0).setPair HIF_Q_CQ_BASE.BASE cq 0).setPair HIF_EV_BASE.BASE 0x30000 0

/-- The state after the word of HIF_Q_CFG[0] is stored. -/
def qStored (s : State) (v : Nat) : State :=
  match regAt 0x21000 with
  | some r => (s.writePlain r.1 0x21000 v).setFlag HIF_Q_CFG.ENABLE (s.flag HIF_Q_CFG.ENABLE 0) 0
  | none => s

/-- The rings of a queue stand where R47 lets them. -/
def queuePlaced (w : State) : Bool :=
  [w.sqRange 0, w.cqRange 0].all (ringPlaced 0) && ! rangesMeet (w.sqRange 0) (w.cqRange 0) &&
    ! [w.sqRange 0, w.cqRange 0].any (fun r => (w.otherRings 0 (some 0) true).any (rangesMeet r))

/-- Queue 0 enabled, 256 entries in each ring. -/
def live : State :=
  after (.queueEnable .pcie 0 0x4401) { ringed 0x10000 0x20000 with host := { calm.host with untilRing := [] } }

theorem test_meets_QueueEnables :
    calm.awake = true ∧ calm.pathOpen .pcie = true ∧ (regAt 0x21000).any (fun r => ! r.2.2) = true ∧
    (ringed 0x10000 0x20000).flag HIF_Q_CFG.ENABLE 0 = false ∧ 0x4401 % 2 = 1 ∧
    queuePlaced (qStored (ringed 0x10000 0x20000) 0x4401) = true ∧ queuePlaced (qStored (ringed 0x10000 0x10000) 0x4401) = false ∧
    queuePlaced (qStored (ringed 0x10040 0x20000) 0x4401) = false ∧
    live.flag HIF_Q_CFG.ENABLE 0 = true ∧ (live.queue 0).draining = false ∧ live.host.discards = [] ∧
    live.host.cmds.all (fun c => c.q ≠ 0 || c.dropped) = true ∧ live.host.heldDone.all (fun c => c.q ≠ 0) = true ∧
    (∃ c ∈ (started live 0 []).host.cmds, c.q = 0 ∧ c.dropped = false) := by decide +kernel

/-- The state after the word of HIF_EV_CFG[0] is stored. -/
def evStored (s : State) (v : Nat) : State :=
  match regAt 0x21400 with
  | some r => (s.writePlain r.1 0x21400 v).setFlag HIF_EV_CFG.ENABLE (s.flag HIF_EV_CFG.ENABLE 0) 0
  | none => s

theorem test_meets_RingEnables :
    live.awake = true ∧ live.pathOpen .pcie = true ∧ (regAt 0x21400).any (fun r => ! r.2.2) = true ∧
    live.flag HIF_EV_CFG.ENABLE 0 = false ∧ ringPlaced 0 ((evStored live 0x401).evRange 0) = true ∧
    ((evStored live 0x401).otherRings 0 none false).any (rangesMeet ((evStored live 0x401).evRange 0)) = false ∧
    live.host.untilRing = [] ∧
    (let s := live.setPair HIF_EV_BASE.BASE 0x20000 0
     ((evStored s 0x401).otherRings 0 none false).any (rangesMeet ((evStored s 0x401).evRange 0)) = true) ∧
    (let s := live.setPair HIF_EV_BASE.BASE 0x30020 0
     ringPlaced 0 ((evStored s 0x401).evRange 0) = false) := by decide +kernel

theorem test_meets_DoorbellsAndHeads :
    live.awake = true ∧ live.pathOpen .pcie = true ∧ live.sqSize 0 = 256 ∧ bits 255 0 12 < live.sqSize 0 ∧ live.sqSize 0 ≤ bits 256 0 12 := by
  decide +kernel

/-- A queue with one record in slot 0: opcode, flags. -/
def rung (op flags : Nat) : State :=
  after (.sqDoorbell .pcie 0 1)
    { live with host := { live.host with mem := writeBytes blank live.host.mem 0x10000 (leBytes 2 op ++ leBytes 2 7 ++ leBytes 4 flags) } }

/-- The command that its slot 0 holds. -/
def rungCmd (op flags : Nat) : Cmd := cmdOfRecord 0 0 ((rung op flags).record 0 0)

theorem test_meets_FetchAndStart :
    (rung 0 0).awake = true ∧ (rung 0 0).restarting = false ∧ (rung 0 0).flag FWU_STATUS.RECOVERY = false ∧
    (rung 0 0).nextQueue = some 0 ∧ live.nextQueue = none ∧ (rung 0 0).host.discards = [] ∧
    (rung 0 8).checkCmd (rungCmd 0 8) ((rung 0 8).record 0 0) = some stReserved ∧
    (rung 0xFFFF 0).checkCmd (rungCmd 0xFFFF 0) ((rung 0xFFFF 0).record 0 0) = some stBadOpcode ∧
    (let c := cmdFor 0 .waiting []
     (withCmd calm c).host.cmds.find? (fun c => c.q = 0 ∧ c.tag = 7 ∧ c.phase = .waiting) = some c ∧ (withCmd calm c).canStart c = true ∧
       c.opcode ≠ 0x1601 ∧ c.opcode ≠ 0x0002) ∧
    (let c := { cmdFor 0 .waiting [] with flags := 2, startTime := 10 ^ 10 + 1 }
     (withCmd calm c).host.cmds.find? (fun c => c.q = 0 ∧ c.tag = 7 ∧ c.phase = .waiting) = some c ∧
       (withCmd calm c).canStart c = false) := by decide +kernel

/-- An abort of queue 0's tag 9. -/
def abortOf : Cmd := cmdFor 1 .started [0, 0, 9, 0]

theorem test_meets_NopAndAbort :
    (started calm 0 []).cmd 0 7 0x0000 = some (cmdFor 0 .started []) ∧ (started calm 0 []).awake = true ∧
    (started calm 0 []).restarting = false ∧
    (withCmd calm abortOf).cmd 0 7 0x0001 = some abortOf ∧
    (withCmd calm abortOf).target (abortOf.opnd 32 1) (abortOf.opnd 34 2) = .none ∧
    (let t := { cmdFor 0x0501 .running [] with tag := 9 }
     (withCmd (withCmd calm abortOf) t).target 0 9 = .fetched t ∧ t.opcode ≠ 0x0001 ∧ t.phase ≠ .waiting) ∧
    (let t := { cmdFor 0x0501 .waiting [] with tag := 9 }
     (withCmd (withCmd calm abortOf) t).target 0 9 = .fetched t ∧ t.opcode ≠ 0x0001 ∧ t.phase = .waiting) ∧
    (let t := { cmdFor 0x0001 .running [] with tag := 9 }
     (withCmd (withCmd calm abortOf) t).target 0 9 = .fetched t ∧ t.opcode = 0x0001) ∧
    (∀ op ∈ [1, 3], (withCmd (rung op 0) (cmdFor 1 .started [0, 0, 7, 0])).host.discards = [] ∧
      ((rung op 0).target 0 7 = .waiting 0 op)) := by decide +kernel

/-- A command that runs with an accepted abort. -/
def aborting (s : State) (c : Cmd) : State := withCmd s { c with aborts := [(1, 1)] }

/-- What SAFE_POINT_STOP finds. -/
def stopped (s : State) : Option Cmd :=
  s.host.cmds.find? (fun c => c.q = 0 ∧ c.tag = 7 ∧ c.aborts ≠ [] ∧ c.phase ≠ .waiting ∧ c.opcode ≠ 0x0001)

theorem test_meets_SafePoints :
    (let s := aborting (calm.setFld CFG_STATUS.STAGE sgPending) (cmdFor 0x0204 .running [])
     (stopped s).map (·.opcode) = some 0x0204 ∧ s.stage = sgPending ∧ s.cfg.taken = false ∧ s.awake = true) ∧
    (let s := aborting { calm with dia := { calm.dia with ops := [(0, 7)] } } (cmdFor 0x1002 .running [])
     (stopped s).map (·.opcode) = some 0x1002 ∧ (0, 7) ∈ s.dia.ops) ∧
    (let s := aborting medium (cmdFor 0x1101 .started [] (2 * mib))
     (stopped s).map (fun c => (c.opcode, c.payLen, c.opnd 32 8, decide (c.phase = .started))) = some (0x1101, 2 * mib, 0, true) ∧
       1 * mib < 2 * mib ∧ s.memRefusal 0 (2 * mib) true = none) ∧
    (stopped (aborting calm (cmdFor 0x1901 .running []))).map (·.opcode) = some 0x1901 ∧
    (∀ op ∈ [0x0000, 0x1902], (stopped (aborting calm (cmdFor op .running []))).map (·.opcode) = some op) := by decide +kernel

/-! ### Functions, decisions, bays -/

/-- A CMD_DECIDE for a function and a PERIOD. -/
def deciding (s : State) (n period : Nat) : State := started s 0x0002 ([BitVec.ofNat 8 n, 0, 0, 0] ++ leBytes 4 period)

theorem test_meets_ResetsAndModes :
    calm.awake = true ∧ calm.pathOpen .pcie = true ∧ bits 0x100 8 1 = 1 ∧
    (∀ n ∈ [0, 31, 47], (let u := (calm.setFld FNT_CTRL.MODE_REQ (bits 0x100 0 1) n).markMode n
      u.fnState n = fnAbsent ∨ u.flag FNT_CTRL.RST n = true)) ∧
    (∀ n ∈ [0, 31, 47], (let s := calm.setFld FNT_STATUS.STATE fnRun n
      let u := (s.setFld FNT_CTRL.MODE_REQ (bits 0x100 0 1) n).markMode n
      u.fnState n ≠ fnAbsent ∧ u.flag FNT_CTRL.RST n = false)) ∧
    (∀ n ∈ [0, 31], (let s := calm.setFlag FNT_CTRL.RST true n
      n < 32 ∧ s.flag FNT_CTRL.RST n = true ∧ s.resetOver n = true)) ∧
    calm.flag FNT_CTRL.RST 0 = false ∧
    (let s := (calm.setFlag FNT_CTRL.RST true 8).setFld SPN_STATUS.STATE spDetect 15
     s.resetOver 8 = false) ∧
    calm.cadence = false ∧ (beat calm).cadence = true ∧
    (let s : State := { calm with fnt := { calm.fnt with missed := [(5, 9)] } }
     (5, 9) ∈ s.fnt.missed ∧ (6, 9) ∉ s.fnt.missed) ∧
    bits 0xFF 8 1 = 0 ∧ (calm.setFlag FNT_CTRL.RST true 19).flag FNT_CTRL.RST 19 = true ∧ (assisted 4).assist 4 = true ∧
    (∀ t ∈ [10 ^ 10, 10 ^ 10 + 1], (let s := calm.setPort 3 { calm.port 3 with step := some ⟨1, 0, none, none, none, some t, false⟩ }
      (s.port 3).step = some ⟨1, 0, none, none, none, some t, false⟩ ∧ s.stepPeriod 3 / 65536 = 3 ∧ s.clock = 10 ^ 10)) ∧
    (calm.port (0x30000 / 65536)).step = none := by decide +kernel

theorem test_meets_DecisionsTaken :
    (∀ n ∈ [1, 2, 4, 5, 6, 7, 8, 10, 11, 12, 13, 14, 15, 16, 17, 18, 19, 22, 24],
      (deciding calm n 0).awake = true ∧ (deciding calm n 0).restarting = false ∧
      ((deciding calm n 0).cmd 0 7 0x0002).any (fun c => c.opnd 32 1 = n && c.opnd 36 4 = 0) = true ∧
      (deciding calm n 0).mayDecide n 0 = false) ∧
    (∀ n ∈ [1, 12, 19, 24], (assisted n).mayDecide n 0 = true ∧ (assisted n).timely n 0 = stOk ∧
      (assisted n).timely n (2 ^ 32 - 1) = stTooLate ∧ (assisted n).timely n 5 = stTooEarly) ∧
    (assisted 4).mayDecide 4 0 = true ∧ (assisted 4).timely 4 0 = stOk ∧
    (assisted 7).mayDecide 7 0x100000 = true ∧ (assisted 7).timely 7 0x100000 ≠ stOk ∧
    (let s := (assisted 7).setPort 3 { (assisted 7).port 3 with step := some ⟨1, 0, some true, none, none, some (10 ^ 10 + 1), false⟩ }
     s.mayDecide 7 0x30000 = true ∧ s.timely 7 0x30000 = stOk) := by decide +kernel

theorem test_meets_DecisionTimes :
    (12 ≠ 4 ∧ 12 ≠ 7 ∧ 4 < 2 ^ 31 ∧ 4 ≤ 4 ∧ 4 < 5) ∧
    (let s := (beat calm).setPair TIM_FRAME.FRAME 100 0
     0 < 1 ∧ 1 ≤ s.nextOpen ∧ s.nextOpen = 101) ∧
    (assisted 12).assist 12 = true ∧ calm.assist 12 = false ∧ calm.flag FNT_STATUS.MODE_PEND 12 = false ∧
    calm.flag FNT_CTRL.MODE_REQ 12 = false ∧ calm.assist 7 = false ∧
    (let s := (beat ((calm.setFlag FNT_STATUS.MODE_PEND true 12).setFlag FNT_CTRL.MODE_REQ true 12)).setPair TIM_FRAME.FRAME 100 0
     s.assist 12 = false ∧ s.cadence = true ∧ s.flag FNT_STATUS.MODE_PEND 12 = true ∧ s.flag FNT_CTRL.MODE_REQ 12 = true ∧
       0 < 101 ∧ 101 ≤ s.switchFrame 12) := by decide +kernel

/-- Bay 3 in a state. -/
def bayIn (st : Nat) : State := calm.setFld BAY_STATUS.STATE st 3

theorem test_meets_BayEvents :
    (bayIn bayIdle).awake = true ∧ (bayIn bayIdle).bayState 3 ≠ bayGated ∧ (bayIn bayIdle).bayState 3 ≠ bayReset ∧
    (bayIn bayIdle).flag BAY_ERR.ENG_FAULT 3 = false ∧ (bayIn bayIdle).flag BAY_ERR.LSRAM_UC 3 = false ∧
    ((bayIn bayIdle).setFlag BAY_ERR.ENG_FAULT true 3).flag BAY_ERR.ENG_FAULT 3 = true ∧
    (bayIn bayRun).bayState 3 = bayRun ∧ (bayIn bayRun).flag BAY_ERR.WDOG 3 = false ∧ (bayIn bayIdle).bayState 3 ≠ bayRun ∧
    (bayIn bayLoading).bayState 3 = bayLoading ∧ (bayIn bayLoading).cadence = false ∧ (beat (bayIn bayLoading)).cadence = true ∧
    (bayIn bayGated).bayState 3 = bayGated ∧ (bayIn bayReset).bayState 3 = bayReset ∧ (bayIn bayIdle).bayState 3 ≠ bayLoading ∧
    (bayIn bayLoading).kernelAt 3 = none ∧ ((bayIn bayRun).setFlag BAY_ERR.WDOG true 3).flag BAY_ERR.WDOG 3 = true := by
  decide +kernel

theorem test_meets_TollhouseRestarts :
    calm.awake = true ∧ calm.restarting = false ∧ State.reset.awake = true ∧ State.reset.restarting = true ∧
    State.reset.fwu.started = false ∧ State.reset.flashHeld = false ∧
    (let u := (State.reset.dropTried 0).dropTried 1
     (u.chooseSlot u.candidates).2 = none) ∧
    (let s : State := { State.reset with fwu := { State.reset.fwu with started := true } }
     s.restarting = true ∧ s.fwu.started = true) ∧ (State.reset.setFlag PWR_BROWN.ACTIVE true).flashHeld = true := by decide +kernel

/-! ### Check units and GPIO -/

theorem test_meets_CheckPresets :
    calm.awake = true ∧ calm.pathOpen .pcie = true ∧ 8 ≤ (8 : Fin 32).val ∧
    (∀ u ∈ [8, 31], calm.flag CHK_STATUS.BUSY u = false) ∧
    (∀ n ∈ [1, 2, 3, 4, 5], (crcPreset (bits (n * 4096) 12 4)).isSome = true) ∧ (∀ n ∈ [0, 6, 15], crcPreset (bits (n * 4096) 12 4) = none) := by decide +kernel

theorem test_meets_CheckFeeding :
    calm.awake = true ∧ calm.pathOpen .pcie = true ∧ (∀ u ∈ [8, 31], calm.flag CHK_STATUS.BUSY u = false) ∧ 1 % 2 = 1 ∧
    (let s := after (.pairLoWrite .pcie (CHK_VAL.VAL.addr 8) 0xFFFFFFFF) calm
     2 ^ 32 - 1 < 2 ^ s.fld CHK_CFG.WIDTH 8 ∧ 2 ^ 32 - 1 < 2 ^ 64 ∧
       Sparse.find s.host.staged (pathKey .pcie (CHK_VAL.VAL.addr 8)) = some (BitVec.ofNat 32 (2 ^ 32 - 1))) ∧
    (let s := after (.pairLoWrite .pcie (CHK_VAL.VAL.addr 8) 0xFFFFFFFF) (after (.chkPresetWrite .pcie 8 0x4000) calm)
     2 ^ 64 - 1 < 2 ^ s.fld CHK_CFG.WIDTH 8 ∧
       Sparse.find s.host.staged (pathKey .pcie (CHK_VAL.VAL.addr 8)) = some (BitVec.ofNat 32 (2 ^ 64 - 1))) := by
  decide +kernel

theorem test_meets_CheckGuards :
    calm.awake = true ∧ calm.pathOpen .pcie = true ∧ (7 : Fin 32).val < 8 ∧ 8 ≤ (8 : Fin 32).val ∧
    (calm.setFlag CHK_STATUS.BUSY true 8).flag CHK_STATUS.BUSY 8 = true := by decide +kernel

/-- The operands of CMD_CHK_RUN: unit, operation, SRC and DST codes, length, source, destination. -/
def chkOpnds (unit op src dst len a b : Nat) : List Byte :=
  leBytes 1 unit ++ leBytes 1 op ++ leBytes 1 (2 * src + 8 * dst) ++ [0] ++ leBytes 4 len ++ leBytes 8 a ++ leBytes 8 b

/-- The command of a run. -/
def chkCmd (bs : List Byte) : Cmd := cmdFor 0x1601 .started bs

/-- The nine bytes of "123456789" at 0x100 in deck, then their CRC-32C. -/
def digits : State := (after (.chkPresetWrite .pcie 8 0x1000) calm).deckWrite 0x100 ([0x31, 0x32, 0x33, 0x34, 0x35, 0x36, 0x37, 0x38, 0x39] ++ leBytes 4 0xE3069283)
    fun _ => 4

/-- What the check of a run compares. -/
def chkGood (s : State) (c : Cmd) : Bool :=
  let r := chkRunOf c
  let u := s.chkProceed c r (max r.len (s.chkOut r))
  (s.chkSource c r).drop (s.chkFed r) == crcBytes (u.chkParams r.unit) (u.chkResult r.unit)

theorem test_meets_CheckRuns :
    (∀ op ∈ [0, 1, 2, 3], (let c := chkCmd (chkOpnds 8 op 1 0 13 0x100 0)
      (withCmd digits c).awake = true ∧ (withCmd digits c).cmd 0 7 0x1601 = some c ∧ (chkRunOf c).op = op ∧
      8 ≤ (chkRunOf c).unit ∧ crcLen (digits.chkParams 8) ≤ (chkRunOf c).len ∧
      (chkRunOf c).overlap (digits.chkOut (chkRunOf c)) = false ∧ digits.chkStopAt (chkRunOf c) = none)) ∧
    (chkRunOf (chkCmd (chkOpnds 7 0 1 0 13 0x100 0))).unit < 8 ∧
    (chkRunOf (chkCmd (chkOpnds 8 2 1 0 3 0x100 0))).len < crcLen (digits.chkParams 8) ∧
    (let r := chkRunOf (chkCmd (chkOpnds 8 1 1 1 13 0x100 0x10C))
     r.overlap (digits.chkOut r) = true) ∧
    (∀ op ∈ [2, 3], chkGood digits (chkCmd (chkOpnds 8 op 1 0 13 0x100 0)) = true ∧
      chkGood digits (chkCmd (chkOpnds 8 op 1 0 12 0x100 0)) = false) ∧ calm.cmd 0 7 0x1601 = none ∧
    (let s : State := { digits with mem := { digits.mem with deckBad := [0x20] } }
     s.chkStopAt (chkRunOf (chkCmd (chkOpnds 8 0 1 0 13 0xFF 0))) = some (1, true)) ∧
    digits.chkStopAt (chkRunOf (chkCmd (chkOpnds 8 0 1 0 13 (64 * mib - 4) 0))) = some (4, false) := by decide +kernel

theorem test_meets_GpioAndReset :
    calm.awake = true ∧ calm.pathOpen .pcie = true ∧ 0x7240 % 65536 = 0x7240 ∧ 0x7241 % 65536 ≠ 0x7240 := by decide +kernel

/-! ### Frames, closures, ledgers -/

/-- A cadence with a frame scheduled next. -/
def ahead' (x : Sched) : State := { beat calm with cad := { (beat calm).cad with next := some x } }

/-- A closure of keystone `key` for frame 101. -/
def closing (key : Nat) (start : Nat := t0) : Closure := ⟨key, 101, start, 0, 0, false⟩

theorem test_meets_FrameTimes :
    calm.awake = true ∧ (∀ x ∈ ([⟨101, t0 + 38400, 0, true, false, false⟩, ⟨101, t0, 0, true, true, true⟩] : List Sched),
      (ahead' x).cadence = true ∧ (ahead' x).cad.next = some x ∧ x.start ≤ (ahead' x).now + 38400 ∧ (ahead' x).now = t0) ∧
    t0 + 38400 < t0 + 38401 ∧
    (let s : State := { ahead' ⟨101, t0, 0, true, true, true⟩ with red := { calm.red with closures := [closing 0] } }
     s.red.closures.any (fun c => c.frame = 101) = true) ∧
    (ahead' ⟨101, t0, 0, true, true, true⟩).red.closures.any (fun c => c.frame = 101) = false ∧
    calm.cadence = false ∧
    (let s := calm.setFlag GLB_CLK.ROOT_LOCK true
     s.cadence = false ∧ s.restarting = false ∧ s.flag FWU_STATUS.RECOVERY = false ∧ s.flag GLB_CLK.ROOT_LOCK = true ∧
       s.fwu.since + ms ≤ s.clock ∧ s.fld PWR_STATE.STATE < 3) ∧
    (let s : State := { calm with cad := { calm.cad with soft := some (1, 2, 3) } }
     s.cad.soft = some (1, 2, 3)) ∧
    (∀ late ∈ [0, 1], (let s := calm.setFlag GLB_CLK.ROOT_LOCK true
      let s : State := { s with fwu := { s.fwu with since := s.clock + late - ms } }
      s.cadence = false ∧ s.fwu.since + ms = s.clock + late)) ∧
    (calm.setFld PWR_STATE.STATE 3).fld PWR_STATE.STATE = 3 ∧ calm.flag GLB_CLK.ROOT_LOCK = false ∧ calm.cad.accepted = none ∧
    calm.str.next = none := by decide +kernel

/-- A pier whose back buffer is composed, for frame `target`; `late` as R364 has it. -/
def composed (target : Nat) (late : Bool) : State :=
  let s := ((beat pier).setFlag COR_STATUS.MAP_OK true).setFlag COR_STATUS.COEF_OK true
  let s := s.setFlag COR_STATUS.GAIN_OK true
  { s with cmp := { s.cmp with gens := [⟨7, [], [], [], [], false⟩], inForce := some 7, named := some 7, ready := true },
           cad := { s.cad with target := target, late := late } }

theorem test_meets_FrameOutcomes :
    (composed 101 false).backConfirmed = true ∧ (beat pier).backConfirmed = false ∧ (composed 101 false).restarting = false ∧
    State.reset.restarting = true ∧ (composed 101 false).cad.target = 101 ∧ (composed 101 false).cad.target ≠ 102 ∧
    (composed 100 true).cad.late = true ∧ (composed 100 true).cad.target ≠ 101 ∧ (composed 100 true).backConfirmed = true ∧
    0 ≤ (beat pier).cad.target ∧ (beat pier).cad.target < 101 ∧
    (∃ x : Sched, x = ⟨101, t0, 0, true, true, false⟩ ∧ x.prov = false ∧ x.ok = true) ∧
    (∃ x : Sched, x = ⟨101, t0, 0, false, true, true⟩ ∧ x.prov = true ∧ x.ok = false) := by
  refine ⟨?_, ?_, ?_, ?_, ?_, ?_, ?_, ?_, ?_, ?_, ?_, ⟨_, rfl, rfl, rfl⟩, ⟨_, rfl, rfl, rfl⟩⟩ <;> decide +kernel

/-- A keystone of index 1 that shares the vote with nodes 5 and 6. -/
def keystone : State :=
  let s := ((beat calm).setFlag RED_CFG.KEY_EN true).setFld RED_CFG.KEY_IDX 1
  (s.setFld RED_KEY.NODE 5 0).setFld RED_KEY.NODE 6 2

/-- The same in SOURCE mode with LEAD 1,000. -/
def sourced (stamp : Option Nat) : State :=
  { keystone with cad := { keystone.cad with set' := (1, 1000, 0), tMax := 2000, tMin := 1000 }, key := { keystone.key with stamp := stamp } }

/-- The payload of a closure or a proposal for frame 101. -/
def votePay : List Byte := beBytes 8 101 ++ beBytes 8 t0 ++ List.replicate 24 0

theorem test_meets_KeystoneVotes :
    keystone.awake = true ∧ keystone.ownKey = some 1 ∧ keystone.cadence = true ∧ keystone.key.frame ≠ some (keystone.frame + 1) ∧
    keystone.cad.set'.1 = 0 ∧ (sourced (some 5)).cad.set'.1 ≠ 0 ∧ (sourced (some 5)).key.stamp = some 5 ∧ (sourced none).key.stamp = none ∧
    (let s := (sourced none).setPair TIM_START.START (t0 - 1000) 0
     s.pair TIM_START.START + s.cad.tMax ≤ s.now + s.cad.set'.2.1 ∧ s.ownKey = some 1) ∧
    (let s := (sourced none).setPair TIM_START.START (t0 - 999) 0
     s.now + s.cad.set'.2.1 < s.pair TIM_START.START + s.cad.tMax) ∧
    calm.ownKey = none ∧ (sourced none).cad.tMin ≤ (sourced none).cad.tMax ∧
    (told keystone 0x21 votePay).takeMsg 0x21 = toldOf keystone 0x21 votePay ∧ keystone.keyOf 5 = some 0 ∧
    (closureOf 0 votePay).isSome = true ∧ (told keystone 0x21 votePay 9).takeMsg 0x21 = toldOf keystone 0x21 votePay 9 ∧
    keystone.keyOf 9 = none ∧
    (∀ stop ∈ [t0, t0 + 1], (let s : State := { keystone with red := { keystone.red with own := some (closing 1, stop) } }
      s.red.own = some (closing 1, stop) ∧ s.red.props = [] ∧ s.now = t0)) ∧
    (let s : State := { keystone with red := { keystone.red with own := some (closing 1, t0), props := [closing 0] } }
     s.red.props = [closing 0] ∧ (closing 0).frame = (closing 1).frame ∧ (closing 0).key < (closing 1).key ∧
       s.adopts (closing 1) (closing 0) = false ∧
       ({ (s.setPair TIM_START.START (t0 - 1500) 0) with cad := (sourced none).cad } : State).adopts (closing 1) (closing 0) = true) ∧
    (let s : State := { sourced none with red := { keystone.red with issue := some (closing 1 (t0 + 1000)) } }
     s.red.issue = some (closing 1 (t0 + 1000)) ∧ (closing 1 (t0 + 1000)).start ≤ s.now + s.cad.set'.2.1 ∧
       s.now + s.cad.set'.2.1 < t0 + 1001) ∧
    calm.takeMsg 0x21 = none ∧ calm.red.own = none ∧ calm.red.issue = none ∧ keystone.fnState 19 ≠ fnReset ∧
    (keystone.setFld FNT_STATUS.STATE fnReset 19).fnState 19 = fnReset ∧ closureOf 0 [] = none := by decide +kernel

theorem test_meets_ClosuresAccepted :
    (told keystone 0x20 votePay 9).awake = true ∧ (told keystone 0x20 votePay 9).takeMsg 0x20 = toldOf keystone 0x20 votePay 9 ∧
    keystone.keyOf 9 = none ∧ (told keystone 0x20 votePay).takeMsg 0x20 = toldOf keystone 0x20 votePay ∧ keystone.keyOf 5 = some 0 ∧
    closureOf 0 votePay = some (closing 0) ∧ keystone.cadence = true ∧
    keystone.red.accepted.find? (fun d => d.frame = (closing 0).frame) = none ∧ keystone.red.closures = [] ∧
    (keystone.setFld RED_CFG.QUORUM 2).fld RED_CFG.QUORUM ≠ 1 ∧ (closing 2).key ≠ (closing 0).key ∧
    (closing 0).agrees (closing 2) = true ∧ (closing 0).agrees (closing 2 (t0 + 1)) = false ∧
    (let s : State := { keystone with red := { keystone.red with accepted := [closing 2 (t0 + 1)] } }
     s.red.accepted.find? (fun d => d.frame = (closing 0).frame) = some (closing 2 (t0 + 1)) ∧ (closing 0).key ∉ s.red.differ) ∧
    (let s : State := { keystone with red := { keystone.red with accepted := [closing 2 (t0 + 1)], differ := [0] } }
     (closing 0).key ∈ s.red.differ) ∧
    (closing 0).frame ≤ (calm.setPair TIM_FRAME.FRAME 101 0).frame ∧ (calm.setPair TIM_FRAME.FRAME 100 0).frame < (closing 0).frame ∧
    (closing 0 (t0 - 1)).start < calm.now ∧ calm.now ≤ (closing 0).start ∧ calm.now + 38400 < (closing 0 (t0 + 38401)).start ∧
    calm.takeMsg 0x20 = none ∧ (calm.setFld RED_KEY.NODE 5 0).cadence = false ∧
    (∀ n ∈ [1, 2], (let s := told (keystone.setFld RED_CFG.QUORUM n) 0x20 votePay
      ((s.red.closures ++ [closing 0]).filter (closing 0).agrees).length = 1 ∧ s.quorum = n)) ∧
    (let s : State := { keystone with red := { keystone.red with closures := [closing 0] } }
     ∃ d ∈ s.red.closures, d.key = (closing 0).key ∧ d.frame = (closing 0).frame) := by
  decide +kernel

/-- A device with a port in UP whose credits of VC0 do not sum to its slots: the books differ on CREDIT. -/
def owing : State := (portIn calm 2 spanUp).setFld SPN_CREDIT_A.CR0 3 2

theorem test_meets_LedgerAudits :
    calm.awake = true ∧ calm.restarting = false ∧ calm.cadence = false ∧ calm.ldg.last + ms ≤ calm.clock ∧
    (let s := (beat calm).setPair TIM_START.START (t0 - 1536) 0
     s.cadence = true ∧ s.ldg.audited = false ∧ s.pair TIM_START.START + 1536 ≤ s.now) ∧
    State.reset.restarting = true ∧
    (let s : State := { beat calm with ldg := { calm.ldg with audited := true } }
     s.cadence = true ∧ s.ldg.audited = true) ∧
    (started calm 0x1301 [0xFF]).cmd 0 7 0x1301 = some (cmdFor 0x1301 .started [0xFF]) ∧
    (calm.setFld LDG_FW.ACTIVE 1).found 7 ≠ [] ∧ ((calm.setFld LDG_FW.ACTIVE 1).found 7).filter (fun x => ! x.ok) = [] ∧
    bits (calm.fld LDG_STATUS.IMBAL) 7 1 = 0 ∧
    (owing.found 0).filter (fun x => ! x.ok) ≠ [] ∧ bits (owing.fld LDG_STATUS.IMBAL) 0 1 = 0 ∧
    calm.cmd 0 7 0x1301 = none ∧ calm.found 0 = [] ∧
    (let s : State := { calm with ldg := { calm.ldg with last := calm.clock - ms + 1 } }
     s.clock < s.ldg.last + ms) := by
  decide +kernel

/-! ### Bit-streams -/

/-- The operands of a chunk: OFFSET, flags. -/
def chunkAt (off flags : Nat) : List Byte := leBytes 4 off ++ leBytes 1 flags

/-- A first chunk of `n` bytes that names TOTAL_LEN. -/
def chunk' (n total : Nat) : List Byte := List.replicate 12 0 ++ leBytes 4 total ++ List.replicate (n - 16) 0

/-- The last chunk of a whole stream: 508 bytes and their CRC-32C. -/
def wholeStream : List Byte := chunk' 508 512 ++ leBytes 4 (crc32c (chunk' 508 512))

/-- A stage that receives, `n` bytes of 512 so far. -/
def receiving (n : Nat) : State :=
  let s := (calm.setFld CFG_STATUS.STAGE sgReceiving).setFld CFG_STAGED_LEN.LEN n
  { s with cfg := { s.cfg with total := 512 } }

theorem test_meets_Staging :
    (started' calm 0x0201 (chunkAt 0 1) (chunk' 512 1024)).awake = true ∧
    (let s := started' calm 0x0201 (chunkAt 0 1) (chunk' 512 1024)
     let c := cmdFor 0x0201 .started (chunkAt 0 1) 512
     s.cmd 0 7 0x0201 = some c ∧ (s.payload c).length = 512 ∧ leAt (s.payload c) 12 4 = 1024 ∧ 1024 ≤ s.stageArea.2.2 ∧
       s.stageBusy = false) ∧
    (calm.setFld CFG_STATUS.STAGE sgPending).stageBusy = true ∧
    leAt (chunk' 512 (64 * mib + 1)) 12 4 = 64 * mib + 1 ∧ calm.stage ≠ sgReceiving ∧ (receiving 256).stage = sgReceiving ∧
    (receiving 256).fld CFG_STAGED_LEN.LEN = 256 ∧ (receiving 256).stageBusy = false ∧ 256 + 256 ≤ 512 ∧
    ((receiving 256).putStage 256 (List.replicate 256 0)).fld CFG_STAGED_LEN.LEN = 512 ∧
    trailerOk wholeStream = true ∧ trailerOk (chunk' 512 512) = false ∧ (calm.putStage 0 wholeStream).staged = wholeStream ∧
    (started calm 0x0202 [0]).cmd 0 7 0x0202 = some (cmdFor 0x0202 .started [0]) ∧
    (started calm 0x0203 []).cmd 0 7 0x0203 = some (cmdFor 0x0203 .started []) ∧
    calm.stage ≠ sgComplete ∧ (calm.setFld CFG_STATUS.STAGE sgComplete).stage = sgComplete ∧
    (∀ op ∈ [0x0201, 0x0202, 0x0203, 0x0204, 0x0205], calm.cmd 0 7 op = none) ∧
    (let s : State := { calm.setFld CFG_STATUS.STAGE sgVerifying with cfg := { calm.cfg with verify := some (0, 1) } }
     s.stage = sgVerifying ∧ s.cfg.verify = some (0, 1) ∧ s.stage ≠ sgComplete ∧ (cmdFor 0x0203 .started []).id = 1) := by decide +kernel

/-- A stage in a state, with a stream in force of another role outside P2 Dark where `role`. -/
def staged' (st : Nat) (role : Bool) : State :=
  ((calm.setFld CFG_STATUS.STAGE st).setFlag CFG_STATUS.IN_FORCE role).setFld CFG_STATUS.ROLE 1

theorem test_meets_ApplyingAndSvn :
    (started calm 0x0204 []).awake = true ∧
    (started calm 0x0204 []).cmd 0 7 0x0204 = some (cmdFor 0x0204 .started []) ∧ calm.stage ≠ sgVerified ∧
    (staged' sgVerified true).stage = sgVerified ∧ (staged' sgVerified true).roleBlocked = true ∧
    (staged' sgVerified false).roleBlocked = false ∧
    (let s := staged' sgPending false
     s.cadence = false ∧ s.restarting = false ∧ s.stage = sgPending ∧ s.cfg.startAt = none) ∧
    (∀ t ∈ [t0, t0 + 1], (let s : State := { staged' sgPending false with cfg := { calm.cfg with startAt := some t } }
      s.cfg.startAt = some t ∧ s.now = t0)) ∧
    (started (calm.setFld CFG_SVN.CUR 3) 0x0205 [3]).cmd 0 7 0x0205 = some (cmdFor 0x0205 .started [3]) ∧
    (cmdFor 0x0205 .started [3]).opnd 32 1 = 3 ∧ (calm.setFld CFG_SVN.CUR 3).fld CFG_SVN.CUR = 3 ∧ calm.fuses.svn ≤ 3 ∧
    (calm.setFld CFG_SVN.CUR 2).fld CFG_SVN.CUR < 3 ∧
    (let s : State := { calm with cfg := { calm.cfg with auto := true } }
     s.cfg.auto = true ∧ s.assist 1 = false ∧ s.restarting = false ∧ s.flag CFG_STATUS.IN_FORCE = false ∧ s.stageBusy = false ∧
       s.fld FWU_STATUS.ACTIVE = 0 ∧ (s.setFld FWU_STATUS.ACTIVE 1).fld FWU_STATUS.ACTIVE ≠ 0) ∧
    (assisted 1).assist 1 = true ∧
    (staged' sgPending true).roleBlocked = true ∧ (staged' sgPending true).cfg.apply = none ∧
    (staged' sgPending false).stopAll [0x0204] = staged' sgPending false ∧ (staged' sgPending false).loadDue true = true ∧
    (let c := { cmdFor 0x0204 .running [] with aborts := [(0, 2)] }
     let s : State := { staged' sgPending false with cfg := { (staged' sgPending false).cfg with apply := some (0, 1) } }
     ((withCmd s c).stopAll [0x0204]).loadDue true = false) := by decide +kernel

/-! ### Sources, encoders, decoders -/

/-- 1080p at 60 on 3G-SDI, and the same interlaced. -/
def fmt60 (scan : Nat) : SdiFormat := ⟨1, 1920, 1080, 60, false, false, false, scan⟩

/-- Receiver 0 enabled with ANC, in lock or not. -/
def receiver (lock : Bool) : State :=
  (calm.setWord (ING_SDI_CFG.EN.addr 0) 9).setFlag ING_SDI_STATUS.LOCK lock 0

/-- A source frame of one row of two pixels, its rows as received. -/
def rowFrame (rows : Sparse (List (Option Nat))) (closed : Bool) : SrcFrame := ⟨0, t0, 2, 1, false, false, false, false, 0, rows, closed, false⟩

/-- A device with source `i` at a frame. -/
def sourced' (i : Nat) (f : SrcFrame) : State :=
  calm.setSource i { calm.source i with fmt := some (fmt60 0), frames := [f], reported := false, period := 100, lastSeen := t0 - 200 }

theorem test_meets_SdiSources :
    (∀ l ∈ [true, false], (receiver l).awake = true ∧ bits ((receiver l).sdiWord 0) 0 1 = 1 ∧ bits ((receiver l).sdiWord 0) 3 1 = 1 ∧
      (receiver l).flag ING_SDI_STATUS.LOCK 0 = l) ∧
    (receiver false).sdiSource 0 = 0 ∧ (receiver false).quadOf 0 = false ∧ sdiSupported (fmt60 0) false = true ∧ (fmt60 2).scan = 2 ∧
    sdiSupported (fmt60 1) false = false ∧ (fmt60 1).scan ≠ 2 ∧
    bits (calm.sdiWord 5) 0 1 = 0 ∧ calm.flag ING_SDI_STATUS.LOCK 5 = false ∧
    (calm.source 3).fmt = none ∧ ((sourced' 0 (rowFrame [] false)).source 0).fmt = some (fmt60 0) ∧
    (calm.source 33).frames = [] ∧ ((sourced' 33 (rowFrame [] false)).source 33).frames = [rowFrame [] false] ∧
    ((sourced' 33 (rowFrame [] false)).source 33).reported = false ∧
    (((calm.setIngLayer 7 { calm.ingLayer 7 with word := 2 + 256 * 1 }).setFld ING_CADENCE.LAYER 7).ingLayer 7).source = some 33 ∧
    (rowFrame [(0, [some 1, some 2, some 3, some 4, some 5, some 6])] true).full' = true ∧
    (rowFrame [(0, [some 1, none, some 3, some 4, some 5, some 6])] true).full' = false ∧
    (rowFrame [] true).whole = false ∧ (rowFrame [] true).closed = true := by decide +kernel

/-- Ethernet port 2 enabled; flow 5 on it takes 239.1.1.1, UDP 5000, payload type 96. -/
def flowing : State :=
  let s := (calm.setFlag ING_ETH_CFG.EN true 2).setWord (ING_FLOW_CFG.EN.addr 5) (1 + 2 * 2 + 256 * 96)
  let s := (s.setWord (ING_FLOW_DST.DST_IP.addr 5) 0xEF010101).setWord (ING_FLOW_PORT.UDP.addr 5) 5000
  let s := (s.setFld ING_FLOW_SIZE.WIDTH 16 5).setFld ING_FLOW_SIZE.HEIGHT 16 5
  s.setWord (ING_ETH_IP.IP.addr 2) 0x0A000001

/-- A packet of that flow. -/
def flowPacket (fields : Bool) : EthPacket := ⟨false, false, 0xEF010101, 7, 5000, 96, true, 77, fields, [(0, 0, [1, 2, 3, 4])]⟩

/-- A PTP message of domain 127. -/
def ptp (kind : PtpKind) (seq : BitVec 16) : PtpMsg := ⟨kind, 127, seq, 1000, 0⟩

theorem test_meets_NetworkSources :
    flowing.awake = true ∧ bits (flowing.ethWord 2) 0 1 = 1 ∧ bits (flowing.ethWord 3) 0 1 = 0 ∧
    (∀ k < 64, flowing.flowTakes 2 { flowPacket false with pt := 97 } k = false) ∧
    flowing.flowTakes 2 (flowPacket false) 5 = true ∧ (flowing.source 37).refused = false ∧ (flowing.source 37).frames = [] ∧
    ((flowing.setSource 37 { flowing.source 37 with refused := true }).source 37).refused = true ∧
    (∀ time ∈ [76, 77, 78], (let s := flowing.setSource 37 { flowing.source 37 with frames := [{ rowFrame [] false with time := time }] }
      (s.source 37).frames = [{ rowFrame [] false with time := time }] ∧
        (0 < sInt 32 (uNat 32 (((flowPacket false).time.toNat : Int) - time)) ↔ time = 76))) ∧
    (∀ ago ∈ [199, 200], (let s := flowing.setSource 37 { flowing.source 37 with period := 100, lastSeen := t0 - ago }
      0 < (s.source 37).period ∧ (s.source 37).lastSeen + 2 * (s.source 37).period + ago = s.clock + 200)) ∧
    (flowing.source 37).period = 0 ∧
    flowing.restarting = false ∧ flowing.assist 3 = false ∧ flowing.flag ING_FLOW_CFG.EN 5 = true ∧ 5 ∉ flowing.ing.joined ∧
    flowing.flag ING_FLOW_CFG.EN 6 = false ∧
    (let s : State := { flowing with ing := { flowing.ing with joined := [6] } }
     6 ∈ s.ing.joined) ∧
    flowing.flag ING_FLOW_CFG.EN 6 = decide (6 ∈ flowing.ing.joined) ∧ (assisted 3).assist 3 = true ∧
    flowing.flag ING_ETH_CFG.EN 2 = true ∧ 0x0A000001 = flowing.fld ING_ETH_IP.IP 2 ∧ 0x0A000001 ≠ 0 ∧ 1 ≠ flowing.fld ING_ETH_IP.IP 2 ∧
    flowing.ing.trip = none ∧ (ptp .followUp 9).domain = 127 ∧ { ptp .followUp 9 with domain := 0 }.domain ≠ 127 ∧
    (let s := after (.ptpMessage 2 (ptp (.sync true) 9)) flowing
     s.ing.trip.any (fun x => x.port = 2 && x.seq = 9 && x.t1.isNone) = true) ∧
    (let s := after (.ptpMessage 2 (ptp (.sync false) 9)) flowing
     s.ing.trip.any (fun x => x.port = 2 && x.req = 0 && x.t1.isSome && x.t3.isSome) = true) ∧
    flowing.ing.ptpSet = false ∧ flowing.assist 4 = false ∧ (assisted 4).assist 4 = true := by decide +kernel

/-- A picture of 8 × 64 pixels that a layer encodes, its source frame in SLICE mode. -/
def picture (slice : Bool) : EncPic :=
  { cnt := 0, refc := 0, width := 8, height := 64, fresh := true, intra := true, phase := 0
    src := some { rowFrame [] false with height := 64, stamp := t0 - 1000000 }, before := none, scale := [], slice := slice, torn := []
    forced := [], fixed := true, set' := [0, 0, 0, 0, 0, 0, 0], host := none }

/-- An abutment with an ENC bay whose layer 0 encodes that picture, column 0 at row 1. -/
def encoding (slice : Bool) : State :=
  let s := (bayed calm 2).setIngLayer 0 { calm.ingLayer 0 with word := 0xFF0000 + 1 }
  let s := s.setEncLayer 0 { calm.encLayer 0 with on := true, pic := some (picture slice), size := (8, 64) }
  s.setEncStream 0 { calm.encStream 0 with row := 1 }

/-- A slice of two blocks in its encoder. -/
def slice' : EncSlice :=
  { pic := picture false, idx := 0, row := 0, n := 2, qp := 20, cap := 1000, fill := 0, bkt := 0, intra := false, must := false, kind := 0
    bytes := [], enc := 0, blocks := none, after := none }

theorem test_meets_EncoderRows :
    (encoding false).awake = true ∧ ((encoding false).encLayer 0).pic = some (picture false) ∧ (picture false).slice = false ∧
    (calm.encLayer 0).pic = none ∧ (picture false).fixed = true ∧ (encoding false).freeEncoder = some 0 ∧ calm.freeEncoder = none ∧
    0 < colsOf (picture false).width ∧ ((encoding false).encStream 0).row = 1 ∧ 1 < rowsOf (picture false).height ∧
    rowsReady (picture false) 1 0 = true ∧ ((encoding false).encStream 0).recordKnown (picture false) 1 = true ∧
    ((encoding false).encStream 0).base = some 0 ∧
    ({ (encoding false).encStream 0 with count := 8, slices := List.replicate 8 slice' } : EncStream).base = none ∧
    (let s := (encoding false).setEncStream 0 { calm.encStream 0 with slices := [slice'] }
     (s.encStream 0).slices.findIdx? (fun e => decide (e.row = 0) && e.coding) = some 0 ∧ (s.encStream 0).slices[0]? = some slice' ∧
       [[true], [true]].length = slice'.n ∧ slice'.intra = false ∧ blocksObey (slice'.hdr 0) ⟨[], 0, 0, 0, false⟩ [[true], [true]] = true ∧
       s.workLost 0 [5] = [] ∧ blocksObey (slice'.hdr 0) ⟨[], 0, 0, 0, false⟩ [[false], [true]] = false) ∧
    (∀ e ∈ ((encoding false).encStream 0).slices, e.row = 0 → e.coding = false) ∧
    (let s := { encoding false with cfg := { (encoding false).cfg with parts := [⟨pkWork, true, 0, 0, 16⟩] } }
     s.workLost 0 [5] = [5]) ∧
    (let s := (encoding false).setEncLayer 0 { calm.encLayer 0 with waiting := some (picture false) }
     (s.encLayer 0).waiting = some (picture false) ∧ rowsReady (s.freshSrc 0 (picture false)) 0 0 = true ∧
       rowsReady (s.freshSrc 0 (picture true)) 0 31 = false) ∧ ((encoding false).encLayer 0).waiting = none ∧
    ((encoding true).ingLayer 0).source = some 0 ∧ ((encoding true).encLayer 0).pic = some (picture true) ∧ 1 < rowsOf (picture true).height ∧
    (picture true).torn = [] ∧ { picture true with torn := [(0, [])] }.torn ≠ [] ∧ (calm.ingLayer 0).source = none ∧
    { picture true with src := none }.src = none ∧
    t0 - 1000000 + (1 + 1) * ((encoding true).source 0).period / rowsOf 64 + (encoding true).fld ENC_GLOBAL.SLICE_WAIT * us ≤
      (encoding true).now ∧
    rowsReady ((encoding true).freshSrc 0 (picture true)) 1 63 = false ∧ calm.takeMsg 0x0B = none ∧
    reaches (encoding false) 0x0B [0, 0, 0, 0, 0] = true ∧ reaches (encoding false) 0x0B [0] = true ∧
    (calm.encLayer 0).on = false ∧ ((encoding false).encLayer 0).on = true ∧ 0 < (encoding false).layerCols 0 ∧
    (encoding false).assist 5 = false ∧ (assisted 5).assist 5 = true ∧ 0 ∉ (calm.encLayer 0).told ∧
    (started calm 0x0601 [0]).cmd 0 7 0x0601 = some (cmdFor 0x0601 .started [0]) ∧
    calm.flag ENC_LAYER_CFG.EN 0 = false ∧ (calm.setFlag ENC_LAYER_CFG.EN true 0).flag ENC_LAYER_CFG.EN 0 = true ∧
    (∀ m ∈ [0, 1], ((List.range ((encoding false).layerCols 0)).filter fun k => bits m k 1 = 1).length = m) ∧
    (∀ op ∈ [0x0301, 0x0601, 0x0C01], calm.cmd 0 7 op = none) ∧
    (started calm 0x0301 [0]).cmd 0 7 0x0301 = some (cmdFor 0x0301 .started [0]) ∧ (calm.ingLayer 0).play = none ∧
    (withCmd calm (cmdFor 0x0301 .running [])).cmdAt 0 1 0x0301 = some (cmdFor 0x0301 .running []) := by decide +kernel

/-- The sixteen bytes of a slice header of stream 65, picture 9, intra, row 0 of 0. -/
def hdrBytes (pic : Nat) : List Byte :=
  beBytes 2 0x4853 ++ [0x18, 0x14] ++ beBytes 2 65 ++ beBytes 2 pic ++ beBytes 2 0 ++ beBytes 2 0 ++ beBytes 2 0 ++ [0, 0]

/-- A context of stream 65 open from node 9, and a slice in it. -/
def contexted (running : Bool) : State :=
  let s := (bayed calm 1).setCtx 4 { Ctx.free with state := cxRun, stream := 65, w := 256, h := 32, src := some 9,
                                                   ep := some ⟨1, 3, 1, true, false, false, 0, none⟩ }
  { s with dec := { s.dec with slices := [⟨4, hdrBytes 9, running, 0⟩] } }

theorem test_meets_DecoderRows :
    calm.awake = true ∧ calm.freeDecoder = none ∧ nextSlice [] calm.dec.slices = none ∧ (contexted false).freeDecoder = some 0 ∧
    nextSlice [] (contexted false).dec.slices = some 0 ∧ (contexted false).dec.slices[0]? = some ⟨4, hdrBytes 9, false, 0⟩ ∧
    (contexted true).dec.slices[0]? = some ⟨4, hdrBytes 9, true, 0⟩ ∧ ((contexted true).ctx 4).state ≠ cxFree ∧ (calm.ctx 4).state = cxFree ∧
    ((contexted true).dec.slices.take 0).any (fun z => decide (z.ctx = 4)) = false ∧
    (let s : State := { contexted true with dec := { (contexted true).dec with
                                                       slices := [⟨4, hdrBytes 8, true, 0⟩, ⟨4, hdrBytes 9, true, 0⟩] } }
     (s.dec.slices.take 1).any (fun z => decide (z.ctx = 4) &&
        decide ((parseHdr z.bytes).map (·.pic) ≠ (parseHdr (hdrBytes 9)).map (·.pic))) = true) ∧
    parseHdr [0] = none ∧
    (parseHdr (hdrBytes 9)).any (fun h => h.headerOk && decide (h.stream = 65) && ! ((contexted true).ctx 4).stale h) = true ∧
    (parseHdr (1 :: hdrBytes 9)).any (fun h => h.headerOk) = false ∧
    (parseHdr (hdrBytes 9)).any (fun h => decide (h.stream ≠ (calm.ctx 3).stream)) = true ∧
    (parseHdr (hdrBytes 9)).any (fun h =>
      ({ (contexted true).ctx 4 with held := some ⟨12, 0, 0, 0, none, false, [], []⟩ } : Ctx).stale h) = true ∧
    (parseHdr (hdrBytes 9)).any (fun h => ({ (contexted true).ctx 4 with h := 0 } : Ctx).geometry h) = false ∧
    (started (contexted true) 0x0C01 [65]).cmd 0 7 0x0C01 = some (cmdFor 0x0C01 .started [65]) ∧
    (contexted true).ctxOf 64 = none ∧ (contexted true).ctxOf 65 = some (4, (contexted true).ctx 4) ∧
    ((contexted true).ctx 4).src = some 9 ∧ ((contexted true).ctx 4).ep.isSome = true ∧
    (let s := (contexted true).setCtx 4 { (contexted true).ctx 4 with src := none }
     (s.ctxOf 65).map (fun y => y.2.src) = some none) := by decide +kernel

/-! ### Span links -/

/-- A step of the rate ladder on port 3 at rate 1. -/
def stepOf (eye vote far : Option Bool) (fallback : Bool) (ago : Nat := 0) : Step := ⟨1, t0 - ago, eye, vote, far, none, fallback⟩

/-- Port 3 in STEP with a step in progress, the agreed top at `top`. -/
def stepping (top : Nat) (x : Step) : State :=
  let s := (linked spStep).setFld SPN_LADDER.TOP top 3
  s.setPort 3 { s.port 3 with step := some x }

/-- Lanes 8 and 9 with clock and block lock. -/
def lockedOn (s : State) (block : Bool) : State :=
  ((((s.setFlag LNE_STATUS.CDR_LOCK true 8).setFlag LNE_STATUS.CDR_LOCK true 9).setFlag LNE_STATUS.BLOCK_LOCK block 8).setFlag
    LNE_STATUS.BLOCK_LOCK block 9)

/-- Two lanes that see 64 valid headers, their MARKERs `apart` blocks apart. -/
def lanesIn (apart : Nat) : List LaneIn := [⟨List.replicate 64 1, 0⟩, ⟨List.replicate 64 2, apart⟩]

/-- The bytes that a line carries as a whole plank, and whether it is a good one. -/
def wholeIn (bs : List Block) : Bool := (plankIn bs).any fun x => crcGood x.1 x.2 && ! plankFault x.1 x.2

/-- The line of a STEP plank. -/
def stepLine (op rate arg : Nat) (taps : List Nat) : List Block := lineOf (.stepPlank 3 op rate arg taps (stepCrc op rate arg taps))

/-- The line of a CAP plank of the far end. -/
def capLine : List Block :=
  let c : CapInfo := ⟨0x7240, 1, 1, 2, false, false, true, 5, 9⟩
  lineOf (.capPlank 3 c (capCrc c))

/-- What a line says, from its bytes. -/
def saying (bs : List Block) (f : List Byte → Bool) : Bool := (plankIn bs).any fun x => f x.2

theorem test_meets_LineCodes :
    (List.replicate 276 (0 : Byte)).length = 276 ∧ blockCtl idleBlock ≠ some markerType ∧ headOk 0 = false ∧ headOk 2 = true ∧
    plankLine false (List.replicate 20 1) = (plankLine false (List.replicate 20 1)).take 1 ++ (plankLine false (List.replicate 20 1)).drop 1 ∧
    (plank 1).typ < 16 ∧ (plank 1).payload.length ≤ 256 := by decide +kernel

theorem test_meets_SpanBringUp_clock :
    (linked spDetect).awake = true ∧ (linked spDetect).fld SPN_STATUS.STATE 3 = spDetect ∧ ((linked spDetect).binding 3).width ≠ 0 ∧
    ((stepping 1 (stepOf none none none false)).port 3).step.isSome = true ∧ ((linked spStep).port 3).step = none ∧
    (lanesIn 64).length = (linked spLock).laneCount 3 ∧ aligned (lanesIn 64) = true ∧ aligned (lanesIn 65) = false ∧
    (lanesIn 0).all (fun l => locks l.heads) = true ∧
    (∀ i ∈ (linked spLock).lanes 3, (lockedOn (linked spLock) false).flag LNE_STATUS.CDR_LOCK i = true) ∧
    (∃ i ∈ (linked spLock).lanes 3, (linked spLock).flag LNE_STATUS.CDR_LOCK i = false) ∧
    (lockedOn (linked spLock) true).allBlockLock 3 = true ∧ (lockedOn (linked spLock) false).allBlockLock 3 = false ∧
    (linked spLock).fld SPN_STATUS.STATE 3 = spLock ∧ (stepOf none none none false).rate ≠ 0 ∧
    unlocks (List.replicate 16 0) = true ∧ unlocks (List.replicate 15 0) = false ∧
    (lockedOn (linked spanUp) true).flag LNE_STATUS.BLOCK_LOCK 9 = true ∧ (linked spanUp).flag LNE_STATUS.BLOCK_LOCK 9 = false ∧
    (linked spanUp).activePort 9 = some 3 ∧ (linked spanUp).activePort 10 = none ∧ (linked spanUp).portUp 3 = true ∧
    ((linked spStep).activePort 8 = some 3 ∧ (linked spStep).fld SPN_STATUS.RATE 3 = 0 ∧ (linked spStep).portUp 3 = false) ∧
    (∀ st ∈ [spDetect, spLock, spCap], (linked st (2 * ms + 1)).fld SPN_STATUS.STATE 3 = st ∧
      ((linked st (2 * ms + 1)).port 3).since + 2 * ms < calm.clock ∧ calm.clock ≤ ((linked st (2 * ms)).port 3).since + 2 * ms) ∧
    (linked spWait).fld SPN_STATUS.STATE 3 = spWait ∧ ((linked spWait (10 * ms)).port 3).since + 10 * ms ≤ calm.clock ∧
    calm.clock < ((linked spWait (10 * ms - 1)).port 3).since + 10 * ms ∧
    (linked spCap).fld SPN_STATUS.STATE 3 = spCap ∧ ((linked spCap).port 3).lastCap = none ∧
    (∀ t ∈ [t0 - 10 * us, t0 - 10 * us + 1],
      (((linked spCap).setPort 3 { calm.port 3 with lastCap := some t }).port 3).lastCap = some t ∧ (linked spCap).clock = t0) := by
  decide +kernel

theorem test_meets_SpanBringUp_planks :
    wholeIn capLine = true ∧ saying capLine (fun bs => decide ((plankOf bs).typ = 4)) = true ∧
    wholeIn (stepLine 1 1 0 [0, 0, 0, 0, 0]) = true ∧
    saying (stepLine 1 1 0 [0, 0, 0, 0, 0]) (fun bs => decide ((plankOf bs).typ = 5 ∧ beAt bs 1 1 = 1 ∧ beAt bs 2 1 = 1)) = true ∧
    (let s := (linked spStep).setFld SPN_LADDER.TOP 1 3
     let s := s.setPort 3 { s.port 3 with proposed := true }
     (s.port 3).proposed = true ∧ (s.port 3).step = none ∧ s.fld SPN_STATUS.RATE 3 = 0 ∧ 0 < s.fld SPN_LADDER.TOP 3) ∧
    (calm.port 3).proposed = false ∧
    (∀ x ∈ [([6, 16, 24, 14, 4], true), ([7, 15, 24, 14, 4], false)], wholeIn (stepLine 3 0 1 x.1) = true ∧
      saying (stepLine 3 0 1 x.1) (fun bs => decide (beAt bs 1 1 = 3 ∧ beAt bs 3 1 = 1 ∧ tapsOk (tapsAt bs) = x.2)) = true) ∧
    1 < (linked spStep).laneCount 3 ∧ (linked spStep).flag LNE_CFG.TX_MANUAL 9 = false ∧
    ((linked spStep).setFlag LNE_CFG.TX_MANUAL true 9).flag LNE_CFG.TX_MANUAL 9 = true ∧
    (∀ r ∈ [1, 2], wholeIn (stepLine 2 r 1 [0, 0, 0, 0, 0]) = true ∧
      saying (stepLine 2 r 1 [0, 0, 0, 0, 0]) (fun bs => decide (beAt bs 1 1 = 2 ∧ beAt bs 2 1 = r)) = true) ∧
    ((stepping 1 (stepOf none none none false)).port 3).step = some (stepOf none none none false) ∧
    (lockedOn (stepping 1 (stepOf none none none false)) true).allBlockLock 3 = true ∧ (stepOf (some true) none none false).eye ≠ none ∧
    (linked spStep).assist 7 = false ∧ (assisted 7).assist 7 = true ∧
    (stepOf none none none false (6 * ms)).since + 6 * ms ≤ calm.clock ∧
    calm.clock < (stepOf none none none false (6 * ms - 1)).since + 6 * ms := by decide +kernel

/-- Port 3 in DETECT with EN set. -/
def enabled : State := (linked spDetect).setFlag SPN_CFG.EN true 3

/-- The state after the word of SPN_CFG[3] is stored, EN as it was. -/
def enStored (s : State) (v : Nat) : State :=
  match regAt (SPN_CFG.EN.addr 3) with
  | some r => s.writePlain r.1 (SPN_CFG.EN.addr 3) (insertBits v 0 2 (bits (s.cur (SPN_CFG.EN.addr 3)).toNat 0 1))
  | none => s

theorem test_meets_SpanControl :
    calm.awake = true ∧ calm.pathOpen .pcie = true ∧ (∀ k ∈ [0, 15], (regAt (SPN_CFG.EN.addr k)).any (fun r => r.2.1 = k && ! r.2.2) = true) ∧
    ((enStored (linked spDisabled) 1).binding 3).width ≠ 0 ∧ (enStored (linked spDisabled) 1).flag SPN_CFG.EN 3 = false ∧
    ((enStored (linked spDisabled) 1).setFlag SPN_CFG.EN true 3).fld SPN_STATUS.STATE 3 ≠ spBypass ∧
    (enStored (linked spDisabled) 0).flag SPN_CFG.EN 3 = false ∧ (enStored enabled 0).flag SPN_CFG.EN 3 = true ∧
    ((enStored enabled 0).setFlag SPN_CFG.EN false 3).fld SPN_STATUS.STATE 3 ≠ spBypass ∧ (unbound.binding 3).width = 0 ∧
    (let v := insertBits (enabled.word (SPN_CFG.EN.addr 3) SPN_CFG.EN.rst).toNat 1 1 1
     let w := enStored enabled v
     w.flag SPN_CFG.EN 3 = decide (bits v 0 1 = 1) ∧ w.fld SPN_STATUS.STATE 3 ≠ spDisabled ∧ w.fld SPN_STATUS.STATE 3 ≠ spBypass) ∧
    bits 1 1 1 = 0 ∧ bits 2 1 1 = 1 ∧ bits 0x1000000 24 1 = 1 ∧ bits 0 24 1 = 0 ∧
    (∀ l ∈ [0, 127], (regAt (LNE_INJ.ONE.addr l)).any (fun r => r.2.1 = l && ! r.2.2) = true ∧
      (regAt (LNE_EYE_CTRL.START.addr l)).any (fun r => r.2.1 = l && ! r.2.2) = true) := by decide +kernel

theorem test_meets_SpanControl_rows :
    calm.cmd 0 7 0x0901 = none ∧ (started calm 0x0901 [3]).cmd 0 7 0x0901 = some (cmdFor 0x0901 .started [3]) ∧
    (let s := (linked spanUp).setFlag SPN_CFG.EN true 3
     (s.binding 3).width ≠ 0 ∧ s.flag SPN_CFG.EN 3 = true ∧ s.fld SPN_STATUS.STATE 3 ≠ spBypass) ∧
    (linked spBypass).fld SPN_STATUS.STATE 3 = spBypass ∧
    (let s := (calm.setFlag LNE_CFG.PRBS_CHK true 9).setFld LNE_CFG.PRBS_SEL 2 9
     s.flag LNE_CFG.PRBS_CHK 9 = true ∧ prbsTaps (s.fld LNE_CFG.PRBS_SEL 9) = some (9, 5)) ∧
    calm.flag LNE_CFG.PRBS_CHK 9 = false ∧ prbsTaps (calm.fld LNE_CFG.PRBS_SEL 9) = none ∧
    ((calm.setLane 9 { LaneSt.reset with scanning := true }).lane 9).scanning = true ∧ (calm.lane 9).scanning = false ∧
    ((calm.setLane 9 { LaneSt.reset with waiting := true }).lane 9).waiting = true ∧ calm.eyeBusy 9 = false ∧
    (stepping 1 (stepOf none none none false)).eyeBusy 9 = true ∧
    (calm.setFld LNE_STATUS.RATE 6 9).fld LNE_STATUS.RATE 9 = 6 ∧ calm.fld LNE_STATUS.RATE 9 ≠ 6 ∧
    (unbound.bump LNE_FEC.UNCORR 9).activePort 9 = none ∧ ((linked spanUp).bump LNE_FEC.UNCORR 9).activePort 9 = some 3 ∧
    ((linked spanUp).bump LNE_FEC.UNCORR 9).portUp 3 = true ∧ ((linked spWait).bump LNE_FEC.UNCORR 9).portUp 3 = false ∧
    (∀ n ∈ [7, 8], (let u := ((linked spanUp).setPort 3 { calm.port 3 with uncorrAt := List.replicate n (t0 - 5) }).bump LNE_FEC.UNCORR 9
      (((u.port 3).uncorrAt.filter fun t => u.clock ≤ t + ms) ++ [u.clock]).length = n + 1)) ∧
    State.reset.span.stopped ≠ none ∧ ({ calm with span := { calm.span with stopped := none } } : State).span.stopped = none ∧
    (∀ ago ∈ [0, 100 * us], (let s : State := { ticking 0 with span := { calm.span with stopped := some (t0 - ago) } }
      s.span.bypass = false ∧ s.fld PWR_STATE.STATE ≠ 4 ∧ s.span.stopped = some (t0 - ago) ∧ s.clock = t0 ∧ s.clocked = true)) ∧
    calm.clocked = false ∧ (calm.setFld PWR_STATE.STATE 3).fld PWR_STATE.STATE = 3 ∧
    (∀ ago ∈ [10 * ms - 1, 10 * ms], (let s : State := { calm with span := { calm.span with stopped := none, running := t0 - ago, bypass := true } }
      s.span.bypass = true ∧ s.span.stopped = none ∧ s.fld PWR_STATE.STATE ≠ 3 ∧ s.clock = t0)) := by decide +kernel

/-- A codeword of zeros with `n` symbols wrong is correctable up to 15. -/
theorem test_meets_SpanControl_codeword : corrected ((List.replicate 544 (0 : BitVec 10)).map (·.toNat)) = some 0 := by decide +kernel

/-- Port 3 in UP with a sender's state of VC0 and VC1. -/
def sending (tx0 tx1 : TxVc) : State :=
  (linked spanUp).setPort 3 { calm.port 3 with tx0 := tx0, tx1 := tx1 }

/-- A LINK plank that says nothing new. -/
def quiet : LinkPlank := ⟨false, false, 0, 0, 0, 0, 0, 0, 0⟩

/-- Its line. -/
def quietLine : List Block := lineOf (.linkPlank 3 quiet (linkCrc quiet))

/-- A plank of VC0 that waits. -/
def item (ago : Nat) (kept : Bool) : TxItem := ⟨plank 0, none, t0 - ago, kept⟩

theorem test_meets_Planks :
    (linked spanUp).awake = true ∧ (linked spanUp).portUp 3 = true ∧ (linked spWait).fld SPN_STATUS.STATE 3 ∉ [spCap, spStep, spanUp] ∧
    plankIn [] = none ∧ (plankIn (lineOf (.dataPlank 3 (plank 0) 0))).any (fun x => crcGood x.1 x.2) = false ∧
    (plankIn (lineOf (.dataPlank 3 { plank 0 with rsv := 1 } (plankCrc { plank 0 with rsv := 1 })))).any
      (fun x => crcGood x.1 x.2 && plankFault x.1 x.2) = true ∧
    (let s := (linked spanUp).setPort 3 { calm.port 3 with timeDue := true, sinceTime := 31 }
     (s.port 3).timeDue = true ∧ 31 ≤ (s.port 3).sinceTime) ∧
    ((linked spanUp).port 3).timeDue = false ∧ ((linked spanUp).port 3).linkDue = false ∧
    (((linked spanUp).setPort 3 { calm.port 3 with linkDue := true }).port 3).linkDue = true ∧
    (((linked spanUp).setPort 3 { calm.port 3 with control := [.wakePlank 3 5 9] }).port 3).control = [.wakePlank 3 5 9] ∧
    ((linked spanUp).port 3).control = [] ∧ (linked spanUp).nextVc 3 = none ∧
    ((sending { TxVc.reset with queue := [item 0 false] } TxVc.reset).setFld SPN_CREDIT_A.CR0 4 3).nextVc 3 = some 0 ∧
    (∀ vc ∈ [0, 1, 2], wholeIn (planked vc) = true ∧ saying (planked vc) (fun bs => decide ((plankOf bs).typ = 1 ∧ (plankOf bs).vc = vc ∧
      (plankOf bs).lseq = (((linked spanUp).port 3).rx vc).expect ∧ (plankOf bs).stream ≠ 0xFFF)) = true) ∧
    wholeIn (planked 1 0xFFF) = true ∧ saying (planked 1 0xFFF) (fun bs => decide ((plankOf bs).stream = 0xFFF)) = true ∧
    (plank 0).lseq ≠ (({ (linked spanUp).port 3 with rx0 := { RxVc.reset with expect := 1 } } : PortSt).rx 0).expect ∧
    wholeIn quietLine = true ∧ saying quietLine (fun bs => decide ((plankOf bs).typ = 2)) = true ∧
    (let s := sending { TxVc.reset with unacked := [plank 0], progress := 0, timeouts := 2 } TxVc.reset
     s.portUp 3 = true ∧ ((s.port 3).tx 0).unacked ≠ [] ∧ ((s.port 3).tx 0).progress + s.fld SPN_CFG.REPLAY_TO 3 * us ≤ s.clock ∧
       (((s.startReplay 3 0).port 3).tx 0).timeouts < 3) ∧
    3 ≤ ({ TxVc.reset with timeouts := 3 } : TxVc).timeouts ∧ (((linked spanUp).port 3).tx 2).unacked = [] ∧
    (∀ st ∈ [true, false], (let s := (sending TxVc.reset { TxVc.reset with queue := [⟨plank 1, none, 0, false⟩] }).setFld SPN_CREDIT_A.CR1 0 3
      let s := s.setPort 3 { s.port 3 with stalling := st }
      (s.port 3).tx1.queue = [⟨plank 1, none, 0, false⟩] ∧ s.fld SPN_CREDIT_A.CR1 3 = 0 ∧ (s.port 3).stalling = st ∧
        0 + s.fld SPN_CFG.VC1_STALL 3 * 4 * us < s.clock)) ∧ ((linked spanUp).port 3).tx1.queue = [] ∧
    (∀ ago ∈ [ms - 1, ms], (let s := portIn (sending { TxVc.reset with queue := [item 0 true, item ago false] } TxVc.reset) 3 spWait
      s.portUp 3 = false ∧ ((s.port 3).tx 0).queue.find? (fun i => ! i.kept) = some (item ago false) ∧ s.clock = t0)) ∧
    ([item 0 true].find? fun i => ! i.kept) = none := by decide +kernel


/-! ### The viaduct and wall time -/

/-- A master at node 7 of whose search the wait of SETTLE began `ago` ticks before, with one device mapped. -/
def master (ago : Nat := 0) : State :=
  let s := (calm.setFlag VIA_CFG.MASTER true).setFld VIA_SELF.ADDR 7
  { s with via := { s.via with searching := true, quietAt := t0 - ago, nodes := [⟨77, 5, 1, 7, 2, [], false, true⟩] } }

/-- A device at node 8 under master 7. -/
def proxy : State := (calm.setFld VIA_SELF.ADDR 8).setFld VIA_STATUS.MASTER 7

theorem test_meets_Discovery :
    master.awake = true ∧ master.restarting = false ∧
    reaches calm 0x01 [0, 7, 0, 0] = true ∧ calm.isMaster = false ∧ calm.self = 0 ∧
    (∀ m ∈ [6, 7, 8], reaches master 0x01 [0, m, 0, 0] = true) ∧ master.isMaster = true ∧ master.self = 7 ∧
    reaches master 0x02 (List.replicate 16 0) = true ∧ beAt (List.replicate 16 0) 14 2 = 0 ∧ proxy.isMaster = false ∧ proxy.self ≠ 0 ∧
    reaches proxy 0x03 (List.replicate 13 0) = true ∧ beAt (List.replicate 13 0) 0 8 = calm.fuses.serial ∧
    beAt ([1] ++ List.replicate 12 0) 0 8 ≠ calm.fuses.serial ∧
    reaches proxy 0x04 [1] = true ∧ reaches proxy 0x05 (List.replicate 32 0) = true ∧
    (∀ m ∈ toldOf proxy 0x05 [0], (m.2.2.respond m.2.1 [0]).isMaster = false) ∧ (∀ m ∈ toldOf master 0x05 [0], (m.2.2.respond m.2.1 [0]).isMaster = true) ∧
    reaches proxy 0x06 [0x0F, 0xFF, 0, 0, 0, 0, 0, 1] = true ∧ 4095 + 1 ≤ 4096 ∧ 4096 < 4095 + 2 ∧
    reaches proxy 0x09 [] = true ∧ master.via.searching = true ∧
    master.via.quietAt + master.fld VIA_CFG.SETTLE * ms = t0 + master.fld VIA_CFG.SETTLE * ms ∧ 0 < master.fld VIA_CFG.SETTLE ∧
    (master (master.fld VIA_CFG.SETTLE * ms)).via.quietAt + (master (master.fld VIA_CFG.SETTLE * ms)).fld VIA_CFG.SETTLE * ms ≤ calm.clock ∧
    (let s := master.setFlag FNT_STATUS.MODE_ACT true 9
     let w : State := { s.setFld VIA_STATUS.DISC 4 with via := { s.via with searching := false, settle := true } }
     w.assist 9 = true) ∧
    (∀ n ∈ [1, 2, 3, 4, 5, 6, 9, 10], calm.takeMsg n = none) ∧ State.reset.restarting = true ∧ calm.via.probed = false ∧
    (proxy.fld SPN_STATUS.PEER 3 ≠ 5 ∧ (proxy.setFld SPN_STATUS.PEER 5 3).fld SPN_STATUS.PEER 3 = 5) ∧
    (let s : State := { master.setFld VIA_STATUS.DISC 4 with via := { master.via with searching := false, moved := true } }
     s.via.moved = true ∧ s.fld VIA_STATUS.DISC = 4 ∧ s.assist 9 = false) := by decide +kernel

theorem test_meets_Discovery_commands :
    reaches calm 0x0A (List.replicate 512 0) = true ∧ (List.replicate 512 (0 : Byte)).length = 512 ∧ reaches calm 0x0A [] = true ∧
    (let s := (portIn calm 3 spanUp).setFlag VIA_PORT_CFG.SUB_EN true 3
     s.portUp 3 = true ∧ s.flag VIA_PORT_CFG.SUB_EN 3 = true ∧ Sparse.find s.via.announced 3 = none) ∧
    (started master 0x0A01 []).cmd 0 7 0x0A01 = some (cmdFor 0x0A01 .started []) ∧
    (let c := cmdFor 0x0A02 .started (List.replicate 8 0 ++ leBytes 8 77 ++ leBytes 2 9)
     (withCmd master c).cmd 0 7 0x0A02 = some c ∧ (master.via.nodes.find? (fun n => n.serial = c.opnd 40 8)).isSome = true ∧
       calm.via.nodes.find? (fun n => n.serial = c.opnd 40 8) = none ∧ master.addrHeld (c.opnd 40 8) (c.opnd 48 2) = false ∧
       master.addrHeld 77 7 = true) ∧
    (started master 0x0A04 [5]).cmd 0 7 0x0A04 = some (cmdFor 0x0A04 .started [5]) ∧
    (∀ op ∈ [0x0A01, 0x0A02, 0x0A04], calm.cmd 0 7 op = none) := by decide +kernel

/-- A message that awaits its response: a NOTIFY to node 5 with MSG_SEQ 1. -/
def awaited (tries : Nat) (typ : Nat := 0x05) : Pending := ⟨⟨0, 8, 5, 0, false, typ, 1, 0, []⟩, tries, some 0, none⟩

/-- The device at node 8 with that message and its response on port 3. -/
def answered (p : List Pending) : State :=
  { proxy with via := { proxy.via with inbox := [(3, ⟨0, 5, 8, 0, true, 0x05, 1, 0, [0]⟩)], pend := p } }

theorem test_meets_RemoteMessages :
    proxy.awake = true ∧ calm.takeMsg 0x07 = none ∧ calm.takeMsg 0x08 = none ∧ calm.cmd 0 7 0x0A03 = none ∧ calm.cmd 0 7 0x0A05 = none ∧
    State.reset.restarting = true ∧ (calm.via.inbox.find? fun e => e.2.resp) = none ∧ reaches proxy 0x07 [64] = true ∧ proxy.remoteEntry 5 = none ∧
    (let s := (proxy.setFld HIF_REMOTE_NODE.NODE 5 2).setFlag HIF_PORT_CFG.REMOTE_EN true
     s.remoteEntry 5 = some 2 ∧ s.portOn 2 = true ∧ reaches s 0x07 [64] = true ∧ beAt [64] 0 1 = 64 ∧ reaches s 0x07 [65] = true ∧
       reaches s 0x07 [0] = true ∧ beAt [65] 0 1 = 65 ∧ reaches s 0x08 (List.replicate 256 0) = true ∧
       (State.remoteWords (.remote 2) 0x100 (routeEntries 1 [0, 0, 0, 0]) s).awake = true ∧
       (State.remoteWords (.remote 2) 0x18 (routeEntries 1 [0, 0, 0x72, 0x40]) s).awake = false) ∧
    (proxy.setFld HIF_REMOTE_NODE.NODE 5 2).portOn 2 = false ∧
    (started proxy 0x0A03 []).cmd 0 7 0x0A03 = some (cmdFor 0x0A03 .started []) ∧
    (∀ w ∈ [0, 1], (started proxy 0x0A05 [5, 0, BitVec.ofNat 8 w, 1]).cmd 0 7 0x0A05 =
        some (cmdFor 0x0A05 .started [5, 0, BitVec.ofNat 8 w, 1]) ∧ (cmdFor 0x0A05 .started [5, 0, BitVec.ofNat 8 w, 1]).opnd 34 1 = w) ∧
    (answered []).restarting = false ∧ ((answered []).via.inbox.find? (fun e => e.2.resp)).isSome = true ∧
    (let mine (p : Pending) : Bool := decide (p.msg.dst = 5 ∧ p.msg.vc = 0 ∧ p.msg.seq = 1 ∧ p.msg.typ = 0x05 ∧ p.sent ≠ none)
     (answered []).via.pend.find? mine = none ∧ (answered [awaited 0]).via.pend.find? mine = some (awaited 0)) ∧
    (answered []).overdue = none ∧ (∀ n ∈ [0, 2, 3], (answered [awaited n]).overdue = some (awaited n)) ∧ fwType 0x05 = false := by decide +kernel

/-- A TIME plank of a keystone. -/
def timeOf' : TimeInfo := ⟨16 * 1048577, 0, 0, 0, 0, 5, 0, true, false, true, 0, 0, 0⟩

/-- Its line. -/
def timeLine : List Block := lineOf (.timePlank 3 5 timeOf' (plankCrc (timePlankOf 5 timeOf')))

/-- Port 3 in UP with an offer, received `ago` ticks before. -/
def offered (ago : Nat) : State :=
  let s := linked spanUp
  s.setTimePort 3 { s.timePort 3 with offer := some timeOf', offerAt := t0 - ago, rootSeqAt := t0, lastSend := t0 - ago }

theorem test_meets_WallTime :
    (linked spanUp).awake = true ∧ (linked spanUp).portUp 3 = true ∧ (linked spWait).portUp 3 = false ∧ 0 < (linked spanUp).interval ∧
    ((offered (linked spanUp).interval).timePort 3).lastSend + (linked spanUp).interval ≤ calm.clock ∧
    calm.clock < ((offered ((linked spanUp).interval - 1)).timePort 3).lastSend + (linked spanUp).interval ∧
    (∀ n ∈ [30, 31], (((linked spanUp).setPort 3 { calm.port 3 with sinceTime := n }).port 3).sinceTime = n) ∧
    (plankIn timeLine).any (fun x => crcGood x.1 x.2 && ! plankFault x.1 x.2 && decide ((plankOf x.2).typ = 3)) = true ∧
    (∀ n ∈ [55, 56], (((linked spanUp).setPort 3 { calm.port 3 with timeAt := List.replicate n t0 }).port 3).timeAt.length = n ∧
      t0 < t0 + 2 * us) ∧
    ((offered 0).timePort 3).offer.isSome = true ∧ (offered (4 * (linked spanUp).interval)).offerValid 3 = true ∧
    (offered (4 * (linked spanUp).interval + 1)).offerValid 3 = false ∧ ((linked spanUp).timePort 3).offer = none ∧
    (∀ late ∈ [0, 1], (let s := calm.setFld TIM_STATUS.STATE tmHoldover
      let s : State := { s with time := { s.time with holdSince := s.time.cycles + late - s.fld TIM_HOLD.HOLD_MAX * ms } }
      s.lock = tmHoldover ∧ s.fld TIM_HOLD.HOLD_MAX * ms ≤ t0 ∧ s.time.holdSince + s.fld TIM_HOLD.HOLD_MAX * ms = s.clock + late)) ∧
    calm.pathOpen .pcie = true ∧ calm.lock = tmFree ∧ calm.cadence = false ∧ (calm.setFld TIM_STATUS.STATE tmRoot).lock = tmRoot ∧
    (calm.setFld TIM_STATUS.STATE tmLocked).lock ≠ tmRoot ∧ (calm.setFld TIM_STATUS.STATE tmLocked).lock ≠ tmFree ∧
    (let s := (offered 0).setFlag TIM_CFG.FT_SYNC_EN true
     let s : State := { s with pins := { s.pins with ftId := 1 }, span := { s.span with bindings := [(3, ⟨8, 2, 1, true, false, 0⟩)] } }
     s.flag TIM_CFG.FT_SYNC_EN = true ∧ s.pins.ftId ≠ 0 ∧ s.footingPort = some 3 ∧ (s.timePort 3).offer = some timeOf') ∧
    calm.pins.ftId = 0 ∧ (linked spanUp).footingPort = none := by decide +kernel

/-! ### Composition, correction, strands, temperatures -/

/-- A pier with a LAYER partition of 16 pages at 0x100000 of deck, and a handle of 4 × 2 pixels of 6 bytes in slot 2. -/
def layered : State :=
  { pier with cfg := { pier.cfg with parts := [⟨pkLayer, false, 0, 256, 16⟩] },
              cmp := { pier.cmp with slots := [(2, ⟨9, 4, 2, 0, 1, 0, true, true, 0, 1, 0⟩)] } }

/-- The operands of CMD_CMP_ALLOC: NAME, width, height, format. -/
def allocOpnds (name w h : Nat) : List Byte := leBytes 4 name ++ leBytes 2 w ++ leBytes 2 h ++ [0]

/-- A parapet record of KIND 0 for every node, SEQ 1, with its signature and key. -/
def record' : List Byte :=
  leBytes 8 1 ++ leBytes 2 0xFFF ++ List.replicate 54 0 ++
  beBytes 48 0xf7cc7cf402c97acfae6073a5e2036995da4e094f6e85d5c26624385c74255a3eaa731b2e665d993c872819c3fb5b9a8e ++
  beBytes 48 0xf7cc7cf402c97acfae6073a5e2036995da4e094f6e85d5c26624385c74255a3eaa731b2e665d993c872819c3fb5b9a8e ++
  beBytes 48 0x8ce4c61dfed445ef68ab2ab26ed5e1d305eab26d5c3dae32c7e7e3e5379d0d7a421829133a4a726253acea3fbf109b9f ++
  beBytes 48 0xca43bb99f78f9fd9e2cfa63dc0a23e418ef09bd006c36aace2f74e21676d41f86506584cab5d8a4df7131e425a56aa68

/-- A layer table of no visible layer for a canvas of one pixel. -/
def blankTable : List Byte := List.replicate 4040 0 ++ leBytes 2 1 ++ leBytes 2 1 ++ List.replicate 52 0

theorem test_meets_ComposerCommands :
    (started calm 0x0D01 (leBytes 4 7)).awake = true ∧
    (started calm 0x0D01 (leBytes 4 7)).cmd 0 7 0x0D01 = some (cmdFor 0x0D01 .started (leBytes 4 7)) ∧
    (calm.checkCommit 7 [] [] [] false).isSome = true ∧ calm.isPier = false ∧ calm.genAhead 7 = true ∧
    (let s : State := { calm with cmp := { calm.cmp with newest := some 7, gens := List.replicate 3 ⟨7, [], [], [], [], false⟩ } }
     s.genAhead 7 = false ∧ s.genAhead (7 + 2 ^ 31) = false ∧ s.genAhead (7 + 2 ^ 31 - 1) = true ∧ 3 ≤ s.pendingGens) ∧
    (∀ op ∈ [0x0D02, 0x0D03, 0x0D04, 0x0D05, 0x0D06], (started calm op []).cmd 0 7 op = some (cmdFor op .started [])) ∧
    layered.isPier = true ∧ (layered.handleNamed 9).isSome = true ∧ (layered.handleNamed 10).isSome = false ∧
    (4 * 2 * pixelBytes 0 + 4095) / 4096 = 1 ∧ layered.fitLayer 17 = none ∧ layered.fitLayer 15 = some (0, 1) ∧
    (List.range 4096).find? (fun i => (layered.handle i).all fun x => !x.live && !x.space) = some 0 ∧
    (cmdFor 0x0D02 .started (allocOpnds 10 4 2)).opnd 32 4 = 10 ∧
    (layered.liveHandle (2 + 4096)).map (·.1) = some 2 ∧ layered.liveHandle 2 = none ∧ layered.handleRefs 2 = 0 ∧
    (let s : State := { layered with cmp := { layered.cmp with presented := [2] } }
     0 < s.handleRefs 2) ∧
    (∀ h ∈ layered.handle 2, writeOk h 0 0 4 2 48 = true ∧ writeOk h 1 0 4 2 48 = false) ∧
    lutFormat 2 1 [] = false ∧ layered.lutBusy 2 1 = false ∧
    (let s : State := { layered with cmp := { layered.cmp with gens := [⟨1, [], List.replicate 4096 0, [], [], false⟩] } }
     s.lutBusy 1 0 = true) := by decide +kernel

theorem test_meets_ComposerCommands_commit : calm.checkCommit 7 blankTable blankTable [] false = none := by decide +kernel

theorem test_meets_ComposerCommands_record :
    (started' layered 0x0D06 [] record').payload (cmdFor 0x0D06 .started [] 256) = record' ∧
    256 ≤ record'.length ∧ parapetReserved record' = false ∧ parapetLen record' = true ∧ layered.parapetKeyOk (bytesAt record' 160 96) = true ∧
    (let s : State := { layered with fuses := { layered.fuses with parapet := [1] } }
     s.parapetKeyOk (bytesAt record' 160 96) = false) ∧
    recordSigOk record' = true ∧ recordSigOk (List.replicate 256 0) = false ∧
    layered.pair CMP_PARAPET_SEQ.SEQ < leAt record' 0 8 ∧ leAt record' 0 8 ≤ (layered.setPair CMP_PARAPET_SEQ.SEQ 1 0).pair CMP_PARAPET_SEQ.SEQ ∧
    leAt record' 8 2 = 0xFFF ∧ (layered.parapetContent record').2 = stOk := by decide +kernel

/-- A pier that may compose, with generation 7 of a picture of `h` rows in force. -/
def composing (h : Nat) : State :=
  let s := bayed (((pier.setFlag COR_STATUS.MAP_OK true).setFlag COR_STATUS.COEF_OK true).setFlag COR_STATUS.GAIN_OK true) 3
  let s := ((s.setFld BAY_STATUS.STATE bayRun 1).setFld BAY_STATUS.KIND 4 1).setFlag BAY_STATUS.IN_ROTATION true 1
  { s with cmp := { s.cmp with inForce := some 7, ready := true,
                               gens := [⟨7, [], List.replicate 4096 0, leBytes 2 8 ++ leBytes 2 h ++ List.replicate 2324 0, [], false⟩] } }

/-- A pier with images for 4 lamps in deck. -/
def imaged : State :=
  { pier.setFld COR_LAMPS.COUNT 4 with cfg := { pier.cfg with parts := [⟨pkLampMap, false, 0, 1, 1⟩, ⟨pkCoef, false, 0, 2, 1⟩, ⟨pkGain, false, 0, 3, 1⟩] } }

/-- The operands of CMD_COR_LOAD and CMD_COR_PATCH: image, offset, flags. -/
def loadOpnds (j off flags : Nat) : List Byte := leBytes 4 j ++ leBytes 4 off ++ leBytes 1 flags

theorem test_meets_BandsAndImages :
    calm.awake = true ∧ calm.genInForce = none ∧ (composing 8).genInForce.isSome = true ∧
    (∀ g ∈ (composing 8).genInForce, (composing 8).canCompose g 0 = true ∧
      ((composing 8).setFld BAY_STATUS.STATE bayIdle 1).canCompose g 0 = false) ∧
    (∀ g ∈ (composing 8).genInForce, bandCount g.loc = 1 ∧ (composing 8).bandInputs g 0 = some []) ∧
    Sparse.find (composing 8).cmp.bands 0 = none ∧ (∀ g ∈ (composing 8).genInForce, (composing 8).nextStale g = none) ∧
    (let s : State := { composing 8 with cmp := { (composing 8).cmp with bands := [(0, ⟨6, [], 0, false, []⟩)] } }
     ∀ g ∈ s.genInForce, s.nextStale g = some 0 ∧ 0 < bandCount g.loc ∧ (s.bandInputs g 0).isSome = true) ∧
    (let s : State := { composing 8 with cmp := { (composing 8).cmp with bands := [(1, ⟨6, [], 0, false, []⟩)] } }
     ∀ g ∈ s.genInForce, s.nextStale g = some 1 ∧ bandCount g.loc ≤ 1) ∧
    (∀ op ∈ [0x0E01, 0x0E02], calm.cmd 0 7 op = none) ∧ (imaged.cor.closing ≠ some (0, 7)) ∧
    (let c := cmdFor 0x0E01 .started (loadOpnds 0 0 3) 16
     (started' imaged 0x0E01 (loadOpnds 0 0 3) (List.replicate 16 0)).cmd 0 7 0x0E01 = some c ∧
       bits (c.opnd 40 1) 0 1 = 1 ∧ bits (c.opnd 40 1) 1 1 = 1 ∧ c.opnd 32 1 = 0) ∧
    imaged.cor.closing = none ∧ imaged.chunkOk 0 0 16 true true = true ∧ imaged.chunkOk 0 0 12 true false = true ∧
    imaged.chunkOk 0 0 12 true true = false ∧
    (let s : State := { imaged with cor := { imaged.cor with closing := some (0, 7) } }
     let s := (withCmd s (cmdFor 0x0E01 .running [])).setFld COR_LOADED.IMAGE 0
     s.cor.closing = some (0, 7) ∧ s.fld COR_LOADED.IMAGE = 0 ∧ s.badMapEntry = none ∧
       (s.deckWrite 4096 [0, 0, 0, 0, 0xFF, 0xFF, 0xFF, 0xFF] (fun _ => 3)).badMapEntry = some 1 ∧
       s.cmdAt 0 1 0x0E01 = some (cmdFor 0x0E01 .running [])) ∧
    (started imaged 0x0E02 (loadOpnds 1 6 0)).cmd 0 7 0x0E02 = some (cmdFor 0x0E02 .started (loadOpnds 1 6 0)) ∧
    (imaged.setFlag COR_STATUS.COEF_OK true).imageOk 1 = true ∧ 6 % entryLen 1 = 0 ∧ 18 % entryLen 1 = 0 ∧ 6 + 18 ≤ imaged.imageLen 1 ∧
    imaged.imageOk 1 = false ∧ imaged.cor.patches.length < 4 ∧
    (let s : State := { imaged with cor := { imaged.cor with patches := List.replicate 4 ⟨0, 7, 1, 0, []⟩ } }
     4 ≤ s.cor.patches.length) := by decide +kernel

/-- A pier that shows: frame begun `ago` ticks before, `r` refreshes begun, slot `i`. -/
def showing (ago r i : Nat) : State :=
  let s := ((beat pier).setPair TIM_START.START (t0 - ago) 0).setFld STR_NREF.N_R 4
  { s with cad := { s.cad with refresh := r, slot := i, aborted := false }, str := { s.str with off := false, trans := false } }

theorem test_meets_StrandsAndHeat :
    (showing 0 0 0).awake = true ∧ (showing 0 0 0).cad.running = true ∧ (showing 0 0 0).isPier = true ∧ (showing 0 0 0).str.off = false ∧
    (showing 0 0 0).cad.aborted = false ∧ (showing 0 0 0).str.trans = false ∧ 2 ≤ (showing 0 0 0).nRef ∧
    (showing 0 0 0).frameAt + 0 * (showing 0 0 0).str.hard.tref ≤ calm.now ∧
    (let h := (showing 0 1 0).str.hard
     h.tref = 156250 ∧ calm.now < (showing (h.tref - 1) 1 0).frameAt + 1 * h.tref ∧ (showing h.tref 1 0).frameAt + 1 * h.tref ≤ calm.now ∧
       16 ≤ h.slots ∧ (showing 0 1 0).frameAt + (1 - 1) * h.tref + 0 * h.tref / h.slots ≤ calm.now ∧
       calm.now < (showing 0 1 1).frameAt + (1 - 1) * h.tref + 1 * h.tref / h.slots ∧ h.rows = 16) ∧
    (let s := showing 0 1 0
     let v := s.echoes (s.cad.slot % s.str.hard.rows) ((s.str.hard.planes 1 (s.str.hard.lowBit 0) false).map (·.1)) []
     (v.reportRow 0).lit = true ∧ (({ v with str := { v.str with brown := true } } : State).reportRow 0).lit = false) ∧
    (let s := showing 0 ((showing 0 0 0).nRef) 0
     s.nRef ≤ s.cad.refresh) ∧ calm.cad.running = false ∧
    (let s : State := { calm with str := { calm.str with syncAt := [(4, t0 - calm.str.teWin)] } }
     (Sparse.find s.str.syncAt 4).isSome = true ∧ 4 ∉ s.str.teRise ∧ 16 + 4 ∉ s.str.teRise ∧
       s.clock ≤ t0 - calm.str.teWin + s.str.teWin ∧ t0 - calm.str.teWin - 1 + s.str.teWin < s.clock) ∧
    (let s : State := { calm with str := { calm.str with teRise := [4] } }
     4 ∈ s.str.teRise) ∧
    (started calm 0x0F01 [6, 0]).cmd 0 7 0x0F01 = some (cmdFor 0x0F01 .started [6, 0]) ∧ calm.str.trimCmd = none ∧
    (List.range 16).filter (fun f => bits ((cmdFor 0x0F01 .started [6, 0]).opnd 32 2) f 1 = 1) = [1, 2] ∧
    (List.range 16).filter (fun f => bits ((cmdFor 0x0F01 .started [0, 0]).opnd 32 2) f 1 = 1) = [] ∧
    (∀ late ∈ [0, 1], (let s : State := { calm with str := { calm.str with trim := some (4, t0 + late - 2 * ms), trims := [5] } }
      s.str.trim = some (4, t0 + late - 2 * ms) ∧ s.str.trims ≠ [] ∧ t0 + late - 2 * ms + 2 * ms = s.clock + late)) ∧
    (let s : State := { calm with str := { calm.str with trim := some (4, 0), trims := [], trimCmd := some (0, 7) } }
     let u := State.setFlag (((withCmd s (cmdFor 0x0F01 .running [])).setFld STR_IREF_TRIM.GAIN_TRIM 1 4).setFld STR_IREF_TRIM.RATIO_TRIM 2 4)
       STR_IREF_TRIM.TRIMMED true 4
     s.str.trims = [] ∧ s.str.trimCmd = some (0, 7) ∧ u.cmdAt 0 1 0x0F01 = some (cmdFor 0x0F01 .running [])) ∧
    ((16 * calm.fld PWR_THERM_STOP.TJ_STOP : Nat) : Int) ≤ 16 * calm.fld PWR_THERM_STOP.TJ_STOP ∧
    (∀ late ∈ [0, 1], (let s : State := { calm with therm := { calm.therm with stopped := true, coolAt := some (t0 + late - 1000 * ms) } }
      s.therm.coolAt = some (t0 + late - 1000 * ms) ∧ s.therm.stopped = true ∧ t0 + late - 1000 * ms + 1000 * ms = s.clock + late)) ∧
    (let s : State := { calm with therm := { calm.therm with stopped := true, coolAt := none } }
     s.therm.stopped = true ∧ s.therm.coolAt = none ∧
       (0 : Int) < 16 * ((s.fld PWR_THERM_STOP.TJ_STOP : Int) - s.fld PWR_THERM_STOP.TJ_HYST)) := by decide +kernel

/-! ### Lamps, memory, leases, power, firmware -/

/-- A pier with diagnostic slots. -/
def diagPier : State :=
  let s := (pier.setFld STR_NREF.N_R 2).setFlag DIA_CFG.PROBE_EN true
  let s := s.setFlag DIA_CFG.PIN_EN true
  { s with str := { s.str with hard := { s.str.hard with diag := true } } }

/-- A state with both clocks at `t`. -/
def at' (s : State) (t : Nat) : State := { s with time := { s.time with wall := t, cycles := t } }

theorem test_meets_LampTests :
    pier.awake = true ∧ pier.isPier = true ∧
    (let n := pier.fld DIA_TIME.VERIFY_AGE * 300000000
     (at' pier n).dia.epochAt / n < (at' pier n).now / n ∧ (at' pier (n - 1)).now / n ≤ (at' pier (n - 1)).dia.epochAt / n) ∧
    (let n := diagPier.fld DIA_TIME.PROBE_INT * 600000000
     (at' diagPier n).dia.roundAt / n < (at' diagPier n).now / n ∧ (at' diagPier (n - 1)).now / n ≤ (at' diagPier (n - 1)).dia.roundAt / n) ∧
    diagPier.assist 15 = false ∧ diagPier.flag DIA_CFG.PROBE_EN = true ∧ diagPier.hasSlots = true ∧
    ((diagPier.setFld STR_NREF.N_R 1).hasSlots = false) ∧ (pier.setFlag DIA_CFG.PROBE_EN false).flag DIA_CFG.PROBE_EN = false ∧
    (let n := diagPier.fld DIA_TIME.PIN_INT * 600000000
     (at' diagPier n).dia.pinAt / n < (at' diagPier n).now / n ∧ diagPier.flag DIA_CFG.PIN_EN = true) ∧
    (∀ op ∈ [0x1001, 0x1002, 0x1003], pier.cmd 0 7 op = none) ∧ (diagPier.dia.pin = none) ∧ (assisted 15).assist 15 = true ∧
    (started pier 0x1001 []).cmd 0 7 0x1001 = some (cmdFor 0x1001 .started []) ∧
    (∀ n ∈ [0, 1], (let s : State := { pier with dia := { pier.dia with pin := some ⟨true, n, 0, false, [], [], []⟩ } }
      s.dia.pin = some ⟨true, n, 0, false, [], [], []⟩ ∧ s.dia.joined = [])) ∧
    (∀ op ∈ [0, 1, 2], (let bs := leBytes 4 1048575 ++ leBytes 4 1 ++ leBytes 1 op
      (started pier 0x1002 bs).cmd 0 7 0x1002 = some (cmdFor 0x1002 .started bs) ∧ (cmdFor 0x1002 .started bs).opnd 40 1 = op)) ∧
    lampRangeOk 1048575 1 = true ∧ lampRangeOk 1048575 2 = false ∧ lampRangeOk 0 0 = false ∧
    (let c := cmdFor 0x1003 .started (leBytes 4 0 ++ leBytes 4 8) 8
     (withCmd pier c).cmd 0 7 0x1003 = some c ∧ lampRangeOk (c.opnd 32 4) (c.opnd 36 4) = true ∧ c.opnd 36 4 ≤ c.payLen) ∧
    (let c := cmdFor 0x1003 .started (leBytes 4 0 ++ leBytes 4 9) 8
     c.payLen < c.opnd 36 4) ∧
    (let s : State := { pier with dia := { pier.dia with unsaved := some 0 } }
     s.restarting = false ∧ s.flashHeld = false ∧ s.dia.unsaved.isSome = true) ∧
    (pier.setFlag PWR_BROWN.ACTIVE true).flashHeld = true := by decide +kernel

/-- One channel of two x4 modules of 16 Gb devices at speed 0. -/
def population : List ChannelPop := [⟨true, 0, false, 16, 2, 1, 1⟩]

/-- A device of which channel 1 has one rank on one module, bank 2's refresh due in `d` ticks, `n` owed. -/
def ranked (late n : Nat) : State :=
  let s := (calm.setFlag MEM_CH_STATUS.USED true 1).setFld MEM_CH_STATUS.MODULES 1 1
  let s := s.setFld MEM_CH_STATUS.RANKS 1 1
  { s with mem := { s.mem with due := [(4 * 16 + 2, t0 + late)], owed := [(16, n)] } }

theorem test_meets_ExternalMemory :
    calm.awake = true ∧ medium.flag MEM_STATUS.TRAINED = true ∧ calm.flag MEM_STATUS.TRAINED = false ∧ calm.fld MEM_CH_STATUS.FAIL 0 ≠ 1 ∧
    4 ∉ calm.pwr.down ∧ 16 * (1 : Fin 4).val + (0 : Fin 16).val = 16 ∧
    (∀ n ∈ [0, 3, 4], (ranked 0 n).hasRank 1 0 = true ∧ Sparse.find (ranked 0 n).mem.due (4 * 16 + 2) = some t0 ∧
      (ranked 0 n).clock = t0 ∧ Sparse.get 0 (ranked 0 n).mem.owed 16 = n) ∧ calm.hasRank 1 0 = false ∧
    (∀ op ∈ [0x1101, 0x1102], calm.cmd 0 7 op = none) ∧ medium.mem.lost = false ∧ calm.extUp = false ∧ (assisted 16).assist 16 = true ∧
    (ranked 1 0).clock < t0 + 1 ∧ Sparse.find (ranked 1 0).mem.due (4 * 16 + 2) = some (t0 + 1) ∧
    (∀ ago ∈ [10 * ms - 1, 10 * ms], (let s : State := { medium with mem := { medium.mem with sensedAt := t0 - ago } }
      s.mem.sensedAt + 10 * ms + ago = s.clock + 10 * ms)) ∧
    (ranked 0 0).flag MEM_CH_STATUS.USED 1 = true ∧ ((ranked 0 0).setFld MEM_CFG.NRF_P 1).fld MEM_CFG.NRF_P ≠ 0 ∧
    (∀ ago ∈ [0, (ranked 0 0).retrainInt], (let s : State := { ranked 0 0 with mem := { (ranked 0 0).mem with dueAt := [(16, t0 - ago)] } }
      s.retrainDue 16 = some (t0 - ago) ∧ s.assist 16 = false)) ∧ 0 < (ranked 0 0).retrainInt ∧
    medium.extUp = true ∧ (2 ^ 27 - 1) * medium.lineBytes < medium.pair MEM_CAP.CAP ∧ 5 ∉ medium.mem.extBad ∧
    (let s : State := { medium with mem := { medium.mem with extBad := [5] } }
     5 ∈ s.mem.extBad) ∧
    (at' calm (hourTicks - 1)).now / hourTicks = calm.mem.hour ∧ (at' calm hourTicks).now / hourTicks ≠ calm.mem.hour ∧
    0x7FFFFF < 0x800000 ∧ 0x7FFFFF ∉ calm.mem.deckBad ∧
    (let c := cmdFor 0x1101 .started (leBytes 8 (2 ^ 31 - 8)) 8
     (withCmd medium c).cmd 0 7 0x1101 = some c ∧ medium.memRefusal (c.opnd 32 8) c.payLen true = none ∧
       medium.memRefusal (2 ^ 31 - 4) 8 true = some 0x1102 ∧ medium.memRefusal (2 ^ 33) 4 true = some 0x1101) ∧
    (let c := cmdFor 0x1102 .started (leBytes 8 0) 8
     let s := withCmd medium c
     let u := s.memFill c c.payLen
     s.cmd 0 7 0x1102 = some c ∧ s.memRefusal 0 8 false = none ∧ s.badLines 0 8 = [] ∧
       (u.linesOf 0 8).find? (fun l => l ∈ u.badLines 0 8 ∨ (5, l, false) ∈ u.mem.poison) = none ∧
       s.memRefusal (2 ^ 33) 4 false = some 0x1101) ∧ 4 % 4 = 0 := by decide +kernel

/-- A device at node 8, an end of segment 3 with node 5, as entry 2, in a state of Table 17-4. -/
def endIn (st : Nat) (x : SegSt) : State :=
  let s := ((calm.setFld VIA_SELF.ADDR 8).setFlag RED_SEG_CFG.EN true 2).setFld RED_SEG_CFG.SEG 3 2
  let s := ((s.setFld RED_SEG_ENDS.END_A 8 2).setFld RED_SEG_ENDS.END_B 5 2).setFld RED_SEG_STATUS.STATE st 2
  s.setSeg 2 x

/-- The payload of a LEASE_ACK for segment 3, epoch 0, frame 0. -/
def ackPay : List Byte := beBytes 2 3 ++ List.replicate 14 0

theorem test_meets_Leases :
    calm.awake = true ∧ calm.takeMsg 0x22 = none ∧ calm.takeMsg 0x23 = none ∧ calm.takeMsg 0x24 = none ∧ calm.cmd 0 7 0x1401 = none ∧
    reaches (endIn segHolder SegSt.reset) 0x22 ackPay = true ∧ (endIn segHolder SegSt.reset).endEntry 3 = some 2 ∧
    beAt ackPay 0 2 = 3 ∧ ackPay.length = 16 ∧ (endIn segHolder SegSt.reset).fld RED_SEG_STATUS.STATE 2 = segHolder ∧
    beAt ackPay 4 4 = (endIn segHolder SegSt.reset).fld RED_SEG_EPOCH.EPOCH 2 ∧ beAt ackPay 8 8 = ((endIn segHolder SegSt.reset).seg 2).named ∧
    (endIn segHolder SegSt.reset).red.handover = none ∧ (endIn segStandby SegSt.reset).fld RED_SEG_STATUS.STATE 2 ≠ segHolder ∧
    (∀ late ∈ [0, 1], (let s := endIn segStandby { SegSt.reset with view := 1, due := some (t0 + late - calm.fld RED_CFG.GRACE * us) }
      (s.seg 2).due = some (t0 + late - calm.fld RED_CFG.GRACE * us) ∧ s.flag RED_SEG_CFG.EN 2 = true ∧ (s.seg 2).view = 1 ∧
        t0 + late - calm.fld RED_CFG.GRACE * us + s.fld RED_CFG.GRACE * us = s.clock + late)) ∧
    (let s := endIn segStandby { SegSt.reset with view := 2 }
     s.assist 19 = false ∧ s.mayClaim 2 = true ∧ (s.seg 2).claimAt = none) ∧
    (endIn segHolder { SegSt.reset with view := 2 }).mayClaim 2 = false ∧
    (∀ t ∈ [t0, t0 + 1], ((endIn segHolder { SegSt.reset with gap := some t }).seg 2).gap = some t ∧ (endIn segHolder SegSt.reset).clock = t0) ∧
    (let s : State := { endIn segHolder { SegSt.reset with acks := 1 } with red := { calm.red with handover := some ⟨0, 7, 2, 0, some 100⟩, segs := (endIn segHolder { SegSt.reset with acks := 1, named := 101 }).red.segs } }
     s.red.handover = some ⟨0, 7, 2, 0, some 100⟩ ∧ 100 < (s.seg 2).named ∧ s.fld RED_SEG_PIERS.PIERS 2 ≤ (s.seg 2).acks + 1) ∧
    (started (endIn segStandby SegSt.reset) 0x1401 [2]).cmd 0 7 0x1401 = some (cmdFor 0x1401 .started [2]) ∧
    (endIn segStandby SegSt.reset).isEnd 2 = true ∧ (endIn segStandby SegSt.reset).flag RED_SEG_CFG.EN 3 = false ∧
    (endIn segHolder SegSt.reset).fld RED_SEG_PIERS.PIERS 2 ≤ (endIn segHolder SegSt.reset).fld RED_SEG_ACK.ACKS 2 ∧
    reaches (endIn segHolder SegSt.reset) 0x23 [0, 3] = true ∧ reaches (endIn segStandby SegSt.reset) 0x24 [0, 3, 0, 0, 0, 0, 0, 9] = true ∧
    (∀ f ∈ [103, 104], (let s := calm.setPair TIM_FRAME.FRAME f 0
      let s : State := { s with red := { s.red with handover := some ⟨0, 7, 2, 100, none⟩ } }
      s.red.handover = some ⟨0, 7, 2, 100, none⟩ ∧ s.frame = f)) ∧
    (∀ f ∈ [107, 108], (let s := calm.setPair TIM_FRAME.FRAME f 0
      let s : State := { s with red := { s.red with handover := some ⟨0, 7, 2, 0, some 100⟩ } }
      s.red.handover = some ⟨0, 7, 2, 0, some 100⟩ ∧ s.frame = f)) := by decide +kernel

/-- A device in P3 whose CORE_EN is low, with a bypass pair of ports 0 and 1. -/
def relayed : State :=
  let s := calm.setFld PWR_STATE.STATE 3
  { s with pwr := { s.pwr with coreEn := false }, span := { s.span with pairs := [(0, 1)] } }

/-- The first block of a WAKE plank for every node with KEY 0 (R462). -/
def wakeBlock : Block := ⟨ctlSync, [0xC3, 0x60, 0x5A, 0xFF, 0xFF, 0, 0, 0]⟩

theorem test_meets_PowerAndResets :
    calm.pwr.hold = none ∧ (after .resetPin calm).pwr.hold.isSome = true ∧ calm.awake = true ∧ (after .resetPin calm).pwr.hold = some (2, 0) ∧
    calm.flag GLB_CLK.ROOT_LOCK = false ∧ (∀ k ∈ List.range 16, (unbound.binding k).footing = false) ∧ unbound.awake = true ∧
    7 ∉ calm.pwr.warned ∧ (({ calm with str := { calm.str with brownOn := true } } : State).str.brownOn = true) ∧
    calm.belowWarn 7 900 = true ∧ calm.belowWarn 7 4000 = false ∧ (∀ op ∈ [0x1901, 0x1902], calm.cmd 0 7 op = none) ∧
    (let s := beat (after (.supplyWarn 7 900) calm)
     s.flag PWR_BROWN.ACTIVE = true ∧ s.cadence = true ∧ s.awake = true ∧ (∀ w ∈ s.pwr.warned, w < 8)) ∧
    calm.flag PWR_BROWN.ACTIVE = false ∧ calm.pwr.coreEn = true ∧
    (∀ p ∈ [0, 3], (started (calm.setFld PWR_STATE.STATE 1) 0x1901 [BitVec.ofNat 8 p]).cmd 0 7 0x1901 =
      some (cmdFor 0x1901 .started [BitVec.ofNat 8 p])) ∧
    (cmdFor 0x1901 .started [1]).opnd 32 1 = (calm.setFld PWR_STATE.STATE 1).fld PWR_STATE.STATE ∧ calm.flag PWR_STATE.PEND = false ∧
    (cmdFor 0x1901 .started [2]).opnd 32 1 ≠ (calm.setFld PWR_STATE.STATE 1).fld PWR_STATE.STATE ∧ calm.cadence = false ∧ (beat calm).cadence = true ∧
    (started calm 0x1902 [3]).cmd 0 7 0x1902 = some (cmdFor 0x1902 .started [3]) ∧ (linked spanUp).portUp 3 = true ∧ calm.portUp 3 = false ∧
    calm.inRelay = false ∧ relayed.inRelay = true ∧ relayed.pwr.hold = none ∧ 
    (∀ last ∈ [100000, 100001], (let blocks := [0, 10, 20, last].map fun t => (t, wakeBlock)
      fourWithin ((blocks.filter fun b => relayed.wakes b.2).map (·.1)) = decide (last = 100000))) ∧
    (0 : Fin 16).val ∈ relayed.bypassPorts ∧
    (∀ ago ∈ [1000 * ms - 1, 1000 * ms], (let s : State := { calm with pwr := { calm.pwr with checked := t0 - ago } }
      s.pwr.checked + 1000 * ms + ago = s.clock + 1000 * ms)) := by decide +kernel

/-- A device whose slot A is active, the two slots in states of Table 19-3. -/
def slotted (a b : Nat) : State :=
  { calm.setFld FWU_STATUS.ACTIVE 1 with flash := [(slotBase 0 + 3588, BitVec.ofNat 8 a), (slotBase 1 + 3588, BitVec.ofNat 8 b)] }

/-- The operands of CMD_FWU_WRITE: OFFSET, flags. -/
def writeOpnds (off flags : Nat) : List Byte := leBytes 4 off ++ leBytes 1 flags

/-- An image of `total` bytes being written, nothing stored yet. -/
def writing (total : Nat) : State :=
  let s := (slotted slGood slEmpty).setFld FWU_WRITTEN.LEN 0
  { s with fwu := { s.fwu with writing := some total } }

theorem test_meets_FirmwareCommands :
    (∀ op ∈ [0x1501, 0x1502, 0x1503, 0x1504, 0x1505, 0x1506, 0x1507], calm.cmd 0 7 op = none) ∧
    (∀ fl ∈ [0, 2], (let s := started' (writing 4) 0x1501 (writeOpnds 0 fl) [1, 2, 3, 4]
      let c := cmdFor 0x1501 .started (writeOpnds 0 fl) 4
      s.awake = true ∧ s.cmd 0 7 0x1501 = some c ∧ s.flashHeld = false ∧ s.isPeer = false ∧ c.opnd 36 1 % 2 = 0 ∧
        s.fwu.writing = some 4 ∧ (s.payload c).length = 4 ∧ c.opnd 32 4 = s.fld FWU_WRITTEN.LEN ∧ c.opnd 36 1 / 2 % 2 = fl / 2)) ∧
    (cmdFor 0x1501 .started (writeOpnds 4 0)).opnd 32 4 ≠ (writing 8).fld FWU_WRITTEN.LEN ∧
    (let s := (writing 4).imagePut 1 0 [1, 2, 3, 4]
     (s.verifySlot 1).any (fun f => decide (f.1 ≠ 0x1508)) = true) ∧
    (let s : State := { calm with pins := { calm.pins with ftId := 1 } }
     s.isPeer = true) ∧
    (started calm 0x1502 [1]).cmd 0 7 0x1502 = some (cmdFor 0x1502 .started [1]) ∧ calm.heldSlot = none ∧
    (slotted slGood slWritten).heldSlot = some 1 ∧ (slotted slGood slEmpty).heldSlot = some 0 ∧ calm.fwu.fwd = none ∧ calm.fwu.rx = none ∧
    (let bs := leBytes 8 0 ++ leBytes 8 (t0 + 600000000)
     let c := cmdFor 0x1503 .started bs 48
     (withCmd calm c).cmd 0 7 0x1503 = some c ∧ c.opnd 40 8 = calm.now + 600000000 ∧ c.opnd 32 1 % 2 = 0) ∧
    (cmdFor 0x1503 .started [1]).opnd 32 1 % 2 = 1 ∧ calm.holdsImage [] = false ∧
    (slotted slGood slWritten).holdsImage (List.replicate 48 0xFF) = true ∧
    (started calm 0x1504 []).cmd 0 7 0x1504 = some (cmdFor 0x1504 .started []) ∧ calm.cadence = false ∧ (beat calm).cadence = true ∧
    (slotted slTried slEmpty).activeSlot = some 0 ∧ (slotted slTried slEmpty).restarting = false ∧ (slotted slTried slEmpty).assist 20 = false ∧
    (slotted slTried slEmpty).flashHeld = false ∧ (slotted slTried slEmpty).slotState 0 = slTried ∧
    (let s : State := { slotted slTried slEmpty with flash := (slotted slTried slEmpty).flash ++ [] }
     let s : State := { s with flash := writeBytes erased s.flash (slotBase 0) (List.replicate 96 0) }
     s.streamInForce 0 = true ∧ s.slotState 0 = slTried) ∧
    (slotted slTried slEmpty).fwu.since + (slotted slTried slEmpty).fld FWU_CFG.COMMIT_S * 1000 * ms ≤ (at' calm (10 ^ 12)).clock ∧
    (at' calm 1).clock < (slotted slTried slEmpty).fwu.since + (slotted slTried slEmpty).fld FWU_CFG.COMMIT_S * 1000 * ms ∧
    (slotted slGood slEmpty).slotState 0 ≠ slTried ∧ (slotted slTried slGood).slotState (1 - 0) = slGood ∧
    (slotted slTried slEmpty).slotState (1 - 0) ≠ slGood ∧
    (∀ op ∈ [0x1505, 0x1506, 0x1507], (started (slotted slTried slGood) op [2]).cmd 0 7 op = some (cmdFor op .started [2])) ∧
    calm.fuses.fwSvn ≤ 2 ∧ 2 ≤ (calm.setFld FWU_SVN.CUR 2).fld FWU_SVN.CUR ∧ (calm.setFld FWU_SVN.CUR 1).fld FWU_SVN.CUR < 2 := by decide +kernel

/-- A device that receives an image of 8,192 bytes on port 3, nothing stored yet. -/
def taking (n : Nat) : State :=
  let s := (slotted slGood slEmpty).setFld FWU_WRITTEN.LEN n
  { s with fwu := { s.fwu with rx := some ⟨3, List.replicate 48 0xFF, 8192⟩ } }

/-- The payload of an OFFER. -/
def offerPay (len : Nat) : List Byte := beBytes 4 len ++ List.replicate 48 1

theorem test_meets_FirmwareTransfers :
    (slotted slGood slEmpty).awake = true ∧ (slotted slGood slEmpty).restarting = false ∧ (slotted slGood slEmpty).flashHeld = false ∧
    (∀ n ∈ [4095, 4096], reaches (slotted slGood slEmpty) 0x10 (offerPay n) = true) ∧
    (slotted slGood slEmpty).offerRule 4095 (List.replicate 48 1) ≠ 0 ∧
    ((slotted slGood slEmpty).setFlag FWU_CFG.RX_EN true).offerRule 4096 (List.replicate 48 1) = 0 ∧
    (taking 0).fwu.rx = some ⟨3, List.replicate 48 0xFF, 8192⟩ ∧ reaches (taking 0) 0x11 [0] = true ∧ calm.fwu.rx = none ∧ calm.fwu.offers = [] ∧
    (∀ typ ∈ [0x10, 0x11, 0x12, 0x13, 0x14], calm.takeMsg typ = none) ∧ State.reset.restarting = true ∧
    0 = (taking 0).fld FWU_WRITTEN.LEN ∧ 0 < 8192 ∧
    reaches (taking 0) 0x12 (List.replicate 48 0xFF) = true ∧ reaches (taking 0) 0x12 [] = true ∧ [] ≠ List.replicate 48 (0xFF : Byte) ∧
    (taking 0).slotHash (taking 0).spareSlot = List.replicate 48 0xFF ∧
    ({ taking 0 with flash := writeBytes erased (taking 0).flash (slotBase 1 + 84) [1] } : State).slotHash 1 ≠ List.replicate 48 0xFF ∧
    (let p := List.replicate 48 0xFF ++ beBytes 8 (t0 + 1)
     reaches (slotted slGood slWritten) 0x13 p = true ∧ (slotted slGood slWritten).isPeer = false ∧
       (slotted slGood slWritten).holdsImage (bytesAt p 0 48) = true ∧ calm.holdsImage (bytesAt p 0 48) = false ∧
       (slotted slGood slWritten).now < beAt p 48 8 ∧ beAt (List.replicate 48 0xFF ++ beBytes 8 t0) 48 8 ≤ (slotted slGood slWritten).now) ∧
    (∀ t ∈ [t0, t0 + 1], (let o : FwuOffer := ⟨0, false, false, 0, 0, 1, some t⟩
      let s : State := { calm with fwu := { calm.fwu with offers := [(3, o)] } }
      s.fwu.offers = [(3, o)] ∧ o.retry = some t ∧ s.clock = t0)) ∧
    reaches (slotted slGood slEmpty) 0x14 [0] = true ∧ (slotted slGood slEmpty).activeSlot = some 0 ∧
    ((slotted slGood slEmpty).setFlag FWU_CFG.SERVE true).flag FWU_CFG.SERVE = true ∧ (slotted slGood slEmpty).slotState 0 = slGood ∧
    Sparse.find (slotted slGood slEmpty).fwu.offers 3 = none ∧ (slotted slTried slEmpty).slotState 0 ≠ slGood ∧
    (calm.setFlag FWU_STATUS.RECOVERY true).flag FWU_STATUS.RECOVERY = true ∧ calm.flag FWU_STATUS.RECOVERY = false ∧
    (∀ ago ∈ [1000 * ms - 1, 1000 * ms], (let s : State := { calm with fwu := { calm.fwu with reqAt := t0 - ago } }
      s.fwu.reqAt + 1000 * ms + ago = s.clock + 1000 * ms)) ∧
    calm.pathOpen .pcie = true ∧ bits 0x4000000 26 1 = 1 ∧ (regAt 0x60040).any (fun r => ! r.2.2) = true ∧
    (match regAt 0x60040 with
     | some r => (let u := (calm.setFlag FWU_STATUS.RECOVERY true).writePlain r.1 0x60040 0x4000000
       u.flag FWU_STATUS.RECOVERY && ! u.flashHeld && (u.imageCheck (fun o n => bytesAt (u.memRead false 0x400000 (u.fld FWU_RECOVER.LEN)) o n)).isSome)
     | none => false) = true := by decide +kernel
end Sys2Proof.Tests
end

/-! SUPPORT. Fields of a word: what a replacement of a field leaves, and what a register's fields read after each of them has been
treated in turn (R7, R8, R9). -/

namespace Sys2Proof.Machine

/-! ### Bits of a number -/

theorem testBit_bits (n lo w j : Nat) : (bits n lo w).testBit j = (decide (j < w) && n.testBit (lo + j)) := by
  rw [bits, Nat.testBit_mod_two_pow, Nat.testBit_div_two_pow, Nat.add_comm]

theorem bits_lt (n lo w : Nat) : bits n lo w < 2 ^ w := Nat.mod_lt _ (by positivity)

/-- A field inside the low bits that a word keeps. -/
theorem bits_mod_two_pow {lo w k : Nat} (n : Nat) (h : lo + w ≤ k) : bits (n % 2 ^ k) lo w = bits n lo w := by
  refine Nat.eq_of_testBit_eq fun j => ?_
  rw [testBit_bits, testBit_bits, Nat.testBit_mod_two_pow]
  by_cases hj : j < w
  · simp [show lo + j < k by omega]
  · simp [hj]

/-- A bit is a field of width 1. -/
theorem testBit_eq_of_bits_eq {n m j : Nat} (h : bits n j 1 = bits m j 1) : n.testBit j = m.testBit j := by
  simpa only [testBit_bits, Nat.zero_lt_one, decide_true, Bool.true_and, Nat.add_zero] using
    congrArg (Nat.testBit · 0) h

/-- What is left of a number without the bits that another holds too. -/
theorem testBit_sub_and (m n j : Nat) : (m - (m &&& n)).testBit j = (m.testBit j && ! n.testBit j) := by
  have hle : m &&& n ≤ m := Nat.and_le_left
  have hlow : (m &&& n) % 2 = 1 ↔ m % 2 = 1 ∧ n % 2 = 1 := Nat.and_mod_two_eq_one
  induction j generalizing m n with
  | zero =>
    rw [Bool.eq_iff_iff]
    simp only [Nat.testBit_zero, Bool.and_eq_true, Bool.not_eq_true', decide_eq_true_eq, decide_eq_false_iff_not]
    omega
  | succ j ih =>
    have hhalf : (m - (m &&& n)) / 2 = m / 2 - (m / 2 &&& n / 2) := by
      rw [← Nat.and_div_two]; omega
    rw [Nat.testBit_succ, Nat.testBit_succ, Nat.testBit_succ, hhalf]
    exact ih _ _ Nat.and_le_left Nat.and_mod_two_eq_one

/-! ### A register's fields, one after another -/

/-- Two fields share no bit. -/
def FieldDesc.apart (f g : FieldDesc) : Prop := f.lo + f.width ≤ g.lo ∨ g.lo + g.width ≤ f.lo

/-- A treatment of a word's fields: that of a field makes `new f` of its bits and leaves every other bit. -/
structure FieldWise (g : Nat → FieldDesc → Nat) (new : FieldDesc → Nat → Nat) : Prop where
  own : ∀ w f, bits (g w f) f.lo f.width = new f (bits w f.lo f.width)
  rest : ∀ w f l u, l + u ≤ f.lo ∨ f.lo + f.width ≤ l → bits (g w f) l u = bits w l u

theorem bits_insertBits_rest {n lo w v l u : Nat} (h : l + u ≤ lo ∨ lo + w ≤ l) :
    bits (insertBits n lo w v) l u = bits n l u :=
  h.elim (bits_insertBits_below n lo w v l u) (bits_insertBits_above n lo w v l u)

section FieldWise
variable {g : Nat → FieldDesc → Nat} {new : FieldDesc → Nat → Nat} (hg : FieldWise g new)
include hg

/-- Bits of none of the fields are left. -/
theorem FieldWise.bits_foldl_rest (fs : List FieldDesc) (w : Nat) {l u : Nat}
    (h : ∀ f ∈ fs, l + u ≤ f.lo ∨ f.lo + f.width ≤ l) : bits (fs.foldl g w) l u = bits w l u := by
  induction fs generalizing w with
  | nil => rfl
  | cons f fs ih =>
    rw [List.foldl_cons, ih _ fun e he => h e (List.mem_cons_of_mem _ he), hg.rest _ _ _ _ (h f List.mem_cons_self)]

/-- Each field of a register is treated once. -/
theorem FieldWise.bits_foldl_own {fs : List FieldDesc} (w : Nat) (h : fs.Pairwise FieldDesc.apart) {f : FieldDesc}
    (hf : f ∈ fs) : bits (fs.foldl g w) f.lo f.width = new f (bits w f.lo f.width) := by
  induction fs generalizing w with
  | nil => cases hf
  | cons e fs ih =>
    obtain ⟨he, hfs⟩ := List.pairwise_cons.mp h
    rw [List.foldl_cons]
    rcases List.mem_cons.mp hf with rfl | hf
    · rw [hg.bits_foldl_rest fs _ he, hg.own]
    · rw [ih _ hfs hf, hg.rest _ _ _ _ (he f hf).symm]

end FieldWise

/-- What a field holds after a write of `v` to its register, by its access code (R7, R9). -/
def FieldDesc.written (v : Nat) (f : FieldDesc) (old : Nat) : Nat :=
  let x := bits v f.lo f.width
  match f.acc with
  | .rw => if f.least ≤ x ∧ x ≤ f.most then x else old
  | .w1c => old - (old &&& x)
  | .w1s => old ||| x
  | _ => old

section Written
variable {v old : Nat} {f : FieldDesc}

theorem FieldDesc.written_rw (h : f.acc = .rw) : f.written v old =
    if f.least ≤ bits v f.lo f.width ∧ bits v f.lo f.width ≤ f.most then bits v f.lo f.width else old := by
  simp only [FieldDesc.written, h]

theorem FieldDesc.testBit_written_w1c (h : f.acc = .w1c) (j : Nat) :
    (f.written v old).testBit j = (old.testBit j && ! (bits v f.lo f.width).testBit j) := by
  simp only [FieldDesc.written, h, testBit_sub_and]

theorem FieldDesc.testBit_written_w1s (h : f.acc = .w1s) (j : Nat) :
    (f.written v old).testBit j = (old.testBit j || (bits v f.lo f.width).testBit j) := by
  simp only [FieldDesc.written, h, Nat.testBit_or]

theorem FieldDesc.written_kept (h : f.acc = .ro ∨ f.acc = .wo ∨ f.acc = .rc) : f.written v old = old := by
  rcases h with h | h | h <;> simp only [FieldDesc.written, h]

end Written

theorem fieldWise_writeField (v : Nat) : FieldWise (writeField v) (FieldDesc.written v) where
  own w f := by
    have ho := bits_lt w f.lo f.width
    have hx := bits_lt v f.lo f.width
    unfold writeField FieldDesc.written
    cases f.acc with
    | rw =>
      dsimp only
      split
      · rw [bits_insertBits, Nat.mod_eq_of_lt hx]
      · rfl
    | w1c => rw [bits_insertBits, Nat.mod_eq_of_lt (by omega)]
    | w1s => rw [bits_insertBits, Nat.mod_eq_of_lt (Nat.or_lt_two_pow ho hx)]
    | ro | wo | rc => rfl
  rest w f l u h := by
    unfold writeField
    cases f.acc with
    | rw =>
      dsimp only
      split
      · exact bits_insertBits_rest h
      · rfl
    | w1c | w1s => exact bits_insertBits_rest h
    | ro | wo | rc => rfl

/-- What a field holds after a read of its register, which a hardware increment may meet (R8). -/
def FieldDesc.cleared (meets : Nat) (f : FieldDesc) (old : Nat) : Nat :=
  if f.acc = .rc then bits meets f.lo 1 % 2 ^ f.width else old

theorem fieldWise_clearRead (meets : Nat) : FieldWise (clearRead meets) (FieldDesc.cleared meets) where
  own w f := by
    unfold clearRead FieldDesc.cleared
    split
    · rw [bits_insertBits]
    · rfl
  rest w f l u h := by
    unfold clearRead
    split
    · exact bits_insertBits_rest h
    · rfl

end Sys2Proof.Machine

/-! SUPPORT. The register at an address (R514): one of Table 22-2, at the place that its base and stride give. -/

namespace Sys2Proof.Machine

/-- The registers of each block of Table 22-1. -/
def regBlocks : List (List RegDesc) :=
  [regsGLB, regsFNT, regsHIF, regsCFG, regsCHK, regsPWR, regsFWU, regsLNE, regsSPN, regsVIA, regsTIM, regsING, regsENC, regsDEC,
    regsCMP, regsCOR, regsSTR, regsDIA, regsMEM, regsLDG, regsRED, regsBAY]

theorem ite_mem_cons {α : Type} {c : Prop} [Decidable c] {x y : α} {l : List α} (h : y ∈ l) :
    (if c then x else y) ∈ x :: l := by
  split
  · exact List.mem_cons_self
  · exact List.mem_cons_of_mem _ h

theorem blockRegs_mem (a : Nat) : blockRegs a ∈ regBlocks ++ [[]] := by
  unfold blockRegs regBlocks
  simp only [List.cons_append, List.nil_append]
  repeat' apply ite_mem_cons
  exact List.mem_singleton_self _

theorem findReg_eq_some {a i : Nat} {hi : Bool} {d : RegDesc} {ds : List RegDesc} (h : findReg a ds = some (d, i, hi)) :
    d ∈ ds ∧ d.hit a = some (i, hi) := by
  induction ds with
  | nil => cases h
  | cons e ds ih =>
    unfold findReg at h
    split at h
    · rename_i hhit
      cases h
      exact ⟨List.mem_cons_self, hhit⟩
    · exact (ih h).imp_left (List.mem_cons_of_mem _)

theorem RegDesc.addr_of_hit {d : RegDesc} {a i : Nat} {hi : Bool} (h : d.hit a = some (i, hi)) :
    i < d.count ∧ a = d.base + d.stride * i + 4 * b2n hi := by
  have hsplit : d.stride * (if d.stride = 0 then 0 else (a - d.base) / d.stride) +
      (if d.stride = 0 then a - d.base else (a - d.base) % d.stride) = a - d.base := by
    split
    · omega
    · exact Nat.div_add_mod _ _
  simp only [RegDesc.hit] at h
  generalize (if d.stride = 0 then 0 else (a - d.base) / d.stride) = j at h hsplit
  generalize (if d.stride = 0 then a - d.base else (a - d.base) % d.stride) = r at h hsplit
  split_ifs at h with hout hlo hhi
  · cases h
    simp only [b2n, Bool.false_eq_true, if_false]
    omega
  · cases h
    simp only [b2n, if_true]
    omega

theorem regAt_eq_some {a i : Nat} {hi : Bool} {d : RegDesc} (h : regAt a = some (d, i, hi)) :
    d ∈ regBlocks.flatten ∧ i < d.count ∧ a = d.base + d.stride * i + 4 * b2n hi := by
  obtain ⟨hmem, hhit⟩ := findReg_eq_some h
  refine ⟨?_, RegDesc.addr_of_hit hhit⟩
  rcases List.mem_append.mp (blockRegs_mem a) with hb | hb
  · exact List.mem_flatten_of_mem hb hmem
  · rw [List.mem_singleton.mp hb] at hmem
    cases hmem

/-! ### Facts of the table -/

/-- The fields of a register that is no pair share no bit and lie in its word. -/
theorem fields_in_word : ∀ d ∈ regBlocks.flatten, d.pair = false →
    d.fields.Pairwise FieldDesc.apart ∧ ∀ f ∈ d.fields, 0 < f.width ∧ f.lo + f.width ≤ 32 := by
  unfold FieldDesc.apart
  decide +kernel

/-- The register that a read of DECK_ECC clears a bit of is another one. -/
theorem deckStatus_ne_deckEcc : ∀ d ∈ regBlocks.flatten, d.base = DECK_ECC.CE.base → ∀ i < d.count,
    d.base + d.stride * i ≠ DECK_STATUS.UC_BANKS.addr 0 := by
  decide +kernel

/-- Where a read moves something: the equaliser of a lane, and what the device measures (R189, log entry 2). -/
def movedByRead (a : Nat) : Bool :=
  decide (0x80000 ≤ a ∧ a < 0xA0000 ∧
    ((a - 0x80000) % 0x400 = 0x10 ∨ 0x40 ≤ (a - 0x80000) % 0x400 ∧ (a - 0x80000) % 0x400 < 0x70)) ||
  decide (0x50100 ≤ a ∧ a < 0x50180 ∧ a % 16 = 4) || decide (0x300000 ≤ a ∧ a < 0x310000 ∧ a % 0x1000 = 8) ||
  decide (a = MEM_STATUS.PANIC.base) || decide (0x280200 ≤ a ∧ a < 0x280220) || decide (a = DECK_STATUS.PANIC.base)

/-- A read of a pair moves nothing, and HIF_DECK_DATA is no pair. -/
theorem pair_not_movedByRead : ∀ d ∈ regBlocks.flatten, d.pair = true → d.base ≠ 0x20024 ∧
    ∀ i < d.count, ∀ hi : Bool, movedByRead (d.base + d.stride * i + 4 * b2n hi) = false := by
  decide +kernel

/-- The pairs of a check unit that a run guards are POLY, INIT, XOROUT and VAL; the other is CHK_RESULT (R487, R491). -/
theorem chk_pairs : ∀ d ∈ regBlocks.flatten, d.pair = true → ∀ i < d.count,
    0x40000 ≤ d.base + d.stride * i → d.base + d.stride * i < 0x40800 →
    if d.base = 0x40030 then (d.base + d.stride * i) % 64 = 48
    else (d.base + d.stride * i) % 64 ∈ [8, 16, 24, 32] ∧ (d.base + d.stride * i - 0x40000) / 64 = i := by
  decide +kernel

end Sys2Proof.Machine

/-! SUPPORT. One access of one word: what each host path makes of it, and what the word's kind makes of it (R5 to R9, R43, R514,
R518). -/

namespace Sys2Proof.Machine

variable {s : State} {p : Path} {a : Nat}

/-! ### Bytes of a word -/

@[simp] theorem length_leBytes (n v : Nat) : (leBytes n v).length = n := by
  induction n generalizing v with
  | zero => rfl
  | succ n ih => rw [leBytes, List.length_cons, ih]

theorem leNat_leBytes (n v : Nat) : leNat (leBytes n v) = v % 256 ^ n := by
  induction n generalizing v with
  | zero => rw [leBytes, leNat, Nat.pow_zero, Nat.mod_one]
  | succ n ih =>
    rw [leBytes, leNat, ih, BitVec.toNat_ofNat, Nat.pow_succ' (n := n)]
    exact Nat.mod_mul.symm

/-! ### Commands of a device that is awake -/

theorem State.guarded_of_awake (f : State → State) (h : s.awake = true) : s.guarded f = f s := if_pos h

theorem exec_registerWrite (bs : List Byte) (h : s.awake = true) :
    exec (.registerWrite p a bs) s = .next (s.hostWrite p a bs) := congrArg _ (State.guarded_of_awake _ h)

theorem exec_readClear (n m : Nat) (h : s.awake = true) :
    exec (.readClear p a n m) s = .next (s.hostRead p a n m) := congrArg _ (State.guarded_of_awake _ h)

/-! ### One aligned word through an open path -/

theorem State.readWords_one (next : Nat → Nat) (m : Nat) :
    State.readWords next p m a 1 s = (leBytes 4 (s.hostReadWord p a m).1, (s.hostReadWord p a m).2) := by
  simp only [State.readWords, List.append_nil]

/-- Every path reads one aligned word alike. -/
theorem State.hostRead_word (m : Nat) (hopen : s.pathOpen p = true) (ha : a % 4 = 0) (hb : a + 4 ≤ 2 ^ 26) :
    s.hostRead p a 4 m = (s.hostReadWord p a m).2.reply p (leBytes 4 (s.hostReadWord p a m).1) := by
  have htake : ∀ v, (leBytes 4 v).take 4 = leBytes 4 v := fun v => List.take_of_length_le (length_leBytes 4 v).le
  have hlt : a < 2 ^ 26 := by omega
  unfold State.hostRead
  rw [if_neg (by simp [hopen])]
  cases p with
  | pcie =>
    have hspan : wordSpan a 4 = 1 := by rw [wordSpan, if_neg (by decide)]; omega
    have hword : a / 4 * 4 = a := by omega
    simp only [if_pos hb, hspan, hword, State.readWords_one, ha, bytesAt, List.drop_zero, htake]
  | spi =>
    have haddr : spiAddress a = true := by rw [spiAddress, decide_eq_true ha, decide_eq_true hlt]; rfl
    simp only [if_pos haddr, State.spiRead, Nat.reduceAdd, Nat.reduceDiv, State.readWords_one, htake]
  | remote e => simp only [ha, hlt, and_self, if_true, State.readWords_one]

theorem State.writeWords_word (next : Nat → Nat) (v : Nat) (hv : v < 2 ^ 32) :
    State.writeWords next p a (leBytes 4 v) s = s.hostWriteWord p a v := by
  have h : leNat (leBytes 4 v) = v := by rw [leNat_leBytes]; exact Nat.mod_eq_of_lt hv
  exact congrArg (s.hostWriteWord p a) h

/-- Fewer bytes than a word holds change nothing. -/
theorem State.writeWords_short (next : Nat → Nat) {bs : List Byte} (h : bs.length < 4) :
    State.writeWords next p a bs s = s := by
  match bs, h with
  | [], _ | [_], _ | [_, _], _ | [_, _, _], _ => rfl
  | _ :: _ :: _ :: _ :: _, h => simp only [List.length_cons] at h; omega

theorem State.hostWriteWord_open (v : Nat) (hopen : s.pathOpen p = true) : s.hostWriteWord p a v = s.putWord p a v :=
  if_pos (.inl hopen)

/-- Every path writes one aligned word alike. -/
theorem State.hostWrite_word {v : Nat} (hopen : s.pathOpen p = true) (ha : a % 4 = 0) (hb : a + 4 ≤ 2 ^ 26) (hv : v < 2 ^ 32) :
    s.hostWrite p a (leBytes 4 v) = s.putWord p a v := by
  have hlen := length_leBytes 4 v
  have hlt : a < 2 ^ 26 := by omega
  rw [← State.hostWriteWord_open v hopen]
  unfold State.hostWrite
  cases p with
  | pcie =>
    have hskip : (4 - a % 4) % 4 = 0 := by rw [ha]
    dsimp only
    rw [if_neg (by omega), hskip, Nat.add_zero, List.drop_zero, State.writeWords_word _ _ hv]
  | spi =>
    have haddr : spiAddress a = true := by rw [spiAddress, decide_eq_true ha, decide_eq_true hlt]; rfl
    simp only [if_pos haddr, State.writeWords_word _ _ hv]
  | remote e => simp only [hlen, ha, hlt, and_self, if_true, State.writeWords_word _ _ hv]

/-! ### What the kind of the word decides -/

theorem State.putWord_area (v : Nat) (h : inArea a = true) : s.putWord p a v = s.areaWrite a (leBytes 4 v) := if_pos h

theorem State.hostReadWord_area (m : Nat) (h : inArea a = true) :
    s.hostReadWord p a m = (leNat (readBytes blank s.host.area a 4), s) := if_pos h

section Outside
variable (harea : inArea a = false)
include harea

theorem State.putWord_unmapped (v : Nat) (h : regAt a = none) : s.putWord p a v = s.unmapped a := by
  simp only [State.putWord, harea, h, Bool.false_eq_true, if_false]

theorem State.hostReadWord_unmapped (m : Nat) (h : regAt a = none) : s.hostReadWord p a m = (0, s.unmapped a) := by
  simp only [State.hostReadWord, harea, h, Bool.false_eq_true, if_false]

variable {d : RegDesc} {i : Nat}

theorem State.putWord_register (v : Nat) {hi : Bool} (h : regAt a = some (d, i, hi)) (hd : d.pair = false) :
    s.putWord p a v = s.writeReg p.port d i a v := by
  simp only [State.putWord, harea, h, hd, Bool.false_eq_true, if_false]

theorem State.putWord_pairLow (v : Nat) (h : regAt a = some (d, i, false)) (hd : d.pair = true) :
    s.putWord p a v = s.writeLow p a v := by
  simp only [State.putWord, harea, h, hd, Bool.false_eq_true, if_false, if_true]

theorem State.putWord_pairHigh (v : Nat) (h : regAt a = some (d, i, true)) (hd : d.pair = true) :
    s.putWord p a v = s.commitPair p d i (a - 4) v := by
  simp only [State.putWord, harea, h, hd, Bool.false_eq_true, if_false, if_true]

theorem State.hostReadWord_register (m : Nat) {hi : Bool} (h : regAt a = some (d, i, hi)) (hd : d.pair = false)
    (hdeck : d.base ≠ 0x20024) :
    s.hostReadWord p a m = ((s.readValue d false a).1, (s.readValue d false a).2.afterRead d i a m) := by
  simp only [State.hostReadWord, harea, h, hd, hdeck, Bool.false_eq_true, false_and, if_false]

end Outside

/-- The registers whose write has an effect of its own; every other takes a write by its access codes alone. -/
theorem State.writeReg_plain (port : Nat) {d : RegDesc} (i v : Nat)
    (h : d.base ∉ [0x18, 0x88, 0x8C, 0x10000, 0x20000, 0x20010, 0x20024, 0x21000, 0x21014, 0x21018, 0x21400, 0x2140C,
      0x40000, 0x40028, 0x4002C, 0x4003C, 0x60040, 0x80000, 0x80008, 0x80020, 0x80038, 0xA0000, 0xA0040, 0xE0008,
      0x100000, 0x100200, 0x120100, 0x120104, 0x120108, 0x1C0100, 0x200004, 0x200008, 0x20000C, 0x200010, 0x200014,
      0x200100, 0x200104, 0x200108, 0x240004, 0x30000C]) : s.writeReg port d i a v = s.writePlain d a v := by
  unfold State.writeReg
  split
  case h_41 => rfl
  all_goals rename_i hb; exact absurd (by rw [hb]; decide) h

end Sys2Proof.Machine

/-! SUPPORT. Pairs (R6): what a read latches, what a write stages and commits. -/

namespace Sys2Proof.Machine

variable {s : State} {p o : Path} {a i : Nat} {d : RegDesc}

theorem Path.num_lt (p : Path) : p.num < 8 := by
  cases p with
  | pcie | spi => decide
  | remote e => simp only [Path.num]; omega

theorem Path.eq_of_num_eq (h : o.num = p.num) : o = p := by
  match o, p with
  | .pcie, .pcie | .spi, .spi => rfl
  | .remote e, .remote f => exact congrArg Path.remote (Fin.ext (Nat.add_left_cancel h))
  | .pcie, .spi | .spi, .pcie | .pcie, .remote _ | .remote _, .pcie | .spi, .remote _ | .remote _, .spi =>
    simp only [Path.num] at h
    omega

/-- Snapshots and staged halves of two paths are kept apart. -/
theorem pathKey_ne (h : o ≠ p) (a b : Nat) : pathKey o b ≠ pathKey p a := by
  have hnum : o.num ≠ p.num := fun he => h (Path.eq_of_num_eq he)
  have ho := Path.num_lt o
  have hp := Path.num_lt p
  simp only [pathKey]
  omega

/-! ### Reads -/

theorem State.adapted_of_not_moved (h : movedByRead a = false) : s.adapted a = s := by
  simp only [movedByRead, Bool.or_eq_false_iff, decide_eq_false_iff_not] at h
  obtain ⟨⟨⟨⟨⟨hno, -⟩, -⟩, -⟩, -⟩, -⟩ := h
  exact if_neg fun ⟨h1, h2, h3, _⟩ => hno ⟨h1, h2, h3⟩

theorem State.measured_of_not_moved (h : movedByRead a = false) : s.measured a = none := by
  simp only [movedByRead, Bool.or_eq_false_iff, decide_eq_false_iff_not] at h
  obtain ⟨⟨⟨⟨⟨-, h1⟩, h2⟩, h3⟩, h4⟩, h5⟩ := h
  rw [State.measured, if_neg h1, if_neg h2, if_neg h3, if_neg h4, if_neg h5]

theorem State.readValue_of_not_moved (hi : Bool) (h : movedByRead a = false) : (s.readValue d hi a).2 = s := by
  simp only [State.readValue, State.adapted_of_not_moved h, State.measured_of_not_moved h]

theorem pair_still {hi : Bool} (h : regAt a = some (d, i, hi)) (hd : d.pair = true) : movedByRead a = false := by
  obtain ⟨hmem, hlt, rfl⟩ := regAt_eq_some h
  exact (pair_not_movedByRead d hmem hd).2 i hlt hi

theorem pair_base_ne {hi : Bool} (h : regAt a = some (d, i, hi)) (hd : d.pair = true) : d.base ≠ 0x20024 :=
  (pair_not_movedByRead d (regAt_eq_some h).1 hd).1

/-- The state with the high half of a pair latched for a path. -/
def State.latchHigh (s : State) (p : Path) (a v : Nat) : State :=
  { s with host := { s.host with snaps := Sparse.set s.host.snaps (pathKey p a) (BitVec.ofNat 32 v) } }

theorem State.find_latchHigh_same (v : Nat) :
    Sparse.find (s.latchHigh p a v).host.snaps (pathKey p a) = some (BitVec.ofNat 32 v) := Sparse.find_set_self _ _ _

theorem State.find_latchHigh_other (v b : Nat) (h : o ≠ p) :
    Sparse.find (s.latchHigh p a v).host.snaps (pathKey o b) = Sparse.find s.host.snaps (pathKey o b) :=
  Sparse.find_set_ne _ _ (pathKey_ne h a b)

theorem State.hostReadWord_pairLow (m : Nat) (harea : inArea a = false) (h : regAt a = some (d, i, false))
    (hhi : regAt (a + 4) = some (d, i, true)) (hd : d.pair = true) :
    s.hostReadWord p a m = ((s.readValue d false a).1, s.latchHigh p a (s.readValue d true (a + 4)).1) := by
  simp only [State.hostReadWord, harea, h, hd, pair_base_ne h hd, Bool.false_eq_true, and_false, if_false, if_true,
    State.readValue_of_not_moved _ (pair_still h hd), State.readValue_of_not_moved _ (pair_still hhi hd), State.latchHigh]

theorem State.hostReadWord_pairHigh (m : Nat) (harea : inArea a = false) (h : regAt a = some (d, i, true)) (hd : d.pair = true) :
    s.hostReadWord p a m = ((Sparse.get 0 s.host.snaps (pathKey p (a - 4))).toNat, s) := by
  simp only [State.hostReadWord, harea, h, hd, pair_base_ne h hd, Bool.false_eq_true, and_self, if_false, if_true]

/-! ### Writes -/

theorem State.stagedLow_stageLow_same (v : Word) : (s.stageLow p a v.toNat).stagedLow p a = some v.toNat := by
  simp only [State.stagedLow, State.stageLow, Sparse.find_set_self, Option.map_some, BitVec.ofNat_toNat, BitVec.setWidth_eq]

theorem State.stagedLow_stageLow_other (v b : Nat) (h : o ≠ p) : (s.stageLow p a v).stagedLow o b = s.stagedLow o b := by
  simp only [State.stagedLow, State.stageLow, Sparse.find_set_ne _ _ (pathKey_ne h a b)]

/-- The state with nothing staged by a path for a pair. -/
def State.unstage (s : State) (p : Path) (a : Nat) : State :=
  { s with host := { s.host with staged := Sparse.erase s.host.staged (pathKey p a) } }

theorem State.stagedLow_unstage : (s.unstage p a).stagedLow p a = none := by
  simp only [State.stagedLow, State.unstage, Sparse.find_erase, if_true, Option.map_none]

theorem State.commitPair_staged {low : Nat} (v : Nat) (h : s.stagedLow p a = some low) :
    s.commitPair p d i a v = (s.unstage p a).writePair d i a (low + 2 ^ 32 * v) := by
  simp only [State.commitPair, h, State.unstage]

theorem State.commitPair_unstaged (v : Nat) (h : s.stagedLow p a = none) :
    s.commitPair p d i a v = (s.unstage p a).writeHigh d i a v := by
  simp only [State.commitPair, h, State.unstage]

theorem State.cur_setWord_same (w : Word) : (s.setWord a w).cur a = w := State.word_setWord_same s a _ w

theorem State.cur_writeHigh_of_clearing (v : Nat) (h : (d.fields.any fun f => f.acc = .w1c ∨ f.acc = .w1s) = true) :
    (s.writeHigh d i a v).cur a = s.cur a := by
  rw [State.writeHigh, if_pos h, State.cur_setWord_same]

section Low
variable (h : regAt a = some (d, i, false)) (hd : d.pair = true)
include h hd

theorem State.writeLow_outside_chk (v : Nat) (hout : a < 0x40000 ∨ 0x40800 ≤ a ∨ d.base = 0x40030) :
    s.writeLow p a v = s.stageLow p a v := by
  obtain ⟨hmem, hlt, rfl⟩ := regAt_eq_some h
  have hchk := chk_pairs d hmem hd i hlt
  simp only [b2n, Bool.false_eq_true, if_false, Nat.mul_zero, Nat.add_zero] at hout ⊢
  refine if_neg ?_
  rintro ⟨h1, h2, h3⟩
  have hbase : d.base = 0x40030 := by omega
  rw [if_pos hbase] at hchk
  rw [hchk h1 h2] at h3
  exact absurd h3 (by decide)

theorem State.writeLow_chk (v : Nat) (h1 : 0x40000 ≤ a) (h2 : a < 0x40800) (hbase : d.base ≠ 0x40030) :
    s.writeLow p a v = s.chkGuard i fun s => s.stageLow p a v := by
  obtain ⟨hmem, hlt, rfl⟩ := regAt_eq_some h
  have hchk := chk_pairs d hmem hd i hlt
  simp only [b2n, Bool.false_eq_true, if_false, Nat.mul_zero, Nat.add_zero] at h1 h2 ⊢
  rw [if_neg hbase] at hchk
  obtain ⟨hoff, hunit⟩ := hchk h1 h2
  rw [State.writeLow, if_pos ⟨h1, h2, hoff⟩, hunit]

end Low

theorem State.chkGuard_internal (act : State → State) (h : i < 8) : s.chkGuard i act = s := if_pos h

theorem State.chkGuard_busy (act : State → State) (h : 8 ≤ i) (hb : s.flag CHK_STATUS.BUSY i = true) :
    s.chkGuard i act = s.setFlag CHK_STATUS.COLLIDE true i := by
  rw [State.chkGuard, if_neg (by omega), if_pos hb]

theorem State.chkGuard_free (act : State → State) (h : 8 ≤ i) (hb : s.flag CHK_STATUS.BUSY i = false) :
    s.chkGuard i act = act s := by
  rw [State.chkGuard, if_neg (by omega), if_neg (by rw [hb]; decide)]

/-! ### The commands of pairs -/

section Commands
variable (hawake : s.awake = true)
include hawake

theorem exec_pairLoRead (h : regAt a = some (d, i, false)) (hd : d.pair = true) :
    exec (.pairLoRead p a) s = .next (s.hostRead p a 4 0) := by
  show Host.Outcome.next (s.guarded (onPairLoRead p a)) = _
  simp only [State.guarded_of_awake _ hawake, onPairLoRead, h, hd, if_true]

theorem exec_pairLoWrite (v : Word) (h : regAt a = some (d, i, false)) (hd : d.pair = true) :
    exec (.pairLoWrite p a v) s = .next (s.hostWriteWord p a v.toNat) := by
  show Host.Outcome.next (s.guarded (onPairLoWrite p a v)) = _
  simp only [State.guarded_of_awake _ hawake, onPairLoWrite, h, hd, if_true]

theorem exec_pairHiWrite (v : Word) (h : regAt a = some (d, i, true)) :
    exec (.pairHiWrite p a v) s = .next (s.hostWriteWord p a v.toNat) := by
  show Host.Outcome.next (s.guarded (onPairHiWrite p a v)) = _
  simp only [State.guarded_of_awake _ hawake, onPairHiWrite, h]

end Commands

end Sys2Proof.Machine

/-! SUPPORT. Registers under their access codes alone (R7, R8, R9). -/

namespace Sys2Proof.Machine

variable {s : State} {a i : Nat} {d : RegDesc}

theorem State.cur_writePlain (v : Nat) :
    ((s.writePlain d a v).cur a).toNat = d.fields.foldl (writeField v) (s.cur a).toNat % 2 ^ 32 := by
  rw [State.writePlain, State.cur_setWord_same, BitVec.toNat_ofNat]

/-- What a read leaves of its register: RC fields cleared. The register of UC_BANKS is another one. -/
theorem State.cur_afterRead (m : Nat) (h : d.base = DECK_ECC.CE.base → a ≠ DECK_STATUS.UC_BANKS.addr 0) :
    ((s.afterRead d i a m).cur a).toNat =
      if d.fields.any (fun f => f.acc = .rc) then d.fields.foldl (clearRead m) (s.cur a).toNat % 2 ^ 32 else (s.cur a).toNat := by
  have hecc : ∀ u : State, d.base = DECK_ECC.CE.base → ∀ v, (u.setFld DECK_STATUS.UC_BANKS v).cur a = u.cur a :=
    fun u hd v => State.word_setFld_ne u v _ (h hd)
  unfold State.afterRead
  split_ifs with hrc hbase hbase
  · rw [hecc _ hbase, State.cur_setWord_same, BitVec.toNat_ofNat]
  · rw [State.cur_setWord_same, BitVec.toNat_ofNat]
  · rw [hecc _ hbase]
  · rfl

theorem State.testBit_writePlain_rest (v : Nat) {j : Nat} (hj : j < 32)
    (hout : ∀ f ∈ d.fields, j < f.lo ∨ f.lo + f.width ≤ j) :
    ((s.writePlain d a v).cur a).toNat.testBit j = (s.cur a).toNat.testBit j := by
  refine testBit_eq_of_bits_eq ?_
  rw [State.cur_writePlain, bits_mod_two_pow _ hj, (fieldWise_writeField v).bits_foldl_rest _ _ hout]

section Plain
variable (h : regAt a = some (d, i, false)) (hd : d.pair = false)
include h hd

theorem regAt_fields : d.fields.Pairwise FieldDesc.apart ∧ ∀ f ∈ d.fields, 0 < f.width ∧ f.lo + f.width ≤ 32 :=
  fields_in_word d (regAt_eq_some h).1 hd

theorem State.field_writePlain (v : Nat) {f : FieldDesc} (hf : f ∈ d.fields) :
    bits ((s.writePlain d a v).cur a).toNat f.lo f.width = f.written v (bits (s.cur a).toNat f.lo f.width) := by
  obtain ⟨hapart, hin⟩ := regAt_fields h hd
  rw [State.cur_writePlain, bits_mod_two_pow _ (hin f hf).2, (fieldWise_writeField v).bits_foldl_own _ hapart hf]

theorem State.field_afterRead (m : Nat) {f : FieldDesc} (hf : f ∈ d.fields) :
    bits ((s.afterRead d i a m).cur a).toNat f.lo f.width =
      if f.acc = .rc then bits m f.lo 1 else bits (s.cur a).toNat f.lo f.width := by
  obtain ⟨hapart, hin⟩ := regAt_fields h hd
  obtain ⟨hwidth, hword⟩ := hin f hf
  obtain ⟨hmem, hlt, ha⟩ := regAt_eq_some h
  rw [State.cur_afterRead m fun hbase => ha ▸ deckStatus_ne_deckEcc d hmem hbase i hlt]
  split
  · have hone : bits m f.lo 1 < 2 ^ f.width := (bits_lt m f.lo 1).trans_le (Nat.pow_le_pow_right (by omega) hwidth)
    rw [bits_mod_two_pow _ hword, (fieldWise_clearRead m).bits_foldl_own _ hapart hf, FieldDesc.cleared, Nat.mod_eq_of_lt hone]
  · next hno =>
    rw [if_neg fun hrc => hno (List.any_eq_true.mpr ⟨f, hf, decide_eq_true hrc⟩)]

end Plain

theorem State.word_writePlain_ne (v : Nat) {b : Nat} (rst : Nat) (h : b ≠ a) : (s.writePlain d a v).word b rst = s.word b rst :=
  State.word_setWord_ne s rst _ h

end Sys2Proof.Machine

/-! THEOREMS. The statements of spec/00_scope.md: accesses of words and of pairs, every command completes. -/

namespace Sys2Proof.Machine

/-! ### Accesses of one word -/

section Word
variable {s : State} {p : Path} {a v m : Nat} (hawake : s.awake = true) (hopen : s.pathOpen p = true) (ha : a % 4 = 0)
  (hb : a + 4 ≤ 2 ^ 26)
include hawake hopen ha hb

theorem exec_registerWrite_word (hv : v < 2 ^ 32) :
    exec (.registerWrite p a (leBytes 4 v)) s = .next (s.putWord p a v) := by
  rw [exec_registerWrite _ hawake, State.hostWrite_word hopen ha hb hv]

theorem exec_readClear_word :
    exec (.readClear p a 4 m) s = .next ((s.hostReadWord p a m).2.reply p (leBytes 4 (s.hostReadWord p a m).1)) := by
  rw [exec_readClear _ _ hawake, State.hostRead_word m hopen ha hb]

end Word

theorem State.pathOpen_pcie {s : State} (h : s.portOn 0 = true) : s.pathOpen .pcie = true :=
  (Bool.and_true _).trans h

/-- A PCIe read of any width moves the words that it touches in ascending order (R5). -/
theorem State.hostRead_pcie {s : State} {a n : Nat} (m : Nat) (hon : s.portOn 0 = true) (hn : 0 < n) (hb : a + n ≤ 2 ^ 26) :
    s.hostRead .pcie a n m = (State.readWords nextWord .pcie m (a / 4 * 4) (wordSpan a n) s).2.reply .pcie
      (bytesAt (State.readWords nextWord .pcie m (a / 4 * 4) (wordSpan a n) s).1 (a % 4) n) := by
  rw [State.hostRead, if_neg (by simp [State.pathOpen_pcie hon, hn.ne'])]
  exact if_pos hb

/-- A PCIe write that covers no whole word (R5). -/
theorem State.hostWrite_pcie_partial {s : State} {a : Nat} {bs : List Byte} (h : (a + bs.length) / 4 ≤ (a + 3) / 4) :
    s.hostWrite .pcie a bs = s := by
  have hshort : (bs.drop ((4 - a % 4) % 4)).length < 4 := by rw [List.length_drop]; omega
  unfold State.hostWrite
  dsimp only
  split
  · rfl
  · exact State.writeWords_short _ hshort

/-- Settles O13: each path's word access reduces to one write or one read of the word, whose kind decides; the fields of a
register that is no pair share no bit, so a fold over them treats each once. -/
theorem wordAccess : Obligations.WordAccess := by
  unfold Obligations.WordAccess
  refine ⟨fun s p a v m hawake hopen ha hb hv => ?_, fun s a v m i d h hd => ?_, fun s a n m bs hawake hon hn hb => ?_⟩
  · rw [exec_registerWrite_word hawake hopen ha hb hv, exec_readClear_word hawake hopen ha hb]
    refine ⟨fun harea => ?_, fun harea h => ?_, fun d i harea h hd => ⟨?_, fun hdeck => ?_, State.writeReg_plain _ _ _⟩,
      fun d i harea h hd => ?_, fun d i harea h hd => ?_⟩
    · rw [State.putWord_area v harea, State.hostReadWord_area m harea]
      exact ⟨rfl, rfl⟩
    · have hzero : leBytes 4 0 = [0, 0, 0, 0] := by decide
      rw [State.putWord_unmapped harea v h, State.hostReadWord_unmapped harea m h, hzero]
      exact ⟨rfl, rfl⟩
    · rw [State.putWord_register harea v h hd]
    · rw [State.hostReadWord_register harea m h hd hdeck]
    · rw [State.putWord_pairHigh harea v h hd]
    · rw [State.putWord_pairLow harea v h hd]
  · refine ⟨fun f hf => ?_, fun j hj hout => State.testBit_writePlain_rest v hj hout,
      fun b rst hne => State.word_writePlain_ne v rst hne, rfl⟩
    dsimp only
    rw [State.field_writePlain h hd v hf]
    exact ⟨FieldDesc.written_rw, FieldDesc.testBit_written_w1c, FieldDesc.testBit_written_w1s, FieldDesc.written_kept,
      State.field_afterRead h hd m hf⟩
  · refine ⟨?_, fun _ hpart => ?_⟩
    · rw [exec_readClear _ _ hawake, State.hostRead_pcie m hon hn hb]
    · rw [exec_registerWrite _ hawake, State.hostWrite_pcie_partial hpart]

/-! ### Accesses of pairs -/

/-- Settles O14: a read of the low half latches and a write of it stages under the path's own key; the high half answers or
commits what stands under that key. -/
theorem pairAccess : Obligations.PairAccess := by
  unfold Obligations.PairAccess
  intro s p o d i a v hawake hopen ha hb harea hareaHi hd h hhi
  refine ⟨⟨(s.latchHigh p a (s.readValue d true (a + 4)).1).reply p (leBytes 4 (s.readValue d false a).1), ?_, rfl, rfl,
    State.find_latchHigh_same _, fun hne b => State.find_latchHigh_other _ b hne⟩, ?_, fun hout => ?_, fun h1 h2 hbase => ?_,
    ⟨State.stagedLow_stageLow_same v, rfl, fun hne => State.stagedLow_stageLow_other _ _ hne⟩, fun low hlow => ?_, fun hnone => ?_,
    fun hclear => ?_, State.stagedLow_unstage⟩
  · rw [exec_pairLoRead hawake h hd, State.hostRead_word 0 hopen ha (by omega), State.hostReadWord_pairLow 0 harea h hhi hd]
  · rw [exec_readClear_word hawake hopen (by omega) hb, State.hostReadWord_pairHigh 0 hareaHi hhi hd, Nat.add_sub_cancel]
  · rw [exec_pairLoWrite hawake v h hd, State.hostWriteWord_open _ hopen, State.putWord_pairLow harea _ h hd,
      State.writeLow_outside_chk h hd _ hout]
  · rw [exec_pairLoWrite hawake v h hd, State.hostWriteWord_open _ hopen, State.putWord_pairLow harea _ h hd,
      State.writeLow_chk h hd _ h1 h2 hbase]
    exact ⟨fun hi => by rw [State.chkGuard_internal _ hi], fun hi hfree => by rw [State.chkGuard_free _ hi hfree],
      fun hi hbusy => by rw [State.chkGuard_busy _ hi hbusy]⟩
  · rw [exec_pairHiWrite hawake v hhi, State.hostWriteWord_open _ hopen, State.putWord_pairHigh hareaHi _ hhi hd, Nat.add_sub_cancel,
      State.commitPair_staged _ hlow]
    rfl
  · rw [exec_pairHiWrite hawake v hhi, State.hostWriteWord_open _ hopen, State.putWord_pairHigh hareaHi _ hhi hd, Nat.add_sub_cancel,
      State.commitPair_unstaged _ hnone]
    rfl
  · rw [State.cur_writeHigh_of_clearing _ hclear]
    rfl

/-! ### Every command completes -/

theorem exec_next (c : Instr) (s : State) : ∃ t, exec c s = .next t := by
  cases c <;> exact ⟨_, rfl⟩

/-- Settles O7: every arm of the dispatcher answers a next state, and so does a cycle without a command. -/
theorem everyCommandCompletes : Obligations.EveryCommandCompletes := by
  unfold Obligations.EveryCommandCompletes
  refine ⟨exec_next, fun s => ?_⟩
  unfold step
  split
  · exact exec_next _ _
  · exact ⟨_, rfl⟩

end Sys2Proof.Machine

/-! THEOREMS. Deck through BAR2 and through the deck pair (R29, R45). -/

namespace Sys2Proof.Machine

section Deck
variable {s : State} {p : Path} {a n : Nat} {bs : List Byte}

/-! ### The window BAR2 -/

section Awake
variable (hawake : s.awake = true)
include hawake

theorem exec_bar2Read (hon : s.portOn 0 = true) (h : inBar2 a n = true) :
    exec (.bar2Read a n) s = .next ((s.hostDeckRead 0 a n).2.reply .pcie (s.hostDeckRead 0 a n).1) :=
  congrArg _ ((State.guarded_of_awake _ hawake).trans (if_pos ⟨hon, h⟩))

theorem exec_bar2Write (hon : s.portOn 0 = true) (h : inBar2 a bs.length = true) :
    exec (.bar2Write a bs) s = .next (s.hostDeckWrite 0 a bs) :=
  congrArg _ ((State.guarded_of_awake _ hawake).trans (if_pos ⟨hon, h⟩))

theorem exec_bar2Read_outside (h : inBar2 a n = false) : exec (.bar2Read a n) s = .next s :=
  congrArg _ ((State.guarded_of_awake _ hawake).trans (if_neg fun hin => by simp [h] at hin))

theorem exec_bar2Write_outside (h : inBar2 a bs.length = false) : exec (.bar2Write a bs) s = .next s :=
  congrArg _ ((State.guarded_of_awake _ hawake).trans (if_neg fun hin => by simp [h] at hin))

end Awake

/-! ### What a host path reads and writes of deck -/

theorem State.hostDeckRead_refused (port : Nat) (h : s.deckRefused false a n = true) :
    s.hostDeckRead port a n = (List.replicate n 0, s.refuseDeck a port) := if_pos h

theorem State.hostDeckRead_allowed (port : Nat) (h : s.deckRefused false a n = false) :
    s.hostDeckRead port a n = s.deckRead a n 4 := if_neg (by simp [h])

theorem State.hostDeckWrite_refused (port : Nat) (h : s.deckRefused true a bs.length = true) :
    s.hostDeckWrite port a bs = s.refuseDeck a port := if_pos h

theorem State.hostDeckWrite_allowed (port : Nat) (h : s.deckRefused true a bs.length = false) :
    s.hostDeckWrite port a bs = s.deckWrite a bs fun _ => 4 := if_neg (by simp [h])

/-! ### The deck pair -/

/-- HIF_DECK_DATA is a register, and no pair (Table 22-4). -/
theorem regAt_deckData : ∃ d, regAt 0x20024 = some (d, 0, false) ∧ d.base = 0x20024 ∧ d.pair = false :=
  ⟨_, rfl, rfl, rfl⟩

theorem State.hostReadWord_deckData (m : Nat) : s.hostReadWord p 0x20024 m = s.deckPairRead p.port := by
  obtain ⟨d, hreg, hbase, -⟩ := regAt_deckData
  have harea : inArea 0x20024 = false := by decide
  simp only [State.hostReadWord, harea, hreg, hbase, Bool.false_eq_true, if_false, if_true]

theorem State.putWord_deckData (v : Nat) : s.putWord p 0x20024 v = s.deckPairWrite p.port v := by
  obtain ⟨d, hreg, hbase, hpair⟩ := regAt_deckData
  simp only [State.putWord_register (by decide) v hreg hpair, State.writeReg, hbase]

theorem exec_deckDataRead (hawake : s.awake = true) (hopen : s.pathOpen p = true) :
    exec (.deckDataRead p) s = .next ((s.deckPairRead p.port).2.reply p (leBytes 4 (s.deckPairRead p.port).1)) :=
  congrArg _ <| calc s.guarded (onDeckDataRead p)
    _ = s.hostRead p 0x20024 4 0 := State.guarded_of_awake _ hawake
    _ = _ := by rw [State.hostRead_word 0 hopen (by decide) (by decide), State.hostReadWord_deckData]

theorem exec_deckDataWrite (v : Word) (hawake : s.awake = true) (hopen : s.pathOpen p = true) :
    exec (.deckDataWrite p v) s = .next (s.deckPairWrite p.port v.toNat) :=
  congrArg _ <| calc s.guarded (onDeckDataWrite p v)
    _ = s.hostWriteWord p 0x20024 v.toNat := State.guarded_of_awake _ hawake
    _ = _ := by rw [State.hostWriteWord_open _ hopen, State.putWord_deckData]

theorem State.deckPairRead_refused (port : Nat) (h : s.deckRefused false (4 * s.fld HIF_DECK_ADDR.ADDR) 4 = true) :
    s.deckPairRead port = (0, (s.refuseDeck (4 * s.fld HIF_DECK_ADDR.ADDR) port).deckNext) := by
  rw [State.deckPairRead, State.hostDeckRead_refused port h]
  rfl

theorem State.deckPairRead_allowed (port : Nat) (h : s.deckRefused false (4 * s.fld HIF_DECK_ADDR.ADDR) 4 = false) :
    s.deckPairRead port = (leNat (s.deckRead (4 * s.fld HIF_DECK_ADDR.ADDR) 4 4).1,
      (s.deckRead (4 * s.fld HIF_DECK_ADDR.ADDR) 4 4).2.deckNext) := by
  rw [State.deckPairRead, State.hostDeckRead_allowed port h]

/-- The word address has 24 bits. -/
theorem State.fld_deckNext : s.deckNext.fld HIF_DECK_ADDR.ADDR = (s.fld HIF_DECK_ADDR.ADDR + 1) % 2 ^ 24 :=
  State.fld_setFld_same _ _ _ _ (by decide)

end Deck

/-- Settles O15: BAR2 and the deck pair share the refusals of `hostDeckRead` and `hostDeckWrite`; an access to HIF_DECK_DATA is the
word access of a register that is moved by `deckPairRead` and `deckPairWrite`. -/
theorem deckAccess : Obligations.DeckAccess := by
  unfold Obligations.DeckAccess
  intro s p a n bs v hawake
  refine ⟨fun hon hin => ?_, fun hon hin => ?_, exec_bar2Read_outside hawake, exec_bar2Write_outside hawake, fun hopen => ?_, ?_,
    State.fld_deckNext⟩
  · rw [exec_bar2Read hawake hon hin]
    exact ⟨fun h => by rw [State.hostDeckRead_refused 0 h], fun h => by rw [State.hostDeckRead_allowed 0 h]⟩
  · rw [exec_bar2Write hawake hon hin]
    exact ⟨fun h => by rw [State.hostDeckWrite_refused 0 h], fun h => by rw [State.hostDeckWrite_allowed 0 h]⟩
  · exact ⟨exec_deckDataRead hawake hopen, exec_deckDataWrite v hawake hopen⟩
  · have hlen := length_leBytes 4 v.toNat
    refine ⟨State.deckPairRead_refused p.port, State.deckPairRead_allowed p.port, fun h => ?_, fun h => ?_⟩
    · exact State.hostDeckWrite_refused _ (by rwa [hlen])
    · exact State.hostDeckWrite_allowed _ (by rwa [hlen])

end Sys2Proof.Machine

/-! THEOREMS. Fetching and starting commands (R30, R48, R49, R52, R53, R480). -/

namespace Sys2Proof.Machine

section Fetch
variable {s : State} {n : Nat} {q : Fin 24} {tag : Nat} {c : Cmd}

/-! ### The queue served next -/

/-- The queue served next is one of the 24, with an entry and with room for its completion. -/
theorem State.nextQueue_spec (h : s.nextQueue = some n) : s.hasEntries n = true ∧ s.hasRoom n = true ∧ n < 24 := by
  have hboth := List.find?_some h
  obtain ⟨k, -, rfl⟩ := List.mem_map.mp (List.mem_of_find?_eq_some h)
  obtain ⟨hentries, hroom⟩ := Bool.and_eq_true_iff.mp hboth
  exact ⟨hentries, hroom, Nat.mod_lt _ (by decide)⟩

/-! ### What a fetch takes -/

/-- What an abort left for the entry at the head of a queue. -/
def State.headDiscard (s : State) (n : Nat) : Option Discard :=
  s.host.discards.find? fun d => d.q = n ∧ d.slot = s.fld HIF_Q_STATUS.SQ_HEAD n

/-- The command that the entry at the head of a queue spells. -/
def State.headCmd (s : State) (n : Nat) : Cmd :=
  { cmdOfRecord n (s.fld HIF_Q_STATUS.SQ_HEAD n) (s.record n (s.fld HIF_Q_STATUS.SQ_HEAD n)) with
    id := s.host.fetched, aborts := ((s.headDiscard n).map (·.aborts)).getD [] }

/-- The status of the check that the entry at the head of a queue fails, if it fails one. -/
def State.headFailure (s : State) (n : Nat) : Option Nat :=
  s.checkCmd { cmdOfRecord n (s.fld HIF_Q_STATUS.SQ_HEAD n) (s.record n (s.fld HIF_Q_STATUS.SQ_HEAD n)) with id := s.host.fetched }
    (s.record n (s.fld HIF_Q_STATUS.SQ_HEAD n))

/-- The state with the entry at the head of a queue fetched and its command outstanding. -/
def State.headTaken (s : State) (n : Nat) : State :=
  let slot := s.fld HIF_Q_STATUS.SQ_HEAD n
  let t := s.setFld HIF_Q_STATUS.SQ_HEAD ((slot + 1) % s.sqSize n) n
  { t with host := { t.host with
    lastServed := n, cmds := t.host.cmds ++ [s.headCmd n], fetched := t.host.fetched + 1
    discards := t.host.discards.filter fun d => ¬ (d.q = n ∧ d.slot = slot) } }

/-- A fetch discards the command, refuses it, starts it or lets it wait. -/
theorem State.fetch_eq (s : State) (n : Nat) : s.fetch n =
    if (s.headDiscard n).isSome then (s.headTaken n).finish (s.headCmd n) stAborted
    else match s.headFailure n with
      | some st => (s.headTaken n).finish (s.headCmd n) st
      | none => if (s.headTaken n).canStart (s.headCmd n) then (s.headTaken n).startCmd (s.headCmd n) else s.headTaken n := by
  unfold State.fetch
  change (match s.headDiscard n, s.headFailure n with
    | some _, _ => (s.headTaken n).finish (s.headCmd n) stAborted
    | none, some st => (s.headTaken n).finish (s.headCmd n) st
    | none, none => if (s.headTaken n).canStart (s.headCmd n) then (s.headTaken n).startCmd (s.headCmd n) else s.headTaken n) = _
  cases s.headDiscard n with
  | some d => rfl
  | none => cases s.headFailure n <;> rfl

/-! ### How a command starts -/

/-- A command as its start leaves it (R53). -/
def State.begun (s : State) (c : Cmd) : Cmd :=
  { c with phase := .started, since := s.clock, late := decide (bits c.flags 1 1 = 1) && decide (c.startTime < s.now) }

/-- Only runs of check units, verifications and decisions do more as they start. -/
theorem State.startCmd_plain (h : c.opcode ∉ [0x1601, 0x0203, 0x0002]) : s.startCmd c = s.setCmd (s.begun c) := by
  simp only [List.mem_cons, List.not_mem_nil, or_false, not_or] at h
  obtain ⟨hrun, hverify, hdecide⟩ := h
  exact (if_neg hrun).trans ((if_neg hverify).trans (if_neg fun hd => hdecide hd.1))

/-! ### The two commands -/

section Awake
variable (hawake : s.awake = true)
include hawake

theorem exec_commandFetch_held (h : s.restarting = true ∨ s.flag FWU_STATUS.RECOVERY = true) :
    exec .commandFetch s = .next s :=
  congrArg _ ((State.guarded_of_awake onCommandFetch hawake).trans (if_pos h))

theorem exec_commandFetch_served (hrun : s.restarting = false) (hnormal : s.flag FWU_STATUS.RECOVERY = false)
    (hn : s.nextQueue = some n) : exec .commandFetch s = .next (s.fetch n).showStalled := by
  show Host.Outcome.next (s.guarded onCommandFetch) = _
  rw [State.guarded_of_awake _ hawake, onCommandFetch, if_neg (by simp [hrun, hnormal]), hn]

theorem exec_commandFetch_idle (hrun : s.restarting = false) (hnormal : s.flag FWU_STATUS.RECOVERY = false)
    (hnone : s.nextQueue = none) : exec .commandFetch s = .next s.showStalled := by
  show Host.Outcome.next (s.guarded onCommandFetch) = _
  rw [State.guarded_of_awake _ hawake, onCommandFetch, if_neg (by simp [hrun, hnormal]), hnone]

theorem exec_commandStartAtTime_restarting (h : s.restarting = true) : exec (.commandStartAtTime q tag) s = .next s :=
  congrArg _ ((State.guarded_of_awake (onCommandStartAtTime q tag) hawake).trans (if_pos h))

theorem exec_commandStartAtTime_waiting (hrun : s.restarting = false)
    (h : s.host.cmds.find? (fun c => c.q = q.val ∧ c.tag = tag ∧ c.phase = .waiting) = some c) :
    exec (.commandStartAtTime q tag) s = .next (if s.canStart c then s.startCmd c else s) := by
  show Host.Outcome.next (s.guarded (onCommandStartAtTime q tag)) = _
  rw [State.guarded_of_awake _ hawake, onCommandStartAtTime, if_neg (by simp [hrun]), h]

theorem exec_commandStartAtTime_none (h : s.host.cmds.find? (fun c => c.q = q.val ∧ c.tag = tag ∧ c.phase = .waiting) = none) :
    exec (.commandStartAtTime q tag) s = .next s := by
  show Host.Outcome.next (s.guarded (onCommandStartAtTime q tag)) = _
  rw [State.guarded_of_awake _ hawake, onCommandStartAtTime, h]
  exact congrArg _ (ite_self s)

end Awake

end Fetch

/-- Settles O21: a fetch leaves the state with the head's command outstanding (`headTaken`), on which the mark of an abort, the check
and the start conditions decide in this order. -/
theorem fetchAndStart : Obligations.FetchAndStart := by
  unfold Obligations.FetchAndStart
  intro s q tag hawake
  refine ⟨exec_commandFetch_held hawake, exec_commandStartAtTime_restarting hawake, fun hrun hnormal => ⟨fun n hn => ?_, fun hnone => ?_⟩,
    fun hrun c hc => ⟨fun hstart => ?_, fun hwait => ?_⟩, exec_commandStartAtTime_none hawake⟩
  · obtain ⟨hentries, hroom, hlt⟩ := State.nextQueue_spec hn
    refine ⟨hentries, hroom, hlt, s.headTaken n, rfl, rfl, rfl, rfl, rfl, ?_⟩
    rw [exec_commandFetch_served hawake hrun hnormal hn]
    exact congrArg (fun t : State => Host.Outcome.next t.showStalled) (s.fetch_eq n)
  · exact exec_commandFetch_idle hawake hrun hnormal hnone
  · refine ⟨s.setCmd (s.begun c), rfl, ?_, fun hplain => ?_⟩
    · rw [exec_commandStartAtTime_waiting hawake hrun hc, if_pos hstart]
    · rw [exec_commandStartAtTime_waiting hawake hrun hc, if_pos hstart, State.startCmd_plain hplain]
  · rw [exec_commandStartAtTime_waiting hawake hrun hc, if_neg (by simp [hwait])]

end Sys2Proof.Machine

/-! THEOREMS. Per-function resets, modes and late decisions (R36 to R39, R62, R63). -/

namespace Sys2Proof.Machine

section Functions
variable {s : State} {p : Path} {n : Fin 48} {v : Word} {period : Nat}

/-! ### Registers of the functions -/

/-- FNT_CTRL stands outside the areas, once for each function (Table 22-3). -/
theorem fntCtrl_row : ∀ n : Fin 48, inArea (FNT_CTRL.RST.addr n) = false ∧
    ((regAt (FNT_CTRL.RST.addr n)).any fun r => decide (r.1.base = 0x10000 ∧ r.1.pair = false ∧ r.2.1 = n.val)) = true := by
  decide +kernel

theorem State.putWord_fntCtrl (v : Nat) : s.putWord p (FNT_CTRL.RST.addr n) v = s.writeFntCtrl n v := by
  obtain ⟨harea, hany⟩ := fntCtrl_row n
  obtain ⟨⟨d, i, hi⟩, hreg, hd⟩ := (Option.any_eq_true _ _).mp hany
  obtain ⟨hbase, hpair, hi⟩ : d.base = 0x10000 ∧ d.pair = false ∧ i = n.val := of_decide_eq_true hd
  simp only [State.putWord_register harea v hreg hpair, State.writeReg, hbase, hi]

/-! ### Fields beside one another -/

theorem State.flag_setFlag_same (f : Fld) (b : Bool) (i : Nat) (hw : f.width = 1) (h : f.lo + f.width ≤ 32) :
    (s.setFlag f b i).flag f i = b := by
  simp only [State.flag, State.setFlag, State.fld_setFld_same s f _ i h, hw]
  cases b <;> rfl

theorem State.flag_setFld_ne {f g : Fld} {i j : Nat} (v : Nat) (h : g.addr j ≠ f.addr i) :
    (s.setFld f v i).flag g j = s.flag g j := by
  simp only [State.flag, State.fld_setFld_ne s v h]

/-! ### The start of a reset -/

/-- A reset asked for while the function is ABSENT or in reset changes nothing. -/
theorem State.startReset_held {n : Nat} (h : s.fnState n = fnAbsent ∨ s.flag FNT_CTRL.RST n = true) : s.startReset n = s :=
  if_pos h

section Awake
variable (hawake : s.awake = true)
include hawake

theorem exec_fnReset (hopen : s.pathOpen p = true) (hrst : bits v.toNat 8 1 = 1) :
    exec (.fnReset p n v) s =
      .next (((s.setFld FNT_CTRL.MODE_REQ (bits v.toNat 0 1) n).markMode n).startReset n) := by
  show Host.Outcome.next (s.guarded (onFnReset p n v)) = _
  rw [State.guarded_of_awake _ hawake, onFnReset, if_pos hrst, State.hostWriteWord_open _ hopen, State.putWord_fntCtrl,
    State.writeFntCtrl, if_pos hrst]

theorem exec_fnReset_without (hrst : bits v.toNat 8 1 = 0) : exec (.fnReset p n v) s = .next s :=
  congrArg _ ((State.guarded_of_awake (onFnReset p n v) hawake).trans (if_neg (by simp [hrst])))

end Awake

/-! ### The end of a reset -/

/-- The state of a function whose reset is over, before its bay is looked at and its event raised. -/
def State.resetEnded (s : State) (n : Fin 48) : State :=
  let t := (s.setFlag FNT_CTRL.RST false n).setFld FNT_STATUS.STATE fnRun n
  { t with
    fnt := { t.fnt with resets := Sparse.erase s.fnt.resets n }
    red := if n.val = 19 ∧ s.issueDue then { s.red with issue := none } else s.red }

theorem State.flag_resetEnded : (s.resetEnded n).flag FNT_CTRL.RST n = false := by
  have hne : FNT_CTRL.RST.addr n ≠ FNT_STATUS.STATE.addr n := by
    simp only [Fld.addr, FNT_CTRL.RST, FNT_STATUS.STATE]; omega
  calc (s.resetEnded n).flag FNT_CTRL.RST n
    _ = (s.setFlag FNT_CTRL.RST false n).flag FNT_CTRL.RST n := State.flag_setFld_ne _ hne
    _ = false := State.flag_setFlag_same _ _ _ rfl (by decide)

theorem State.fnState_resetEnded : (s.resetEnded n).fnState n = fnRun :=
  State.fld_setFld_same _ FNT_STATUS.STATE fnRun n (by decide)

theorem State.word_resetEnded_ne {a : Nat} (rst : Nat) (hctrl : a ≠ FNT_CTRL.RST.addr n) (hst : a ≠ FNT_STATUS.STATE.addr n) :
    (s.resetEnded n).word a rst = s.word a rst :=
  calc (s.resetEnded n).word a rst
    _ = (s.setFlag FNT_CTRL.RST false n).word a rst := State.word_setFld_ne _ _ rst hst
    _ = s.word a rst := State.word_setFld_ne s _ rst hctrl

theorem State.red_resetEnded_other (h : n.val ≠ 19) : (s.resetEnded n).red = s.red := if_neg fun hc => h hc.1

/-- A reset of FN_RED drops an issue that is due. -/
theorem State.red_resetEnded_red (h : n.val = 19) :
    (s.resetEnded n).red = { s.red with issue := if s.issueDue then none else s.red.issue } := by
  show (if n.val = 19 ∧ s.issueDue then { s.red with issue := none } else s.red) = _
  by_cases hdue : s.issueDue = true
  · rw [if_pos ⟨h, hdue⟩, if_pos hdue]
  · rw [if_neg fun hc => hdue hc.2, if_neg hdue]

/-- The end of the reset of a function that is no bay's. -/
theorem onFnResetDone_function (hrst : s.flag FNT_CTRL.RST n = true) (hover : s.resetOver n = true) (h : n.val < 32) :
    onFnResetDone n s = (s.resetEnded n).raise 0x0005 [(16, 1, n)] := by
  rw [onFnResetDone, if_pos ⟨hrst, hover⟩]
  dsimp only
  rw [if_neg (show ¬ 32 ≤ n.val by omega)]
  refine congrArg (State.raise · 0x0005 [(16, 1, n.val)]) ?_
  unfold State.resetEnded
  by_cases hdue : n.val = 19 ∧ s.issueDue
  · rw [if_pos hdue]; exact if_pos hdue
  · rw [if_neg hdue]; exact if_neg hdue

/-- The function of a bay takes the state that the bay shows. -/
theorem onFnResetDone_bay (hrst : s.flag FNT_CTRL.RST n = true) (hover : s.resetOver n = true) (h : 32 ≤ n.val) :
    onFnResetDone n s = ((s.resetEnded n).setFnState n ((s.resetEnded n).bayFn (n - 32))).raise 0x0005 [(16, 1, n)] := by
  have hred : ∀ t : State, ¬ (n.val = 19 ∧ t.issueDue) := fun t hc => by omega
  rw [onFnResetDone, if_pos ⟨hrst, hover⟩]
  dsimp only
  rw [if_pos h, if_neg (hred _), State.resetEnded, if_neg (hred _)]
  rfl

/-- A reset that has more to wait for goes on. -/
theorem onFnResetDone_held (h : s.flag FNT_CTRL.RST n = false ∨ s.resetOver n = false) : onFnResetDone n s = s :=
  if_neg fun hc => by rcases h with h | h <;> simp [h] at hc

theorem exec_fnResetDone (hawake : s.awake = true) : exec (.fnResetDone n) s = .next (onFnResetDone n s) :=
  congrArg _ (State.guarded_of_awake _ hawake)

/-! ### Modes -/

theorem State.flag_congr {s t : State} {f : Fld} {i : Nat} (h : ∀ rst, t.word (f.addr i) rst = s.word (f.addr i) rst) :
    t.flag f i = s.flag f i := by
  rw [State.flag, State.fld, h, State.flag, State.fld]

/-- A one-bit field read as a flag. -/
theorem State.fld_eq_b2n (f : Fld) (i : Nat) (hw : f.width = 1) : s.fld f i = b2n (s.flag f i) := by
  have hlt : s.fld f i < 2 := (bits_lt _ _ _).trans_eq (by rw [hw, Nat.pow_one])
  simp only [State.flag, b2n, decide_eq_true_eq]
  split <;> omega

/-- The mode asked for in force, with nothing pending; what was held for decisions apart. -/
def State.modeTaken (s : State) (n : Nat) : State := (s.setFlag FNT_STATUS.MODE_ACT (s.flag FNT_CTRL.MODE_REQ n) n).markMode n

theorem State.assist_modeTaken (n : Nat) : (s.modeTaken n).assist n = s.flag FNT_CTRL.MODE_REQ n := by
  have hpend : (s.modeTaken n).fld FNT_STATUS.MODE_ACT n =
      (s.setFlag FNT_STATUS.MODE_ACT (s.flag FNT_CTRL.MODE_REQ n) n).fld FNT_STATUS.MODE_ACT n :=
    State.fld_setFld_beside _ _ rfl rfl (by decide) (by decide)
  rw [State.assist, State.flag, hpend]
  exact State.flag_setFlag_same _ _ _ rfl (by decide)

theorem State.pending_modeTaken (n : Nat) : (s.modeTaken n).flag FNT_STATUS.MODE_PEND n = false := by
  have hne : FNT_CTRL.MODE_REQ.addr n ≠ FNT_STATUS.MODE_ACT.addr n := by
    simp only [Fld.addr, FNT_CTRL.MODE_REQ, FNT_STATUS.MODE_ACT]; omega
  rw [State.modeTaken, State.markMode, State.flag_setFlag_same _ _ _ rfl (by decide), State.fld_eq_b2n FNT_STATUS.MODE_ACT _ rfl,
    State.flag_setFlag_same _ _ _ rfl (by decide)]
  rw [State.setFlag, State.fld_setFld_ne _ _ hne, State.fld_eq_b2n FNT_CTRL.MODE_REQ _ rfl]
  exact decide_eq_false (not_not_intro rfl)

theorem State.word_modeTaken_ne {n a : Nat} (rst : Nat) (h : a ≠ FNT_STATUS.MODE_ACT.addr n) :
    (s.modeTaken n).word a rst = s.word a rst :=
  calc (s.modeTaken n).word a rst
    _ = (s.setFlag FNT_STATUS.MODE_ACT (s.flag FNT_CTRL.MODE_REQ n) n).word a rst := State.word_setFld_ne _ _ rst h
    _ = s.word a rst := State.word_setFld_ne s _ rst h

theorem State.takeMode_frame (n : Nat) (m : Bool) :
    s.takeMode n m = { s with regs := (s.takeMode n m).regs, fnt := (s.takeMode n m).fnt } := by
  unfold State.takeMode
  dsimp only
  split_ifs <;> rfl

theorem State.regs_takeMode_requested (n : Nat) :
    (s.takeMode n (s.flag FNT_CTRL.MODE_REQ n)).regs = (s.modeTaken n).regs := by
  unfold State.takeMode
  dsimp only
  split_ifs <;> rfl

theorem State.showRotation_regs (b : Nat) : s.showRotation b = { s with regs := (s.showRotation b).regs } := by
  unfold State.showRotation
  split <;> rfl

theorem State.word_showRotation_ne {b a : Nat} (rst : Nat) (h : a ≠ BAY_STATUS.STATE.addr b) :
    (s.showRotation b).word a rst = s.word a rst := by
  unfold State.showRotation
  split
  · rfl
  · exact State.word_setFld_ne s _ rst h

/-- With no frame cadence the mode asked for is taken, and a bay shows its place in the rotation. -/
theorem onModeFollow_frame (hcad : s.cadence = false) :
    onModeFollow n s = { s with regs := (onModeFollow n s).regs, fnt := (onModeFollow n s).fnt } := by
  rw [onModeFollow, if_neg (by simp [hcad])]
  dsimp only
  split
  · rw [State.showRotation_regs, State.takeMode_frame]
  · exact State.takeMode_frame _ _

theorem word_onModeFollow (hcad : s.cadence = false) {a : Nat} (rst : Nat)
    (ha : n.val < 32 ∨ a ≠ BAY_STATUS.STATE.addr (n - 32)) : (onModeFollow n s).word a rst = (s.modeTaken n).word a rst := by
  have hregs : (s.takeMode n (s.flag FNT_CTRL.MODE_REQ n)).word a rst = (s.modeTaken n).word a rst := by
    simp only [State.word, State.regs_takeMode_requested]
  rw [onModeFollow, if_neg (by simp [hcad])]
  dsimp only
  split
  · rw [State.word_showRotation_ne _ (ha.resolve_left (by omega)), hregs]
  · exact hregs

theorem flag_onModeFollow (hcad : s.cadence = false) {f : Fld} (hf : f.addr n = FNT_STATUS.MODE_ACT.addr n) :
    (onModeFollow n s).flag f n = (s.modeTaken n).flag f n := by
  refine State.flag_congr fun rst => word_onModeFollow hcad rst (.inr ?_)
  have := n.isLt
  rw [hf]
  simp only [Fld.addr, FNT_STATUS.MODE_ACT, BAY_STATUS.STATE]
  omega

theorem exec_modeFollow (hawake : s.awake = true) : exec (.modeFollow n) s = .next (onModeFollow n s) :=
  congrArg _ (State.guarded_of_awake _ hawake)

/-! ### Late decisions -/

theorem exec_assistLate (hawake : s.awake = true) : exec (.assistLate n period) s = .next (onAssistLate n period s) :=
  congrArg _ (State.guarded_of_awake _ hawake)

/-- A function other than FN_PTP and FN_LNK reports each decision that it missed once. -/
theorem onAssistLate_frame (hptp : n.val ≠ 4) (hlnk : n.val ≠ 7) : onAssistLate n period s =
    if (n.val, period) ∈ s.fnt.missed then State.missAssist
      { s with fnt := { s.fnt with missed := s.fnt.missed.erase (n.val, period) } } n period
    else s := by
  rw [onAssistLate, if_neg hlnk, if_neg hptp]

theorem onAssistLate_ptp (h : n.val = 4) : onAssistLate n period s = if s.assist 4 then s.missAssist 4 period else s := by
  rw [onAssistLate, if_neg (by omega), if_pos h]

theorem onAssistLate_link (h : n.val = 7) {st} (hstep : (s.port (period / 65536)).step = some st) :
    onAssistLate n period s =
      if period / 65536 < 16 ∧ st.vote.isNone ∧ period = s.stepPeriod (period / 65536) ∧ st.deadline.any (fun t => t ≤ s.clock) then
        (s.missAssist 7 period).stepVote (period / 65536) false
      else s := by
  rw [onAssistLate, if_pos h, hstep]

theorem onAssistLate_link_none (h : n.val = 7) (hstep : (s.port (period / 65536)).step = none) : onAssistLate n period s = s := by
  rw [onAssistLate, if_pos h, hstep]

end Functions

/-- Settles O24: a write of RST = 1 is the write of MODE_REQ followed by `startReset`; a reset that is over leaves `resetEnded`; a
mode that follows is read off `modeTaken`; a late decision is decided by the conditions of its function. -/
theorem resetsAndModes : Obligations.ResetsAndModes := by
  unfold Obligations.ResetsAndModes
  intro s p n v period hawake
  refine ⟨fun hopen hrst => ?_, exec_fnReset_without hawake, fun hrst hover => ?_, fun hno => ?_, fun hcad => ?_, fun hcad => ?_,
    fun hptp hlnk hmiss => ?_, fun hptp hlnk hmiss => ?_, fun hptp => ?_, ?_, fun hlnk hstep => ?_⟩
  · rw [exec_fnReset hawake hopen hrst]
    refine ⟨fun hheld => ?_, fun hpresent hfree => ⟨_, _, congrArg _ (if_neg ?_), rfl, rfl⟩⟩
    · rw [State.startReset_held hheld]
    · simp [hpresent, hfree]
  · refine ⟨s.resetEnded n, State.flag_resetEnded, State.fnState_resetEnded, ?_, fun a rst => State.word_resetEnded_ne rst, rfl,
      State.red_resetEnded_other, State.red_resetEnded_red, fun hlow => ?_, fun hhigh => ?_⟩
    · exact (Sparse.find_erase _ _ _).trans (if_pos rfl)
    · rw [exec_fnResetDone hawake, onFnResetDone_function hrst hover hlow]
    · rw [exec_fnResetDone hawake, onFnResetDone_bay hrst hover hhigh]
  · rw [exec_fnResetDone hawake, onFnResetDone_held hno]
  · refine ⟨onModeFollow n s, exec_modeFollow hawake, ?_, ?_, fun a rst hst hbay => ?_, onModeFollow_frame hcad⟩
    · rw [State.assist, flag_onModeFollow hcad rfl]
      exact State.assist_modeTaken n
    · rw [flag_onModeFollow hcad (f := FNT_STATUS.MODE_PEND) rfl, State.pending_modeTaken]
    · rw [word_onModeFollow hcad rst hbay, State.word_modeTaken_ne rst hst]
  · rw [exec_modeFollow hawake, onModeFollow, if_pos hcad]
  · rw [exec_assistLate hawake, onAssistLate_frame hptp hlnk, if_pos hmiss]
  · rw [exec_assistLate hawake, onAssistLate_frame hptp hlnk, if_neg hmiss]
  · rw [exec_assistLate hawake, onAssistLate_ptp hptp]
  · rintro hlnk k rfl st t hstep hdeadline hport hvote hperiod
    rw [exec_assistLate hawake, onAssistLate_link hlnk hstep, hvote, hdeadline]
    refine ⟨fun hdue => ?_, fun hearly => ?_⟩
    · rw [if_pos ⟨hport, rfl, hperiod, decide_eq_true hdue⟩]
    · rw [if_neg fun hc => ?_]
      have hdue : t ≤ s.clock := of_decide_eq_true hc.2.2.2
      omega
  · rw [exec_assistLate hawake, onAssistLate_link_none hlnk hstep]

end Sys2Proof.Machine

/-! THEOREMS. Bay faults, watchdogs and loads (R22, R23, R87). -/

namespace Sys2Proof.Machine

section Bays
variable {s : State} {b : Fin 16} {lsram ok : Bool} {f : Fld}

/-! ### Errors of a bay -/

theorem State.bay_setBay_same (b : Nat) (x : BaySt) : (s.setBay b x).bay b = x := by
  simp only [State.bay, State.setBay, Sparse.get, Sparse.find_set_self, Option.getD_some]

theorem State.bay_setBay_ne {b w : Nat} (x : BaySt) (h : w ≠ b) : (s.setBay b x).bay w = s.bay w := by
  simp only [State.bay, State.setBay, Sparse.get, Sparse.find_set_ne _ _ h]

theorem State.bayError_off (f : Fld) {b : Nat} (h : s.bayState b = bayGated ∨ s.bayState b = bayReset) : s.bayError b f = s :=
  if_pos h

/-- An error of a bay that is on is reported the first time (R23). -/
theorem State.bayError_on {b : Nat} (f : Fld) (hgated : s.bayState b ≠ bayGated) (hreset : s.bayState b ≠ bayReset) :
    (s.flag f b = false → s.bayError b f = (((s.setFlag f true b).raise 0x0002
      [(16, 1, b), (20, 4, ((s.setFlag f true b).word (BAY_ERR.ENG_FAULT.addr b) 0).toNat)]).failBay b)) ∧
    (s.flag f b = true → s.bayError b f = (s.setFlag f true b).failBay b) := by
  rw [State.bayError, if_neg (not_or.mpr ⟨hgated, hreset⟩)]
  exact ⟨fun h => by simp [h], fun h => by simp [h]⟩

/-- The state in which a bay that fails has left its work (R23). -/
def State.bayLeft (s : State) (b : Nat) : State :=
  let t := (s.setBay b { s.bay b with joining := false, late := decide (s.bayState b = bayRun) }).leaveSlices b
  if t.cadence then t else t.returnSlices b

theorem State.failBay_eq (b : Nat) : s.failBay b = ((s.bayLeft b).setBayState b bayFault).endApply := rfl

theorem State.bays_bayLeft (b : Nat) : (s.bayLeft b).bays =
    (s.setBay b { s.bay b with joining := false, late := decide (s.bayState b = bayRun) }).bays := by
  unfold State.bayLeft
  dsimp only
  split <;> rfl

theorem State.bay_bayLeft_same (b : Nat) :
    (s.bayLeft b).bay b = { s.bay b with joining := false, late := decide (s.bayState b = bayRun) } := by
  rw [State.bay, State.bays_bayLeft]
  exact State.bay_setBay_same _ _

theorem State.bay_bayLeft_ne {b w : Nat} (h : w ≠ b) : (s.bayLeft b).bay w = s.bay w := by
  rw [State.bay, State.bays_bayLeft]
  exact State.bay_setBay_ne _ h

/-! ### Loads -/

/-- Whether the kernel of a bay lies where a line or a word is uncorrectable. -/
def State.kernelBad (s : State) (b : Nat) : Bool :=
  (s.kernelAt b).any fun k => if k.1 then s.lostLines k.2.1 k.2.2 ≠ [] else s.badWords k.2.1 k.2.2 ≠ []

/-- The state with what was read of a bay's kernel reported. -/
def State.kernelReported (s : State) (b : Nat) : State :=
  match s.kernelAt b with
  | some k => s.reportBad k.1 k.2.1 k.2.2 (bayClass b) 6
  | none => s

/-- The state with a bay loaded. -/
def State.bayLoaded (s : State) (b : Nat) : State :=
  ((s.kernelReported b).setBay b { (s.kernelReported b).bay b with joining := true }).setBayState b bayIdle

theorem onBayLoadDone_off (h : s.bayState b ≠ bayLoading) : onBayLoadDone b ok s = s := if_pos h

theorem onBayLoadDone_failed (h : s.bayState b = bayLoading) (hbad : ok = false ∨ s.kernelBad b = true) :
    onBayLoadDone b ok s = ((((s.kernelReported b).setFlag BAY_ERR.ENG_FAULT true b).raise 0x0002
      [(16, 1, b), (20, 4, (((s.kernelReported b).word (BAY_ERR.ENG_FAULT.addr b) 0).toNat ||| 1))]).failBay b) :=
  (if_neg (not_not_intro h)).trans (if_pos (hbad.imp_left fun hok => by rw [hok]; rfl))

theorem onBayLoadDone_loaded (h : s.bayState b = bayLoading) (hgood : s.kernelBad b = false) :
    onBayLoadDone b true s = if (s.bayLoaded b).cadence then s.bayLoaded b else (s.bayLoaded b).joinBays :=
  (if_neg (not_not_intro h)).trans (if_neg fun hc => hc.elim (by decide) fun hbad => absurd (hbad.symm.trans hgood) (by decide))

/-! ### The commands -/

section Awake
variable (hawake : s.awake = true)
include hawake

theorem exec_bayFault : exec (.bayFault b lsram) s =
    .next (s.bayError b (if lsram then BAY_ERR.LSRAM_UC else BAY_ERR.ENG_FAULT)) :=
  congrArg _ (State.guarded_of_awake _ hawake)

theorem exec_bayWatchdog_running (h : s.bayState b = bayRun) : exec (.bayWatchdog b) s = .next (s.bayError b BAY_ERR.WDOG) :=
  congrArg _ ((State.guarded_of_awake (onBayWatchdog b) hawake).trans (if_pos h))

theorem exec_bayWatchdog_other (h : s.bayState b ≠ bayRun) : exec (.bayWatchdog b) s = .next s :=
  congrArg _ ((State.guarded_of_awake (onBayWatchdog b) hawake).trans (if_neg h))

theorem exec_bayLoadDone : exec (.bayLoadDone b ok) s = .next (onBayLoadDone b ok s) :=
  congrArg _ (State.guarded_of_awake _ hawake)

end Awake

end Bays

/-- Settles O27: faults and the watchdog are `bayError`, which reports a bit once and fails the bay; a bay that fails has left its work
(`bayLeft`); a load ends as `bayLoaded` or fails after its report. -/
theorem bayEvents : Obligations.BayEvents := by
  unfold Obligations.BayEvents
  intro s b lsram hawake
  refine ⟨fun hgated hreset => ?_, fun hoff => ?_, fun hrun => ?_, exec_bayWatchdog_other hawake,
    ⟨s.bayLeft b, s.failBay_eq b, ?_, ?_, fun w hw => ?_⟩, fun ok hoff => ?_, fun hload => ⟨fun hgood hcad => ?_, fun hgood hcad => ?_,
    fun ok hbad => ?_⟩⟩
  · obtain ⟨hfresh, hseen⟩ := State.bayError_on (if lsram then BAY_ERR.LSRAM_UC else BAY_ERR.ENG_FAULT) hgated hreset
    rw [exec_bayFault hawake]
    exact ⟨fun h => by rw [hfresh h], fun h => by rw [hseen h]⟩
  · rw [exec_bayFault hawake, State.bayError_off _ hoff]
  · obtain ⟨hfresh, hseen⟩ := State.bayError_on (s := s) (b := b) BAY_ERR.WDOG (by rw [hrun]; decide) (by rw [hrun]; decide)
    rw [exec_bayWatchdog_running hawake hrun]
    exact ⟨fun h => by rw [hfresh h], fun h => by rw [hseen h]⟩
  · rw [State.bay_bayLeft_same]
  · rw [State.bay_bayLeft_same]
  · exact State.bay_bayLeft_ne (Fin.val_ne_of_ne hw)
  · rw [exec_bayLoadDone hawake, onBayLoadDone_off hoff]
  · rw [exec_bayLoadDone hawake, onBayLoadDone_loaded hload hgood]
    exact congrArg _ (if_pos hcad)
  · rw [exec_bayLoadDone hawake, onBayLoadDone_loaded hload hgood]
    exact congrArg _ (if_neg (Bool.eq_false_iff.mp hcad))
  · rw [exec_bayLoadDone hawake, onBayLoadDone_failed hload hbad]
    rfl

end Sys2Proof.Machine

/-! THEOREMS. A tollhouse restart, its start and its end (R30, R471, R479, R520). -/

namespace Sys2Proof.Machine

section Tollhouse
variable {s : State}

/-! ### A restart outlasts what stops with it -/

/-- A completion is held while the tollhouse restarts, so that the restart goes on (R30). -/
theorem State.restarting_finishOne (c : Cmd) (st : Nat) (res : List Byte) (h : s.restarting = true) :
    (s.finishOne c st res).restarting = true := by
  unfold State.finishOne
  dsimp only
  split
  · exact h
  · exact (congrArg State.restarting (if_pos h)).trans h

theorem State.restarting_finish (c : Cmd) (st : Nat) (res : List Byte) (h : s.restarting = true) :
    (s.finish c st res).restarting = true := by
  unfold State.finish
  refine List.foldlRecOn (motive := fun t : State => t.restarting = true) _ _ (State.restarting_finishOne c st res h) fun t ht a _ => ?_
  split
  · exact State.restarting_finishOne _ _ _ ht
  · exact ht

theorem State.restarting_forwardDone (h : s.restarting = true) : s.forwardDone.restarting = true := by
  unfold State.forwardDone
  split
  · split
    · dsimp only
      split
      · exact State.restarting_finish _ _ _ h
      · exact h
    · exact h
  · exact h

theorem State.restarting_restartTollhouse : s.restartTollhouse.restarting = true :=
  State.restarting_forwardDone (s := { s with fnt := { s.fnt with restarting := true },
                                               fwu := { s.fwu with rx := none, offers := [], writing := none } }) rfl

/-! ### The commands -/

section Awake
variable (hawake : s.awake = true)
include hawake

theorem exec_tollhouseRestart : exec .tollhouseRestart s = .next (if s.restarting then s else s.restartTollhouse) :=
  congrArg _ (State.guarded_of_awake _ hawake)

theorem exec_tollhouseStart : exec .tollhouseStart s = .next (onTollhouseStart s) :=
  congrArg _ (State.guarded_of_awake _ hawake)

theorem exec_tollhouseRestartEnd : exec .tollhouseRestartEnd s = .next (onTollhouseRestartEnd s) :=
  congrArg _ (State.guarded_of_awake _ hawake)

end Awake

/-- The ROM starts nothing outside a restart, twice, or while a warning keeps flash writes back (R471). -/
theorem onTollhouseStart_waits (h : s.restarting = false ∨ s.fwu.started = true ∨ s.flashHeld = true) : onTollhouseStart s = s :=
  if_pos (h.imp_left fun hno => by rw [hno]; decide)

section Rom
variable (hrestart : s.restarting = true) (hidle : s.fwu.started = false) (hflash : s.flashHeld = false)
include hrestart hidle hflash

/-- The ROM withdraws the tried slots, then starts the first candidate that passes its checks or, without one, recovers. -/
theorem onTollhouseStart_runs : let u := (s.dropTried 0).dropTried 1
    (∀ i, (u.chooseSlot u.candidates).2 = some i → onTollhouseStart s = (u.chooseSlot u.candidates).1.startFirmware i) ∧
    ((u.chooseSlot u.candidates).2 = none → onTollhouseStart s = (u.chooseSlot u.candidates).1.enterRecovery) := by
  intro u
  rw [onTollhouseStart, if_neg (by simp [hrestart, hidle, hflash])]
  rcases hchoice : u.chooseSlot u.candidates with ⟨t, found⟩
  refine ⟨fun i hfound => ?_, fun hfound => ?_⟩
  · obtain rfl : found = some i := hfound
    simp only [u, hchoice]
  · obtain rfl : found = none := hfound
    simp only [u, hchoice]

end Rom

theorem onTollhouseRestartEnd_runs (hrestart : s.restarting = true) (hstarted : s.fwu.started = true) :
    onTollhouseRestartEnd s = State.takeOwnStream (State.viaResume
      ([0, 1, 2].foldl (fun (t : State) p => t.writeHeld p) { s with fnt := { s.fnt with restarting := false } })) :=
  if_neg (by simp [hrestart, hstarted])

theorem onTollhouseRestartEnd_waits (h : s.restarting = false ∨ s.fwu.started = false) : onTollhouseRestartEnd s = s :=
  if_pos (by rcases h with h | h <;> simp [h])

end Tollhouse

/-- Settles O28: the transfers that a restart stops complete into held records and leave it a restart; the ROM's choice of a slot
decides between firmware and recovery. -/
theorem tollhouseRestarts : Obligations.TollhouseRestarts := by
  unfold Obligations.TollhouseRestarts
  intro s hawake
  rw [exec_tollhouseRestart hawake, exec_tollhouseStart hawake, exec_tollhouseRestartEnd hawake]
  refine ⟨fun hrun => ⟨?_, State.restarting_restartTollhouse⟩, fun hrestart => ?_, fun hrestart hidle hflash => ?_, fun hwait => ?_,
    fun hrestart hstarted => ?_, fun hwait => ?_⟩
  · rw [if_neg (by simp [hrun])]
  · rw [if_pos hrestart]
  · obtain ⟨hsome, hnone⟩ := onTollhouseStart_runs hrestart hidle hflash
    exact ⟨fun i h => congrArg _ (hsome i h), fun h => congrArg _ (hnone h)⟩
  · rw [onTollhouseStart_waits hwait]
  · rw [onTollhouseRestartEnd_runs hrestart hstarted]
  · rw [onTollhouseRestartEnd_waits hwait]

end Sys2Proof.Machine

/-! THEOREMS. Slices through the decoder and requested refreshes (R22, R247, R248, R258, R263, R264). -/

namespace Sys2Proof.Machine

section Decoder
variable {s : State} {q : Fin 24} {tag i b j n : Nat} {bound : Option Nat} {x : SliceIn}

/-! ### The bay that takes a slice -/

/-- Of two bays, the one that takes the next piece of work: the one with less of it for its weight (R22). -/
def State.lighter (s : State) (held : Nat → Nat) (best : Option Nat) (b : Nat) : Option Nat :=
  match best with
  | none => some b
  | some c =>
    if (s.burden b (held b) + 1) * s.weight c < (s.burden c (held c) + 1) * s.weight b then some b else some c

theorem State.nextTaker_eq (held : Nat → Nat) (bs : List Nat) : s.nextTaker held bs = bs.foldl (s.lighter held) none := rfl

theorem State.lighter_some (held : Nat → Nat) (c b : Nat) : s.lighter held (some c) b =
    if (s.burden b (held b) + 1) * s.weight c < (s.burden c (held c) + 1) * s.weight b then some b else some c := rfl

theorem State.mem_of_foldl_lighter {held : Nat → Nat} {bs : List Nat} {best : Option Nat}
    (h : bs.foldl (s.lighter held) best = some b) : b ∈ bs ∨ best = some b := by
  induction bs generalizing best with
  | nil => exact .inr h
  | cons d bs ih =>
    rcases ih h with hmem | hlast
    · exact .inl (List.mem_cons_of_mem _ hmem)
    · cases best with
      | none => exact .inl (Option.some.inj hlast ▸ List.mem_cons_self)
      | some c =>
        rw [State.lighter_some] at hlast
        split at hlast
        · exact .inl (Option.some.inj hlast ▸ List.mem_cons_self)
        · exact .inr hlast

theorem State.mem_of_nextTaker {held : Nat → Nat} {bs : List Nat} (h : s.nextTaker held bs = some b) : b ∈ bs := by
  rw [State.nextTaker_eq] at h
  exact (State.mem_of_foldl_lighter h).resolve_right (nomatch ·)

/-- With no bay in ASSIST the weights are equal and what a bay holds decides. -/
theorem State.lighter_hw {held : Nat → Nat} {c b : Nat} (hc : s.assist (32 + c) = false) (hb : s.assist (32 + b) = false) :
    s.lighter held (some c) b = if held b < held c then some b else some c := by
  simp only [State.lighter_some, State.burden, State.weight, hc, hb, Bool.false_eq_true, if_false]
  congr 1
  simp only [eq_iff_iff]
  omega

theorem State.foldl_lighter_le {held : Nat → Nat} {bs : List Nat} {best : Option Nat}
    (hw : ∀ d ∈ bs, s.assist (32 + d) = false) (hbest : ∀ c, best = some c → s.assist (32 + c) = false)
    (h : bs.foldl (s.lighter held) best = some b) : (∀ d ∈ bs, held b ≤ held d) ∧ ∀ c, best = some c → held b ≤ held c := by
  induction bs generalizing best with
  | nil => exact ⟨fun _ hd => (nomatch hd), fun c hc => (congrArg held (Option.some.inj (hc.symm.trans h))).ge⟩
  | cons d bs ih =>
    have hd := hw d List.mem_cons_self
    have hrest : ∀ e ∈ bs, s.assist (32 + e) = false := fun e he => hw e (List.mem_cons_of_mem _ he)
    cases best with
    | none =>
      obtain ⟨hall, hlast⟩ := ih hrest (fun c hc => Option.some.inj hc ▸ hd) h
      exact ⟨List.forall_mem_cons.mpr ⟨hlast d rfl, hall⟩, fun _ hc => nomatch hc⟩
    | some c =>
      have hc := hbest c rfl
      rw [List.foldl_cons, State.lighter_hw hc hd] at h
      split at h
      case isTrue hlt =>
        obtain ⟨hall, hlast⟩ := ih hrest (fun e he => Option.some.inj he ▸ hd) h
        have hle := hlast d rfl
        exact ⟨List.forall_mem_cons.mpr ⟨hle, hall⟩, fun e he => Option.some.inj he ▸ (hle.trans hlt.le)⟩
      case isFalse hge =>
        obtain ⟨hall, hlast⟩ := ih hrest (fun e he => Option.some.inj he ▸ hc) h
        have hle := hlast c rfl
        exact ⟨List.forall_mem_cons.mpr ⟨hle.trans (not_lt.mp hge), hall⟩, fun e he => Option.some.inj he ▸ hle⟩

/-- With no bay in ASSIST the bay that holds least takes the next piece of work (R22). -/
theorem State.nextTaker_le {held : Nat → Nat} {bs : List Nat} (hw : ∀ d ∈ bs, s.assist (32 + d) = false)
    (h : s.nextTaker held bs = some b) : ∀ d ∈ bs, held b ≤ held d := by
  rw [State.nextTaker_eq] at h
  exact (State.foldl_lighter_le hw (fun _ hc => by cases hc) h).1

/-- The decoder that takes a slice is one of the rotation with room. -/
theorem State.freeDecoder_spec (h : s.freeDecoder = some b) : b ∈ s.takers 1 ∧ s.running b < 16 := by
  obtain ⟨hmem, hroom⟩ := List.mem_filter.mp (State.mem_of_nextTaker h)
  exact ⟨hmem, of_decide_eq_true hroom⟩

/-- With no bay in ASSIST it is the one with fewest slices in decode, full ones counted. -/
theorem State.freeDecoder_fewest (h : s.freeDecoder = some b) (hw : ∀ d ∈ s.takers 1, s.assist (32 + d) = false) :
    ∀ d ∈ s.takers 1, s.running b ≤ s.running d := by
  intro d hd
  obtain ⟨-, hroom⟩ := State.freeDecoder_spec h
  by_cases hfree : s.running d < 16
  · exact State.nextTaker_le (fun e he => hw e (List.mem_of_mem_filter he)) h d (List.mem_filter.mpr ⟨hd, decide_eq_true hfree⟩)
  · omega

/-! ### The slice that starts -/

/-- The slice that starts is none that runs already. -/
theorem nextSlice_spec {earlier xs : List SliceIn} (h : nextSlice earlier xs = some j) :
    earlier.length ≤ j ∧ ∃ x, xs[j - earlier.length]? = some x ∧ x.running = false := by
  induction xs generalizing earlier with
  | nil => cases h
  | cons y ys ih =>
    rw [nextSlice] at h
    split at h
    case isTrue hready =>
      obtain rfl := Option.some.inj h
      exact ⟨le_rfl, y, by rw [Nat.sub_self]; rfl, Bool.eq_false_iff.mpr hready.1⟩
    case isFalse =>
      obtain ⟨hle, x, hx, hidle⟩ := ih h
      rw [List.length_append, List.length_singleton] at hle hx
      refine ⟨by omega, x, ?_, hidle⟩
      rwa [show j - earlier.length = (j - (earlier.length + 1)) + 1 by omega, List.getElem?_cons_succ]

theorem nextSlice_idle {xs : List SliceIn} (h : nextSlice [] xs = some j) (hx : xs[j]? = some x) : x.running = false := by
  obtain ⟨-, y, hy, hidle⟩ := nextSlice_spec h
  rwa [Option.some.inj (hx.symm.trans hy)]

/-- The waiting slices with one of them in decode on a bay. -/
def startSlice (j b : Nat) (xs : List SliceIn) : List SliceIn :=
  xs.zipIdx.map fun p => if p.2 = j then { p.1 with running := true, bay := b } else p.1

theorem getElem?_startSlice_ne {xs : List SliceIn} {k : Nat} (h : k ≠ j) : (startSlice j b xs)[k]? = xs[k]? := by
  simp only [startSlice, List.getElem?_map, List.getElem?_zipIdx, Option.map_map]
  cases xs[k]? with
  | none => rfl
  | some y => simp [h]

theorem getElem?_startSlice_same {xs : List SliceIn} (hx : xs[j]? = some x) :
    (startSlice j b xs)[j]? = some { x with running := true, bay := b } := by
  simp [startSlice, List.getElem?_map, List.getElem?_zipIdx, hx]

theorem length_startSlice (xs : List SliceIn) : (startSlice j b xs).length = xs.length := by
  rw [startSlice, List.length_map, List.length_zipIdx]

theorem onSliceDecodeStart_some (hb : s.freeDecoder = some b) (hj : nextSlice [] s.dec.slices = some j) :
    onSliceDecodeStart s = State.give { s with dec := { s.dec with slices := startSlice j b s.dec.slices } } b := by
  simp only [onSliceDecodeStart, hb, hj, startSlice]

theorem onSliceDecodeStart_none (h : s.freeDecoder = none ∨ nextSlice [] s.dec.slices = none) : onSliceDecodeStart s = s := by
  unfold onSliceDecodeStart
  split
  case h_1 hb hj =>
    rcases h with h | h
    · cases hb.symm.trans h
    · cases hj.symm.trans h
  case h_2 => rfl

/-! ### A slice that leaves its decoder -/

/-- Whether a slice of another picture of its context came before a slice. -/
def waitsForPicture (xs : List SliceIn) (i : Nat) (x : SliceIn) : Bool :=
  (xs.take i).any fun z => decide (z.ctx = x.ctx) && decide ((parseHdr z.bytes).map (·.pic) ≠ (parseHdr x.bytes).map (·.pic))

/-- The state without a slice that has left its decoder, its bytes free again. -/
def State.sliceGone (s : State) (i : Nat) (x : SliceIn) : State :=
  let v : State := { s with dec := { s.dec with slices := s.dec.slices.eraseIdx i } }
  v.setCtx x.ctx { v.ctx x.ctx with used := (v.ctx x.ctx).used - x.bytes.length }

theorem onSliceDecodeDone_none (h : s.dec.slices[i]? = none) : onSliceDecodeDone i bound s = s := by
  rw [onSliceDecodeDone, h]

theorem onSliceDecodeDone_some (h : s.dec.slices[i]? = some x) : onSliceDecodeDone i bound s =
    if ¬ x.running ∨ waitsForPicture s.dec.slices i x ∨ s.bayState x.bay ≠ bayRun then s
    else if (s.ctx x.ctx).state = cxFree then s.sliceGone i x
    else (s.sliceGone i x).sliceOutcome x.ctx x.bytes bound x.bay := by
  rw [onSliceDecodeDone, h]
  rfl

/-! ### A slice judged -/

section Outcome
variable {bs : List Byte} {h : SliceHdr}

theorem State.sliceOutcome_malformed (hparse : parseHdr bs = none) :
    s.sliceOutcome n bs bound b = s.loseSlice n 0x03 bs := by
  rw [State.sliceOutcome, hparse]

variable (hparse : parseHdr bs = some h)
include hparse

theorem State.sliceOutcome_foreign (hbad : h.headerOk = false ∨ h.stream ≠ (s.ctx n).stream) :
    s.sliceOutcome n bs bound b = s.loseSlice n 0x03 bs := by
  rw [State.sliceOutcome, hparse]
  exact if_pos (hbad.imp_left Bool.eq_false_iff.mp)

variable (hok : h.headerOk = true) (hstream : h.stream = (s.ctx n).stream)
include hok hstream

/-- A slice with a header of its stream is stale, of another size, or decoded. -/
theorem State.sliceOutcome_own : s.sliceOutcome n bs bound b =
    if (s.ctx n).stale h then s.bump DEC_CNT_VIOL.DISCARD
    else if ¬ (s.ctx n).geometry h then s.loseSlice n 0x04 bs
    else
      let u := if (s.ctx n).cur.any (fun p => decide (p.cnt ≠ h.pic)) then s.closePicture n else s
      let v := u.decodeInto n h bs bound b
      let w := if (v.ctx n).cur.any (fun p => p.missingRows = []) then v.closePicture n else v
      w.endEpisode n := by
  rw [State.sliceOutcome, hparse]
  exact if_neg fun hbad => hbad.elim (· hok) (· hstream)

end Outcome

/-! ### Requested refreshes -/

section Request
variable {c : Cmd} {y : Ctx}

theorem onCmdDecRequest_none (h : s.cmd q tag 0x0C01 = none) : onCmdDecRequest q tag s = s := by
  rw [onCmdDecRequest, h]

variable (hc : s.cmd q tag 0x0C01 = some c)
include hc

theorem onCmdDecRequest_no_context (hctx : s.ctxOf (c.opnd 32 2) = none) :
    onCmdDecRequest q tag s = s.finish c 0x0C02 := by
  rw [onCmdDecRequest, hc]
  dsimp only
  rw [hctx]

variable (hctx : s.ctxOf (c.opnd 32 2) = some (n, y))
include hctx

theorem onCmdDecRequest_context : onCmdDecRequest q tag s =
    if y.src.isNone then s.finish c 0x0C01 else (s.requestFor y).finish c stOk := by
  rw [onCmdDecRequest, hc]
  dsimp only
  rw [hctx]

end Request

theorem State.sendRefresh_source {y : Ctx} {a : Nat} (pic cause : Nat) (h : y.src = some a) : s.sendRefresh y pic cause =
    (s.sendMsg (.node a) 0 0x0B 0 (beBytes 2 y.stream ++ beBytes 2 pic ++ beBytes 1 cause) false).bump DEC_CNT_REQ.SENT := by
  rw [State.sendRefresh, h]

/-! ### The commands -/

section Awake
variable (hawake : s.awake = true)
include hawake

theorem exec_sliceDecodeStart : exec .sliceDecodeStart s = .next (onSliceDecodeStart s) :=
  congrArg _ (State.guarded_of_awake _ hawake)

theorem exec_sliceDecodeDone : exec (.sliceDecodeDone i bound) s = .next (onSliceDecodeDone i bound s) :=
  congrArg _ (State.guarded_of_awake _ hawake)

theorem exec_cmdDecRequest : exec (.cmdDecRequest q tag) s = .next (onCmdDecRequest q tag s) :=
  congrArg _ (State.guarded_of_awake _ hawake)

end Awake

end Decoder

/-- Settles O44: the decoder that takes a slice is the lightest of a fold, the slice the first of a scan; a slice that leaves is judged by
the cases of `sliceOutcome`; a request is that of its context's episode or draws its two free values. -/
theorem decoderRows : Obligations.DecoderRows := by
  unfold Obligations.DecoderRows
  intro s q tag i bound hawake
  rw [exec_sliceDecodeStart hawake, exec_sliceDecodeDone hawake, exec_cmdDecRequest hawake]
  refine ⟨fun hno => ?_, fun b j x hb hj hx => ?_, fun hnone => ?_, fun x hx => ⟨fun hstays => ?_, fun hfirst hrunning hbay => ?_⟩,
    fun n bs b => ⟨State.sliceOutcome_malformed, fun h hparse => ⟨State.sliceOutcome_foreign hparse, fun hok hstream => ?_⟩⟩,
    fun hnone => ?_, fun c hc => ⟨fun hctx => ?_, fun n y hctx => ⟨fun hsrc => ?_, fun e a hep hsrc => ?_, fun a hep hsrc => ?_⟩⟩⟩
  · rw [onSliceDecodeStart_none hno]
  · obtain ⟨hmem, hroom⟩ := State.freeDecoder_spec hb
    refine ⟨hmem, hroom, nextSlice_idle hj hx, State.freeDecoder_fewest hb, _, congrArg _ (onSliceDecodeStart_some hb hj), rfl,
      length_startSlice _, getElem?_startSlice_same hx, fun k hk => getElem?_startSlice_ne hk⟩
  · rw [onSliceDecodeDone_none hnone]
  · rw [onSliceDecodeDone_some hx, if_pos]
    rcases hstays with hwaits | hidle | hbay
    · exact .inr (.inl hwaits)
    · exact .inl (Bool.eq_false_iff.mp hidle)
    · exact .inr (.inr hbay)
  · have hnowait : waitsForPicture s.dec.slices i x = false := hfirst
    rw [onSliceDecodeDone_some hx, if_neg (by simp [hrunning, hbay, hnowait])]
    exact ⟨fun hopen => congrArg _ (if_neg hopen), fun hfree => congrArg _ (if_pos hfree)⟩
  · rw [State.sliceOutcome_own hparse hok hstream]
    exact ⟨fun hstale => if_pos hstale, fun hfresh hsize => (if_neg (by simp [hfresh])).trans (if_pos (by simp [hsize])),
      fun hfresh hsize => (if_neg (by simp [hfresh])).trans (if_neg (by simp [hsize]))⟩
  · rw [onCmdDecRequest_none hnone]
  · rw [onCmdDecRequest_no_context hc hctx]
  · rw [onCmdDecRequest_context hc hctx, hsrc]
    rfl
  · rw [onCmdDecRequest_context hc hctx, hsrc, State.requestFor, hep]
    exact congrArg (fun t : State => Host.Outcome.next (t.finish c stOk)) (State.sendRefresh_source _ _ hsrc)
  · refine ⟨s.free, s.draw.free, ?_⟩
    rw [onCmdDecRequest_context hc hctx, hsrc, State.requestFor, hep]
    exact congrArg (fun t : State => Host.Outcome.next (t.draw.draw.finish c stOk)) (State.sendRefresh_source _ _ hsrc)

end Sys2Proof.Machine

/-! THEOREMS. Decisions of the host (R38, R60, R61). -/

namespace Sys2Proof.Machine

section Decisions
variable {s : State} {q : Fin 24} {tag n d : Nat} {c : Cmd}

/-! ### CMD_DECIDE -/

/-- The commands of the functions that take decisions, each with the number of its function (R60). -/
def decideRows (q : Fin 24) (tag : Nat) : List (Instr × Nat) :=
  [(.decideCfg q tag, 1), (.decideIngSdi q tag, 2), (.decidePtp q tag, 4), (.decideEnc q tag, 5), (.decideRate q tag, 6),
    (.decideLnk q tag, 7), (.decideSpan q tag, 8), (.decideTim q tag, 10), (.decideDec q tag, 11), (.decideCmp q tag, 12),
    (.decideCor q tag, 13), (.decideStr q tag, 14), (.decideDia q tag, 15), (.decideMem q tag, 16), (.decideDeck q tag, 17),
    (.decideLdg q tag, 18), (.decideRed q tag, 19), (.decideTherm q tag, 22), (.decidePwr q tag, 24)]

/-- Each of them is the one meaning of a decision, for its function. -/
theorem exec_decideRow (hawake : s.awake = true) {r : Instr × Nat} (hr : r ∈ decideRows q tag) :
    exec r.1 s = .next (s.decide' r.2 q tag) := by
  unfold decideRows at hr
  fin_cases hr <;> exact congrArg _ (State.guarded_of_awake _ hawake)

theorem State.decide'_none (h : s.cmd q tag 0x0002 = none) : s.decide' n q tag = s := by
  rw [State.decide', h]

section Started
variable (h : s.cmd q tag 0x0002 = some c)
include h

theorem State.decide'_other (hn : c.opnd 32 1 ≠ n) : s.decide' n q tag = s := by
  rw [State.decide', h]
  exact if_pos hn

/-- The three tests of R60, in order. -/
theorem State.decide'_own (hn : c.opnd 32 1 = n) : s.decide' n q tag =
    if s.mayDecide n (c.opnd 36 4) then
      (if s.timely n (c.opnd 36 4) = stOk then (s.accept n (c.opnd 36 4) (s.decisionBytes c)).finish c stOk
       else s.finish c (s.timely n (c.opnd 36 4)))
    else s.finish c stNotAssist := by
  rw [State.decide', h]
  refine (if_neg (not_not_intro hn)).trans ?_
  dsimp only
  cases s.mayDecide n (c.opnd 36 4) <;> rfl

end Started

/-! ### How far a PERIOD lies ahead -/

theorem ahead_add (f : Nat) (hd : d < 2 ^ 31) : ahead (periodOf (f + d)) f = d := by
  have hmod : ((f + d) % 2 ^ 32 + 2 ^ 32 - f % 2 ^ 32) % 2 ^ 32 = d := by omega
  simp only [ahead, periodOf, hmod, sInt]
  rw [if_neg (by omega)]
  omega

theorem ahead_sub {f : Nat} (hd : d < 2 ^ 31) (hpos : 0 < d) (hle : d ≤ f) : ahead (periodOf (f - d)) f = -d := by
  have hmod : ((f - d) % 2 ^ 32 + 2 ^ 32 - f % 2 ^ 32) % 2 ^ 32 = 2 ^ 32 - d := by omega
  simp only [ahead, periodOf, hmod, sInt]
  rw [if_pos (by omega)]
  omega

/-! ### The tests of R60 -/

/-- The earliest frame that a decision of a function may name: COR and THERM decide one frame further ahead (R61). -/
def State.firstDecided (s : State) (n : Nat) : Nat := s.nextOpen + (if n = 13 ∨ n = 22 then 1 else 0)

theorem State.timely_frame (hptp : n ≠ 4) (hlnk : n ≠ 7) (period : Nat) : s.timely n period =
    if ahead period (s.firstDecided n) < 0 then stTooLate
    else if 4 < ahead period (s.firstDecided n) then stTooEarly else stOk := by
  rw [State.timely, if_neg hptp, if_neg hlnk, if_neg hlnk]
  rfl

/-- A function in HW mode takes a decision only with a switch to ASSIST pending, FN_LNK none (R60). -/
theorem State.mayDecide_hw (h : s.assist n = false) (period : Nat) : s.mayDecide n period =
    (s.flag FNT_STATUS.MODE_PEND n && s.flag FNT_CTRL.MODE_REQ n && decide (n ≠ 7) &&
      (decide (n = 4) || ! s.cadence || decide (0 ≤ ahead period (s.switchFrame n)))) := by
  rw [State.mayDecide, h, Bool.false_or]

theorem State.mayDecide_assist (h : s.assist n = true) (period : Nat) : s.mayDecide n period = true := by
  rw [State.mayDecide, h, Bool.true_or]

/-- With a switch to ASSIST pending under a cadence, the frame of the switch decides. -/
theorem State.mayDecide_pending (h : s.assist n = false) (hptp : n ≠ 4) (hlnk : n ≠ 7) (hcad : s.cadence = true)
    (hpend : s.flag FNT_STATUS.MODE_PEND n = true) (hreq : s.flag FNT_CTRL.MODE_REQ n = true) (period : Nat) :
    s.mayDecide n period = decide (0 ≤ ahead period (s.switchFrame n)) := by
  simp [State.mayDecide_hw h, hptp, hlnk, hcad, hpend, hreq]

/-! ### Decisions held -/

theorem State.decisions_accept (hptp : n ≠ 4) (hlnk : n ≠ 7) (period : Nat) (bs : List Byte) :
    (s.accept n period bs).fnt.decisions =
      (s.fnt.decisions.filter fun d => ¬ (d.fn = n ∧ d.period = period)) ++ [⟨n, period, bs⟩] := by
  rw [State.accept, if_neg hptp, if_neg hlnk]

/-- The decision accepted stands in place of an earlier one of its function and PERIOD. -/
theorem State.decision_accept_same (hptp : n ≠ 4) (hlnk : n ≠ 7) (period : Nat) (bs : List Byte) :
    (s.accept n period bs).decision n period = some bs := by
  have hgone : (s.fnt.decisions.filter fun d => ¬ (d.fn = n ∧ d.period = period)).find?
      (fun d => d.fn = n ∧ d.period = period) = none := by
    refine List.find?_eq_none.mpr fun e he => ?_
    exact of_decide_eq_true (by simpa using (List.mem_filter.mp he).2)
  rw [State.decision, State.decisions_accept hptp hlnk, List.find?_append, hgone]
  simp

theorem State.decision_accept_other (hptp : n ≠ 4) (hlnk : n ≠ 7) {period m r : Nat} (bs : List Byte)
    (hne : ¬ (m = n ∧ r = period)) : (s.accept n period bs).decision m r = s.decision m r := by
  have hlast : ¬ (n = m ∧ period = r) := fun ⟨hm, hr⟩ => hne ⟨hm.symm, hr.symm⟩
  have hkept : ∀ e : Decision, (¬ (e.fn = n ∧ e.period = period)) ∧ (e.fn = m ∧ e.period = r) ↔ e.fn = m ∧ e.period = r :=
    fun e => and_iff_right_of_imp fun ⟨hm, hr⟩ ⟨hn, hp⟩ => hlast ⟨hn.symm.trans hm, hp.symm.trans hr⟩
  rw [State.decision, State.decisions_accept hptp hlnk, List.find?_append, List.find?_filter]
  simp only [decide_eq_true_eq, hkept, List.find?_singleton, hlast, decide_false, Bool.false_eq_true, if_false, Option.or_none]
  rfl
end Decisions

/-- Settles O25: every row is `decide'` of its function, which makes the three tests in order. -/
theorem decisionsTaken : Obligations.DecisionsTaken := by
  unfold Obligations.DecisionsTaken
  intro s q tag hawake r hr
  rw [exec_decideRow hawake hr]
  refine ⟨fun hnone => ?_, fun c hc => ⟨fun hother => ?_, fun hown => ?_⟩⟩
  · rw [State.decide'_none hnone]
  · rw [State.decide'_other hc hother]
  · rw [State.decide'_own hc hown]
    exact ⟨fun hno => by rw [hno]; rfl, fun hmay hlate => by rw [if_pos hmay, if_neg hlate],
      fun hmay hok => by rw [if_pos hmay, if_pos hok]⟩

/-- Settles O26: a PERIOD `d` frames after or before a frame lies `d` ahead or behind, whatever the frame's upper bits. -/
theorem decisionTimes : Obligations.DecisionTimes := by
  unfold Obligations.DecisionTimes
  intro s n d bs hptp hlnk hd first
  refine ⟨fun hnear => ?_, fun hfar => ?_, fun hpos hle => ?_, fun period => ⟨State.decision_accept_same hptp hlnk period bs,
    fun m r => State.decision_accept_other hptp hlnk bs⟩, fun k period h => State.mayDecide_assist h period,
    fun k period h hpend => ?_, fun k period h hreq => ?_, fun k h hkptp hklnk hcad hpend hreq hle => ?_, fun period h => ?_⟩
  · rw [State.timely_frame hptp hlnk, State.firstDecided, ahead_add _ hd, if_neg (by omega), if_neg (by omega)]
  · rw [State.timely_frame hptp hlnk, State.firstDecided, ahead_add _ hd, if_neg (by omega), if_pos (by omega)]
  · rw [State.timely_frame hptp hlnk, State.firstDecided, ahead_sub hd hpos hle, if_pos (by omega)]
  · rw [State.mayDecide_hw h, hpend]
    rfl
  · rw [State.mayDecide_hw h, hreq, Bool.and_false]
    rfl
  · have hmay := State.mayDecide_pending h hkptp hklnk hcad hpend hreq
    rw [hmay, hmay, ahead_add _ hd]
    refine ⟨decide_eq_true (by omega), fun hpos => ?_⟩
    rw [ahead_sub hd hpos hle]
    exact decide_eq_false (by omega)
  · rw [State.mayDecide_hw h]
    simp

end Sys2Proof.Machine

/-! THEOREMS. CMD_NOP, CMD_ABORT and safe points (R53 to R56). -/

namespace Sys2Proof.Machine

section Aborts
variable {s : State} {q : Fin 24} {tag n : Nat} {c t : Cmd}

/-! ### CMD_NOP -/

theorem onCmdNop_started (h : s.cmd q tag 0x0000 = some c) : onCmdNop q tag s = s.finish c stOk := by
  rw [onCmdNop, h]

theorem onCmdNop_none (h : s.cmd q tag 0x0000 = none) : onCmdNop q tag s = s := by
  rw [onCmdNop, h]

/-! ### CMD_ABORT (R55) -/

theorem onCmdAbort_none (h : s.cmd q tag 0x0001 = none) : onCmdAbort q tag s = s := by
  rw [onCmdAbort, h]

/-- A target with the abort of a command accepted. -/
def Cmd.marked (t c : Cmd) : Cmd := { t with aborts := t.aborts ++ [(c.q, c.id)] }

/-- The marks on slots not yet fetched, with that of a command on a slot of a queue. -/
def State.slotMarked (s : State) (c : Cmd) (tq slot : Nat) : List Discard :=
  let mine (d : Discard) : Bool := decide (d.q = tq) && decide (d.slot = slot)
  if s.host.discards.any mine then
    s.host.discards.map fun d => if mine d then { d with aborts := d.aborts ++ [(c.q, c.id)] } else d
  else s.host.discards ++ [⟨tq, slot, [(c.q, c.id)]⟩]

/-- The slot bears a mark with the abort. -/
theorem State.slotMarked_mine (c : Cmd) (tq slot : Nat) :
    ∃ x ∈ s.slotMarked c tq slot, x.q = tq ∧ x.slot = slot ∧ (c.q, c.id) ∈ x.aborts := by
  unfold State.slotMarked
  dsimp only
  split
  case isTrue hany =>
    obtain ⟨d, hd, hmine⟩ := List.any_eq_true.mp hany
    obtain ⟨hq, hslot⟩ : d.q = tq ∧ d.slot = slot := by simpa using hmine
    exact ⟨{ d with aborts := d.aborts ++ [(c.q, c.id)] }, List.mem_map.mpr ⟨d, hd, if_pos hmine⟩, hq, hslot, by simp⟩
  case isFalse => exact ⟨⟨tq, slot, [(c.q, c.id)]⟩, by simp, rfl, rfl, List.mem_singleton_self _⟩

/-- Marks on other slots stay. -/
theorem State.mem_slotMarked_other {c : Cmd} {tq slot : Nat} {x : Discard} (hx : x ∈ s.host.discards)
    (hother : ¬ (x.q = tq ∧ x.slot = slot)) : x ∈ s.slotMarked c tq slot := by
  unfold State.slotMarked
  dsimp only
  split
  · exact List.mem_map.mpr ⟨x, hx, if_neg (by simpa using hother)⟩
  · exact List.mem_append_left _ hx

section Started
variable (h : s.cmd q tag 0x0001 = some c)
include h

theorem onCmdAbort_gone (ht : s.target (c.opnd 32 1) (c.opnd 34 2) = .none) :
    onCmdAbort q tag s = s.finish c stAlreadyDone := by
  rw [onCmdAbort, h]
  dsimp only
  rw [ht]

/-- A fetched target: an abort is none; one that waits completes, one that may stop at any moment stops, any other runs on. -/
theorem onCmdAbort_fetched (ht : s.target (c.opnd 32 1) (c.opnd 34 2) = .fetched t) : onCmdAbort q tag s =
    if t.opcode = 0x0001 then s.finish c stBadTarget
    else if t.phase = .waiting then ((s.abortWaits c).setCmd (t.marked c)).finish (t.marked c) stAborted
    else if t.opcode ∈ anyMoment then ((s.abortWaits c).setCmd (t.marked c)).stopAt (t.marked c) 0
    else (s.abortWaits c).setCmd (t.marked c) := by
  rw [onCmdAbort, h]
  dsimp only
  rw [ht]
  rfl

theorem onCmdAbort_unfetched {slot op : Nat} (ht : s.target (c.opnd 32 1) (c.opnd 34 2) = .waiting slot op) :
    onCmdAbort q tag s =
      if op = 0x0001 then s.finish c stBadTarget
      else { s.abortWaits c with
        host := { (s.abortWaits c).host with discards := s.slotMarked c (c.opnd 32 1) slot } } := by
  rw [onCmdAbort, h]
  dsimp only
  rw [ht]
  rfl

end Started

/-! ### Safe points -/

/-- The commands whose safe points are frame starts or closes run on. -/
theorem onSafePointStop_some
    (h : s.host.cmds.find? (fun c => c.q = q.val ∧ c.tag = tag ∧ c.aborts ≠ [] ∧ c.phase ≠ .waiting ∧ c.opcode ≠ 0x0001) = some c) :
    onSafePointStop q tag n s = if c.opcode ∈ [0x0204, 0x0301, 0x0601, 0x0F01, 0x1001, 0x1401] then s else s.stopAt c n := by
  rw [onSafePointStop, h]
  simp only [frameStops, List.mem_cons]

theorem onSafePointStop_none
    (h : s.host.cmds.find? (fun c => c.q = q.val ∧ c.tag = tag ∧ c.aborts ≠ [] ∧ c.phase ≠ .waiting ∧ c.opcode ≠ 0x0001) = none) :
    onSafePointStop q tag n s = s := by
  rw [onSafePointStop, h]

/-- The opcodes whose commands have no safe point of their own. -/
theorem State.stopAt_unstopped (h : c.opcode ∈ [0x0000, 0x0002, 0x0205, 0x0901, 0x0A02, 0x0A03, 0x0A04, 0x0C01, 0x0D01, 0x0D02, 0x0D04,
    0x0D05, 0x1003, 0x1301, 0x1503, 0x1504, 0x1505, 0x1506, 0x1507, 0x1902]) : s.stopAt c n = s := by
  unfold State.stopAt
  generalize c.opcode = op at h
  fin_cases h <;> rfl

theorem State.stopAt_lampOp (h : c.opcode = 0x1002) : s.stopAt c n = s.lampOpStop c := by
  simp only [State.stopAt, h]

theorem State.stopAt_memWrite (h : c.opcode = 0x1101) : s.stopAt c n = s.memStop c n := by
  simp only [State.stopAt, h]

theorem State.stopAt_power (h : c.opcode = 0x1901) : s.stopAt c n = s.powerStop c := by
  simp only [State.stopAt, h]

/-- A memory write that reaches a MiB inside its data stores what precedes it and reports how much (R410). -/
theorem State.memStop_write (hop : c.opcode = 0x1101) (hphase : c.phase = .started)
    (hok : s.memRefusal (c.opnd 32 8) c.payLen true = none) (hpos : 0 < n) (hin : n * mib < c.payLen) :
    s.memStop c n = (s.extWrite (c.opnd 32 8) ((s.payload c).take (n * mib)) 5).finish c stAborted (result [(24, 8, n * mib)]) := by
  have hwrite : decide (c.opcode = 0x1101) = true := decide_eq_true hop
  simp only [State.memStop, hwrite, if_true]
  exact if_pos ⟨hphase, hpos, hin, hok⟩

theorem State.memStop_outside (h : n = 0 ∨ c.payLen ≤ n * mib) : s.memStop c n = s :=
  if_neg fun ⟨_, hpos, hin, _⟩ => by omega

/-! ### The commands -/

section Awake
variable (hawake : s.awake = true)
include hawake

theorem exec_cmdNop : exec (.cmdNop q tag) s = .next (onCmdNop q tag s) :=
  congrArg _ (State.guarded_of_awake _ hawake)

theorem exec_cmdAbort : exec (.cmdAbort q tag) s = .next (onCmdAbort q tag s) :=
  congrArg _ (State.guarded_of_awake _ hawake)

theorem exec_safePointStop : exec (.safePointStop q tag n) s = .next (onSafePointStop q tag n s) :=
  congrArg _ (State.guarded_of_awake _ hawake)

end Awake

end Aborts

/-- Settles O22: the target decides what an accepted abort does. -/
theorem nopAndAbort : Obligations.NopAndAbort := by
  unfold Obligations.NopAndAbort
  intro s q tag hawake
  rw [exec_cmdNop hawake, exec_cmdAbort hawake]
  refine ⟨fun c hc => ?_, fun hnone => ?_, fun hnone => ?_, fun c hc => ⟨fun hgone => ?_, fun t ht => ?_, fun slot op ht => ?_⟩⟩
  · rw [onCmdNop_started hc]
  · rw [onCmdNop_none hnone]
  · rw [onCmdAbort_none hnone]
  · rw [onCmdAbort_gone hc hgone]
  · rw [onCmdAbort_fetched hc ht]
    refine ⟨fun habort => by rw [if_pos habort], fun hother => ?_⟩
    rw [if_neg hother]
    refine ⟨fun hwait => ?_, fun hrun hany => ?_, fun hrun hno => ?_⟩
    · rw [if_pos hwait]
      rfl
    · rw [if_neg hrun]
      exact congrArg _ (if_pos hany)
    · rw [if_neg hrun]
      exact congrArg _ (if_neg hno)
  · rw [onCmdAbort_unfetched hc ht]
    refine ⟨fun habort => by rw [if_pos habort], fun hother => ?_⟩
    rw [if_neg hother]
    exact ⟨_, rfl, rfl, State.slotMarked_mine _ _ _, fun x hx => State.mem_slotMarked_other hx, rfl⟩

/-- Settles O23: SAFE_POINT_STOP is `stopAt` of the aborted command, whose opcode picks its chapter's rule. -/
theorem safePoints : Obligations.SafePoints := by
  unfold Obligations.SafePoints
  intro s q tag n hawake
  rw [exec_safePointStop hawake]
  refine ⟨fun hnone => ?_, fun c hc => ⟨fun hframe => ?_, fun hother => ?_, fun hop _ => ?_, fun hop hphase hok => ⟨fun hpos hin => ?_,
    fun hout => ?_⟩, fun hop => ?_, State.stopAt_unstopped⟩⟩
  · rw [onSafePointStop_none hnone]
  · rw [onSafePointStop_some hc, if_pos hframe]
  · rw [onSafePointStop_some hc, if_neg hother]
  · rw [State.stopAt_lampOp hop]
    rfl
  · rw [State.stopAt_memWrite hop, State.memStop_write hop hphase hok hpos hin]
  · rw [State.stopAt_memWrite hop, State.memStop_outside hout]
  · rw [State.stopAt_power hop]
    rfl

end Sys2Proof.Machine

/-! SUPPORT. The registers of host control at their addresses, and fields beside one another. -/

namespace Sys2Proof.Machine

section Rows
variable {s : State} {p : Path} {a base i : Nat}

/-- Whether a register of Table 22-2 that is no pair stands at an address outside the areas: its base and its index. -/
def registerAt (a base i : Nat) : Bool :=
  ! inArea a && (regAt a).any fun r => decide (r.1.base = base ∧ r.1.pair = false ∧ r.2.1 = i ∧ r.2.2 = false)

theorem regAt_of_registerAt (h : registerAt a base i = true) :
    inArea a = false ∧ ∃ d, regAt a = some (d, i, false) ∧ d.base = base ∧ d.pair = false := by
  obtain ⟨harea, hany⟩ := Bool.and_eq_true_iff.mp h
  obtain ⟨⟨d, j, hi⟩, hreg, hd⟩ := (Option.any_eq_true _ _).mp hany
  obtain ⟨hbase, hpair, rfl, rfl⟩ : d.base = base ∧ d.pair = false ∧ j = i ∧ hi = false := of_decide_eq_true hd
  exact ⟨by simpa using harea, d, hreg, hbase, hpair⟩

/-- A write of a word at the address of such a register. -/
theorem State.putWord_at (h : registerAt a base i = true) :
    ∃ d, regAt a = some (d, i, false) ∧ d.base = base ∧ ∀ v, s.putWord p a v = s.writeReg p.port d i a v := by
  obtain ⟨harea, d, hreg, hbase, hpair⟩ := regAt_of_registerAt h
  exact ⟨d, hreg, hbase, fun v => State.putWord_register harea v hreg hpair⟩

/-! ### Table 2-3, Table 2-4 and Table 2-10 -/

theorem portCfg_row : registerAt 0x20000 0x20000 0 = true := by decide +kernel

theorem sqTail_row : ∀ q : Fin 24, registerAt (HIF_Q_SQ_TAIL.TAIL.addr q) 0x21014 q = true := by decide +kernel

theorem cqHead_row : ∀ q : Fin 24, registerAt (HIF_Q_CQ_HEAD.HEAD.addr q) 0x21018 q = true := by decide +kernel

theorem evCfg_row : ∀ r : Fin 3, registerAt (HIF_EV_CFG.ENABLE.addr r) 0x21400 r = true := by decide +kernel

theorem evHead_row : ∀ r : Fin 3, registerAt (HIF_EV_HEAD.HEAD.addr r) 0x2140C r = true := by decide +kernel

theorem State.putWord_portCfg (v : Nat) : s.putWord p 0x20000 v = s.writePortCfg v := by
  obtain ⟨d, -, hbase, hput⟩ := State.putWord_at portCfg_row
  rw [hput, State.writeReg, hbase]
  rfl

theorem State.putWord_sqTail (q : Fin 24) (v : Nat) : s.putWord p (HIF_Q_SQ_TAIL.TAIL.addr q) v = s.writeTail q v := by
  obtain ⟨d, -, hbase, hput⟩ := State.putWord_at (sqTail_row q)
  rw [hput, State.writeReg, hbase]
  rfl

theorem State.putWord_cqHead (q : Fin 24) (v : Nat) : s.putWord p (HIF_Q_CQ_HEAD.HEAD.addr q) v = s.writeCqHead q v := by
  obtain ⟨d, -, hbase, hput⟩ := State.putWord_at (cqHead_row q)
  rw [hput, State.writeReg, hbase]
  rfl

theorem State.putWord_evHead (r : Fin 3) (v : Nat) : s.putWord p (HIF_EV_HEAD.HEAD.addr r) v = s.writeEvHead r v := by
  obtain ⟨d, -, hbase, hput⟩ := State.putWord_at (evHead_row r)
  rw [hput, State.writeReg, hbase]
  rfl

theorem State.putWord_evCfg (r : Fin 3) : ∃ d, regAt (HIF_EV_CFG.ENABLE.addr r) = some (d, r.val, false) ∧
    ∀ v, s.putWord p (HIF_EV_CFG.ENABLE.addr r) v = s.writeRingCfg d r (HIF_EV_CFG.ENABLE.addr r) v := by
  obtain ⟨d, hreg, hbase, hput⟩ := State.putWord_at (s := s) (p := p) (evCfg_row r)
  refine ⟨d, hreg, fun v => ?_⟩
  rw [hput, State.writeReg, hbase]
  rfl

end Rows

/-! ### Fields -/

/-- Two fields of registers with one step at one index share no bit. -/
def Fld.apart (f g : Fld) : Bool :=
  decide (f.stride = g.stride) && (decide (f.base ≠ g.base) ||
    decide (f.rst = g.rst ∧ g.lo + g.width ≤ 32 ∧ (f.lo + f.width ≤ g.lo ∨ g.lo + g.width ≤ f.lo)))

section Fields
variable {s t : State} {f g : Fld} {i q a rst : Nat}

theorem State.fld_setFld_apart (v : Nat) (h : g.apart f = true) : (s.setFld f v i).fld g i = s.fld g i := by
  obtain ⟨hstride, hwhere⟩ : g.stride = f.stride ∧ (g.base ≠ f.base ∨
      g.rst = f.rst ∧ f.lo + f.width ≤ 32 ∧ (g.lo + g.width ≤ f.lo ∨ f.lo + f.width ≤ g.lo)) := by
    simpa only [Fld.apart, Bool.and_eq_true, Bool.or_eq_true, decide_eq_true_eq] using h
  by_cases hbase : g.base = f.base
  · obtain ⟨hrst, hwidth, hbits⟩ := hwhere.resolve_left (not_not_intro hbase)
    exact State.fld_setFld_beside s v (by rw [Fld.addr, Fld.addr, hbase, hstride]) hrst hwidth hbits
  · refine State.fld_setFld_ne s v ?_
    rw [Fld.addr, Fld.addr, hstride]
    omega

theorem State.setFlag_eq (f : Fld) (b : Bool) (i : Nat) : s.setFlag f b i = s.setFld f (b2n b) i := rfl

/-- Registers alone decide what a word and a field read. -/
theorem State.word_congr (h : t.regs = s.regs) : t.word a rst = s.word a rst := by rw [State.word, h, State.word]

theorem State.fld_congr (h : t.regs = s.regs) : t.fld f i = s.fld f i := by rw [State.fld, State.word_congr h, State.fld]

theorem State.word_setQueue (x : QueueSt) : (s.setQueue q x).word a rst = s.word a rst := State.word_congr rfl

theorem State.fld_setQueue (x : QueueSt) : (s.setQueue q x).fld f i = s.fld f i := State.fld_congr rfl

theorem State.word_setRing (x : RingSt) : (s.setRing q x).word a rst = s.word a rst := State.word_congr rfl

theorem State.fld_setRing (x : RingSt) : (s.setRing q x).fld f i = s.fld f i := State.fld_congr rfl

theorem State.queue_setQueue_same (q : Nat) (x : QueueSt) : (s.setQueue q x).queue q = x := by
  simp only [State.queue, State.setQueue, Sparse.get, Sparse.find_set_self, Option.getD_some]

theorem State.queue_setQueue_ne {k : Nat} (x : QueueSt) (h : q ≠ k) : (s.setQueue k x).queue q = s.queue q := by
  simp only [State.queue, State.setQueue, Sparse.get, Sparse.find_set_ne _ _ h]

theorem State.ring_setRing_same (r : Nat) (x : RingSt) : (s.setRing r x).ring r = x := by
  simp only [State.ring, State.setRing, Sparse.get, Sparse.find_set_self, Option.getD_some]

end Fields

end Sys2Proof.Machine

/-! THEOREMS. Doorbells and head registers, event rings (R47, R50, R52, R57 to R59). -/

namespace Sys2Proof.Machine

section Rings
variable {s : State} {p : Path} {q : Fin 24} {r : Fin 3} {v : Word} {d : RegDesc}

/-! ### Heads -/

theorem State.writeCqHead_eq (q v : Nat) :
    s.writeCqHead q v = (s.setFld HIF_Q_CQ_HEAD.HEAD (bits v 0 12) q).rearm (queuePort q) [s.fld HIF_Q_CFG.VEC q] := by
  have hne : HIF_Q_CFG.VEC.addr q ≠ HIF_Q_CQ_HEAD.HEAD.addr q := by
    simp only [Fld.addr, HIF_Q_CFG.VEC, HIF_Q_CQ_HEAD.HEAD]; omega
  rw [State.writeCqHead, State.fld_setFld_ne s _ hne]

theorem State.writeEvHead_eq (v : Nat) : s.writeEvHead r v =
    ((s.setFld HIF_EV_HEAD.HEAD (bits v 0 12) r).setRing r { s.ring r with losing := false }).rearm r
      ((List.range 49).map fun g => s.fld HIF_EV_VEC.VEC g) := by
  have hvec : (List.range 49).map (fun g => (s.setFld HIF_EV_HEAD.HEAD (bits v 0 12) r).fld HIF_EV_VEC.VEC g) =
      (List.range 49).map fun g => s.fld HIF_EV_VEC.VEC g := by
    refine List.map_congr_left fun g hg => State.fld_setFld_ne s _ ?_
    have hlt := List.mem_range.mp hg
    simp only [Fld.addr, HIF_EV_VEC.VEC, HIF_EV_HEAD.HEAD]
    omega
  rw [State.writeEvHead, ← hvec]
  rfl

/-! ### HIF_EV_CFG -/

/-- The state with the fields of HIF_EV_CFG stored, but ENABLE. -/
def State.ringStored (s : State) (d : RegDesc) (r v : Nat) : State :=
  (s.writePlain d (HIF_EV_CFG.ENABLE.addr r) v).setFlag HIF_EV_CFG.ENABLE (s.flag HIF_EV_CFG.ENABLE r) r

/-- Where an event ring may be enabled (R47). -/
def State.evPlaced (s : State) (r : Nat) : Prop :=
  ringPlaced r (s.evRange r) = true ∧ (s.otherRings r none false).any (rangesMeet (s.evRange r)) = false

/-- The state with an event ring enabled and no record written; what a restart holds for it stays held (log entry 121). -/
def State.ringOpened (s : State) (r : Nat) : State :=
  (((s.setFlag HIF_EV_CFG.ENABLE true r).setFlag HIF_EV_CFG.CFG_ERR false r).setFld HIF_EV_HEAD.HEAD 0 r).setRing r
    { RingSt.reset with held := (s.ring r).held, excess := (s.ring r).excess }

/-- The state with no event held for the first ring. -/
def State.firstRingTaken (s : State) : State := { s with host := { s.host with untilRing := [] } }

theorem State.writeRingCfg_disable {v : Nat} (h : v % 2 = 0) :
    s.writeRingCfg d r (HIF_EV_CFG.ENABLE.addr r) v = (s.ringStored d r v).setFlag HIF_EV_CFG.ENABLE false r := by
  rw [State.writeRingCfg, if_pos h]
  rfl

theorem State.writeRingCfg_enabled {v : Nat} (h : v % 2 = 1) (hon : s.flag HIF_EV_CFG.ENABLE r = true) :
    s.writeRingCfg d r (HIF_EV_CFG.ENABLE.addr r) v = s.ringStored d r v := by
  rw [State.writeRingCfg, if_neg (by omega), if_pos hon]
  rfl

theorem State.writeRingCfg_placed {v : Nat} (h : v % 2 = 1) (hoff : s.flag HIF_EV_CFG.ENABLE r = false)
    (hplaced : (s.ringStored d r v).evPlaced r) : s.writeRingCfg d r (HIF_EV_CFG.ENABLE.addr r) v =
      s.host.untilRing.foldl (fun (x : State) e => x.raiseFor e r) ((s.ringStored d r v).ringOpened r).firstRingTaken := by
  obtain ⟨hin, hapart⟩ := hplaced
  rw [State.writeRingCfg, if_neg (by omega), if_neg (by simp [hoff])]
  exact if_pos ⟨hin, by rw [Bool.not_eq_true']; exact hapart⟩

theorem State.writeRingCfg_refused {v : Nat} (h : v % 2 = 1) (hoff : s.flag HIF_EV_CFG.ENABLE r = false)
    (hbad : ¬ (s.ringStored d r v).evPlaced r) : s.writeRingCfg d r (HIF_EV_CFG.ENABLE.addr r) v =
      (s.ringStored d r v).setFlag HIF_EV_CFG.CFG_ERR true r := by
  rw [State.writeRingCfg, if_neg (by omega), if_neg (by simp [hoff])]
  exact if_neg fun ⟨hin, hapart⟩ => hbad ⟨hin, by rw [Bool.not_eq_true'] at hapart; exact hapart⟩

/-! ### A ring just enabled -/

theorem State.flag_ringOpened_enable (r : Nat) : (s.ringOpened r).flag HIF_EV_CFG.ENABLE r = true := by
  simp (disch := decide) only [State.ringOpened, State.flag, State.fld_setRing, State.setFlag_eq, State.fld_setFld_apart,
    State.fld_setFld_same]
  rfl

theorem State.flag_ringOpened_cfgErr (r : Nat) : (s.ringOpened r).flag HIF_EV_CFG.CFG_ERR r = false := by
  simp (disch := decide) only [State.ringOpened, State.flag, State.fld_setRing, State.setFlag_eq, State.fld_setFld_apart,
    State.fld_setFld_same]
  rfl

theorem State.fld_ringOpened_head (r : Nat) : (s.ringOpened r).fld HIF_EV_HEAD.HEAD r = 0 := by
  simp (disch := decide) only [State.ringOpened, State.fld_setRing, State.fld_setFld_same, Nat.zero_mod]

theorem State.ring_ringOpened (r : Nat) :
    (s.ringOpened r).ring r = { RingSt.reset with held := (s.ring r).held, excess := (s.ring r).excess } :=
  State.ring_setRing_same r _

theorem State.word_ringOpened_ne {r a : Nat} (rst : Nat) (hcfg : a ≠ HIF_EV_CFG.ENABLE.addr r) (hhead : a ≠ HIF_EV_HEAD.HEAD.addr r) :
    (s.ringOpened r).word a rst = s.word a rst := by
  have herr : a ≠ HIF_EV_CFG.CFG_ERR.addr r := hcfg
  simp only [State.ringOpened, State.word_setRing, State.setFlag_eq, State.word_setFld_ne _ _ _ hcfg, State.word_setFld_ne _ _ _ herr,
    State.word_setFld_ne _ _ _ hhead]

theorem State.ringOpened_frame (r : Nat) : s.ringOpened r =
    { s with regs := (s.ringOpened r).regs, host := { s.host with rings := (s.ringOpened r).host.rings } } := rfl

theorem State.ringStored_frame (r v : Nat) : s.ringStored d r v = { s with regs := (s.ringStored d r v).regs } := rfl

theorem State.ring_ringStored (r v : Nat) : (s.ringStored d r v).ring r = s.ring r := rfl

theorem State.word_ringStored_ne {r a : Nat} (v rst : Nat) (h : a ≠ HIF_EV_CFG.ENABLE.addr r) :
    (s.ringStored d r v).word a rst = s.word a rst :=
  (State.word_setFld_ne _ _ rst h).trans (State.word_writePlain_ne _ rst h)

theorem State.word_firstRingTaken {a rst : Nat} : s.firstRingTaken.word a rst = s.word a rst := State.word_congr rfl

theorem State.fld_firstRingTaken {f : Fld} {i : Nat} : s.firstRingTaken.fld f i = s.fld f i := State.fld_congr rfl

theorem State.flag_firstRingTaken {f : Fld} {i : Nat} : s.firstRingTaken.flag f i = s.flag f i := by
  rw [State.flag, State.fld_firstRingTaken, State.flag]

theorem State.ring_firstRingTaken (r : Nat) : s.firstRingTaken.ring r = s.ring r := (rfl)

/-! ### The commands -/

section Open
variable (hawake : s.awake = true) (hopen : s.pathOpen p = true)
include hawake hopen

theorem exec_sqDoorbell : exec (.sqDoorbell p q v) s = .next (s.writeTail q v.toNat) :=
  congrArg _ <| calc s.guarded (onSqDoorbell p q v)
    _ = s.hostWriteWord p (HIF_Q_SQ_TAIL.TAIL.addr q) v.toNat := State.guarded_of_awake _ hawake
    _ = _ := by rw [State.hostWriteWord_open _ hopen, State.putWord_sqTail]

theorem exec_cqHeadWrite : exec (.cqHeadWrite p q v) s = .next (s.writeCqHead q v.toNat) :=
  congrArg _ <| calc s.guarded (onCqHeadWrite p q v)
    _ = s.hostWriteWord p (HIF_Q_CQ_HEAD.HEAD.addr q) v.toNat := State.guarded_of_awake _ hawake
    _ = _ := by rw [State.hostWriteWord_open _ hopen, State.putWord_cqHead]

theorem exec_evHeadWrite : exec (.evHeadWrite p r v) s = .next (s.writeEvHead r v.toNat) :=
  congrArg _ <| calc s.guarded (onEvHeadWrite p r v)
    _ = s.hostWriteWord p (HIF_EV_HEAD.HEAD.addr r) v.toNat := State.guarded_of_awake _ hawake
    _ = _ := by rw [State.hostWriteWord_open _ hopen, State.putWord_evHead]

theorem exec_eventRingEnable (h : v.toNat % 2 = 1) :
    exec (.eventRingEnable p r v) s = .next (s.putWord p (HIF_EV_CFG.ENABLE.addr r) v.toNat) :=
  congrArg _ <| calc s.guarded (onEventRingEnable p r v)
    _ = onEventRingEnable p r v s := State.guarded_of_awake _ hawake
    _ = _ := by rw [onEventRingEnable, if_pos h, State.hostWriteWord_open _ hopen]

theorem exec_eventRingDisable (h : v.toNat % 2 = 0) :
    exec (.eventRingDisable p r v) s = .next (s.putWord p (HIF_EV_CFG.ENABLE.addr r) v.toNat) :=
  congrArg _ <| calc s.guarded (onEventRingDisable p r v)
    _ = onEventRingDisable p r v s := State.guarded_of_awake _ hawake
    _ = _ := by rw [onEventRingDisable, if_pos h, State.hostWriteWord_open _ hopen]

end Open

section Other
variable (hawake : s.awake = true)
include hawake

theorem exec_eventRingEnable_other (h : v.toNat % 2 = 0) : exec (.eventRingEnable p r v) s = .next s :=
  congrArg _ ((State.guarded_of_awake (onEventRingEnable p r v) hawake).trans (if_neg (by omega)))

theorem exec_eventRingDisable_other (h : v.toNat % 2 = 1) : exec (.eventRingDisable p r v) s = .next s :=
  congrArg _ ((State.guarded_of_awake (onEventRingDisable p r v) hawake).trans (if_neg (by omega)))

end Other

end Rings

/-- Settles O20: each command is the write of its register, whose own effect is `writeTail`, `writeCqHead` or `writeEvHead`. -/
theorem doorbellsAndHeads : Obligations.DoorbellsAndHeads := by
  unfold Obligations.DoorbellsAndHeads
  intro s p q r v hawake hopen
  rw [exec_sqDoorbell hawake hopen, exec_cqHeadWrite hawake hopen, exec_evHeadWrite hawake hopen, State.writeCqHead_eq,
    State.writeEvHead_eq]
  exact ⟨fun hlt => congrArg _ (if_pos hlt), fun hge => congrArg _ (if_neg (by omega)), rfl, rfl⟩

/-- Settles O19: the write stores the fields (`ringStored`), and ENABLE then opens the ring (`ringOpened`), is refused, or clears. -/
theorem ringEnables : Obligations.RingEnables := by
  unfold Obligations.RingEnables
  intro s p r v hawake hopen
  obtain ⟨d, hreg, hput⟩ := State.putWord_evCfg (s := s) (p := p) r
  refine ⟨d, hreg, fun hone hoff => ⟨fun hplaced => ⟨((s.ringStored d r v.toNat).ringOpened r).firstRingTaken, ?_, rfl, ?_, ?_, ?_,
    ?_, ?_, ?_, ?_, fun a rst hcfg hhead => ?_, ?_⟩, fun hbad => ?_⟩, fun hone hon => ?_, fun hzero => ?_,
    exec_eventRingEnable_other hawake, exec_eventRingDisable_other hawake⟩
  · rw [exec_eventRingEnable hawake hopen hone, hput, State.writeRingCfg_placed hone hoff hplaced]
  · rw [State.flag_firstRingTaken, State.flag_ringOpened_enable]
  · rw [State.flag_firstRingTaken, State.flag_ringOpened_cfgErr]
  · rw [State.fld_firstRingTaken, State.fld_ringOpened_head]
  · rw [State.ring_firstRingTaken, State.ring_ringOpened]
    rfl
  · rw [State.ring_firstRingTaken, State.ring_ringOpened]
    rfl
  · rw [State.ring_firstRingTaken, State.ring_ringOpened]
    rfl
  · rw [State.ring_firstRingTaken, State.ring_ringOpened, State.ring_ringStored]
  · rw [State.word_firstRingTaken, State.word_ringOpened_ne rst hcfg hhead, State.word_ringStored_ne _ _ hcfg]
  · rw [State.firstRingTaken, State.ringOpened_frame, State.ringStored_frame]
  · rw [exec_eventRingEnable hawake hopen hone, hput, State.writeRingCfg_refused hone hoff hbad]
    rfl
  · rw [exec_eventRingEnable hawake hopen hone, hput, State.writeRingCfg_enabled hone hon]
    rfl
  · rw [exec_eventRingDisable hawake hopen hzero, hput, State.writeRingCfg_disable hzero]
    rfl

end Sys2Proof.Machine

/-! THEOREMS. Accesses through a path that is not open (R41, R44, R521). -/

namespace Sys2Proof.Machine

section Closed
variable {s : State} {p : Path} {a : Nat}

/-! ### Writes of one word -/

/-- HIF_PORT_CFG of a disabled port takes a write through a known path of the SPI or the remote port (Table 2-3). -/
theorem State.hostWriteWord_portCfg (v : Nat) (hport : p.port ≠ 0) (hknown : s.pathKnown p = true) :
    s.hostWriteWord p 0x20000 v = s.writePortCfg v := by
  rw [State.hostWriteWord, if_pos (.inr ⟨hport, rfl, hknown⟩), State.putWord_portCfg]

/-- A register with an address above HIF_PORT_CFG is another one. -/
theorem Fld.addr_ne_portCfg {f : Fld} (i : Nat) (h : 0x20000 < f.base) : f.addr i ≠ 0x20000 :=
  (h.trans_le (Nat.le_add_right _ _)).ne'

theorem fntCtrl_ne_portCfg (n : Fin 48) : FNT_CTRL.RST.addr n ≠ 0x20000 := by
  have := n.isLt
  simp only [Fld.addr, FNT_CTRL.RST]
  omega

/-- A pair at an address is no HIF_PORT_CFG. -/
theorem pair_ne_portCfg {d : RegDesc} {i : Nat} {hi : Bool} (h : regAt a = some (d, i, hi)) (hd : d.pair = true) : a ≠ 0x20000 := by
  rintro rfl
  obtain ⟨-, e, hreg, -, hpair⟩ := regAt_of_registerAt portCfg_row
  cases hreg.symm.trans h
  cases hpair.symm.trans hd

theorem high_ne_portCfg {d : RegDesc} {i : Nat} (h : regAt a = some (d, i, true)) : a ≠ 0x20000 := by
  rintro rfl
  obtain ⟨-, e, hreg, -, -⟩ := regAt_of_registerAt portCfg_row
  cases hreg.symm.trans h

/-! ### Writes of several words -/

/-- Words of a set of addresses that the device ignores, one after another. -/
theorem State.writeWords_ignored {next : Nat → Nat} {ignored : Nat → Prop} (hnext : ∀ a, ignored a → ignored (next a))
    (hword : ∀ a v, ignored a → s.hostWriteWord p a v = s) (bs : List Byte) (h : ignored a) :
    State.writeWords next p a bs s = s := by
  induction a, bs, s using State.writeWords.induct (next := next) (p := p) with
  | case1 a b0 b1 b2 b3 bs s ih =>
    rw [State.writeWords]
    rw [hword _ _ h] at ih ⊢
    exact ih hword (hnext a h)
  | case2 a bs s hshort =>
    rw [State.writeWords]
    exact hshort

/-- Four bytes are one word. -/
theorem State.writeWords_four (next : Nat → Nat) {bs : List Byte} (h : bs.length = 4) :
    State.writeWords next p a bs s = s.hostWriteWord p a (leNat bs) := by
  match bs, h with
  | [_, _, _, _], _ => rfl

/-- A burst of the SPI stays in its page (R43). -/
theorem nextInPage_page (a : Nat) : nextInPage a / 4096 = a / 4096 := by
  unfold nextInPage
  omega

section Path
variable (hclosed : s.pathOpen p = false)
include hclosed

theorem State.hostRead_closed (n m : Nat) : s.hostRead p a n m = s := if_pos (.inl (by simp [hclosed]))

theorem State.hostWriteWord_closed (v : Nat) (h : p.port = 0 ∨ s.pathKnown p = false ∨ a ≠ 0x20000) : s.hostWriteWord p a v = s := by
  refine if_neg ?_
  rintro (hopen | ⟨hport, ha, hknown⟩)
  · cases hclosed.symm.trans hopen
  · rcases h with h | h | h
    · exact hport h
    · cases h.symm.trans hknown
    · exact h ha

/-- A write through a closed path does nothing outside the page of HIF_PORT_CFG. -/
theorem State.hostWrite_closed (bs : List Byte) (h : p.port = 0 ∨ s.pathKnown p = false ∨ a / 4096 ≠ 0x20) :
    s.hostWrite p a bs = s := by
  have hpage : ∀ b v, (p.port = 0 ∨ s.pathKnown p = false ∨ b / 4096 ≠ 0x20) → s.hostWriteWord p b v = s := fun b v hb =>
    State.hostWriteWord_closed hclosed v (hb.imp_right fun hb => hb.imp_right fun hne he => hne (by rw [he]))
  unfold State.hostWrite
  cases p with
  | pcie =>
    dsimp only
    split
    · rfl
    · exact State.writeWords_ignored (ignored := fun _ => True) (fun _ _ => trivial) (fun b v _ => hpage b v (.inl rfl)) _ trivial
  | spi =>
    dsimp only
    split
    · exact State.writeWords_ignored (ignored := fun b => Path.spi.port = 0 ∨ s.pathKnown .spi = false ∨ b / 4096 ≠ 0x20)
        (fun b hb => by rwa [nextInPage_page]) hpage _ h
    · rfl
  | remote e =>
    dsimp only
    split
    · next hone => rw [State.writeWords_four _ hone.1, hpage _ _ h]
    · rfl

/-! ### The rows -/

theorem onPairLoRead_closed : onPairLoRead p a s = s := by
  unfold onPairLoRead
  split
  · rw [State.hostRead_closed hclosed, ite_self]
  · rfl

theorem onPairLoWrite_closed (v : Word) : onPairLoWrite p a v s = s := by
  unfold onPairLoWrite
  split
  · next d i hreg =>
    split
    · next hd => exact State.hostWriteWord_closed hclosed _ (.inr (.inr (pair_ne_portCfg hreg hd)))
    · rfl
  · rfl

theorem onPairHiWrite_closed (v : Word) : onPairHiWrite p a v s = s := by
  unfold onPairHiWrite
  split
  · next d i hreg => exact State.hostWriteWord_closed hclosed _ (.inr (.inr (high_ne_portCfg hreg)))
  · rfl

/-- A row that writes one register, whatever its condition. -/
theorem State.ite_write_closed (c : Prop) [Decidable c] (v : Nat) (h : a ≠ 0x20000) :
    (if c then s.hostWriteWord p a v else s) = s := by
  rw [State.hostWriteWord_closed hclosed v (.inr (.inr h)), ite_self]

end Path

/-- The rows that access one register through a path, HIF_PORT_CFG aside. -/
def registerRows (p : Path) (v : Word) (q : Fin 24) (r : Fin 3) (k : Fin 16) (n : Fin 48) (u : Fin 32) (lane : Fin 128)
    (bad : Fin 3) : List Instr :=
  [.deckDataRead p, .deckDataWrite p v, .queueEnable p q v, .queueDisable p q v, .eventRingEnable p r v,
    .eventRingDisable p r v, .sqDoorbell p q v, .cqHeadWrite p q v, .evHeadWrite p r v, .fnReset p n v, .spanEnableWrite p k v,
    .spanRetrainWrite p k, .spanInject p k v, .laneInjectOne p lane, .eyeScanStart p lane v, .wallTimeWrite p v,
    .chkPresetWrite p u v, .chkFeed p u v, .chkFeed1 p u v, .chkLoad p u v, .gpioSet p v, .gpioClr p v, .glbResetWrite p v,
    .fwuRecoverGo p v bad]

section Awake
variable (hawake : s.awake = true)
include hawake

/-- A row whose meaning leaves the device as it is. -/
theorem State.next_guarded_still {f : State → State} (h : f s = s) :
    (Host.Outcome.next (s.guarded f) : Host.Outcome State Fault Refusal) = .next s := by
  rw [State.guarded_of_awake f hawake, h]

theorem exec_registerRow_closed (hclosed : s.pathOpen p = false) {v : Word} {q : Fin 24} {r : Fin 3} {k : Fin 16} {n : Fin 48}
    {u : Fin 32} {lane : Fin 128} {bad : Fin 3} : ∀ c ∈ registerRows p v q r k n u lane bad, exec c s = .next s := by
  have hrow : ∀ {f : State → State}, f s = s → (Host.Outcome.next (s.guarded f) : Host.Outcome State Fault Refusal) = .next s :=
    State.next_guarded_still hawake
  have hput : ∀ {b : Nat} (w : Nat), b ≠ 0x20000 → s.hostWriteWord p b w = s := fun w hb =>
    State.hostWriteWord_closed hclosed w (.inr (.inr hb))
  have hfld : ∀ {f : Fld} (i w : Nat), 0x20000 < f.base → s.hostWriteWord p (f.addr i) w = s := fun i w hf =>
    hput w (Fld.addr_ne_portCfg i hf)
  have hcond : ∀ {f : Fld} (c : Prop) [Decidable c] (i w : Nat), 0x20000 < f.base →
      (if c then s.hostWriteWord p (f.addr i) w else s) = s := fun c _ i w hf =>
    State.ite_write_closed hclosed c w (Fld.addr_ne_portCfg i hf)
  intro c hc
  simp only [registerRows, List.mem_cons, List.not_mem_nil, or_false] at hc
  rcases hc with rfl | rfl | rfl | rfl | rfl | rfl | rfl | rfl | rfl | rfl | rfl | rfl | rfl | rfl | rfl | rfl | rfl | rfl | rfl |
    rfl | rfl | rfl | rfl | rfl
  · exact hrow (State.hostRead_closed hclosed 4 0)
  · exact hrow (hput v.toNat (by decide : 0x20024 ≠ 0x20000))
  · exact hrow (hcond (f := HIF_Q_CFG.ENABLE) _ q v.toNat (by decide))
  · exact hrow (hcond (f := HIF_Q_CFG.ENABLE) _ q v.toNat (by decide))
  · exact hrow (hcond (f := HIF_EV_CFG.ENABLE) _ r v.toNat (by decide))
  · exact hrow (hcond (f := HIF_EV_CFG.ENABLE) _ r v.toNat (by decide))
  · exact hrow (hfld (f := HIF_Q_SQ_TAIL.TAIL) q v.toNat (by decide))
  · exact hrow (hfld (f := HIF_Q_CQ_HEAD.HEAD) q v.toNat (by decide))
  · exact hrow (hfld (f := HIF_EV_HEAD.HEAD) r v.toNat (by decide))
  · exact hrow (State.ite_write_closed hclosed _ v.toNat (fntCtrl_ne_portCfg n))
  · exact hrow (hcond (f := SPN_CFG.EN) _ k v.toNat (by decide))
  · exact hrow (hfld (f := SPN_CFG.EN) k _ (by decide))
  · exact hrow (hfld (f := SPN_INJ.VC) k v.toNat (by decide))
  · exact hrow (hfld (f := LNE_INJ.ONE) lane _ (by decide))
  · exact hrow (hcond (f := LNE_EYE_CTRL.START) _ lane v.toNat (by decide))
  · exact hrow (hput v.toNat (by decide : 0xE0004 ≠ 0x20000))
  · exact hrow (hfld (f := CHK_CFG.PRESET) u v.toNat (by decide))
  · exact hrow (hfld (f := CHK_FEED.DATA) u v.toNat (by decide))
  · exact hrow (hfld (f := CHK_FEED1.DATA) u v.toNat (by decide))
  · exact hrow (hfld (f := CHK_CTRL.LOAD) u v.toNat (by decide))
  · exact hrow (hput v.toNat (by decide : 0x88 ≠ 0x20000))
  · exact hrow (hput v.toNat (by decide : 0x8C ≠ 0x20000))
  · exact hrow (hput v.toNat (by decide : 0x18 ≠ 0x20000))
  · exact hrow (if_neg fun hc => by simp [hclosed] at hc)

theorem exec_portEnable (r : Fin 3) : exec (.portEnable p r) s = .next (s.hostWriteWord p 0x20000 (s.portCfgWith r true)) :=
  congrArg _ (State.guarded_of_awake _ hawake)

theorem exec_portDisable (r : Fin 3) : exec (.portDisable p r) s = .next (s.hostWriteWord p 0x20000 (s.portCfgWith r false)) :=
  congrArg _ (State.guarded_of_awake _ hawake)

/-- The SPI and the remote port write HIF_PORT_CFG as one word. -/
theorem exec_registerWrite_portCfg (v : Word) (hport : p.port ≠ 0) (hknown : s.pathKnown p = true) :
    exec (.registerWrite p 0x20000 (leBytes 4 v.toNat)) s = .next (s.writePortCfg v.toNat) := by
  have hlen := length_leBytes 4 v.toNat
  rw [exec_registerWrite _ hawake, ← State.hostWriteWord_portCfg v.toNat hport hknown]
  unfold State.hostWrite
  cases p with
  | pcie => exact absurd rfl hport
  | spi => rw [← State.writeWords_word nextInPage v.toNat v.isLt]; rfl
  | remote e =>
    dsimp only
    rw [if_pos ⟨hlen, by decide, by decide⟩, State.writeWords_word _ _ v.isLt]

theorem exec_bar2_closed {n : Nat} {bs : List Byte} (h : s.portOn 0 = false) :
    exec (.bar2Read a n) s = .next s ∧ exec (.bar2Write a bs) s = .next s :=
  ⟨State.next_guarded_still hawake (if_neg fun hc => by simp [h] at hc),
    State.next_guarded_still hawake (if_neg fun hc => by simp [h] at hc)⟩

end Awake

end Closed

/-- Settles O12: through a closed path every read is ignored, and every write of a word but that of HIF_PORT_CFG. -/
theorem closedPathIgnored : Obligations.ClosedPathIgnored := by
  unfold Obligations.ClosedPathIgnored
  intro s p hawake
  refine ⟨fun hclosed => ⟨fun a n m => ?_, fun a bs h => ?_, fun a v => ⟨?_, ?_, ?_⟩, fun v q r k n u lane bad =>
    exec_registerRow_closed hawake hclosed, fun r h => ?_, fun hport hknown v r => ?_⟩, fun hoff a n bs => exec_bar2_closed hawake hoff⟩
  · rw [exec_readClear _ _ hawake, State.hostRead_closed hclosed]
  · rw [exec_registerWrite _ hawake, State.hostWrite_closed hclosed bs h]
  · exact State.next_guarded_still hawake (onPairLoRead_closed hclosed)
  · exact State.next_guarded_still hawake (onPairLoWrite_closed hclosed v)
  · exact State.next_guarded_still hawake (onPairHiWrite_closed hclosed v)
  · have hword : ∀ w, s.hostWriteWord p 0x20000 w = s := fun w =>
      State.hostWriteWord_closed hclosed w (h.imp_right .inl)
    rw [exec_portEnable hawake, exec_portDisable hawake, hword, hword]
    exact ⟨rfl, rfl⟩
  · rw [exec_registerWrite_portCfg hawake v hport hknown, exec_portEnable hawake, exec_portDisable hawake,
      State.hostWriteWord_portCfg _ hport hknown, State.hostWriteWord_portCfg _ hport hknown]
    exact ⟨rfl, rfl, rfl⟩

end Sys2Proof.Machine

/-! SUPPORT. The frame of a report: what sending a notification, writing a record and counting change (R48, R57 to R59, R226). -/

namespace Sys2Proof.Machine

section Sent
variable {s t u : State} {a rst : Nat}

/-! ### Messages on their way out -/

/-- The frame of a message sent on VC0: planks queued at ports, the inbox, the next MSG_SEQ, the count of planks without a route. -/
structure Sent (s t : State) : Prop where
  rest : t = { s with regs := t.regs, span := { s.span with ports := t.span.ports }, via := t.via }
  word : ∀ a rst, a ≠ VIA_CNT_DROP.NOROUTE.addr 0 → t.word a rst = s.word a rst

theorem Sent.refl (s : State) : Sent s s := ⟨rfl, fun _ _ _ => rfl⟩

theorem Sent.trans (h1 : Sent s t) (h2 : Sent t u) : Sent s u where
  rest := h2.rest.trans (by rw [h1.rest])
  word a rst ha := (h2.word a rst ha).trans (h1.word a rst ha)

theorem Sent.foldl {β : Type} {f : State → β → State} {l : List β} (hf : ∀ t, ∀ x ∈ l, Sent t (f t x)) : Sent s (l.foldl f s) :=
  List.foldlRecOn (motive := Sent s) l f (Sent.refl s) fun t ht x hx => ht.trans (hf t x hx)

theorem Sent.host (h : Sent s t) : t.host = s.host := by rw [h.rest]

theorem Sent.out (h : Sent s t) : t.out = s.out := by rw [h.rest]

theorem State.queuePlank_sent {k : Nat} {x : Plank} {slot : Option (Nat × Nat)} (hvc : x.vc ≠ 1) : Sent s (s.queuePlank k x slot) := by
  rw [State.queuePlank, if_neg fun h => hvc h.1]
  exact ⟨rfl, fun _ _ _ => rfl⟩

theorem State.routePlank_sent {x : Plank} (hvc : x.vc ≠ 1) : Sent s (s.routePlank x none) := by
  unfold State.routePlank
  split
  · exact State.queuePlank_sent hvc
  · exact ⟨rfl, fun a rst ha => State.word_setFld_ne s _ rst ha⟩

theorem vc_of_mem_msgPlanks {m : Msg} {x : Plank} (h : x ∈ msgPlanks m) : x.vc = m.vc := by
  obtain ⟨c, -, rfl⟩ := List.mem_map.mp h
  rfl

theorem State.launch_node_sent {n : Nat} {m : Msg} (hvc : m.vc ≠ 1) : Sent s (s.launch (.node n) m) := by
  unfold State.launch
  dsimp only
  split
  · exact ⟨rfl, fun _ _ _ => rfl⟩
  · exact Sent.foldl fun t x hx => State.routePlank_sent (vc_of_mem_msgPlanks hx ▸ hvc)

theorem State.sendMsg_node_sent {n typ arg : Nat} {bs : List Byte} : Sent s (s.sendMsg (.node n) 0 typ arg bs false) :=
  Sent.trans (t := s.seqTaken n 0) ⟨rfl, fun _ _ _ => rfl⟩ (State.launch_node_sent (show (0 : Nat) ≠ 1 by decide))

/-! ### Notifications (R59) -/

/-- The frame of a notification: what is sent, and which vectors and ports have been notified. -/
structure Notified (s t : State) : Prop where
  rest : t = { s with regs := t.regs, host := t.host, span := { s.span with ports := t.span.ports }, via := t.via, out := t.out }
  host : t.host = { s.host with msixSent := t.host.msixSent, remoteNotified := t.host.remoteNotified }
  word : ∀ a rst, a ≠ VIA_CNT_DROP.NOROUTE.addr 0 → t.word a rst = s.word a rst

theorem State.notify_notified (p vec : Nat) : Notified s (s.notify p vec) := by
  have hsame : Notified s s := ⟨rfl, rfl, fun _ _ _ => rfl⟩
  unfold State.notify
  dsimp only
  split_ifs
  · exact hsame
  · exact ⟨rfl, rfl, fun _ _ _ => rfl⟩
  · exact hsame
  · exact hsame
  · generalize hm : ({ s with host := { s.host with remoteNotified := true } } : State) = m
    have hsent : Sent m (((List.range 4).map (m.fld HIF_REMOTE_NODE.NODE ·)).foldl
        (fun s a => if a = 0 then s else s.sendMsg (.node a) 0 0x09 0 [] false) m) := by
      refine Sent.foldl fun t x _ => ?_
      split
      · exact Sent.refl t
      · exact State.sendMsg_node_sent
    refine ⟨?_, ?_, fun a rst ha => ?_⟩
    · rw [hsent.rest, ← hm]
    · rw [hsent.host, ← hm]
    · rw [hsent.word a rst ha, ← hm]
      rfl

theorem State.word_notify {p vec : Nat} (h : a ≠ VIA_CNT_DROP.NOROUTE.addr 0) : (s.notify p vec).word a rst = s.word a rst :=
  (State.notify_notified p vec).word a rst h

@[simp] theorem State.notify_mem (p vec : Nat) : (s.notify p vec).host.mem = s.host.mem := by rw [(State.notify_notified p vec).host]
@[simp] theorem State.notify_area (p vec : Nat) : (s.notify p vec).host.area = s.host.area := by rw [(State.notify_notified p vec).host]
@[simp] theorem State.notify_rings (p vec : Nat) : (s.notify p vec).host.rings = s.host.rings := by rw [(State.notify_notified p vec).host]
@[simp] theorem State.notify_queues (p vec : Nat) : (s.notify p vec).host.queues = s.host.queues := by
  rw [(State.notify_notified p vec).host]
@[simp] theorem State.notify_cmds (p vec : Nat) : (s.notify p vec).host.cmds = s.host.cmds := by rw [(State.notify_notified p vec).host]

end Sent

/-! ### Bytes of a port's memory -/

section Bytes
variable {s : State} {p a b n : Nat} {d : Byte} {m : Memory} {bs : List Byte}

theorem readBytes_eq_map (d : Byte) (m : Memory) (a n : Nat) : readBytes d m a n = (List.range n).map fun i => readByte d m (a + i) := by
  induction n generalizing a with
  | zero => rfl
  | succ n ih =>
    rw [readBytes, ih, List.range_succ_eq_map, List.map_cons, List.map_map]
    simp only [Function.comp_def, Nat.add_zero, Nat.succ_eq_add_one, Nat.add_comm, Nat.add_left_comm]

/-- Bytes written read back. -/
theorem readBytes_writeBytes (d : Byte) (m : Memory) (a : Nat) (bs : List Byte) :
    readBytes d (writeBytes d m a bs) a bs.length = bs := by
  rw [readBytes_eq_map]
  refine List.ext_getElem (by simp) fun i h1 h2 => ?_
  rw [List.getElem_map, List.getElem_range, readByte_writeBytes, if_pos ⟨by omega, by omega⟩, Nat.add_sub_cancel_left,
    List.getD_eq_getElem]

theorem readByte_writeBytes_outside (h : b < a ∨ a + bs.length ≤ b) : readByte d (writeBytes d m a bs) b = readByte d m b := by
  rw [readByte_writeBytes, if_neg (by omega)]

theorem State.portRead_portWrite (p a : Nat) (bs : List Byte) : (s.portWrite p a bs).portRead p a bs.length = bs := by
  unfold State.portRead State.portWrite
  split
  · exact readBytes_writeBytes _ _ _ _
  · exact readBytes_writeBytes _ _ _ _

theorem State.portWrite_zero (a : Nat) (bs : List Byte) :
    s.portWrite 0 a bs = { s with host := { s.host with mem := writeBytes blank s.host.mem a bs } } := rfl

theorem State.portWrite_area (h : p ≠ 0) (a : Nat) (bs : List Byte) : s.portWrite p a bs = s.areaWrite (areaBase p + a) bs := if_neg h

/-- A read of a port's memory depends on the memories alone. -/
theorem State.portRead_congr {t : State} (hmem : t.host.mem = s.host.mem) (harea : t.host.area = s.host.area) :
    t.portRead p a n = s.portRead p a n := by
  rw [State.portRead, hmem, harea, State.portRead]

theorem State.portWrite_regs : (s.portWrite p a bs).regs = s.regs := by
  unfold State.portWrite
  split <;> rfl

end Bytes

/-! ### Filing reports -/

/-- The words in which a report counts or shows: events lost, the end of a queue that drains, planks without a route. -/
def reportWord (a : Nat) : Prop :=
  (∃ p < 3, a = HIF_EV_LOST.LOST.addr p) ∨ (∃ q < 24, a = HIF_Q_CFG.ENABLE.addr q) ∨ a = VIA_CNT_DROP.NOROUTE.addr 0

theorem reportReg_of_reportWord {a : Nat} (h : reportWord a) : reportReg a := by
  rcases h with ⟨p, hp, rfl⟩ | ⟨q, hq, rfl⟩ | h
  · refine .inl ?_
    simp only [Fld.addr, HIF_EV_LOST.LOST]
    omega
  · refine .inl ?_
    simp only [Fld.addr, HIF_Q_CFG.ENABLE]
    omega
  · exact .inr h

/-- `Reported`, with what it says of registers put more exactly: the places of the rings follow from it. -/
structure Filed (s t : State) : Prop where
  word : ∀ a rst, ¬ reportWord a → t.word a rst = s.word a rst
  size : ∀ q < 24, t.fld HIF_Q_CFG.CQ_SIZE q = s.fld HIF_Q_CFG.CQ_SIZE q
  rest : t = { s with regs := t.regs, host := t.host, span := { s.span with ports := t.span.ports }, via := t.via, out := t.out }
  host : t.host = { s.host with mem := t.host.mem, area := t.host.area, queues := t.host.queues, rings := t.host.rings,
                                cmds := t.host.cmds, msixSent := t.host.msixSent, remoteNotified := t.host.remoteNotified,
                                heldDone := t.host.heldDone }
  mem : ∀ a, ¬ inRange (s.evRange 0) a → (∀ q, q < 8 → ¬ inRange (s.cqRange q) a) →
    readByte blank t.host.mem a = readByte blank s.host.mem a
  area : ∀ a, (∀ p, 0 < p → p < 3 → ¬ inRange (shifted (areaBase p) (s.evRange p)) a) →
    (∀ q, 7 < q → q < 24 → ¬ inRange (shifted (areaBase (queuePort q)) (s.cqRange q)) a) →
    readByte blank t.host.area a = readByte blank s.host.area a

section Filed
variable {s t u : State} {p q a n : Nat}

/-! ### The rings stay where they are -/

theorem not_reportWord_evCfg (hp : p < 3) : ¬ reportWord (HIF_EV_CFG.SIZE.addr p) := by
  rintro (⟨k, hk, h⟩ | ⟨k, hk, h⟩ | h) <;>
    simp only [Fld.addr, HIF_EV_CFG.SIZE, HIF_EV_LOST.LOST, HIF_Q_CFG.ENABLE, VIA_CNT_DROP.NOROUTE] at h <;> omega

theorem not_reportWord_evBase (hp : p < 3) :
    ¬ reportWord (HIF_EV_BASE.BASE.addr p) ∧ ¬ reportWord (HIF_EV_BASE.BASE.addr p + 4) := by
  constructor <;> rintro (⟨k, hk, h⟩ | ⟨k, hk, h⟩ | h) <;>
    simp only [Fld.addr, PairReg.addr, HIF_EV_BASE.BASE, HIF_EV_LOST.LOST, HIF_Q_CFG.ENABLE, VIA_CNT_DROP.NOROUTE] at h <;> omega

theorem not_reportWord_cqBase (hq : q < 24) :
    ¬ reportWord (HIF_Q_CQ_BASE.BASE.addr q) ∧ ¬ reportWord (HIF_Q_CQ_BASE.BASE.addr q + 4) := by
  constructor <;> rintro (⟨k, hk, h⟩ | ⟨k, hk, h⟩ | h) <;>
    simp only [Fld.addr, PairReg.addr, HIF_Q_CQ_BASE.BASE, HIF_EV_LOST.LOST, HIF_Q_CFG.ENABLE, VIA_CNT_DROP.NOROUTE] at h <;> omega

theorem Filed.evRange (h : Filed s t) (hp : p < 3) : t.evRange p = s.evRange p := by
  obtain ⟨hlo, hhi⟩ := not_reportWord_evBase hp
  simp only [State.evRange, State.evSize, State.pair, State.fld, h.word _ _ hlo, h.word _ _ hhi,
    h.word _ _ (not_reportWord_evCfg hp)]

theorem Filed.cqRange (h : Filed s t) (hq : q < 24) : t.cqRange q = s.cqRange q := by
  obtain ⟨hlo, hhi⟩ := not_reportWord_cqBase hq
  simp only [State.cqRange, State.cqSize, State.pair, h.word _ _ hlo, h.word _ _ hhi, h.size q hq]

theorem Filed.reported (h : Filed s t) : Reported s t where
  regs a rst ha := h.word a rst fun hw => ha (reportReg_of_reportWord hw)
  rest := h.rest
  host := h.host
  ev _ := h.evRange
  cq _ := h.cqRange
  mem := h.mem
  area := h.area

/-! ### One report after another -/

theorem Filed.trans (h1 : Filed s t) (h2 : Filed t u) : Filed s u where
  word a rst ha := (h2.word a rst ha).trans (h1.word a rst ha)
  size q hq := (h2.size q hq).trans (h1.size q hq)
  rest := h2.rest.trans (by rw [h1.rest])
  host := h2.host.trans (by rw [h1.host])
  mem a hev hcq := by
    refine (h2.mem a ?_ fun q hq => ?_).trans (h1.mem a hev hcq)
    · rwa [h1.evRange (by decide)]
    · rw [h1.cqRange (by omega)]
      exact hcq q hq
  area a hev hcq := by
    refine (h2.area a (fun p hpos hp => ?_) fun q hpos hq => ?_).trans (h1.area a hev hcq)
    · rw [h1.evRange hp]
      exact hev p hpos hp
    · rw [h1.cqRange hq]
      exact hcq q hpos hq

/-- Tables of host control change: nothing else does. -/
theorem Filed.tables (s : State) {queues rings cmds heldDone} :
    Filed s { s with host := { s.host with queues := queues, rings := rings, cmds := cmds, heldDone := heldDone } } where
  word _ _ _ := rfl
  size _ _ := rfl
  rest := rfl
  host := rfl
  mem _ _ _ := rfl
  area _ _ _ := rfl

theorem Filed.refl (s : State) : Filed s s := Filed.tables s

theorem State.setQueue_filed (q : Nat) (x : QueueSt) : Filed s (s.setQueue q x) := Filed.tables s

theorem State.setRing_filed (p : Nat) (x : RingSt) : Filed s (s.setRing p x) := Filed.tables s

theorem cqSize_ne_noroute (hq : q < 24) : HIF_Q_CFG.CQ_SIZE.addr q ≠ VIA_CNT_DROP.NOROUTE.addr 0 := by
  simp only [Fld.addr, HIF_Q_CFG.CQ_SIZE, VIA_CNT_DROP.NOROUTE]
  omega

theorem Notified.filed (h : Notified s t) : Filed s t where
  word a rst ha := h.word a rst fun hw => ha (.inr (.inr hw))
  size q hq := by rw [State.fld, h.word _ _ (cqSize_ne_noroute hq), State.fld]
  rest := h.rest
  host := by rw [h.host]
  mem _ _ _ := by rw [h.host]
  area _ _ _ := by rw [h.host]

theorem State.notify_filed (p vec : Nat) : Filed s (s.notify p vec) := (State.notify_notified p vec).filed

/-- A count of events lost. -/
theorem State.bumpLost_filed (hp : p < 3) : Filed s (s.bump HIF_EV_LOST.LOST p) where
  word a rst ha := State.word_setFld_ne s _ rst fun h => ha (.inl ⟨p, hp, h⟩)
  size q hq := by
    refine State.fld_setFld_ne s _ ?_
    simp only [Fld.addr, HIF_Q_CFG.CQ_SIZE, HIF_EV_LOST.LOST]
    omega
  rest := rfl
  host := rfl
  mem _ _ _ := rfl
  area _ _ _ := rfl

/-- A queue that has drained reads disabled. -/
theorem State.disabled_filed (hq : q < 24) : Filed s (s.setFlag HIF_Q_CFG.ENABLE false q) where
  word a rst ha := State.word_setFld_ne s _ rst fun h => ha (.inr (.inl ⟨q, hq, h⟩))
  size k hk := by
    by_cases h : k = q
    · rw [h]
      exact State.fld_setFld_beside s _ rfl rfl (by decide) (by decide)
    · refine State.fld_setFld_ne s _ ?_
      simp only [Fld.addr, HIF_Q_CFG.CQ_SIZE, HIF_Q_CFG.ENABLE]
      omega
  rest := rfl
  host := rfl
  mem _ _ _ := rfl
  area _ _ _ := rfl

/-! ### Records (R48, R50, R57) -/

/-- Bytes written inside the rings of a port. -/
theorem State.portWrite_filed {bs : List Byte}
    (hmem : p = 0 → ∀ b, a ≤ b → b < a + bs.length → inRange (s.evRange 0) b ∨ ∃ q < 8, inRange (s.cqRange q) b)
    (harea : p ≠ 0 → ∀ b, areaBase p + a ≤ b → b < areaBase p + a + bs.length →
      (∃ k, 0 < k ∧ k < 3 ∧ inRange (shifted (areaBase k) (s.evRange k)) b) ∨
      ∃ q, 7 < q ∧ q < 24 ∧ inRange (shifted (areaBase (queuePort q)) (s.cqRange q)) b) : Filed s (s.portWrite p a bs) := by
  by_cases hp : p = 0
  · subst hp
    refine ⟨fun _ _ _ => rfl, fun _ _ => rfl, rfl, rfl, fun b hev hcq => ?_, fun _ _ _ => rfl⟩
    refine readByte_writeBytes_outside ?_
    by_contra hin
    rcases hmem rfl b (by omega) (by omega) with h | ⟨q, hq, h⟩
    · exact hev h
    · exact hcq q hq h
  · rw [State.portWrite_area hp]
    refine ⟨fun _ _ _ => rfl, fun _ _ => rfl, rfl, rfl, fun _ _ _ => rfl, fun b hev hcq => ?_⟩
    refine readByte_writeBytes_outside ?_
    by_contra hin
    rcases harea hp b (by omega) (by omega) with ⟨k, hpos, hk, h⟩ | ⟨q, hpos, hq, h⟩
    · exact hev k hpos hk h
    · exact hcq q hpos hq h

/-- A slot of a ring lies in the ring. -/
theorem slot_in_ring {base k b : Nat} (hk : k < n) (hlo : base + 32 * k ≤ b) (hhi : b < base + 32 * k + 32) :
    inRange (base, 32 * n) b := by
  simp only [inRange]
  omega

theorem State.portWrite_event_filed {bs : List Byte} {k : Nat} (hp : p < 3) (hk : k < s.evSize p) (hlen : bs.length = 32) :
    Filed s (s.portWrite p (s.pair HIF_EV_BASE.BASE p + 32 * k) bs) := by
  refine State.portWrite_filed (fun h b hlo hhi => .inl ?_) fun h b hlo hhi => .inl ⟨p, by omega, hp, ?_⟩
  · subst h
    exact slot_in_ring hk hlo (by omega)
  · have hring : inRange (s.pair HIF_EV_BASE.BASE p, 32 * s.evSize p) (b - areaBase p) := slot_in_ring hk (by omega) (by omega)
    simp only [inRange, shifted, State.evRange] at hring ⊢
    omega

theorem State.portWrite_completion_filed {bs : List Byte} {k : Nat} (hq : q < 24) (hk : k < s.cqSize q) (hlen : bs.length = 32) :
    Filed s (s.portWrite (queuePort q) (s.pair HIF_Q_CQ_BASE.BASE q + 32 * k) bs) := by
  refine State.portWrite_filed (fun h b hlo hhi => .inr ⟨q, ?_, slot_in_ring hk hlo (by omega)⟩)
    fun h b hlo hhi => .inr ⟨q, ?_, hq, ?_⟩
  · simp only [queuePort] at h
    omega
  · simp only [queuePort] at h
    omega
  · have hring : inRange (s.pair HIF_Q_CQ_BASE.BASE q, 32 * s.cqSize q) (b - areaBase (queuePort q)) :=
      slot_in_ring hk (by omega) (by omega)
    simp only [inRange, shifted, State.cqRange] at hring ⊢
    omega

end Filed

/-! ### Events -/

section Events
variable {s : State} {p n : Nat} {e : Event}

theorem ringSize_pos (n : Nat) : 0 < ringSize n := Nat.two_pow_pos _

theorem State.evSize_pos (p : Nat) : 0 < s.evSize p := ringSize_pos _

theorem State.cqSize_pos (q : Nat) : 0 < s.cqSize q := ringSize_pos _

theorem length_padTo {bs : List Byte} (h : bs.length ≤ n) : (padTo n bs).length = n := by
  rw [padTo, List.length_append, List.length_replicate]
  omega

theorem padTo_of_length {bs : List Byte} (h : bs.length = n) : padTo n bs = bs := by
  rw [padTo, h, Nat.sub_self, List.replicate_zero, List.append_nil]

/-- The next record of an event ring as its bytes (R57). -/
def State.eventBytes (s : State) (p : Nat) (e : Event) : List Byte :=
  leBytes 2 e.code ++ leBytes 1 (((s.ring p).written / s.evSize p + 1) % 2) ++ leBytes 1 0 ++ leBytes 4 (s.ring p).seq ++
    leBytes 8 e.time ++ padTo 16 e.detail

theorem State.length_eventBytes (p : Nat) (h : e.detail.length ≤ 16) : (s.eventBytes p e).length = 32 := by
  simp only [State.eventBytes, List.length_append, length_leBytes, length_padTo h]

/-- The address of the next record of an event ring (R50). -/
def State.eventSlot (s : State) (p : Nat) : Nat := s.pair HIF_EV_BASE.BASE p + 32 * ((s.ring p).written % s.evSize p)

theorem State.putEvent_eq (p : Nat) (e : Event) : s.putEvent p e =
    ((s.portWrite p (s.eventSlot p) (s.eventBytes p e)).setRing p
      { s.ring p with written := (s.ring p).written + 1, seq := ((s.ring p).seq + 1) % 2 ^ 32 }).notify p
      (s.fld HIF_EV_VEC.VEC (e.code / 256)) := rfl

theorem State.putEvent_filed (hp : p < 3) (h : e.detail.length ≤ 16) : Filed s (s.putEvent p e) :=
  ((State.portWrite_event_filed hp (Nat.mod_lt _ (State.evSize_pos p)) (State.length_eventBytes p h)).trans
    (State.setRing_filed p _)).trans (State.notify_filed p _)

theorem State.loseEvent_filed (hp : p < 3) : Filed s (s.loseEvent p) :=
  (State.setRing_filed p _).trans (State.bumpLost_filed hp)

theorem State.deliverEvent_filed (hp : p < 3) (h : e.detail.length ≤ 16) : Filed s (s.deliverEvent p e) := by
  unfold State.deliverEvent
  split_ifs
  · exact State.loseEvent_filed hp
  · exact State.putEvent_filed hp h
  · exact (State.putEvent_filed hp (Nat.zero_le _)).trans (State.loseEvent_filed hp)
  · exact State.loseEvent_filed hp

theorem State.raiseFor_filed (hp : p < 3) (h : e.detail.length ≤ 16) : Filed s (s.raiseFor e p) := by
  unfold State.raiseFor
  dsimp only
  split_ifs
  · exact State.setRing_filed p _
  · exact (State.setRing_filed p _).trans (State.bumpLost_filed hp)
  · exact State.deliverEvent_filed hp h
  · exact Filed.refl s

/-- Fields inside a layout leave its length. -/
theorem length_layBytes {base : Nat} {fs : List ByteField} (h : ∀ f ∈ fs, base ≤ f.1 ∧ f.1 + f.2.1 ≤ base + n) :
    (layBytes n base fs).length = n := by
  unfold layBytes
  refine List.foldlRecOn (motive := fun bs : List Byte => bs.length = n) _ _ List.length_replicate fun bs hbs f hf => ?_
  obtain ⟨hlo, hhi⟩ := h f hf
  simp only [List.length_append, List.length_take, List.length_drop, length_leBytes, hbs]
  omega

theorem State.raise_filed {code : Nat} {fs : List ByteField} (h : ∀ f ∈ fs, 16 ≤ f.1 ∧ f.1 + f.2.1 ≤ 32) :
    Filed s (s.raise code fs) := by
  refine List.foldlRecOn (motive := Filed s) _ _ (Filed.refl s) fun t ht p hp => ht.trans (State.raiseFor_filed ?_ ?_)
  · fin_cases hp <;> decide
  · exact (length_layBytes h).le

end Events

/-! ### Completions -/

section Completions
variable {s : State} {q a rst : Nat} {c : Completion} {d : Cmd}

/-- The next record of a completion ring as its bytes (Table 2-6). -/
def State.completionBytes (s : State) (c : Completion) : List Byte :=
  leBytes 2 c.tag ++ leBytes 2 c.status ++ leBytes 2 c.slot ++ leBytes 1 c.q ++
    leBytes 1 (((s.queue c.q).posted / s.cqSize c.q + 1) % 2 + 2 * b2n c.late) ++ leBytes 8 s.now ++ padTo 16 c.result

theorem State.length_completionBytes (h : c.result.length ≤ 16) : (s.completionBytes c).length = 32 := by
  simp only [State.completionBytes, List.length_append, length_leBytes, length_padTo h]

/-- The address of the next record of a completion ring (R50). -/
def State.completionSlot (s : State) (q : Nat) : Nat := s.pair HIF_Q_CQ_BASE.BASE q + 32 * ((s.queue q).posted % s.cqSize q)

/-- The state with a completion recorded, before its port is notified. -/
def State.completionWritten (s : State) (c : Completion) : State :=
  (s.portWrite (queuePort c.q) (s.completionSlot c.q) (s.completionBytes c)).setQueue c.q
    { s.queue c.q with posted := (s.queue c.q).posted + 1 }

theorem State.postNow_eq (c : Completion) : s.postNow c =
    (s.completionWritten c).notify (queuePort c.q) ((s.completionWritten c).fld HIF_Q_CFG.VEC c.q) := rfl

theorem State.postNow_filed (hq : c.q < 24) (h : c.result.length ≤ 16) : Filed s (s.postNow c) :=
  ((State.portWrite_completion_filed hq (Nat.mod_lt _ (State.cqSize_pos c.q)) (State.length_completionBytes h)).trans
    (State.setQueue_filed c.q _)).trans (State.notify_filed _ _)

theorem State.drained_filed (hq : q < 24) : Filed s (s.drained q) := by
  unfold State.drained
  dsimp only
  split
  · exact (State.setQueue_filed q _).trans (State.disabled_filed hq)
  · exact Filed.refl s

/-- The state without a command. -/
def State.withoutCmd (s : State) (d : Cmd) : State :=
  { s with host := { s.host with cmds := s.host.cmds.filter fun e => e.id ≠ d.id } }

/-- A command that completes leaves the list; its completion is dropped, held or posted (R49, R55, R520). -/
theorem State.finishOne_eq (d : Cmd) (st : Nat) (res : List Byte) : s.finishOne d st res =
    if d.dropped then s.withoutCmd d
    else if s.restarting then { s.withoutCmd d with
      host := { (s.withoutCmd d).host with heldDone := s.host.heldDone ++ [⟨d.q, d.tag, d.slot, st, d.late, res⟩] } }
    else ((s.withoutCmd d).postNow ⟨d.q, d.tag, d.slot, st, d.late, res⟩).drained d.q := rfl

theorem State.finishOne_filed {st : Nat} {res : List Byte} (hq : d.q < 24) (h : res.length ≤ 16) : Filed s (s.finishOne d st res) := by
  rw [State.finishOne_eq]
  split_ifs
  · exact Filed.tables s
  · exact Filed.tables s
  · exact ((Filed.tables s).trans (State.postNow_filed hq h)).trans (State.drained_filed hq)

theorem State.finishOne_queued {st : Nat} {res : List Byte} (h : s.Queued) : (s.finishOne d st res).Queued :=
  (State.finishOne_kept (Kept.refl s)).queued h

theorem State.finish_filed {st : Nat} {res : List Byte} (hq : d.q < 24) (hqueued : s.Queued) (h : res.length ≤ 16) :
    Filed s (s.finish d st res) := by
  suffices hboth : Filed s (s.finish d st res) ∧ (s.finish d st res).Queued from hboth.1
  refine List.foldlRecOn (motive := fun t : State => Filed s t ∧ t.Queued) _ _
    ⟨State.finishOne_filed hq h, State.finishOne_queued hqueued⟩ ?_
  rintro t ⟨ht, hcmds⟩ a -
  split
  · next e he => exact ⟨ht.trans (State.finishOne_filed (hcmds e (List.mem_of_find?_eq_some he)) (Nat.zero_le _)),
      State.finishOne_queued hcmds⟩
  · exact ⟨ht, hcmds⟩

end Completions

end Sys2Proof.Machine

/-! THEOREMS. Reports: events, completions and their records (R48, R50, R51, R54, R55, R57 to R59). -/

namespace Sys2Proof.Machine

/-- Settles O9: each port's event is a record in its ring, a count in HIF_EV_LOST, or held. -/
theorem raiseFrame : Obligations.RaiseFrame := by
  unfold Obligations.RaiseFrame
  intro s code fs h
  exact (State.raise_filed h).reported

/-- Settles O10: the command and each abort that waited for it complete one after another, each filed in its queue's ring. -/
theorem finishFrame : Obligations.FinishFrame := by
  unfold Obligations.FinishFrame
  intro s c st res hq hqueued hres
  exact (State.finish_filed hq hqueued hres).reported

section Records
variable {s t : State} {p a : Nat} {bs : List Byte}

/-- The memories after a write of 32 bytes into a port's memory, and those of a state with the same. -/
theorem record_stored (hlen : bs.length = 32) (hmem : t.host.mem = (s.portWrite p a bs).host.mem)
    (harea : t.host.area = (s.portWrite p a bs).host.area) :
    t.portRead p a 32 = bs ∧
    (∀ b, p = 0 → b < a ∨ a + 32 ≤ b → readByte blank t.host.mem b = readByte blank s.host.mem b) ∧
    (∀ b, p ≠ 0 → b < areaBase p + a ∨ areaBase p + a + 32 ≤ b → readByte blank t.host.area b = readByte blank s.host.area b) ∧
    (p = 0 → t.host.area = s.host.area) ∧ (p ≠ 0 → t.host.mem = s.host.mem) := by
  refine ⟨?_, ?_, fun b hp hout => ?_, ?_, fun hp => ?_⟩
  · rw [State.portRead_congr hmem harea, ← hlen, State.portRead_portWrite]
  · rintro b rfl hout
    rw [hmem, State.portWrite_zero]
    exact readByte_writeBytes_outside (by omega)
  · rw [harea, State.portWrite_area hp]
    exact readByte_writeBytes_outside (by omega)
  · rintro rfl
    rw [harea, State.portWrite_zero]
  · rw [hmem, State.portWrite_area hp]
    rfl

theorem State.ring_putEvent (p : Nat) (e : Event) : (s.putEvent p e).ring p =
    { s.ring p with written := (s.ring p).written + 1, seq := ((s.ring p).seq + 1) % 2 ^ 32 } := by
  rw [State.putEvent_eq, State.ring, State.notify_rings]
  exact State.ring_setRing_same p _

theorem State.queue_postNow (c : Completion) :
    (s.postNow c).queue c.q = { s.queue c.q with posted := (s.queue c.q).posted + 1 } := by
  rw [State.postNow_eq, State.queue, State.notify_queues]
  exact State.queue_setQueue_same c.q _

end Records

/-- Settles O11: a record is 32 bytes written at its slot, and the notification that follows touches no memory. -/
theorem recordsStored : Obligations.RecordsStored := by
  unfold Obligations.RecordsStored
  rintro s p q e c hp hq he hc rfl
  dsimp only
  constructor
  · have hstored := record_stored (s := s) (t := s.putEvent p e) (State.length_eventBytes p he.le)
      (by rw [State.putEvent_eq, State.notify_mem]; rfl) (by rw [State.putEvent_eq, State.notify_area]; rfl)
    rw [State.ring_putEvent]
    obtain ⟨hread, hmem, harea, hkept, hkept'⟩ := hstored
    refine ⟨hread.trans ?_, hmem, harea, hkept, hkept', rfl, rfl⟩
    rw [State.eventBytes, padTo_of_length he]
    rfl
  · have hstored := record_stored (s := s) (t := s.postNow c) (State.length_completionBytes hc.le)
      (by rw [State.postNow_eq, State.notify_mem]; rfl) (by rw [State.postNow_eq, State.notify_area]; rfl)
    rw [State.queue_postNow]
    obtain ⟨hread, hmem, harea, hkept, hkept'⟩ := hstored
    refine ⟨hread.trans ?_, hmem, harea, hkept, hkept', rfl⟩
    rw [State.completionBytes, padTo_of_length hc]

end Sys2Proof.Machine

/-! SUPPORT. Closing a port: the aborts it leaves without a target, its queues, its event ring (R49, R62, R521). -/

namespace Sys2Proof.Machine

/-- A fold brings about what each step brings about for its own element and keeps for the others. -/
theorem foldl_establishes {α β : Type} {f : β → α → β} {P : α → β → Prop} {l : List α} (hown : ∀ b, ∀ x ∈ l, P x (f b x))
    (hkeep : ∀ b, ∀ x ∈ l, ∀ y ∈ l, x ≠ y → P x b → P x (f b y)) {x : α} (hx : x ∈ l) (b : β) : P x (l.foldl f b) := by
  induction l generalizing b with
  | nil => cases hx
  | cons y l ih =>
    by_cases hlater : x ∈ l
    · exact ih (fun b z hz => hown b z (List.mem_cons_of_mem _ hz))
        (fun b z hz w hw => hkeep b z (List.mem_cons_of_mem _ hz) w (List.mem_cons_of_mem _ hw)) hlater _
    · obtain rfl : x = y := (List.mem_cons.mp hx).resolve_right hlater
      exact List.foldlRecOn (motive := P x) l f (hown b x hx) fun b hb z hz =>
        hkeep b x hx z (List.mem_cons_of_mem _ hz) (fun h => hlater (h ▸ hz)) hb

section Orphans
variable {s t : State} {q a rst : Nat} {c : Completion} {d : Cmd}

/-! ### What completing a command changes of the registers and the list -/

theorem State.word_postNow (h : a ≠ VIA_CNT_DROP.NOROUTE.addr 0) : (s.postNow c).word a rst = s.word a rst := by
  rw [State.postNow_eq, State.word_notify h]
  exact State.word_congr State.portWrite_regs

theorem State.word_drained (h : a ≠ HIF_Q_CFG.ENABLE.addr q) : (s.drained q).word a rst = s.word a rst := by
  unfold State.drained
  dsimp only
  split
  · exact State.word_setFld_ne _ _ rst h
  · rfl

theorem State.cmds_drained : (s.drained q).host.cmds = s.host.cmds := by
  unfold State.drained
  dsimp only
  split <;> rfl

theorem State.portWrite_cmds {p : Nat} {bs : List Byte} : (s.portWrite p a bs).host.cmds = s.host.cmds := by
  unfold State.portWrite
  split <;> rfl

theorem State.cmds_postNow : (s.postNow c).host.cmds = s.host.cmds := by
  rw [State.postNow_eq, State.notify_cmds]
  exact State.portWrite_cmds

theorem State.word_finishOne {st : Nat} {res : List Byte} (hroute : a ≠ VIA_CNT_DROP.NOROUTE.addr 0)
    (hcfg : a ≠ HIF_Q_CFG.ENABLE.addr d.q) : (s.finishOne d st res).word a rst = s.word a rst := by
  rw [State.finishOne_eq]
  split_ifs
  · rfl
  · rfl
  · rw [State.word_drained hcfg, State.word_postNow hroute]
    rfl

theorem State.cmds_finishOne {st : Nat} {res : List Byte} :
    (s.finishOne d st res).host.cmds = s.host.cmds.filter fun e => e.id ≠ d.id := by
  rw [State.finishOne_eq]
  split_ifs
  · rfl
  · rfl
  · rw [State.cmds_drained, State.cmds_postNow]
    rfl

/-- Aborts left without a target complete: the registers of queues of fetched commands may change, and the count of planks without
a route. -/
theorem State.word_orphan (e : Discard → Bool) (hroute : a ≠ VIA_CNT_DROP.NOROUTE.addr 0)
    (hcfg : ∀ c ∈ s.host.cmds, a ≠ HIF_Q_CFG.ENABLE.addr c.q) : (s.orphan e).word a rst = s.word a rst := by
  suffices h : (s.orphan e).word a rst = s.word a rst ∧ ∀ c ∈ (s.orphan e).host.cmds, c ∈ s.host.cmds from h.1
  refine List.foldlRecOn (motive := fun t : State => t.word a rst = s.word a rst ∧ ∀ c ∈ t.host.cmds, c ∈ s.host.cmds) _ _
    ⟨rfl, fun _ hc => hc⟩ fun t ht x _ => ?_
  refine List.foldlRecOn (motive := fun t : State => t.word a rst = s.word a rst ∧ ∀ c ∈ t.host.cmds, c ∈ s.host.cmds) _ _
    ht ?_
  rintro u ⟨hword, hcmds⟩ b -
  split
  · next c hc =>
    refine ⟨(State.word_finishOne hroute (hcfg c (hcmds c (List.mem_of_find?_eq_some hc)))).trans hword, fun x hx => ?_⟩
    rw [State.cmds_finishOne] at hx
    exact hcmds x (List.mem_of_mem_filter hx)
  · exact ⟨hword, hcmds⟩

end Orphans

section Queues
variable {s t : State} {f : Fld} {q k a rst : Nat}

theorem State.queue_setFld (v : Nat) {i : Nat} : (s.setFld f v i).queue q = s.queue q := (rfl)

/-! ### A queue disabled with its indices 0 -/

/-- The registers of a queue stand together (Table 2-4). -/
theorem State.word_zeroQueue_ne (h : a < 0x21000 + 0x20 * q ∨ 0x21000 + 0x20 * q + 0x20 ≤ a) :
    (s.zeroQueue q).word a rst = s.word a rst := by
  have hcfg : a ≠ HIF_Q_CFG.ENABLE.addr q := by simp only [Fld.addr, HIF_Q_CFG.ENABLE]; omega
  have herr : a ≠ HIF_Q_CFG.CFG_ERR.addr q := hcfg
  have htail : a ≠ HIF_Q_SQ_TAIL.TAIL.addr q := by simp only [Fld.addr, HIF_Q_SQ_TAIL.TAIL]; omega
  have hhead : a ≠ HIF_Q_CQ_HEAD.HEAD.addr q := by simp only [Fld.addr, HIF_Q_CQ_HEAD.HEAD]; omega
  have hsqHead : a ≠ HIF_Q_STATUS.SQ_HEAD.addr q := by simp only [Fld.addr, HIF_Q_STATUS.SQ_HEAD]; omega
  have hstalled : a ≠ HIF_Q_STATUS.STALLED.addr q := hsqHead
  have hstatus : a ≠ HIF_Q_STATUS.ERR.addr q := hsqHead
  simp only [State.zeroQueue, State.setFlag_eq, State.word_setQueue, State.word_setFld_ne _ _ _ hcfg, State.word_setFld_ne _ _ _ herr,
    State.word_setFld_ne _ _ _ htail, State.word_setFld_ne _ _ _ hhead, State.word_setFld_ne _ _ _ hsqHead,
    State.word_setFld_ne _ _ _ hstalled, State.word_setFld_ne _ _ _ hstatus]

theorem State.queue_zeroQueue_same (q : Nat) : (s.zeroQueue q).queue q = QueueSt.reset := State.queue_setQueue_same q _

theorem State.queue_zeroQueue_ne (h : q ≠ k) : (s.zeroQueue k).queue q = s.queue q := by
  simp only [State.zeroQueue, State.setFlag_eq, State.queue_setQueue_ne _ h, State.queue_setFld]

/-- A queue that is disabled with its indices 0 and nothing kept of it. -/
structure State.Zeroed (s : State) (q : Nat) : Prop where
  enable : s.flag HIF_Q_CFG.ENABLE q = false
  sqHead : s.fld HIF_Q_STATUS.SQ_HEAD q = 0
  tail : s.fld HIF_Q_SQ_TAIL.TAIL q = 0
  cqHead : s.fld HIF_Q_CQ_HEAD.HEAD q = 0
  kept : s.queue q = QueueSt.reset

/-- It depends on the registers of the queue and on what is kept of it. -/
theorem State.Zeroed.congr (h : s.Zeroed q) (hkept : t.queue q = s.queue q)
    (hword : ∀ b rst, 0x21000 + 0x20 * q ≤ b → b < 0x21000 + 0x20 * q + 0x20 → t.word b rst = s.word b rst) : t.Zeroed q := by
  have hfld : ∀ f : Fld, f.stride = 0x20 → 0x21000 ≤ f.base → f.base < 0x21020 → t.fld f q = s.fld f q := by
    intro f hstride hlo hhi
    rw [State.fld, hword _ _ (by rw [Fld.addr, hstride]; omega) (by rw [Fld.addr, hstride]; omega), State.fld]
  refine ⟨?_, ?_, ?_, ?_, hkept.trans h.kept⟩
  · rw [State.flag, hfld HIF_Q_CFG.ENABLE rfl (by decide) (by decide)]
    exact h.enable
  · rw [hfld HIF_Q_STATUS.SQ_HEAD rfl (by decide) (by decide), h.sqHead]
  · rw [hfld HIF_Q_SQ_TAIL.TAIL rfl (by decide) (by decide), h.tail]
  · rw [hfld HIF_Q_CQ_HEAD.HEAD rfl (by decide) (by decide), h.cqHead]

theorem State.zeroQueue_zeroed (q : Nat) : (s.zeroQueue q).Zeroed q where
  enable := by
    simp (disch := decide) only [State.zeroQueue, State.setFlag_eq, State.flag, State.fld_setQueue, State.fld_setFld_apart,
      State.fld_setFld_same]
    rfl
  sqHead := by
    simp (disch := decide) only [State.zeroQueue, State.setFlag_eq, State.fld_setQueue, State.fld_setFld_apart, State.fld_setFld_same,
      Nat.zero_mod]
  tail := by
    simp (disch := decide) only [State.zeroQueue, State.setFlag_eq, State.fld_setQueue, State.fld_setFld_apart, State.fld_setFld_same,
      Nat.zero_mod]
  cqHead := by
    simp (disch := decide) only [State.zeroQueue, State.setFlag_eq, State.fld_setQueue, State.fld_setFld_apart, State.fld_setFld_same,
      Nat.zero_mod]
  kept := State.queue_zeroQueue_same q

theorem State.zeroQueue_zeroed_other (h : s.Zeroed q) (hne : q ≠ k) : (s.zeroQueue k).Zeroed q :=
  h.congr (State.queue_zeroQueue_ne hne) fun _ _ hlo hhi => State.word_zeroQueue_ne (by omega)

end Queues

/-! ### A port closed -/

section Close
variable {s : State} {p q i a rst : Nat} {f : Fld}

/-- The state with the queues of a port disabled. -/
def State.queuesClosed (s : State) (p : Nat) : State :=
  (List.range 8).foldl (fun (s : State) k => s.zeroQueue (8 * p + k)) (s.orphan fun d => decide (queuePort d.q = p))

/-- The state with the event ring of a port disabled. -/
def State.ringClosed (s : State) (p : Nat) : State :=
  ((((s.setFlag HIF_EV_CFG.ENABLE false p).setFlag HIF_EV_CFG.CFG_ERR false p).setFld HIF_EV_HEAD.HEAD 0 p).setFld
    HIF_EV_LOST.LOST 0 p).setRing p RingSt.reset

/-- The state with the completions of a port's commands dropped and discarded, and nothing notified. -/
def State.recordsDropped (s : State) (p : Nat) : State :=
  { s with host := { s.host with
    cmds := s.host.cmds.map fun c => if queuePort c.q = p then { c with dropped := true } else c
    heldDone := s.host.heldDone.filter fun c => queuePort c.q ≠ p
    msixSent := if p = 0 then [] else s.host.msixSent
    remoteNotified := if p = 2 then false else s.host.remoteNotified } }

theorem State.closePort_eq (p : Nat) : s.closePort p = ((s.queuesClosed p).ringClosed p).recordsDropped p := rfl

theorem State.word_recordsDropped : (s.recordsDropped p).word a rst = s.word a rst := State.word_congr rfl

theorem State.fld_recordsDropped : (s.recordsDropped p).fld f i = s.fld f i := State.fld_congr rfl

theorem State.queue_recordsDropped : (s.recordsDropped p).queue q = s.queue q := (rfl)

theorem State.ring_recordsDropped : (s.recordsDropped p).ring q = s.ring q := (rfl)

theorem State.queue_ringClosed : (s.ringClosed p).queue q = s.queue q := (rfl)

theorem State.queuesClosed_zeroed (p k : Nat) (hk : k < 8) : (s.queuesClosed p).Zeroed (8 * p + k) :=
  foldl_establishes (f := fun (s : State) k => s.zeroQueue (8 * p + k)) (P := fun k (t : State) => t.Zeroed (8 * p + k))
    (fun t x _ => State.zeroQueue_zeroed _) (fun t x _ y _ hne h => State.zeroQueue_zeroed_other h (by omega)) (List.mem_range.mpr hk) _

/-- The registers of the queues of a port stand together. -/
theorem State.word_queuesClosed_ne (ha : a < 0x21000 + 0x100 * p ∨ 0x21100 + 0x100 * p ≤ a) :
    (s.queuesClosed p).word a rst = (s.orphan fun d => decide (queuePort d.q = p)).word a rst :=
  List.foldlRecOn (motive := fun t : State => t.word a rst = (s.orphan fun d => decide (queuePort d.q = p)).word a rst) _ _ rfl
    fun t ht k hk => (State.word_zeroQueue_ne (by have := List.mem_range.mp hk; omega)).trans ht

theorem State.word_ringClosed_ne (h : a < 0x21400 + 0x20 * p ∨ 0x21414 + 0x20 * p ≤ a) :
    (s.ringClosed p).word a rst = s.word a rst := by
  have hcfg : a ≠ HIF_EV_CFG.ENABLE.addr p := by simp only [Fld.addr, HIF_EV_CFG.ENABLE]; omega
  have herr : a ≠ HIF_EV_CFG.CFG_ERR.addr p := hcfg
  have hhead : a ≠ HIF_EV_HEAD.HEAD.addr p := by simp only [Fld.addr, HIF_EV_HEAD.HEAD]; omega
  have hlost : a ≠ HIF_EV_LOST.LOST.addr p := by simp only [Fld.addr, HIF_EV_LOST.LOST]; omega
  simp only [State.ringClosed, State.setFlag_eq, State.word_setRing, State.word_setFld_ne _ _ _ hcfg, State.word_setFld_ne _ _ _ herr,
    State.word_setFld_ne _ _ _ hhead, State.word_setFld_ne _ _ _ hlost]

/-- The queues' registers lie below those of the rings. -/
theorem State.closePort_zeroed (k : Nat) (hp : p < 3) (hk : k < 8) : (s.closePort p).Zeroed (8 * p + k) := by
  rw [State.closePort_eq]
  refine (s.queuesClosed_zeroed p k hk).congr ?_ fun b rst hlo hhi => ?_
  · rw [State.queue_recordsDropped, State.queue_ringClosed]
  · rw [State.word_recordsDropped, State.word_ringClosed_ne (by omega)]

theorem State.flag_closePort_ring (p : Nat) : (s.closePort p).flag HIF_EV_CFG.ENABLE p = false := by
  simp (disch := decide) only [State.closePort_eq, State.flag, State.fld_recordsDropped, State.ringClosed, State.fld_setRing,
    State.setFlag_eq, State.fld_setFld_apart, State.fld_setFld_same]
  rfl

theorem State.fld_closePort_evHead (p : Nat) : (s.closePort p).fld HIF_EV_HEAD.HEAD p = 0 := by
  simp (disch := decide) only [State.closePort_eq, State.fld_recordsDropped, State.ringClosed, State.fld_setRing,
    State.fld_setFld_apart, State.fld_setFld_same, Nat.zero_mod]

theorem State.ring_closePort (p : Nat) : (s.closePort p).ring p = RingSt.reset := by
  rw [State.closePort_eq, State.ring_recordsDropped, State.ringClosed, State.ring_setRing_same]

theorem State.dropped_closePort (p : Nat) : ∀ c ∈ (s.closePort p).host.cmds, queuePort c.q = p → c.dropped = true := by
  intro c hc hp
  rw [State.closePort_eq] at hc
  obtain ⟨d, -, rfl⟩ := List.mem_map.mp hc
  by_cases h : queuePort d.q = p
  · rw [if_pos h]
  · rw [if_neg h] at hp
    exact absurd hp h

theorem State.heldDone_closePort (p : Nat) : ∀ c ∈ (s.closePort p).host.heldDone, queuePort c.q ≠ p := by
  intro c hc
  rw [State.closePort_eq] at hc
  exact of_decide_eq_true (List.mem_filter.mp hc).2

theorem State.word_closePort (hp : p < 3) (h : a < 0x21000 ∨ 0x21500 ≤ a) :
    (s.closePort p).word a rst = (s.orphan fun d => decide (queuePort d.q = p)).word a rst := by
  rw [State.closePort_eq, State.word_recordsDropped, State.word_ringClosed_ne (by omega), State.word_queuesClosed_ne (by omega)]

/-- No register outside host control changes. -/
theorem State.word_closePort_outside (hp : p < 3) (hqueued : s.Queued) (h : ¬ reportReg a) :
    (s.closePort p).word a rst = s.word a rst := by
  obtain ⟨hhif, hroute⟩ := not_or.mp h
  rw [State.word_closePort hp (by omega)]
  refine State.word_orphan _ hroute fun c hc => ?_
  have := hqueued c hc
  simp only [Fld.addr, HIF_Q_CFG.ENABLE]
  omega

theorem State.word_closePort_portCfg (hp : p < 3) : (s.closePort p).word 0x20000 rst = s.word 0x20000 rst := by
  rw [State.word_closePort hp (by decide)]
  refine State.word_orphan _ (by decide) fun c _ => ?_
  simp only [Fld.addr, HIF_Q_CFG.ENABLE]
  omega

end Close

end Sys2Proof.Machine

/-! THEOREMS. Enabling and disabling a host port (R41, R49, R62, R521). -/

namespace Sys2Proof.Machine

section Ports
variable {s t : State} {p : Path} {k j : Nat}

/-! ### HIF_PORT_CFG -/

theorem portEnFld_eq (hk : k < 3) : portEnFld k = ⟨0x20000, 0, k, 1, 0⟩ := by
  interval_cases k <;> rfl

theorem State.portOn_eq (hk : k < 3) : s.portOn k = decide (bits (s.word 0x20000 0).toNat k 1 = 1) := by
  rw [State.portOn, portEnFld_eq hk]
  rfl

theorem State.portOn_setFlag_same (b : Bool) (hk : k < 3) : (s.setFlag (portEnFld k) b 0).portOn k = b := by
  rw [State.portOn, portEnFld_eq hk]
  exact State.flag_setFlag_same _ _ _ rfl (by show k + 1 ≤ 32; omega)

theorem State.portOn_setFlag_other (b : Bool) (hk : k < 3) (hj : j < 3) (h : j ≠ k) :
    (s.setFlag (portEnFld k) b 0).portOn j = s.portOn j := by
  have hfld := State.fld_setFld_beside (f := ⟨0x20000, 0, k, 1, 0⟩) (g := ⟨0x20000, 0, j, 1, 0⟩) (i := 0) (j := 0) s (b2n b) rfl rfl
    (by show k + 1 ≤ 32; omega) (by show j + 1 ≤ k ∨ k + 1 ≤ j; omega)
  rw [State.portOn, State.portOn, portEnFld_eq hk, portEnFld_eq hj, State.setFlag_eq, State.flag, hfld, State.flag]

theorem State.portOn_closePort (hk : k < 3) (hj : j < 3) : (s.closePort k).portOn j = s.portOn j := by
  rw [State.portOn_eq hj, State.portOn_eq hj, State.word_closePort_portCfg hk]

/-- The bits of the word with one enable bit replaced. -/
theorem State.bit_portCfgWith (r : Fin 3) (on : Bool) (hk : k < 3) :
    decide (bits (s.portCfgWith r on) k 1 = 1) = if k = r.val then on else s.portOn k := by
  rw [State.portCfgWith, State.portOn_eq hk]
  split
  · next h =>
    rw [h, bits_insertBits]
    cases on <;> rfl
  · next h => rw [bits_insertBits_rest (by omega)]

/-! ### The three ports in turn -/

/-- One port at a write of HIF_PORT_CFG: closed where its bit clears. -/
def State.portStep (on : Nat → Bool) (t : State) (k : Nat) : State :=
  (if t.portOn k ∧ ! on k then t.closePort k else t).setFlag (portEnFld k) (on k)

theorem State.writePortCfg_eq {v : Nat} {on : Nat → Bool} (h : ∀ k < 3, decide (bits v k 1 = 1) = on k) :
    s.writePortCfg v = [0, 1, 2].foldl (State.portStep on) s := by
  refine List.foldl_ext _ _ _ fun t k hk => ?_
  have hlt : k < 3 := by fin_cases hk <;> decide
  simp only [h k hlt, State.portStep]

theorem State.portOn_portStep_same (on : Nat → Bool) (hk : k < 3) : (t.portStep on k).portOn k = on k :=
  State.portOn_setFlag_same _ hk

theorem State.portOn_portStep_other (on : Nat → Bool) (hk : k < 3) (hj : j < 3) (h : j ≠ k) :
    (t.portStep on k).portOn j = t.portOn j := by
  rw [State.portStep, State.portOn_setFlag_other _ hk hj h]
  split
  · exact State.portOn_closePort hk hj
  · rfl

/-- After the write each port is enabled as its bit says. -/
theorem State.portOn_writePortCfg {v : Nat} {on : Nat → Bool} (h : ∀ k < 3, decide (bits v k 1 = 1) = on k) (hk : k < 3) :
    (s.writePortCfg v).portOn k = on k := by
  have hlt : ∀ x ∈ [0, 1, 2], x < 3 := by decide
  rw [State.writePortCfg_eq h]
  refine foldl_establishes (P := fun k (t : State) => t.portOn k = on k) (fun t x hx => State.portOn_portStep_same on (hlt x hx))
    (fun t x hx y hy hne hx' => (State.portOn_portStep_other on (hlt y hy) (hlt x hx) hne).trans hx') ?_ s
  simp only [List.mem_cons, List.not_mem_nil, or_false]
  omega

/-- Ports in turn, each still as it was when its turn comes. -/
theorem State.foldl_portStep {on : Nat → Bool} {g : State → Nat → State} (l : List Nat) (hl : ∀ k ∈ l, k < 3) (hnodup : l.Nodup)
    (hg : ∀ t : State, ∀ k ∈ l, t.portOn k = s.portOn k → t.portStep on k = g t k) (t : State)
    (ht : ∀ k ∈ l, t.portOn k = s.portOn k) : l.foldl (State.portStep on) t = l.foldl g t := by
  induction l generalizing t with
  | nil => rfl
  | cons k l ih =>
    obtain ⟨hk, hnodup⟩ := List.nodup_cons.mp hnodup
    have hlt := hl k List.mem_cons_self
    rw [List.foldl_cons, List.foldl_cons, ← hg t k List.mem_cons_self (ht k List.mem_cons_self)]
    refine ih (fun j hj => hl j (List.mem_cons_of_mem _ hj)) hnodup (fun t j hj => hg t j (List.mem_cons_of_mem _ hj)) _ fun j hj => ?_
    rw [State.portOn_portStep_other on hlt (hl j (List.mem_cons_of_mem _ hj)) fun h => hk (h ▸ hj)]
    exact ht j (List.mem_cons_of_mem _ hj)

/-- Clearing one enable bit closes its port where it was enabled, and writes the others as they stand. -/
theorem State.writePortCfg_disable (r : Fin 3) : s.writePortCfg (s.portCfgWith r false) =
    [0, 1, 2].foldl (fun (t : State) k =>
      (if k = r.val ∧ t.portOn k = true then t.closePort k else t).setFlag (portEnFld k) (decide (k ≠ r.val) && s.portOn k)) s := by
  rw [State.writePortCfg_eq fun k hk => s.bit_portCfgWith r false hk]
  refine State.foldl_portStep (s := s) _ (by decide) (by decide) (fun t k _ ht => ?_) s fun _ _ => rfl
  by_cases h : k = r.val
  · simp [State.portStep, h]
  · cases hon : s.portOn k <;> simp [State.portStep, h, ht, hon]

/-- Setting one closes none. -/
theorem State.writePortCfg_enable (r : Fin 3) : s.writePortCfg (s.portCfgWith r true) =
    [0, 1, 2].foldl (fun (t : State) k => t.setFlag (portEnFld k) (decide (k = r.val) || s.portOn k)) s := by
  rw [State.writePortCfg_eq fun k hk => s.bit_portCfgWith r true hk]
  refine State.foldl_portStep (s := s) _ (by decide) (by decide) (fun t k _ ht => ?_) s fun _ _ => rfl
  by_cases h : k = r.val
  · simp [State.portStep, h]
  · cases hon : s.portOn k <;> simp [State.portStep, h, ht, hon]

/-! ### The commands -/

section Open
variable (hawake : s.awake = true) (hopen : s.pathOpen p = true)
include hawake hopen

theorem exec_portDisable_open (r : Fin 3) : exec (.portDisable p r) s = .next (s.writePortCfg (s.portCfgWith r false)) := by
  rw [exec_portDisable hawake, State.hostWriteWord_open _ hopen, State.putWord_portCfg]

theorem exec_portEnable_open (r : Fin 3) : exec (.portEnable p r) s = .next (s.writePortCfg (s.portCfgWith r true)) := by
  rw [exec_portEnable hawake, State.hostWriteWord_open _ hopen, State.putWord_portCfg]

end Open

end Ports

/-- Settles O17: a write of HIF_PORT_CFG takes the ports in turn (`portStep`), and none changes another's enable bit; closing a port
clears its queues (`Zeroed`) and its ring. -/
theorem portEnables : Obligations.PortEnables := by
  unfold Obligations.PortEnables
  intro s
  refine ⟨fun p r up hawake hopen => ?_, fun p hqueued => ⟨fun k => ?_, State.flag_closePort_ring p, State.fld_closePort_evHead p,
    State.ring_closePort p, State.dropped_closePort p, State.heldDone_closePort p,
    fun a rst => State.word_closePort_outside p.isLt hqueued⟩⟩
  · rw [exec_portDisable_open hawake hopen, exec_portEnable_open hawake hopen]
    refine ⟨congrArg _ (State.writePortCfg_disable r), congrArg _ (State.writePortCfg_enable r), ⟨_, rfl, ?_⟩, ⟨_, rfl, ?_⟩, rfl⟩
    · rw [State.portOn_writePortCfg (fun k hk => s.bit_portCfgWith r false hk) r.isLt, if_pos rfl]
    · rw [State.portOn_writePortCfg (fun k hk => s.bit_portCfgWith r true hk) r.isLt, if_pos rfl]
  · obtain ⟨henable, hsqHead, htail, hcqHead, hkept⟩ := s.closePort_zeroed k p.isLt k.isLt
    exact ⟨henable, hsqHead, htail, hcqHead, hkept⟩

end Sys2Proof.Machine

/-! THEOREMS. Register reads and writes of other nodes, responses and resends (R44, R216 to R218, R225, R246). -/

namespace Sys2Proof.Machine

section Remote
variable {s u : State} {q : Fin 24} {tag k : Nat} {m : Msg} {c : Cmd} {e : Fin 4} {p : Pending}

/-! ### REG_READ and REG_WRITE -/

/-- Whether a REG_READ is one that the remote port answers: it is enabled and the count is of Table 8-2. -/
def State.readAccepted (s : State) (m : Msg) : Prop :=
  s.portOn 2 = true ∧ m.payload.length = 1 ∧ 0 < beAt m.payload 0 1 ∧ beAt m.payload 0 1 ≤ 64

/-- Whether a REG_WRITE is one that the remote port takes: disabled, only one that meets HIF_PORT_CFG (Table 2-3). -/
def State.writeAccepted (s : State) (m : Msg) : Prop :=
  (s.portOn 2 = true ∨ (4 * m.arg ≤ 0x20000 ∧ 0x20000 < 4 * (m.arg + m.payload.length / 4))) ∧
    m.payload.length % 4 = 0 ∧ 0 < m.payload.length / 4 ∧ m.payload.length / 4 ≤ 64

theorem onRegRead_none (h : s.takeMsg 0x07 = none) : onRegRead s = s := by
  rw [onRegRead, h]

theorem onRegWrite_none (h : s.takeMsg 0x08 = none) : onRegWrite s = s := by
  rw [onRegWrite, h]

section Read
variable (h : s.takeMsg 0x07 = some (k, m, u))
include h

theorem onRegRead_unlisted (hnode : u.remoteEntry m.src = none) : onRegRead s = u.refuseNode m := by
  rw [onRegRead, h]
  dsimp only
  rw [hnode]

theorem onRegRead_listed (hnode : u.remoteEntry m.src = some e) :
    (u.readAccepted m → onRegRead s =
      (State.readWords nextWord (.remote e) 0 (4 * m.arg) (beAt m.payload 0 1) u).2.respond m
        (swapWords (beAt m.payload 0 1) (State.readWords nextWord (.remote e) 0 (4 * m.arg) (beAt m.payload 0 1) u).1)) ∧
    (¬ u.readAccepted m → onRegRead s = u.dropRequest m) := by
  rw [onRegRead, h]
  dsimp only
  rw [hnode]
  refine ⟨fun ⟨hon, hlen, hpos, hle⟩ => if_neg ?_, fun hbad => if_pos ?_⟩
  · rintro (hoff | hform | hzero | hmany)
    · exact hoff hon
    · exact hform hlen
    · omega
    · omega
  · by_contra hgood
    simp only [not_or, not_not] at hgood
    obtain ⟨hon, hlen, hpos, hle⟩ := hgood
    exact hbad ⟨hon, hlen, by omega, by omega⟩

end Read

section Write
variable (h : s.takeMsg 0x08 = some (k, m, u))
include h

theorem onRegWrite_unlisted (hnode : u.remoteEntry m.src = none) : onRegWrite s = u.refuseNode m := by
  rw [onRegWrite, h]
  dsimp only
  rw [hnode]

theorem onRegWrite_listed (hnode : u.remoteEntry m.src = some e) :
    (u.writeAccepted m → onRegWrite s =
      if (State.remoteWords (.remote e) (4 * m.arg) (routeEntries (m.payload.length / 4) m.payload) u).awake then
        (State.remoteWords (.remote e) (4 * m.arg) (routeEntries (m.payload.length / 4) m.payload) u).respond m [0]
      else State.remoteWords (.remote e) (4 * m.arg) (routeEntries (m.payload.length / 4) m.payload) u) ∧
    (¬ u.writeAccepted m → onRegWrite s = u.dropRequest m) := by
  rw [onRegWrite, h]
  dsimp only
  rw [hnode]
  refine ⟨fun ⟨hport, hlen, hpos, hle⟩ => if_neg ?_, fun hbad => if_pos ?_⟩
  · rintro (hclosed | hform | hzero | hmany)
    · exact hclosed (by simpa using hport)
    · exact hform hlen
    · omega
    · omega
  · by_contra hgood
    obtain ⟨hport, hlen, hpos, hle⟩ : _ ∧ _ ∧ _ ∧ _ := by simpa only [not_or] using hgood
    exact hbad ⟨by simpa using Decidable.not_not.mp hport, Decidable.not_not.mp hlen, by omega, by omega⟩

end Write

/-! ### CMD_VIA_ROUTES and CMD_VIA_REG -/

theorem onCmdViaRoutes_none (h : s.cmd q tag 0x0A03 = none) : onCmdViaRoutes q tag s = s := by
  rw [onCmdViaRoutes, h]

theorem onCmdViaRoutes_started (h : s.cmd q tag 0x0A03 = some c) : onCmdViaRoutes q tag s =
    (s.run c).sendMsg (.node (c.opnd 32 2 % 4096)) 2 0x06 0 (beBytes 2 (c.opnd 34 2 % 4096) ++ beBytes 2 0 ++
      swapWords ((s.payload c).length / 4) (s.payload c)) true (some (c.q, c.id)) := by
  rw [onCmdViaRoutes, h]

theorem onCmdViaReg_none (h : s.cmd q tag 0x0A05 = none) : onCmdViaReg q tag s = s := by
  rw [onCmdViaReg, h]

theorem onCmdViaReg_started (h : s.cmd q tag 0x0A05 = some c) : onCmdViaReg q tag s =
    if c.opnd 34 1 = 1 then
      (s.run c).sendMsg (.node (c.opnd 32 2 % 4096)) 0 0x08 (c.opnd 36 4 / 4) (swapWords (c.opnd 35 1) (s.payload c)) true
        (some (c.q, c.id))
    else (s.run c).sendMsg (.node (c.opnd 32 2 % 4096)) 0 0x07 (c.opnd 36 4 / 4) (beBytes 1 (c.opnd 35 1)) true
      (some (c.q, c.id)) := by
  rw [onCmdViaReg, h]

/-! ### Responses -/

/-- The state with a delivered message taken. -/
def State.delivered (s : State) (k : Nat) (m : Msg) : State :=
  { s with via := { s.via with inbox := s.via.inbox.erase (k, m) } }

/-- Whether a response answers a message that is kept: one that was sent, of its node, VC, MSG_SEQ and TYPE. -/
def answersMsg (m : Msg) (p : Pending) : Bool :=
  decide (p.msg.dst = m.src ∧ p.msg.vc = m.vc ∧ p.msg.seq = m.seq ∧ p.msg.typ = m.typ ∧ p.sent ≠ none)

/-- The state with a message no longer kept for its response. -/
def State.untracked (s : State) (p : Pending) : State := { s with via := { s.via with pend := s.via.pend.erase p } }

theorem onMessageResponse_restarting (h : s.restarting = true) : onMessageResponse s = s := if_pos h

section Running
variable (hrun : s.restarting = false)
include hrun

theorem onMessageResponse_none (h : s.via.inbox.find? (fun e => e.2.resp) = none) : onMessageResponse s = s := by
  rw [onMessageResponse, if_neg (by simp [hrun]), h]

section Delivered
variable (h : s.via.inbox.find? (fun e => e.2.resp) = some (k, m))
include h

/-- A delivered response is taken; where it answers a message kept for it, that message is kept no longer. -/
theorem onMessageResponse_delivered : onMessageResponse s =
    ((s.delivered k m).via.pend.find? (answersMsg m)).elim (s.delivered k m) fun p =>
      ((((s.delivered k m).untracked p).answeredBy k p m).nextPending p.msg.dst p.msg.vc).discoverDone := by
  rw [onMessageResponse, if_neg (by simp [hrun]), h]
  change _ = Option.elim ((s.delivered k m).via.pend.find? fun p =>
    decide (p.msg.dst = m.src ∧ p.msg.vc = m.vc ∧ p.msg.seq = m.seq ∧ p.msg.typ = m.typ ∧ p.sent ≠ none)) _ _
  dsimp only [State.delivered]
  split <;> simp only [*] <;> rfl

theorem onMessageResponse_unasked (hnone : (s.delivered k m).via.pend.find? (answersMsg m) = none) :
    onMessageResponse s = s.delivered k m := by
  rw [onMessageResponse_delivered hrun h, hnone, Option.elim_none]

theorem onMessageResponse_answer (hsome : (s.delivered k m).via.pend.find? (answersMsg m) = some p) : onMessageResponse s =
    ((((s.delivered k m).untracked p).answeredBy k p m).nextPending p.msg.dst p.msg.vc).discoverDone := by
  rw [onMessageResponse_delivered hrun h, hsome, Option.elim_some]

end Delivered

end Running

/-! ### Messages overdue -/

theorem onE2eTimeout_restarting (h : s.restarting = true) : onE2eTimeout s = s := if_pos h

/-- A message overdue was sent E2E_TO ago or earlier and is still kept. -/
theorem State.overdue_spec (h : s.overdue = some p) :
    ∃ t, p.sent = some t ∧ t + s.fld VIA_CFG.E2E_TO * ms ≤ s.clock ∧ p ∈ s.via.pend := by
  have hdue := List.find?_some h
  cases hsent : p.sent with
  | none => simp [hsent] at hdue
  | some t => exact ⟨t, rfl, by simpa [hsent] using hdue, List.mem_of_find?_eq_some h⟩

theorem onE2eTimeout_none (hrun : s.restarting = false) (h : s.overdue = none) : onE2eTimeout s = s := by
  rw [onE2eTimeout, if_neg (by simp [hrun]), h]

/-- A message overdue is sent again, or given up after three resends, with the offer that it carried. -/
theorem onE2eTimeout_overdue (hrun : s.restarting = false) (h : s.overdue = some p) : onE2eTimeout s =
    if p.tries < 3 then
      State.relaunch { s.bump VIA_CNT_E2E.RETRY with via := { s.via with
        pend := s.via.pend.map fun c => if c = p then { c with tries := c.tries + 1, sent := some s.clock } else c } } p.msg
    else if fwType p.msg.typ ∧ (Sparse.find (s.giveUp p).fwu.offers ((s.giveUp p).offerPort 0 p.msg.dst)).isSome ∧
        (s.giveUp p).fld SPN_STATUS.PEER ((s.giveUp p).offerPort 0 p.msg.dst) = p.msg.dst then
      (s.giveUp p).endOffer ((s.giveUp p).offerPort 0 p.msg.dst) false
    else s.giveUp p := by
  rw [onE2eTimeout, if_neg (by simp [hrun]), h]
  rfl

/-! ### The commands -/

section Awake
variable (hawake : s.awake = true)
include hawake

theorem exec_regRead : exec .regRead s = .next (onRegRead s) := congrArg _ (State.guarded_of_awake _ hawake)

theorem exec_regWrite : exec .regWrite s = .next (onRegWrite s) := congrArg _ (State.guarded_of_awake _ hawake)

theorem exec_cmdViaRoutes : exec (.cmdViaRoutes q tag) s = .next (onCmdViaRoutes q tag s) :=
  congrArg _ (State.guarded_of_awake _ hawake)

theorem exec_cmdViaReg : exec (.cmdViaReg q tag) s = .next (onCmdViaReg q tag s) := congrArg _ (State.guarded_of_awake _ hawake)

theorem exec_messageResponse : exec .messageResponse s = .next (onMessageResponse s) :=
  congrArg _ (State.guarded_of_awake _ hawake)

theorem exec_e2eTimeout : exec .e2eTimeout s = .next (onE2eTimeout s) := congrArg _ (State.guarded_of_awake _ hawake)

end Awake

end Remote

/-- Settles O50: the node, the port and the form of a request decide whether it is answered; a response is matched with what is kept;
what is overdue is sent again or given up. -/
theorem remoteMessages : Obligations.RemoteMessages := by
  unfold Obligations.RemoteMessages
  intro s q tag hawake
  rw [exec_regRead hawake, exec_regWrite hawake, exec_cmdViaRoutes hawake, exec_cmdViaReg hawake, exec_messageResponse hawake,
    exec_e2eTimeout hawake]
  refine ⟨fun hnone => ?_, fun k m u h => ⟨fun hnode => ?_, fun e hnode => ?_⟩, fun hnone => ?_, fun k m u h => ⟨fun hnode => ?_,
    fun e hnode => ?_⟩, fun hnone => ?_, fun c hc => ?_, fun hnone => ?_, fun c hc => ?_, fun hrestart => ?_, fun hrun =>
    ⟨fun hnone => ?_, fun k m h => ⟨fun hnone => ?_, fun p hp => ?_⟩, fun hnone => ?_, fun p hp =>
    ⟨State.overdue_spec hp, fun htries => ?_, fun htries => ?_⟩⟩⟩
  · rw [onRegRead_none hnone]
  · rw [onRegRead_unlisted h hnode]
  · obtain ⟨hgood, hbad⟩ := onRegRead_listed h hnode
    exact ⟨fun hok => congrArg _ (hgood hok), fun hno => congrArg _ (hbad hno)⟩
  · rw [onRegWrite_none hnone]
  · rw [onRegWrite_unlisted h hnode]
  · obtain ⟨hgood, hbad⟩ := onRegWrite_listed h hnode
    exact ⟨fun hok => congrArg _ (hgood hok), fun hno => congrArg _ (hbad hno)⟩
  · rw [onCmdViaRoutes_none hnone]
  · rw [onCmdViaRoutes_started hc]
  · rw [onCmdViaReg_none hnone]
  · exact congrArg _ (onCmdViaReg_started hc)
  · rw [onMessageResponse_restarting hrestart, onE2eTimeout_restarting hrestart]
    exact ⟨rfl, rfl⟩
  · rw [onMessageResponse_none hrun hnone]
  · exact congrArg _ (onMessageResponse_unasked hrun h hnone)
  · exact congrArg _ (onMessageResponse_answer hrun h hp)
  · rw [onE2eTimeout_none hrun hnone]
  · rw [onE2eTimeout_overdue hrun hp, if_pos htries]
  · rw [onE2eTimeout_overdue hrun hp, if_neg (by omega)]

end Sys2Proof.Machine

/-! THEOREMS. Staging a bit-stream and verifying it (R69, R84, R85, R487). -/

namespace Sys2Proof.Machine

section Staging
variable {s : State} {q : Fin 24} {tag i : Nat} {c : Cmd} {f : CfgFail}

/-! ### Chunks of CMD_CFG_STAGE (R84) -/

/-- A chunk that opens a stage. -/
def Cmd.isFirst (c : Cmd) : Bool := decide (c.opnd 36 1 % 2 = 1)

/-- The last chunk of a stage. -/
def Cmd.isLast (c : Cmd) : Bool := decide (c.opnd 36 1 / 2 % 2 = 1)

/-- The TOTAL_LEN of the stage that a chunk belongs to. -/
def State.chunkTotal (s : State) (c : Cmd) : Nat := if c.isFirst then leAt (s.payload c) 12 4 else s.cfg.total

/-- The length staged with a chunk. -/
def State.chunkEnd (s : State) (c : Cmd) : Nat := c.opnd 32 4 + (s.payload c).length

/-- The state with a chunk staged and the stage RECEIVING. -/
def State.chunkStaged (s : State) (c : Cmd) : State :=
  let put := (s.putStage (c.opnd 32 4) (s.payload c)).setFld CFG_STATUS.STAGE sgReceiving
  let u := if c.isFirst then put.setFlag CFG_STATUS.PARTIAL (isPartial (s.payload c)) else put
  { u with cfg := { u.cfg with total := s.chunkTotal c } }

/-- A whole stage after check unit 0 has run over the bytes before its trailer (R487). -/
def State.trailerRun (s : State) : State := s.feedTrailer s.staged

/-- The completion of a last chunk: the trailer decides between COMPLETE and FAILED. -/
def State.stageJudged (s : State) (c : Cmd) : State :=
  if trailerOk s.staged then (s.setFld CFG_STATUS.STAGE sgComplete).cfgFinish c stOk
  else (s.setFld CFG_STATUS.STAGE sgFailed).cfgFinish c 0x0203

theorem onCmdCfgStage_none (h : s.cmd q tag 0x0201 = none) : onCmdCfgStage q tag s = s := by
  rw [onCmdCfgStage, h]

section Chunk
variable (h : s.cmd q tag 0x0201 = some c)
include h

/-- The tests of a chunk in their order, and what a chunk that passes them does. -/
theorem onCmdCfgStage_started : onCmdCfgStage q tag s =
    if s.stageBusy then s.cfgFinish c 0x0211
    else if c.isFirst ∧ (c.opnd 32 4 ≠ 0 ∨ (s.payload c).length < 512) then s.cfgFinish c 0x0201
    else if ¬ c.isFirst ∧ (s.stage ≠ sgReceiving ∨ c.opnd 32 4 ≠ s.fld CFG_STAGED_LEN.LEN) then s.cfgFinish c 0x0201
    else if c.isFirst ∧ (64 * mib < s.chunkTotal c ∨ s.stageArea.2.2 < s.chunkTotal c) then s.cfgFinish c 0x0202
    else if s.chunkTotal c < s.chunkEnd c ∨ (c.isLast ∧ s.chunkEnd c ≠ s.chunkTotal c) then s.cfgFinish c 0x0201
    else if c.isLast then (s.chunkStaged c).trailerRun.stageJudged c
    else (s.chunkStaged c).cfgFinish c stOk := by
  rw [onCmdCfgStage, h]
  rfl

section Free
variable (hfree : s.stageBusy = false)
include hfree

/-- A first chunk that opens no stage, or a later one that does not continue the stage being received (log entry 127). -/
theorem onCmdCfgStage_astray
    (hbad : if c.isFirst then c.opnd 32 4 ≠ 0 ∨ (s.payload c).length < 512
      else s.stage ≠ sgReceiving ∨ c.opnd 32 4 ≠ s.fld CFG_STAGED_LEN.LEN) :
    onCmdCfgStage q tag s = s.cfgFinish c 0x0201 := by
  rw [onCmdCfgStage_started h, if_neg (by simp [hfree])]
  cases hfirst : c.isFirst <;> simp only [hfirst] at hbad
  case true => exact if_pos ⟨rfl, hbad⟩
  case false => rw [if_neg (by simp), if_pos ⟨by simp, hbad⟩]

theorem onCmdCfgStage_tooBig (hfirst : c.isFirst = true) (hoff : c.opnd 32 4 = 0) (hlen : 512 ≤ (s.payload c).length)
    (hbig : 64 * mib < s.chunkTotal c ∨ s.stageArea.2.2 < s.chunkTotal c) :
    onCmdCfgStage q tag s = s.cfgFinish c 0x0202 := by
  rw [onCmdCfgStage_started h, if_neg (by simp [hfree]), if_neg (by omega), if_neg fun hlater => hlater.1 hfirst,
    if_pos ⟨hfirst, hbig⟩]

section Joined
variable (hopen : c.isFirst = true → c.opnd 32 4 = 0 ∧ 512 ≤ (s.payload c).length ∧ s.chunkTotal c ≤ 64 * mib ∧
    s.chunkTotal c ≤ s.stageArea.2.2)
  (hnext : c.isFirst = false → s.stage = sgReceiving ∧ c.opnd 32 4 = s.fld CFG_STAGED_LEN.LEN)
include hopen hnext

/-- A chunk that opens a stage that fits, or continues the one being received. -/
theorem onCmdCfgStage_joined : onCmdCfgStage q tag s =
    if s.chunkTotal c < s.chunkEnd c ∨ (c.isLast ∧ s.chunkEnd c ≠ s.chunkTotal c) then s.cfgFinish c 0x0201
    else if c.isLast then (s.chunkStaged c).trailerRun.stageJudged c
    else (s.chunkStaged c).cfgFinish c stOk := by
  rw [onCmdCfgStage_started h, if_neg (by simp [hfree]), if_neg, if_neg, if_neg]
  · rintro ⟨hfirst, hbig⟩
    obtain ⟨-, -, hmost, hroom⟩ := hopen hfirst
    omega
  · rintro ⟨hlater, hbad⟩
    obtain ⟨hstage, hoff⟩ := hnext (by simpa using hlater)
    exact hbad.elim (· hstage) (· hoff)
  · rintro ⟨hfirst, hbad⟩
    obtain ⟨hoff, hlen, -, -⟩ := hopen hfirst
    omega

theorem onCmdCfgStage_goesOn (hmore : c.isLast = false) (hfits : s.chunkEnd c ≤ s.chunkTotal c) :
    onCmdCfgStage q tag s = (s.chunkStaged c).cfgFinish c stOk := by
  rw [onCmdCfgStage_joined h hfree hopen hnext, if_neg (by simpa [hmore] using hfits), if_neg (by simp [hmore])]

theorem onCmdCfgStage_whole (hlast : c.isLast = true) (hend : s.chunkEnd c = s.chunkTotal c) :
    onCmdCfgStage q tag s = (s.chunkStaged c).trailerRun.stageJudged c := by
  rw [onCmdCfgStage_joined h hfree hopen hnext, if_neg (by omega), if_pos hlast]

end Joined

end Free

end Chunk

/-! ### The stream of a slot (CMD_CFG_STAGE_FLASH) -/

/-- The state with a slot's bit-stream staged and check unit 0 run over the bytes before its trailer. -/
def State.slotStaged (s : State) (i : Nat) : State :=
  let u := (s.putStage 0 (s.slotStream i)).setFlag CFG_STATUS.PARTIAL (isPartial (s.slotStream i))
  State.feedTrailer { u with cfg := { u.cfg with total := (s.slotStream i).length } } (s.slotStream i)

theorem State.stageSlot_eq (i : Nat) : s.stageSlot i =
    if 64 * mib < (s.slotStream i).length ∨ s.stageArea.2.2 < (s.slotStream i).length then (s, 0x0202)
    else if trailerOk (s.slotStream i) then ((s.slotStaged i).setFld CFG_STATUS.STAGE sgComplete, stOk)
    else ((s.slotStaged i).setFld CFG_STATUS.STAGE sgFailed, 0x0203) := rfl

theorem onCmdCfgStageFlash_none (h : s.cmd q tag 0x0202 = none) : onCmdCfgStageFlash q tag s = s := by
  rw [onCmdCfgStageFlash, h]

theorem onCmdCfgStageFlash_started (h : s.cmd q tag 0x0202 = some c) : onCmdCfgStageFlash q tag s =
    if s.stageBusy then s.cfgFinish c 0x0211
    else (s.stageSlot (c.opnd 32 1)).1.cfgFinish c (s.stageSlot (c.opnd 32 1)).2 := by
  rw [onCmdCfgStageFlash, h]

/-! ### Verification (R85) -/

theorem State.runVerify_sound (h : s.verifyCfg s.staged = none) :
    s.runVerify = (s.setFld CFG_STATUS.STAGE sgVerified, stOk, []) := by
  rw [State.runVerify, h]

theorem State.runVerify_status (h : s.verifyCfg s.staged = some f) : s.runVerify.2.1 = f.status := by
  rw [State.runVerify, h]

/-- A check that fails in a section names it in the event and in RESULT. -/
theorem State.runVerify_section (h : s.verifyCfg s.staged = some f) (hsect : f.sect ≠ noSection) :
    s.runVerify = ((s.setFld CFG_STATUS.STAGE sgFailed).raise 0x0202 [(16, 2, f.status), (18, 2, f.sect), (20, 4, f.offset)],
      f.status, result [(16, 2, f.sect), (20, 4, f.offset)]) := by
  rw [State.runVerify, h]
  simp only [if_neg hsect]

/-- The state in which the checks of a CMD_CFG_VERIFY run: VERIFYING, with the command no longer kept for them. -/
def State.verifyTaken (s : State) : State :=
  { (if s.stage = sgComplete then s.setFld CFG_STATUS.STAGE sgVerifying else s) with cfg := { s.cfg with verify := none } }

theorem State.stage_setFld (v : Nat) : (s.setFld CFG_STATUS.STAGE v).stage = v % 8 :=
  State.fld_setFld_same s CFG_STATUS.STAGE v 0 (by decide)

theorem State.beginVerify_complete (c : Cmd) (h : s.stage = sgComplete) : s.beginVerify c =
    { s.setFld CFG_STATUS.STAGE sgVerifying with cfg := { s.cfg with verify := some (c.q, c.id) } } := if_pos h

theorem State.beginVerify_other (c : Cmd) (h : s.stage ≠ sgComplete) : s.beginVerify c = s := if_neg h

theorem onCmdCfgVerify_none (h : s.cmd q tag 0x0203 = none) : onCmdCfgVerify q tag s = s := by
  rw [onCmdCfgVerify, h]

section Verify
variable (h : s.cmd q tag 0x0203 = some c)
include h

theorem onCmdCfgVerify_started : onCmdCfgVerify q tag s =
    if (s.beginVerify c).stage ≠ sgVerifying ∨ (s.beginVerify c).cfg.verify ≠ some (c.q, c.id) then
      (s.beginVerify c).cfgFinish c 0x0211
    else
      let v : State := { s.beginVerify c with cfg := { (s.beginVerify c).cfg with verify := none } }
      v.runVerify.1.cfgFinish c v.runVerify.2.1 v.runVerify.2.2 := by
  rw [onCmdCfgVerify, h]

theorem onCmdCfgVerify_refused (hstage : s.stage ≠ sgComplete)
    (hother : s.stage ≠ sgVerifying ∨ s.cfg.verify ≠ some (c.q, c.id)) :
    onCmdCfgVerify q tag s = s.cfgFinish c 0x0211 := by
  rw [onCmdCfgVerify_started h, State.beginVerify_other c hstage, if_pos hother]

/-- The stage is COMPLETE, or was when the command started. -/
theorem onCmdCfgVerify_checked
    (hstage : s.stage = sgComplete ∨ s.stage = sgVerifying ∧ s.cfg.verify = some (c.q, c.id)) :
    onCmdCfgVerify q tag s =
      s.verifyTaken.runVerify.1.cfgFinish c s.verifyTaken.runVerify.2.1 s.verifyTaken.runVerify.2.2 := by
  rw [onCmdCfgVerify_started h, State.verifyTaken]
  rcases hstage with hcomplete | ⟨hverifying, hmine⟩
  · rw [State.beginVerify_complete c hcomplete, if_pos hcomplete]
    refine if_neg (not_or.mpr ⟨not_not.mpr ?_, not_not.mpr rfl⟩)
    exact State.stage_setFld sgVerifying
  · have hother : s.stage ≠ sgComplete := by rw [hverifying]; decide
    rw [State.beginVerify_other c hother, if_neg hother]
    exact if_neg (not_or.mpr ⟨not_not.mpr hverifying, not_not.mpr hmine⟩)

end Verify

/-! ### The commands -/

section Awake
variable (hawake : s.awake = true)
include hawake

theorem exec_cmdCfgStage : exec (.cmdCfgStage q tag) s = .next (onCmdCfgStage q tag s) :=
  congrArg _ (State.guarded_of_awake _ hawake)

theorem exec_cmdCfgStageFlash : exec (.cmdCfgStageFlash q tag) s = .next (onCmdCfgStageFlash q tag s) :=
  congrArg _ (State.guarded_of_awake _ hawake)

theorem exec_cmdCfgVerify : exec (.cmdCfgVerify q tag) s = .next (onCmdCfgVerify q tag s) :=
  congrArg _ (State.guarded_of_awake _ hawake)

end Awake

end Staging

/-- Settles O39: the tests of a chunk in their order; the trailer judges a whole stage, after check unit 0 has run over what it
covers (log entry 127); the checks judge the stage that a CMD_CFG_VERIFY finds COMPLETE. -/
theorem staging : Obligations.Staging := by
  unfold Obligations.Staging
  intro s q tag hawake
  rw [exec_cmdCfgStage hawake, exec_cmdCfgStageFlash hawake, exec_cmdCfgVerify hawake]
  refine ⟨fun hnone => ?_, fun hnone => ?_, fun hnone => ?_, fun _ _ _ _ => rfl, fun c hc => ⟨fun hbusy => ?_,
    fun hfree hfirst hbad => ?_, fun hfree hlater hbad => ?_, fun hfree hfirst hoff hlen hbig => ?_, fun hfree hopen hnext => ?_⟩,
    fun c hc => ⟨fun hbusy => ?_, fun hfree hbig => ?_, fun hfree hmost hroom => ?_⟩, fun c hc => ⟨fun hstage hother => ?_,
    fun hstage => ⟨?_, State.runVerify_sound, fun f hf => ⟨State.runVerify_status hf, State.runVerify_section hf⟩⟩⟩⟩
  · rw [onCmdCfgStage_none hnone]
  · rw [onCmdCfgStageFlash_none hnone]
  · rw [onCmdCfgVerify_none hnone]
  · rw [onCmdCfgStage_started hc, if_pos hbusy]
  · exact congrArg _ (onCmdCfgStage_astray hc hfree (by rw [if_pos (show c.isFirst = true from hfirst)]; exact hbad))
  · exact congrArg _ (onCmdCfgStage_astray hc hfree (by rw [show c.isFirst = false from hlater, if_neg (by simp)]; exact hbad))
  · exact congrArg _ (onCmdCfgStage_tooBig hc hfree hfirst hoff hlen hbig)
  · have hjoined := onCmdCfgStage_joined hc hfree hopen hnext
    refine ⟨fun hover => ?_, fun hlast hshort => ?_, fun hmore hfits => ?_, fun hlast hend hok => ?_, fun hlast hend hbad => ?_⟩
    · exact congrArg _ (hjoined.trans (if_pos (.inl hover)))
    · exact congrArg _ (hjoined.trans (if_pos (.inr ⟨hlast, hshort⟩)))
    · exact congrArg _ (onCmdCfgStage_goesOn hc hfree hopen hnext hmore hfits)
    · rw [onCmdCfgStage_whole hc hfree hopen hnext hlast hend]
      exact congrArg _ (if_pos hok)
    · rw [onCmdCfgStage_whole hc hfree hopen hnext hlast hend]
      exact congrArg _ (if_neg (Bool.eq_false_iff.mp hbad))
  · rw [onCmdCfgStageFlash_started hc, if_pos hbusy]
  · rw [onCmdCfgStageFlash_started hc, if_neg (by simp [hfree]), State.stageSlot_eq, if_pos hbig]
  · rw [onCmdCfgStageFlash_started hc, if_neg (by simp [hfree]), State.stageSlot_eq, if_neg (by omega)]
    refine ⟨fun hok => ?_, fun hbad => ?_⟩
    · rw [if_pos hok]
      rfl
    · rw [if_neg (by simp [hbad])]
      rfl
  · rw [onCmdCfgVerify_refused hc hstage hother]
  · exact congrArg _ (onCmdCfgVerify_checked hc hstage)

end Sys2Proof.Machine

/-! THEOREMS. Applying a bit-stream, its minimum SVN, automatic loading (R72, R86, R89, R91 to R93). -/

namespace Sys2Proof.Machine

section Applying
variable {s : State} {q : Fin 24} {tag : Nat} {c : Cmd}

/-! ### CMD_CFG_APPLY (R86, R89) -/

/-- The state with a stage PENDING for a CMD_CFG_APPLY, which runs (log entry 33). -/
def State.applyPending (s : State) (c : Cmd) : State :=
  { (s.run c).setFld CFG_STATUS.STAGE sgPending with
    cfg := { s.cfg with
      apply := some (c.q, c.id), startAt := if bits c.flags 1 1 = 1 then some c.startTime else none, taken := false } }

theorem onCmdCfgApply_none (h : s.cmd q tag 0x0204 = none) : onCmdCfgApply q tag s = s := by
  rw [onCmdCfgApply, h]

theorem onCmdCfgApply_started (h : s.cmd q tag 0x0204 = some c) : onCmdCfgApply q tag s =
    if s.stage ≠ sgVerified then s.cfgFinish c 0x0211
    else if s.roleBlocked then s.cfgFinish c 0x0212
    else s.applyPending c := by
  rw [onCmdCfgApply, h]
  rfl

theorem State.stage_applyPending : (s.applyPending c).stage = sgPending := State.stage_setFld sgPending

theorem State.word_applyPending_ne {a : Nat} (rst : Nat) (h : a ≠ CFG_STATUS.STAGE.addr 0) :
    (s.applyPending c).word a rst = s.word a rst := State.word_setFld_ne (s.run c) sgPending rst h

/-! ### A pending load without a cadence (R86, R89, R93) -/

theorem State.loadDue_true : s.loadDue true = true ↔ s.stage = sgPending ∧ ∀ t, s.cfg.startAt = some t → t ≤ s.now := by
  unfold State.loadDue
  cases s.cfg.startAt <;> simp

/-- Where no command of the opcodes has an accepted abort none stops. -/
theorem State.stopAll_unaborted {ops : List Nat} (h : ∀ c ∈ s.host.cmds, c.opcode ∈ ops → c.aborts = []) :
    s.stopAll ops = s := by
  have hnone : (s.host.cmds.filter fun c => c.opcode ∈ ops ∧ c.aborts ≠ [] ∧ c.phase ≠ .waiting) = [] := by
    refine List.filter_eq_nil_iff.mpr fun c hc => ?_
    simpa using fun hop hab => absurd (h c hc hop) hab
  rw [State.stopAll, hnone, List.foldl_nil]

theorem onCfgApplyNoCadence_still (h : s.cadence = true ∨ s.restarting = true ∨ s.loadDue true = false) :
    onCfgApplyNoCadence s = s :=
  if_pos (by simpa using h)

/-- The load that is due takes effect unless the stop of its APPLY takes it back (log entry 129). -/
theorem onCfgApplyNoCadence_due (hcad : s.cadence = false) (hrun : s.restarting = false) (hdue : s.loadDue true = true) :
    onCfgApplyNoCadence s =
      if (s.stopAll [0x0204]).loadDue true then (s.stopAll [0x0204]).applyLoad else s.stopAll [0x0204] :=
  if_neg (by simp [hcad, hrun, hdue])

theorem State.applyLoad_taken (h : s.roleBlocked = false) : s.applyLoad = s.takeStream := if_neg (by simp [h])

/-- A load of another role outside P2 Dark whose APPLY is gone goes back to VERIFIED. -/
theorem State.applyLoad_blocked (h : s.roleBlocked = true) (hgone : s.cfg.apply = none) :
    s.applyLoad = State.cfgErr { s.setFld CFG_STATUS.STAGE sgVerified with
      cfg := { s.cfg with apply := none, startAt := none, taken := false } } 0x0212 := by
  rw [State.applyLoad, if_pos h, hgone]
  rfl

/-! ### CMD_CFG_SVN_RAISE (R72) -/

theorem onCmdCfgSvnRaise_none (h : s.cmd q tag 0x0205 = none) : onCmdCfgSvnRaise q tag s = s := by
  rw [onCmdCfgSvnRaise, h]

/-- The state with a minimum fused. -/
def State.svnFused (s : State) (v : Nat) : State := { s.setFld CFG_SVN.MIN v with fuses := { s.fuses with svn := v } }

theorem onCmdCfgSvnRaise_started (h : s.cmd q tag 0x0205 = some c) : onCmdCfgSvnRaise q tag s =
    if c.opnd 32 1 < s.fuses.svn ∨ s.fld CFG_SVN.CUR < c.opnd 32 1 then s.cfgFinish c 0x0213
    else (s.svnFused (c.opnd 32 1)).cfgFinish c stOk := by
  rw [onCmdCfgSvnRaise, h]
  rfl

/-! ### Automatic loading (R91, R92) -/

/-- The state with automatic loading over. -/
def State.autoOver (s : State) : State := { s with cfg := { s.cfg with auto := false } }

/-- The state with the active slot's bit-stream staged by automatic loading, and the status of that. -/
def State.autoStaged (s : State) : State × Nat := s.autoOver.stageSlot (s.fld FWU_STATUS.ACTIVE - 1)

/-- The state with a stage PENDING that no command applies. -/
def State.autoPending (s : State) : State :=
  { s.setFld CFG_STATUS.STAGE sgPending with cfg := { s.cfg with apply := none, startAt := none, taken := false } }

theorem State.stage_autoPending : s.autoPending.stage = sgPending := State.stage_setFld sgPending

theorem onCfgAutoload_still (h : s.cfg.auto = false ∨ s.assist 1 = true ∨ s.restarting = true ∨
    s.flag CFG_STATUS.IN_FORCE = true ∨ s.stageBusy = true) : onCfgAutoload s = s := by
  refine if_neg ?_
  rintro ⟨hauto, hhw, hrun, hnone, hfree⟩
  simp [hauto, hhw, hrun, hnone, hfree] at h

section Auto
variable (hauto : s.cfg.auto = true) (hhw : s.assist 1 = false) (hrun : s.restarting = false)
  (hnone : s.flag CFG_STATUS.IN_FORCE = false) (hfree : s.stageBusy = false)
include hauto hhw hrun hnone hfree

/-- Automatic loading runs once: a slot without a stream ends it, then what cannot be staged, then a check that fails. -/
theorem onCfgAutoload_once : onCfgAutoload s =
    if s.fld FWU_STATUS.ACTIVE = 0 ∨ (s.autoOver.slotStream (s.fld FWU_STATUS.ACTIVE - 1)).length = 0 then s.autoOver
    else if s.autoStaged.2 ≠ stOk then s.autoStaged.1.rejectStage s.autoStaged.2
    else if s.autoStaged.1.runVerify.2.1 ≠ stOk then s.autoStaged.1.runVerify.1.cfgErr s.autoStaged.1.runVerify.2.1
    else s.autoStaged.1.runVerify.1.autoPending :=
  if_pos ⟨hauto, by simp [hhw], by simp [hrun], by simp [hnone], by simp [hfree]⟩

theorem onCfgAutoload_stream (hactive : s.fld FWU_STATUS.ACTIVE ≠ 0)
    (hstream : (s.autoOver.slotStream (s.fld FWU_STATUS.ACTIVE - 1)).length ≠ 0) : onCfgAutoload s =
    if s.autoStaged.2 ≠ stOk then s.autoStaged.1.rejectStage s.autoStaged.2
    else if s.autoStaged.1.runVerify.2.1 ≠ stOk then s.autoStaged.1.runVerify.1.cfgErr s.autoStaged.1.runVerify.2.1
    else s.autoStaged.1.runVerify.1.autoPending := by
  rw [onCfgAutoload_once hauto hhw hrun hnone hfree, if_neg (not_or.mpr ⟨hactive, hstream⟩)]

end Auto

/-! ### The commands -/

section Awake
variable (hawake : s.awake = true)
include hawake

theorem exec_cmdCfgApply : exec (.cmdCfgApply q tag) s = .next (onCmdCfgApply q tag s) :=
  congrArg _ (State.guarded_of_awake _ hawake)

theorem exec_cfgApplyNoCadence : exec .cfgApplyNoCadence s = .next (onCfgApplyNoCadence s) :=
  congrArg _ (State.guarded_of_awake _ hawake)

theorem exec_cmdCfgSvnRaise : exec (.cmdCfgSvnRaise q tag) s = .next (onCmdCfgSvnRaise q tag s) :=
  congrArg _ (State.guarded_of_awake _ hawake)

theorem exec_cfgAutoload : exec .cfgAutoload s = .next (onCfgAutoload s) := congrArg _ (State.guarded_of_awake _ hawake)

end Awake

end Applying

/-- Settles O40: STAGE and the role decide what CMD_CFG_APPLY does; a load that is due takes effect unless its APPLY is stopped
first (log entries 33 and 129); automatic loading runs once, to the first step of it that fails. -/
theorem applyingAndSvn : Obligations.ApplyingAndSvn := by
  unfold Obligations.ApplyingAndSvn
  intro s q tag hawake
  rw [exec_cmdCfgApply hawake, exec_cfgApplyNoCadence hawake, exec_cmdCfgSvnRaise hawake, exec_cfgAutoload hawake]
  refine ⟨fun hnone => ?_, fun c hc => ⟨fun hstage => ?_, fun hstage hrole => ?_, fun hstage hrole => ?_⟩,
    fun hcad hrun hpending => ⟨fun hpast => ?_, fun t hstart hearly => ?_⟩, fun h => ?_, State.applyLoad_taken,
    State.applyLoad_blocked, fun hnone => ?_, fun c hc => ⟨fun hbad => ?_, fun hleast hmost => ?_⟩, fun h => ?_,
    fun hauto hhw hrun hnone hfree => ?_⟩
  · rw [onCmdCfgApply_none hnone]
  · rw [onCmdCfgApply_started hc, if_pos hstage]
  · rw [onCmdCfgApply_started hc, if_neg (not_not.mpr hstage), if_pos hrole]
  · rw [onCmdCfgApply_started hc, if_neg (not_not.mpr hstage), if_neg (by simp [hrole])]
    exact ⟨_, rfl, State.stage_applyPending, rfl, rfl, fun a rst ha => State.word_applyPending_ne rst ha, rfl⟩
  · have hdue : s.loadDue true = true := State.loadDue_true.mpr ⟨hpending, hpast⟩
    rw [onCfgApplyNoCadence_due hcad hrun hdue]
    refine ⟨fun hstill => by rw [if_pos hstill], fun hstopped => by rw [if_neg (by simp [hstopped])], fun hnoabort => ?_⟩
    rw [State.stopAll_unaborted (by simpa using hnoabort), if_pos hdue]
  · have hnot : s.loadDue true = false := by
      refine Bool.eq_false_iff.mpr fun hdue => ?_
      have := (State.loadDue_true.mp hdue).2 t hstart
      omega
    rw [onCfgApplyNoCadence_still (.inr (.inr hnot))]
  · rw [onCfgApplyNoCadence_still]
    refine h.imp_right (Or.imp_right fun hstage => Bool.eq_false_iff.mpr fun hdue => ?_)
    exact hstage (State.loadDue_true.mp hdue).1
  · rw [onCmdCfgSvnRaise_none hnone]
  · rw [onCmdCfgSvnRaise_started hc, if_pos hbad]
  · rw [onCmdCfgSvnRaise_started hc, if_neg (by omega)]
    exact ⟨_, rfl, rfl⟩
  · rw [onCfgAutoload_still h]
  · refine ⟨fun hempty => ?_, fun hactive hstream => ?_⟩
    · exact congrArg _ ((onCfgAutoload_once hauto hhw hrun hnone hfree).trans (if_pos hempty))
    · have hloads := onCfgAutoload_stream hauto hhw hrun hnone hfree hactive hstream
      refine ⟨fun hunstaged => ?_, fun hstaged hfailed => ?_, fun hstaged hsound => ?_⟩
      · exact congrArg _ (hloads.trans (if_pos hunstaged))
      · exact congrArg _ (hloads.trans ((if_neg (not_not.mpr hstaged)).trans (if_pos hfailed)))
      · have hpending := hloads.trans ((if_neg (not_not.mpr hstaged)).trans (if_neg (not_not.mpr hsound)))
        exact ⟨_, congrArg _ hpending, State.stage_autoPending, rfl, rfl⟩

end Sys2Proof.Machine

/-! THEOREMS. SDI receivers and source frames (R98 to R101, R111 to R114, R147, R402). -/

namespace Sys2Proof.Machine

section Sources
variable {s t : State} {k l n : Nat}

/-! ### Sources -/

@[simp] theorem State.source_setSource_same (k : Nat) (x : Feed) : (s.setSource k x).source k = x := by
  simp only [State.source, State.setSource, Sparse.get, Sparse.find_set_self, Option.getD_some]

@[simp] theorem State.source_setIngLayer (x : IngLayer) : (s.setIngLayer l x).source k = s.source k := rfl

/-- An event touches no source. -/
theorem State.source_raise {code : Nat} {fs : List ByteField} (h : ∀ f ∈ fs, 16 ≤ f.1 ∧ f.1 + f.2.1 ≤ 32) :
    (s.raise code fs).source k = s.source k := by
  rw [(State.raise_filed h).rest]
  rfl

theorem State.source_mapFrame_same (k n : Nat) (h : SrcFrame → SrcFrame) :
    (s.mapFrame k n h).source k = { s.source k with frames := (s.source k).frames.modify n h } :=
  State.source_setSource_same _ _

/-- Words of registers as ingest uses them depend on the source's use and the register alone. -/
theorem State.ingWord_congr {a rst src : Nat} (hing : t.ing = s.ing) (hword : t.word a rst = s.word a rst) :
    t.ingWord a rst src = s.ingWord a rst src := by
  have huse : t.inUse src = s.inUse src := by
    unfold State.inUse State.layersOf State.ingLayer
    rw [hing]
  rw [State.ingWord, State.ingWord, huse, hing, hword]

/-- The group that a receiver leads depends on no register but its ING_SDI_CFG. -/
theorem State.quadOf_congr (hing : t.ing = s.ing) (hword : t.word (ING_SDI_CFG.EN.addr k) 0 = s.word (ING_SDI_CFG.EN.addr k) 0) :
    t.quadOf k = s.quadOf k := by
  rw [State.quadOf, State.ingWord_congr hing hword, State.quadOf]

/-! ### Receivers (R98, R99) -/

section Receiver
variable {i : Fin 32} {std : Fin 256} {f : SdiFormat}

/-- The state with a receiver in lock, its standard byte and whether its format is supported shown. -/
def State.receiverLocked (s : State) (i std : Nat) (f : SdiFormat) : State :=
  ((s.setFlag ING_SDI_STATUS.LOCK true i).setFld ING_SDI_STATUS.STD std i).setFlag ING_SDI_STATUS.FMT_OK
    (sdiSupported f (s.quadOf (s.sdiSource i))) i

theorem State.quadOf_receiverLocked (i std : Nat) : (s.receiverLocked i std f).quadOf k = s.quadOf k := by
  have hne (g : Fld) (hbase : g.base = 0x100204) (hstride : g.stride = 0x10) : ING_SDI_CFG.EN.addr k ≠ g.addr i := by
    simp only [Fld.addr, ING_SDI_CFG.EN, hbase, hstride]
    omega
  refine State.quadOf_congr rfl ?_
  rw [State.receiverLocked, State.setFlag_eq, State.word_setFld_ne _ _ _ (hne _ rfl rfl), State.word_setFld_ne _ _ _ (hne _ rfl rfl),
    State.setFlag_eq, State.word_setFld_ne _ _ _ (hne _ rfl rfl)]

/-- The receivers that feed a source: the four of a group, or one. -/
def sdiLinks (quad : Bool) (g : Nat) : List Nat := if quad then [g, g + 1, g + 2, g + 3] else [g]

/-- With the lock of a receiver every link of its source is in lock at a supported format. -/
def State.linksHold (s : State) (i std : Nat) (f : SdiFormat) : Bool :=
  let u := s.receiverLocked i std f
  sdiSupported f (s.quadOf (s.sdiSource i)) && (sdiLinks (u.quadOf (s.sdiSource i)) (s.sdiSource i)).all fun k =>
    u.flag ING_SDI_STATUS.LOCK k && u.flag ING_SDI_STATUS.FMT_OK k

theorem State.linksHold_eq (i std : Nat) (f : SdiFormat) : s.linksHold i std f =
    (sdiSupported f (s.quadOf (s.sdiSource i)) && (sdiLinks (s.quadOf (s.sdiSource i)) (s.sdiSource i)).all fun k =>
      (s.receiverLocked i std f).flag ING_SDI_STATUS.LOCK k && (s.receiverLocked i std f).flag ING_SDI_STATUS.FMT_OK k) := by
  rw [State.linksHold, State.quadOf_receiverLocked]

/-- The state with a receiver in lock and, once every link holds, the format of its source. -/
def State.formatTaken (s : State) (i std : Nat) (f : SdiFormat) : State :=
  let u := s.receiverLocked i std f
  if s.linksHold i std f then u.setSource (s.sdiSource i) { u.source (s.sdiSource i) with fmt := some f } else u

theorem scan_of_sdiSupported {quad : Bool} (h : sdiSupported f quad = true) : f.scan < 2 := by
  rw [sdiSupported, Bool.and_eq_true] at h
  exact of_decide_eq_true h.1

/-- An interlaced format never reaches the source (R100). -/
theorem State.linksHold_interlaced (i std : Nat) (h : f.scan = 2) : s.linksHold i std f = false := by
  refine Bool.eq_false_iff.mpr fun hheld => ?_
  have := scan_of_sdiSupported (Bool.and_eq_true_iff.mp hheld).1
  omega

theorem onSdiLock_still (h : bits (s.sdiWord i) 0 1 = 0 ∨ s.flag ING_SDI_STATUS.LOCK i = true) : onSdiLock i std f s = s :=
  if_pos h

theorem onSdiLock_locks (hon : bits (s.sdiWord i) 0 1 = 1) (hlock : s.flag ING_SDI_STATUS.LOCK i = false) :
    onSdiLock i std f s =
      if f.scan = 2 then (s.formatTaken i std f).raise 0x0301 [(16, 1, 0), (17, 1, i)] else s.formatTaken i std f := by
  refine (if_neg (by simp [hon, hlock])).trans ?_
  simp only [State.formatTaken, State.linksHold, Bool.and_eq_true]
  rfl

theorem onSdiLockLoss_still (h : s.flag ING_SDI_STATUS.LOCK i = false) : onSdiLockLoss i s = s := if_neg (by simp [h])

theorem onSdiLockLoss_drops (h : s.flag ING_SDI_STATUS.LOCK i = true) : onSdiLockLoss i s = s.sdiDrop i (s.sdiSource i) := if_pos h

/-! ### Ancillary packets (R101) -/

variable {bs : List Byte} {full : Bool}

theorem onAncPacket_still (h : s.flag ING_SDI_STATUS.LOCK i = false ∨ bits (s.sdiWord i) 0 1 = 0 ∨ bits (s.sdiWord i) 3 1 = 0) :
    onAncPacket i bs full s = s := by
  refine if_pos ?_
  rcases h with hlock | hoff | hanc
  · exact .inr (.inr (by simp [hlock]))
  · exact .inl hoff
  · exact .inr (.inl hanc)

theorem onAncPacket_copied (hlock : s.flag ING_SDI_STATUS.LOCK i = true) (hon : bits (s.sdiWord i) 0 1 = 1)
    (hanc : bits (s.sdiWord i) 3 1 = 1) :
    onAncPacket i bs full s = if full then s.bump ING_SDI_ANC.ANC_LOST i else s.emit (.ancillary i bs) :=
  if_neg (by simp [hlock, hon, hanc])

end Receiver

/-! ### A source frame starts (R114, R147) -/

section Frames
variable {j : Fin 96} {rows : List (List Nat)} {crc ovf : Nat} {g : SrcFrame} {gs : List SrcFrame}

/-- The frame that a receiver begins at a format, with the rows that it will hold. -/
def State.receiverFrame (s : State) (j : Nat) (f : SdiFormat) (rows : List (List Nat)) : SrcFrame :=
  ⟨0, s.now, f.width, f.height, f.full, f.rgb, f.deep, decide (bits (s.sdiWord j) 4 1 = 1), 0,
    rows.zipIdx.map (fun r => (r.2, r.1.map some)), false, false⟩

/-- The state with the frame of a receiver opened; the frame of a flow was opened by its first packet. -/
def State.frameBegun (s : State) (j : Nat) (rows : List (List Nat)) : State :=
  if j < 32 then
    match (s.source j).fmt with
    | some f => s.openFrame j (s.receiverFrame j f rows)
    | none => s
  else s

theorem State.frameBegun_flow (h : 32 ≤ k) : s.frameBegun k rows = s := if_neg (by omega)

theorem State.frameBegun_unlocked (h : (s.source k).fmt = none) : s.frameBegun k rows = s := by
  rw [State.frameBegun, h]
  exact ite_self s

theorem State.frameBegun_receiver {f : SdiFormat} (h : k < 32) (hfmt : (s.source k).fmt = some f) :
    s.frameBegun k rows = s.openFrame k (s.receiverFrame k f rows) := by
  rw [State.frameBegun, if_pos h, hfmt]

/-- The state with the start of a source's newest frame reported: to FN_TIM where the source is that of the cadence. -/
def State.startReported (s : State) (j : Nat) (g : SrcFrame) : State :=
  let u := s.setSource j { s.source j with reported := true }
  if (s.ingLayer (s.fld ING_CADENCE.LAYER)).source = some j then
    { u with key := { s.key with stamp := some g.stamp, stamps := (g.stamp :: s.key.stamps).take 3 } }
  else u

/-- A layer in SLICE mode begins its picture of a frame unless one has begun in the wall frame. -/
def State.sliceBegun (g : SrcFrame) (before : Option SrcFrame) (s : State) (l : Nat) : State :=
  if s.encodes l ∧ bits (s.ingLayer l).word 3 1 = 1 ∧ ! (s.encLayer l).opened then s.openPicture l (some g) before true else s

/-- The state with the start of a source's newest frame reported, unless it has been, and the pictures begun that read it. -/
def State.newestReported (s : State) (j : Nat) : State :=
  match (s.source j).frames.head? with
  | none => s
  | some g => if (s.source j).reported then s else
    ((s.startReported j g).layersOf j).foldl (State.sliceBegun g ((s.source j).frames.find? (·.whole))) (s.startReported j g)

theorem onSourceFrameStart_eq : onSourceFrameStart j rows s = (s.frameBegun j rows).newestReported j := rfl

/-- A source without a frame, or whose newest frame's start has been reported. -/
theorem State.newestReported_still (h : (s.source k).frames = [] ∨ (s.source k).reported = true) : s.newestReported k = s := by
  unfold State.newestReported
  split
  case h_1 => rfl
  case h_2 g hg =>
    refine if_pos (h.resolve_left fun hnone => ?_)
    rw [hnone] at hg
    cases hg

theorem State.newestReported_new (hframes : (s.source k).frames = g :: gs) (hnew : (s.source k).reported = false) :
    s.newestReported k =
      ((s.startReported k g).layersOf k).foldl (State.sliceBegun g ((s.source k).frames.find? (·.whole))) (s.startReported k g) := by
  rw [State.newestReported, hframes]
  exact if_neg (by simp [hnew])

/-! ### A source frame completes (R112, R402) -/

/-- The frames of a source above its newest complete one. -/
def Feed.pending (x : Feed) : List SrcFrame := x.frames.takeWhile (! ·.whole)

/-- A frame of source `j` that may become complete: all its samples are there, and a flow's marker has closed it. -/
def SrcFrame.ready (j : Nat) (g : SrcFrame) : Bool := g.full' && (decide (j < 32) || g.closed)

theorem SrcFrame.ready_iff (j : Nat) (g : SrcFrame) : g.ready j = true ↔ g.full' = true ∧ (j < 32 ∨ g.closed = true) := by
  rw [SrcFrame.ready, Bool.and_eq_true, Bool.or_eq_true, decide_eq_true_iff]

/-- The state with the CRC errors of a receiver's lines counted. -/
def State.crcCounted (s : State) (j crc : Nat) : State := if j < 32 then s.bump ING_SDI_STATUS.CRC_ERR j crc else s

theorem State.source_crcCounted (j crc : Nat) : (s.crcCounted j crc).source k = s.source k := by
  unfold State.crcCounted
  split <;> rfl

theorem onSourceFrameComplete_still (h : (s.source j).pending = []) : onSourceFrameComplete j crc ovf s = s := if_pos h

theorem onSourceFrameComplete_overflow (h : (s.source j).pending ≠ []) (hovf : 0 < ovf) : onSourceFrameComplete j crc ovf s =
    ((s.crcCounted j crc).bump MEM_PORT_STAT.OVERFLOW 0 ovf).mapFrame j 0 fun g => { g with closed := true, rows := [] } :=
  (if_neg h).trans (if_pos hovf)

theorem onSourceFrameComplete_open (h : (s.source j).pending ≠ []) (hnone : (s.source j).pending.findIdx? (·.ready j) = none) :
    onSourceFrameComplete j crc 0 s = s.crcCounted j crc := by
  refine (if_neg h).trans ((if_neg (lt_irrefl 0)).trans ?_)
  split
  case h_1 n hn => cases hn.symm.trans hnone
  case h_2 => rfl

theorem onSourceFrameComplete_whole (h : (s.source j).pending.findIdx? (·.ready j) = some n) :
    onSourceFrameComplete j crc 0 s = (s.crcCounted j crc).frameWhole j n := by
  have hsome : (s.source j).pending ≠ [] := fun hnone => by rw [hnone] at h; cases h
  refine (if_neg hsome).trans ((if_neg (lt_irrefl 0)).trans ?_)
  split
  case h_1 m hm => rw [Option.some.inj (h.symm.trans hm)]; rfl
  case h_2 hnone => cases hnone.symm.trans h

/-- A source after a frame of it has become complete: the frame is numbered, and the source no longer lost. -/
theorem State.source_frameWhole (k n : Nat) : (s.frameWhole k n).source k = { s.source k with
    frames := (s.source k).frames.modify n fun f => { f with closed := true, whole := true, num := (s.source k).next }
    next := (s.source k).next + 1, lost := false } := by
  unfold State.frameWhole
  dsimp only
  refine List.foldlRecOn (motive := fun t : State => t.source k = _) _ _ ?_ fun t ht l _ => ?_
  · rw [State.source_mapFrame_same, State.source_setSource_same]
  · split
    · rw [State.source_raise (by simp), State.source_setIngLayer, ht]
    · exact ht

end Frames

/-! ### The commands -/

section Awake
variable (hawake : s.awake = true)
include hawake

theorem exec_sdiLock (i : Fin 32) (std : Fin 256) (f : SdiFormat) : exec (.sdiLock i std f) s = .next (onSdiLock i std f s) :=
  congrArg _ (State.guarded_of_awake _ hawake)

theorem exec_sdiLockLoss (i : Fin 32) : exec (.sdiLockLoss i) s = .next (onSdiLockLoss i s) :=
  congrArg _ (State.guarded_of_awake _ hawake)

theorem exec_ancPacket (i : Fin 32) (bs : List Byte) (full : Bool) :
    exec (.ancPacket i bs full) s = .next (onAncPacket i bs full s) := congrArg _ (State.guarded_of_awake _ hawake)

theorem exec_sourceFrameStart (j : Fin 96) (rows : List (List Nat)) :
    exec (.sourceFrameStart j rows) s = .next (onSourceFrameStart j rows s) := congrArg _ (State.guarded_of_awake _ hawake)

theorem exec_sourceFrameComplete (j : Fin 96) (crc ovf : Nat) :
    exec (.sourceFrameComplete j crc ovf) s = .next (onSourceFrameComplete j crc ovf s) :=
  congrArg _ (State.guarded_of_awake _ hawake)

end Awake

end Sources

/-- Settles O41: a receiver that locks shows it and hands on its format once every link holds; a frame that starts is reported from the
state that opened it; of the frames above the complete one the first ready in order becomes complete, or the CRC errors count. -/
theorem sdiSources : Obligations.SdiSources := by
  unfold Obligations.SdiSources
  intro s i j std f bs full rows crc ovf hawake
  refine ⟨fun hstill => ?_, fun hon hlock => ?_, fun hlock => ?_, fun hlock => ?_, fun hlock hon hanc => ⟨?_, ?_⟩, fun hstill => ?_,
    ⟨s.frameBegun j rows, State.frameBegun_flow, fun hj hfmt => ?_, fun g hj hfmt => ?_, fun hquiet => ?_,
      fun g gs hframes hnew => ⟨(s.frameBegun j rows).startReported j g, fun hkey => if_pos hkey, fun hkey => if_neg hkey, ?_⟩⟩,
    fun hnone => ?_, fun hsome hovf => ?_, fun hsome hopen => ?_, fun n hn hfull hclosed hfirst => ?_⟩
  · rw [exec_sdiLock hawake, onSdiLock_still hstill]
  · rw [exec_sdiLock hawake, onSdiLock_locks hon hlock]
    refine ⟨fun hheld => ?_, fun hnot hscan => ?_, fun hscan => ?_⟩
    · have hscan := scan_of_sdiSupported (Bool.and_eq_true_iff.mp hheld).1
      rw [if_neg (by omega)]
      exact congrArg _ (if_pos ((State.linksHold_eq i std f).trans hheld))
    · rw [if_neg hscan]
      exact congrArg _ (if_neg (Bool.eq_false_iff.mp ((State.linksHold_eq i std f).trans hnot)))
    · rw [if_pos hscan]
      exact congrArg (fun u : State => Host.Outcome.next (u.raise _ _))
        (if_neg (Bool.eq_false_iff.mp (State.linksHold_interlaced i std hscan)))
  · rw [exec_sdiLockLoss hawake, onSdiLockLoss_still hlock]
  · rw [exec_sdiLockLoss hawake, onSdiLockLoss_drops hlock]
    rfl
  · rw [exec_ancPacket hawake, onAncPacket_copied hlock hon hanc, if_pos rfl]
  · rw [exec_ancPacket hawake, onAncPacket_copied hlock hon hanc, if_neg Bool.false_ne_true]
  · rw [exec_ancPacket hawake, onAncPacket_still hstill]
  · exact State.frameBegun_unlocked hfmt
  · exact State.frameBegun_receiver hj hfmt
  · rw [exec_sourceFrameStart hawake, onSourceFrameStart_eq, State.newestReported_still hquiet]
  · rw [exec_sourceFrameStart hawake, onSourceFrameStart_eq, State.newestReported_new hframes hnew]
    rfl
  · rw [exec_sourceFrameComplete hawake, onSourceFrameComplete_still hnone]
  · rw [exec_sourceFrameComplete hawake, onSourceFrameComplete_overflow hsome hovf]
    rfl
  · rw [exec_sourceFrameComplete hawake, onSourceFrameComplete_open hsome]
    · rfl
    · refine List.findIdx?_eq_none_iff.mpr fun g hg => Bool.eq_false_iff.mpr fun hready => ?_
      obtain ⟨hfull, hclosed⟩ := (SrcFrame.ready_iff j g).mp hready
      exact hopen g hg hfull hclosed
  · have hfound : (s.source j).pending.findIdx? (·.ready j) = some n :=
      List.findIdx?_eq_some_iff_getElem.mpr ⟨hn, (SrcFrame.ready_iff j _).mpr ⟨hfull, hclosed⟩,
        fun m hm => fun hready => hfirst m hm ((SrcFrame.ready_iff j _).mp hready)⟩
    have hsource := State.source_frameWhole (s := s.crcCounted j crc) j n
    rw [State.source_crcCounted] at hsource
    refine ⟨?_, (congrArg Feed.lost hsource :), (congrArg Feed.next hsource :)⟩
    rw [exec_sourceFrameComplete hawake, onSourceFrameComplete_whole hfound]
    rfl

end Sys2Proof.Machine

/-! THEOREMS. Flows, joins, ARP and PTP (R103 to R107, R109, R111, R118). -/

namespace Sys2Proof.Machine

section Network
variable {s : State} {e : Fin 8} {k : Fin 64} {p : EthPacket} {n : Nat} {f : SrcFrame} {fs : List SrcFrame}

/-! ### Packets of a port (R104) -/

/-- The flows that a packet of a port goes to. -/
def State.flowsOf (s : State) (e : Nat) (p : EthPacket) : List Nat :=
  if p.ipv6 ∨ p.options then [] else (List.range 64).filter (s.flowTakes e p)

theorem State.flowsOf_plain {e : Nat} (hv6 : p.ipv6 = false) (hopt : p.options = false) :
    s.flowsOf e p = (List.range 64).filter (s.flowTakes e p) := if_neg (by simp [hv6, hopt])

theorem State.flowsOf_eq_nil {e : Nat} (h : p.ipv6 = true ∨ p.options = true ∨ ∀ n < 64, s.flowTakes e p n = false) :
    s.flowsOf e p = [] := by
  by_cases hbad : p.ipv6 = true ∨ p.options = true
  · exact if_pos hbad
  · refine (if_neg hbad).trans (List.filter_eq_nil_iff.mpr fun n hn => ?_)
    have hnone := ((or_assoc.mpr h).resolve_left hbad) n (List.mem_range.mp hn)
    exact Bool.eq_false_iff.mp hnone

theorem onEthPacket_off (h : bits (s.ethWord e) 0 1 = 0) : onEthPacket e p s = s := if_pos h

theorem onEthPacket_on (h : bits (s.ethWord e) 0 1 = 1) : onEthPacket e p s =
    if s.flowsOf e p = [] then s.bump ING_ETH_DROP.DROP e else (s.flowsOf e p).foldl (fun t n => t.flowPacket p n) s :=
  if_neg (by omega)

/-! ### A packet of a flow (R103, R104) -/

theorem State.flowPacket_refusedAgain (hfields : p.fields = true) (hrefused : (s.source (32 + n)).refused = true) :
    s.flowPacket p n = s := (if_pos hfields).trans (if_pos hrefused)

theorem State.flowPacket_refused (hfields : p.fields = true) (hfirst : (s.source (32 + n)).refused = false) :
    s.flowPacket p n =
      (s.setSource (32 + n) { s.source (32 + n) with refused := true }).raise 0x0301 [(16, 1, 1), (17, 1, n)] :=
  (if_pos hfields).trans (if_neg (by simp [hfirst]))

theorem State.flowPacket_progressive (h : p.fields = false) : s.flowPacket p n =
    (s.setSource (32 + n) { s.source (32 + n) with refused := false, lastSeen := s.clock }).placePacket n p := if_neg (by simp [h])

/-- A timestamp comes after that of a frame: by less than half the range of timestamps (log entry 132). -/
abbrev SrcFrame.before (f : SrcFrame) (t : Nat) : Prop := 0 < sInt 32 (uNat 32 ((t : Int) - f.time))

theorem SrcFrame.not_before_own (f : SrcFrame) : ¬ f.before f.time := by
  rw [SrcFrame.before, Int.sub_self]
  decide

/-- A frame of a flow takes the samples of a packet: it is open and has the packet's timestamp. -/
def SrcFrame.takes (p : EthPacket) (f : SrcFrame) : Bool := f.time = p.time.toNat && ! f.closed

theorem State.source_openFrame_frames (i : Nat) (f : SrcFrame) :
    ((s.openFrame i f).source i).frames = f :: keptFrames (s.source i).frames := by
  rw [State.openFrame, State.source_setSource_same]

/-- The state in which a packet finds its frame: a later timestamp has opened one. -/
def State.flowOpened (s : State) (n : Nat) (p : EthPacket) : State :=
  if (s.source (32 + n)).frames.head?.all fun f => decide (f.before p.time.toNat) then
    s.openFrame (32 + n) (s.flowFrame n p.time.toNat)
  else s

theorem State.flowOpened_later (h : (s.source (32 + n)).frames = [] ∨ ∃ f fs, (s.source (32 + n)).frames = f :: fs ∧
    f.before p.time.toNat) : s.flowOpened n p = s.openFrame (32 + n) (s.flowFrame n p.time.toNat) := by
  refine if_pos ?_
  rcases h with hnone | ⟨f, fs, hframes, hlater⟩
  · rw [hnone]
    rfl
  · rw [hframes]
    exact decide_eq_true hlater

theorem State.flowOpened_same (hframes : (s.source (32 + n)).frames = f :: fs) (h : ¬ f.before p.time.toNat) :
    s.flowOpened n p = s := by
  refine if_neg ?_
  rw [hframes]
  exact fun hlater => h (of_decide_eq_true hlater)

/-- The newest frame takes the packet. -/
theorem State.placePacket_newest (hframes : ((s.flowOpened n p).source (32 + n)).frames = f :: fs) (h : f.takes p = true) :
    s.placePacket n p = (s.flowOpened n p).mapFrame (32 + n) 0 fun f => { placeRows f p with closed := p.marker } := by
  have hfound : ((s.flowOpened n p).source (32 + n)).frames.findIdx? (·.takes p) = some 0 := by
    rw [hframes, List.findIdx?_cons, if_pos h]
  unfold State.placePacket
  dsimp only
  split
  case h_1 m hm => rw [Option.some.inj (hfound.symm.trans hm)]; rfl
  case h_2 hnone => cases hnone.symm.trans hfound

/-- No frame takes the packet. -/
theorem State.placePacket_tooLate (h : ∀ f ∈ ((s.flowOpened n p).source (32 + n)).frames, f.takes p = false) :
    s.placePacket n p = s.flowOpened n p := by
  have hnone : ((s.flowOpened n p).source (32 + n)).frames.findIdx? (·.takes p) = none := List.findIdx?_eq_none_iff.mpr h
  unfold State.placePacket
  dsimp only
  split
  case h_1 m hm => cases hm.symm.trans hnone
  case h_2 => rfl

/-! ### Timeouts (R111) -/

theorem onFlowTimeout_lost (hperiod : 0 < (s.source (32 + k)).period)
    (hlate : (s.source (32 + k)).lastSeen + 2 * (s.source (32 + k)).period ≤ s.clock) :
    onFlowTimeout k s = s.sourceLost (32 + k) := if_pos ⟨hperiod, hlate⟩

theorem onFlowTimeout_still (h : (s.source (32 + k)).period = 0 ∨
    s.clock < (s.source (32 + k)).lastSeen + 2 * (s.source (32 + k)).period) : onFlowTimeout k s = s :=
  if_neg fun hdue => by omega

/-! ### Joins and ARP (R105) -/

theorem onIgmpJoin_still (h : s.assist 3 = true ∨ s.restarting = true ∨
    s.flag ING_FLOW_CFG.EN k = decide (k.val ∈ s.ing.joined)) : onIgmpJoin k s = s := if_pos h

section Firmware
variable (hhw : s.assist 3 = false) (hrun : s.restarting = false)
include hhw hrun

theorem onIgmpJoin_joins (hon : s.flag ING_FLOW_CFG.EN k = true) (hnew : k.val ∉ s.ing.joined) : onIgmpJoin k s =
    State.emit { s with ing := { s.ing with joined := k.val :: s.ing.joined } }
      (.igmp (s.fld ING_FLOW_CFG.PORT k) (s.fld ING_FLOW_DST.DST_IP k) (s.fld ING_FLOW_SRC.SRC_IP k) false) := by
  refine (if_neg (by simp [hhw, hrun, hon, hnew])).trans ?_
  rw [hon]
  rfl

theorem onIgmpJoin_leaves (hoff : s.flag ING_FLOW_CFG.EN k = false) (hold : k.val ∈ s.ing.joined) : onIgmpJoin k s =
    State.emit { s with ing := { s.ing with joined := s.ing.joined.filter (· ≠ k.val) } }
      (.igmp (s.fld ING_FLOW_CFG.PORT k) (s.fld ING_FLOW_DST.DST_IP k) (s.fld ING_FLOW_SRC.SRC_IP k) true) := by
  refine (if_neg (by simp [hhw, hrun, hoff, hold])).trans ?_
  rw [hoff]
  rfl

end Firmware

/-- Outputs that what has left before does not change leave one after another. -/
theorem State.foldl_emit {g : State → Nat → Output} (hg : ∀ t o n, g (State.emit t o) n = g t n) (ns : List Nat) (s : State) :
    ns.foldl (fun t n => t.emit (g t n)) s = { s with out := (ns.map (g s)).reverse ++ s.out } := by
  induction ns generalizing s with
  | nil => rfl
  | cons n ns ih =>
    have hrest : g (s.emit (g s n)) = g s := funext fun m => hg s _ m
    rw [List.foldl_cons, ih, hrest]
    simp [State.emit]

theorem onIgmpQuery_still (h : s.assist 3 = true ∨ s.restarting = true) : onIgmpQuery e s = s := if_pos h

theorem onIgmpQuery_repeats (hhw : s.assist 3 = false) (hrun : s.restarting = false) : onIgmpQuery e s =
    { s with out := ((s.ing.joined.filter fun k => s.fld ING_FLOW_CFG.PORT k = e.val).map fun k =>
      Output.igmp e (s.fld ING_FLOW_DST.DST_IP k) (s.fld ING_FLOW_SRC.SRC_IP k) false).reverse ++ s.out } :=
  (if_neg (by simp [hhw, hrun])).trans (State.foldl_emit (g := fun t k =>
    .igmp e (t.fld ING_FLOW_DST.DST_IP k) (t.fld ING_FLOW_SRC.SRC_IP k) false) (fun _ _ _ => rfl) _ s)

theorem onArpRequest_still {ip : Nat}
    (h : s.restarting = true ∨ s.flag ING_ETH_CFG.EN e = false ∨ ip ≠ s.fld ING_ETH_IP.IP e ∨ ip = 0) : onArpRequest e ip s = s :=
  if_pos (h.imp_right (Or.imp_left fun hoff => by simp [hoff]))

theorem onArpRequest_answered {ip : Nat} (hrun : s.restarting = false) (hon : s.flag ING_ETH_CFG.EN e = true)
    (hown : ip = s.fld ING_ETH_IP.IP e) (hip : ip ≠ 0) : onArpRequest e ip s = s.emit (.arpReply e ip) :=
  if_neg (by simp [hrun, hon, ← hown, hip])

/-! ### PTP (R106) -/

section Ptp
variable {m : PtpMsg} {x : PtpTrip}

theorem onPtpMessage_ignored (h : s.restarting = true ∨ s.flag ING_ETH_CFG.EN e = false ∨ m.domain ≠ 127) :
    onPtpMessage e m s = s := if_pos (h.imp_right (Or.imp_left fun hoff => by simp [hoff]))

section Heard
variable (hrun : s.restarting = false) (hon : s.flag ING_ETH_CFG.EN e = true) (hdomain : m.domain = 127)
include hrun hon hdomain

theorem onPtpMessage_syncTwoStep (hkind : m.kind = .sync true) : onPtpMessage e m s =
    { s with ing := { s.ing with trip := some ⟨e, m.seq.toNat, none, s.ing.ptp - m.corr * (3 * 2 ^ 24), 0, none⟩ } } := by
  refine (if_neg (by simp [hrun, hon, hdomain])).trans ?_
  rw [hkind]
  rfl

theorem onPtpMessage_sync (hkind : m.kind = .sync false) :
    onPtpMessage e m s = s.delayReq ⟨e, m.seq.toNat, some (ptpUnits m 1), s.ing.ptp, 0, none⟩ := by
  refine (if_neg (by simp [hrun, hon, hdomain])).trans ?_
  rw [hkind]
  change s.delayReq ⟨e, m.seq.toNat, some (ptpUnits m 1), s.ing.ptp - 0, 0, none⟩ = _
  rw [Int.sub_zero]

theorem onPtpMessage_followUp (hkind : m.kind = .followUp) (htrip : s.ing.trip = some x) : onPtpMessage e m s =
    if x.port = e.val ∧ x.seq = m.seq.toNat ∧ x.t1.isNone then s.delayReq { x with t1 := some (ptpUnits m 1) } else s := by
  refine (if_neg (by simp [hrun, hon, hdomain])).trans ?_
  rw [hkind, htrip]

theorem onPtpMessage_delayResp (hkind : m.kind = .delayResp) (htrip : s.ing.trip = some x) {t1 t3 : Int} (ht1 : x.t1 = some t1)
    (ht3 : x.t3 = some t3) : onPtpMessage e m s =
      if x.port = e.val ∧ x.req = m.seq.toNat then
        State.ptpOffset { s with ing := { s.ing with trip := none } } (((x.t2 - t1) - (ptpUnits m (-1) - t3)) / 2)
      else s := by
  refine (if_neg (by simp [hrun, hon, hdomain])).trans ?_
  rw [hkind, htrip]
  dsimp only
  rw [ht1, ht3]

/-- Without an exchange there is nothing to follow up and nothing to end. -/
theorem onPtpMessage_noTrip (hkind : m.kind = .followUp ∨ m.kind = .delayResp) (htrip : s.ing.trip = none) :
    onPtpMessage e m s = s := by
  refine (if_neg (by simp [hrun, hon, hdomain])).trans ?_
  rcases hkind with hkind | hkind <;> rw [hkind, htrip]

end Heard

theorem State.ptpOffset_first (off : Int) (h : s.ing.ptpSet = false) :
    s.ptpOffset off = { s with ing := { s.ing with ptpSet := true, ptp := ((s.ing.ptp : Int) - off).toNat } } :=
  if_pos (by simp [h])

theorem State.ptpOffset_later (off : Int) (h : s.ing.ptpSet = true) : s.ptpOffset off =
    if s.assist 4 then s else State.draw { s with ing := { s.ing with ptpRate := sInt 32 s.free } } := if_neg (by simp [h])

end Ptp

/-! ### The commands -/

section Awake
variable (hawake : s.awake = true)
include hawake

theorem exec_ethPacket (e : Fin 8) (p : EthPacket) : exec (.ethPacket e p) s = .next (onEthPacket e p s) :=
  congrArg _ (State.guarded_of_awake _ hawake)

theorem exec_flowTimeout (k : Fin 64) : exec (.flowTimeout k) s = .next (onFlowTimeout k s) :=
  congrArg _ (State.guarded_of_awake _ hawake)

theorem exec_igmpJoin (k : Fin 64) : exec (.igmpJoin k) s = .next (onIgmpJoin k s) := congrArg _ (State.guarded_of_awake _ hawake)

theorem exec_igmpQuery (e : Fin 8) : exec (.igmpQuery e) s = .next (onIgmpQuery e s) :=
  congrArg _ (State.guarded_of_awake _ hawake)

theorem exec_arpRequest (e : Fin 8) (ip : Nat) : exec (.arpRequest e ip) s = .next (onArpRequest e ip s) :=
  congrArg _ (State.guarded_of_awake _ hawake)

theorem exec_ptpMessage (e : Fin 8) (m : PtpMsg) : exec (.ptpMessage e m) s = .next (onPtpMessage e m s) :=
  congrArg _ (State.guarded_of_awake _ hawake)

end Awake

end Network

/-- Settles O42: a packet goes to the flows of `flowsOf`, and in a flow to the newest frame, which a later timestamp has just opened;
the messages of an exchange (log entry 136) are told apart by their kind and by what the exchange holds. -/
theorem networkSources : Obligations.NetworkSources := by
  unfold Obligations.NetworkSources
  intro s e k p ip m hawake
  rw [exec_ethPacket hawake, exec_flowTimeout hawake, exec_igmpJoin hawake, exec_igmpQuery hawake, exec_arpRequest hawake,
    exec_ptpMessage hawake]
  refine ⟨fun hoff => ?_, fun hon => ⟨fun hnone => ?_, fun hv6 hopt hsome => ?_⟩, fun n => ⟨State.flowPacket_refusedAgain,
    State.flowPacket_refused, State.flowPacket_progressive, fun f fs hframes htime hopen => ?_, fun hlater => ?_,
    fun f fs hframes hnot hclosed => ?_⟩, ⟨fun hperiod hlate => ?_, fun hstill => ?_⟩, ⟨fun hstill => ⟨?_, ?_⟩,
    fun hhw hrun => ⟨fun hon hnew => ?_, fun hoff hold => ?_, fun hsame => ?_, ?_⟩⟩, fun hrun hon hown hip => ?_, fun hstill => ?_,
    fun hstill => ?_, fun hrun hon hdomain => ⟨fun hkind => ?_, fun hkind => ?_, fun x htrip hkind => ?_,
    fun x t1 t3 htrip hkind ht1 ht3 => ?_, fun htrip hkind => ?_⟩, fun _ => rfl, fun off => ⟨State.ptpOffset_first off,
    fun hset hassist => ?_, fun hset hhw => ?_⟩⟩
  · rw [onEthPacket_off hoff]
  · rw [onEthPacket_on hon, if_pos (State.flowsOf_eq_nil hnone)]
  · obtain ⟨n, hn, htakes⟩ := hsome
    have hmem : n ∈ s.flowsOf e p := by
      rw [State.flowsOf_plain hv6 hopt]
      exact List.mem_filter.mpr ⟨List.mem_range.mpr hn, htakes⟩
    rw [onEthPacket_on hon, if_neg (List.ne_nil_of_mem hmem), State.flowsOf_plain hv6 hopt]
  · have hsame : s.flowOpened n p = s := State.flowOpened_same hframes (htime ▸ f.not_before_own)
    rw [State.placePacket_newest (by rw [hsame]; exact hframes) (by simp [SrcFrame.takes, htime, hopen]), hsame]
  · have hopened : s.flowOpened n p = s.openFrame (32 + n) (s.flowFrame n p.time.toNat) := State.flowOpened_later hlater
    rw [State.placePacket_newest (by rw [hopened, State.source_openFrame_frames]) (by simp [SrcFrame.takes, State.flowFrame]), hopened]
  · have hsame : s.flowOpened n p = s := State.flowOpened_same hframes hnot
    rw [State.placePacket_tooLate, hsame]
    rw [hsame]
    intro g hg
    by_cases htime : g.time = p.time.toNat
    · simp [SrcFrame.takes, hclosed g hg htime]
    · simp [SrcFrame.takes, htime]
  · rw [onFlowTimeout_lost hperiod hlate]
  · rw [onFlowTimeout_still hstill]
  · rw [onIgmpJoin_still (hstill.imp_right .inl)]
  · rw [onIgmpQuery_still hstill]
  · rw [onIgmpJoin_joins hhw hrun hon hnew]
  · rw [onIgmpJoin_leaves hhw hrun hoff hold]
  · rw [onIgmpJoin_still (.inr (.inr hsame))]
  · rw [onIgmpQuery_repeats hhw hrun]
  · rw [onArpRequest_answered hrun hon hown hip]
  · rw [onArpRequest_still hstill]
  · rw [onPtpMessage_ignored hstill]
  · rw [onPtpMessage_syncTwoStep hrun hon hdomain hkind]
  · rw [onPtpMessage_sync hrun hon hdomain hkind]
  · rw [onPtpMessage_followUp hrun hon hdomain hkind htrip]
    refine ⟨fun hport hseq ht1 => ?_, fun hother => ?_⟩
    · rw [if_pos ⟨hport, hseq, Option.isNone_iff_eq_none.mpr ht1⟩]
    · rw [if_neg (by rwa [Option.isNone_iff_eq_none, not_and_or, not_and_or])]
  · rw [onPtpMessage_delayResp hrun hon hdomain hkind htrip ht1 ht3]
    refine ⟨fun hport hreq => ?_, fun hother => ?_⟩
    · rw [if_pos ⟨hport, hreq⟩]
    · rw [if_neg (by rwa [not_and_or])]
  · rw [onPtpMessage_noTrip hrun hon hdomain hkind htrip]
  · rw [State.ptpOffset_later off hset, if_pos hassist]
  · rw [State.ptpOffset_later off hset, if_neg (by simp [hhw])]

end Sys2Proof.Machine

/-! THEOREMS. Slices, overruns, deadlines, refreshes and clips of the encoder (R113, R116, R145, R148, R150 to R152, R155, R158, R160,
R163, R166 to R168, R404). -/

namespace Sys2Proof.Machine

section Encoder
variable {s : State} {l : Fin 63} {c : Fin 64} {q : Fin 24} {tag row n : Nat} {bl : List (List Bool)} {lost : List Nat}

/-! ### SLICE_ALLOCATE (R150, R152, R163) -/

/-- The picture in progress of a layer as its next slice sees it: its source frame as far as it has come, its settings fixed. -/
def State.sliceView (s : State) (l : Nat) (p : EncPic) : EncPic := s.fixPicture l (if p.slice then s.freshSrc l p else p)

/-- The next slice of column `c` of a picture may be allocated, an encoder and its base aside. -/
def EncStream.mayAllocate (x : EncStream) (p : EncPic) (c written : Nat) : Prop :=
  c < colsOf p.width ∧ x.row < rowsOf p.height ∧ rowsReady p x.row written = true ∧ x.recordKnown p x.row = true

theorem EncStream.not_mayAllocate_iff (x : EncStream) (p : EncPic) (c written : Nat) : ¬ x.mayAllocate p c written ↔
    colsOf p.width ≤ c ∨ rowsOf p.height ≤ x.row ∨ ! rowsReady p x.row written ∨ ! x.recordKnown p x.row := by
  simp only [EncStream.mayAllocate, not_and_or, not_lt, Bool.not_eq_true, Bool.not_eq_true']

/-- The state with the next slice of a column given to an encoder. -/
def State.sliceGiven (s : State) (l c : Nat) (p : EncPic) (f8 enc : Nat) : State :=
  let i := 64 * l + c
  let u := (s.takePicture l p).beginColumn l c p
  (((u.addSlice i (u.newSlice l c p f8 enc) ((u.encStream i).carry.filter (· ≠ (s.encStream i).row))).give
    (enc / 16)).showActive).tryBegin l

theorem onSliceAllocate_noPicture (h : (s.encLayer l).pic = none) : onSliceAllocate l c n s = s := by
  rw [onSliceAllocate, h]

section Picture
variable {p : EncPic} (hpic : (s.encLayer l).pic = some p)
include hpic

theorem onSliceAllocate_notYet (h : ¬ (s.encStream (64 * l + c)).mayAllocate (s.sliceView l p) c n) :
    onSliceAllocate l c n s = s := by
  rw [onSliceAllocate, hpic]
  exact if_pos ((EncStream.not_mayAllocate_iff _ _ _ _).mp h)

/-- No base or no free encoder: the slice waits. -/
theorem onSliceAllocate_waits (h : (s.encStream (64 * l + c)).base = none ∨ s.freeEncoder = none) :
    onSliceAllocate l c n s = s := by
  by_cases hmay : (s.encStream (64 * l + c)).mayAllocate (s.sliceView l p) c n
  · rw [onSliceAllocate, hpic]
    refine (if_neg fun hnot => (EncStream.not_mayAllocate_iff _ _ _ _).mpr hnot hmay).trans ?_
    split
    case h_1 hbase henc =>
      rcases h with hnone | hnone
      · cases hbase.symm.trans hnone
      · cases henc.symm.trans hnone
    case h_2 => rfl
  · exact onSliceAllocate_notYet hpic hmay

theorem onSliceAllocate_given {f8 enc : Nat} (hmay : (s.encStream (64 * l + c)).mayAllocate (s.sliceView l p) c n)
    (hbase : (s.encStream (64 * l + c)).base = some f8) (henc : s.freeEncoder = some enc) :
    onSliceAllocate l c n s = s.sliceGiven l c (s.sliceView l p) f8 enc := by
  rw [onSliceAllocate, hpic]
  refine (if_neg fun hnot => (EncStream.not_mayAllocate_iff _ _ _ _).mpr hnot hmay).trans ?_
  rw [hbase, henc]
  rfl

end Picture

/-! ### SLICE_ENCODE_DONE (R145, R148, R151, R155, R160, R404) -/

/-- The state with slice `k` of a stream changed, and what may go on handed on. -/
def State.slicePut (s : State) (i k : Nat) (x : EncStream) (e : EncSlice) : State :=
  ((s.setEncStream i { x with slices := x.slices.set k e }).showActive).flushStream i

/-- The blocks are a coding of a slice of stream `i`. -/
def EncSlice.codes (e : EncSlice) (i : Nat) (bl : List (List Bool)) : Prop :=
  bl.length = e.n ∧ ¬ (e.intra = true ∧ bl.any refersBack = true) ∧ blocksObey (e.hdr i) ⟨[], 0, 0, 0, false⟩ bl = true

theorem EncSlice.not_codes_iff (e : EncSlice) (i : Nat) : ¬ e.codes i bl ↔
    bl.length ≠ e.n ∨ (e.intra ∧ bl.any refersBack) ∨ ! blocksObey (e.hdr i) ⟨[], 0, 0, 0, false⟩ bl := by
  rw [EncSlice.codes, not_and_or, not_and_or, not_not, Bool.not_eq_true, Bool.not_eq_true']

theorem onSliceEncodeDone_none (h : ∀ e ∈ (s.encStream (64 * l + c)).slices, e.row = row → e.coding = false) :
    onSliceEncodeDone l c row bl lost s = s := by
  have hnone : (s.encStream (64 * l + c)).slices.findIdx? (fun e => decide (e.row = row) && e.coding) = none := by
    refine List.findIdx?_eq_none_iff.mpr fun e he => ?_
    by_cases hrow : e.row = row
    · simp [h e he hrow]
    · simp [hrow]
  rw [onSliceEncodeDone]
  dsimp only
  rw [hnone]

section Coding
variable {k : Nat} {e : EncSlice}
  (hk : (s.encStream (64 * l + c)).slices.findIdx? (fun e => decide (e.row = row) && e.coding) = some k)
  (he : (s.encStream (64 * l + c)).slices[k]? = some e)
include hk he

theorem onSliceEncodeDone_coding : onSliceEncodeDone l c row bl lost s =
    if s.workLost (e.enc / 16) lost ≠ [] then
      (((s.workLost (e.enc / 16) lost).filter fun l => l ∈ s.mem.extBad || ! s.extUp).foldl (fun t l => t.lineUc l 2) s).slicePut
        (64 * l + c) k (s.encStream (64 * l + c)) e.allTail
    else if bl.length ≠ e.n ∨ (e.intra ∧ bl.any refersBack) ∨ ! blocksObey (e.hdr (64 * l + c)) ⟨[], 0, 0, 0, false⟩ bl then s
    else s.slicePut (64 * l + c) k (s.encStream (64 * l + c)) { e with blocks := some bl } := by
  rw [onSliceEncodeDone]
  dsimp only
  rw [hk]
  dsimp only
  rw [he]
  rfl

theorem onSliceEncodeDone_tail (hgone : s.workLost (e.enc / 16) lost ≠ []) : onSliceEncodeDone l c row bl lost s =
    (((s.workLost (e.enc / 16) lost).filter fun l => l ∈ s.mem.extBad || ! s.extUp).foldl (fun t l => t.lineUc l 2) s).slicePut
      (64 * l + c) k (s.encStream (64 * l + c)) e.allTail := (onSliceEncodeDone_coding hk he).trans (if_pos hgone)

variable (hread : s.workLost (e.enc / 16) lost = [])
include hread

theorem onSliceEncodeDone_coded (hcodes : e.codes (64 * l + c) bl) : onSliceEncodeDone l c row bl lost s =
    s.slicePut (64 * l + c) k (s.encStream (64 * l + c)) { e with blocks := some bl } := by
  rw [onSliceEncodeDone_coding hk he, if_neg (not_not.mpr hread), if_neg]
  exact fun hnot => (e.not_codes_iff _).mpr hnot hcodes

theorem onSliceEncodeDone_malformed (hnot : ¬ e.codes (64 * l + c) bl) : onSliceEncodeDone l c row bl lost s = s := by
  rw [onSliceEncodeDone_coding hk he, if_neg (not_not.mpr hread), if_pos ((e.not_codes_iff _).mp hnot)]

end Coding

/-! ### ENC_OVERRUN (R168) -/

theorem onEncOverrun_none (h : (s.encLayer l).waiting = none) : onEncOverrun l n s = s := by
  rw [onEncOverrun, h]

theorem onEncOverrun_waiting {p : EncPic} (h : (s.encLayer l).waiting = some p) :
    onEncOverrun l n s = if rowsReady (s.freshSrc l p) 0 n then s.encOverrun l else s := by
  rw [onEncOverrun, h]

/-! ### SLICE_ROW_DEADLINE (R113, R152) -/

theorem onSliceRowDeadline_still (h : (s.encLayer l).pic = none ∨ (s.ingLayer l).source = none ∨
    ∃ p, (s.encLayer l).pic = some p ∧ p.src = none) : onSliceRowDeadline l row n s = s := by
  unfold onSliceRowDeadline
  dsimp only
  split
  case h_1 p i hpic hsource =>
    split
    case h_1 f hsrc =>
      exfalso
      rcases h with hnone | hnone | ⟨p', hpic', hnone⟩
      · cases hpic.symm.trans hnone
      · cases hsource.symm.trans hnone
      · obtain rfl := Option.some.inj (hpic.symm.trans hpic')
        cases hsrc.symm.trans hnone
    case h_2 => rfl
  case h_2 => rfl

section Deadline
variable {p : EncPic} {f : SrcFrame} {j : Nat}

/-- When the encode deadline of a slice row of a picture passes, whose frame is `f` and comes from source `j`. -/
def State.rowDue (s : State) (p : EncPic) (f : SrcFrame) (j row : Nat) : Nat :=
  f.stamp + (row + 1) * (s.source j).period / rowsOf p.height + s.fld ENC_GLOBAL.SLICE_WAIT * us

/-- The deadline of a slice row has passed with rows unwritten. -/
def State.rowLate (s : State) (l : Nat) (p : EncPic) (f : SrcFrame) (j row written : Nat) : Prop :=
  p.slice = true ∧ row < rowsOf p.height ∧ s.rowDue p f j row ≤ s.now ∧ rowsReady (s.freshSrc l p) row written = false

theorem State.not_rowLate_iff (l written : Nat) : ¬ s.rowLate l p f j row written ↔
    ! p.slice ∨ rowsOf p.height ≤ row ∨ s.now < s.rowDue p f j row ∨ rowsReady (s.freshSrc l p) row written := by
  simp only [State.rowLate, not_and_or, not_le, not_lt, Bool.not_eq_true, Bool.not_eq_true', Bool.not_eq_false]

/-- The state with a torn row counted, its missing rows noted in the picture. -/
def State.rowTorn (s : State) (l : Nat) (p : EncPic) (f : SrcFrame) (row written : Nat) : State :=
  let miss := (List.range f.height).filter fun y => decide (written ≤ y) && decide (32 * row ≤ y) && decide (y < 32 * row + 32)
  (s.setEncLayer l { s.encLayer l with pic := some { p with torn := Sparse.set p.torn row miss } }).bump ING_TORN.TORN l

variable (hpic : (s.encLayer l).pic = some p) (hsource : (s.ingLayer l).source = some j) (hsrc : p.src = some f)
include hpic hsource hsrc

theorem onSliceRowDeadline_reading : onSliceRowDeadline l row n s =
    if ! p.slice ∨ rowsOf p.height ≤ row ∨ s.now < s.rowDue p f j row ∨ rowsReady (s.freshSrc l p) row n then s
    else if p.torn = [] then (s.rowTorn l p f row n).raise 0x0305 [(16, 1, l), (20, 4, row)] else s.rowTorn l p f row n := by
  rw [onSliceRowDeadline]
  dsimp only
  rw [hpic, hsource]
  dsimp only
  split
  case h_1 g hg =>
    obtain rfl := Option.some.inj (hsrc.symm.trans hg)
    rfl
  case h_2 hnone => cases hnone.symm.trans hsrc

theorem onSliceRowDeadline_early (h : ¬ s.rowLate l p f j row n) : onSliceRowDeadline l row n s = s := by
  rw [onSliceRowDeadline_reading hpic hsource hsrc, if_pos ((State.not_rowLate_iff _ _).mp h)]

theorem onSliceRowDeadline_late (h : s.rowLate l p f j row n) : onSliceRowDeadline l row n s =
    if p.torn = [] then (s.rowTorn l p f row n).raise 0x0305 [(16, 1, l), (20, 4, row)] else s.rowTorn l p f row n := by
  rw [onSliceRowDeadline_reading hpic hsource hsrc, if_neg fun hnot => (State.not_rowLate_iff _ _).mpr hnot h]

end Deadline

/-! ### Refreshes (R166, R167) -/

theorem onRefreshReq_none (h : s.takeMsg 0x0B = none) : onRefreshReq s = s := by
  rw [onRefreshReq, h]

/-- The stream that a REFRESH_REQ names. -/
def refreshStream (m : Msg) : Nat := beAt m.payload 0 2 % 4096

/-- The state with a REFRESH_REQ of a stream taken: told to the host once in ASSIST, else scheduled. -/
def State.refreshAsked (s : State) (m : Msg) : State :=
  let stream := refreshStream m
  let x := s.encLayer (stream / 64)
  if s.assist 5 then
    if stream ∈ x.told then s
    else (s.setEncLayer (stream / 64) { x with told := stream :: x.told }).raise 0x0602 [(16, 2, stream), (18, 2, m.src)]
  else s.askRefresh (stream / 64) (stream % 64) none

theorem onRefreshReq_taken {k : Nat} {m : Msg} {u : State} (h : s.takeMsg 0x0B = some (k, m, u)) : onRefreshReq s =
    if m.payload.length ≠ 5 ∨ ! (u.encLayer (refreshStream m / 64)).on ∨
      u.layerCols (refreshStream m / 64) ≤ refreshStream m % 64 then u
    else u.refreshAsked m := by
  rw [onRefreshReq, h]
  rfl

/-- The columns of a layer that a CMD_ENC_REFRESH names. -/
def State.refreshCols (s : State) (x : Cmd) : List Nat :=
  (List.range (s.layerCols (x.opnd 32 1))).filter fun k => bits (x.opnd 40 8) k 1 = 1

theorem onCmdEncRefresh_none (h : s.cmd q tag 0x0601 = none) : onCmdEncRefresh q tag s = s := by
  rw [onCmdEncRefresh, h]

theorem onCmdEncRefresh_started {x : Cmd} (h : s.cmd q tag 0x0601 = some x) : onCmdEncRefresh q tag s =
    if ! s.flag ENC_LAYER_CFG.EN (x.opnd 32 1) then s.finish x 0x0601
    else if s.refreshCols x = [] then s.finish x stOk
    else (s.refreshCols x).foldl (fun t k => t.askRefresh (x.opnd 32 1) k (some (x.q, x.id))) (s.run x) := by
  rw [onCmdEncRefresh, h]
  rfl

/-! ### Clips (R116, log entry 135) -/

/-- The state with a clip to be played from the next frame start. -/
def State.clipTaken (s : State) (x : Cmd) : State :=
  let y := s.ingLayer (x.opnd 32 1)
  (s.run x).setIngLayer (x.opnd 32 1) { y with
    play := some ⟨x.q, x.id, x.opnd 40 8 * 4096, decide (x.opnd 33 1 % 2 = 1), 0, y.play.any (·.on)⟩ }

/-- The command of the playback that a clip ends. -/
def State.clipEnded (s : State) (x : Cmd) : Option Cmd :=
  (s.ingLayer (x.opnd 32 1)).play.bind fun o => (s.clipTaken x).cmdAt o.q o.id 0x0301

theorem onCmdIngPlay_none (h : s.cmd q tag 0x0301 = none) : onCmdIngPlay q tag s = s := by
  rw [onCmdIngPlay, h]

theorem onCmdIngPlay_alone {x : Cmd} (h : s.cmd q tag 0x0301 = some x) (hold : s.clipEnded x = none) :
    onCmdIngPlay q tag s = s.clipTaken x := by
  rw [onCmdIngPlay, h]
  dsimp only
  split
  case h_1 d hd => cases hd.symm.trans hold
  case h_2 => rfl

theorem onCmdIngPlay_replaces {x d : Cmd} (h : s.cmd q tag 0x0301 = some x) (hold : s.clipEnded x = some d) :
    onCmdIngPlay q tag s = (s.clipTaken x).finish d stOk := by
  rw [onCmdIngPlay, h]
  dsimp only
  split
  case h_1 d' hd => rw [Option.some.inj (hold.symm.trans hd)]; rfl
  case h_2 hnone => cases hnone.symm.trans hold

/-! ### The commands -/

section Awake
variable (hawake : s.awake = true)
include hawake

theorem exec_sliceAllocate : exec (.sliceAllocate l c n) s = .next (onSliceAllocate l c n s) :=
  congrArg _ (State.guarded_of_awake _ hawake)

theorem exec_sliceEncodeDone : exec (.sliceEncodeDone l c row bl lost) s = .next (onSliceEncodeDone l c row bl lost s) :=
  congrArg _ (State.guarded_of_awake _ hawake)

theorem exec_encOverrun : exec (.encOverrun l n) s = .next (onEncOverrun l n s) := congrArg _ (State.guarded_of_awake _ hawake)

theorem exec_sliceRowDeadline : exec (.sliceRowDeadline l row n) s = .next (onSliceRowDeadline l row n s) :=
  congrArg _ (State.guarded_of_awake _ hawake)

theorem exec_refreshReq : exec .refreshReq s = .next (onRefreshReq s) := congrArg _ (State.guarded_of_awake _ hawake)

theorem exec_cmdEncRefresh : exec (.cmdEncRefresh q tag) s = .next (onCmdEncRefresh q tag s) :=
  congrArg _ (State.guarded_of_awake _ hawake)

theorem exec_cmdIngPlay : exec (.cmdIngPlay q tag) s = .next (onCmdIngPlay q tag s) :=
  congrArg _ (State.guarded_of_awake _ hawake)

end Awake

end Encoder

/-- Settles O43: a slice that may be allocated, has a base and finds an encoder is given to it; a slice in coding is replaced by its
coding or by an all-tail one and what may go on is handed on; a row is torn when its deadline has passed; refreshes are scheduled,
told (R167) or completed, and a clip takes the place of the one before (log entries 134 and 135). -/
theorem encoderRows : Obligations.EncoderRows := by
  unfold Obligations.EncoderRows
  intro s l c q tag row n bl lost hawake
  rw [exec_sliceAllocate hawake, exec_sliceEncodeDone hawake, exec_encOverrun hawake, exec_sliceRowDeadline hawake,
    exec_refreshReq hawake, exec_cmdEncRefresh hawake, exec_cmdIngPlay hawake]
  refine ⟨fun hnone => ?_, fun p hpic => ⟨fun hwait => ?_, fun f8 enc hmay hbase henc => ⟨rfl, rfl, rfl, rfl, rfl, rfl, rfl, ?_⟩⟩,
    fun hnone => ?_, fun k e hk he => ⟨fun hread hcodes => ?_, fun hread hnot => ?_, fun hgone => ?_⟩, fun hnone => ?_,
    fun p hwaiting => ⟨fun hready => ?_, fun hnot => ?_⟩, fun hstill => ?_, fun p f j hpic hsource hsrc => ⟨fun hearly => ?_,
    fun hlate hfirst => ?_, fun hlate hmore => ?_⟩, fun hnone => ?_, fun k m u htaken => ⟨fun hbad => ?_, fun hlen hon hcol => ?_⟩,
    fun hnone => ?_, fun x hx => ⟨fun hoff => ?_, fun hon hcols => ?_, fun hon hcols => ?_⟩, fun hnone => ?_,
    fun x hx => ⟨fun hold => ?_, fun d hold => ?_⟩⟩
  · rw [onSliceAllocate_noPicture hnone]
  · rcases hwait with hnot | hwait
    · exact congrArg _ (onSliceAllocate_notYet hpic hnot)
    · rw [onSliceAllocate_waits hpic hwait]
  · exact congrArg _ (onSliceAllocate_given hpic hmay hbase henc)
  · rw [onSliceEncodeDone_none hnone]
  · exact congrArg _ (onSliceEncodeDone_coded hk he hread hcodes)
  · exact congrArg _ (onSliceEncodeDone_malformed hk he hread hnot)
  · exact congrArg _ (onSliceEncodeDone_tail hk he hgone)
  · rw [onEncOverrun_none hnone]
  · rw [onEncOverrun_waiting hwaiting, if_pos hready]
  · rw [onEncOverrun_waiting hwaiting, if_neg (by simp [hnot])]
  · rw [onSliceRowDeadline_still hstill]
  · exact congrArg _ (onSliceRowDeadline_early hpic hsource hsrc hearly)
  · exact congrArg _ ((onSliceRowDeadline_late hpic hsource hsrc hlate).trans (if_pos hfirst))
  · exact congrArg _ ((onSliceRowDeadline_late hpic hsource hsrc hlate).trans (if_neg hmore))
  · rw [onRefreshReq_none hnone]
  · refine congrArg _ ((onRefreshReq_taken htaken).trans (if_pos ?_))
    exact hbad.imp_right (Or.imp_left fun hoff => by simp [refreshStream, hoff])
  · have hasks : onRefreshReq s = u.refreshAsked m := by
      refine (onRefreshReq_taken htaken).trans (if_neg ?_)
      rintro (hne | hoff | hbeyond)
      · exact hne hlen
      · simp [refreshStream, hon] at hoff
      · exact absurd hcol (not_lt.mpr hbeyond)
    rw [hasks]
    exact ⟨fun hhw => congrArg _ (if_neg (Bool.eq_false_iff.mp hhw)),
      fun hassist htold => congrArg _ ((if_pos hassist).trans (if_pos htold)),
      fun hassist hnew => congrArg _ ((if_pos hassist).trans (if_neg hnew))⟩
  · rw [onCmdEncRefresh_none hnone]
  · rw [onCmdEncRefresh_started hx, if_pos (by simp [hoff])]
  · rw [onCmdEncRefresh_started hx, if_neg (by simp [hon])]
    exact congrArg _ (if_pos hcols)
  · rw [onCmdEncRefresh_started hx, if_neg (by simp [hon])]
    exact congrArg _ (if_neg hcols)
  · rw [onCmdIngPlay_none hnone]
  · exact congrArg _ (onCmdIngPlay_alone hx hold)
  · exact congrArg _ (onCmdIngPlay_replaces hx hold)

end Sys2Proof.Machine

/-! THEOREMS. What the line carries: scrambling, blocks, dealing over lanes, headers of planks, block lock (R174 to R178, R182). -/

namespace Sys2Proof.Machine

/-! ### Scrambling (R174) -/

theorem descramble_scramble (st l : List Bool) : descramble st (scramble st l) = l := by
  induction l generalizing st with
  | nil => rfl
  | cons d ds ih => simp only [scramble, descramble, ih, Bool.xor_assoc, Bool.xor_self, Bool.xor_false,
      Bool.xor_left_comm (st.getD 57 false)]

/-! ### Blocks of a plank (R175) -/

@[simp] theorem length_beBytes (n v : Nat) : (beBytes n v).length = n := by rw [beBytes, List.length_reverse, length_leBytes]

theorem beNat_eq_leNat_reverse (bs : List Byte) : beNat bs = leNat bs.reverse := by
  rw [beNat, ← List.foldr_reverse]
  induction bs.reverse with
  | nil => rfl
  | cons b bs ih => rw [List.foldr_cons, ih, leNat, Nat.add_comm]

/-- Bytes of a number spell it, as far as they hold it. -/
theorem beNat_beBytes (n v : Nat) : beNat (beBytes n v) = v % 256 ^ n := by
  rw [beNat_eq_leNat_reverse, beBytes, List.reverse_reverse, leNat_leBytes]

/-- A field that begins a byte list. -/
theorem beAt_append_left (n v : Nat) (bs : List Byte) : beAt (beBytes n v ++ bs) 0 n = v % 256 ^ n := by
  rw [beAt, bytesAt, List.drop_zero, List.take_left' (length_beBytes n v), beNat_beBytes]

/-- A field behind the first bytes of a byte list. -/
theorem bytesAt_append_right {as : List Byte} {n : Nat} (bs : List Byte) (o w : Nat) (h : as.length = n) :
    bytesAt (as ++ bs) (n + o) w = bytesAt bs o w := by
  rw [bytesAt, bytesAt, ← h, List.drop_length_add_append]

theorem blockCtl_ctlBlock {t : Nat} (bs : List Byte) (h : t < 256) : blockCtl (ctlBlock t bs) = some t := by
  rw [blockCtl, ctlBlock, if_pos rfl, beAt_append_left, Nat.pow_one, Nat.mod_eq_of_lt h]

theorem blockCtl_idleBlock : blockCtl idleBlock = some idleType := blockCtl_ctlBlock _ (by decide)

theorem blockCtl_markerBlock (lane width count : Nat) : blockCtl (markerBlock lane width count) = some markerType :=
  blockCtl_ctlBlock _ (by decide)

theorem blockCtl_dataBlocks {n : Nat} {bs : List Byte} {b : Block} (h : b ∈ dataBlocks n bs) : blockCtl b = none := by
  induction n generalizing bs with
  | zero => cases h
  | succ n ih =>
    rcases List.mem_cons.mp h with rfl | h
    · exact if_neg (show ¬ dataSync = ctlSync by decide)
    · exact ih h

/-- Data blocks carry the bytes that they were filled with. -/
theorem takeData_dataBlocks {n : Nat} {bs : List Byte} (h : bs.length ≤ 8 * n) :
    takeData n (dataBlocks n bs) = some (padTo (8 * n) bs) := by
  induction n generalizing bs with
  | zero => rw [List.length_eq_zero_iff.mp (by omega : bs.length = 0)]; rfl
  | succ n ih =>
    have hrest : (bs.drop 8).length ≤ 8 * n := by rw [List.length_drop]; omega
    have hfirst : (padTo 8 (bs.take 8)).length = 8 := length_padTo (by rw [List.length_take]; omega)
    rw [dataBlocks, takeData, if_pos rfl, ih hrest, Option.map_some, List.take_of_length_le hfirst.le, padTo_of_length hfirst]
    by_cases hshort : bs.length ≤ 8
    · rw [List.take_of_length_le hshort, List.drop_eq_nil_of_le hshort]
      simp only [padTo, List.append_assoc, List.length_nil, List.nil_append, List.replicate_append_replicate]
      congr 3; omega
    · rw [padTo_of_length (by rw [List.length_take]; omega)]
      simp only [padTo, ← List.append_assoc, List.take_append_drop, List.length_drop]
      congr 3; omega

/-- No block of a plank is a MARKER. -/
theorem blockCtl_plankLine {long : Bool} {bs : List Byte} {b : Block} (h : b ∈ plankLine long bs) : blockCtl b ≠ some markerType := by
  rcases List.mem_cons.mp h with rfl | h
  · rw [blockCtl_ctlBlock _ (by split <;> decide)]
    split <;> decide
  · rw [blockCtl_dataBlocks h]
    exact nofun

/-- The bytes of a line whose blocks, MARKERs out, are IDLE blocks and those of a plank. -/
theorem plankIn_of_filter {l : List Block} {n : Nat} {long : Bool} {bs : List Byte}
    (h : (l.filter fun b => blockCtl b ≠ some markerType) = List.replicate n idleBlock ++ plankLine long bs)
    (hbs : bs.length = if long then 276 else 20) : plankIn l = some (long, bs) := by
  have hidle : (List.replicate n idleBlock ++ plankLine long bs).dropWhile (fun b => blockCtl b = some idleType) =
      plankLine long bs := by
    rw [List.dropWhile_append_of_pos fun b hb => ?_]
    · rw [plankLine, List.dropWhile_cons_of_neg]
      rw [blockCtl_ctlBlock _ (by split <;> decide)]
      cases long <;> decide
    · rw [List.eq_of_mem_replicate hb, blockCtl_idleBlock]
      exact decide_eq_true rfl
  have hfirst : padTo 7 (bytesAt (ctlBlock (if long then lstartType else sstartType) bs).bytes 1 7) = bs.take 7 := by
    have htake : (bs.take 7).length = 7 := by rw [List.length_take, hbs]; cases long <;> rfl
    rw [ctlBlock, bytesAt_append_right _ 0 7 (length_beBytes 1 _), bytesAt, List.drop_zero,
      List.take_of_length_le (length_padTo htake.le).le, padTo_of_length htake, padTo_of_length htake]
  have hrest : (bs.drop 7).length = if long then 269 else 13 := by rw [List.length_drop, hbs]; cases long <;> rfl
  unfold plankIn
  rw [h, hidle, plankLine]
  dsimp only
  rw [hfirst, blockCtl_ctlBlock _ (by split <;> decide)]
  cases long with
  | true =>
    have hdata : takeData 34 (dataBlocks 34 (bs.drop 7)) = some (padTo 272 (bs.drop 7)) := takeData_dataBlocks (by rw [hrest]; decide)
    have htake : (padTo 272 (bs.drop 7)).take 269 = bs.drop 7 := List.take_left' hrest
    simp only [if_true, hdata, Option.map_some, htake, List.take_append_drop]
  | false =>
    have hdata : takeData 2 (dataBlocks 2 (bs.drop 7)) = some (padTo 16 (bs.drop 7)) := takeData_dataBlocks (by rw [hrest]; decide)
    have htake : (padTo 16 (bs.drop 7)).take 13 = bs.drop 7 := List.take_left' hrest
    have htype : some sstartType ≠ some lstartType := by decide
    simp only [Bool.false_eq_true, if_false, htype, if_true, hdata, Option.map_some, htake, List.take_append_drop]

theorem filter_idle_plankLine (n : Nat) (long : Bool) (bs : List Byte) :
    ((List.replicate n idleBlock ++ plankLine long bs).filter fun b => blockCtl b ≠ some markerType) =
      List.replicate n idleBlock ++ plankLine long bs := by
  refine List.filter_eq_self.mpr fun b hb => decide_eq_true ?_
  rcases List.mem_append.mp hb with hb | hb
  · rw [List.eq_of_mem_replicate hb, blockCtl_idleBlock]
    decide
  · exact blockCtl_plankLine hb

/-- A MARKER among blocks is taken out. -/
theorem filter_markerBlock (lane width count : Nat) (a b : List Block) :
    ((a ++ markerBlock lane width count :: b).filter fun b => blockCtl b ≠ some markerType) =
      (a ++ b).filter fun b => blockCtl b ≠ some markerType := by
  rw [List.filter_append, List.filter_cons_of_neg (by rw [blockCtl_markerBlock]; decide), ← List.filter_append]

/-! ### Dealing over lanes (R176) -/

/-- The MARKERs of a lane taken out. -/
theorem filter_marked {l : List Block} (hl : ∀ b ∈ l, blockCtl b ≠ some markerType) (lane width left count : Nat) :
    ((marked lane width left count l).filter fun b => blockCtl b ≠ some markerType) = l := by
  induction l generalizing left count with
  | nil => cases left <;> rfl
  | cons b l ih =>
    have hb := decide_eq_true (hl b List.mem_cons_self)
    have ih := ih fun b hb => hl b (List.mem_cons_of_mem _ hb)
    cases left with
    | zero =>
      rw [marked, List.filter_cons_of_neg (by rw [blockCtl_markerBlock]; decide), List.filter_cons_of_pos (by exact hb), ih]
    | succ left => rw [marked, List.filter_cons_of_pos (by exact hb), ih]

/-- Every `w`th of numbered elements, from the one `d` places ahead. -/
theorem getElem?_filter_zipIdx {α : Type} (w i : Nat) (l : List α) (k d j : Nat) (hd : d < w) (h : (k + d) % w = i) :
    ((l.zipIdx k).filter fun b => b.2 % w = i)[j]?.map (·.1) = l[d + w * j]? := by
  induction l generalizing k d j with
  | nil => rfl
  | cons x xs ih =>
    rw [List.zipIdx_cons]
    cases d with
    | zero =>
      rw [List.filter_cons_of_pos (by exact decide_eq_true h)]
      cases j with
      | zero => rfl
      | succ j =>
        have hnext : (k + 1 + (w - 1)) % w = i := by
          rw [← h, Nat.add_assoc, Nat.add_sub_cancel' (by omega : 1 ≤ w), Nat.add_mod_right, Nat.add_zero]
        have hat : 0 + w * (j + 1) = w - 1 + w * j + 1 := by rw [Nat.mul_succ]; omega
        rw [List.getElem?_cons_succ, ih _ _ _ (by omega) hnext, hat, List.getElem?_cons_succ]
    | succ d =>
      have hne : k % w ≠ i := fun hk => by
        have hdvd : w ∣ k + (d + 1) - k := (Nat.modEq_iff_dvd' (by omega)).mp (hk.trans h.symm)
        exact absurd (Nat.le_of_dvd (by omega) hdvd) (by omega)
      rw [List.filter_cons_of_neg (by simpa using hne), ih _ d _ (by omega) (by rw [← h]; congr 1; omega)]
      have hat : d + 1 + w * j = d + w * j + 1 := by omega
      rw [hat, List.getElem?_cons_succ]

theorem getElem?_dealt {w i : Nat} (hi : i < w) (l : List Block) (j : Nat) : (dealt w i l)[j]? = l[i + w * j]? := by
  rw [dealt, List.getElem?_map]
  exact getElem?_filter_zipIdx w i l 0 i j hi (by rw [Nat.zero_add, Nat.mod_eq_of_lt hi])

theorem mem_of_mem_dealt {w i : Nat} {l : List Block} {b : Block} (h : b ∈ dealt w i l) : b ∈ l := by
  obtain ⟨x, hx, rfl⟩ := List.mem_map.mp h
  exact List.fst_mem_of_mem_zipIdx (List.mem_filter.mp hx).1

/-- Each numbered element goes to one lane. -/
theorem sum_filter_mod {α : Type} {w : Nat} (hw : 0 < w) (z : List (α × Nat)) :
    ((List.range w).map fun i => (z.filter fun b => b.2 % w = i).length).sum = z.length := by
  induction z with
  | nil => simp only [List.filter_nil, List.length_nil, List.map_const', List.sum_replicate, smul_zero]
  | cons x z ih =>
    have hone : ((List.range w).map fun i => if x.2 % w = i then 1 else 0).sum = 1 := by
      rw [List.sum_map_eq_nsmul_single (x.2 % w) _ fun i hi _ => if_neg (Ne.symm hi), if_pos rfl,
        List.count_eq_one_of_mem List.nodup_range (List.mem_range.mpr (Nat.mod_lt _ hw)), one_smul]
    have hcons : ∀ i, ((x :: z).filter fun b => b.2 % w = i).length =
        (if x.2 % w = i then 1 else 0) + (z.filter fun b => b.2 % w = i).length := fun i => by
      by_cases h : x.2 % w = i
      · simp [h, Nat.add_comm]
      · simp [h]
    simp only [hcons, List.sum_map_add, hone, ih, List.length_cons, Nat.add_comm]

theorem filterMap_getElem? {α : Type} (l : List α) {n : Nat} (h : l.length ≤ n) :
    (List.range n).filterMap (fun i => l[i]?) = l := by
  induction l generalizing n with
  | nil => exact List.filterMap_eq_nil_iff.mpr fun i _ => List.getElem?_nil
  | cons x l ih =>
    obtain ⟨m, rfl⟩ := Nat.exists_eq_succ_of_ne_zero (Nat.ne_of_gt (Nat.lt_of_lt_of_le (Nat.succ_pos _) h))
    rw [List.range_succ_eq_map, List.filterMap_cons, List.filterMap_map]
    exact congrArg (x :: ·) (ih (Nat.le_of_succ_le_succ h))

/-- What is dealt over lanes is collected as it was. -/
theorem collected_laneLine {w : Nat} (hw : 0 < w) (left count : Nat → Nat) (width : Nat) {l : List Block}
    (hl : ∀ b ∈ l, blockCtl b ≠ some markerType) :
    collected ((List.range w).map fun i => laneLine w i width (left i) (count i) l) = l := by
  have hlanes : ((List.range w).map fun i => laneLine w i width (left i) (count i) l).map
      (fun l => l.filter fun b => blockCtl b ≠ some markerType) = (List.range w).map fun i => dealt w i l := by
    rw [List.map_map]
    exact List.map_congr_left fun i _ => filter_marked (fun b hb => hl b (mem_of_mem_dealt hb)) _ _ _ _
  have hsum : (((List.range w).map fun i => dealt w i l).map (·.length)).sum = l.length := by
    rw [List.map_map, ← List.length_zipIdx (l := l) (i := 0), ← sum_filter_mod hw]
    exact congrArg List.sum (List.map_congr_left fun i _ => List.length_map ..)
  have hblock : ∀ n, (((List.range w).map fun i => dealt w i l).getD (n % w) [])[n / w]? = l[n]? := fun n => by
    have hmod := Nat.mod_lt n hw
    rw [List.getD_eq_getElem?_getD, List.getElem?_map, List.getElem?_range hmod, Option.map_some, Option.getD_some,
      getElem?_dealt hmod, Nat.mod_add_div]
  rw [collected, hlanes, hsum]
  simp only [List.length_map, List.length_range, hblock]
  exact filterMap_getElem? l le_rfl

/-! ### Bytes of a long plank (R178) -/

/-- A field behind the bytes of a number. -/
theorem beAt_beBytes_append {m o : Nat} (v : Nat) (bs : List Byte) (w : Nat) (h : m ≤ o) :
    beAt (beBytes m v ++ bs) o w = beAt bs (o - m) w := by
  obtain ⟨k, rfl⟩ := Nat.exists_eq_add_of_le h
  rw [beAt, bytesAt_append_right bs k w (length_beBytes m v), Nat.add_sub_cancel_left, beAt]

/-- The fields of a plank fit their places in its bytes (Table 7-3). -/
structure PlankFits (x : Plank) : Prop where
  typ : x.typ < 16
  vc : x.vc < 4
  hops : x.hops < 256
  src : x.src < 4096
  dst : x.dst < 4096
  stream : x.stream < 4096
  flags : x.flags < 256
  lseq : x.lseq < 65536
  tag : x.tag < 2 ^ 32
  rsv : x.rsv < 2 ^ 13
  payload : x.payload.length ≤ 256

/-- The bytes of a plank's payload. -/
theorem payload_plankBytes (x : Plank) : bytesAt (plankBytes x) 16 x.payload.length = x.payload := by
  rw [plankBytes, bytesAt_append_right _ 0 _ (by simp only [List.length_append, length_beBytes]), bytesAt, List.drop_zero, padTo,
    List.take_left]

theorem plankOf_plankBytes {x : Plank} (h : PlankFits x) : plankOf (plankBytes x) = x := by
  obtain ⟨htyp, hvc, hhops, hsrc, hdst, hstream, hflags, hlseq, htag, hrsv, hpay⟩ := h
  have hfields : beAt (plankBytes x) 0 1 = x.typ * 16 + x.vc * 4 + x.rsv % 4 ∧ beAt (plankBytes x) 1 1 = x.hops ∧
      beAt (plankBytes x) 2 3 = x.src * 4096 + x.dst ∧ beAt (plankBytes x) 5 2 = x.rsv / 4 % 16 * 4096 + x.stream ∧
      beAt (plankBytes x) 7 1 = x.flags ∧ beAt (plankBytes x) 8 2 = x.rsv / 64 * 512 + x.payload.length ∧
      beAt (plankBytes x) 10 2 = x.lseq ∧ beAt (plankBytes x) 12 4 = x.tag := by
    simp only [plankBytes, List.append_assoc, beAt_beBytes_append, beAt_append_left, Nat.reduceLeDiff, Nat.reduceSub, le_refl, bits]
    omega
  obtain ⟨h0, h1, h2, h5, h7, h8, h10, h12⟩ := hfields
  rw [plankOf, h0, h1, h2, h5, h7, h8, h10, h12, show min 256 ((x.rsv / 64 * 512 + x.payload.length) % 512) = x.payload.length by omega,
    payload_plankBytes]
  cases x
  simp only [Plank.mk.injEq, true_and, and_true] at *
  omega

/-! ### Block lock (R182) -/

/-- A receiver with lock after `n` invalid headers. -/
theorem foldl_step_bad {h : BitVec 2} (hbad : headOk h = false) (n : Nat) :
    (List.replicate n h).foldl LockRun.step ⟨true, 0, []⟩ =
      if n < 16 then ⟨true, 0, List.replicate n false⟩ else ⟨false, 0, []⟩ := by
  induction n with
  | zero => rfl
  | succ n ih =>
    rw [List.replicate_succ', List.foldl_append, ih, List.foldl_cons, List.foldl_nil]
    rcases Nat.lt_trichotomy n 15 with hn | rfl | hn
    · rw [if_pos (by omega), if_pos (by omega), LockRun.step, if_pos rfl, hbad, ← List.replicate_succ]
      dsimp only
      rw [List.take_of_length_le (by rw [List.length_replicate]; omega), if_neg]
      rw [List.countP_replicate]
      simp only [Bool.not_false, if_true]
      omega
    · rw [if_pos (by omega), if_neg (by omega), LockRun.step, if_pos rfl, hbad]
      rfl
    · rw [if_neg (by omega), if_neg (by omega), LockRun.step, if_neg (by simp), hbad]
      rfl

/-- A receiver without lock after `n` valid headers. -/
theorem foldl_step_good {h : BitVec 2} (hgood : headOk h = true) (n : Nat) :
    (List.replicate n h).foldl LockRun.step ⟨false, 0, []⟩ =
      if n < 64 then ⟨false, n, []⟩ else ⟨true, 0, List.replicate (min 64 (n - 64)) true⟩ := by
  induction n with
  | zero => rfl
  | succ n ih =>
    rw [List.replicate_succ', List.foldl_append, ih, List.foldl_cons, List.foldl_nil]
    rcases Nat.lt_trichotomy n 63 with hn | rfl | hn
    · rw [if_pos (by omega), if_pos (by omega), LockRun.step, if_neg (by simp), if_pos hgood]
      exact if_neg (by simp only; omega)
    · rw [if_pos (by omega), if_neg (by omega), LockRun.step, if_neg (by simp), if_pos hgood]
      rfl
    · rw [if_neg (by omega), if_neg (by omega), LockRun.step, if_pos rfl, hgood, ← List.replicate_succ]
      dsimp only
      rw [List.take_replicate, if_neg]
      · congr 2; omega
      · rw [List.countP_replicate]
        simp

theorem unlocks_replicate {h : BitVec 2} (hbad : headOk h = false) (n : Nat) :
    unlocks (List.replicate n h) = true ↔ 16 ≤ n := by
  rw [unlocks, foldl_step_bad hbad]
  split
  · simpa
  · simpa using ‹¬ n < 16›

theorem locks_replicate {h : BitVec 2} (hgood : headOk h = true) (n : Nat) : locks (List.replicate n h) = true ↔ 64 ≤ n := by
  rw [locks, foldl_step_good hgood]
  split
  · simpa
  · simpa using ‹¬ n < 64›

/-- Settles O45: the descrambler undoes each bit with the state of the scrambler; MARKERs out, what is left of a line is its IDLE
blocks and the plank; block `n` of a stream is block `n / w` of lane `n % w`; each field of a plank lies in bytes of its own; the run
of equal headers is followed header by header. -/
theorem lineCodes : Obligations.LineCodes := by
  unfold Obligations.LineCodes
  refine ⟨descramble_scramble, fun bs long n hbs => ⟨plankIn_of_filter (filter_idle_plankLine n long bs) hbs,
    fun lane width count a b hab => plankIn_of_filter (n := n) ?_ hbs⟩,
    fun w left count width l hw hl => collected_laneLine hw left count width hl,
    fun x htyp hvc hhops hsrc hdst hstream hflags hlseq htag hrsv hpay => plankOf_plankBytes
      ⟨htyp, hvc, hhops, hsrc, hdst, hstream, hflags, hlseq, htag, hrsv, hpay⟩,
    fun h n hbad => unlocks_replicate hbad n, fun h n hgood => locks_replicate hgood n⟩
  rw [filter_markerBlock, List.append_assoc, ← hab, filter_idle_plankLine]

end Sys2Proof.Machine

/-! SUPPORT. Span ports: what a port holds, and what it makes of the blocks of its line (R174 to R180, R196). -/

namespace Sys2Proof.Machine

section Ports
variable {s : State} {k typ : Nat} {blocks : List Block} {long : Bool} {bs : List Byte} {f : List Byte → State → State}

theorem State.portUp_iff : s.portUp k = true ↔ s.fld SPN_STATUS.STATE k = spanUp := decide_eq_true_iff

theorem State.port_setPort_same (k : Nat) (x : PortSt) : (s.setPort k x).port k = x := by
  simp only [State.port, State.setPort, Sparse.get, Sparse.find_set_self, Option.getD_some]

/-- A port takes planks off its line: it is in CAP, in STEP or in UP. -/
def State.takesPlanks (s : State) (k : Nat) : Prop :=
  s.fld SPN_STATUS.STATE k = spCap ∨ s.fld SPN_STATUS.STATE k = spStep ∨ s.fld SPN_STATUS.STATE k = spanUp

theorem State.takesPlanks_of_portUp (h : s.portUp k = true) : s.takesPlanks k := .inr (.inr (State.portUp_iff.mp h))

/-- Blocks carry a plank whose CRC passes and that R179 does not discard. -/
def carriesPlank (blocks : List Block) (long : Bool) (bs : List Byte) : Prop :=
  plankIn blocks = some (long, bs) ∧ crcGood long bs = true ∧ plankFault long bs = false

theorem State.takesPlanks_iff : ¬ (s.fld SPN_STATUS.STATE k ≠ spCap ∧ s.fld SPN_STATUS.STATE k ≠ spStep ∧
    s.fld SPN_STATUS.STATE k ≠ spanUp) ↔ s.takesPlanks k := by
  simp only [State.takesPlanks, not_and_or, not_not]

theorem State.receive_closed (h : ¬ s.takesPlanks k) : s.receive k typ blocks f = s :=
  if_pos (not_not.mp (mt State.takesPlanks_iff.mp h))

section Open
variable (hopen : s.takesPlanks k)
include hopen

theorem State.receive_noPlank (h : plankIn blocks = none) : s.receive k typ blocks f = s := by
  rw [State.receive, if_neg (State.takesPlanks_iff.mpr hopen), h]

theorem State.receive_some (h : plankIn blocks = some (long, bs)) : s.receive k typ blocks f =
    if ! crcGood long bs then (s.bump SPN_CRC_ERR.COUNT k).discardPlank k long bs
    else if plankFault long bs then (s.bump SPN_DROP.COUNT k).discardPlank k long bs
    else if (plankOf bs).typ = typ then f bs s else s := by
  rw [State.receive, if_neg (State.takesPlanks_iff.mpr hopen), h]

theorem State.receive_badCrc (h : plankIn blocks = some (long, bs)) (hcrc : crcGood long bs = false) :
    s.receive k typ blocks f = (s.bump SPN_CRC_ERR.COUNT k).discardPlank k long bs := by
  rw [State.receive_some hopen h, if_pos (by rw [hcrc]; rfl)]

theorem State.receive_fault (h : plankIn blocks = some (long, bs)) (hcrc : crcGood long bs = true)
    (hfault : plankFault long bs = true) :
    s.receive k typ blocks f = (s.bump SPN_DROP.COUNT k).discardPlank k long bs := by
  rw [State.receive_some hopen h, if_neg (by rw [hcrc]; decide), if_pos hfault]

theorem State.receive_carries (h : carriesPlank blocks long bs) :
    s.receive k typ blocks f = if (plankOf bs).typ = typ then f bs s else s := by
  obtain ⟨hin, hcrc, hfault⟩ := h
  rw [State.receive_some hopen hin, if_neg (by rw [hcrc]; decide), if_neg (by rw [hfault]; decide)]

theorem State.receive_plank (h : carriesPlank blocks long bs) (htyp : (plankOf bs).typ = typ) :
    s.receive k typ blocks f = f bs s := (State.receive_carries hopen h).trans (if_pos htyp)

theorem State.receive_other (h : carriesPlank blocks long bs) (htyp : (plankOf bs).typ ≠ typ) :
    s.receive k typ blocks f = s := (State.receive_carries hopen h).trans (if_neg htyp)

end Open

end Ports

end Sys2Proof.Machine

/-! THEOREMS. Bring-up of a span port and its rate ladder (R182 to R185, R187, R188, R191, R204, R207). -/

namespace Sys2Proof.Machine

section BringUp
variable {s : State} {k : Fin 16} {lane : Fin 128} {ins : List LaneIn} {heads : List (BitVec 2)} {points : List EyePoint}
  {bs : List Byte} {blocks : List Block} {long : Bool} {x : Step}

/-! ### Clock (R182, R184) -/

/-- Every lane of a port has clock. -/
def State.clockLanes (s : State) (k : Nat) : State := s.each (s.lanes k) fun i s => s.setFlag LNE_STATUS.CDR_LOCK true i

theorem onCdrLock_detect (hst : s.fld SPN_STATUS.STATE k = spDetect) (hbound : (s.binding k).width ≠ 0) :
    onCdrLock k s = (s.clockLanes k).setSpan k spLock := if_pos ⟨hst, hbound⟩

theorem onCdrLock_step (hst : s.fld SPN_STATUS.STATE k = spStep) (hstep : (s.port k).step.isSome = true) :
    onCdrLock k s = s.clockLanes k :=
  (if_neg fun h => absurd (hst.symm.trans h.1) (by decide)).trans (if_pos ⟨hst, hstep⟩)

theorem onCdrLock_other (hdetect : s.fld SPN_STATUS.STATE k ≠ spDetect ∨ (s.binding k).width = 0)
    (hstep : s.fld SPN_STATUS.STATE k ≠ spStep ∨ (s.port k).step = none) : onCdrLock k s = s := by
  refine (if_neg fun ⟨hst, hbound⟩ => ?_).trans (if_neg fun ⟨hst, hsome⟩ => ?_)
  · exact hdetect.elim (· hst) hbound
  · exact hstep.elim (· hst) fun hnone => by rw [hnone] at hsome; cases hsome

/-! ### Block lock (R182, R184, R185) -/

/-- Every lane of a port whose receiver saw 64 valid headers in a row has block lock. -/
def State.lockLanes (s : State) (k : Nat) (ins : List LaneIn) : State :=
  s.each (s.lanes k) fun i s =>
    if (ins[i - (s.binding k).first]?).any (fun l => locks l.heads) then s.setFlag LNE_STATUS.BLOCK_LOCK true i else s

/-- A port whose lanes are given as its receivers see them acts on their block lock. -/
structure State.BlocksSeen (s : State) (k : Nat) (ins : List LaneIn) : Prop where
  every : ins.length = s.laneCount k
  clocked : ∀ i ∈ s.lanes k, s.flag LNE_STATUS.CDR_LOCK i = true
  climbs : s.fld SPN_STATUS.STATE k = spLock ∨ s.fld SPN_STATUS.STATE k = spCap ∨ s.fld SPN_STATUS.STATE k = spStep

theorem onBlockLock_unseen (h : ins.length ≠ s.laneCount k ∨ (∃ i ∈ s.lanes k, s.flag LNE_STATUS.CDR_LOCK i = false) ∨
    (s.fld SPN_STATUS.STATE k ≠ spLock ∧ s.fld SPN_STATUS.STATE k ≠ spCap ∧ s.fld SPN_STATUS.STATE k ≠ spStep)) :
    onBlockLock k ins s = s := by
  rw [onBlockLock]
  by_cases hlanes : ins.length ≠ s.laneCount k ∨ ¬ (s.lanes k).all (fun i => s.flag LNE_STATUS.CDR_LOCK i) = true
  · exact if_pos hlanes
  · refine (if_neg hlanes).trans (if_pos ?_)
    obtain ⟨hlen, hclock⟩ := not_or.mp hlanes
    refine (h.resolve_left hlen).resolve_left fun ⟨i, hi, hoff⟩ => hclock fun hall => ?_
    rw [List.all_eq_true.mp hall i hi] at hoff
    cases hoff

theorem State.BlocksSeen.not_unclocked (h : s.BlocksSeen k ins) :
    ¬ (ins.length ≠ s.laneCount k ∨ ¬ (s.lanes k).all (fun i => s.flag LNE_STATUS.CDR_LOCK i) = true) :=
  not_or.mpr ⟨not_not_intro h.every, not_not_intro (List.all_eq_true.mpr h.clocked)⟩

theorem State.BlocksSeen.not_idle (h : s.BlocksSeen k ins) : ¬ (s.fld SPN_STATUS.STATE k ≠ spLock ∧
    s.fld SPN_STATUS.STATE k ≠ spCap ∧ s.fld SPN_STATUS.STATE k ≠ spStep) := fun ⟨hlock, hcap, hstep⟩ =>
  h.climbs.elim hlock (Or.rec hcap hstep)

section Seen
variable (hseen : s.BlocksSeen k ins)
include hseen

theorem onBlockLock_waits (h : (s.lockLanes k ins).allBlockLock k = false ∨ aligned ins = false) :
    onBlockLock k ins s = s.lockLanes k ins := by
  rw [onBlockLock, if_neg hseen.not_unclocked, if_neg hseen.not_idle]
  exact if_pos (h.imp Bool.eq_false_iff.mp Bool.eq_false_iff.mp)

variable (hall : (s.lockLanes k ins).allBlockLock k = true) (haligned : aligned ins = true)
include hall haligned

omit hseen in
theorem allLocked_and_aligned : ¬ (¬ (s.lockLanes k ins).allBlockLock k = true ∨ ¬ aligned ins = true) :=
  not_or.mpr ⟨not_not_intro hall, not_not_intro haligned⟩

theorem onBlockLock_cap (hst : s.fld SPN_STATUS.STATE k = spLock) : onBlockLock k ins s =
    ((s.lockLanes k ins).setPort k { (s.lockLanes k ins).port k with
      capSent := false, capSeenOut := false, capGot := false, capSeenIn := false, lastCap := none }).setSpan k spCap := by
  rw [onBlockLock, if_neg hseen.not_unclocked, if_neg hseen.not_idle]
  exact (if_neg (allLocked_and_aligned hall haligned)).trans (if_pos hst)

/-- A step whose lanes all have block lock now acquires it once. -/
theorem onBlockLock_step (hst : s.fld SPN_STATUS.STATE k = spStep) (hnew : s.allBlockLock k = false)
    (hx : ((s.lockLanes k ins).port k).step = some x) : onBlockLock k ins s =
    if x.rate = 0 then State.upAt k 0 (s.lockLanes k ins)
    else (s.lockLanes k ins).each ((s.lockLanes k ins).lanes k) fun i s => State.tuneLane k x.rate i s := by
  rw [onBlockLock, if_neg hseen.not_unclocked, if_neg hseen.not_idle]
  refine (if_neg (allLocked_and_aligned hall haligned)).trans ((if_neg ?_).trans ?_)
  · rw [hst]
    decide
  · split
    case h_1 y hy =>
      obtain rfl := Option.some.inj (hx.symm.trans hy)
      exact if_neg (not_or.mpr ⟨not_not_intro hst, Bool.eq_false_iff.mp hnew⟩)
    case h_2 hnone => cases hx.symm.trans hnone

end Seen

/-! ### Block lock lost (R182, R185, R204) -/

theorem onBlockLockLoss_still (h : s.flag LNE_STATUS.BLOCK_LOCK lane = false ∨ unlocks heads = false) :
    onBlockLockLoss lane heads s = s := if_pos (h.imp Bool.eq_false_iff.mp Bool.eq_false_iff.mp)

section Lost
variable (hlock : s.flag LNE_STATUS.BLOCK_LOCK lane = true) (hlost : unlocks heads = true)
include hlock hlost

theorem locked_and_lost : ¬ (¬ s.flag LNE_STATUS.BLOCK_LOCK lane = true ∨ ¬ unlocks heads = true) :=
  not_or.mpr ⟨not_not_intro hlock, not_not_intro hlost⟩

theorem onBlockLockLoss_unused (h : (s.setFlag LNE_STATUS.BLOCK_LOCK false lane).activePort lane = none) :
    onBlockLockLoss lane heads s = s.setFlag LNE_STATUS.BLOCK_LOCK false lane := by
  rw [onBlockLockLoss, if_neg (locked_and_lost hlock hlost)]
  dsimp only
  rw [h]

theorem onBlockLockLoss_used {j : Nat} (h : (s.setFlag LNE_STATUS.BLOCK_LOCK false lane).activePort lane = some j) :
    onBlockLockLoss lane heads s =
      let u := s.setFlag LNE_STATUS.BLOCK_LOCK false lane
      if u.portUp j then u.spanDown j 0
      else if u.fld SPN_STATUS.STATE j = spStep ∧ u.fld SPN_STATUS.RATE j = 0 then u.toWait j
      else u := by
  rw [onBlockLockLoss, if_neg (locked_and_lost hlock hlost)]
  dsimp only
  rw [h]

end Lost

/-! ### Times of Table 7-6 -/

theorem onBringupTimeout_late (hst : s.fld SPN_STATUS.STATE k = spDetect ∨ s.fld SPN_STATUS.STATE k = spLock ∨
    s.fld SPN_STATUS.STATE k = spCap) (h : (s.port k).since + 2 * ms < s.clock) : onBringupTimeout k s = s.toWait k :=
  if_pos ⟨hst, h⟩

theorem onBringupTimeout_early (h : s.clock ≤ (s.port k).since + 2 * ms ∨ (s.fld SPN_STATUS.STATE k ≠ spDetect ∧
    s.fld SPN_STATUS.STATE k ≠ spLock ∧ s.fld SPN_STATUS.STATE k ≠ spCap)) : onBringupTimeout k s = s := by
  refine if_neg fun ⟨hst, hlate⟩ => ?_
  rcases h with h | ⟨hdetect, hlock, hcap⟩
  · omega
  · exact hst.elim hdetect (Or.rec hlock hcap)

theorem onWaitEnd_due (hst : s.fld SPN_STATUS.STATE k = spWait) (h : (s.port k).since + 10 * ms ≤ s.clock) :
    onWaitEnd k s = s.toDetect k := if_pos ⟨hst, h⟩

theorem onWaitEnd_early (h : s.fld SPN_STATUS.STATE k ≠ spWait ∨ s.clock < (s.port k).since + 10 * ms) : onWaitEnd k s = s :=
  if_neg fun ⟨hst, hdue⟩ => h.elim (· hst) (not_lt.mpr hdue)

/-! ### The CAP exchange (R183, R204) -/

theorem onCapPlankSend_due (hst : s.fld SPN_STATUS.STATE k = spCap)
    (h : ∀ t, (s.port k).lastCap = some t → t + 10 * us ≤ s.clock) : onCapPlankSend k s =
    ((s.emit (.capPlank k (s.ownCap k) (capCrc (s.ownCap k)))).setPort k { s.port k with
      capSent := true, capSeenOut := (s.port k).capSeenOut || (s.port k).capGot, lastCap := some s.clock }).capEnd k :=
  if_pos ⟨hst, (Option.all_eq_true _ _).mpr fun t ht => decide_eq_true (h t ht)⟩

theorem onCapPlankSend_early (h : s.fld SPN_STATUS.STATE k ≠ spCap ∨ ∃ t, (s.port k).lastCap = some t ∧ s.clock < t + 10 * us) :
    onCapPlankSend k s = s := by
  refine if_neg fun ⟨hst, hdue⟩ => ?_
  rcases h with h | ⟨t, ht, hearly⟩
  · exact h hst
  · exact absurd (of_decide_eq_true ((Option.all_eq_true _ _).mp hdue t ht)) (not_le.mpr hearly)

section Planks
variable (hopen : s.takesPlanks k) (hplank : carriesPlank blocks long bs)
include hopen hplank

section Cap
variable (htyp : (plankOf bs).typ = 4)
include htyp

theorem onCapPlank_up (hup : s.portUp k = true) : onCapPlank k blocks s = s.spanDown k 3 :=
  (State.receive_plank hopen hplank htyp).trans (if_pos hup)

theorem onCapPlank_cap (hst : s.fld SPN_STATUS.STATE k = spCap) : onCapPlank k blocks s =
    let c := capOf (plankOf bs).payload
    ((s.setPort k { s.port k with
      capGot := true, capSeenIn := (s.port k).capSeenIn || c.seen, farRate := c.rateMax, farWidth := c.width }).setFld
        SPN_STATUS.PEER c.node k).capEnd k := by
  refine (State.receive_plank hopen hplank htyp).trans ((if_neg fun hup => ?_).trans (if_pos hst))
  exact absurd (hst.symm.trans (State.portUp_iff.mp hup)) (by decide)

theorem onCapPlank_step (hup : s.portUp k = false) (hst : s.fld SPN_STATUS.STATE k ≠ spCap) : onCapPlank k blocks s = s :=
  (State.receive_plank hopen hplank htyp).trans ((if_neg (Bool.eq_false_iff.mp hup)).trans (if_neg hst))

end Cap

/-! ### Proposals (R184) -/

/-- The far end's proposal of a rate kept. -/
def State.keepFar (s : State) (k r : Nat) : State := s.setPort k { s.port k with farStep := some r }

omit hopen hplank in
theorem State.beginStep_keepFar (r : Nat) : (s.keepFar k r).beginStep k =
    if s.fld SPN_STATUS.STATE k = spStep ∧ (s.port k).step = none ∧ (s.port k).proposed = true ∧
        r = s.fld SPN_STATUS.RATE k + 1 ∧ s.fld SPN_STATUS.RATE k + 1 ≤ s.fld SPN_LADDER.TOP k then
      ((s.keepFar k r).setFld SPN_LADDER.STEP_SEQ (s.fld SPN_LADDER.STEP_SEQ k + 1) k).retune k (s.fld SPN_STATUS.RATE k + 1) false
    else s.keepFar k r := by
  have hfld : ∀ f, (s.keepFar k r).fld f k = s.fld f k := fun f => State.fld_congr rfl
  have hport : (s.keepFar k r).port k = { s.port k with farStep := some r } := State.port_setPort_same _ _
  simp only [State.beginStep, hfld, hport, Option.some.injEq]

section Step
variable (htyp : (plankOf bs).typ = 5)
include htyp

theorem onStepPropose_other (h : beAt bs 1 1 ≠ 1 ∨ s.portUp k = true) : onStepPropose k blocks s = s :=
  (State.receive_plank hopen hplank htyp).trans (if_pos h)

section Propose
variable (hop : beAt bs 1 1 = 1) (hup : s.portUp k = false)
include hop hup

theorem onStepPropose_propose : onStepPropose k blocks s = (s.keepFar k (beAt bs 2 1)).beginStep k :=
  (State.receive_plank hopen hplank htyp).trans (if_neg (not_or.mpr ⟨not_not_intro hop, Bool.eq_false_iff.mp hup⟩))

theorem onStepPropose_keeps (h : (s.port k).proposed = false ∨ s.fld SPN_STATUS.STATE k ≠ spStep ∨
    (s.port k).step.isSome = true ∨ beAt bs 2 1 ≠ s.fld SPN_STATUS.RATE k + 1 ∨
    s.fld SPN_LADDER.TOP k ≤ s.fld SPN_STATUS.RATE k) : onStepPropose k blocks s = s.keepFar k (beAt bs 2 1) := by
  rw [onStepPropose_propose hopen hplank htyp hop hup, State.beginStep_keepFar, if_neg]
  rintro ⟨hst, hnone, hproposed, hrate, htop⟩
  rcases h with h | h | h | h | h
  · cases h.symm.trans hproposed
  · exact h hst
  · rw [hnone] at h
    cases h
  · exact h hrate
  · omega

theorem onStepPropose_begins (hproposed : (s.port k).proposed = true) (hst : s.fld SPN_STATUS.STATE k = spStep)
    (hnone : (s.port k).step = none) (hrate : beAt bs 2 1 = s.fld SPN_STATUS.RATE k + 1)
    (htop : s.fld SPN_STATUS.RATE k < s.fld SPN_LADDER.TOP k) : onStepPropose k blocks s =
    ((s.keepFar k (beAt bs 2 1)).setFld SPN_LADDER.STEP_SEQ (s.fld SPN_LADDER.STEP_SEQ k + 1) k).retune k
      (s.fld SPN_STATUS.RATE k + 1) false := by
  rw [onStepPropose_propose hopen hplank htyp hop hup, State.beginStep_keepFar,
    if_pos ⟨hst, hnone, hproposed, hrate, htop⟩]

end Propose

/-! ### Requests for taps and votes (R184, R188) -/

/-- A port applies a request for taps: a valid one, in a step, for a lane of its own that is not under TX_MANUAL. -/
def State.takesTaps (s : State) (k : Nat) (bs : List Byte) : Prop :=
  beAt bs 1 1 = 3 ∧ s.fld SPN_STATUS.STATE k = spStep ∧ (s.port k).step.isSome = true ∧ beAt bs 3 1 < s.laneCount k ∧
    tapsOk (tapsAt bs) = true ∧ s.flag LNE_CFG.TX_MANUAL ((s.binding k).first + beAt bs 3 1) = false

theorem onStepTxreq_takes (h : s.takesTaps k bs) : onStepTxreq k blocks s =
    s.setFld LNE_TXEQ_ACT.TAPS (tapsWord (tapsAt bs)) ((s.binding k).first + beAt bs 3 1) := by
  obtain ⟨hop, hst, hstep, hlane, htaps, hmanual⟩ := h
  exact (State.receive_plank hopen hplank htyp).trans
    (if_pos ⟨hop, hst, hstep, hlane, htaps, Bool.eq_false_iff.mp hmanual⟩)

theorem onStepTxreq_other (h : ¬ s.takesTaps k bs) : onStepTxreq k blocks s = s := by
  refine (State.receive_plank hopen hplank htyp).trans (if_neg ?_)
  rintro ⟨hop, hst, hstep, hlane, htaps, hmanual⟩
  exact h ⟨hop, hst, hstep, hlane, htaps, Bool.eq_false_iff.mpr hmanual⟩

theorem onStepResult_noStep (h : (s.port k).step = none) : onStepResult k blocks s = s := by
  rw [onStepResult, State.receive_plank hopen hplank htyp, h]

theorem onStepResult_step (hx : (s.port k).step = some x) : onStepResult k blocks s =
    if beAt bs 1 1 = 2 ∧ x.rate = beAt bs 2 1 then
      (s.setPort k { s.port k with step := some { x with far := some (decide (beAt bs 3 1 = 1)) } }).stepDecide k
    else s := by
  rw [onStepResult, State.receive_plank hopen hplank htyp, hx]

end Step

end Planks

/-! ### The eye check and the end of a step (R184, R185, R187, R191) -/

theorem onEyeCheckDone_noStep (h : (s.port k).step = none) : onEyeCheckDone k points s = s := by
  rw [onEyeCheckDone, h]

theorem onStepTimeout_noStep (h : (s.port k).step = none) : onStepTimeout k s = s := by
  rw [onStepTimeout, h]

section InStep
variable (hx : (s.port k).step = some x)
include hx

theorem onEyeCheckDone_unasked (h : x.eye ≠ none ∨ x.rate = 0 ∨ s.allBlockLock k = false) : onEyeCheckDone k points s = s := by
  rw [onEyeCheckDone, hx]
  exact if_pos (h.imp_right (Or.imp_right Bool.eq_false_iff.mp))

/-- The lanes that pass an eye check. -/
def State.eyeMask (s : State) (k : Nat) (x : Step) (points : List EyePoint) : Nat :=
  maskWhere (s.laneCount k) (eyePasses (s.eyePoints k x.rate) points)

/-- Whether every lane of a port passes an eye check. -/
def State.eyeOk (s : State) (k : Nat) (x : Step) (points : List EyePoint) : Bool :=
  decide (s.eyeMask k x points = 2 ^ s.laneCount k - 1)

section Checked
variable (hnew : x.eye = none) (hrate : x.rate ≠ 0) (hall : s.allBlockLock k = true)
include hnew hrate hall

omit hx in
theorem eyeCheck_asked : ¬ (x.eye ≠ none ∨ x.rate = 0 ∨ ¬ s.allBlockLock k = true) :=
  not_or.mpr ⟨not_not_intro hnew, not_or.mpr ⟨hrate, not_not_intro hall⟩⟩

/-- In HW mode the end votes at once. -/
theorem onEyeCheckDone_votes (hhw : s.assist 7 = false) : onEyeCheckDone k points s =
    (s.setPort k { s.port k with step := some { x with
      eye := some (s.eyeOk k x points), vote := some (s.eyeOk k x points) } }).sendStep k 2 x.rate
      (b2n (s.eyeOk k x points)) [0, 0, 0, 0, 0] := by
  rw [onEyeCheckDone, hx]
  exact (if_neg (eyeCheck_asked hnew hrate hall)).trans (if_neg (Bool.eq_false_iff.mp hhw))

/-- In ASSIST the vote is held for 2 ms and the host is told (R191). -/
theorem onEyeCheckDone_asks (hassist : s.assist 7 = true) : onEyeCheckDone k points s =
    let u := s.setPort k { s.port k with step := some { x with
      eye := some (s.eyeOk k x points), deadline := some (s.clock + 2 * ms) } }
    u.raise 0x0801 [(16, 1, k), (17, 1, x.rate), (18, 1, s.eyeMask k x points), (20, 4, u.stepPeriod k)] := by
  rw [onEyeCheckDone, hx]
  exact (if_neg (eyeCheck_asked hnew hrate hall)).trans (if_pos hassist)

end Checked

theorem onStepTimeout_early (h : s.clock < x.since + 6 * ms) : onStepTimeout k s = s := by
  rw [onStepTimeout, hx]
  exact if_pos h

theorem onStepTimeout_late (h : x.since + 6 * ms ≤ s.clock) :
    onStepTimeout k s = if x.rate = 0 then s.toWait k else s.stepFail k x := by
  rw [onStepTimeout, hx]
  exact if_neg (not_lt.mpr h)

end InStep

/-! ### The commands -/

section Awake
variable (hawake : s.awake = true)
include hawake

theorem exec_cdrLock : exec (.cdrLock k) s = .next (onCdrLock k s) := congrArg _ (State.guarded_of_awake _ hawake)

theorem exec_blockLock : exec (.blockLock k ins) s = .next (onBlockLock k ins s) := congrArg _ (State.guarded_of_awake _ hawake)

theorem exec_blockLockLoss : exec (.blockLockLoss lane heads) s = .next (onBlockLockLoss lane heads s) :=
  congrArg _ (State.guarded_of_awake _ hawake)

theorem exec_bringupTimeout : exec (.bringupTimeout k) s = .next (onBringupTimeout k s) :=
  congrArg _ (State.guarded_of_awake _ hawake)

theorem exec_waitEnd : exec (.waitEnd k) s = .next (onWaitEnd k s) := congrArg _ (State.guarded_of_awake _ hawake)

theorem exec_capPlankSend : exec (.capPlankSend k) s = .next (onCapPlankSend k s) :=
  congrArg _ (State.guarded_of_awake _ hawake)

theorem exec_capPlank : exec (.capPlank k blocks) s = .next (onCapPlank k blocks s) :=
  congrArg _ (State.guarded_of_awake _ hawake)

theorem exec_stepPropose : exec (.stepPropose k blocks) s = .next (onStepPropose k blocks s) :=
  congrArg _ (State.guarded_of_awake _ hawake)

theorem exec_stepTxreq : exec (.stepTxreq k blocks) s = .next (onStepTxreq k blocks s) :=
  congrArg _ (State.guarded_of_awake _ hawake)

theorem exec_stepResult : exec (.stepResult k blocks) s = .next (onStepResult k blocks s) :=
  congrArg _ (State.guarded_of_awake _ hawake)

theorem exec_eyeCheckDone : exec (.eyeCheckDone k points) s = .next (onEyeCheckDone k points s) :=
  congrArg _ (State.guarded_of_awake _ hawake)

theorem exec_stepTimeout : exec (.stepTimeout k) s = .next (onStepTimeout k s) := congrArg _ (State.guarded_of_awake _ hawake)

end Awake

end BringUp

/-- Settles O46: each row by the state of its port and what it holds; planks off the line go through `State.receive`, and a PROPOSE
is kept first (`State.keepFar`) and then begins the step or not (R184); a fallback's timeout is that of a step (log entry 142). -/
theorem spanBringUp : Obligations.SpanBringUp := by
  unfold Obligations.SpanBringUp
  intro s k lane ins heads points bs blocks long hawake
  rw [exec_cdrLock hawake, exec_blockLock hawake, exec_blockLockLoss hawake, exec_bringupTimeout hawake, exec_waitEnd hawake,
    exec_capPlankSend hawake, exec_capPlank hawake, exec_stepPropose hawake, exec_stepTxreq hawake, exec_stepResult hawake,
    exec_eyeCheckDone hawake, exec_stepTimeout hawake]
  intro st y clocked locked whole live
  refine ⟨fun hst hbound => ?_, fun hst hstep => ?_, fun hdetect hstep => ?_, fun hlen hclock => ⟨fun hnot hst => ?_,
    fun hall haligned => ⟨fun hst => ?_, fun x hst hnew hx => ⟨fun hrate => ?_, fun hrate => ?_⟩⟩⟩, fun hunseen => ?_,
    fun hlock hlost => ⟨fun hnone => ?_, fun j hj => ?_⟩, fun hstill => ?_, fun hst hlate => ?_, fun hearly => ?_,
    fun hst hdue => ?_, fun hearly => ?_, fun hst hdue => ⟨?_, rfl, rfl, rfl⟩, fun hearly => ?_,
    fun hwhole hlive htyp => ⟨fun hup => ?_, fun hst => ?_, fun hup hst => ?_⟩,
    fun hwhole hlive htyp => ⟨fun hop hup => ⟨fun hkeeps => ?_, fun hproposed hst hnone hrate htop => ?_⟩, fun hother => ?_,
      ⟨fun htakes => ?_, fun hother => ?_⟩, fun hnone => ?_, fun x hx => ⟨fun hop hrate => ?_, fun hother => ?_⟩⟩,
    fun hnone => ⟨?_, ?_⟩, fun x hx => ⟨fun hunasked => ?_, fun hnew hrate hall => ⟨fun hhw => ?_, fun hassist => ?_⟩,
      fun hearly => ?_, fun hlate => ?_⟩⟩
  · exact congrArg _ (onCdrLock_detect hst hbound)
  · exact congrArg _ (onCdrLock_step hst hstep)
  · exact congrArg _ (onCdrLock_other hdetect hstep)
  · exact congrArg _ (onBlockLock_waits ⟨hlen, hclock, hst⟩ hnot)
  · exact congrArg _ (onBlockLock_cap ⟨hlen, hclock, .inl hst⟩ hall haligned hst)
  · exact congrArg _ ((onBlockLock_step ⟨hlen, hclock, .inr (.inr hst)⟩ hall haligned hst hnew hx).trans (if_pos hrate))
  · exact congrArg _ ((onBlockLock_step ⟨hlen, hclock, .inr (.inr hst)⟩ hall haligned hst hnew hx).trans (if_neg hrate))
  · exact congrArg _ (onBlockLock_unseen hunseen)
  · exact congrArg _ (onBlockLockLoss_unused hlock hlost hnone)
  · exact congrArg _ (onBlockLockLoss_used hlock hlost hj)
  · exact congrArg _ (onBlockLockLoss_still hstill)
  · exact congrArg _ (onBringupTimeout_late hst hlate)
  · exact congrArg _ (onBringupTimeout_early hearly)
  · exact congrArg _ (onWaitEnd_due hst hdue)
  · exact congrArg _ (onWaitEnd_early hearly)
  · exact congrArg _ (onCapPlankSend_due hst hdue)
  · exact congrArg _ (onCapPlankSend_early hearly)
  · exact congrArg _ (onCapPlank_up hlive hwhole htyp hup)
  · exact congrArg _ (onCapPlank_cap hlive hwhole htyp hst)
  · exact congrArg _ (onCapPlank_step hlive hwhole htyp hup hst)
  · exact congrArg _ (onStepPropose_keeps hlive hwhole htyp hop hup hkeeps)
  · exact congrArg _ (onStepPropose_begins hlive hwhole htyp hop hup hproposed hst hnone hrate htop)
  · exact congrArg _ (onStepPropose_other hlive hwhole htyp hother)
  · exact congrArg _ (onStepTxreq_takes hlive hwhole htyp htakes)
  · exact congrArg _ (onStepTxreq_other hlive hwhole htyp hother)
  · exact congrArg _ (onStepResult_noStep hlive hwhole htyp hnone)
  · exact congrArg _ ((onStepResult_step hlive hwhole htyp hx).trans (if_pos ⟨hop, hrate⟩))
  · exact congrArg _ ((onStepResult_step hlive hwhole htyp hx).trans (if_neg (not_and_or.mpr hother)))
  · exact congrArg _ (onEyeCheckDone_noStep hnone)
  · exact congrArg _ (onStepTimeout_noStep hnone)
  · exact congrArg _ (onEyeCheckDone_unasked hx hunasked)
  · exact congrArg _ (onEyeCheckDone_votes hx hnew hrate hall hhw)
  · exact congrArg _ (onEyeCheckDone_asks hx hnew hrate hall hassist)
  · exact congrArg _ (onStepTimeout_early hx hearly)
  · exact congrArg _ (onStepTimeout_late hx hlate)

end Sys2Proof.Machine

/-! THEOREMS. Control of span ports and lanes, test patterns and eye scans, FEC, hardware bypass (R177, R182, R190, R192, R193, R204,
R207, R208, R210, R230). -/

namespace Sys2Proof.Machine

section Control
variable {s : State} {p : Path} {k : Fin 16} {lane : Fin 128} {q : Fin 24} {tag n : Nat} {v : Word} {l : List Bool}
  {symbols : List (BitVec 10)}

/-! ### Registers of ports and lanes (Tables 7-11 and 7-12) -/

theorem spanCfg_row : ∀ k : Fin 16, registerAt (SPN_CFG.EN.addr k) 0xA0000 k = true := by decide +kernel

theorem spanInj_row : ∀ k : Fin 16, registerAt (SPN_INJ.VC.addr k) 0xA0040 k = true := by decide +kernel

theorem laneInj_row : ∀ lane : Fin 128, registerAt (LNE_INJ.ONE.addr lane) 0x80038 lane = true := by decide +kernel

theorem eyeCtrl_row : ∀ lane : Fin 128, registerAt (LNE_EYE_CTRL.START.addr lane) 0x80020 lane = true := by decide +kernel

/-- A write of a word at the address of a register that the table gives. -/
theorem State.putWord_of_row {a base i : Nat} {d : RegDesc} (h : registerAt a base i = true) (hreg : regAt a = some (d, i, false))
    (v : Nat) : d.base = base ∧ s.putWord p a v = s.writeReg p.port d i a v := by
  obtain ⟨e, he, hbase, hput⟩ := State.putWord_at (s := s) (p := p) h
  obtain rfl : e = d := congrArg Prod.fst (Option.some.inj (he.symm.trans hreg))
  exact ⟨hbase, hput v⟩

theorem State.putWord_spanCfg {d : RegDesc} (h : regAt (SPN_CFG.EN.addr k) = some (d, k.val, false)) (v : Nat) :
    s.putWord p (SPN_CFG.EN.addr k) v = s.writeSpanCfg d k (SPN_CFG.EN.addr k) v := by
  obtain ⟨hbase, hput⟩ := State.putWord_of_row (s := s) (p := p) (spanCfg_row k) h v
  rw [hput, State.writeReg, hbase]
  rfl

theorem State.putWord_spanInj (v : Nat) : s.putWord p (SPN_INJ.VC.addr k) v = s.writeSpanInj k v := by
  obtain ⟨d, -, hbase, hput⟩ := State.putWord_at (spanInj_row k)
  rw [hput, State.writeReg, hbase]
  rfl

theorem State.putWord_laneInj {d : RegDesc} (h : regAt (LNE_INJ.ONE.addr lane) = some (d, lane.val, false)) (v : Nat) :
    s.putWord p (LNE_INJ.ONE.addr lane) v = s.writeLaneInj d lane (LNE_INJ.ONE.addr lane) v := by
  obtain ⟨hbase, hput⟩ := State.putWord_of_row (s := s) (p := p) (laneInj_row lane) h v
  rw [hput, State.writeReg, hbase]
  rfl

theorem State.putWord_eyeCtrl {d : RegDesc} (h : regAt (LNE_EYE_CTRL.START.addr lane) = some (d, lane.val, false)) (v : Nat) :
    s.putWord p (LNE_EYE_CTRL.START.addr lane) v = s.writeEyeCtrl d lane (LNE_EYE_CTRL.START.addr lane) v := by
  obtain ⟨hbase, hput⟩ := State.putWord_of_row (s := s) (p := p) (eyeCtrl_row lane) h v
  rw [hput, State.writeReg, hbase]
  rfl

/-! ### Enable (R182, R210) -/

section Enable
variable {j : Nat}

theorem State.setSpanEnable_unused {en : Bool} (h : ((s.setFlag SPN_CFG.EN en j).binding j).width = 0 ∨
    (s.setFlag SPN_CFG.EN en j).fld SPN_STATUS.STATE j = spBypass) : s.setSpanEnable j en = s.setFlag SPN_CFG.EN en j := if_pos h

theorem State.setSpanEnable_on (hwas : s.flag SPN_CFG.EN j = false) (hbound : ((s.setFlag SPN_CFG.EN true j).binding j).width ≠ 0)
    (hst : (s.setFlag SPN_CFG.EN true j).fld SPN_STATUS.STATE j ≠ spBypass) :
    s.setSpanEnable j true = (s.setFlag SPN_CFG.EN true j).bringUp j :=
  (if_neg (not_or.mpr ⟨hbound, hst⟩)).trans (if_neg (Bool.eq_false_iff.mp hwas))

theorem State.setSpanEnable_off (hbound : ((s.setFlag SPN_CFG.EN false j).binding j).width ≠ 0)
    (hst : (s.setFlag SPN_CFG.EN false j).fld SPN_STATUS.STATE j ≠ spBypass) : s.setSpanEnable j false =
      (((((s.setFlag SPN_CFG.EN false j).leaveUp j 7).toDetect j).setSpan j spDisabled).endRetrains j 0x0901 fun _ => true) :=
  if_neg (not_or.mpr ⟨hbound, hst⟩)

/-- The state with EN brought to a value. -/
def State.withEnable (s : State) (k : Nat) (en : Bool) : State := if s.flag SPN_CFG.EN k = en then s else s.setSpanEnable k en

end Enable

/-! ### Writes of SPN_CFG (R182, R204, R210) -/

/-- A word of SPN_CFG stored, EN and RETRAIN as they were. -/
def State.spanStored (s : State) (d : RegDesc) (k v : Nat) : State :=
  s.writePlain d (SPN_CFG.EN.addr k) (insertBits v 0 2 (bits (s.cur (SPN_CFG.EN.addr k)).toNat 0 1))

/-- The word of SPN_CFG that sets RETRAIN and leaves its other fields. -/
def State.retrainWord (s : State) (k : Nat) : Nat := insertBits (s.word (SPN_CFG.EN.addr k) SPN_CFG.EN.rst).toNat 1 1 1

section Open
variable (hopen : s.pathOpen p = true)
include hopen

section Cfg
variable {d : RegDesc} (hreg : regAt (SPN_CFG.EN.addr k) = some (d, k.val, false))
include hreg

theorem onSpanEnableWrite_stores (h : bits v.toNat 1 1 = 0) : onSpanEnableWrite p k v s =
    (s.spanStored d k v.toNat).withEnable k (decide (bits v.toNat 0 1 = 1)) := by
  rw [onSpanEnableWrite, if_pos h, State.hostWriteWord_open _ hopen, State.putWord_spanCfg hreg]
  exact if_neg fun hset => absurd (h.symm.trans hset.1) (by decide)

theorem onSpanEnableWrite_changes (h : bits v.toNat 1 1 = 0)
    (hnew : (s.spanStored d k v.toNat).flag SPN_CFG.EN k ≠ decide (bits v.toNat 0 1 = 1)) : onSpanEnableWrite p k v s =
      (s.spanStored d k v.toNat).setSpanEnable k (decide (bits v.toNat 0 1 = 1)) := by
  rw [onSpanEnableWrite_stores hopen hreg h, State.withEnable, if_neg hnew]

theorem onSpanRetrainWrite_open : onSpanRetrainWrite p k s =
    let w := (s.spanStored d k (s.retrainWord k)).withEnable k (decide (bits (s.retrainWord k) 0 1 = 1))
    if w.fld SPN_STATUS.STATE k ≠ spDisabled ∧ w.fld SPN_STATUS.STATE k ≠ spBypass then
      (w.setFlag SPN_CFG.RETRAIN true k).retrain k 4
    else w := by
  have hset : bits (s.retrainWord k) 1 1 = 1 := bits_insertBits ..
  rw [onSpanRetrainWrite, State.hostWriteWord_open _ hopen, State.putWord_spanCfg hreg]
  exact if_congr (and_iff_right hset) rfl rfl

end Cfg

/-! ### Injection (R193) -/

theorem onSpanInject_open : onSpanInject p k v s = s.inject k (bits v.toNat 0 2)
    (decide (bits v.toNat 2 1 = 1) && decide (bits v.toNat 0 2 ≠ 3)) (decide (bits v.toNat 3 1 = 1)) := by
  rw [onSpanInject, State.hostWriteWord_open _ hopen, State.putWord_spanInj, State.writeSpanInj]

theorem onLaneInjectOne_open {d : RegDesc} (hreg : regAt (LNE_INJ.ONE.addr lane) = some (d, lane.val, false)) :
    onLaneInjectOne p lane s =
      let w := s.writePlain d (LNE_INJ.ONE.addr lane) (1 + 2 * s.fld LNE_INJ.RATE lane)
      let u := if w.fld LNE_INJ.RATE lane = s.fld LNE_INJ.RATE lane then w else w.emit (.flippedRate lane (w.fld LNE_INJ.RATE lane))
      u.emit (.flippedBit lane) := by
  rw [onLaneInjectOne, State.hostWriteWord_open _ hopen, State.putWord_laneInj hreg]
  exact if_pos (Nat.add_mul_mod_self_left 1 2 _)

/-! ### Eye scans (R190) -/

/-- The word that a write of LNE_EYE_CTRL stores: on NRZ an EYE but 0 is reserved. -/
def State.eyeWord (s : State) (lane v : Nat) : Nat :=
  if s.fld LNE_STATUS.RATE lane ≠ 6 ∧ bits v 16 2 ≠ 0 then insertBits v 16 2 (s.fld LNE_EYE_CTRL.EYE lane) else v

/-- A scan that is started: DONE clears, and it runs unless a step's eye check does. -/
def State.scanStarted (s : State) (lane : Nat) : State :=
  let w := s.setFlag LNE_EYE_CTRL.DONE false lane
  w.setLane lane { w.lane lane with scanning := ! s.eyeBusy lane, waiting := s.eyeBusy lane }

omit hopen in
theorem State.startScan_eq (s : State) (lane : Nat) : s.startScan lane = s.scanStarted lane := rfl

theorem onEyeScanStart_starts {d : RegDesc} (hreg : regAt (LNE_EYE_CTRL.START.addr lane) = some (d, lane.val, false))
    (hstart : bits v.toNat 24 1 = 1) : onEyeScanStart p lane v s =
      (s.writePlain d (LNE_EYE_CTRL.START.addr lane) (s.eyeWord lane v.toNat)).scanStarted lane := by
  have hkept : bits (s.eyeWord lane v.toNat) 24 1 = 1 := by
    rw [State.eyeWord]
    split
    · rw [bits_insertBits_above _ _ _ _ _ _ (by decide), hstart]
    · exact hstart
  rw [onEyeScanStart, if_pos hstart, State.hostWriteWord_open _ hopen, State.putWord_eyeCtrl hreg,
    ← State.startScan_eq]
  exact if_pos hkept

end Open

theorem onSpanEnableWrite_retrain (h : bits v.toNat 1 1 = 1) : onSpanEnableWrite p k v s = s :=
  if_neg fun hzero => absurd (hzero.symm.trans h) (by decide)

theorem onEyeScanStart_none (h : bits v.toNat 24 1 = 0) : onEyeScanStart p lane v s = s :=
  if_neg fun hone => absurd (h.symm.trans hone) (by decide)

/-- A scan runs on a lane, or one that waits is free to. -/
def State.scanRuns (s : State) (lane : Nat) : Prop :=
  (s.lane lane).scanning = true ∨ ((s.lane lane).waiting = true ∧ s.eyeBusy lane = false)

theorem onEyeScanDone_runs (h : s.scanRuns lane) : onEyeScanDone lane n s =
    ((s.setFld LNE_EYE_ERR.ERR (min n 0xFFFFFFFF) lane).setFlag LNE_EYE_CTRL.DONE true lane).setLane lane
      { s.lane lane with scanning := false, waiting := false } :=
  if_pos (h.imp_right (And.imp_right Bool.eq_false_iff.mp))

theorem onEyeScanDone_none (h : ¬ s.scanRuns lane) : onEyeScanDone lane n s = s :=
  if_neg fun hruns => h (hruns.imp_right (And.imp_right Bool.eq_false_iff.mpr))

/-! ### CMD_SPAN_RETRAIN (Table 7-13) -/

theorem onCmdSpanRetrain_none (h : s.cmd q tag 0x0901 = none) : onCmdSpanRetrain q tag s = s := by
  rw [onCmdSpanRetrain, h]

theorem onCmdSpanRetrain_started {c : Cmd} (h : s.cmd q tag 0x0901 = some c) : onCmdSpanRetrain q tag s =
    let j := c.opnd 32 1
    if (s.binding j).width = 0 ∨ ¬ s.flag SPN_CFG.EN j = true then s.finish c 0x0901
    else if s.fld SPN_STATUS.STATE j = spBypass then s.finish c 0x0902
    else (s.run c).retrain j 4 := by
  rw [onCmdSpanRetrain, h]

/-! ### Test patterns (R192) -/

theorem onPrbsLock_off (h : s.flag LNE_CFG.PRBS_CHK lane = false ∨ prbsTaps (s.fld LNE_CFG.PRBS_SEL lane) = none) :
    onPrbsLock lane l s = s := by
  rw [onPrbsLock]
  split
  case h_1 => rfl
  case h_2 t ht => exact if_pos (h.elim Bool.eq_false_iff.mp fun hnone => by cases hnone.symm.trans ht)

theorem onPrbsLock_on {t : Nat × Nat} (hon : s.flag LNE_CFG.PRBS_CHK lane = true)
    (ht : prbsTaps (s.fld LNE_CFG.PRBS_SEL lane) = some t) : onPrbsLock lane l s =
    let r := Checker.feed t (s.lane lane).checker l
    let u := (s.setFlag LNE_STATUS.PRBS_LOCK r.1.lock lane).bump LNE_PRBS_ERR.ERR lane r.2.2
    (u.setPair LNE_PRBS_BITS.BITS (u.pair LNE_PRBS_BITS.BITS lane + r.2.1) lane).setLane lane { s.lane lane with checker := r.1 } := by
  rw [onPrbsLock, ht]
  exact if_neg (not_not_intro hon)

/-! ### Codewords of PAM4 lanes (R177, R204) -/

theorem onFecUncorrectable_other (h : s.fld LNE_STATUS.RATE lane ≠ 6 ∨ symbols.length ≠ 544) :
    onFecUncorrectable lane symbols s = s := if_pos h

section Codeword
variable (hrate : s.fld LNE_STATUS.RATE lane = 6) (hlen : symbols.length = 544)
include hrate hlen

theorem onFecUncorrectable_corrected {m : Nat} (h : corrected (symbols.map (·.toNat)) = some m) :
    onFecUncorrectable lane symbols s = s.bump LNE_FEC.CORR_SYM lane m := by
  rw [onFecUncorrectable, if_neg (not_or.mpr ⟨not_not_intro hrate, not_not_intro hlen⟩), h]

section Lost
variable (hlost : corrected (symbols.map (·.toNat)) = none)
include hlost

theorem onFecUncorrectable_unused (h : (s.bump LNE_FEC.UNCORR lane).activePort lane = none) :
    onFecUncorrectable lane symbols s = s.bump LNE_FEC.UNCORR lane := by
  rw [onFecUncorrectable, if_neg (not_or.mpr ⟨not_not_intro hrate, not_not_intro hlen⟩), hlost]
  dsimp only
  rw [h]

/-- The uncorrectable codewords of a port within the last ms, this one among them. -/
def State.uncorrNow (s : State) (k : Nat) : List Nat := ((s.port k).uncorrAt.filter fun t => s.clock ≤ t + ms) ++ [s.clock]

theorem onFecUncorrectable_used {j : Nat} (h : (s.bump LNE_FEC.UNCORR lane).activePort lane = some j) :
    onFecUncorrectable lane symbols s =
      let u := s.bump LNE_FEC.UNCORR lane
      if ¬ u.portUp j = true then u
      else
        let w := (u.setPort j { u.port j with uncorr := (u.port j).uncorr + 1, uncorrAt := u.uncorrNow j }).degrade j
        if 8 < (u.uncorrNow j).length then w.spanDown j 2 else w := by
  rw [onFecUncorrectable, if_neg (not_or.mpr ⟨not_not_intro hrate, not_not_intro hlen⟩), hlost]
  dsimp only
  rw [h]
  rfl

end Lost

end Codeword

/-! ### Hardware bypass (R208, R230) -/

theorem onSpanFabricStop_runs (h : s.span.stopped = none) :
    onSpanFabricStop s = { s with span := { s.span with stopped := some s.clock, idle := true } } :=
  if_neg (by rw [h]; decide)

theorem onSpanFabricStop_stopped (h : s.span.stopped ≠ none) : onSpanFabricStop s = s := if_pos (Option.isSome_iff_ne_none.mpr h)

/-- The span fabric has been stopped for 100 µs, or wall time stands still. -/
def State.stoppedLong (s : State) : Bool :=
  match s.span.stopped with
  | some t => ! s.clocked || decide (t + 100 * us ≤ s.clock)
  | none => false

theorem State.stoppedLong_iff : s.stoppedLong = true ↔
    ∃ t, s.span.stopped = some t ∧ (s.clocked = false ∨ t + 100 * us ≤ s.clock) := by
  rw [State.stoppedLong]
  cases s.span.stopped with
  | none => simp
  | some t => simp

theorem onBypassEnter_eq : onBypassEnter s =
    if ¬ s.span.bypass = true ∧ s.fld PWR_STATE.STATE ≠ 4 ∧ (s.stoppedLong = true ∨ s.fld PWR_STATE.STATE = 3) then s.joinBypass
    else s := rfl

theorem onBypassEnter_joins (hapart : s.span.bypass = false) (hrelays : s.fld PWR_STATE.STATE ≠ 4)
    (h : s.stoppedLong = true ∨ s.fld PWR_STATE.STATE = 3) : onBypassEnter s = s.joinBypass :=
  onBypassEnter_eq.trans (if_pos ⟨Bool.eq_false_iff.mp hapart, hrelays, h⟩)

theorem onBypassEnter_stays (h : s.span.bypass = true ∨ s.fld PWR_STATE.STATE = 4 ∨
    (¬ s.stoppedLong = true ∧ s.fld PWR_STATE.STATE ≠ 3)) : onBypassEnter s = s := by
  refine onBypassEnter_eq.trans (if_neg fun ⟨hapart, hrelays, hlong⟩ => ?_)
  rcases h with h | h | ⟨hshort, hstate⟩
  · exact hapart h
  · exact hrelays h
  · exact hlong.elim hshort hstate

/-- The span fabric has run for 10 ms without interruption outside P3. -/
def State.runsAgain (s : State) : Prop :=
  s.span.bypass = true ∧ s.span.stopped = none ∧ s.fld PWR_STATE.STATE ≠ 3 ∧ s.span.running + 10 * ms ≤ s.clock

theorem onBypassExit_ends (h : s.runsAgain) : onBypassExit s =
    State.each { s with span := { s.span with bypass := false } } s.bypassPorts fun k s =>
      if s.flag SPN_CFG.EN k = true ∧ (s.binding k).width ≠ 0 then s.toDetect k else (s.toDetect k).setSpan k spDisabled := if_pos h

theorem onBypassExit_stays (h : ¬ s.runsAgain) : onBypassExit s = s := if_neg h

/-! ### The commands -/

section Awake
variable (hawake : s.awake = true)
include hawake

theorem exec_spanEnableWrite : exec (.spanEnableWrite p k v) s = .next (onSpanEnableWrite p k v s) :=
  congrArg _ (State.guarded_of_awake _ hawake)

theorem exec_spanRetrainWrite : exec (.spanRetrainWrite p k) s = .next (onSpanRetrainWrite p k s) :=
  congrArg _ (State.guarded_of_awake _ hawake)

theorem exec_spanInject : exec (.spanInject p k v) s = .next (onSpanInject p k v s) :=
  congrArg _ (State.guarded_of_awake _ hawake)

theorem exec_laneInjectOne : exec (.laneInjectOne p lane) s = .next (onLaneInjectOne p lane s) :=
  congrArg _ (State.guarded_of_awake _ hawake)

theorem exec_eyeScanStart : exec (.eyeScanStart p lane v) s = .next (onEyeScanStart p lane v s) :=
  congrArg _ (State.guarded_of_awake _ hawake)

theorem exec_eyeScanDone : exec (.eyeScanDone lane n) s = .next (onEyeScanDone lane n s) :=
  congrArg _ (State.guarded_of_awake _ hawake)

theorem exec_cmdSpanRetrain : exec (.cmdSpanRetrain q tag) s = .next (onCmdSpanRetrain q tag s) :=
  congrArg _ (State.guarded_of_awake _ hawake)

theorem exec_prbsLock : exec (.prbsLock lane l) s = .next (onPrbsLock lane l s) := congrArg _ (State.guarded_of_awake _ hawake)

theorem exec_fecUncorrectable : exec (.fecUncorrectable lane symbols) s = .next (onFecUncorrectable lane symbols s) :=
  congrArg _ (State.guarded_of_awake _ hawake)

theorem exec_spanFabricStop : exec .spanFabricStop s = .next (onSpanFabricStop s) := congrArg _ (State.guarded_of_awake _ hawake)

theorem exec_bypassExit : exec .bypassExit s = .next (onBypassExit s) := congrArg _ (State.guarded_of_awake _ hawake)

end Awake

/-- The bypass monitor does not need the device (R230). -/
theorem exec_bypassEnter : exec .bypassEnter s = .next (onBypassEnter s) := rfl

end Control

/-- Settles O47: a write of a register with an effect of its own is that effect (`State.putWord_spanCfg` and its like); EN is brought
to its value by `State.setSpanEnable`, which ends running retrains of a port disabled (log entry 145); SPN_INJ with VC 3 corrupts no
CRC (log entry 82); the checker before and after lock is `Checker.feed` (log entry 109); the other rows by the state of their lane,
their port or the bypass monitor. -/
theorem spanControl : Obligations.SpanControl := by
  unfold Obligations.SpanControl
  intro s p k lane q tag n v l symbols hawake
  rw [exec_spanEnableWrite hawake, exec_spanInject hawake, exec_spanRetrainWrite hawake, exec_laneInjectOne hawake,
    exec_eyeScanStart hawake, exec_eyeScanDone hawake, exec_cmdSpanRetrain hawake, exec_prbsLock hawake, exec_fecUncorrectable hawake,
    exec_spanFabricStop hawake, exec_bypassEnter, exec_bypassExit hawake]
  obtain ⟨-, dcfg, hcfg, -⟩ := regAt_of_registerAt (spanCfg_row k)
  obtain ⟨-, dinj, hinj, -⟩ := regAt_of_registerAt (laneInj_row lane)
  obtain ⟨-, deye, heye, -⟩ := regAt_of_registerAt (eyeCtrl_row lane)
  refine ⟨fun hopen => ⟨⟨dcfg, hcfg, fun hleave => ⟨fun hsame => ?_, fun hnew => ⟨fun hunused => ?_,
      fun hbound hst => ⟨fun hen => ?_, fun hen => ?_⟩⟩⟩, fun hset => ?_, fun hoff hbypass => ?_, fun hoff => ?_⟩, ?_,
      ⟨dinj, hinj, ?_⟩, ⟨deye, heye, fun hstart => ?_, fun hnone => ?_⟩⟩,
    fun hnone => ?_, fun c hc => ⟨fun hunused => ?_, fun hbound hen => ⟨fun hbypass => ?_, fun hbypass => ?_⟩⟩, fun hoff => ?_,
    fun t hon ht => ?_, ⟨fun hruns => ?_, fun hnot => ?_⟩, fun hother => ?_,
    fun hrate hlen => ⟨fun m hm => ?_, fun hlost => ⟨fun hnone => ?_, fun j hj => ⟨fun hup => ?_, fun hup => ?_⟩⟩⟩, fun hruns => ?_,
    fun hstopped => ?_, ⟨fun hapart hrelays hlong => ?_, fun hstays => ?_⟩, fun hdue => ?_, fun hnot => ?_⟩
  · rw [onSpanEnableWrite_stores hopen hcfg hleave]
    exact congrArg _ (if_pos hsame)
  · rw [onSpanEnableWrite_changes hopen hcfg hleave hnew]
    exact congrArg _ (State.setSpanEnable_unused hunused)
  · rw [onSpanEnableWrite_changes hopen hcfg hleave hnew]
    rw [hen] at hnew hbound hst ⊢
    exact congrArg _ (State.setSpanEnable_on (Bool.eq_false_iff.mpr hnew) hbound hst)
  · rw [onSpanEnableWrite_changes hopen hcfg hleave hnew]
    rw [hen] at hbound hst ⊢
    exact congrArg _ (State.setSpanEnable_off hbound hst)
  · exact congrArg _ (onSpanEnableWrite_retrain hset)
  · exact congrArg _ ((onSpanRetrainWrite_open hopen hcfg).trans (if_pos ⟨hoff, hbypass⟩))
  · exact congrArg _ ((onSpanRetrainWrite_open hopen hcfg).trans (if_neg fun ⟨h, h'⟩ => hoff.elim h h'))
  · exact congrArg _ (onSpanInject_open hopen)
  · exact congrArg _ (onLaneInjectOne_open hopen hinj)
  · rw [onEyeScanStart_starts hopen heye hstart]
    rfl
  · exact congrArg _ (onEyeScanStart_none hnone)
  · exact congrArg _ (onCmdSpanRetrain_none hnone)
  · exact congrArg _ ((onCmdSpanRetrain_started hc).trans (if_pos (hunused.imp_right Bool.eq_false_iff.mp)))
  · exact congrArg _ ((onCmdSpanRetrain_started hc).trans ((if_neg (not_or.mpr ⟨hbound, not_not_intro hen⟩)).trans (if_pos hbypass)))
  · exact congrArg _ ((onCmdSpanRetrain_started hc).trans ((if_neg (not_or.mpr ⟨hbound, not_not_intro hen⟩)).trans (if_neg hbypass)))
  · exact congrArg _ (onPrbsLock_off hoff)
  · exact congrArg _ (onPrbsLock_on hon ht)
  · exact congrArg _ (onEyeScanDone_runs hruns)
  · exact congrArg _ (onEyeScanDone_none hnot)
  · exact congrArg _ (onFecUncorrectable_other hother)
  · exact congrArg _ (onFecUncorrectable_corrected hrate hlen hm)
  · exact congrArg _ (onFecUncorrectable_unused hrate hlen hlost hnone)
  · exact congrArg _ ((onFecUncorrectable_used hrate hlen hlost hj).trans (if_pos (Bool.eq_false_iff.mp hup)))
  · exact congrArg _ ((onFecUncorrectable_used hrate hlen hlost hj).trans (if_neg (not_not_intro hup)))
  · exact congrArg _ (onSpanFabricStop_runs hruns)
  · exact congrArg _ (onSpanFabricStop_stopped hstopped)
  · exact congrArg _ (onBypassEnter_joins hapart hrelays (hlong.imp_left State.stoppedLong_iff.mpr))
  · exact congrArg _ (onBypassEnter_stays (hstays.imp_right (Or.imp_right (And.imp_left (mt State.stoppedLong_iff.mp)))))
  · exact congrArg _ (onBypassExit_ends hdue)
  · exact congrArg _ (onBypassExit_stays hnot)

end Sys2Proof.Machine

/-! THEOREMS. Planks over a port in UP (R175, R179 to R181, R194 to R197, R199, R200, R204, R205). -/

namespace Sys2Proof.Machine

section Planks
variable {s : State} {k sub : Fin 16} {blocks : List Block} {long : Bool} {bs : List Byte} {vc2 : Bool}

/-! ### What comes off the line (R174 to R180) -/

/-- A command that takes a plank of a TYPE off the line of a port: what it does is a `State.receive` of that TYPE. -/
def Receives (c : Instr) (s : State) (k typ : Nat) (blocks : List Block) : Prop :=
  ∃ f : List Byte → State → State, exec c s = .next (s.receive k typ blocks f)

theorem receives_of_receiveVc1 {c : Instr} {lease : Bool} {act : Plank → State → State}
    (h : exec c s = .next (s.receiveVc1 k blocks lease act)) : Receives c s k 1 blocks := ⟨_, h⟩

/-- What the line carries decides, but for a whole plank of the TYPE awaited. -/
theorem Receives.rejects {c : Instr} {typ : Nat} (h : Receives c s k typ blocks) :
    (¬ s.takesPlanks k → exec c s = .next s) ∧
    (s.takesPlanks k → plankIn blocks = none → exec c s = .next s) ∧
    (s.takesPlanks k → plankIn blocks = some (long, bs) →
      (crcGood long bs = false → exec c s = .next ((s.bump SPN_CRC_ERR.COUNT k).discardPlank k long bs)) ∧
      (crcGood long bs = true → plankFault long bs = true → exec c s = .next ((s.bump SPN_DROP.COUNT k).discardPlank k long bs)) ∧
      (crcGood long bs = true → plankFault long bs = false → (plankOf bs).typ ≠ typ → exec c s = .next s)) := by
  obtain ⟨f, hc⟩ := h
  rw [hc]
  refine ⟨fun hclosed => ?_, fun hopen hnone => ?_, fun hopen hin => ⟨fun hcrc => ?_, fun hcrc hfault => ?_,
    fun hcrc hfault htyp => ?_⟩⟩
  · exact congrArg _ (State.receive_closed hclosed)
  · exact congrArg _ (State.receive_noPlank hopen hnone)
  · exact congrArg _ (State.receive_badCrc hopen hin hcrc)
  · exact congrArg _ (State.receive_fault hopen hin hcrc hfault)
  · exact congrArg _ (State.receive_other hopen ⟨hin, hcrc, hfault⟩ htyp)

/-! ### The arbitration of a plank boundary (R195) -/

theorem onPlankSend_time (hup : s.portUp k = true) (hdue : (s.port k).timeDue = true) (hsince : 31 ≤ (s.port k).sinceTime) :
    onPlankSend k sub s = s.sendTime k sub := if_pos ⟨hdue, hsince, hup⟩

theorem onPlankSend_link (hup : s.portUp k = true) (htime : (s.port k).timeDue = false ∨ (s.port k).sinceTime < 31)
    (hdue : (s.port k).linkDue = true) : onPlankSend k sub s = s.sendLink k :=
  (if_neg fun ⟨hdue, hsince, _⟩ => htime.elim (Bool.eq_false_iff.mp · hdue) (not_lt.mpr hsince)).trans (if_pos ⟨hdue, hup⟩)

/-- Neither a TIME nor a LINK plank goes first. -/
def State.freeBoundary (s : State) (k : Nat) : Prop :=
  ¬ s.portUp k = true ∨ (((s.port k).timeDue = false ∨ (s.port k).sinceTime < 31) ∧ (s.port k).linkDue = false)

section Free
variable (hfree : s.freeBoundary k)
include hfree

theorem State.freeBoundary.not_time : ¬ ((s.port k).timeDue = true ∧ 31 ≤ (s.port k).sinceTime ∧ s.portUp k = true) := by
  rintro ⟨hdue, hsince, hup⟩
  rcases hfree with hdown | ⟨htime | htime, -⟩
  · exact hdown hup
  · cases htime.symm.trans hdue
  · omega

theorem State.freeBoundary.not_link : ¬ ((s.port k).linkDue = true ∧ s.portUp k = true) := by
  rintro ⟨hdue, hup⟩
  rcases hfree with hdown | ⟨-, hlink⟩
  · exact hdown hup
  · cases hlink.symm.trans hdue

theorem onPlankSend_control {o : Output} {os : List Output} (h : (s.port k).control = o :: os) :
    onPlankSend k sub s = s.sendControl k o os := by
  rw [onPlankSend, if_neg hfree.not_time, if_neg hfree.not_link, h]

variable (hnone : (s.port k).control = [])
include hnone

theorem onPlankSend_down (hdown : ¬ s.portUp k = true) : onPlankSend k sub s = s := by
  rw [onPlankSend, if_neg hfree.not_time, if_neg hfree.not_link, hnone]
  exact if_neg hdown

theorem onPlankSend_data (hup : s.portUp k = true) {vc : Nat} (h : s.nextVc k = some vc) :
    onPlankSend k sub s = s.sendData k vc := by
  rw [onPlankSend, if_neg hfree.not_time, if_neg hfree.not_link, hnone]
  dsimp only
  rw [if_pos hup, h]

theorem onPlankSend_nothing (h : s.nextVc k = none) : onPlankSend k sub s = s := by
  rw [onPlankSend, if_neg hfree.not_time, if_neg hfree.not_link, hnone, h]
  exact ite_self s

end Free

/-! ### DATA and LINK planks received (R181, R194, R196, R197) -/

section Whole
variable (hup : s.portUp k = true) (hplank : carriesPlank blocks long bs)
include hup hplank

section Data
variable (htyp : (plankOf bs).typ = 1)
include htyp

theorem onDataPlank_data (hvc : (plankOf bs).vc ≠ 1) : onDataPlank k blocks s =
    let x := plankOf bs
    let r := (s.port k).rx x.vc
    if x.lseq = r.expect then
      (s.setPort k ({ s.port k with linkDue := true }.setRx x.vc
        { r with expect := (r.expect + 1) % 65536, refused := false })).routeArrival k x
    else s.refusePlank k x.vc x.lseq :=
  (State.receive_plank (State.takesPlanks_of_portUp hup) hplank htyp).trans
    (if_neg (not_or.mpr ⟨not_not_intro hup, hvc⟩))

theorem onDataPlank_vc1 (hvc : (plankOf bs).vc = 1) : onDataPlank k blocks s = s :=
  (State.receive_plank (State.takesPlanks_of_portUp hup) hplank htyp).trans (if_pos (.inr hvc))

theorem receiveVc1_other {lease : Bool} {act : Plank → State → State}
    (h : (plankOf bs).vc ≠ 1 ∨ decide ((plankOf bs).stream = 0xFFF) ≠ lease) : s.receiveVc1 k blocks lease act = s :=
  (State.receive_plank (State.takesPlanks_of_portUp hup) hplank htyp).trans (if_pos (.inr h))

/-- The position of VC1 moved past a plank. -/
def State.passVc1 (s : State) (k lseq : Nat) : State :=
  s.setPort k { s.port k with linkDue := true, rx1 := { (s.port k).rx1 with expect := (lseq + 1) % 65536 } }

theorem receiveVc1_mine {lease : Bool} {act : Plank → State → State} (hvc : (plankOf bs).vc = 1)
    (hstream : decide ((plankOf bs).stream = 0xFFF) = lease) : s.receiveVc1 k blocks lease act =
      let x := plankOf bs
      let u := s.vc1Gap k x.lseq
      if x.lseq ≠ (u.port k).rx1.expect then u else act x (u.passVc1 k x.lseq) :=
  (State.receive_plank (State.takesPlanks_of_portUp hup) hplank htyp).trans
    (if_neg (not_or.mpr ⟨not_not_intro hup, not_or.mpr ⟨not_not_intro hvc, not_not_intro hstream⟩⟩))

end Data

theorem onLinkPlank_link (htyp : (plankOf bs).typ = 2) : onLinkPlank k blocks s =
    let l := linkOf bs
    let u := (((s.takeAck k 0 l.ack0).takeAck k 2 l.ack2).takeNak k 0 l.ack0 l.nak0).takeNak k 2 l.ack2 l.nak2
    let w := ((u.takeFreed k 0 l.freed0).takeFreed k 1 l.freed1).takeFreed k 2 l.freed2
    (w.setPort k { w.port k with linkAt := w.clock }).vc1Gap k l.sent1 :=
  (State.receive_plank (State.takesPlanks_of_portUp hup) hplank htyp).trans (if_neg (not_not_intro hup))

end Whole

/-! ### Timeouts (R196, R199, R200, R204, R205) -/

/-- The VC that a timeout of VC0 or VC2 is about. -/
def timeoutVc (vc2 : Bool) : Nat := if vc2 then 2 else 0

/-- Planks are outstanding without ACK progress for REPLAY_TO. -/
def State.replayDue (s : State) (k vc : Nat) : Prop :=
  s.portUp k = true ∧ ((s.port k).tx vc).unacked ≠ [] ∧
    ((s.port k).tx vc).progress + s.fld SPN_CFG.REPLAY_TO k * us ≤ s.clock

theorem onReplayTimeout_due (h : s.replayDue k (timeoutVc vc2)) : onReplayTimeout k vc2 s =
    let u := s.startReplay k (timeoutVc vc2)
    let t := (u.port k).tx (timeoutVc vc2)
    let w := u.setPort k ((u.port k).setTx (timeoutVc vc2) { t with timeouts := t.timeouts + 1, progress := u.clock })
    if 3 ≤ t.timeouts then w.spanDown k 1 else w :=
  (if_pos h).trans (if_congr Nat.succ_le_succ_iff rfl rfl)

theorem onReplayTimeout_early (h : ¬ s.replayDue k (timeoutVc vc2)) : onReplayTimeout k vc2 s = s := if_neg h

/-- The state with a plank of VC0 or VC2 that waited dropped and counted. -/
def State.waitDropped (s : State) (k vc : Nat) (i : TxItem) : State :=
  let t := (s.port k).tx vc
  ((s.bump SPN_DROP.COUNT k).setPort k ((s.port k).setTx vc { t with queue := t.queue.erase i })).releaseSlot i.slot

theorem onRouteWaitTimeout_none (h : ((s.port k).tx (timeoutVc vc2)).queue.find? (fun i => ! i.kept) = none) :
    onRouteWaitTimeout k vc2 s = s := by
  rw [timeoutVc] at h
  rw [onRouteWaitTimeout, h]

theorem onRouteWaitTimeout_oldest {i : TxItem}
    (h : ((s.port k).tx (timeoutVc vc2)).queue.find? (fun i => ! i.kept) = some i) : onRouteWaitTimeout k vc2 s =
      if ¬ s.portUp k = true ∧ i.since + ms ≤ s.clock then s.waitDropped k (timeoutVc vc2) i else s := by
  rw [timeoutVc] at h
  rw [onRouteWaitTimeout, h]
  rfl

theorem onVc1StallTimeout_none (h : (s.port k).tx1.queue = []) : onVc1StallTimeout k s = s := by
  rw [onVc1StallTimeout, h]

/-- A VC1 copy has waited longer than VC1_STALL for credit. -/
def State.stalled (s : State) (k : Nat) (i : TxItem) : Prop :=
  s.portUp k = true ∧ s.fld SPN_CREDIT_A.CR1 k = 0 ∧ i.since + s.fld SPN_CFG.VC1_STALL k * 4 * us < s.clock

/-- The state with the first VC1 copy of a port dropped and counted. -/
def State.stallDropped (s : State) (k : Nat) (i : TxItem) (is : List TxItem) : State :=
  ((s.bump SPN_VC1_DROP.COUNT k).setPort k { s.port k with
    tx1 := { (s.port k).tx1 with queue := is }, stalling := true }).releaseSlot i.slot

section Stall
variable {i : TxItem} {is : List TxItem} (hfirst : (s.port k).tx1.queue = i :: is)
include hfirst

theorem onVc1StallTimeout_stalled (h : s.stalled k i) : onVc1StallTimeout k s =
    if (s.port k).stalling then s.stallDropped k i is
    else (s.stallDropped k i is).raise 0x0904 [(16, 1, k), (18, 2, i.plank.stream)] := by
  rw [onVc1StallTimeout, hfirst]
  exact if_pos h

theorem onVc1StallTimeout_moves (h : ¬ s.stalled k i) : onVc1StallTimeout k s = s := by
  rw [onVc1StallTimeout, hfirst]
  exact if_neg h

end Stall

/-! ### The commands -/

section Awake
variable (hawake : s.awake = true)
include hawake

theorem exec_dataPlank : exec (.dataPlank k blocks) s = .next (onDataPlank k blocks s) :=
  congrArg _ (State.guarded_of_awake _ hawake)

theorem exec_linkPlank : exec (.linkPlank k blocks) s = .next (onLinkPlank k blocks s) :=
  congrArg _ (State.guarded_of_awake _ hawake)

theorem exec_vc1Plank : exec (.vc1Plank k blocks) s = .next (onVc1Plank k blocks s) :=
  congrArg _ (State.guarded_of_awake _ hawake)

theorem exec_leasePlank : exec (.leasePlank k blocks) s = .next (onLeasePlank k blocks s) :=
  congrArg _ (State.guarded_of_awake _ hawake)

theorem exec_timePlank : exec (.timePlank k sub blocks) s = .next (onTimePlank k sub blocks s) :=
  congrArg _ (State.guarded_of_awake _ hawake)

theorem exec_linkPlankSend : exec (.linkPlankSend k) s = .next (onLinkPlankSend k s) :=
  congrArg _ (State.guarded_of_awake _ hawake)

theorem exec_plankSend : exec (.plankSend k sub) s = .next (onPlankSend k sub s) := congrArg _ (State.guarded_of_awake _ hawake)

theorem exec_replayTimeout : exec (.replayTimeout k vc2) s = .next (onReplayTimeout k vc2 s) :=
  congrArg _ (State.guarded_of_awake _ hawake)

theorem exec_routeWaitTimeout : exec (.routeWaitTimeout k vc2) s = .next (onRouteWaitTimeout k vc2 s) :=
  congrArg _ (State.guarded_of_awake _ hawake)

theorem exec_vc1StallTimeout : exec (.vc1StallTimeout k) s = .next (onVc1StallTimeout k s) :=
  congrArg _ (State.guarded_of_awake _ hawake)

/-- The rows of a received plank, each with the TYPE that it awaits (R178). -/
theorem receives_of_row : ∀ c ∈ [(Instr.capPlank k blocks, 4), (.stepPropose k blocks, 5), (.stepTxreq k blocks, 5),
    (.stepResult k blocks, 5), (.dataPlank k blocks, 1), (.linkPlank k blocks, 2), (.vc1Plank k blocks, 1),
    (.leasePlank k blocks, 1), (.timePlank k sub blocks, 3)], Receives c.1 s k c.2 blocks := by
  simp only [List.forall_mem_cons]
  exact ⟨⟨_, exec_capPlank hawake⟩, ⟨_, exec_stepPropose hawake⟩, ⟨_, exec_stepTxreq hawake⟩, ⟨_, exec_stepResult hawake⟩,
    ⟨_, exec_dataPlank hawake⟩, ⟨_, exec_linkPlank hawake⟩, receives_of_receiveVc1 (exec_vc1Plank hawake),
    receives_of_receiveVc1 (exec_leasePlank hawake), ⟨_, exec_timePlank hawake⟩, List.forall_mem_nil _⟩

end Awake

end Planks

/-- Settles O48: every row of a received plank is a `State.receive` of its TYPE; a boundary goes to what stands first in the order of
R195; a plank of a VC is judged by its LSEQ against the position; the timeouts of R196, R199 and R200 act when they are due (log
entries 139, 144 and 145). -/
theorem planks : Obligations.Planks := by
  unfold Obligations.Planks
  intro s k sub blocks long bs vc2 hawake
  refine ⟨fun c hc => (receives_of_row hawake c hc).rejects, ?_⟩
  rw [exec_linkPlankSend hawake, exec_plankSend hawake, exec_dataPlank hawake, exec_vc1Plank hawake, exec_leasePlank hawake,
    exec_linkPlank hawake, exec_replayTimeout hawake, exec_routeWaitTimeout hawake, exec_vc1StallTimeout hawake]
  refine ⟨rfl, ⟨fun hup hdue hsince => ?_, fun hup htime hdue => ?_, fun hfree => ⟨fun o os ho => ?_, fun hnone =>
      ⟨fun hdown => ?_, fun vc hup hvc => ?_, fun hvc => ?_⟩⟩⟩,
    fun ⟨hin, hcrc, hfault, hup⟩ htyp => ?_,
    fun ⟨hin, hcrc, hfault, hup⟩ htyp => ?_,
    ⟨fun hup hunacked hdue => ?_, fun hearly => ?_, fun hnone => ?_, fun i hi => ⟨fun hdown hdue => ?_, fun hearly => ?_⟩⟩,
    fun hnone => ?_, fun i is hfirst => ⟨fun hstalled => ?_, fun hmoves => ?_⟩⟩
  · exact congrArg _ (onPlankSend_time hup hdue hsince)
  · exact congrArg _ (onPlankSend_link hup htime hdue)
  · exact congrArg _ (onPlankSend_control hfree ho)
  · exact congrArg _ (onPlankSend_down hfree hnone hdown)
  · exact congrArg _ (onPlankSend_data hfree hnone hup hvc)
  · exact congrArg _ (onPlankSend_nothing hfree hnone hvc)
  · have hplank : carriesPlank blocks long bs := ⟨hin, hcrc, hfault⟩
    refine ⟨fun hvc => ⟨fun hnext => ?_, fun hother => ?_, ?_, ?_⟩, fun hvc => ⟨?_,
      fun hstream => ⟨?_, fun hnext => ?_, fun hother => ?_⟩, fun hlease => ⟨?_, fun hnext => ?_, fun hother => ?_⟩⟩⟩
    · exact congrArg _ ((onDataPlank_data hup hplank htyp hvc).trans (if_pos hnext))
    · exact congrArg _ ((onDataPlank_data hup hplank htyp hvc).trans (if_neg hother))
    · exact congrArg _ (receiveVc1_other hup hplank htyp (.inl hvc))
    · exact congrArg _ (receiveVc1_other hup hplank htyp (.inl hvc))
    · exact congrArg _ (onDataPlank_vc1 hup hplank htyp hvc)
    · exact congrArg _ (receiveVc1_other hup hplank htyp (.inr (by simp [hstream])))
    · exact congrArg _ ((receiveVc1_mine hup hplank htyp hvc (decide_eq_false hstream)).trans (if_neg (not_not_intro hnext)))
    · exact congrArg _ ((receiveVc1_mine hup hplank htyp hvc (decide_eq_false hstream)).trans (if_pos hother))
    · exact congrArg _ (receiveVc1_other hup hplank htyp (.inr (by simp [hlease])))
    · exact congrArg _ ((receiveVc1_mine hup hplank htyp hvc (decide_eq_true hlease)).trans (if_neg (not_not_intro hnext)))
    · exact congrArg _ ((receiveVc1_mine hup hplank htyp hvc (decide_eq_true hlease)).trans (if_pos hother))
  · exact congrArg _ (onLinkPlank_link hup ⟨hin, hcrc, hfault⟩ htyp)
  · exact congrArg _ (onReplayTimeout_due ⟨hup, hunacked, hdue⟩)
  · refine congrArg _ (onReplayTimeout_early fun ⟨hup, hunacked, hdue⟩ => ?_)
    rcases hearly with hdown | hnone | hearly
    · cases hdown.symm.trans hup
    · exact hunacked hnone
    · exact absurd hdue (not_le.mpr hearly)
  · exact congrArg _ (onRouteWaitTimeout_none hnone)
  · exact congrArg _ ((onRouteWaitTimeout_oldest hi).trans (if_pos ⟨Bool.eq_false_iff.mp hdown, hdue⟩))
  · exact congrArg _ ((onRouteWaitTimeout_oldest hi).trans (if_neg fun ⟨hdown, hdue⟩ => hearly.elim hdown (not_lt.mpr hdue)))
  · exact congrArg _ (onVc1StallTimeout_none hnone)
  · exact congrArg _ (onVc1StallTimeout_stalled hfirst hstalled)
  · exact congrArg _ (onVc1StallTimeout_moves hfirst hmoves)

end Sys2Proof.Machine

/-! THEOREMS. A cycle of CLK_PIX without a command (R16, R95, R234). -/

namespace Sys2Proof.Machine

section Idle
variable {s : State}

theorem step_idle (h : s.pending = []) : step s = .next s.idle := by rw [step, h]

theorem State.idle_clocked (h : s.clocked = true) : s.idle = s.tick.ptpTick.tickBays := if_pos h

theorem State.idle_unclocked (h : s.clocked = false) : s.idle = s := if_neg (by simp [h])

theorem State.tick_wall : s.tick.time.wall =
    (s.time.wall + (s.time.frac + 2 ^ 40 + s.fldS TIM_RATE.RATE).toNat / 2 ^ 40) % 2 ^ 64 := rfl

theorem State.tick_frac : s.tick.time.frac = (s.time.frac + 2 ^ 40 + s.fldS TIM_RATE.RATE).toNat % 2 ^ 40 := rfl

theorem State.ptpTick_time : s.ptpTick.time = s.time := rfl

theorem State.bayState_ptpTick_tick {b : Nat} : s.tick.ptpTick.bayState b = s.bayState b := State.fld_congr rfl

/-- Within 200 ppm a cycle advances the count by one cycle and the RATE, exactly, and wall time by 0, 1 or 2 (R234). -/
theorem State.tick_within_ppm (hfrac : s.time.frac < 2 ^ 40) (hlow : -219902325 ≤ s.fldS TIM_RATE.RATE)
    (hhigh : s.fldS TIM_RATE.RATE ≤ 219902325) (hwall : s.time.wall + 2 < 2 ^ 64) :
    s.tick.time.wall ≤ s.time.wall + 2 ∧ s.time.wall ≤ s.tick.time.wall ∧ s.tick.time.frac < 2 ^ 40 ∧
    (2 ^ 40 * s.tick.time.wall + s.tick.time.frac : Int) = 2 ^ 40 * s.time.wall + s.time.frac + 2 ^ 40 + s.fldS TIM_RATE.RATE := by
  rw [State.tick_wall, State.tick_frac]
  have hsum : ((s.time.frac + 2 ^ 40 + s.fldS TIM_RATE.RATE).toNat : Int) = s.time.frac + 2 ^ 40 + s.fldS TIM_RATE.RATE :=
    Int.toNat_of_nonneg (by omega)
  omega

/-- With no bay in RESET and none that waits to be ungated, a cycle leaves the bays (R87, R95). -/
theorem State.tickBays_still (hbays : ∀ b < 16, s.bayState b ≠ bayReset) (hungate : s.pwr.ungate = []) : s.tickBays = s := by
  have hreload : (List.range 16).foldl
      (fun (t : State) b => if t.bayState b = bayReset then (t.beginLoad b).endApply else t) s = s :=
    List.foldlRecOn (motive := (· = s)) _ _ rfl fun t ht b hb => by
      rw [ht, if_neg (hbays b (List.mem_range.mp hb))]
  rw [State.tickBays, hreload, State.ungateNext, hungate]

end Idle

/-- Settles O2: an idle step is `State.idle`, one tick of wall time and of the PTP clock and then the bays (log entries 21, 124 and
157). -/
theorem idleStepCounts : Obligations.IdleStepCounts := by
  unfold Obligations.IdleStepCounts
  intro s hpending
  rw [step_idle hpending]
  refine ⟨fun hclocked => ?_, fun hstopped => ?_⟩
  · rw [State.idle_clocked hclocked]
    refine ⟨s.tick.ptpTick, s.tick.ptpTick.tickBays, rfl, rfl, rfl, ?_⟩
    rw [State.ptpTick_time]
    exact ⟨State.tick_wall, State.tick_frac, State.tick_within_ppm, fun hbays hungate =>
      State.tickBays_still (fun b hb => State.bayState_ptpTick_tick.trans_ne (hbays b hb)) hungate⟩
  · rw [State.idle_unclocked hstopped]

end Sys2Proof.Machine

/-! THEOREMS. Discovery, addresses, routes and subscription (R218 to R225, R229, R246). -/

namespace Sys2Proof.Machine

section Viaduct
variable {s u : State} {port : Fin 16} {q : Fin 24} {tag k typ : Nat} {m : Msg} {c : Cmd}

/-! ### Messages taken (R214, R218) -/

theorem State.takeMsg_spec (h : s.takeMsg typ = some (k, m, u)) :
    (k, m) ∈ s.via.inbox ∧ m.typ = typ ∧ m.resp = false ∧ u = s.delivered k m := by
  unfold State.takeMsg at h
  split at h
  case h_1 e hfirst =>
    cases h
    obtain ⟨hresp, htyp⟩ : ¬ e.2.resp ∧ e.2.typ = typ := by simpa using List.find?_some hfirst
    exact ⟨List.mem_of_find?_eq_some hfirst, htyp, Bool.eq_false_iff.mpr hresp, rfl⟩
  case h_2 => cases h

/-- A command that takes a message of a TYPE: what it does is a `State.onMsg` of that TYPE. -/
def TakesMsg (c : Instr) (s : State) (typ : Nat) : Prop :=
  ∃ f : Nat → Msg → State → State, exec c s = .next (s.onMsg typ f)

section Rows
variable {f : Nat → Msg → State → State}

theorem State.onMsg_restarting (h : s.restarting = true) : s.onMsg typ f = s := if_pos h

theorem State.onMsg_none (h : s.takeMsg typ = none) : s.onMsg typ f = s := by
  rw [State.onMsg, h]
  exact ite_self s

theorem State.onMsg_taken (hrun : s.restarting = false) (h : s.takeMsg typ = some (k, m, u)) : s.onMsg typ f = f k m u := by
  rw [State.onMsg, if_neg (by simp [hrun]), h]

theorem TakesMsg.rests {c : Instr} (h : TakesMsg c s typ) :
    (s.restarting = true → exec c s = .next s) ∧ (s.takeMsg typ = none → exec c s = .next s) := by
  obtain ⟨f, hc⟩ := h
  rw [hc]
  exact ⟨fun hrestart => by rw [State.onMsg_restarting hrestart], fun hnone => by rw [State.onMsg_none hnone]⟩

end Rows

section Taken
variable (hrun : s.restarting = false)
include hrun

/-! ### PROBE (R219, R220, R224) -/

/-- The state with its distance from the master one span more than a PROBE says. -/
def State.withSteps (s : State) (m : Msg) : State := { s with via := { s.via with steps := beAt m.payload 2 2 + 1 } }

/-- The state of an unassigned device that a PROBE has reached on port `k`; the first one gives UPPORT. -/
def State.probedFrom (s : State) (k : Nat) (m : Msg) : State :=
  if s.via.probed then s
  else { (s.setFld VIA_STATUS.UPPORT k).withSteps m with
    via := { ((s.setFld VIA_STATUS.UPPORT k).withSteps m).via with probed := true } }

section Probe
variable (h : s.takeMsg 0x01 = some (k, m, u))
include h

theorem onProbe_own (hmaster : u.isMaster = true) (hown : beAt m.payload 0 2 = u.self) : onProbe s = u := by
  rw [onProbe, State.onMsg_taken hrun h]
  exact (if_pos hmaster).trans (if_pos hown)

/-- A master that meets another reports it, and gives way to a lower address (R224, log entry 148). -/
theorem onProbe_conflict (hmaster : u.isMaster = true) (hother : beAt m.payload 0 2 ≠ u.self) : onProbe s =
    let w := u.raise 0x0A04 [(16, 2, beAt m.payload 0 2)]
    if beAt m.payload 0 2 < w.self then
      (w.yieldMaster.withSteps m).sendMsg (.node (beAt m.payload 0 2)) 0 0x02 0 w.yieldMaster.announceBytes true
    else w := by
  rw [onProbe, State.onMsg_taken hrun h]
  exact (if_pos hmaster).trans (if_neg hother)

theorem onProbe_unassigned (hmaster : u.isMaster = false) (hself : u.self = 0) : onProbe s =
    (u.probedFrom k m).sendMsg (.neighbour k) 0 0x02 0 (u.probedFrom k m).announceBytes true := by
  rw [onProbe, State.onMsg_taken hrun h]
  exact (if_neg (by simp [hmaster])).trans (if_pos hself)

theorem onProbe_assigned (hmaster : u.isMaster = false) (hself : u.self ≠ 0) : onProbe s =
    if beAt m.payload 0 2 ≠ u.fld VIA_STATUS.MASTER then
      (u.withSteps m).sendMsg (.node (beAt m.payload 0 2)) 0 0x02 0 u.announceBytes true
    else u := by
  rw [onProbe, State.onMsg_taken hrun h]
  exact (if_neg (by simp [hmaster])).trans (if_neg hself)

end Probe

/-! ### ANNOUNCE and ASSIGN (R220, R221) -/

section Announce
variable (h : s.takeMsg 0x02 = some (k, m, u))
include h

theorem onAnnounce_master (hmaster : u.isMaster = true) : onAnnounce s =
    if beAt m.payload 14 2 = 0 ∧ m.hops = 0 then u.masterAnnounce m k u.self
    else u.masterAnnounce m (beAt m.payload 9 1) (beAt m.payload 14 2) := by
  rw [onAnnounce, State.onMsg_taken hrun h]
  exact if_pos hmaster

theorem onAnnounce_proxy (hmaster : u.isMaster = false) : onAnnounce s =
    if u.self = 0 then u
    else u.sendMsg (.node (u.fld VIA_STATUS.MASTER)) 0 0x02 0
      (m.payload.take 9 ++ beBytes 1 k ++ bytesAt m.payload 10 4 ++ beBytes 2 u.self ++ m.payload.drop 16) true := by
  rw [onAnnounce, State.onMsg_taken hrun h]
  exact if_neg (by simp [hmaster])

end Announce

/-- Whether a message kept for its response is the ANNOUNCE that an ASSIGN answers: one of the serial it names. -/
def answeredByAssign (m : Msg) (p : Pending) : Bool :=
  decide (p.msg.typ = 0x02 ∧ beAt p.msg.payload 0 8 = beAt m.payload 0 8)

/-- The state with those ANNOUNCEs no longer kept, and what waited for them sent (R216, log entry 13). -/
def State.assignTaken (s : State) (m : Msg) : State :=
  (s.via.pend.filter (answeredByAssign m)).foldl (fun (s : State) p => s.nextPending p.msg.dst p.msg.vc)
    { s with via := { s.via with pend := s.via.pend.filter fun p => ! answeredByAssign m p } }

/-- The state with ADDR and MASTER taken from an ASSIGN. -/
def State.assigned (s : State) (m : Msg) : State :=
  ((s.takeAddr (beAt m.payload 8 2)).setFld VIA_STATUS.MASTER (beAt m.payload 10 2)).setFld VIA_STATUS.DISC 1

/-- HELLO on every UP port. -/
def State.greetAll (s : State) : State :=
  (portsWhere 16 s.portUp).foldl (fun (s : State) k => s.sendMsg (.neighbour k) 0 0x04 0 (beBytes 1 k) false) s

section Assign
variable (h : s.takeMsg 0x03 = some (k, m, u))
include h

theorem onAssign_other (hother : beAt m.payload 0 8 ≠ (u.assignTaken m).fuses.serial) :
    onAssign s = (u.assignTaken m).sendMsg (.neighbour (beAt m.payload 12 1)) 0 0x03 0 m.payload false := by
  rw [onAssign, State.onMsg_taken hrun h]
  exact if_neg hother

theorem onAssign_named (hnamed : beAt m.payload 0 8 = (u.assignTaken m).fuses.serial) :
    onAssign s = ((u.assignTaken m).assigned m).greetAll.probeAll.linksChanged := by
  rw [onAssign, State.onMsg_taken hrun h]
  exact if_pos hnamed

end Assign

/-! ### HELLO, LINKS, ROUTES, NOTIFY (R220, R222, R225) -/

theorem onHello_taken (h : s.takeMsg 0x04 = some (k, m, u)) : onHello s =
    if u.fld SPN_STATUS.PEER k = m.src then u else (u.setFld SPN_STATUS.PEER m.src k).linksChanged := by
  rw [onHello, State.onMsg_taken hrun h]

/-- The state with the ports that a LINKS message reports in the master's map; the wait of SETTLE begins again. -/
def State.linksMapped (s : State) (m : Msg) : State :=
  { s with via := { s.via with
    quietAt := s.clock, moved := true
    nodes := s.via.nodes.map fun n =>
      if n.addr = m.src then { n with ports := (List.range 16).map fun k => beAt m.payload (2 * k) 2 } else n } }

section Links
variable (h : s.takeMsg 0x05 = some (k, m, u))
include h

theorem onLinks_other (hmaster : (u.respond m [0]).isMaster = false) : onLinks s = u.respond m [0] := by
  rw [onLinks, State.onMsg_taken hrun h]
  exact if_pos (Bool.eq_false_iff.mp hmaster)

theorem onLinks_master (hmaster : (u.respond m [0]).isMaster = true) : onLinks s =
    if ((u.respond m [0]).linksMapped m).assist 9 then ((u.respond m [0]).linksMapped m).raise 0x0A08 [(16, 2, m.src)]
    else (u.respond m [0]).linksMapped m := by
  rw [onLinks, State.onMsg_taken hrun h]
  exact if_neg (not_not_intro hmaster)

end Links

/-- The number of entries of a ROUTES message. -/
def routesCount (m : Msg) : Nat := (m.payload.length - 4) / 4

/-- A ROUTES message without entries, with a part of one, or with one past address 4,095 (R225). -/
def routesMalformed (m : Msg) : Prop :=
  routesCount m = 0 ∨ m.payload.length % 4 ≠ 0 ∨ 4096 < beAt m.payload 0 2 % 4096 + routesCount m

section Routes
variable (h : s.takeMsg 0x06 = some (k, m, u))
include h

theorem onRoutes_malformed (hbad : routesMalformed m) : onRoutes s = u.respond m [2] := by
  rw [onRoutes, State.onMsg_taken hrun h]
  exact if_pos hbad

theorem onRoutes_whole (hgood : ¬ routesMalformed m) : onRoutes s =
    ((u.putRoutes (beAt m.payload 0 2 % 4096) (routeEntries (routesCount m) (m.payload.drop 4))).setFld
      VIA_STATUS.DISC 2).respond m [0] := by
  rw [onRoutes, State.onMsg_taken hrun h]
  exact if_neg hgood

end Routes

theorem onNotify_taken (h : s.takeMsg 0x09 = some (k, m, u)) : onNotify s = u.raise 0x0A09 [(16, 2, m.src)] := by
  rw [onNotify, State.onMsg_taken hrun h]

end Taken

/-! ### The master's map under messages and events -/

theorem State.nodes_foldl {β : Type} {f : State → β → State} (l : List β) (hf : ∀ t x, (f t x).via.nodes = t.via.nodes) :
    (l.foldl f s).via.nodes = s.via.nodes :=
  List.foldlRecOn (motive := fun t => t.via.nodes = s.via.nodes) l f rfl fun t ht x _ => (hf t x).trans ht

theorem State.nodes_releaseSlot (slot : Option (Nat × Nat)) : (s.releaseSlot slot).via.nodes = s.via.nodes := by
  unfold State.releaseSlot
  dsimp only
  split
  · rfl
  · split
    · rfl
    · split <;> rfl

theorem State.nodes_queuePlank (n : Nat) (x : Plank) (slot : Option (Nat × Nat)) :
    (s.queuePlank n x slot).via.nodes = s.via.nodes := by
  unfold State.queuePlank
  split
  · exact State.nodes_releaseSlot slot
  · rfl

theorem State.nodes_routePlank (x : Plank) (slot : Option (Nat × Nat)) : (s.routePlank x slot).via.nodes = s.via.nodes := by
  unfold State.routePlank
  split
  · exact State.nodes_queuePlank _ x slot
  · exact State.nodes_releaseSlot slot

theorem State.nodes_launch (d : Dest) (m : Msg) : (s.launch d m).via.nodes = s.via.nodes := by
  cases d with
  | neighbour n => exact State.nodes_foldl _ fun _ _ => State.nodes_queuePlank _ _ _
  | all => exact State.nodes_foldl _ fun _ _ => State.nodes_foldl _ fun _ _ => State.nodes_queuePlank _ _ _
  | node a =>
    unfold State.launch
    dsimp only
    split
    · rfl
    · exact State.nodes_foldl _ fun _ _ => State.nodes_routePlank _ _

theorem State.nodes_sendMsg (d : Dest) (vc typ arg : Nat) (bs : List Byte) (track : Bool) (cmd : Option (Nat × Nat)) :
    (s.sendMsg d vc typ arg bs track cmd).via.nodes = s.via.nodes := by
  unfold State.sendMsg
  dsimp only
  split
  · split
    · rfl
    · exact State.nodes_launch _ _
  · exact State.nodes_launch _ _

theorem State.nodes_notify (p vec : Nat) : (s.notify p vec).via.nodes = s.via.nodes := by
  unfold State.notify
  dsimp only
  split_ifs
  · rfl
  · rfl
  · rfl
  · rfl
  · refine State.nodes_foldl (s := { s with host := { s.host with remoteNotified := true } }) _ fun t x => ?_
    split
    · rfl
    · exact State.nodes_sendMsg _ _ _ _ _ _ _

theorem State.nodes_putEvent (p : Nat) (e : Event) : (s.putEvent p e).via.nodes = s.via.nodes := by
  rw [State.putEvent_eq, State.nodes_notify]
  unfold State.portWrite
  split <;> rfl

theorem State.nodes_deliverEvent (p : Nat) (e : Event) : (s.deliverEvent p e).via.nodes = s.via.nodes := by
  unfold State.deliverEvent
  split_ifs
  · rfl
  · exact State.nodes_putEvent p e
  · exact State.nodes_putEvent p _
  · rfl

theorem State.nodes_raise (code : Nat) (fs : List ByteField) : (s.raise code fs).via.nodes = s.via.nodes := by
  refine State.nodes_foldl _ fun t p => ?_
  unfold State.raiseFor
  dsimp only
  split_ifs
  · rfl
  · rfl
  · exact State.nodes_deliverEvent p _
  · rfl

/-- A node that vanished stays in the map (R223). -/
theorem State.length_nodes_loseNodes : s.loseNodes.via.nodes.length = s.via.nodes.length :=
  (congrArg List.length (State.nodes_foldl _ fun _ _ => State.nodes_raise _ _)).trans (List.length_map _)

theorem State.nodes_sendRoutes : s.sendRoutes.via.nodes = s.via.nodes := by
  refine State.nodes_foldl _ fun t a => ?_
  dsimp only
  split
  · rfl
  · exact State.nodes_sendMsg _ _ _ _ _ _ _

/-! ### SETTLE (R222, R223) -/

/-- SETTLE has passed at a master, in a discovery or, in HW mode, after a change of the map. -/
def State.settleDue (s : State) : Prop :=
  s.isMaster = true ∧ (s.via.searching = true ∨ (s.via.moved = true ∧ s.fld VIA_STATUS.DISC = 4 ∧ s.assist 9 = false)) ∧
    s.restarting = false ∧ s.via.quietAt + s.fld VIA_CFG.SETTLE * ms ≤ s.clock

/-- The state with the discovery settled. -/
def State.settled (s : State) : State :=
  { s.setFld VIA_STATUS.DISC 4 with via := { s.via with searching := false, settle := true, moved := false } }

/-- The master's own routes, over the map as it stands. -/
def State.ownRoutes (s : State) : State :=
  (s.topology.map (·.1)).foldl (fun (t : State) a => t.putRoute a (routeWord s.topology t.self a)) s

theorem State.settleDue_iff : (s.isMaster ∧ (s.via.searching ∨ (s.via.moved ∧ s.fld VIA_STATUS.DISC = 4 ∧ ¬ s.assist 9)) ∧
    ¬ s.restarting ∧ s.via.quietAt + s.fld VIA_CFG.SETTLE * ms ≤ s.clock) ↔ s.settleDue := by
  simp only [State.settleDue, Bool.not_eq_true]

theorem onSettleExpiry_early (h : ¬ s.settleDue) : onSettleExpiry s = s := if_neg (mt State.settleDue_iff.mp h)

section Settled
variable (h : s.settleDue)
include h

theorem onSettleExpiry_assist (hassist : s.settled.assist 9 = true) : onSettleExpiry s = s.settled.discoverDone :=
  (if_pos (State.settleDue_iff.mpr h)).trans (if_pos hassist)

theorem onSettleExpiry_routes {t : State} (hhw : s.settled.assist 9 = false)
    (ht : t = s.settled.ownRoutes.loseNodes.sendRoutes) :
    onSettleExpiry s = (t.raise 0x0A02 [(16, 2, t.via.nodes.length + 1)]).discoverDone := by
  rw [ht, State.nodes_sendRoutes, State.length_nodes_loseNodes]
  exact (if_pos (State.settleDue_iff.mpr h)).trans (if_neg (Bool.eq_false_iff.mp hhw))

end Settled

/-! ### Subscription (R229) -/

theorem onSubscribe_none (h : s.takeMsg 0x0A = none) : onSubscribe s = s := by
  rw [onSubscribe, h]

theorem onSubscribe_taken (h : s.takeMsg 0x0A = some (k, m, u)) : onSubscribe s =
    if m.payload.length = 512 then { u with via := { u.via with interest := Sparse.set u.via.interest k m.payload } } else u := by
  rw [onSubscribe, h]

/-- An announcement leaves a port: the port is UP with SUB_EN, and the announcement changed or 100 ms have passed. -/
def State.subscribeDue (s : State) (k : Nat) : Prop :=
  s.portUp k = true ∧ s.flag VIA_PORT_CFG.SUB_EN k = true ∧
    (Sparse.find s.via.announced k ≠ some (s.announcement k) ∨ Sparse.get 0 s.via.announcedAt k + 100 * ms ≤ s.clock)

theorem onSubscribeSend_due (h : s.subscribeDue port) : onSubscribeSend port s =
    State.sendMsg { s with via := { s.via with
        announced := Sparse.set s.via.announced port (s.announcement port),
        announcedAt := Sparse.set s.via.announcedAt port s.clock } }
      (.neighbour port) 0 0x0A 0 (s.announcement port) false := if_pos h

theorem onSubscribeSend_early (h : ¬ s.subscribeDue port) : onSubscribeSend port s = s := if_neg h

/-! ### Commands of group 0x0A (Table 8-11) -/

theorem onCmdViaDiscover_none (h : s.cmd q tag 0x0A01 = none) : onCmdViaDiscover q tag s = s := by
  rw [onCmdViaDiscover, h]

theorem onCmdViaDiscover_started (h : s.cmd q tag 0x0A01 = some c) : onCmdViaDiscover q tag s =
    if s.isMaster then (s.run c).startDiscovery else s.finish c 0x0A01 := by
  rw [onCmdViaDiscover, h]
  exact ite_not _ _ _

theorem onCmdViaAssign_none (h : s.cmd q tag 0x0A02 = none) : onCmdViaAssign q tag s = s := by
  rw [onCmdViaAssign, h]

section Assign
variable (h : s.cmd q tag 0x0A02 = some c)
include h

theorem onCmdViaAssign_unknown (hnone : s.via.nodes.find? (fun n => n.serial = c.opnd 40 8) = none) :
    onCmdViaAssign q tag s = s.finish c 0x0A03 := by
  rw [onCmdViaAssign, h]
  dsimp only
  rw [hnone]

theorem onCmdViaAssign_known {n : NodeSt} (hnode : s.via.nodes.find? (fun n => n.serial = c.opnd 40 8) = some n) :
    onCmdViaAssign q tag s =
      if s.addrHeld (c.opnd 40 8) (c.opnd 48 2) then s.finish c 0x0A02
      else (((s.putNode { n with addr := c.opnd 48 2 }).countNodes).sendAssign (c.opnd 40 8) (c.opnd 48 2) n.proxy n.port
        none).finish c stOk := by
  rw [onCmdViaAssign, h]
  dsimp only
  rw [hnode]

end Assign

theorem onCmdViaForget_none (h : s.cmd q tag 0x0A04 = none) : onCmdViaForget q tag s = s := by
  rw [onCmdViaForget, h]

theorem onCmdViaForget_started (h : s.cmd q tag 0x0A04 = some c) : onCmdViaForget q tag s =
    (State.countNodes { s with via := { s.via with
      nodes := s.via.nodes.filter fun n => n.addr ≠ c.opnd 32 2 } }).finish c stOk := by
  rw [onCmdViaForget, h]

/-! ### The commands -/

section Awake
variable (hawake : s.awake = true)
include hawake

theorem exec_probe : exec .probe s = .next (onProbe s) := congrArg _ (State.guarded_of_awake _ hawake)

theorem exec_announce : exec .announce s = .next (onAnnounce s) := congrArg _ (State.guarded_of_awake _ hawake)

theorem exec_assign : exec .assign s = .next (onAssign s) := congrArg _ (State.guarded_of_awake _ hawake)

theorem exec_hello : exec .hello s = .next (onHello s) := congrArg _ (State.guarded_of_awake _ hawake)

theorem exec_links : exec .links s = .next (onLinks s) := congrArg _ (State.guarded_of_awake _ hawake)

theorem exec_routes : exec .routes s = .next (onRoutes s) := congrArg _ (State.guarded_of_awake _ hawake)

theorem exec_notify : exec .notify s = .next (onNotify s) := congrArg _ (State.guarded_of_awake _ hawake)

theorem exec_subscribe : exec .subscribe s = .next (onSubscribe s) := congrArg _ (State.guarded_of_awake _ hawake)

theorem exec_settleExpiry : exec .settleExpiry s = .next (onSettleExpiry s) := congrArg _ (State.guarded_of_awake _ hawake)

theorem exec_subscribeSend : exec (.subscribeSend port) s = .next (onSubscribeSend port s) :=
  congrArg _ (State.guarded_of_awake _ hawake)

theorem exec_cmdViaDiscover : exec (.cmdViaDiscover q tag) s = .next (onCmdViaDiscover q tag s) :=
  congrArg _ (State.guarded_of_awake _ hawake)

theorem exec_cmdViaAssign : exec (.cmdViaAssign q tag) s = .next (onCmdViaAssign q tag s) :=
  congrArg _ (State.guarded_of_awake _ hawake)

theorem exec_cmdViaForget : exec (.cmdViaForget q tag) s = .next (onCmdViaForget q tag s) :=
  congrArg _ (State.guarded_of_awake _ hawake)

/-- The rows of tollhouse messages, each with its TYPE (Table 8-2). -/
theorem takesMsg_of_row : ∀ c ∈ [(Instr.probe, 0x01), (.announce, 0x02), (.assign, 0x03), (.hello, 0x04), (.links, 0x05),
    (.routes, 0x06), (.notify, 0x09)], TakesMsg c.1 s c.2 := by
  simp only [List.forall_mem_cons]
  exact ⟨⟨_, exec_probe hawake⟩, ⟨_, exec_announce hawake⟩, ⟨_, exec_assign hawake⟩, ⟨_, exec_hello hawake⟩,
    ⟨_, exec_links hawake⟩, ⟨_, exec_routes hawake⟩, ⟨_, exec_notify hawake⟩, List.forall_mem_nil _⟩

end Awake

end Viaduct

/-- Settles O49: every row of a tollhouse message is a `State.onMsg` of its TYPE; who receives it, master, assigned or not, decides
what it does (log entries 13, 148 and 150); SETTLE, the announcements and the commands act when they are due. -/
theorem discovery : Obligations.Discovery := by
  unfold Obligations.Discovery
  intro s port q tag hawake
  refine ⟨fun c hc => (takesMsg_of_row hawake c hc).rests, ?_⟩
  rw [exec_subscribe hawake, exec_probe hawake, exec_announce hawake, exec_assign hawake, exec_hello hawake, exec_links hawake,
    exec_routes hawake, exec_notify hawake, exec_settleExpiry hawake, exec_subscribeSend hawake, exec_cmdViaDiscover hawake,
    exec_cmdViaAssign hawake, exec_cmdViaForget hawake]
  refine ⟨fun hnone => ?_, fun T k m u h => State.takeMsg_spec h, fun k m u h => ?_, fun hrun => ⟨fun k m u h =>
      ⟨fun hmaster => ⟨fun hown => ?_, fun hother => ?_⟩, fun hmaster hself => ?_, fun hmaster hself => ?_⟩,
    fun k m u h => ⟨fun hmaster => ?_, fun hmaster => ?_⟩, fun k m u h => ⟨fun hother => ?_, fun hnamed => ?_⟩,
    fun k m u h => ?_, fun k m u h => ⟨fun hmaster => ?_, fun hmaster => ?_⟩,
    fun k m u h => ⟨fun hbad => ?_, fun hsome hwhole hin => ?_⟩, fun k m u h => ?_⟩,
    ⟨fun hearly => ?_, fun hdue hassist => ?_, fun hdue hhw => ?_⟩, ⟨fun hdue => ?_, fun hearly => ?_⟩,
    fun hnone => ?_, fun c hc => ?_, fun hnone => ?_, fun c hc => ⟨fun hnone => ?_, fun n hn => ?_⟩,
    fun hnone => ?_, fun c hc => ?_⟩
  · rw [onSubscribe_none hnone]
  · exact congrArg _ (onSubscribe_taken h)
  · exact congrArg _ (onProbe_own hrun h hmaster hown)
  · exact congrArg _ (onProbe_conflict hrun h hmaster hother)
  · exact congrArg _ (onProbe_unassigned hrun h hmaster hself)
  · exact congrArg _ (onProbe_assigned hrun h hmaster hself)
  · exact congrArg _ (onAnnounce_master hrun h hmaster)
  · exact congrArg _ (onAnnounce_proxy hrun h hmaster)
  · exact congrArg _ (onAssign_other hrun h hother)
  · exact congrArg _ (onAssign_named hrun h hnamed)
  · exact congrArg _ (onHello_taken hrun h)
  · exact congrArg _ (onLinks_other hrun h hmaster)
  · exact congrArg _ (onLinks_master hrun h hmaster)
  · exact congrArg _ (onRoutes_malformed hrun h hbad)
  · refine congrArg _ (onRoutes_whole hrun h ?_)
    rintro (hnone | hpart | hpast)
    · exact hsome.ne' hnone
    · exact hpart hwhole
    · exact hpast.not_ge hin
  · exact congrArg _ (onNotify_taken hrun h)
  · exact congrArg _ (onSettleExpiry_early hearly)
  · exact congrArg _ (onSettleExpiry_assist hdue hassist)
  · exact congrArg _ (onSettleExpiry_routes hdue hhw rfl)
  · exact congrArg _ (onSubscribeSend_due hdue)
  · exact congrArg _ (onSubscribeSend_early hearly)
  · rw [onCmdViaDiscover_none hnone]
  · exact congrArg _ (onCmdViaDiscover_started hc)
  · rw [onCmdViaAssign_none hnone]
  · exact congrArg _ (onCmdViaAssign_unknown hc hnone)
  · exact congrArg _ (onCmdViaAssign_known hc hn)
  · rw [onCmdViaForget_none hnone]
  · exact congrArg _ (onCmdViaForget_started hc)

end Sys2Proof.Machine

/-! THEOREMS. TIME planks, offers, lock states and the wall count (R195, R233 to R238, R240). -/

namespace Sys2Proof.Machine

section Time
variable {s : State} {k sub : Fin 16} {blocks : List Block} {bs : List Byte} {long : Bool} {p : Path} {v : Word} {n : Nat}
  {t : TimeInfo}

/-! ### TIME planks (R195, R235, R236) -/

theorem onTimePlankSend_due (hup : s.portUp k = true) (hdue : (s.timePort k).lastSend + s.interval ≤ s.clock) :
    onTimePlankSend k sub s =
      if 31 ≤ (s.port k).sinceTime then s.sendTime k sub else s.setPort k { s.port k with timeDue := true } :=
  if_pos ⟨hup, hdue⟩

theorem onTimePlankSend_early (h : s.portUp k = false ∨ s.clock < (s.timePort k).lastSend + s.interval) :
    onTimePlankSend k sub s = s :=
  if_neg fun ⟨hup, hdue⟩ => h.elim (fun hdown => by simp [hdown] at hup) hdue.not_gt

/-- The TIME planks of a port that still stand in the VC3 buffer: each is copied out within 2 µs (R198, log entry 146). -/
def State.timeHeld (s : State) (k : Nat) : List Nat := (s.port k).timeAt.filter fun t => decide (s.clock < t + 2 * us)

section Whole
variable (hup : s.portUp k = true) (hplank : carriesPlank blocks long bs) (htyp : (plankOf bs).typ = 3)
include hup hplank htyp

theorem onTimePlank_taken : onTimePlank k sub blocks s =
    if 56 ≤ (s.timeHeld k).length then s.bump SPN_DROP.COUNT k
    else (State.timeArrives (s.setPort k { s.port k with timeAt := s.timeHeld k ++ [s.clock] }) k
      (timeOf (plankOf bs).payload) sub).afterStep :=
  (State.receive_plank (State.takesPlanks_of_portUp hup) hplank htyp).trans (if_neg (not_not_intro hup))

theorem onTimePlank_full (hfull : 56 ≤ (s.timeHeld k).length) : onTimePlank k sub blocks s = s.bump SPN_DROP.COUNT k :=
  (onTimePlank_taken hup hplank htyp).trans (if_pos hfull)

theorem onTimePlank_room (hroom : (s.timeHeld k).length < 56) : onTimePlank k sub blocks s =
    (State.timeArrives (s.setPort k { s.port k with timeAt := s.timeHeld k ++ [s.clock] }) k
      (timeOf (plankOf bs).payload) sub).afterStep :=
  (onTimePlank_taken hup hplank htyp).trans (if_neg hroom.not_ge)

end Whole

/-! ### Offers and HOLDOVER (R237, R238) -/

theorem onOfferExpiry_lapsed (hoffer : (s.timePort k).offer.isSome = true) (hlapsed : s.offerValid k = false) :
    onOfferExpiry k s = s.chooseParent := if_pos ⟨hoffer, by simp [hlapsed]⟩

theorem onOfferExpiry_valid (h : (s.timePort k).offer = none ∨ s.offerValid k = true) : onOfferExpiry k s = s := by
  refine if_neg fun ⟨hoffer, hlapsed⟩ => ?_
  rcases h with hnone | hvalid
  · simp [hnone] at hoffer
  · exact hlapsed hvalid

theorem onHoldoverExpiry_due (hlock : s.lock = tmHoldover) (hdue : s.time.holdSince + s.fld TIM_HOLD.HOLD_MAX * ms ≤ s.clock) :
    onHoldoverExpiry s = s.setLock tmFree := if_pos ⟨hlock, hdue⟩

theorem onHoldoverExpiry_early (h : s.lock ≠ tmHoldover ∨ s.clock < s.time.holdSince + s.fld TIM_HOLD.HOLD_MAX * ms) :
    onHoldoverExpiry s = s := if_neg fun ⟨hlock, hdue⟩ => h.elim (· hlock) hdue.not_gt

/-! ### The host's write of TIM_WALL (R6, R240) -/

/-- TIM_WALL_HI is the high half of a pair outside the areas (Table 8-10). -/
theorem timWallHigh_row : inArea 0xE0004 = false ∧
    ((regAt 0xE0004).any fun r => decide (r.1.base = 0xE0000 ∧ r.1.pair = true ∧ r.2.2 = true)) = true := by decide +kernel

/-- The host may set wall time: in ROOT or FREE, without a cadence. -/
def State.wallFree (s : State) : Prop := (s.lock = tmRoot ∨ s.lock = tmFree) ∧ s.cadence = false

theorem State.writeWall_free (w : Nat) (h : s.wallFree) : s.writeWall w = { s with time := { s.time with wall := w % 2 ^ 64 } } :=
  if_pos ⟨h.1, by simp [h.2]⟩

theorem State.writeWall_held (w : Nat) (h : ¬ s.wallFree) : s.writeWall w = s :=
  if_neg fun ⟨hlock, hcad⟩ => h ⟨hlock, Bool.eq_false_iff.mpr hcad⟩

theorem State.writePair_timWall {d : RegDesc} (i a w : Nat) (h : d.base = 0xE0000) : s.writePair d i a w = s.writeWall w := by
  rw [State.writePair, h]
  rfl

theorem State.regWord_timWall : s.regWord 0xE0000 = s.time.wall % 2 ^ 32 := by
  simp [State.regWord, State.computed, GLB_CLK.STR_DIV, GLB_GPIO_IN.IN]

/-- The count that a write of TIM_WALL_HI asks for: the low half is the one staged, else the one in force (R6). -/
def State.wallAsked (s : State) (p : Path) (v : Nat) : Nat :=
  (s.stagedLow p 0xE0000).getD (s.regWord 0xE0000) + 2 ^ 32 * v

/-- Both halves take effect as one write of wall time. -/
theorem State.time_putWord_timWallHigh (w : Nat) :
    (s.putWord p 0xE0004 w).time = ((s.unstage p 0xE0000).writeWall (s.wallAsked p w)).time := by
  obtain ⟨harea, hany⟩ := timWallHigh_row
  obtain ⟨⟨d, i, hi⟩, hreg, hd⟩ := (Option.any_eq_true _ _).mp hany
  obtain ⟨hbase, hpair, rfl⟩ : d.base = 0xE0000 ∧ d.pair = true ∧ hi = true := of_decide_eq_true hd
  rw [State.putWord_pairHigh harea w hreg hpair, State.wallAsked]
  cases hstaged : s.stagedLow p 0xE0000 with
  | some low =>
    rw [State.commitPair_staged w hstaged, State.writePair_timWall _ _ _ hbase]
    rfl
  | none =>
    rw [State.commitPair_unstaged w hstaged, State.writeHigh, State.writePair_timWall _ _ _ hbase, State.regWord_timWall,
      Option.getD_none, State.regWord_timWall]
    split <;> rfl

theorem State.time_hostWriteWord_timWallHigh_free (w : Nat) (hopen : s.pathOpen p = true) (hfree : s.wallFree) :
    (s.hostWriteWord p 0xE0004 w).time = { s.time with wall := s.wallAsked p w % 2 ^ 64 } := by
  have hsame : (s.unstage p 0xE0000).wallFree := hfree
  rw [State.hostWriteWord_open _ hopen, State.time_putWord_timWallHigh, State.writeWall_free _ hsame]
  rfl

theorem State.time_hostWriteWord_timWallHigh_held (w : Nat) (hopen : s.pathOpen p = true) (hheld : ¬ s.wallFree) :
    (s.hostWriteWord p 0xE0004 w).time = s.time := by
  have hsame : ¬ (s.unstage p 0xE0000).wallFree := hheld
  rw [State.hostWriteWord_open _ hopen, State.time_putWord_timWallHigh, State.writeWall_held _ hsame]
  rfl

/-! ### What a root and a lock state leave (R239, R243) -/

/-- An event leaves time, and the registers in which no report counts. -/
theorem State.time_raise {code : Nat} {fs : List ByteField} (h : ∀ f ∈ fs, 16 ≤ f.1 ∧ f.1 + f.2.1 ≤ 32) :
    (s.raise code fs).time = s.time := by
  rw [(State.raise_filed h).rest]

theorem State.fld_raise {f : Fld} {i code : Nat} {fs : List ByteField} (hfs : ∀ f ∈ fs, 16 ≤ f.1 ∧ f.1 + f.2.1 ≤ 32)
    (h : ¬ reportReg (f.addr i)) : (s.raise code fs).fld f i = s.fld f i := by
  rw [State.fld, (State.raise_filed hfs).reported.regs _ _ h, State.fld]

/-- What is kept of wall time decides no field. -/
theorem State.fld_withTime {f : Fld} {i : Nat} (x : TimeSt) : State.fld { s with time := x } f i = s.fld f i :=
  State.fld_congr rfl

theorem State.count_setRoot (r pri : Nat) :
    (s.setRoot r pri).time.wall = s.time.wall ∧ (s.setRoot r pri).time.frac = s.time.frac := by
  unfold State.setRoot
  dsimp only
  split
  · exact ⟨rfl, rfl⟩
  · rw [State.time_raise (by simp)]
    exact ⟨rfl, rfl⟩

theorem State.count_setLock (st : Nat) :
    (s.setLock st).time.wall = s.time.wall ∧ (s.setLock st).time.frac = s.time.frac := by
  unfold State.setLock
  dsimp only
  split
  · rw [State.time_raise (by simp)]
    split <;> exact ⟨rfl, rfl⟩
  · split <;> exact ⟨rfl, rfl⟩

/-- TIM_STATUS is no register of TIM_ROOT or of TIM_RATE, and no report counts in it. -/
theorem timStatus_apart : ¬ reportReg 0xE0010 ∧ TIM_ROOT.ROOT.addr 0 ≠ 0xE0010 ∧ TIM_ROOT.PRI.addr 0 ≠ 0xE0010 ∧
    TIM_RATE.RATE.addr 0 ≠ 0xE0010 := by
  simp [reportReg, Fld.addr, VIA_CNT_DROP.NOROUTE, TIM_ROOT.ROOT, TIM_ROOT.PRI, TIM_RATE.RATE]

section Status
variable {f : Fld} (hf : f.addr 0 = 0xE0010)
include hf

theorem State.fld_setRate_status (w : Nat) : (s.setFld TIM_RATE.RATE w).fld f = s.fld f := by
  obtain ⟨-, -, -, hrate⟩ := timStatus_apart
  exact State.fld_setFld_ne _ _ (hf.trans_ne hrate.symm)

theorem State.fld_setRoot_status (r pri : Nat) : (s.setRoot r pri).fld f = s.fld f := by
  obtain ⟨hreport, hroot, hpri, -⟩ := timStatus_apart
  have hstored : ((s.setFld TIM_ROOT.ROOT r).setFld TIM_ROOT.PRI pri).fld f = s.fld f := by
    rw [State.fld_setFld_ne _ _ (hf.trans_ne hpri.symm), State.fld_setFld_ne _ _ (hf.trans_ne hroot.symm)]
  unfold State.setRoot
  dsimp only
  split
  · exact hstored
  · rw [State.fld_raise (by simp) (hf ▸ hreport), State.fld_withTime]
    exact hstored

/-- The registers with a lock state in TIM_STATUS. -/
def State.lockShown (s : State) (st : Nat) : State :=
  (s.setFld TIM_STATUS.STATE st).setFlag TIM_STATUS.LOCKED (decide (st = tmLocked))

theorem State.fld_setLock_status (st : Nat) : (s.setLock st).fld f = (s.lockShown st).fld f := by
  obtain ⟨hreport, -⟩ := timStatus_apart
  unfold State.setLock
  dsimp only
  have hstored : (if st = tmFree ∨ st = tmRoot then
      State.setFld (State.lockShown { s with time := { s.time with good := 0, bad := 0 } } st) TIM_RATE.RATE 0
      else State.lockShown { s with time := { s.time with good := 0, bad := 0 } } st).fld f = (s.lockShown st).fld f := by
    split
    · exact (State.fld_setRate_status hf 0).trans (State.fld_congr rfl)
    · exact State.fld_congr rfl
  split
  · rw [State.fld_raise (by simp) (hf ▸ hreport)]
    exact hstored
  · exact hstored

end Status

/-! ### FT_SYNC (R233, R511) -/

/-- The count that an FT_SYNC edge sets, in 1/16 tick: E + 8 and FT_DELAY, with E the next multiple of 1,048,576 at or after the
keystone's last TIME plank (log entry 151). -/
def State.ftCount (s : State) (t : TimeInfo) : Nat :=
  (((t.tx / 16 + 1048575) / 1048576 * 1048576 + 8) * 16 + s.fldS TIM_FT.FT_DELAY).toNat

/-- The state with that count. -/
def State.ftCounted (s : State) (t : TimeInfo) : State :=
  { s with time := { s.time with wall := s.ftCount t / 16 % 2 ^ 64, frac := s.ftCount t % 16 * 2 ^ 36 } }

/-- The state with that count and the keystone as parent. -/
def State.ftTaken (s : State) (n : Nat) (t : TimeInfo) : State :=
  (((((s.ftCounted t).setFld TIM_STATUS.PARENT n).setFlag TIM_STATUS.PARENT_FT true).setFld TIM_STATUS.STEPS (t.steps + 1)).setRoot t.root
    t.rootPri).setFld TIM_RATE.RATE 0

theorem onFtSyncEdge_edge (hon : s.flag TIM_CFG.FT_SYNC_EN = true) (hpeer : s.pins.ftId ≠ 0) (hport : s.footingPort = some n)
    (hoffer : (s.timePort n).offer = some t) : onFtSyncEdge s =
      if (s.ftTaken n t).lock = tmLocked then s.ftTaken n t else (s.ftTaken n t).setLock tmLocked := by
  rw [onFtSyncEdge, if_pos ⟨hon, hpeer⟩, hport]
  dsimp only
  rw [hoffer]
  rfl

theorem onFtSyncEdge_none (h : s.flag TIM_CFG.FT_SYNC_EN = false ∨ s.pins.ftId = 0 ∨ s.footingPort = none ∨
    ∃ n, s.footingPort = some n ∧ (s.timePort n).offer = none) : onFtSyncEdge s = s := by
  rcases h with hoff | hkeystone | hnone | ⟨n, hport, hoffer⟩
  · exact if_neg fun ⟨hon, _⟩ => by simp [hoff] at hon
  · exact if_neg fun ⟨_, hpeer⟩ => hpeer hkeystone
  · rw [onFtSyncEdge, hnone]
    exact ite_self s
  · rw [onFtSyncEdge, hport]
    dsimp only
    rw [hoffer]
    exact ite_self s

theorem State.count_ftTaken :
    (s.ftTaken n t).time.wall = s.ftCount t / 16 % 2 ^ 64 ∧ (s.ftTaken n t).time.frac = s.ftCount t % 16 * 2 ^ 36 :=
  State.count_setRoot _ _

theorem State.flag_ftTaken_parent : (s.ftTaken n t).flag TIM_STATUS.PARENT_FT = true := by
  have happart : TIM_STATUS.PARENT_FT.apart TIM_STATUS.STEPS = true := by decide
  rw [State.ftTaken, State.flag, State.fld_setRate_status rfl, State.fld_setRoot_status rfl, State.fld_setFld_apart _ happart]
  exact State.flag_setFlag_same _ _ _ rfl (by decide)

theorem State.flag_setLock_parent (st : Nat) : (s.setLock st).flag TIM_STATUS.PARENT_FT = s.flag TIM_STATUS.PARENT_FT := by
  have hlocked : TIM_STATUS.PARENT_FT.apart TIM_STATUS.LOCKED = true := by decide
  have hstate : TIM_STATUS.PARENT_FT.apart TIM_STATUS.STATE = true := by decide
  rw [State.flag, State.fld_setLock_status rfl, State.lockShown, State.setFlag_eq, State.fld_setFld_apart _ hlocked,
    State.fld_setFld_apart _ hstate, State.flag]

theorem State.lock_setLock {st : Nat} (h : st < 8) : (s.setLock st).lock = st := by
  have happart : TIM_STATUS.STATE.apart TIM_STATUS.LOCKED = true := by decide
  rw [State.lock, State.fld_setLock_status rfl, State.lockShown, State.setFlag_eq, State.fld_setFld_apart _ happart,
    State.fld_setFld_same _ _ _ _ (by decide)]
  exact Nat.mod_eq_of_lt h

/-- At an FT_SYNC edge the count is set, and the keystone is followed in LOCKED. -/
theorem onFtSyncEdge_follows (hon : s.flag TIM_CFG.FT_SYNC_EN = true) (hpeer : s.pins.ftId ≠ 0) (hport : s.footingPort = some n)
    (hoffer : (s.timePort n).offer = some t) :
    ((onFtSyncEdge s).time.wall = s.ftCount t / 16 % 2 ^ 64 ∧ (onFtSyncEdge s).time.frac = s.ftCount t % 16 * 2 ^ 36) ∧
    (onFtSyncEdge s).flag TIM_STATUS.PARENT_FT = true ∧ (onFtSyncEdge s).lock = tmLocked := by
  rw [onFtSyncEdge_edge hon hpeer hport hoffer]
  split
  · next hlock => exact ⟨State.count_ftTaken, State.flag_ftTaken_parent, hlock⟩
  · obtain ⟨hwall, hfrac⟩ := State.count_setLock (s := s.ftTaken n t) tmLocked
    rw [hwall, hfrac, State.flag_setLock_parent]
    exact ⟨State.count_ftTaken, State.flag_ftTaken_parent, State.lock_setLock (by decide)⟩

/-! ### The commands -/

section Awake
variable (hawake : s.awake = true)
include hawake

theorem exec_timePlankSend : exec (.timePlankSend k sub) s = .next (onTimePlankSend k sub s) :=
  congrArg _ (State.guarded_of_awake _ hawake)

theorem exec_offerExpiry : exec (.offerExpiry k) s = .next (onOfferExpiry k s) := congrArg _ (State.guarded_of_awake _ hawake)

theorem exec_holdoverExpiry : exec .holdoverExpiry s = .next (onHoldoverExpiry s) :=
  congrArg _ (State.guarded_of_awake _ hawake)

theorem exec_wallTimeWrite : exec (.wallTimeWrite p v) s = .next (s.hostWriteWord p 0xE0004 v.toNat) :=
  congrArg _ (State.guarded_of_awake _ hawake)

theorem exec_ftSyncEdge : exec .ftSyncEdge s = .next (onFtSyncEdge s) := congrArg _ (State.guarded_of_awake _ hawake)

end Awake

end Time

/-- Settles O51: planks, offers and lock states act when they are due; both halves of TIM_WALL are one write of wall time; the root and
the lock state that follow an FT_SYNC edge leave the count (log entries 146 and 151). -/
theorem wallTime : Obligations.WallTime := by
  unfold Obligations.WallTime
  intro s k sub blocks bs long p v hawake
  rw [exec_timePlankSend hawake, exec_timePlank hawake, exec_offerExpiry hawake, exec_holdoverExpiry hawake,
    exec_wallTimeWrite hawake, exec_ftSyncEdge hawake]
  refine ⟨fun hup hdue => ?_, fun hearly => ?_,
    fun hup hin hcrc hfault htyp => ⟨fun hfull => ?_, fun hroom => ?_⟩,
    fun hoffer hlapsed => ?_, fun hvalid => ?_, fun hlock hdue => ?_, fun hearly => ?_,
    fun hopen => ⟨_, rfl, fun hfree => ?_, fun hheld => ?_⟩,
    fun n t hon hpeer hport hoffer => ⟨_, rfl, ?_⟩, fun hnone => ?_⟩
  · rw [onTimePlankSend_due hup hdue]
  · rw [onTimePlankSend_early hearly]
  · exact congrArg _ (onTimePlank_full hup ⟨hin, hcrc, hfault⟩ htyp hfull)
  · exact congrArg _ (onTimePlank_room hup ⟨hin, hcrc, hfault⟩ htyp hroom)
  · rw [onOfferExpiry_lapsed hoffer hlapsed]
  · rw [onOfferExpiry_valid hvalid]
  · rw [onHoldoverExpiry_due hlock hdue]
  · rw [onHoldoverExpiry_early hearly]
  · exact State.time_hostWriteWord_timWallHigh_free _ hopen hfree
  · refine State.time_hostWriteWord_timWallHigh_held _ hopen fun ⟨hlock, hcad⟩ => ?_
    rcases hheld with hruns | ⟨hroot, hfree⟩
    · cases hcad.symm.trans hruns
    · exact hlock.elim hroot hfree
  · exact onFtSyncEdge_follows hon hpeer hport hoffer
  · rw [onFtSyncEdge_none hnone]

end Sys2Proof.Machine

/-! THEOREMS. Generations, handles, tables and parapet records (R272 to R275, R280, R284, R286 to R288). -/

namespace Sys2Proof.Machine

section Composer
variable {s : State} {q : Fin 24} {tag : Nat} {c : Cmd}

/-! ### Commits (R272 to R275) -/

/-- Whether a commit carries a local block. -/
def Cmd.carriesLocal (c : Cmd) : Bool := decide (c.opnd 36 1 % 2 = 1)

/-- The layer table of a commit. -/
def State.commitTable (s : State) (c : Cmd) : List Byte := (s.payload c).take 4096

/-- The local block of a commit: the one it carries, else that of the newest generation held (R273). -/
def State.commitLocal (s : State) (c : Cmd) : List Byte :=
  if c.carriesLocal then (s.payload c).drop 4096 else (match s.cmp.gens.getLast? with | some x => x.loc | none => [])

/-- What the checks of Table 10-4 find in a commit. -/
def State.commitFault (s : State) (c : Cmd) : Option (Nat × Nat) :=
  s.checkCommit (c.opnd 32 4) (s.payload c) (s.commitTable c) (s.commitLocal c) c.carriesLocal

/-- The handle slot that a layer binds, with its use count (log entry 35). -/
def State.layerBind (s : State) (t b : List Byte) (l : Nat) : Option (Nat × Nat × Nat) :=
  let e := layerEnt t l
  if e.visible ∧ e.handle ∧ e.touches b then (s.handleNamed e.name).map fun h => (l, h.1, h.2.uses) else none

/-- The handle slots that a generation binds on a pier. -/
def State.handleBinds (s : State) (t b : List Byte) : List (Nat × Nat × Nat) :=
  if s.isPier then (List.range 63).filterMap (s.layerBind t b) else []

/-- The state with the generation of a commit held last and named by LAST. -/
def State.genHeld (s : State) (c : Cmd) : State :=
  let t := s.commitTable c
  let b := s.commitLocal c
  State.setFld { s with cmp := { s.cmp with
    gens := s.cmp.gens ++ [⟨c.opnd 32 4, descHash (c.opnd 32 4) t, t, b, s.handleBinds t b, false⟩],
    newest := some (c.opnd 32 4) } } CMP_GEN_LAST.LAST (c.opnd 32 4)

theorem State.handleBinds_of_not_pier (t b : List Byte) (h : s.isPier = false) : s.handleBinds t b = [] :=
  if_neg (by simp [h])

theorem State.layerBind_eq_some {t b : List Byte} {k l i n : Nat} : s.layerBind t b k = some (l, i, n) ↔
    k = l ∧ (layerEnt t l).visible = true ∧ (layerEnt t l).handle = true ∧ (layerEnt t l).touches b = true ∧
      ∃ h, s.handleNamed (layerEnt t l).name = some (i, h) ∧ h.uses = n := by
  simp only [State.layerBind, Option.ite_none_right_eq_some, Option.map_eq_some_iff, Prod.exists, Prod.mk.injEq]
  constructor
  · rintro ⟨⟨hvisible, hhandle, htouches⟩, i, h, hnamed, rfl, rfl, rfl⟩
    exact ⟨rfl, hvisible, hhandle, htouches, h, hnamed, rfl⟩
  · rintro ⟨rfl, hvisible, hhandle, htouches, h, hnamed, rfl⟩
    exact ⟨⟨hvisible, hhandle, htouches⟩, i, h, hnamed, rfl, rfl, rfl⟩

theorem State.mem_handleBinds {t b : List Byte} {l i n : Nat} (hpier : s.isPier = true) : (l, i, n) ∈ s.handleBinds t b ↔
    l < 63 ∧ (layerEnt t l).visible = true ∧ (layerEnt t l).handle = true ∧ (layerEnt t l).touches b = true ∧
      ∃ h, s.handleNamed (layerEnt t l).name = some (i, h) ∧ h.uses = n := by
  rw [State.handleBinds, if_pos hpier, List.mem_filterMap]
  simp only [State.layerBind_eq_some, List.mem_range]
  exact ⟨fun ⟨_, hlt, rfl, hbinds⟩ => ⟨hlt, hbinds⟩, fun ⟨hlt, hbinds⟩ => ⟨l, hlt, rfl, hbinds⟩⟩

theorem State.isPier_setFld_apart {f : Fld} {t : State} {i : Nat} (v : Nat) (hregs : t.regs = s.regs)
    (h : CFG_STATUS.ROLE.addr 0 ≠ f.addr i) : (t.setFld f v i).isPier = s.isPier := by
  rw [State.isPier, State.role, State.fld_setFld_ne t v h, State.fld_congr hregs, State.isPier, State.role]

theorem State.isPier_genHeld : (s.genHeld c).isPier = s.isPier := State.isPier_setFld_apart _ rfl (by decide)

theorem State.checkCommit_behind {g : Nat} (pay t b : List Byte) (loc : Bool) (h : s.genAhead g = false) :
    s.checkCommit g pay t b loc = some (0x0D01, 0xFFFE) := if_pos (by simp [h])

theorem State.checkCommit_full {g : Nat} (pay t b : List Byte) (loc : Bool) (hahead : s.genAhead g = true)
    (hfull : 3 ≤ s.pendingGens) : s.checkCommit g pay t b loc = some (0x0D02, 0xFFFE) :=
  (if_neg (by simp [hahead])).trans (if_pos hfull)

theorem onCmdCmpCommit_none (h : s.cmd q tag 0x0D01 = none) : onCmdCmpCommit q tag s = s := by
  rw [onCmdCmpCommit, h]

section Started
variable (h : s.cmd q tag 0x0D01 = some c)
include h

theorem onCmdCmpCommit_started : onCmdCmpCommit q tag s =
    match s.commitFault c with
    | some f => s.finish c f.1 (result [(16, 2, f.2)])
    | none => (if (s.genHeld c).isPier then (s.genHeld c).needStreams (streamsNeeded (s.commitTable c) (s.commitLocal c))
        else s.genHeld c).showCmp.finish c stOk := by
  rw [onCmdCmpCommit, h]
  rfl

theorem onCmdCmpCommit_refused {f : Nat × Nat} (hfault : s.commitFault c = some f) :
    onCmdCmpCommit q tag s = s.finish c f.1 (result [(16, 2, f.2)]) := by
  rw [onCmdCmpCommit_started h, hfault]

theorem onCmdCmpCommit_held (hgood : s.commitFault c = none) : onCmdCmpCommit q tag s =
    (if s.isPier then (s.genHeld c).needStreams (streamsNeeded (s.commitTable c) (s.commitLocal c))
      else s.genHeld c).showCmp.finish c stOk := by
  rw [onCmdCmpCommit_started h, hgood, State.isPier_genHeld]

end Started

/-! ### Allocating a handle (R286) -/

/-- The pages that an allocation asks for. -/
def Cmd.allocPages (c : Cmd) : Nat := (c.opnd 36 2 * c.opnd 38 2 * pixelBytes (c.opnd 40 1) + 4095) / 4096

/-- The first slot with no live handle and no space held. -/
def State.freeSlot (s : State) : Option Nat := (List.range 4096).find? fun i => (s.handle i).all fun x => !x.live && !x.space

/-- The handle that an allocation makes in a slot, at a page of a partition. -/
def State.handleMade (s : State) (c : Cmd) (slot part page : Nat) : Handle :=
  ⟨c.opnd 32 4, c.opnd 36 2, c.opnd 38 2, c.opnd 40 1, (((s.handle slot).map (·.uses)).getD 0 + 1) % 2 ^ 20, 0, true, true,
    page, c.allocPages, part⟩

/-- The state with a handle in a slot, its pixels zero. -/
def State.handleZeroed (s : State) (slot : Nat) (x : Handle) : State :=
  (s.memZero (s.handleAt x).1 (s.handleAt x).2 (4096 * x.pages)).setHandle slot x

theorem onCmdCmpAlloc_none (h : s.cmd q tag 0x0D02 = none) : onCmdCmpAlloc q tag s = s := by
  rw [onCmdCmpAlloc, h]

theorem onCmdCmpAlloc_other (h : s.cmd q tag 0x0D02 = some c) (hother : s.isPier = false) :
    onCmdCmpAlloc q tag s = s.finish c 0x0D15 := by
  rw [onCmdCmpAlloc, h]
  exact if_pos (Bool.eq_false_iff.mp hother)

section Alloc
variable (h : s.cmd q tag 0x0D02 = some c) (hpier : s.isPier = true)
include h hpier

theorem onCmdCmpAlloc_named (hnamed : (s.handleNamed (c.opnd 32 4)).isSome = true) :
    onCmdCmpAlloc q tag s = s.finish c 0x0D0E := by
  rw [onCmdCmpAlloc, h]
  exact (if_neg (not_not_intro hpier)).trans (if_pos hnamed)

section Unnamed
variable (hfree : (s.handleNamed (c.opnd 32 4)).isSome = false)
include hfree

theorem onCmdCmpAlloc_noRoom (hroom : s.fitLayer c.allocPages = none ∨ s.freeSlot = none) :
    onCmdCmpAlloc q tag s = s.finish c 0x0D0D := by
  rw [onCmdCmpAlloc, h]
  dsimp only
  rw [if_neg (not_not_intro hpier), if_neg (Bool.eq_false_iff.mp hfree)]
  split
  · next hslot hpages =>
    rcases hroom with hnone | hnone
    · cases hnone.symm.trans hpages
    · cases hnone.symm.trans hslot
  · rfl

theorem onCmdCmpAlloc_made {slot part page : Nat} (hpages : s.fitLayer c.allocPages = some (part, page))
    (hslot : s.freeSlot = some slot) : onCmdCmpAlloc q tag s =
      (s.handleZeroed slot (s.handleMade c slot part page)).showCmp.finish c stOk
        (result [(16, 4, handleNum slot (s.handleMade c slot part page))]) := by
  rw [Cmd.allocPages] at hpages
  rw [State.freeSlot] at hslot
  rw [onCmdCmpAlloc, h]
  dsimp only
  rw [if_neg (not_not_intro hpier), if_neg (Bool.eq_false_iff.mp hfree)]
  rw [hslot, hpages]
  rfl

end Unnamed

end Alloc

/-! ### Writing into a handle and freeing it (R287, R288) -/

/-- The state with the rows of a write stored and counted (R287). -/
def State.rowsWritten (s : State) (c : Cmd) (i : Nat) (h : Handle) : State :=
  (s.putRows h (c.opnd 36 2) (c.opnd 38 2) (c.opnd 40 2) (c.opnd 42 2) (s.payload c)).setHandle i
    { h with writes := h.writes + ((s.payload c).length - 1) / mib + 1 }

/-- The state with a handle live no longer; references hold its space (R288). -/
def State.handleFreed (s : State) (i : Nat) (h : Handle) : State :=
  (s.setHandle i { h with live := false, space := decide (0 < s.handleRefs i) }).showCmp

theorem onCmdCmpWrite_none (h : s.cmd q tag 0x0D03 = none) : onCmdCmpWrite q tag s = s := by
  rw [onCmdCmpWrite, h]

theorem onCmdCmpWrite_other (h : s.cmd q tag 0x0D03 = some c) (hother : s.isPier = false) :
    onCmdCmpWrite q tag s = s.finish c 0x0D15 := by
  rw [onCmdCmpWrite, h]
  exact if_pos (Bool.eq_false_iff.mp hother)

section Write
variable (h : s.cmd q tag 0x0D03 = some c) (hpier : s.isPier = true)
include h hpier

theorem onCmdCmpWrite_stale (hstale : s.liveHandle (c.opnd 32 4) = none) : onCmdCmpWrite q tag s = s.finish c 0x0D0C := by
  rw [onCmdCmpWrite, h]
  dsimp only
  rw [if_neg (not_not_intro hpier), hstale]

theorem onCmdCmpWrite_live {i : Nat} {x : Handle} (hlive : s.liveHandle (c.opnd 32 4) = some (i, x)) :
    onCmdCmpWrite q tag s =
      if ¬ writeOk x (c.opnd 36 2) (c.opnd 38 2) (c.opnd 40 2) (c.opnd 42 2) (s.payload c).length then s.finish c 0x0D0F
      else (s.rowsWritten c i x).finish c stOk := by
  rw [onCmdCmpWrite, h]
  dsimp only
  rw [if_neg (not_not_intro hpier), hlive]
  rfl

end Write

theorem onCmdCmpFree_none (h : s.cmd q tag 0x0D04 = none) : onCmdCmpFree q tag s = s := by
  rw [onCmdCmpFree, h]

theorem onCmdCmpFree_other (h : s.cmd q tag 0x0D04 = some c) (hother : s.isPier = false) :
    onCmdCmpFree q tag s = s.finish c 0x0D15 := by
  rw [onCmdCmpFree, h]
  exact if_pos (Bool.eq_false_iff.mp hother)

section Free
variable (h : s.cmd q tag 0x0D04 = some c) (hpier : s.isPier = true)
include h hpier

theorem onCmdCmpFree_stale (hstale : s.liveHandle (c.opnd 32 4) = none) : onCmdCmpFree q tag s = s.finish c 0x0D0C := by
  rw [onCmdCmpFree, h]
  dsimp only
  rw [if_neg (not_not_intro hpier), hstale]

theorem onCmdCmpFree_live {i : Nat} {x : Handle} (hlive : s.liveHandle (c.opnd 32 4) = some (i, x)) :
    onCmdCmpFree q tag s = (if 0 < s.handleRefs i then
      (s.handleFreed i x).raise 0x0D02 [(16, 4, c.opnd 32 4), (20, 4, s.handleRefs i)] else s.handleFreed i x).finish c stOk := by
  rw [onCmdCmpFree, h]
  dsimp only
  rw [if_neg (not_not_intro hpier), hlive]
  rfl

end Free

/-! ### Tables (R280) -/

/-- The slot of the LUT store that a load names, numbered as CMP_LUT_CRC. -/
def Cmd.lutIndex (c : Cmd) : Nat := (if c.opnd 32 1 = 0 then 0 else if c.opnd 32 1 = 1 then 32 else 36) + c.opnd 33 1

/-- The state with a table stored with its CRC, which check unit 4 has run over. -/
def State.lutStored (s : State) (c : Cmd) : State :=
  (State.unitRun { s with cmp := { s.cmp with lut := Sparse.set s.cmp.lut c.lutIndex (s.payload c) } } 4 (s.payload c)).setFld
    CMP_LUT_CRC.CRC (crc32 (s.payload c)) c.lutIndex

theorem onCmdCmpLut_none (h : s.cmd q tag 0x0D05 = none) : onCmdCmpLut q tag s = s := by
  rw [onCmdCmpLut, h]

/-- The tests of a table in their order. -/
theorem onCmdCmpLut_started (h : s.cmd q tag 0x0D05 = some c) : onCmdCmpLut q tag s =
    if ¬ s.isPier then s.finish c 0x0D15
    else if ¬ lutFormat (c.opnd 32 1) (c.opnd 33 1) (s.payload c) then s.finish c 0x0D11
    else if s.lutBusy (c.opnd 32 1) (c.opnd 33 1) then s.finish c 0x0D10
    else (s.lutStored c).finish c stOk (result [(16, 4, crc32 (s.payload c))]) := by
  rw [onCmdCmpLut, h]
  rfl

theorem onCmdCmpLut_other (h : s.cmd q tag 0x0D05 = some c) (hother : s.isPier = false) :
    onCmdCmpLut q tag s = s.finish c 0x0D15 := by
  rw [onCmdCmpLut_started h, if_pos (Bool.eq_false_iff.mp hother)]

/-! ### Parapet records (R284) -/

/-- The state with the registers of a record in effect. -/
def State.parapetShown (s : State) (r : List Byte) : State :=
  let safe := decide (leAt r 10 1 = 2)
  let u := (s.setPair CMP_PARAPET_SEQ.SEQ (leAt r 0 8)).setFlag CMP_PARAPET.ACTIVE (decide (leAt r 10 1 ≠ 0))
  (u.setFlag CMP_PARAPET.SAFE safe).setFld CMP_PARAPET.INDEX (if safe then leAt r 11 1 else 0)

/-- The state with a record in effect, before its event. -/
def State.parapetTaken (s : State) (r : List Byte) : State :=
  { s.parapetShown r with cmp := { s.cmp with parapet := some (s.parapetContent r).1 } }

theorem leNat_lt (bs : List Byte) : leNat bs < 256 ^ bs.length := by
  induction bs with
  | nil => exact Nat.one_pos
  | cons b bs ih =>
    have hb : b.toNat < 256 := b.isLt
    rw [leNat, List.length_cons, Nat.pow_succ]
    omega

theorem leAt_lt (bs : List Byte) (o n : Nat) : leAt bs o n < 256 ^ n :=
  (leNat_lt _).trans_le (Nat.pow_le_pow_right (by omega) (List.length_take_le _ _))

theorem State.pair_congr {t : State} {p : PairReg} {i : Nat} (hlo : ∀ rst, t.word (p.addr i) rst = s.word (p.addr i) rst)
    (hhi : ∀ rst, t.word (p.addr i + 4) rst = s.word (p.addr i + 4) rst) : t.pair p i = s.pair p i := by
  rw [State.pair, hlo, hhi, State.pair]

theorem State.pair_setFld_apart {p : PairReg} {f : Fld} {i j : Nat} (v : Nat) (hlo : p.addr j ≠ f.addr i)
    (hhi : p.addr j + 4 ≠ f.addr i) : (s.setFld f v i).pair p j = s.pair p j :=
  State.pair_congr (fun rst => State.word_setFld_ne s v rst hlo) fun rst => State.word_setFld_ne s v rst hhi

theorem State.pair_parapetTaken (r : List Byte) : (s.parapetTaken r).pair CMP_PARAPET_SEQ.SEQ = leAt r 0 8 := by
  have hshown : (s.parapetTaken r).pair CMP_PARAPET_SEQ.SEQ = (s.parapetShown r).pair CMP_PARAPET_SEQ.SEQ :=
    State.pair_congr (fun _ => State.word_congr rfl) fun _ => State.word_congr rfl
  simp (disch := decide) only [hshown, State.parapetShown, State.setFlag_eq, State.pair_setFld_apart, State.pair_setPair_same]
  exact Nat.mod_eq_of_lt (leAt_lt r 0 8)

theorem State.flag_parapetTaken_active (r : List Byte) :
    (s.parapetTaken r).flag CMP_PARAPET.ACTIVE = decide (leAt r 10 1 ≠ 0) := by
  have hshown : (s.parapetTaken r).flag CMP_PARAPET.ACTIVE = (s.parapetShown r).flag CMP_PARAPET.ACTIVE :=
    State.flag_congr fun _ => State.word_congr rfl
  rw [hshown, State.parapetShown, State.flag, State.fld_setFld_apart _ (by decide), State.setFlag_eq,
    State.fld_setFld_apart _ (by decide)]
  exact State.flag_setFlag_same _ _ _ rfl (by decide)

theorem State.flag_parapetTaken_safe (r : List Byte) :
    (s.parapetTaken r).flag CMP_PARAPET.SAFE = decide (leAt r 10 1 = 2) := by
  have hshown : (s.parapetTaken r).flag CMP_PARAPET.SAFE = (s.parapetShown r).flag CMP_PARAPET.SAFE :=
    State.flag_congr fun _ => State.word_congr rfl
  rw [hshown, State.parapetShown, State.flag, State.fld_setFld_apart _ (by decide)]
  exact State.flag_setFlag_same _ _ _ rfl (by decide)

/-- What becomes of a signed record: an old one and one for another node are refused, then its content decides. -/
def State.judgeSigned (s : State) (c : Cmd) : State :=
  let r := s.payload c
  if leAt r 0 8 ≤ s.pair CMP_PARAPET_SEQ.SEQ ∨ (leAt r 8 2 ≠ s.self ∧ leAt r 8 2 ≠ 0xFFF) then s.finish c 0x0D14
  else if (s.parapetContent r).2 ≠ stOk then s.finish c (s.parapetContent r).2
  else ((s.parapetTaken r).raise 0x0D04 [(16, 8, leAt r 0 8), (24, 1, leAt r 10 1)]).finish c stOk

/-- What becomes of a record of the right form: its key, then its signature (R284). -/
def State.judgeRecord (s : State) (c : Cmd) : State :=
  if ¬ s.parapetKeyOk (bytesAt (s.payload c) 160 96) then s.finish c 0x0D12
  else if ¬ recordSigOk (s.payload c) then s.finish c 0x0D13
  else s.judgeSigned c

theorem State.judgeSigned_eq : s.judgeSigned c =
    if s.pair CMP_PARAPET_SEQ.SEQ < leAt (s.payload c) 0 8 ∧
      (leAt (s.payload c) 8 2 = s.self ∨ leAt (s.payload c) 8 2 = 0xFFF) then
      if (s.parapetContent (s.payload c)).2 = stOk then ((s.parapetTaken (s.payload c)).raise 0x0D04
        [(16, 8, leAt (s.payload c) 0 8), (24, 1, leAt (s.payload c) 10 1)]).finish c stOk
      else s.finish c (s.parapetContent (s.payload c)).2
    else s.finish c 0x0D14 := by
  rw [← ite_not, State.judgeSigned]
  exact if_congr (by rw [not_and_or, not_lt, not_or]) rfl (ite_not ..)

theorem State.judgeRecord_signed (hkey : s.parapetKeyOk (bytesAt (s.payload c) 160 96) = true)
    (hsig : recordSigOk (s.payload c) = true) : s.judgeRecord c = s.judgeSigned c := by
  rw [State.judgeRecord, if_neg (not_not_intro hkey), if_neg (not_not_intro hsig)]

theorem onCmdCmpParapet_none (h : s.cmd q tag 0x0D06 = none) : onCmdCmpParapet q tag s = s := by
  rw [onCmdCmpParapet, h]

section Parapet
variable (h : s.cmd q tag 0x0D06 = some c)
include h

/-- The form of a record decides first (log entry 16). -/
theorem onCmdCmpParapet_started : onCmdCmpParapet q tag s =
    if ¬ s.isPier then s.finish c 0x0D15
    else if (s.payload c).length < 256 then s.finish c stBadPayload
    else if parapetReserved (s.payload c) then s.finish c stReserved
    else if ¬ parapetLen (s.payload c) then s.finish c stBadPayload
    else s.judgeRecord c := by
  rw [onCmdCmpParapet, h]
  rfl

theorem onCmdCmpParapet_other (hother : s.isPier = false) : onCmdCmpParapet q tag s = s.finish c 0x0D15 := by
  rw [onCmdCmpParapet_started h, if_pos (Bool.eq_false_iff.mp hother)]

section Pier
variable (hpier : s.isPier = true)
include hpier

theorem onCmdCmpParapet_short (hshort : (s.payload c).length < 256) : onCmdCmpParapet q tag s = s.finish c stBadPayload := by
  rw [onCmdCmpParapet_started h, if_neg (not_not_intro hpier), if_pos hshort]

theorem onCmdCmpParapet_whole (hlen : 256 ≤ (s.payload c).length) : onCmdCmpParapet q tag s =
    if parapetReserved (s.payload c) then s.finish c stReserved
    else if ¬ parapetLen (s.payload c) then s.finish c stBadPayload
    else s.judgeRecord c := by
  rw [onCmdCmpParapet_started h, if_neg (not_not_intro hpier), if_neg (not_lt.mpr hlen)]

theorem onCmdCmpParapet_formed (hlen : 256 ≤ (s.payload c).length) (hres : parapetReserved (s.payload c) = false)
    (hkind : parapetLen (s.payload c) = true) : onCmdCmpParapet q tag s = s.judgeRecord c := by
  rw [onCmdCmpParapet_whole h hpier hlen, if_neg (Bool.eq_false_iff.mp hres), if_neg (not_not_intro hkind)]

end Pier

end Parapet

/-! ### The commands -/

/-- A row that does nothing without its command, and that a device that is no pier refuses. -/
theorem pierRow {i : Instr} {op : Nat} {f : State → State} (hexec : exec i s = .next (f s))
    (hnone : s.cmd q tag op = none → f s = s)
    (hother : ∀ d, s.cmd q tag op = some d → s.isPier = false → f s = s.finish d 0x0D15) :
    (s.cmd q tag op = none → exec i s = .next s) ∧
    (∀ d, s.cmd q tag op = some d → op ≠ 0x0D01 → s.isPier = false → exec i s = .next (s.finish d 0x0D15)) := by
  rw [hexec]
  exact ⟨fun h => congrArg _ (hnone h), fun d h _ hrole => congrArg _ (hother d h hrole)⟩

section Awake
variable (hawake : s.awake = true)
include hawake

theorem exec_cmdCmpCommit : exec (.cmdCmpCommit q tag) s = .next (onCmdCmpCommit q tag s) :=
  congrArg _ (State.guarded_of_awake _ hawake)

theorem exec_cmdCmpAlloc : exec (.cmdCmpAlloc q tag) s = .next (onCmdCmpAlloc q tag s) :=
  congrArg _ (State.guarded_of_awake _ hawake)

theorem exec_cmdCmpWrite : exec (.cmdCmpWrite q tag) s = .next (onCmdCmpWrite q tag s) :=
  congrArg _ (State.guarded_of_awake _ hawake)

theorem exec_cmdCmpFree : exec (.cmdCmpFree q tag) s = .next (onCmdCmpFree q tag s) :=
  congrArg _ (State.guarded_of_awake _ hawake)

theorem exec_cmdCmpLut : exec (.cmdCmpLut q tag) s = .next (onCmdCmpLut q tag s) :=
  congrArg _ (State.guarded_of_awake _ hawake)

theorem exec_cmdCmpParapet : exec (.cmdCmpParapet q tag) s = .next (onCmdCmpParapet q tag s) :=
  congrArg _ (State.guarded_of_awake _ hawake)

/-- The commands of the composer, each with its opcode: without the command a row changes nothing, and a device that is no
pier refuses all but a commit. -/
theorem composer_rows : ∀ r ∈ [(Instr.cmdCmpCommit q tag, 0x0D01), (.cmdCmpAlloc q tag, 0x0D02), (.cmdCmpWrite q tag, 0x0D03),
      (.cmdCmpFree q tag, 0x0D04), (.cmdCmpLut q tag, 0x0D05), (.cmdCmpParapet q tag, 0x0D06)],
    (s.cmd q tag r.2 = none → exec r.1 s = .next s) ∧
    (∀ d, s.cmd q tag r.2 = some d → r.2 ≠ 0x0D01 → s.isPier = false → exec r.1 s = .next (s.finish d 0x0D15)) := by
  simp only [List.forall_mem_cons]
  exact ⟨⟨fun h => (exec_cmdCmpCommit hawake).trans (congrArg _ (onCmdCmpCommit_none h)), fun _ _ hop => absurd rfl hop⟩,
    pierRow (exec_cmdCmpAlloc hawake) onCmdCmpAlloc_none fun _ => onCmdCmpAlloc_other,
    pierRow (exec_cmdCmpWrite hawake) onCmdCmpWrite_none fun _ => onCmdCmpWrite_other,
    pierRow (exec_cmdCmpFree hawake) onCmdCmpFree_none fun _ => onCmdCmpFree_other,
    pierRow (exec_cmdCmpLut hawake) onCmdCmpLut_none fun _ => onCmdCmpLut_other,
    pierRow (exec_cmdCmpParapet hawake) onCmdCmpParapet_none fun _ => onCmdCmpParapet_other, List.forall_mem_nil _⟩

end Awake

end Composer

/-- Settles O52: each command of the composer meets its tests in the order of its rule; the slots that a generation binds carry their
use counts (log entry 35); a record takes effect with the registers of CMP_PARAPET and its event (log entries 16 and 153). -/
theorem composerCommands : Obligations.ComposerCommands := by
  unfold Obligations.ComposerCommands
  intro s q tag hawake
  refine ⟨composer_rows hawake, ?_⟩
  rw [exec_cmdCmpCommit hawake, exec_cmdCmpAlloc hawake, exec_cmdCmpWrite hawake, exec_cmdCmpFree hawake, exec_cmdCmpLut hawake,
    exec_cmdCmpParapet hawake]
  refine ⟨fun c hc => ⟨fun f hfault => ?_, fun hgood => ?_, fun hbehind => ?_, fun hahead hfull => ?_⟩,
    fun hpier => ⟨fun c hc => ⟨fun hnamed => ?_, fun hfree => ⟨fun hroom => ?_, fun page part slot hpages hslot => ?_⟩⟩,
      fun c hc => ⟨fun hstale => ?_, fun i x hlive => ⟨fun hbad => ?_, fun hok => ?_⟩⟩,
      fun c hc => ⟨fun hstale => ?_, fun i x hlive => ?_⟩,
      fun c hc => ⟨fun hbad => ?_, fun hok hbusy => ?_, fun hok hidle => ?_⟩,
      fun c hc => ⟨fun hshort => ?_, fun hlen => ⟨fun hres => ?_, fun hres hkind => ?_, fun hres hkind => ?_⟩⟩⟩⟩
  · exact congrArg _ (onCmdCmpCommit_refused hc hfault)
  · exact ⟨_, s.genHeld c, congrArg _ (onCmdCmpCommit_held hc hgood), rfl, State.handleBinds_of_not_pier _ _,
      fun _ _ _ => State.mem_handleBinds⟩
  · exact State.checkCommit_behind _ _ _ _ hbehind
  · exact State.checkCommit_full _ _ _ _ hahead hfull
  · exact congrArg _ (onCmdCmpAlloc_named hc hpier hnamed)
  · exact congrArg _ (onCmdCmpAlloc_noRoom hc hpier hfree hroom)
  · exact congrArg _ (onCmdCmpAlloc_made hc hpier hfree hpages hslot)
  · exact congrArg _ (onCmdCmpWrite_stale hc hpier hstale)
  · exact congrArg _ ((onCmdCmpWrite_live hc hpier hlive).trans (if_pos (Bool.eq_false_iff.mp hbad)))
  · exact congrArg _ ((onCmdCmpWrite_live hc hpier hlive).trans (if_neg (not_not_intro hok)))
  · exact congrArg _ (onCmdCmpFree_stale hc hpier hstale)
  · exact congrArg _ (onCmdCmpFree_live hc hpier hlive)
  · rw [onCmdCmpLut_started hc, if_neg (not_not_intro hpier), if_pos (Bool.eq_false_iff.mp hbad)]
  · rw [onCmdCmpLut_started hc, if_neg (not_not_intro hpier), if_neg (not_not_intro hok), if_pos hbusy]
  · rw [onCmdCmpLut_started hc, if_neg (not_not_intro hpier), if_neg (not_not_intro hok), if_neg (Bool.eq_false_iff.mp hidle)]
    rfl
  · exact congrArg _ (onCmdCmpParapet_short hc hpier hshort)
  · rw [onCmdCmpParapet_whole hc hpier hlen, if_pos hres]
  · rw [onCmdCmpParapet_whole hc hpier hlen, if_neg (Bool.eq_false_iff.mp hres), if_pos (Bool.eq_false_iff.mp hkind)]
  · have hformed := onCmdCmpParapet_formed hc hpier hlen hres hkind
    refine ⟨fun hkey => ?_, fun hkey hsig => ?_, fun hkey hsig => ?_⟩
    · exact congrArg _ (hformed.trans (if_pos (Bool.eq_false_iff.mp hkey)))
    · exact congrArg _ (hformed.trans ((if_neg (not_not_intro hkey)).trans (if_pos (Bool.eq_false_iff.mp hsig))))
    · rw [hformed, State.judgeRecord_signed hkey hsig, State.judgeSigned_eq]
      refine ⟨fun hother => ?_, fun hmeant hbad => ?_, fun hmeant hok => ⟨s.parapetTaken (s.payload c), ?_, rfl,
        State.pair_parapetTaken _, State.flag_parapetTaken_active _, State.flag_parapetTaken_safe _⟩⟩
      · exact congrArg _ (if_neg hother)
      · exact congrArg _ ((if_pos hmeant).trans (if_neg hbad))
      · exact congrArg _ ((if_pos hmeant).trans (if_pos hok))

end Sys2Proof.Machine

/-! THEOREMS. Bands composed and recomposed; correction images and patches (R289, R291, R293, R308, R316 to R318). -/

namespace Sys2Proof.Machine

section Bands
variable {s : State} {q : Fin 24} {tag k j : Nat} {g : Gen} {c : Cmd}

/-! ### Bands (R289, R293) -/

/-- Band `k` of a generation is to be composed: its bays hold it, it is not composed, and no band is to be redone first. -/
def State.bandDue (s : State) (g : Gen) (k : Nat) : Prop :=
  s.canCompose g k = true ∧ k < bandCount g.loc ∧ Sparse.find s.cmp.bands k = none ∧ s.nextStale g = none

/-- A band to redo lies outside the canvas, or its bays and its inputs allow it. -/
theorem State.nextStale_eq_some (h : s.nextStale g = some j) :
    bandCount g.loc ≤ j ∨ s.canCompose g j = true ∧ (s.bandInputs g j).isSome = true := by
  obtain ⟨⟨j, b⟩, hfind, rfl⟩ := Option.map_eq_some_iff.mp h
  have hstale := List.find?_some hfind
  simp only [Bool.and_eq_true, Bool.or_eq_true, decide_eq_true_eq] at hstale
  exact hstale.2

theorem onBandCompose_noGen (h : s.genInForce = none) : onBandCompose k s = s := by
  rw [onBandCompose, h]

theorem onBandRecompose_noGen (h : s.genInForce = none) : onBandRecompose s = s := by
  rw [onBandRecompose, h]
  rfl

section InForce
variable (h : s.genInForce = some g)
include h

theorem onBandCompose_inForce : onBandCompose k s =
    if ¬ s.canCompose g k ∨ bandCount g.loc ≤ k ∨ (Sparse.find s.cmp.bands k).isSome ∨ (s.nextStale g).isSome then s
    else (s.bandInputs g k).elim s fun xs => (s.makeBand g k xs).showConfirmed := by
  rw [onBandCompose, h]
  refine if_congr Iff.rfl rfl ?_
  cases s.bandInputs g k <;> rfl

theorem onBandCompose_notDue (hnot : ¬ s.bandDue g k) : onBandCompose k s = s := by
  rw [onBandCompose_inForce h]
  refine if_pos (by_contra fun hdue => hnot ?_)
  simpa only [State.bandDue, not_or, not_not, not_le, Option.not_isSome_iff_eq_none] using hdue

theorem onBandCompose_due (hdue : s.bandDue g k) :
    onBandCompose k s = (s.bandInputs g k).elim s fun xs => (s.makeBand g k xs).showConfirmed := by
  obtain ⟨hcan, hin, hnew, hstale⟩ := hdue
  rw [onBandCompose_inForce h, if_neg (by simp [hcan, hin, hnew, hstale])]

theorem onBandRecompose_current (hcurrent : s.nextStale g = none) : onBandRecompose s = s := by
  rw [onBandRecompose, h, Option.bind_some, hcurrent]
  rfl

section Stale
variable (hstale : s.nextStale g = some j)
include hstale

theorem onBandRecompose_stale : onBandRecompose s =
    if bandCount g.loc ≤ j then { s with cmp := { s.cmp with bands := Sparse.erase s.cmp.bands j } }
    else (s.bandInputs g j).elim s fun xs =>
      ((s.makeBand g j xs).bump CMP_SPEC.RECOMP).sweepHandles.showCmp.showConfirmed := by
  rw [onBandRecompose, h, Option.bind_some, hstale]
  refine if_congr Iff.rfl rfl ?_
  cases s.bandInputs g j <;> rfl

theorem onBandRecompose_redone {xs : List (Nat × Choice)} (hin : j < bandCount g.loc) (hxs : s.bandInputs g j = some xs) :
    onBandRecompose s = ((s.makeBand g j xs).bump CMP_SPEC.RECOMP).sweepHandles.showCmp.showConfirmed := by
  rw [onBandRecompose_stale h hstale, if_neg (by omega), hxs, Option.elim_some]

end Stale

end InForce

/-! ### Chunks of an image (R316) -/

/-- A chunk that opens an image. -/
def Cmd.opensImage (c : Cmd) : Bool := decide (bits (c.opnd 40 1) 0 1 = 1)

/-- The last chunk of an image. -/
def Cmd.closesImage (c : Cmd) : Bool := decide (bits (c.opnd 40 1) 1 1 = 1)

/-- The state with a chunk of an image written. -/
def State.imageChunk (s : State) (c : Cmd) : State := s.writeChunk (c.opnd 32 1) (c.opnd 36 4) (s.payload c) c.opensImage

/-- The state after the last chunk of an image, whose command runs until the image is checked. -/
def State.imageClosing (s : State) (c : Cmd) : State :=
  State.run { s with cor := { s.cor with closing := some (c.q, c.id) } } c

theorem onCmdCorLoad_none (h : s.cmd q tag 0x0E01 = none) : onCmdCorLoad q tag s = s := by
  rw [onCmdCorLoad, h]

section Load
variable (h : s.cmd q tag 0x0E01 = some c)
include h

/-- A chunk waits for the check of an image (log entry 17); else its order decides. -/
theorem onCmdCorLoad_started : onCmdCorLoad q tag s =
    if s.cor.closing.isSome then s
    else if s.chunkOk (c.opnd 32 1) (c.opnd 36 4) (s.payload c).length c.opensImage c.closesImage then
      if c.closesImage then (s.imageChunk c).imageClosing c
      else ((s.imageChunk c).setFlag COR_STATUS.LOADING false).finish c stOk
    else s.finish c 0x0E01 := by
  rw [onCmdCorLoad, h]
  rfl

theorem onCmdCorLoad_waits (hclosing : s.cor.closing ≠ none) : onCmdCorLoad q tag s = s := by
  rw [onCmdCorLoad_started h, if_pos (Option.isSome_iff_ne_none.mpr hclosing)]

theorem onCmdCorLoad_taken (hfree : s.cor.closing = none) : onCmdCorLoad q tag s =
    if s.chunkOk (c.opnd 32 1) (c.opnd 36 4) (s.payload c).length c.opensImage c.closesImage then
      if c.closesImage then (s.imageChunk c).imageClosing c
      else ((s.imageChunk c).setFlag COR_STATUS.LOADING false).finish c stOk
    else s.finish c 0x0E01 := by
  rw [onCmdCorLoad_started h, if_neg (by simp [hfree])]

end Load

/-! ### The check of an image (R308, R316, R317) -/

/-- The bytes of the image that was loaded last. -/
def State.imageBytes (s : State) : List Byte :=
  s.memRead false (s.imageAt (s.fld COR_LOADED.IMAGE)) (s.imageLen (s.fld COR_LOADED.IMAGE))

/-- The state with the check of an image over, which check unit 3 has run over (R487). -/
def State.imageChecked (s : State) : State :=
  State.setFlag (State.unitRun { s with cor := { s.cor with closing := none } } 3 s.imageBytes) COR_STATUS.LOADING false

/-- A CMD_COR_LOAD that waited for a check completes. -/
def State.loadFinished (s : State) (q id st : Nat) (res : List Byte) : State :=
  match s.cmdAt q id 0x0E01 with | some c => s.finish c st res | none => s

theorem onCorImageComplete_none (h : s.cor.closing = none) : onCorImageComplete s = s := by
  rw [onCorImageComplete, h]

section Closing
variable {x id : Nat} (h : s.cor.closing = some (x, id))
include h

theorem onCorImageComplete_closing : onCorImageComplete s =
    match (if s.fld COR_LOADED.IMAGE = 0 then s.badMapEntry else none) with
    | some n => s.imageChecked.loadFinished x id 0x0E02 (result [(16, 4, crc32 s.imageBytes), (20, 4, n)])
    | none => (s.imageChecked.completeImage (s.fld COR_LOADED.IMAGE)).loadFinished x id stOk
        (result [(16, 4, crc32 s.imageBytes)]) := by
  rw [onCorImageComplete, h]
  rfl

theorem onCorImageComplete_bad {n : Nat} (hmap : s.fld COR_LOADED.IMAGE = 0) (hbad : s.badMapEntry = some n) :
    onCorImageComplete s =
      s.imageChecked.loadFinished x id 0x0E02 (result [(16, 4, crc32 s.imageBytes), (20, 4, n)]) := by
  rw [onCorImageComplete_closing h, if_pos hmap, hbad]

theorem onCorImageComplete_good (hgood : s.fld COR_LOADED.IMAGE ≠ 0 ∨ s.badMapEntry = none) :
    onCorImageComplete s = (s.imageChecked.completeImage (s.fld COR_LOADED.IMAGE)).loadFinished x id stOk
      (result [(16, 4, crc32 s.imageBytes)]) := by
  have hnone : (if s.fld COR_LOADED.IMAGE = 0 then s.badMapEntry else none) = none :=
    ite_eq_right_iff.mpr fun hmap => hgood.resolve_left (not_not_intro hmap)
  rw [onCorImageComplete_closing h, hnone]

end Closing

/-! ### Patches (R318) -/

/-- A patch fits its image: whole entries of a complete image other than the map, at most 65,536 bytes. -/
def State.patchFits (s : State) (c : Cmd) : Prop :=
  c.opnd 32 1 ≠ 0 ∧ s.imageOk (c.opnd 32 1) = true ∧ c.opnd 36 4 % entryLen (c.opnd 32 1) = 0 ∧
    (s.payload c).length % entryLen (c.opnd 32 1) = 0 ∧ (s.payload c).length ≤ 65536 ∧
    c.opnd 36 4 + (s.payload c).length ≤ s.imageLen (c.opnd 32 1)

/-- The state with a patch held for the frame start. -/
def State.patchHeld (s : State) (c : Cmd) : State :=
  State.showPatches { s.run c with cor := { s.cor with
    patches := s.cor.patches ++ [⟨c.q, c.id, c.opnd 32 1, c.opnd 36 4, s.payload c⟩] } }

theorem onCmdCorPatch_none (h : s.cmd q tag 0x0E02 = none) : onCmdCorPatch q tag s = s := by
  rw [onCmdCorPatch, h]

section Patch
variable (h : s.cmd q tag 0x0E02 = some c)
include h

theorem onCmdCorPatch_started : onCmdCorPatch q tag s =
    if c.opnd 32 1 = 0 ∨ ¬ s.imageOk (c.opnd 32 1) ∨ c.opnd 36 4 % entryLen (c.opnd 32 1) ≠ 0 ∨
      (s.payload c).length % entryLen (c.opnd 32 1) ≠ 0 ∨ 65536 < (s.payload c).length ∨
      s.imageLen (c.opnd 32 1) < c.opnd 36 4 + (s.payload c).length then s.finish c 0x0E01
    else if 4 ≤ s.cor.patches.length then s else s.patchHeld c := by
  rw [onCmdCorPatch, h]
  rfl

theorem onCmdCorPatch_unfit (hnot : ¬ s.patchFits c) : onCmdCorPatch q tag s = s.finish c 0x0E01 := by
  rw [onCmdCorPatch_started h]
  refine if_pos (by_contra fun hfits => hnot ?_)
  simpa only [State.patchFits, ne_eq, not_or, not_not, not_lt] using hfits

theorem onCmdCorPatch_fits (hfits : s.patchFits c) :
    onCmdCorPatch q tag s = if 4 ≤ s.cor.patches.length then s else s.patchHeld c := by
  obtain ⟨hmap, hok, hoff, hlen, hmost, hin⟩ := hfits
  rw [onCmdCorPatch_started h, if_neg]
  simp only [not_or, not_not, not_lt]
  exact ⟨hmap, hok, hoff, hlen, hmost, hin⟩

end Patch

/-! ### The commands -/

section Awake
variable (hawake : s.awake = true)
include hawake

theorem exec_bandCompose : exec (.bandCompose k) s = .next (onBandCompose k s) := congrArg _ (State.guarded_of_awake _ hawake)

theorem exec_bandRecompose : exec .bandRecompose s = .next (onBandRecompose s) := congrArg _ (State.guarded_of_awake _ hawake)

theorem exec_cmdCorLoad : exec (.cmdCorLoad q tag) s = .next (onCmdCorLoad q tag s) :=
  congrArg _ (State.guarded_of_awake _ hawake)

theorem exec_corImageComplete : exec .corImageComplete s = .next (onCorImageComplete s) :=
  congrArg _ (State.guarded_of_awake _ hawake)

theorem exec_cmdCorPatch : exec (.cmdCorPatch q tag) s = .next (onCmdCorPatch q tag s) :=
  congrArg _ (State.guarded_of_awake _ hawake)

end Awake

end Bands

/-- Settles O53: a band is composed when it is due and none is to be redone first; a chunk waits while an image is checked, which check
unit 3 runs over (log entries 17, 37 and 128); a patch that fits is held while fewer than four are. -/
theorem bandsAndImages : Obligations.BandsAndImages := by
  unfold Obligations.BandsAndImages
  intro s q tag k hawake
  rw [exec_bandCompose hawake, exec_bandRecompose hawake, exec_cmdCorLoad hawake, exec_corImageComplete hawake,
    exec_cmdCorPatch hawake]
  refine ⟨fun hnone => ?_, fun g hg => ⟨fun hnot => ?_, fun hdue => ⟨fun hwait => ?_, fun xs hxs => ?_⟩, fun hcurrent => ?_,
      fun j hstale => ⟨fun hout => ?_, fun xs hin hxs => ?_, fun hin => ?_⟩⟩,
    fun hnone => ?_, fun c hc => ⟨fun hclosing => ?_, fun hfree => ⟨fun hbad => ?_, fun hok => ?_⟩⟩,
    fun hnone => ?_, fun x id hclosing => ⟨fun n hmap hbad => ?_, fun hgood => ?_⟩,
    fun hnone => ?_, fun c hc => ⟨fun hnot => ?_, fun hfits => ?_⟩⟩
  · rw [onBandCompose_noGen hnone, onBandRecompose_noGen hnone]
    exact ⟨rfl, rfl⟩
  · exact congrArg _ (onBandCompose_notDue hg hnot)
  · rw [onBandCompose_due hg hdue, hwait, Option.elim_none]
  · rw [onBandCompose_due hg hdue, hxs, Option.elim_some]
  · rw [onBandRecompose_current hg hcurrent]
  · rw [onBandRecompose_stale hg hstale, if_pos hout]
  · rw [onBandRecompose_redone hg hstale hin hxs]
  · exact ((State.nextStale_eq_some hstale).resolve_left (not_le.mpr hin)).symm
  · rw [onCmdCorLoad_none hnone]
  · rw [onCmdCorLoad_waits hc hclosing]
  · exact congrArg _ ((onCmdCorLoad_taken hc hfree).trans (if_neg (Bool.eq_false_iff.mp hbad)))
  · exact congrArg _ ((onCmdCorLoad_taken hc hfree).trans (if_pos hok))
  · rw [onCorImageComplete_none hnone]
  · exact congrArg _ (onCorImageComplete_bad hclosing hmap hbad)
  · exact congrArg _ (onCorImageComplete_good hclosing hgood)
  · rw [onCmdCorPatch_none hnone]
  · exact congrArg _ (onCmdCorPatch_unfit hc hnot)
  · exact congrArg _ (onCmdCorPatch_fits hc hfits)

end Sys2Proof.Machine

/-! THEOREMS. When commit windows close and frames start (R355, R359, R360, R363, R366, R370, R429, R462). -/

namespace Sys2Proof.Machine

section Cadence
variable {s : State} {x : Sched} {bad : List Nat}

/-! ### Commit windows (R359, R360) -/

theorem State.closeWindow_closed (h : s.cad.next = some x) (hclosed : x.closed = true) : s.closeWindow = s := by
  rw [State.closeWindow, h]
  exact if_pos hclosed

theorem State.closeWindow_open (h : s.cad.next = some x) (hopen : x.closed = false) :
    s.closeWindow.cad.next = some { x with closed := true } := by
  rw [State.closeWindow, h]
  exact congrArg (fun t : State => t.cad.next) (if_neg (Bool.eq_false_iff.mp hopen))

theorem onCommitWindowClose_scheduled (h : s.cad.next = some x) :
    onCommitWindowClose s = if s.cadence = true ∧ x.start ≤ s.now + 38400 then s.closeWindow else s := by
  rw [onCommitWindowClose, h]
  rfl

theorem onCommitWindowClose_stopped (hcad : s.cadence = false) : onCommitWindowClose s = s := by
  cases h : s.cad.next with
  | none => rw [onCommitWindowClose, h]
  | some x => rw [onCommitWindowClose_scheduled h, if_neg (by simp [hcad])]

/-! ### Frame starts (R363, R366) -/

/-- A provisional start of frame `n` counts in NOQUORUM where closures of the frame were held (R429). -/
def State.quorumMissed (s : State) (n : Nat) : State :=
  if s.red.closures.any (fun c => c.frame = n) then (s.bump RED_VOTE_CNT.NOQUORUM).raise 0x1402 [(24, 8, n)] else s

theorem onFrameStart_scheduled (h : s.cad.next = some x) : onFrameStart bad s =
    if s.cadence = true ∧ (! x.prov) = true ∧ x.start ≤ s.now then s.startFrame x bad else s := by
  rw [onFrameStart, h]

theorem onProvisionalStart_scheduled (h : s.cad.next = some x) : onProvisionalStart bad s =
    if s.cadence = true ∧ x.prov = true ∧ x.start ≤ s.now then (s.quorumMissed x.num).startFrame x bad else s := by
  rw [onProvisionalStart, h]
  rfl

theorem onFrameStart_early (h : s.cad.next = some x) (hearly : s.now < x.start) : onFrameStart bad s = s := by
  rw [onFrameStart_scheduled h, if_neg (by omega)]

theorem onProvisionalStart_early (h : s.cad.next = some x) (hearly : s.now < x.start) : onProvisionalStart bad s = s := by
  rw [onProvisionalStart_scheduled h, if_neg (by omega)]

theorem onFrameStart_stopped (hcad : s.cadence = false) : onFrameStart bad s = s := by
  cases h : s.cad.next with
  | none => rw [onFrameStart, h]
  | some x => rw [onFrameStart_scheduled h, if_neg (by simp [hcad])]

theorem onProvisionalStart_stopped (hcad : s.cadence = false) : onProvisionalStart bad s = s := by
  cases h : s.cad.next with
  | none => rw [onProvisionalStart, h]
  | some x => rw [onProvisionalStart_scheduled h, if_neg (by simp [hcad])]

/-! ### The start of the cadence (R355, R462) -/

/-- The firmware may make the first frame start: 1 ms after it started, outside recovery, P3 and P4. -/
def State.mayStartCadence (s : State) : Prop :=
  s.cadence = false ∧ s.restarting = false ∧ s.flag FWU_STATUS.RECOVERY = false ∧ s.flag GLB_CLK.ROOT_LOCK = true ∧
    s.fwu.since + ms ≤ s.clock ∧ s.fld PWR_STATE.STATE < 3

/-- The first frame of a cadence, which starts at once. -/
def State.firstSched (s : State) : Sched := ⟨s.firstFrame, s.now, 0, false, false, true⟩

/-- The state with the first frame scheduled, a trim of every fan due, and the window closed. -/
def State.firstClosed (s : State) : State :=
  State.closeWindow { s with cad := { s.cad with next := some s.firstSched }, str := { s.str with trims := List.range 16 } }

/-- The first frame is a transition frame: the hard set in force is taken anew where the close took none (R355). -/
def State.firstReady (s : State) : State :=
  if s.firstClosed.str.next.isSome then s.firstClosed else s.firstClosed.takeHard s.firstClosed.str.hard

theorem State.firstReady_next : s.firstReady.cad.next = some { s.firstSched with closed := true } := by
  have hclosed : s.firstClosed.cad.next = some { s.firstSched with closed := true } := State.closeWindow_open rfl rfl
  unfold State.firstReady
  split
  · exact hclosed
  · exact hclosed

theorem onCadenceStart_held (h : ¬ s.mayStartCadence) : onCadenceStart bad s = s := by
  refine if_pos (by_contra fun hmay => h ?_)
  simpa only [State.mayStartCadence, not_or, Bool.not_eq_true, Bool.not_eq_false', not_lt, not_le] using hmay

theorem onCadenceStart_due (h : s.mayStartCadence) :
    onCadenceStart bad s = s.firstReady.startFrame { s.firstSched with closed := true } bad := by
  obtain ⟨hcad, hrun, hrecovery, hlock, hsince, hpower⟩ := h
  have hmatch : onCadenceStart bad s = match s.firstReady.cad.next with
      | some x => s.firstReady.startFrame x bad
      | none => s.firstReady :=
    if_neg (by simp [hcad, hrun, hrecovery, hlock, hsince, hpower])
  rw [hmatch, State.firstReady_next]

/-! ### The frame in progress (R363, R370) -/

/-- A pair of other addresses keeps its value. -/
theorem State.pair_setPair_apart {p r : PairReg} {i j : Nat} (v : Nat) (hlo : r.addr j ≠ p.addr i ∧ r.addr j ≠ p.addr i + 4)
    (hhi : r.addr j + 4 ≠ p.addr i ∧ r.addr j + 4 ≠ p.addr i + 4) : (s.setPair p v i).pair r j = s.pair r j :=
  State.pair_congr (fun rst => State.word_setPair_ne s v rst hlo.1 hlo.2) fun rst => State.word_setPair_ne s v rst hhi.1 hhi.2

theorem State.frame_enterFrame : (s.enterFrame x).frame = x.num % 2 ^ 64 :=
  (State.pair_setPair_apart _ (by decide) (by decide)).trans (State.pair_setPair_same _ _ _ _)

theorem State.start_enterFrame : (s.enterFrame x).pair TIM_START.START = x.start % 2 ^ 64 := State.pair_setPair_same _ _ _ _

theorem State.periods_enterFrame {lo nom hi : Nat} (h : s.cad.soft = some (lo, nom, hi)) :
    (s.enterFrame x).cad = { s.cad with tMin := lo, tNom := nom, tMax := hi, soft := none } := by
  rw [State.enterFrame, h]
  rfl

/-! ### The commands -/

section Awake
variable (hawake : s.awake = true)
include hawake

theorem exec_commitWindowClose : exec .commitWindowClose s = .next (onCommitWindowClose s) :=
  congrArg _ (State.guarded_of_awake _ hawake)

theorem exec_frameStart : exec (.frameStart bad) s = .next (onFrameStart bad s) := congrArg _ (State.guarded_of_awake _ hawake)

theorem exec_provisionalStart : exec (.provisionalStart bad) s = .next (onProvisionalStart bad s) :=
  congrArg _ (State.guarded_of_awake _ hawake)

theorem exec_cadenceStart : exec (.cadenceStart bad) s = .next (onCadenceStart bad s) :=
  congrArg _ (State.guarded_of_awake _ hawake)

end Awake

end Cadence

/-- Settles O34: each row acts on the frame scheduled next once its time has come (`onFrameStart_scheduled` and its like); the first
frame of a cadence is provisional, its window closed at once (`onCadenceStart_due`; log entry 70). -/
theorem frameTimes : Obligations.FrameTimes := by
  unfold Obligations.FrameTimes
  intro s x bad hawake
  rw [exec_commitWindowClose hawake, exec_frameStart hawake, exec_provisionalStart hawake, exec_cadenceStart hawake]
  refine ⟨fun hcad hnext => ⟨fun hdue => ?_, fun hearly => ?_, State.closeWindow_closed hnext, State.closeWindow_open hnext,
      fun hprov hdue => ?_, fun hprov => ?_, fun hearly => ?_, fun hprov => ?_, fun hprov hdue => ?_⟩,
    fun hcad => ?_, fun hcad hrun hrecovery hlock hsince hpower => ?_, fun hheld => ?_,
    State.frame_enterFrame, State.start_enterFrame, fun lo nom hi hsoft => ?_⟩
  · rw [onCommitWindowClose_scheduled hnext, if_pos ⟨hcad, hdue⟩]
  · rw [onCommitWindowClose_scheduled hnext, if_neg (by omega)]
  · rw [onFrameStart_scheduled hnext, if_pos (by simp [hcad, hprov, hdue])]
  · rw [onProvisionalStart_scheduled hnext, if_neg (by simp [hprov])]
  · rw [onFrameStart_early hnext hearly, onProvisionalStart_early hnext hearly]
    exact ⟨rfl, rfl⟩
  · rw [onFrameStart_scheduled hnext, if_neg (by simp [hprov])]
  · rw [onProvisionalStart_scheduled hnext, if_pos ⟨hcad, hprov, hdue⟩, State.quorumMissed]
    exact ⟨fun hvotes => by rw [if_pos hvotes], fun hnone => by rw [if_neg (Bool.eq_false_iff.mp hnone)]⟩
  · rw [onCommitWindowClose_stopped hcad, onFrameStart_stopped hcad, onProvisionalStart_stopped hcad]
    exact ⟨rfl, rfl, rfl⟩
  · exact congrArg _ (onCadenceStart_due ⟨hcad, hrun, hrecovery, hlock, hsince, hpower⟩)
  · refine congrArg _ (onCadenceStart_held fun ⟨hcad, hrun, hrecovery, hlock, hsince, hpower⟩ => ?_)
    simp only [hcad, hrun, hrecovery, hlock, Bool.false_eq_true, Bool.true_eq_false, false_or] at hheld
    omega
  · rw [State.periods_enterFrame hsoft]
    exact ⟨rfl, rfl, rfl⟩

end Sys2Proof.Machine

/-! THEOREMS. The row of Table 13-2 that a frame start takes (R363 to R365, R416). -/

namespace Sys2Proof.Machine

section Outcomes
variable {s : State} {x : Sched} {prev : Nat} {trans : Bool}

/-! ### What a row does -/

/-- The token of the closure that a frame start answers is settled; a provisional start answers none (R366, R416). -/
def State.settledFor (s : State) (x : Sched) (shown : Bool) : State := if x.prov then s else s.settle shown

/-- The front buffer repeats: it counts, with EV_TIM_FRAME of a kind (log entry 91). -/
def State.repeated (s : State) (kind n : Nat) : State := (s.bump TIM_CNT_REPEAT.COUNT).frameEvent kind n

/-- A hard transition: the frame is dark and counts so. -/
def State.darkened (s : State) (x : Sched) : State :=
  ((s.bump TIM_CNT_DARK.COUNT).frameEvent 0 x.num).settledFor x false

/-- A back buffer that is not swapped in at frame start `n`, where it served `target`: it serves the next frame if its own has gone
by, which kind 4 reports. -/
def State.heldBack (s : State) (target n : Nat) : State × BackUse :=
  if target < n then (s.frameEvent 4 target, .retarget) else (s, .keep)

theorem State.heldBack_passed {target n : Nat} (h : target < n) : s.heldBack target n = (s.frameEvent 4 target, .retarget) :=
  if_pos h

theorem State.heldBack_ahead {target n : Nat} (h : n ≤ target) : s.heldBack target n = (s, .keep) := if_neg (by omega)

/-! ### The rows in their order -/

theorem State.outcome_dark : s.outcome x prev true =
    if (s.darkened x).backConfirmed then ((s.darkened x).swapChecked none, .begin)
    else (s.darkened x).heldBack s.cad.target x.num := rfl

theorem State.outcome_restarting (hrun : s.restarting = true) :
    s.outcome x prev false = ((s.repeated 0 x.num).settledFor x false, .keep) := if_pos hrun

theorem State.outcome_provisional (hrun : s.restarting = false) (hprov : x.prov = true) :
    s.outcome x prev false = (s.repeated 2 x.num, .retarget) :=
  (if_neg (Bool.eq_false_iff.mp hrun)).trans (if_pos hprov)

section Closure
variable (hrun : s.restarting = false) (hprov : x.prov = false)
include hrun hprov

/-- The rows under an accepted closure outside a restart. -/
theorem State.outcome_closure : s.outcome x prev false =
    if x.ok = false then ((s.repeated 0 x.num).settle false, .retarget)
    else if s.backConfirmed ∧ s.cad.target = x.num then
      (((s.bump TIM_CNT_PRES.COUNT).frameShown.swapChecked (some x.num)).settle true, .begin)
    else if s.backConfirmed ∧ s.cad.late ∧ s.cad.target = prev then
      ((((s.bump TIM_CNT_PRES.COUNT).bump TIM_CNT_DROP.COUNT).frameShown.swapChecked (some s.cad.target)).settle true, .begin)
    else ((s.repeated 0 x.num).settle false).heldBack s.cad.target x.num := by
  simp only [State.outcome, hrun, hprov, Bool.false_eq_true, if_false, Bool.not_eq_true', State.heldBack, State.repeated]

theorem State.outcome_unheld (hok : x.ok = false) :
    s.outcome x prev false = ((s.repeated 0 x.num).settle false, .retarget) := by
  rw [State.outcome_closure hrun hprov, if_pos hok]

section Held
variable (hok : x.ok = true)
include hok

theorem State.outcome_presented (hback : s.backConfirmed = true) (htarget : s.cad.target = x.num) : s.outcome x prev false =
    (((s.bump TIM_CNT_PRES.COUNT).frameShown.swapChecked (some x.num)).settle true, .begin) := by
  rw [State.outcome_closure hrun hprov, if_neg (by simp [hok]), if_pos ⟨hback, htarget⟩]

theorem State.outcome_late (hback : s.backConfirmed = true) (htarget : s.cad.target ≠ x.num) (hlate : s.cad.late = true)
    (hprev : s.cad.target = prev) : s.outcome x prev false =
    ((((s.bump TIM_CNT_PRES.COUNT).bump TIM_CNT_DROP.COUNT).frameShown.swapChecked (some prev)).settle true, .begin) := by
  rw [State.outcome_closure hrun hprov, if_neg (by simp [hok]), if_neg (fun h => htarget h.2), if_pos ⟨hback, hlate, hprev⟩,
    hprev]

theorem State.outcome_unready (hthis : ¬ (s.backConfirmed = true ∧ s.cad.target = x.num))
    (hbefore : ¬ (s.backConfirmed = true ∧ s.cad.late = true ∧ s.cad.target = prev)) :
    s.outcome x prev false = ((s.repeated 0 x.num).settle false).heldBack s.cad.target x.num := by
  rw [State.outcome_closure hrun hprov, if_neg (by simp [hok]), if_neg hthis, if_neg hbefore]

end Held

end Closure

end Outcomes

/-- Settles O35: the rows of `State.outcome` in their order; the frame before is the one just before (log entries 38, 90 and 91). -/
theorem frameOutcomes : Obligations.FrameOutcomes := by
  unfold Obligations.FrameOutcomes
  intro s x prev trans
  refine ⟨?dark, ?restart, ?provisional, ?unheld, ?presented, ?late, ?unready⟩
  case dark =>
    rintro rfl
    refine ⟨fun hback => State.outcome_dark.trans (if_pos hback), fun hback hahead => ?_, fun hback hpassed => ?_⟩
    · exact State.outcome_dark.trans ((if_neg (Bool.eq_false_iff.mp hback)).trans (State.heldBack_ahead hahead))
    · exact State.outcome_dark.trans ((if_neg (Bool.eq_false_iff.mp hback)).trans (State.heldBack_passed hpassed))
  case restart =>
    rintro rfl hrun
    exact State.outcome_restarting hrun
  case provisional =>
    rintro rfl hrun hprov
    exact State.outcome_provisional hrun hprov
  case unheld =>
    rintro rfl hrun hprov hok
    exact State.outcome_unheld hrun hprov hok
  case presented =>
    rintro rfl hrun hprov hok hback htarget
    exact State.outcome_presented hrun hprov hok hback htarget
  case late =>
    rintro rfl hrun hprov hok hback htarget hlate hprev
    exact State.outcome_late hrun hprov hok hback htarget hlate hprev
  case unready =>
    rintro rfl hrun hprov hok hthis hbefore
    have hrow := State.outcome_unready hrun hprov hok hthis hbefore
    exact ⟨fun hahead => hrow.trans (State.heldBack_ahead hahead), fun hpassed => hrow.trans (State.heldBack_passed hpassed)⟩

end Sys2Proof.Machine

/-! THEOREMS. A keystone's decision, the proposals it keeps, its vote and the issue of its closure (R356, R358, R361, R425, R426). -/

namespace Sys2Proof.Machine

section Keystone
variable {s u : State} {key k i stop : Nat} {m : Msg} {c d own : Closure}

/-! ### The decision (R356, R358) -/

theorem sat_mem {lo hi : Int} (a : Int) (h : lo ≤ hi) : lo ≤ sat a lo hi ∧ sat a lo hi ≤ hi := by
  unfold sat
  split
  · exact ⟨le_rfl, h⟩
  · split <;> omega

/-- A keystone whose cadence runs has yet to decide the frame after the one in progress. -/
def State.undecided (s : State) : Prop := s.cadence = true ∧ s.key.frame ≠ some (s.frame + 1)

theorem onCadenceDecision_noKeystone (hkey : s.ownKey = none) : onCadenceDecision s = s := by
  rw [onCadenceDecision, hkey]

section OwnKey
variable (hkey : s.ownKey = some key)
include hkey

theorem onCadenceDecision_decided (h : s.cadence = false ∨ s.key.frame = some (s.frame + 1)) : onCadenceDecision s = s := by
  rw [onCadenceDecision, hkey]
  exact if_pos (h.imp_left fun hcad => by simp [hcad])

section Undecided
variable (h : s.undecided)
include h

theorem onCadenceDecision_undecided : onCadenceDecision s =
    if s.cad.set'.1 = 0 then s.decideFrame (s.frame + 1) key none
    else s.key.stamp.elim
      (if s.pair TIM_START.START + s.cad.tMax ≤ s.now + s.cad.set'.2.1 then s.decideFrame (s.frame + 1) key none else s)
      fun t => s.decideFrame (s.frame + 1) key (some t) := by
  obtain ⟨hcad, hframe⟩ := h
  rw [onCadenceDecision, hkey]
  refine (if_neg (by simp [hcad, hframe])).trans (if_congr Iff.rfl rfl ?_)
  cases s.key.stamp <;> rfl

theorem onCadenceDecision_free (hfree : s.cad.set'.1 = 0) : onCadenceDecision s = s.decideFrame (s.frame + 1) key none := by
  rw [onCadenceDecision_undecided hkey h, if_pos hfree]

theorem onCadenceDecision_stamped {t : Nat} (hsource : s.cad.set'.1 ≠ 0) (hstamp : s.key.stamp = some t) :
    onCadenceDecision s = s.decideFrame (s.frame + 1) key (some t) := by
  rw [onCadenceDecision_undecided hkey h, if_neg hsource, hstamp, Option.elim_some]

theorem onCadenceDecision_unstamped (hsource : s.cad.set'.1 ≠ 0) (hstamp : s.key.stamp = none) : onCadenceDecision s =
    if s.pair TIM_START.START + s.cad.tMax ≤ s.now + s.cad.set'.2.1 then s.decideFrame (s.frame + 1) key none else s := by
  rw [onCadenceDecision_undecided hkey h, if_neg hsource, hstamp, Option.elim_none]

end Undecided

end OwnKey

/-! ### Proposals (R425, R426) -/

/-- The state that keeps a proposal of keystone `i` in place of its earlier one for the frame. -/
def State.proposalKept (s : State) (i : Nat) (c : Closure) : State :=
  { s with red := { s.red with props := c :: s.red.props.filter fun d => ¬ (d.key = i ∧ d.frame = c.frame) } }

theorem onPropose_none (h : s.takeMsg 0x21 = none) : onPropose s = s := by
  rw [onPropose, h]

section Proposal
variable (h : s.takeMsg 0x21 = some (k, m, u))
include h

theorem onPropose_foreign (hsrc : u.keyOf m.src = none) : onPropose s = u := by
  rw [onPropose, h]
  simp only [hsrc]

theorem onPropose_noKeystone (hkey : u.ownKey = none) : onPropose s = u := by
  rw [onPropose, h]
  simp only [hkey]
  split <;> rfl

theorem onPropose_noClosure (hsrc : u.keyOf m.src = some i) (hc : closureOf i m.payload = none) : onPropose s = u := by
  rw [onPropose, h]
  simp only [hsrc, hc]
  cases u.ownKey <;> rfl

theorem onPropose_proposal (hsrc : u.keyOf m.src = some i) (hkey : u.ownKey ≠ none) (hc : closureOf i m.payload = some c) :
    onPropose s = u.proposalKept i c := by
  obtain ⟨j, hj⟩ := Option.ne_none_iff_exists'.mp hkey
  rw [onPropose, h]
  simp only [hsrc, hj, hc]
  rfl

end Proposal

/-! ### The vote (R426) -/

/-- The proposals held for the frame of an own decision from keystones below its own. -/
def State.rivals (s : State) (own : Closure) : List Closure :=
  s.red.props.filter fun d => decide (d.frame = own.frame) && decide (d.key < own.key)

/-- The proposal held for the frame of an own decision of the lowest keystone below its own. -/
def State.leading (s : State) (own : Closure) : Option Closure :=
  (s.rivals own).find? fun d => (s.rivals own).all fun e => decide (d.key ≤ e.key)

/-- The closure that a vote ends in. -/
def State.voted (s : State) (own : Closure) : Closure :=
  match s.leading own with
  | some d => if s.adopts own d then { own with start := d.start, adopted := true } else own
  | none => own

/-- The state whose vote has ended in a closure, which waits for its issue. -/
def State.votedFor (s : State) (c : Closure) : State := { s with red := { s.red with own := none, issue := some c } }

theorem State.mem_rivals : d ∈ s.rivals own ↔ d ∈ s.red.props ∧ d.frame = own.frame ∧ d.key < own.key := by
  simp [State.rivals]

theorem State.rivals_eq_nil (h : ∀ e ∈ s.red.props, e.frame = own.frame → own.key ≤ e.key) : s.rivals own = [] := by
  refine List.eq_nil_iff_forall_not_mem.mpr fun e he => ?_
  obtain ⟨hmem, hframe, hbelow⟩ := State.mem_rivals.mp he
  exact absurd (h e hmem hframe) (by omega)

/-- Whoever leads is a rival, and none has a lower index. -/
theorem State.leading_spec (h : s.leading own = some d) : d ∈ s.rivals own ∧ ∀ e ∈ s.rivals own, d.key ≤ e.key := by
  rw [State.leading] at h
  exact ⟨List.mem_of_find?_eq_some h, by simpa using List.find?_some h⟩

/-- A rival whose index is below that of every other leads. -/
theorem State.leading_eq_some (hd : d ∈ s.rivals own) (hleast : ∀ e ∈ s.rivals own, e = d ∨ d.key < e.key) :
    s.leading own = some d := by
  have hlow : ∀ e ∈ s.rivals own, d.key ≤ e.key := fun e he => (hleast e he).elim (fun heq => heq ▸ le_rfl) Nat.le_of_lt
  have hsome : (s.leading own).isSome = true := List.find?_isSome.mpr ⟨d, hd, by simpa using hlow⟩
  obtain ⟨x, hx⟩ := Option.isSome_iff_exists.mp hsome
  obtain ⟨hmem, hle⟩ := State.leading_spec hx
  obtain rfl | hlt := hleast x hmem
  · exact hx
  · exact absurd (hle d hd) (by omega)

theorem State.voted_alone (h : s.rivals own = []) : s.voted own = own := by
  rw [State.voted, State.leading, h, List.find?_nil]

theorem State.voted_led (h : s.leading own = some d) :
    s.voted own = if s.adopts own d then { own with start := d.start, adopted := true } else own := by
  rw [State.voted, h]

theorem onVoteWaitExpiry_none (h : s.red.own = none) : onVoteWaitExpiry s = s := by
  rw [onVoteWaitExpiry, h]

theorem onVoteWaitExpiry_own (h : s.red.own = some (own, stop)) :
    onVoteWaitExpiry s = if s.now < stop then s else s.votedFor (s.voted own) := by
  rw [onVoteWaitExpiry, h]
  rfl

/-! ### The issue of a closure (R361, R426, R428) -/

/-- A closure as it is issued: it names the newest generation committed. -/
def State.issued (s : State) (c : Closure) : Closure := { c with gen := s.namedGen.1, hash := s.namedGen.2 }

/-- The state that has broadcast a closure. -/
def State.closureSent (s : State) (c : Closure) : State :=
  let u := s.sendMsg .all 0 0x20 0 (closureBytes c) false
  { u.bumpPair LDG_ISSUED.ISSUED with red := { u.red with issue := none }, ldg := { u.ldg with issued := c.frame } }

theorem onClosureIssue_none (h : s.red.issue = none) : onClosureIssue s = s := by
  rw [onClosureIssue, h]

theorem onClosureIssue_waiting (h : s.red.issue = some c) : onClosureIssue s =
    if ¬ c.start ≤ s.now + s.cad.set'.2.1 ∨ s.fnState 19 = fnReset then s
    else (s.closureSent (s.issued c)).holdClosure (s.issued c) := by
  have hdue : s.issueDue = decide (c.start ≤ s.now + s.cad.set'.2.1) := by rw [State.issueDue, h]; rfl
  rw [onClosureIssue, h]
  exact if_congr (by simp [hdue]) rfl rfl

/-! ### The commands -/

section Awake
variable (hawake : s.awake = true)
include hawake

theorem exec_cadenceDecision : exec .cadenceDecision s = .next (onCadenceDecision s) :=
  congrArg _ (State.guarded_of_awake _ hawake)

theorem exec_propose : exec .propose s = .next (onPropose s) := congrArg _ (State.guarded_of_awake _ hawake)

theorem exec_voteWaitExpiry : exec .voteWaitExpiry s = .next (onVoteWaitExpiry s) :=
  congrArg _ (State.guarded_of_awake _ hawake)

theorem exec_closureIssue : exec .closureIssue s = .next (onClosureIssue s) := congrArg _ (State.guarded_of_awake _ hawake)

end Awake

end Keystone

/-- Settles O36: the frame after the one in progress is decided once (`State.undecided`); the lowest rival leads the vote
(`State.leading_eq_some`); a keystone names the newest generation as it issues, and holds its own closure at once (log entries 100 and
101). -/
theorem keystoneVotes : Obligations.KeystoneVotes := by
  unfold Obligations.KeystoneVotes
  intro s key hawake
  rw [exec_cadenceDecision hawake, exec_propose hawake, exec_voteWaitExpiry hawake, exec_closureIssue hawake]
  refine ⟨fun hkey hcad hframe => ⟨fun hfree => ?_, fun hsource t hstamp => ?_, fun hsource hstamp => ⟨fun hdue => ?_, fun hearly => ?_⟩⟩,
    fun hnone => ?_, fun a hperiods => ?_,
    fun hnone => ?_, fun k m u htaken => ⟨fun hdropped => ?_, fun i c hsrc hkey hc => ?_⟩,
    fun hnone => ?_, fun own stop hown => ⟨fun hearly => ?_, fun hdue halone => ?_,
      fun hdue d hd hframe hbelow hleast => ?_⟩,
    fun hnone => ?_, fun c hc => ⟨fun hearly => ?_, fun hreset => ?_, fun hdue hrun => ?_⟩⟩
  · rw [onCadenceDecision_free hkey ⟨hcad, hframe⟩ hfree]
  · rw [onCadenceDecision_stamped hkey ⟨hcad, hframe⟩ hsource hstamp]
  · rw [onCadenceDecision_unstamped hkey ⟨hcad, hframe⟩ hsource hstamp, if_pos hdue]
  · rw [onCadenceDecision_unstamped hkey ⟨hcad, hframe⟩ hsource hstamp, if_neg (by omega)]
  · refine congrArg _ ?_
    cases hown : s.ownKey with
    | none => exact onCadenceDecision_noKeystone hown
    | some own => exact onCadenceDecision_decided hown (hnone.resolve_left (by simp [hown]))
  · exact sat_mem a (by omega)
  · rw [onPropose_none hnone]
  · refine congrArg _ ?_
    obtain hsrc | hkey | ⟨i, hsrc, hc⟩ := hdropped
    · exact onPropose_foreign htaken hsrc
    · exact onPropose_noKeystone htaken hkey
    · exact onPropose_noClosure htaken hsrc hc
  · exact congrArg _ (onPropose_proposal htaken hsrc hkey hc)
  · rw [onVoteWaitExpiry_none hnone]
  · rw [onVoteWaitExpiry_own hown, if_pos hearly]
  · rw [onVoteWaitExpiry_own hown, if_neg (by omega), State.voted_alone (State.rivals_eq_nil halone)]
    rfl
  · have hleads : s.leading own = some d :=
      State.leading_eq_some (State.mem_rivals.mpr ⟨hd, hframe, hbelow⟩) fun e he => by
        obtain ⟨hmem, hsame, hlow⟩ := State.mem_rivals.mp he
        exact hleast e hmem hsame hlow
    rw [onVoteWaitExpiry_own hown, if_neg (by omega), State.voted_led hleads]
    exact ⟨fun hadopts => by rw [if_pos hadopts]; rfl, fun hkeeps => by rw [if_neg (Bool.eq_false_iff.mp hkeeps)]; rfl⟩
  · rw [onClosureIssue_none hnone]
  · rw [onClosureIssue_waiting hc, if_pos (.inl (by omega))]
  · rw [onClosureIssue_waiting hc, if_pos (.inr hreset)]
  · rw [onClosureIssue_waiting hc, if_neg (by simp [hdue, hrun])]
    rfl

end Sys2Proof.Machine

/-! THEOREMS. Epochs, probe rounds, pin tests and the commands of the lamp table (R377, R379, R381, R382, R384 to R386, R390). -/

namespace Sys2Proof.Machine

section Lamps
variable {s : State} {q : Fin 24} {tag op was n : Nat} {c : Cmd} {p : PinTest}

/-! ### A pier's wall-time intervals -/

/-- On a pier, wall time has passed a multiple of `n` ticks since the wall time `was`. -/
def State.intervalDue (s : State) (was n : Nat) : Prop := s.isPier = true ∧ was / n < s.now / n

theorem State.intervalDue_iff : s.intervalDue was n ↔ s.isPier = true ∧ s.passed was n = true :=
  and_congr_right' decide_eq_true_iff.symm

/-! ### Epochs (R379) -/

/-- One lamp's entry of the table at an epoch start. -/
def State.lampAged (s : State) (e : Nat × Nat) : State :=
  if s.diagnosed e.1 then
    s.putLamp e.1 (if e.2 % 8 = lpOk ∧ bits e.2 6 1 = 0 then e.2 % 64 + 128 * bits e.2 6 1 - lpOk
      else e.2 % 64 + 128 * bits e.2 6 1)
  else s

/-- The epoch that begins now is the one begun last. -/
def State.epochBegun (s : State) : State := { s with dia := { s.dia with epochAt := s.now } }

theorem onEpochStart_due (h : s.intervalDue s.dia.epochAt (s.fld DIA_TIME.VERIFY_AGE * 300000000)) :
    onEpochStart s = s.dia.lamps.foldl State.lampAged s.epochBegun :=
  if_pos (State.intervalDue_iff.mp h)

theorem onEpochStart_early (h : ¬ s.intervalDue s.dia.epochAt (s.fld DIA_TIME.VERIFY_AGE * 300000000)) :
    onEpochStart s = s :=
  if_neg (mt State.intervalDue_iff.mpr h)

/-! ### Probe rounds (R381) -/

/-- A probe round may begin. -/
def State.roundDue (s : State) : Prop := s.intervalDue s.dia.roundAt (s.fld DIA_TIME.PROBE_INT * 600000000)

/-- The round's interval that begins now is the one begun last. -/
def State.roundBegun (s : State) : State := { s with dia := { s.dia with roundAt := s.now } }

/-- A round over every row. -/
def State.roundStarted (s : State) : State :=
  State.showRound { s with dia := { s.dia with round := List.range s.str.hard.rows } }

theorem onProbeRoundStart_due (h : s.roundDue) : onProbeRoundStart s =
    if s.assist 15 = true ∨ ¬ s.flag DIA_CFG.PROBE_EN = true then s.roundBegun
    else if ¬ s.hasSlots = true then s.roundBegun.noSlot else s.roundBegun.roundStarted :=
  if_pos (State.intervalDue_iff.mp h)

theorem onProbeRoundStart_early (h : ¬ s.roundDue) : onProbeRoundStart s = s := if_neg (mt State.intervalDue_iff.mpr h)

theorem onProbeRoundStart_off (h : s.roundDue) (hoff : s.assist 15 = true ∨ s.flag DIA_CFG.PROBE_EN = false) :
    onProbeRoundStart s = s.roundBegun := by
  rw [onProbeRoundStart_due h, if_pos (hoff.imp_right Bool.eq_false_iff.mp)]

theorem onProbeRoundStart_hw (h : s.roundDue) (hhw : s.assist 15 = false) (hen : s.flag DIA_CFG.PROBE_EN = true) :
    onProbeRoundStart s = if s.hasSlots then s.roundBegun.roundStarted else s.roundBegun.noSlot := by
  rw [onProbeRoundStart_due h, if_neg (by simp [hhw, hen]), ite_not]

/-! ### Pin tests (R382) -/

/-- A pin test is requested at its interval. -/
def State.pinDue (s : State) : Prop := s.intervalDue s.dia.pinAt (s.fld DIA_TIME.PIN_INT * 600000000)

/-- The pin test's interval that begins now is the one begun last. -/
def State.pinBegun (s : State) : State := { s with dia := { s.dia with pinAt := s.now } }

theorem onPinTestRequest_due (h : s.pinDue) : onPinTestRequest s =
    if s.assist 15 = true ∨ ¬ s.flag DIA_CFG.PIN_EN = true then s.pinBegun
    else if ¬ s.hasSlots = true then s.pinBegun.noSlot else s.pinBegun.requestPin :=
  if_pos (State.intervalDue_iff.mp h)

theorem onPinTestRequest_early (h : ¬ s.pinDue) : onPinTestRequest s = s := if_neg (mt State.intervalDue_iff.mpr h)

theorem onPinTestRequest_off (h : s.pinDue) (hoff : s.assist 15 = true ∨ s.flag DIA_CFG.PIN_EN = false) :
    onPinTestRequest s = s.pinBegun := by
  rw [onPinTestRequest_due h, if_pos (hoff.imp_right Bool.eq_false_iff.mp)]

theorem onPinTestRequest_hw (h : s.pinDue) (hhw : s.assist 15 = false) (hen : s.flag DIA_CFG.PIN_EN = true) :
    onPinTestRequest s = if s.hasSlots then s.pinBegun.requestPin else s.pinBegun.noSlot := by
  rw [onPinTestRequest_due h, if_neg (by simp [hhw, hen]), ite_not]

theorem State.pin_requestPin_isSome : s.requestPin.dia.pin.isSome = true := by
  unfold State.requestPin
  split
  case h_1 hp => rw [hp, Option.isSome_some]
  case h_2 => rfl

theorem State.requestPin_some (h : s.dia.pin = some p) : s.requestPin = s := by rw [State.requestPin, h]

theorem State.requestPin_joined : s.requestPin.dia.joined = s.dia.joined := by
  unfold State.requestPin
  split <;> rfl

theorem State.requestPin_eq : s.requestPin = { s with dia := s.requestPin.dia } := by
  unfold State.requestPin
  split <;> rfl

theorem State.flag_noSlot : s.noSlot.flag DIA_STATUS.NO_SLOT = true := by
  have hset : (s.setFlag DIA_STATUS.NO_SLOT true).flag DIA_STATUS.NO_SLOT = true :=
    State.flag_setFlag_same _ _ _ rfl (by decide)
  unfold State.noSlot
  dsimp only
  split
  · exact hset
  · rw [State.flag, State.fld_raise (by simp) (by simp [reportReg, Fld.addr, DIA_STATUS.NO_SLOT, VIA_CNT_DROP.NOROUTE])]
    exact hset

/-- The state in which a command has joined the pin test under way, or the one that it requests. -/
def State.pinJoined (s : State) (c : Cmd) : State :=
  let u := (s.run c).requestPin
  { u with dia := { u.dia with joined := u.dia.joined ++ [(c.q, c.id)] } }

theorem onCmdDiaPinTest_none (h : s.cmd q tag 0x1001 = none) : onCmdDiaPinTest q tag s = s := by rw [onCmdDiaPinTest, h]

theorem onCmdDiaPinTest_noSlots (h : s.cmd q tag 0x1001 = some c) (hnone : s.hasSlots = false) :
    onCmdDiaPinTest q tag s = s.noSlot.finish c 0x1001 := by
  rw [onCmdDiaPinTest, h]
  exact if_pos (Bool.eq_false_iff.mp hnone)

theorem onCmdDiaPinTest_joins (h : s.cmd q tag 0x1001 = some c) (hslots : s.hasSlots = true) :
    onCmdDiaPinTest q tag s = s.pinJoined c := by
  rw [onCmdDiaPinTest, h]
  exact if_neg (not_not_intro hslots)

theorem State.joined_pinJoined : (s.pinJoined c).dia.joined = s.dia.joined ++ [(c.q, c.id)] :=
  congrArg (· ++ [(c.q, c.id)]) (State.requestPin_joined (s := s.run c))

theorem State.pin_pinJoined_some (h : s.dia.pin = some p) : (s.pinJoined c).dia.pin = some p :=
  (congrArg (·.dia.pin) (State.requestPin_some (s := s.run c) h)).trans h

theorem State.pinJoined_eq : s.pinJoined c = { s.run c with dia := (s.pinJoined c).dia } := by
  unfold State.pinJoined
  dsimp only
  rw [State.requestPin_eq]

/-! ### The end of a pin test (R382, R390) -/

theorem State.flag_setPair_ne {f : Fld} {r : PairReg} (v : Nat) (hlo : f.addr 0 ≠ r.addr 0) (hhi : f.addr 0 ≠ r.addr 0 + 4) :
    (s.setPair r v).flag f = s.flag f :=
  State.flag_congr fun rst => State.word_setPair_ne s v rst hlo hhi

/-- The state of a pin test that has ended, before the commands that joined it complete. -/
def State.pinOver (s : State) (abandoned : Bool) : State :=
  let u := s.raise 0x1003 [(16, 4, s.countState lpLeak), (20, 4, s.countState lpBridge), (24, 1, b2n abandoned)]
  (State.setFlag { u with dia := { u.dia with pin := none, joined := [], shown := none } } DIA_STATUS.PIN_RUN false).setPair
    DIA_PIN_LAST.TIME u.now

/-- A command that joined a pin test completes. -/
def State.pinCmdDone (s : State) (x : Nat × Nat) : State :=
  match s.cmdAt x.1 x.2 0x1001 with
  | some c => s.finish c stOk
  | none => s

theorem State.endPin_eq (abandoned : Bool) : s.endPin abandoned = s.dia.joined.foldl State.pinCmdDone (s.pinOver abandoned) := rfl

theorem State.flag_pinOver (abandoned : Bool) : (s.pinOver abandoned).flag DIA_STATUS.PIN_RUN = false := by
  rw [State.pinOver, State.flag_setPair_ne _ (by decide) (by decide), State.flag_setFlag_same _ _ _ rfl (by decide)]

theorem State.pair_pinOver (abandoned : Bool) : (s.pinOver abandoned).pair DIA_PIN_LAST.TIME = s.now % 2 ^ 64 := by
  refine (State.pair_setPair_same _ _ _ _).trans ?_
  rw [State.now, State.time_raise (by simp), State.now]

/-- The last frame of a pin test is over. -/
def State.pinEnded (s : State) : Prop := ∃ p, s.dia.pin = some p ∧ p.begun = true ∧ p.frames = 0

theorem onPinTestEnd_ended (h : s.pinEnded) : onPinTestEnd s = s.endPin false := by
  obtain ⟨p, hp, hover⟩ := h
  rw [onPinTestEnd, hp]
  exact if_pos hover

theorem onPinTestEnd_running (h : ¬ s.pinEnded) : onPinTestEnd s = s := by
  unfold onPinTestEnd
  split
  case h_1 p hp => exact if_neg fun hover => h ⟨p, hp, hover⟩
  case h_2 => rfl

/-! ### Operations and reads of the lamp table (R384, R385, R390) -/

/-- What the row of operation `op` does with CMD_DIA_REMOVE. -/
def State.lampOpTaken (s : State) (c : Cmd) (op : Nat) : State :=
  if c.opnd 40 1 ≠ op then s
  else if lampRangeOk (c.opnd 32 4) (c.opnd 36 4) = true then
    { s.run c with dia := { s.dia with ops := s.dia.ops ++ [(c.q, c.id)] } }
  else s.finish c 0x1002

theorem State.holdLampOp_none (h : s.cmd q tag 0x1002 = none) : s.holdLampOp q tag op = s := by rw [State.holdLampOp, h]

theorem State.holdLampOp_some (h : s.cmd q tag 0x1002 = some c) : s.holdLampOp q tag op = s.lampOpTaken c op := by
  rw [State.holdLampOp, h, State.lampOpTaken]
  exact if_congr Iff.rfl rfl (ite_not _ _ _)

theorem onCmdDiaRead_none (h : s.cmd q tag 0x1003 = none) : onCmdDiaRead q tag s = s := by rw [onCmdDiaRead, h]

theorem onCmdDiaRead_some (h : s.cmd q tag 0x1003 = some c) : onCmdDiaRead q tag s =
    if lampRangeOk (c.opnd 32 4) (c.opnd 36 4) = true ∧ c.opnd 36 4 ≤ c.payLen then
      (s.portWrite (queuePort q) c.payAddr ((List.range (c.opnd 36 4)).map fun k =>
        BitVec.ofNat 8 (s.lampShown (c.opnd 32 4 + k)))).finish c stOk
    else s.finish c 0x1002 := by
  rw [onCmdDiaRead, h, ← ite_not]
  exact if_congr (by rw [not_and_or, not_le]) rfl rfl

/-! ### The save of REMOVED and of a new address (R221, R386, R449) -/

theorem onRemovedSave_eq : onRemovedSave s =
    if s.restarting = true ∨ s.flashHeld = true ∨ s.dia.unsaved = none then s else s.saveSettings := by
  rw [onRemovedSave]
  simp only [Option.isNone_iff_eq_none]

/-! ### The commands -/

section Awake
variable (hawake : s.awake = true)
include hawake

theorem exec_epochStart : exec .epochStart s = .next (onEpochStart s) := congrArg _ (State.guarded_of_awake _ hawake)

theorem exec_probeRoundStart : exec .probeRoundStart s = .next (onProbeRoundStart s) :=
  congrArg _ (State.guarded_of_awake _ hawake)

theorem exec_pinTestRequest : exec .pinTestRequest s = .next (onPinTestRequest s) :=
  congrArg _ (State.guarded_of_awake _ hawake)

theorem exec_cmdDiaPinTest : exec (.cmdDiaPinTest q tag) s = .next (onCmdDiaPinTest q tag s) :=
  congrArg _ (State.guarded_of_awake _ hawake)

theorem exec_pinTestEnd : exec .pinTestEnd s = .next (onPinTestEnd s) := congrArg _ (State.guarded_of_awake _ hawake)

theorem exec_diaOpRemove : exec (.diaOpRemove q tag) s = .next (s.holdLampOp q tag 0) :=
  congrArg _ (State.guarded_of_awake _ hawake)

theorem exec_diaOpRestore : exec (.diaOpRestore q tag) s = .next (s.holdLampOp q tag 1) :=
  congrArg _ (State.guarded_of_awake _ hawake)

theorem exec_diaOpForget : exec (.diaOpForget q tag) s = .next (s.holdLampOp q tag 2) :=
  congrArg _ (State.guarded_of_awake _ hawake)

theorem exec_cmdDiaRead : exec (.cmdDiaRead q tag) s = .next (onCmdDiaRead q tag s) :=
  congrArg _ (State.guarded_of_awake _ hawake)

theorem exec_removedSave : exec .removedSave s = .next (onRemovedSave s) := congrArg _ (State.guarded_of_awake _ hawake)

end Awake

end Lamps

/-- Settles O55: the three intervals are one test of wall time on a pier (`State.intervalDue`); a request keeps the test that is there
(`State.requestPin_some`); the save is also that of an address newly assigned (R221, log entry 149). -/
theorem lampTests : Obligations.LampTests := by
  unfold Obligations.LampTests
  intro s q tag hawake
  rw [exec_epochStart hawake, exec_probeRoundStart hawake, exec_pinTestRequest hawake, exec_cmdDiaPinTest hawake,
    exec_pinTestEnd hawake, exec_diaOpRemove hawake, exec_diaOpRestore hawake, exec_diaOpForget hawake, exec_cmdDiaRead hawake,
    exec_removedSave hawake]
  refine ⟨⟨fun hdue => ?_, fun hearly => ?_⟩,
    ⟨fun hdue hoff => ?_, fun hdue hhw hen => ?_, fun hearly => ?_⟩,
    ⟨fun hdue hoff => ?_, fun hdue hhw hen => ⟨?_, State.pin_requestPin_isSome⟩, fun hearly => ?_⟩,
    State.flag_noSlot,
    fun hnone => ?_, fun c hc => ⟨fun hslots => ?_, fun hslots => ?_⟩,
    ⟨fun hended => ?_, fun hrunning => ?_⟩,
    fun hnone => ?_, fun c hc => ?_,
    fun hnone => ?_, fun c hc => ?_,
    ?_⟩
  · exact congrArg _ (onEpochStart_due hdue)
  · exact congrArg _ (onEpochStart_early hearly)
  · exact congrArg _ (onProbeRoundStart_off hdue hoff)
  · exact congrArg _ (onProbeRoundStart_hw hdue hhw hen)
  · exact congrArg _ (onProbeRoundStart_early hearly)
  · exact congrArg _ (onPinTestRequest_off hdue hoff)
  · exact congrArg _ (onPinTestRequest_hw hdue hhw hen)
  · exact congrArg _ (onPinTestRequest_early hearly)
  · rw [onCmdDiaPinTest_none hnone]
  · rw [onCmdDiaPinTest_noSlots hc hslots]
  · exact ⟨s.pinJoined c, congrArg _ (onCmdDiaPinTest_joins hc hslots), State.pin_requestPin_isSome (s := s.run c),
      State.joined_pinJoined, fun x hx => State.pin_pinJoined_some hx, State.pinJoined_eq⟩
  · exact ⟨s.pinOver false, congrArg _ ((onPinTestEnd_ended hended).trans (State.endPin_eq false)), rfl, rfl,
      State.flag_pinOver false, State.pair_pinOver false, rfl⟩
  · exact congrArg _ (onPinTestEnd_running hrunning)
  · simp only [State.holdLampOp_none hnone, and_self]
  · simp only [State.holdLampOp_some hc]
    exact ⟨rfl, rfl, rfl⟩
  · rw [onCmdDiaRead_none hnone]
  · rw [onCmdDiaRead_some hc]
  · rw [onRemovedSave_eq]

end Sys2Proof.Machine

/-! THEOREMS. What a deck write stores and what it leaves (R29, R409). -/

namespace Sys2Proof.Machine

section DeckWrite
variable {s : State} {w c : Nat}

/-- An event is filed outside deck, external memory and flash. -/
theorem State.mem_flash_raise {code : Nat} {fs : List ByteField} (h : ∀ f ∈ fs, 16 ≤ f.1 ∧ f.1 + f.2.1 ≤ 32) :
    (s.raise code fs).mem = s.mem ∧ (s.raise code fs).flash = s.flash := by
  rw [(State.raise_filed h).rest]
  exact ⟨rfl, rfl⟩

/-- The report of an uncorrectable word (R409) sets registers and raises an event: what is stored stays. -/
theorem State.mem_flash_deckUc : (s.deckUc w c).mem = s.mem ∧ (s.deckUc w c).flash = s.flash := by
  unfold State.deckUc
  exact State.mem_flash_raise (by simp)

/-- So do the reports of several words, each with the class that the writer holds for its bank. -/
theorem State.mem_flash_deckUcs (ws : List Nat) (cls : Nat → Nat) :
    (ws.foldl (fun t w => t.deckUc w (cls w)) s).mem = s.mem ∧
    (ws.foldl (fun t w => t.deckUc w (cls w)) s).flash = s.flash :=
  List.foldlRecOn (motive := fun t : State => t.mem = s.mem ∧ t.flash = s.flash) ws _ ⟨rfl, rfl⟩ fun _ ht _ _ =>
    ⟨State.mem_flash_deckUc.1.trans ht.1, State.mem_flash_deckUc.2.trans ht.2⟩

/-- A deck write stores its bytes in deck, whether or not it meets uncorrectable words, and nothing in external memory or flash. -/
theorem State.deckWrite_stores (s : State) (a : Nat) (bs : List Byte) (cls : Nat → Nat) :
    (s.deckWrite a bs cls).mem.deck = writeBytes blank s.mem.deck a bs ∧
    (s.deckWrite a bs cls).mem.ext = s.mem.ext ∧ (s.deckWrite a bs cls).flash = s.flash := by
  obtain ⟨hmem, hflash⟩ := State.mem_flash_deckUcs (s := s)
    ((s.badWords a bs.length).filter fun w => ¬ (decide (a ≤ 8 * w) && decide (8 * w + 8 ≤ a + bs.length)))
    fun w => cls (bankOf w)
  exact ⟨(congrArg (fun m : MemSt => writeBytes blank m.deck a bs) hmem :), (congrArg MemSt.ext hmem :), hflash⟩

end DeckWrite

/-- Settles O16: the bytes written read back and the others read as before (`readBytes_writeBytes`, `readByte_writeBytes_outside`); the
reports of uncorrectable words met on the way store nothing (`State.mem_flash_deckUcs`). -/
theorem deckWriteFrame : Obligations.DeckWriteFrame := by
  unfold Obligations.DeckWriteFrame
  intro s a bs cls _
  obtain ⟨hdeck, hext, hflash⟩ := s.deckWrite_stores a bs cls
  refine ⟨?_, fun b hb => ?_, hext, hflash⟩
  · show readBytes blank (s.deckWrite a bs cls).mem.deck a bs.length = bs
    rw [hdeck, readBytes_writeBytes]
  · rw [hdeck, readByte_writeBytes_outside hb]

end Sys2Proof.Machine

/-! THEOREMS. A step and the command at the front of the queue; what the effect of every command keeps, a device in reset or off
(R5, R10, R75, R447, R454). -/

namespace Sys2Proof.Machine

section Every
variable {s t : State} {c : Instr} {rest : List Instr}

theorem step_front (h : s.pending = c :: rest) : step s = exec c (s.popped rest) := by rw [step, h]

/-! ### What an effect keeps -/

/-- A meaning whose effect is an operation that keeps what `Kept` lists. -/
def Keeps (o : State → Host.Outcome State Fault Refusal) : Prop := ∀ s, ∃ t, o s = .next t ∧ Kept s t

section Meanings
variable {f : State → State} (hf : ∀ {σ u}, Kept σ u → Kept σ (f u))
include hf

theorem Keeps.always : Keeps fun s => .next (f s) := fun s => ⟨f s, rfl, hf (Kept.refl s)⟩

theorem Keeps.guarded : Keeps fun s => .next (s.guarded f) :=
  fun s => ⟨s.guarded f, rfl, Kept.ite (hf (Kept.refl s)) (Kept.refl s)⟩

end Meanings

open Keeps in
/-- Each arm of the dispatcher, with the lemma of Laws/Kept*.lean about its meaning. -/
theorem exec_keeps : ∀ c, Keeps (exec c)
  | .registerWrite .. => guarded onRegisterWrite_kept | .readClear .. => guarded onReadClear_kept
  | .pairLoRead .. => guarded onPairLoRead_kept | .pairLoWrite .. => guarded onPairLoWrite_kept
  | .pairHiWrite .. => guarded onPairHiWrite_kept | .bar2Read .. => guarded onBar2Read_kept
  | .bar2Write .. => guarded onBar2Write_kept | .deckDataRead .. => guarded onDeckDataRead_kept
  | .deckDataWrite .. => guarded onDeckDataWrite_kept | .portDisable .. => guarded onPortDisable_kept
  | .portEnable .. => guarded onPortEnable_kept | .queueEnable .. => guarded onQueueEnable_kept
  | .queueDisable .. => guarded onQueueDisable_kept | .eventRingEnable .. => guarded onEventRingEnable_kept
  | .eventRingDisable .. => guarded onEventRingDisable_kept | .sqDoorbell .. => guarded onSqDoorbell_kept
  | .cqHeadWrite .. => guarded onCqHeadWrite_kept | .evHeadWrite .. => guarded onEvHeadWrite_kept
  | .commandFetch => guarded onCommandFetch_kept | .commandStartAtTime .. => guarded onCommandStartAtTime_kept
  | .cmdNop .. => guarded onCmdNop_kept | .cmdAbort .. => guarded onCmdAbort_kept
  | .safePointStop .. => guarded onSafePointStop_kept | .fnReset .. => guarded onFnReset_kept
  | .fnResetDone .. => guarded onFnResetDone_kept | .modeFollow .. => guarded onModeFollow_kept
  | .assistLate .. => guarded onAssistLate_kept | .decideCfg .. => guarded onDecideCfg_kept
  | .decideIngSdi .. => guarded onDecideIngSdi_kept | .decidePtp .. => guarded onDecidePtp_kept
  | .decideRate .. => guarded onDecideRate_kept | .decideEnc .. => guarded onDecideEnc_kept
  | .decideLnk .. => guarded onDecideLnk_kept | .decideSpan .. => guarded onDecideSpan_kept
  | .decideTim .. => guarded onDecideTim_kept | .decideDec .. => guarded onDecideDec_kept
  | .decideCmp .. => guarded onDecideCmp_kept | .decideCor .. => guarded onDecideCor_kept
  | .decideStr .. => guarded onDecideStr_kept | .decideTherm .. => guarded onDecideTherm_kept
  | .decideDia .. => guarded onDecideDia_kept | .decideMem .. => guarded onDecideMem_kept
  | .decideDeck .. => guarded onDecideDeck_kept | .decideLdg .. => guarded onDecideLdg_kept
  | .decideRed .. => guarded onDecideRed_kept | .decidePwr .. => guarded onDecidePwr_kept | .bayFault .. => guarded onBayFault_kept
  | .bayWatchdog .. => guarded onBayWatchdog_kept | .bayLoadDone .. => guarded onBayLoadDone_kept
  | .tollhouseRestart => guarded onTollhouseRestart_kept | .tollhouseRestartEnd => guarded onTollhouseRestartEnd_kept
  | .tollhouseStart => guarded onTollhouseStart_kept | .commitWindowClose => guarded onCommitWindowClose_kept
  | .frameStart .. => guarded onFrameStart_kept | .provisionalStart .. => guarded onProvisionalStart_kept
  | .cmdCfgStage .. => guarded onCmdCfgStage_kept | .cmdCfgStageFlash .. => guarded onCmdCfgStageFlash_kept
  | .cmdCfgVerify .. => guarded onCmdCfgVerify_kept | .cmdCfgApply .. => guarded onCmdCfgApply_kept
  | .cmdCfgSvnRaise .. => guarded onCmdCfgSvnRaise_kept | .cfgApplyNoCadence => guarded onCfgApplyNoCadence_kept
  | .cfgAutoload => guarded onCfgAutoload_kept | .sdiLock .. => guarded onSdiLock_kept
  | .sdiLockLoss .. => guarded onSdiLockLoss_kept | .flowTimeout .. => guarded onFlowTimeout_kept
  | .sourceFrameComplete .. => guarded onSourceFrameComplete_kept | .sourceFrameStart .. => guarded onSourceFrameStart_kept
  | .ancPacket .. => guarded onAncPacket_kept | .ethPacket .. => guarded onEthPacket_kept
  | .ptpMessage .. => guarded onPtpMessage_kept | .igmpJoin .. => guarded onIgmpJoin_kept
  | .igmpQuery .. => guarded onIgmpQuery_kept | .arpRequest .. => guarded onArpRequest_kept
  | .sliceRowDeadline .. => guarded onSliceRowDeadline_kept | .cmdIngPlay .. => guarded onCmdIngPlay_kept
  | .sliceAllocate .. => guarded onSliceAllocate_kept | .sliceEncodeDone .. => guarded onSliceEncodeDone_kept
  | .encOverrun .. => guarded onEncOverrun_kept | .cmdEncRefresh .. => guarded onCmdEncRefresh_kept
  | .cdrLock .. => guarded onCdrLock_kept | .blockLock .. => guarded onBlockLock_kept
  | .blockLockLoss .. => guarded onBlockLockLoss_kept | .bringupTimeout .. => guarded onBringupTimeout_kept
  | .waitEnd .. => guarded onWaitEnd_kept | .capPlankSend .. => guarded onCapPlankSend_kept
  | .capPlank .. => guarded onCapPlank_kept | .stepPropose .. => guarded onStepPropose_kept
  | .stepTxreq .. => guarded onStepTxreq_kept | .eyeCheckDone .. => guarded onEyeCheckDone_kept
  | .stepResult .. => guarded onStepResult_kept | .stepTimeout .. => guarded onStepTimeout_kept
  | .spanEnableWrite .. => guarded onSpanEnableWrite_kept | .spanRetrainWrite .. => guarded onSpanRetrainWrite_kept
  | .cmdSpanRetrain .. => guarded onCmdSpanRetrain_kept | .spanInject .. => guarded onSpanInject_kept
  | .laneInjectOne .. => guarded onLaneInjectOne_kept | .prbsLock .. => guarded onPrbsLock_kept
  | .eyeScanStart .. => guarded onEyeScanStart_kept | .eyeScanDone .. => guarded onEyeScanDone_kept
  | .fecUncorrectable .. => guarded onFecUncorrectable_kept | .plankSend .. => guarded onPlankSend_kept
  | .linkPlankSend .. => guarded onLinkPlankSend_kept | .linkPlank .. => guarded onLinkPlank_kept
  | .dataPlank .. => guarded onDataPlank_kept | .vc1Plank .. => guarded onVc1Plank_kept
  | .replayTimeout .. => guarded onReplayTimeout_kept | .vc1StallTimeout .. => guarded onVc1StallTimeout_kept
  | .routeWaitTimeout .. => guarded onRouteWaitTimeout_kept | .spanFabricStop => guarded onSpanFabricStop_kept
  | .bypassEnter => always onBypassEnter_kept | .bypassExit => guarded onBypassExit_kept | .probe => guarded onProbe_kept
  | .announce => guarded onAnnounce_kept | .assign => guarded onAssign_kept | .hello => guarded onHello_kept
  | .links => guarded onLinks_kept | .settleExpiry => guarded onSettleExpiry_kept | .routes => guarded onRoutes_kept
  | .regRead => guarded onRegRead_kept | .regWrite => guarded onRegWrite_kept | .notify => guarded onNotify_kept
  | .subscribe => guarded onSubscribe_kept | .subscribeSend .. => guarded onSubscribeSend_kept
  | .refreshReq => guarded onRefreshReq_kept | .messageResponse => guarded onMessageResponse_kept
  | .e2eTimeout => guarded onE2eTimeout_kept | .cmdViaDiscover .. => guarded onCmdViaDiscover_kept
  | .cmdViaAssign .. => guarded onCmdViaAssign_kept | .cmdViaRoutes .. => guarded onCmdViaRoutes_kept
  | .cmdViaForget .. => guarded onCmdViaForget_kept | .cmdViaReg .. => guarded onCmdViaReg_kept
  | .timePlankSend .. => guarded onTimePlankSend_kept | .timePlank .. => guarded onTimePlank_kept
  | .offerExpiry .. => guarded onOfferExpiry_kept | .holdoverExpiry => guarded onHoldoverExpiry_kept
  | .wallTimeWrite .. => guarded onWallTimeWrite_kept | .ftSyncEdge => guarded onFtSyncEdge_kept
  | .sliceDecodeStart => guarded onSliceDecodeStart_kept | .sliceDecodeDone .. => guarded onSliceDecodeDone_kept
  | .cmdDecRequest .. => guarded onCmdDecRequest_kept | .cmdCmpCommit .. => guarded onCmdCmpCommit_kept
  | .cmdCmpAlloc .. => guarded onCmdCmpAlloc_kept | .cmdCmpWrite .. => guarded onCmdCmpWrite_kept
  | .cmdCmpFree .. => guarded onCmdCmpFree_kept | .cmdCmpLut .. => guarded onCmdCmpLut_kept
  | .cmdCmpParapet .. => guarded onCmdCmpParapet_kept | .bandCompose .. => guarded onBandCompose_kept
  | .bandRecompose => guarded onBandRecompose_kept | .cmdCorLoad .. => guarded onCmdCorLoad_kept
  | .corImageComplete => guarded onCorImageComplete_kept | .cmdCorPatch .. => guarded onCmdCorPatch_kept
  | .refreshStart => guarded onRefreshStart_kept | .rowSlotStart .. => guarded onRowSlotStart_kept
  | .teRise .. => guarded onTeRise_kept | .teWindowExpiry .. => guarded onTeWindowExpiry_kept
  | .thermSample .. => guarded onThermSample_kept | .tjSample .. => guarded onTjSample_kept
  | .tjCooldownExpiry => guarded onTjCooldownExpiry_kept | .cmdStrIrefTrim .. => guarded onCmdStrIrefTrim_kept
  | .irefTrimDone .. => guarded onIrefTrimDone_kept | .cadenceDecision => guarded onCadenceDecision_kept
  | .voteWaitExpiry => guarded onVoteWaitExpiry_kept | .closureIssue => guarded onClosureIssue_kept
  | .propose => guarded onPropose_kept | .closure => guarded onClosure_kept | .epochStart => guarded onEpochStart_kept
  | .probeRoundStart => guarded onProbeRoundStart_kept | .pinTestRequest => guarded onPinTestRequest_kept
  | .pinTestEnd => guarded onPinTestEnd_kept | .cmdDiaPinTest .. => guarded onCmdDiaPinTest_kept
  | .diaOpRemove .. => guarded onDiaOpRemove_kept | .diaOpRestore .. => guarded onDiaOpRestore_kept
  | .diaOpForget .. => guarded onDiaOpForget_kept | .cmdDiaRead .. => guarded onCmdDiaRead_kept
  | .removedSave => guarded onRemovedSave_kept | .memTrainingDone .. => guarded onMemTrainingDone_kept
  | .dramRefreshDue .. => guarded onDramRefreshDue_kept | .memSensorRead .. => guarded onMemSensorRead_kept
  | .neighbourRefresh .. => guarded onNeighbourRefresh_kept | .rankRetrainDue .. => guarded onRankRetrainDue_kept
  | .memRequestTimeout .. => guarded onMemRequestTimeout_kept | .ceHourBoundary => guarded onCeHourBoundary_kept
  | .memPatrolScrub .. => guarded onMemPatrolScrub_kept | .deckScrub .. => guarded onDeckScrub_kept
  | .cmdMemWrite .. => guarded onCmdMemWrite_kept | .cmdMemRead .. => guarded onCmdMemRead_kept
  | .ledgerAudit => guarded onLedgerAudit_kept | .cmdLdgAudit .. => guarded onCmdLdgAudit_kept
  | .leasePlank .. => guarded onLeasePlank_kept | .leaseAck => guarded onLeaseAck_kept
  | .leaseExpiry .. => guarded onLeaseExpiry_kept | .leaseClaim .. => guarded onLeaseClaim_kept
  | .claimGapExpiry .. => guarded onClaimGapExpiry_kept | .cmdRedHandover .. => guarded onCmdRedHandover_kept
  | .handoverReq => guarded onHandoverReq_kept | .handoverDone => guarded onHandoverDone_kept
  | .handoverTimeout => guarded onHandoverTimeout_kept | .powerOn .. => always onPowerOn_kept
  | .deviceResetEnd => always onDeviceResetEnd_kept | .rootPllLock => guarded onRootPllLock_kept
  | .resetPin => always onResetPin_kept | .rootPllLoss => guarded onRootPllLoss_kept
  | .glbResetWrite .. => guarded onGlbResetWrite_kept | .supplyWarn .. => guarded onSupplyWarn_kept
  | .supplyRecover .. => guarded onSupplyRecover_kept | .supplyReset .. => always onSupplyReset_kept
  | .strandSupplyRise => guarded onStrandSupplyRise_kept | .cmdPwrState .. => guarded onCmdPwrState_kept
  | .cmdPwrWake .. => guarded onCmdPwrWake_kept | .wakePin => always onWakePin_kept | .wakeMatch .. => always onWakeMatch_kept
  | .cadenceStart .. => guarded onCadenceStart_kept | .bandgapCheck .. => guarded onBandgapCheck_kept
  | .cmdFwuWrite .. => guarded onCmdFwuWrite_kept | .cmdFwuForward .. => guarded onCmdFwuForward_kept
  | .cmdFwuActivate .. => guarded onCmdFwuActivate_kept | .cmdFwuCancel .. => guarded onCmdFwuCancel_kept
  | .cmdFwuCommit .. => guarded onCmdFwuCommit_kept | .cmdFwuFallback .. => guarded onCmdFwuFallback_kept
  | .cmdFwuSvnRaise .. => guarded onCmdFwuSvnRaise_kept | .fwCommitTimer => guarded onFwCommitTimer_kept
  | .offer => guarded onOffer_kept | .chunk .. => guarded onChunk_kept | .fwuEnd => guarded onFwuEnd_kept
  | .activate => guarded onActivate_kept | .offerRetry => guarded onOfferRetry_kept | .recoverReq => guarded onRecoverReq_kept
  | .recoverReqSend => guarded onRecoverReqSend_kept | .fwuRecoverGo .. => guarded onFwuRecoverGo_kept
  | .chkPresetWrite .. => guarded onChkPresetWrite_kept | .chkFeed .. => guarded onChkFeed_kept
  | .chkFeed1 .. => guarded onChkFeed1_kept | .chkLoad .. => guarded onChkLoad_kept
  | .chkRunCompute .. => guarded onChkRunCompute_kept | .chkRunAppend .. => guarded onChkRunAppend_kept
  | .chkRunCheck .. => guarded onChkRunCheck_kept | .chkRunCheckStrip .. => guarded onChkRunCheckStrip_kept
  | .gpioSet .. => guarded onGpioSet_kept | .gpioClr .. => guarded onGpioClr_kept
  | .pcieLinkChange .. => always onPcieLinkChange_kept | .supplyReturnAfterReset .. => always onSupplyReturnAfterReset_kept
  | .fwuActivateAt => guarded onFwuActivateAt_kept

theorem exec_kept (h : exec c s = .next t) : Kept s t := by
  obtain ⟨u, hu, hk⟩ := exec_keeps c s
  cases hu.symm.trans h
  exact hk

/-- A step's command is gone from the queue; in all else the step keeps what its command, or an idle cycle, keeps. -/
theorem step_kept (h : step s = .next t) : ∃ rest, Kept (s.popped rest) t := by
  cases hq : s.pending with
  | cons c rest => exact ⟨rest, exec_kept ((step_front hq).symm.trans h)⟩
  | nil =>
    cases (step_idle hq).symm.trans h
    refine ⟨[], ?_⟩
    rw [show s.popped [] = s by rw [State.popped, ← hq]]
    exact State.idle_kept (Kept.refl s)

/-! ### A device in reset, or off (R447, R454) -/

theorem State.guarded_of_asleep (f : State → State) (h : s.awake = false) : s.guarded f = s := if_neg (by simp [h])

theorem exec_asleep (h : s.awake = false) (hboard : fromBoard c = false) : exec c s = .next s := by
  cases c
  case powerOn | deviceResetEnd | resetPin | supplyReset | supplyReturnAfterReset | wakePin | wakeMatch | bypassEnter | pcieLinkChange =>
    cases hboard
  all_goals exact congrArg _ (State.guarded_of_asleep _ h)

end Every

/-! ### The register file after reset -/

/-- Writes of a table leave an address that is none of theirs. -/
theorem Sparse.find_foldl_set {α β : Type} {a : Nat} (key : β → Nat) (val : β → α) (l : List β) (m : Sparse α)
    (h : a ∉ l.map key) : Sparse.find (l.foldl (fun m e => Sparse.set m (key e) (val e)) m) a = Sparse.find m a := by
  induction l generalizing m with
  | nil => rfl
  | cons e l ih =>
    obtain ⟨he, hl⟩ : a ≠ key e ∧ a ∉ l.map key := by simpa using h
    rw [List.foldl_cons, ih _ hl, Sparse.find_set_ne m _ he]

/-- A register that takes no fuse, strap, index or cause is not listed after reset, so that it reads its Reset column. -/
theorem State.cur_reset {a : Nat} (h : a ∉ (bootWords Fuses.blank Pins.board 1 0).map (·.1)) :
    State.reset.cur a = resetWord a := by
  have hunlisted : Sparse.find State.reset.regs a = none := Sparse.find_foldl_set _ _ _ [] h
  rw [State.cur, State.word, hunlisted, Option.getD_none, BitVec.ofNat_toNat, BitVec.setWidth_eq]

theorem State.reset_canon : State.reset.Canon := by
  unfold State.Canon State.reset State.boot
  dsimp only [HostSt.reset, MemSt.reset]
  exact ⟨Memory.wf_nil _, Memory.wf_nil _, Memory.wf_nil _, Memory.wf_nil _, Memory.wf_nil _, bootRegs_rising _ _ _ _⟩

theorem State.reset_queued : State.reset.Queued := fun _ h => nomatch h

/-- Settles O1: a step takes the command at the front of the queue and runs it on the state with the queue's rest (`step_front`). -/
theorem stepRunsFront : Obligations.StepRunsFront := by
  unfold Obligations.StepRunsFront
  exact fun c s => ⟨step_front rfl, fun rest h => step_front h⟩

/-- Settles O3: the register file after reset lists the words of `bootWords` and no other (log entries 22 and 23); the memories are
empty (log entry 1), and the cause of a power-on is the one of log entry 28. -/
theorem resetLeavesColumns : Obligations.ResetLeavesColumns := by
  unfold Obligations.ResetLeavesColumns
  refine ⟨fun a h => State.cur_reset h, rfl, rfl, rfl, rfl, rfl, ?_, ?_, ?_, rfl, rfl, ?_⟩
  all_goals decide +kernel

/-- Settles O4: nothing is listed in a memory, and each word of the register file was put at its place (`bootRegs_rising`). -/
theorem resetCanonical : Obligations.ResetCanonical := ⟨State.reset_canon, State.reset_queued⟩

/-- Settles O5: what a step's command keeps (`step_kept`), the step keeps: the queue is no part of the memories, the tables or the
fetched commands. -/
theorem stepKeepsCanonical : Obligations.StepKeepsCanonical := by
  unfold Obligations.StepKeepsCanonical
  intro s t h
  obtain ⟨rest, hkept⟩ := step_kept h
  exact ⟨hkept.canon, hkept.queued⟩

/-- Settles O6: every command's meaning is built of operations that keep what `Kept` lists (`exec_keeps`); the counter of free values
never falls (log entry 2). -/
theorem commandsKeep : Obligations.CommandsKeep := by
  unfold Obligations.CommandsKeep
  exact fun c s t h => exec_kept h

/-- Settles O8: only the commands of the board act on a device that is not awake (log entry 115); each other meaning is guarded. -/
theorem nothingRunsInReset : Obligations.NothingRunsInReset := by
  unfold Obligations.NothingRunsInReset
  intro c s t hasleep hboard h
  cases (exec_asleep hasleep hboard).symm.trans h
  rfl

end Sys2Proof.Machine

/-! SUPPORT. Registers of one index beside one another, and those of one check unit (Table 20-3). -/

namespace Sys2Proof.Machine

section Beside
variable {s : State} {f : Fld} {p r : PairReg} {i : Nat}

/-- Two pairs of one step stand at other addresses. -/
def PairReg.apart (p r : PairReg) : Bool :=
  decide (p.stride = r.stride ∧ p.base ≠ r.base ∧ p.base ≠ r.base + 4 ∧ p.base + 4 ≠ r.base)

/-- A field and a pair of one step stand at other addresses. -/
def Fld.offPair (f : Fld) (p : PairReg) : Bool := decide (f.stride = p.stride ∧ f.base ≠ p.base ∧ f.base ≠ p.base + 4)

theorem State.pair_setPair_beside (v : Nat) (h : p.apart r = true) : (s.setPair r v i).pair p i = s.pair p i := by
  obtain ⟨hstride, hlo, hlohi, hhilo⟩ := of_decide_eq_true h
  apply State.pair_setPair_apart <;> simp only [PairReg.addr, hstride] <;> omega

theorem State.pair_setFld_beside (v : Nat) (h : f.offPair p = true) : (s.setFld f v i).pair p i = s.pair p i := by
  obtain ⟨hstride, hlo, hhi⟩ := of_decide_eq_true h
  apply State.pair_setFld_apart <;> simp only [PairReg.addr, Fld.addr, hstride] <;> omega

theorem State.word_setPair_offPair (v : Nat) (h : f.offPair p = true) (rst : Nat) :
    (s.setPair p v i).word (f.addr i) rst = s.word (f.addr i) rst := by
  obtain ⟨hstride, hlo, hhi⟩ := of_decide_eq_true h
  apply State.word_setPair_ne <;> simp only [PairReg.addr, Fld.addr, hstride] <;> omega

theorem State.fld_setPair_beside (v : Nat) (h : f.offPair p = true) : (s.setPair p v i).fld f i = s.fld f i := by
  rw [State.fld, State.word_setPair_offPair v h, State.fld]

theorem State.flag_setPair_beside (v : Nat) (h : f.offPair p = true) : (s.setPair p v i).flag f i = s.flag f i := by
  rw [State.flag, State.fld_setPair_beside v h, State.flag]

theorem State.flag_setFld_apart {g : Fld} (v : Nat) (h : g.apart f = true) : (s.setFld f v i).flag g i = s.flag g i := by
  rw [State.flag, State.fld_setFld_apart v h, State.flag]

end Beside

/-! ### One unit and the others -/

section Units
variable {s t : State} {u w : Nat}

/-- The addresses of a unit's registers. -/
def inUnit (u a : Nat) : Prop := 0x40000 + 0x40 * u ≤ a ∧ a < 0x40000 + 0x40 * u + 0x40

/-- Every register but those of unit `u` reads as before. -/
def KeepsUnits (u : Nat) (s t : State) : Prop := ∀ a rst, ¬ inUnit u a → t.word a rst = s.word a rst

theorem KeepsUnits.refl : KeepsUnits u s s := fun _ _ _ => rfl

theorem ne_of_inUnit {a b : Nat} (hb : inUnit u b) (ha : ¬ inUnit u a) : a ≠ b := fun he => ha (he ▸ hb)

theorem KeepsUnits.setFld {f : Fld} {v : Nat} (hf : inUnit u (f.addr u)) (h : KeepsUnits u s t) : KeepsUnits u s (t.setFld f v u) :=
  fun a rst ha => (State.word_setFld_ne t v rst (ne_of_inUnit hf ha)).trans (h a rst ha)

theorem KeepsUnits.setPair {p : PairReg} {v : Nat} (hlo : inUnit u (p.addr u)) (hhi : inUnit u (p.addr u + 4))
    (h : KeepsUnits u s t) : KeepsUnits u s (t.setPair p v u) :=
  fun a rst ha => (State.word_setPair_ne t v rst (ne_of_inUnit hlo ha) (ne_of_inUnit hhi ha)).trans (h a rst ha)

/-- A field of the registers of a unit stands in it, and so does a pair. -/
theorem inUnit_fld {f : Fld} (h : f.stride = 0x40 ∧ 0x40000 ≤ f.base ∧ f.base < 0x40040) : inUnit u (f.addr u) := by
  obtain ⟨hstride, hlo, hhi⟩ := h
  rw [inUnit, Fld.addr, hstride]
  omega

theorem inUnit_pair {p : PairReg} (h : p.stride = 0x40 ∧ 0x40000 ≤ p.base ∧ p.base < 0x4003C) :
    inUnit u (p.addr u) ∧ inUnit u (p.addr u + 4) := by
  obtain ⟨hstride, hlo, hhi⟩ := h
  rw [inUnit, inUnit, PairReg.addr, hstride]
  omega

theorem KeepsUnits.other (h : KeepsUnits u s t) (hw : w ≠ u) : t.chkParams w = s.chkParams w ∧ t.chkVal w = s.chkVal w := by
  have hfar : ∀ o, o < 0x40 → ¬ inUnit u (0x40000 + o + 0x40 * w) := fun o ho hin => by
    rw [inUnit] at hin
    omega
  have hfld : ∀ f : Fld, f.base = 0x40000 → f.stride = 0x40 → t.fld f w = s.fld f w := fun f hb hs => by
    rw [State.fld, h _ _ (by rw [Fld.addr, hb, hs]; exact hfar 0 (by omega)), State.fld]
  have hpair : ∀ p : PairReg, ∀ o, o + 4 < 0x40 → p.base = 0x40000 + o → p.stride = 0x40 → t.pair p w = s.pair p w := by
    intro p o ho hb hs
    refine State.pair_congr (fun rst => h _ _ ?_) fun rst => h _ _ ?_ <;> rw [PairReg.addr, hb, hs]
    · exact hfar o (by omega)
    · exact fun hin => hfar (o + 4) ho (by rw [inUnit] at *; omega)
  simp only [State.chkParams, State.chkVal, State.flag, hfld CHK_CFG.WIDTH rfl rfl, hfld CHK_CFG.REFIN rfl rfl,
    hfld CHK_CFG.REFOUT rfl rfl, hpair CHK_POLY.POLY 8 (by omega) rfl rfl, hpair CHK_INIT.INIT 16 (by omega) rfl rfl,
    hpair CHK_XOROUT.XOROUT 24 (by omega) rfl rfl, hpair CHK_VAL.VAL 32 (by omega) rfl rfl, and_self]

end Units

end Sys2Proof.Machine

/-! THEOREMS. Check units through the registers: presets, feeding, what is guarded (R484 to R488, R491). -/

namespace Sys2Proof.Machine

section Writes
variable {s : State} {p : Path} {u : Fin 32} {v : Word} {x : CrcParams}

theorem chk_rows : ∀ u : Fin 32, registerAt (CHK_CFG.PRESET.addr u) 0x40000 u = true ∧ registerAt (CHK_FEED.DATA.addr u) 0x40028 u = true ∧
    registerAt (CHK_FEED1.DATA.addr u) 0x4002C u = true ∧ registerAt (CHK_CTRL.LOAD.addr u) 0x4003C u = true := by
  decide +kernel

section Open
variable (hawake : s.awake = true) (hopen : s.pathOpen p = true)
include hawake hopen

/-- A command that writes a register whose place in the table is known. -/
theorem exec_rowWrite {c : Instr} {a base i n : Nat} (h : registerAt a base i = true)
    (hc : exec c s = .next (s.guarded fun s => s.hostWriteWord p a n)) :
    ∃ d : RegDesc, d.base = base ∧ exec c s = .next (s.writeReg p.port d i a n) := by
  obtain ⟨d, -, hbase, hput⟩ := State.putWord_at (s := s) (p := p) h
  exact ⟨d, hbase, by rw [hc, State.guarded_of_awake _ hawake, State.hostWriteWord_open _ hopen, hput]⟩

theorem exec_chkPresetWrite : exec (.chkPresetWrite p u v) s = .next (s.writeChkCfg u v.toNat) := by
  obtain ⟨d, hbase, hexec⟩ := exec_rowWrite (c := .chkPresetWrite p u v) hawake hopen (chk_rows u).1 rfl
  rw [hexec, State.writeReg, hbase]
  rfl

theorem exec_chkFeed : exec (.chkFeed p u v) s = .next (s.writeChkFeed u v.toNat) := by
  obtain ⟨d, hbase, hexec⟩ := exec_rowWrite (c := .chkFeed p u v) hawake hopen (chk_rows u).2.1 rfl
  rw [hexec, State.writeReg, hbase]
  rfl

theorem exec_chkFeed1 : exec (.chkFeed1 p u v) s = .next (s.writeChkFeed1 u v.toNat) := by
  obtain ⟨d, hbase, hexec⟩ := exec_rowWrite (c := .chkFeed1 p u v) hawake hopen (chk_rows u).2.2.1 rfl
  rw [hexec, State.writeReg, hbase]
  rfl

theorem exec_chkLoad : exec (.chkLoad p u v) s = .next (s.writeChkCtrl u v.toNat) := by
  obtain ⟨d, hbase, hexec⟩ := exec_rowWrite (c := .chkLoad p u v) hawake hopen (chk_rows u).2.2.2 rfl
  rw [hexec, State.writeReg, hbase]
  rfl

/-- Every register write of a check unit passes the guard of its unit. -/
theorem exec_chkWrite {c : Instr} (hc : c ∈ [Instr.chkPresetWrite p u v, .chkFeed p u v, .chkFeed1 p u v, .chkLoad p u v]) :
    ∃ act, exec c s = .next (s.chkGuard u act) := by
  simp only [List.mem_cons, List.not_mem_nil, or_false] at hc
  obtain rfl | rfl | rfl | rfl := hc
  exacts [⟨_, exec_chkPresetWrite hawake hopen⟩, ⟨_, exec_chkFeed hawake hopen⟩, ⟨_, exec_chkFeed1 hawake hopen⟩,
    ⟨_, exec_chkLoad hawake hopen⟩]

end Open

end Writes

section Registers
variable {s : State} {u v : Nat} {x : CrcParams}

/-! ### VAL and the parameters -/

theorem State.chkVal_setChkVal : (s.setChkVal u v).chkVal u = v % 2 ^ 64 := State.pair_setPair_same _ _ _ _

theorem State.chkParams_setChkVal : (s.setChkVal u v).chkParams u = s.chkParams u := by
  simp (disch := decide) only [State.chkParams, State.setChkVal, State.fld_setPair_beside, State.flag_setPair_beside,
    State.pair_setPair_beside]

theorem KeepsUnits.setChkVal {t : State} (h : KeepsUnits u s t) : KeepsUnits u s (t.setChkVal u v) :=
  h.setPair (inUnit_pair (by decide)).1 (inUnit_pair (by decide)).2

theorem crcFeed_append (x : CrcParams) (v : Nat) (a b : List Byte) : crcFeed x v (a ++ b) = crcFeed x (crcFeed x v a) b :=
  List.foldl_append

/-! ### A preset (R486) -/

/-- The presets fit the registers of a unit. -/
theorem crcPreset_fits {n : Nat} (h : crcPreset n = some x) :
    x.width < 2 ^ 7 ∧ x.poly < 2 ^ 64 ∧ x.init < 2 ^ 64 ∧ x.xorout < 2 ^ 64 := by
  unfold crcPreset at h
  split at h <;> cases h <;> decide

theorem State.chkParams_chkPreset (hx : x.width < 2 ^ 7 ∧ x.poly < 2 ^ 64 ∧ x.init < 2 ^ 64 ∧ x.xorout < 2 ^ 64) :
    (s.chkPreset u x).chkParams u = x := by
  obtain ⟨hwidth, hpoly, hinit, hxorout⟩ := hx
  have hrefin : ∀ t : State, ((t.setFlag CHK_CFG.REFIN x.refin u).setFlag CHK_CFG.REFOUT x.refout u).flag CHK_CFG.REFIN u = x.refin :=
    fun t => (State.flag_setFld_apart _ (by decide)).trans (State.flag_setFlag_same _ _ _ rfl (by decide))
  rw [State.chkPreset, State.chkLoad, State.chkParams_setChkVal]
  simp (disch := decide) only [State.chkParams, State.fld_setPair_beside, State.flag_setPair_beside,
    State.pair_setPair_beside, State.pair_setPair_same, State.setFlag_eq, State.fld_setFld_apart, State.fld_setFld_same,
    Nat.mod_eq_of_lt hpoly, Nat.mod_eq_of_lt hinit, Nat.mod_eq_of_lt hxorout]
  simp only [← State.setFlag_eq, hrefin, State.flag_setFlag_same CHK_CFG.REFOUT x.refout u rfl (by decide)]
  rw [show CHK_CFG.WIDTH.width = 7 from rfl, Nat.mod_eq_of_lt hwidth]

theorem State.chkVal_chkPreset (hx : x.init < 2 ^ 64) : (s.chkPreset u x).chkVal u = x.init := by
  rw [State.chkPreset, State.chkLoad, State.chkVal_setChkVal, State.pair_setPair_beside _ (by decide), State.pair_setPair_same]
  omega

theorem KeepsUnits.chkPreset : KeepsUnits u s (s.chkPreset u x) := by
  unfold State.chkPreset State.chkLoad State.setChkVal
  simp only [State.setFlag_eq]
  repeat refine KeepsUnits.setPair (inUnit_pair (by decide)).1 (inUnit_pair (by decide)).2 ?_
  repeat refine KeepsUnits.setFld (inUnit_fld (by decide)) ?_
  exact KeepsUnits.refl

/-! ### A write of CHK_CFG without a preset (Table 20-3) -/

/-- The state whose unit has stored WIDTH, where it is one of 1 to 64, REFIN and REFOUT. -/
def State.chkFields (s : State) (u v : Nat) : State :=
  let w := bits v 0 7
  let s := if 1 ≤ w ∧ w ≤ 64 then s.setFld CHK_CFG.WIDTH w u else s
  (s.setFld CHK_CFG.REFIN (bits v 7 1) u).setFld CHK_CFG.REFOUT (bits v 8 1) u

theorem State.fld_chkTrim {f : Fld} (h : ∀ r ∈ [CHK_POLY.POLY, CHK_INIT.INIT, CHK_XOROUT.XOROUT, CHK_VAL.VAL], f.offPair r = true) :
    (s.chkTrim u).fld f u = s.fld f u := by
  simp only [List.forall_mem_cons] at h
  obtain ⟨hpoly, hinit, hxorout, hval, -⟩ := h
  simp only [State.chkTrim, State.fld_setPair_beside _ hpoly, State.fld_setPair_beside _ hinit, State.fld_setPair_beside _ hxorout,
    State.fld_setPair_beside _ hval]

theorem State.fld_chkFields_width : (s.chkFields u v).fld CHK_CFG.WIDTH u =
    if 1 ≤ bits v 0 7 ∧ bits v 0 7 ≤ 64 then bits v 0 7 else s.fld CHK_CFG.WIDTH u := by
  rw [State.chkFields, State.fld_setFld_apart _ (by decide), State.fld_setFld_apart _ (by decide)]
  split
  · exact (State.fld_setFld_same _ _ _ _ (by decide)).trans (Nat.mod_eq_of_lt (bits_lt _ _ _))
  · rfl

theorem State.fld_chkFields_refin : (s.chkFields u v).fld CHK_CFG.REFIN u = bits v 7 1 := by
  rw [State.chkFields, State.fld_setFld_apart _ (by decide), State.fld_setFld_same _ _ _ _ (by decide)]
  exact Nat.mod_eq_of_lt (bits_lt _ _ _)

theorem State.fld_chkFields_refout : (s.chkFields u v).fld CHK_CFG.REFOUT u = bits v 8 1 :=
  (State.fld_setFld_same _ _ _ _ (by decide)).trans (Nat.mod_eq_of_lt (bits_lt _ _ _))

theorem KeepsUnits.chkFields_trimmed : KeepsUnits u s ((s.chkFields u v).chkTrim u) := by
  unfold State.chkTrim
  repeat refine KeepsUnits.setPair (inUnit_pair (by decide)).1 (inUnit_pair (by decide)).2 ?_
  unfold State.chkFields
  refine KeepsUnits.setFld (inUnit_fld (by decide)) (KeepsUnits.setFld (inUnit_fld (by decide)) ?_)
  split
  · exact KeepsUnits.setFld (inUnit_fld (by decide)) KeepsUnits.refl
  · exact KeepsUnits.refl

section Free
variable (hu : 8 ≤ u) (hfree : s.flag CHK_STATUS.BUSY u = false)
include hu hfree

theorem State.writeChkCfg_preset (h : crcPreset (bits v 12 4) = some x) : s.writeChkCfg u v = s.chkPreset u x := by
  rw [State.writeChkCfg, State.chkGuard_free _ hu hfree, h]

theorem State.writeChkCfg_plain (h : crcPreset (bits v 12 4) = none) : s.writeChkCfg u v = (s.chkFields u v).chkTrim u := by
  rw [State.writeChkCfg, State.chkGuard_free _ hu hfree, h]
  rfl

theorem State.writeChkFeed_free : s.writeChkFeed u v = s.setChkVal u (crcFeed (s.chkParams u) (s.chkVal u)
    [BitVec.ofNat 8 v, BitVec.ofNat 8 (v / 256), BitVec.ofNat 8 (v / 65536), BitVec.ofNat 8 (v / 16777216)]) := by
  rw [State.writeChkFeed, State.chkGuard_free _ hu hfree]
  simp only [leBytes, Nat.div_div_eq_div_mul, Nat.reduceMul]
  rfl

theorem State.writeChkFeed1_free :
    s.writeChkFeed1 u v = s.setChkVal u (crcFeed (s.chkParams u) (s.chkVal u) [BitVec.ofNat 8 v]) :=
  State.chkGuard_free _ hu hfree

theorem State.writeChkCtrl_free :
    s.writeChkCtrl u v = if v % 2 = 1 then s.setChkVal u (s.pair CHK_INIT.INIT u) else s :=
  State.chkGuard_free _ hu hfree

theorem State.writeChkPair_free (r : PairReg) :
    s.writeChkPair r u v = s.setPair r (v % 2 ^ s.fld CHK_CFG.WIDTH u) u :=
  State.chkGuard_free _ hu hfree

end Free

end Registers

/-! ### A write of VAL whole (R6, R488) -/

section Val
variable {s : State} {p : Path} {u : Fin 32} {x : Nat}

theorem chkVal_row : ∀ u : Fin 32, inArea (CHK_VAL.VAL.addr u + 4) = false ∧ (regAt (CHK_VAL.VAL.addr u + 4)).any (fun r =>
    decide (r.1.base = 0x40020 ∧ r.1.pair = true ∧ r.2.1 = u.val ∧ r.2.2 = true)) = true := by
  decide +kernel

/-- The high half of VAL, written through a path that has staged the low half, writes both. -/
theorem exec_pairHiWrite_chkVal {low : Nat} (v : Word) (hawake : s.awake = true) (hopen : s.pathOpen p = true)
    (hlow : s.stagedLow p (CHK_VAL.VAL.addr u) = some low) :
    exec (.pairHiWrite p (CHK_VAL.VAL.addr u + 4) v) s =
      .next ((s.unstage p (CHK_VAL.VAL.addr u)).writeChkPair CHK_VAL.VAL u (low + 2 ^ 32 * v.toNat)) := by
  obtain ⟨harea, hany⟩ := chkVal_row u
  obtain ⟨⟨d, i, hi⟩, hreg, hd⟩ := (Option.any_eq_true _ _).mp hany
  obtain ⟨hbase, hpair, rfl, rfl⟩ : d.base = 0x40020 ∧ d.pair = true ∧ i = u.val ∧ hi = true := of_decide_eq_true hd
  rw [exec_pairHiWrite hawake v hreg, State.hostWriteWord_open _ hopen, State.putWord_pairHigh harea _ hreg hpair,
    Nat.add_sub_cancel, State.commitPair_staged _ hlow, State.writePair, hbase]
  rfl

theorem halves_of_lt (h : x < 2 ^ 64) : (BitVec.ofNat 32 x).toNat + 2 ^ 32 * (BitVec.ofNat 32 (x / 2 ^ 32)).toNat = x := by
  rw [BitVec.toNat_ofNat, BitVec.toNat_ofNat, Nat.mod_eq_of_lt (b := 2 ^ 32) (a := x / 2 ^ 32) (by omega)]
  exact Nat.mod_add_div x (2 ^ 32)

end Val

/-- Settles O29: a preset fits the registers of a unit (`crcPreset_fits`), which hold it beside one another and apart from those of the
other units (`KeepsUnits.other`); the check values are computed. -/
theorem checkPresets : Obligations.CheckPresets := by
  unfold Obligations.CheckPresets
  refine ⟨fun s p u v x hawake hopen hu hfree hx => ⟨s.chkPreset u x, ?_, State.chkParams_chkPreset (crcPreset_fits hx),
      State.chkVal_chkPreset (crcPreset_fits hx).2.2.1, fun w hw => KeepsUnits.chkPreset.other (Fin.val_ne_of_ne hw)⟩,
    fun s p u v hawake hopen hu hfree hx => ⟨(s.chkFields u v.toNat).chkTrim u, ?_, ?_, ?_, ?_,
      fun w hw => KeepsUnits.chkFields_trimmed.other (Fin.val_ne_of_ne hw)⟩, rfl, rfl, rfl, rfl, rfl, ?_⟩
  · rw [exec_chkPresetWrite hawake hopen, State.writeChkCfg_preset hu hfree hx]
  · rw [exec_chkPresetWrite hawake hopen, State.writeChkCfg_plain hu hfree hx]
  · exact (State.fld_chkTrim (by decide)).trans State.fld_chkFields_width
  · exact (State.fld_chkTrim (by decide)).trans State.fld_chkFields_refin
  · exact (State.fld_chkTrim (by decide)).trans State.fld_chkFields_refout
  · decide +kernel

/-- Settles O30: each register of a free unit acts on VAL by itself (`State.writeChkFeed_free` and its like); bytes are fed one after
another from what the parameters and VAL hold. -/
theorem checkFeeding : Obligations.CheckFeeding := by
  unfold Obligations.CheckFeeding
  refine ⟨fun s p u v hawake hopen hu hfree => ⟨?_, ?_, fun hload => ?_, fun hkeep => ?_, fun x hwidth hx hstaged => ?_⟩,
    fun s u x => ⟨State.chkVal_setChkVal, State.chkParams_setChkVal⟩, crcFeed_append⟩
  · rw [exec_chkFeed hawake hopen, State.writeChkFeed_free hu hfree]
  · rw [exec_chkFeed1 hawake hopen, State.writeChkFeed1_free hu hfree]
  · rw [exec_chkLoad hawake hopen, State.writeChkCtrl_free hu hfree, if_pos hload]
  · rw [exec_chkLoad hawake hopen, State.writeChkCtrl_free hu hfree, if_neg (by omega)]
  · have hlow : s.stagedLow p (CHK_VAL.VAL.addr u) = some (BitVec.ofNat 32 x).toNat := congrArg (Option.map _) hstaged
    rw [exec_pairHiWrite_chkVal _ hawake hopen hlow, halves_of_lt hx, State.writeChkPair_free (s := s.unstage p _) hu hfree]
    refine ⟨_, rfl, State.chkVal_setChkVal.trans ?_, State.chkParams_setChkVal⟩
    exact (Nat.mod_eq_of_lt ((Nat.mod_le _ _).trans_lt hx)).trans (Nat.mod_eq_of_lt hwidth)

/-- Settles O31: every register write of a unit passes its guard (`exec_chkWrite`), which decides by the unit and BUSY alone. -/
theorem checkGuards : Obligations.CheckGuards := by
  unfold Obligations.CheckGuards
  intro s p u v hawake hopen c hc
  obtain ⟨act, hact⟩ := exec_chkWrite hawake hopen hc
  rw [hact]
  exact ⟨fun hinternal => by rw [State.chkGuard_internal _ hinternal], fun hhost hbusy => by rw [State.chkGuard_busy _ hhost hbusy]⟩

end Sys2Proof.Machine

/-! SUPPORT. The block of check units is none of the registers in which writes of deck and of external memory report (R404, R409). -/

namespace Sys2Proof.Machine

section ChkBlock
variable {s t : State}

/-- The words of the block of check units read as before. -/
def KeepsChk (s t : State) : Prop := ∀ a rst, 0x40000 ≤ a → a < 0x50000 → t.word a rst = s.word a rst

theorem KeepsChk.congr {u : State} (h : KeepsChk s t) (hregs : u.regs = t.regs) : KeepsChk s u :=
  fun a rst hlo hhi => (State.word_congr hregs).trans (h a rst hlo hhi)

theorem KeepsChk.setFld {f : Fld} {v i : Nat} (hf : 0x50000 ≤ f.base) (h : KeepsChk s t) : KeepsChk s (t.setFld f v i) :=
  fun a rst hlo hhi => (State.word_setFld_ne t v rst (by rw [Fld.addr]; omega)).trans (h a rst hlo hhi)

theorem KeepsChk.setPair {p : PairReg} {v i : Nat} (hp : 0x50000 ≤ p.base) (h : KeepsChk s t) : KeepsChk s (t.setPair p v i) :=
  fun a rst hlo hhi => (State.word_setPair_ne t v rst (by rw [PairReg.addr]; omega) (by rw [PairReg.addr]; omega)).trans (h a rst hlo hhi)

theorem KeepsChk.raise {code : Nat} {fs : List ByteField} (hfs : ∀ f ∈ fs, 16 ≤ f.1 ∧ f.1 + f.2.1 ≤ 32) (h : KeepsChk s t) :
    KeepsChk s (t.raise code fs) := fun a rst hlo hhi => by
  have hword : ¬ reportReg a := by
    simp only [reportReg, Fld.addr, VIA_CNT_DROP.NOROUTE]
    omega
  exact ((State.raise_filed hfs).reported.regs a rst hword).trans (h a rst hlo hhi)

theorem KeepsChk.foldl {β : Type} {g : State → β → State} (l : List β) (hg : ∀ u x, KeepsChk s u → KeepsChk s (g u x))
    (h : KeepsChk s t) : KeepsChk s (l.foldl g t) :=
  List.foldlRecOn (motive := KeepsChk s) l _ h fun u hu x _ => hg u x hu

theorem KeepsChk.deckUc {w cls : Nat} (h : KeepsChk s t) : KeepsChk s (t.deckUc w cls) := by
  unfold State.deckUc
  simp only [State.setFlag_eq, State.bump]
  refine KeepsChk.raise (by simp) ?_
  repeat refine KeepsChk.setFld (by decide) ?_
  exact h

theorem KeepsChk.lineUc {l port : Nat} (h : KeepsChk s t) : KeepsChk s (t.lineUc l port) := by
  have hset : ∀ c a, KeepsChk s (((t.bump MEM_CH_UC.UC c).setPair MEM_ERR_ADDR.ADDR a).setFld MEM_ERR_INFO.PORT port) := fun c a =>
    KeepsChk.setFld (by decide) (KeepsChk.setPair (by decide) (KeepsChk.setFld (by decide) h))
  unfold State.lineUc
  dsimp only
  split
  · split
    · exact KeepsChk.raise (by simp) (hset _ _)
    · exact hset _ _
  · exact KeepsChk.raise (by simp) (hset _ _)

theorem KeepsChk.deckWrite {a : Nat} {bs : List Byte} {cls : Nat → Nat} (h : KeepsChk s t) : KeepsChk s (t.deckWrite a bs cls) :=
  (KeepsChk.foldl _ (fun _ _ => KeepsChk.deckUc) h).congr rfl

theorem KeepsChk.memPut {ext : Bool} {a : Nat} {bs : List Byte} (h : KeepsChk s t) : KeepsChk s (t.memPut ext a bs) :=
  h.congr (by cases ext <;> rfl)

theorem KeepsChk.extWrite {a port : Nat} {bs : List Byte} (h : KeepsChk s t) : KeepsChk s (t.extWrite a bs port) := by
  unfold State.extWrite
  split
  · refine KeepsChk.congr (KeepsChk.foldl _ (fun _ _ => KeepsChk.memPut) (KeepsChk.memPut ?_)) rfl
    exact KeepsChk.foldl _ (fun _ _ => KeepsChk.lineUc) h
  · exact h

theorem KeepsChk.chkWrite {r : ChkRun} {bs : List Byte} (h : KeepsChk s t) : KeepsChk s (t.chkWrite r bs) := by
  unfold State.chkWrite
  split
  · exact h.deckWrite
  · exact h.extWrite
  · exact h

/-- What a run feeds and writes leaves the unit's WIDTH. -/
theorem State.fld_chkProceed_width {c : Cmd} {r : ChkRun} {k : Nat} (hunit : r.unit < 256) :
    (s.chkProceed c r k).fld CHK_CFG.WIDTH r.unit = s.fld CHK_CFG.WIDTH r.unit := by
  have hval : ∀ (t : State) v, (t.setChkVal r.unit v).fld CHK_CFG.WIDTH r.unit = t.fld CHK_CFG.WIDTH r.unit :=
    fun t v => State.fld_setPair_beside v (by decide)
  have hwrite : ∀ (t : State) bs, (t.chkWrite r bs).fld CHK_CFG.WIDTH r.unit = t.fld CHK_CFG.WIDTH r.unit := fun t bs => by
    have hkeeps : KeepsChk t (t.chkWrite r bs) := KeepsChk.chkWrite fun _ _ _ _ => rfl
    have haddr : CHK_CFG.WIDTH.addr r.unit = 0x40000 + 0x40 * r.unit := rfl
    rw [State.fld, hkeeps _ _ (by omega) (by omega), State.fld]
  have hload : ∀ t : State, (if r.cont then t else t.chkLoad r.unit).fld CHK_CFG.WIDTH r.unit = t.fld CHK_CFG.WIDTH r.unit := fun t => by
    split
    · rfl
    · exact hval t _
  have hout : ∀ (n : Nat) (t : State) bs, (if 0 < n then t.chkWrite r bs else t).fld CHK_CFG.WIDTH r.unit = t.fld CHK_CFG.WIDTH r.unit :=
    fun n t bs => by
      split
      · exact hwrite t bs
      · rfl
  exact (hout _ _ _).trans ((hval _ _).trans (hload s))

theorem chkRunOf_unit_lt (c : Cmd) : (chkRunOf c).unit < 256 := leAt_lt _ _ 1

theorem State.chkFed_chkProceed {c : Cmd} {k : Nat} :
    (s.chkProceed c (chkRunOf c) k).chkFed (chkRunOf c) = s.chkFed (chkRunOf c) := by
  simp only [State.chkFed, crcLen, State.chkParams, State.fld_chkProceed_width (chkRunOf_unit_lt c)]

end ChkBlock

end Sys2Proof.Machine

/-! THEOREMS. CMD_CHK_RUN (R489 to R491). -/

namespace Sys2Proof.Machine

section Runs
variable {s : State} {q tag op : Nat} {c : Cmd}

theorem State.chkRun_none (h : s.cmd q tag 0x1601 = none) : s.chkRun q tag op = s := by rw [State.chkRun, h]

section Started
variable (h : s.cmd q tag 0x1601 = some c)
include h

theorem State.chkRun_other (hop : (chkRunOf c).op ≠ op) : s.chkRun q tag op = s := by
  rw [State.chkRun, h]
  exact if_pos hop

variable (hop : (chkRunOf c).op = op)
include hop

theorem State.chkRun_internal (hunit : (chkRunOf c).unit < 8) : s.chkRun q tag op = s.finish c 0x1601 := by
  rw [State.chkRun, h]
  exact (if_neg (not_not_intro hop)).trans (if_pos hunit)

variable (hunit : 8 ≤ (chkRunOf c).unit)
include hunit

theorem State.chkRun_short (hcheck : 2 ≤ op) (hlen : (chkRunOf c).len < crcLen (s.chkParams (chkRunOf c).unit)) :
    s.chkRun q tag op = (s.setFlag CHK_STATUS.BUSY false (chkRunOf c).unit).finish c 0x1604 := by
  rw [State.chkRun, h]
  exact (if_neg (not_not_intro hop)).trans ((if_neg (by omega)).trans (if_pos ⟨hcheck, hlen⟩))

section Long
variable (hlen : op < 2 ∨ crcLen (s.chkParams (chkRunOf c).unit) ≤ (chkRunOf c).len)
include hlen

theorem State.chkRun_overlaps (hmeet : (chkRunOf c).overlap (s.chkOut (chkRunOf c)) = true) :
    s.chkRun q tag op = (s.setFlag CHK_STATUS.BUSY false (chkRunOf c).unit).finish c 0x1602 := by
  have hlong : ¬ (2 ≤ op ∧ (chkRunOf c).len < crcLen (s.chkParams (chkRunOf c).unit)) := by omega
  simp only [State.chkRun, h, hop, ne_eq, not_true_eq_false, if_false, not_lt.mpr hunit, hlong, hmeet, if_true]

variable (hapart : (chkRunOf c).overlap (s.chkOut (chkRunOf c)) = false)
include hapart

/-- The run over its whole source: a CHECK whose trailing CRC differs sets MISMATCH. -/
theorem State.chkRun_whole (hstop : s.chkStopAt (chkRunOf c) = none) :
    let r := chkRunOf c
    let u := s.chkProceed c r (max r.len (s.chkOut r))
    s.chkRun q tag op =
      if 2 ≤ op ∧ (s.chkSource c r).drop (s.chkFed r) ≠ crcBytes (u.chkParams r.unit) (u.chkResult r.unit) then
        (u.setFlag CHK_STATUS.MISMATCH true r.unit).chkEnd c r (s.chkFed r) 0x1603 0
      else u.chkEnd c r (s.chkFed r) stOk 0 := by
  have hlong : ¬ (2 ≤ op ∧ (chkRunOf c).len < crcLen (s.chkParams (chkRunOf c).unit)) := by omega
  simp only [State.chkRun, h, hop, ne_eq, not_true_eq_false, if_false, not_lt.mpr hunit, hlong, hapart, Bool.false_eq_true, hstop]

/-- The run stops before a byte that may not be read or written. -/
theorem State.chkRun_refused {k : Nat} (hstop : s.chkStopAt (chkRunOf c) = some (k, false)) :
    s.chkRun q tag op =
      (s.chkProceed c (chkRunOf c) k).chkEnd c (chkRunOf c) (min k ((s.chkProceed c (chkRunOf c) k).chkFed (chkRunOf c))) 0x1602 0 := by
  have hlong : ¬ (2 ≤ op ∧ (chkRunOf c).len < crcLen (s.chkParams (chkRunOf c).unit)) := by omega
  simp only [State.chkRun, h, hop, ne_eq, not_true_eq_false, if_false, not_lt.mpr hunit, hlong, hapart, Bool.false_eq_true, hstop]

/-- The run stops before an uncorrectable byte, which is reported. -/
theorem State.chkRun_uncorrectable {k : Nat} (hstop : s.chkStopAt (chkRunOf c) = some (k, true)) :
    ∃ (t : State) (addr : Nat),
      s.chkRun q tag op = t.chkEnd c (chkRunOf c) (min k ((s.chkProceed c (chkRunOf c) k).chkFed (chkRunOf c))) 0x1605 addr ∧
      ((chkRunOf c).src = 1 → addr = ((chkRunOf c).from' + k) / 8 * 8 ∧
        t = (s.chkProceed c (chkRunOf c) k).deckUc (((chkRunOf c).from' + k) / 8) 3) := by
  have hlong : ¬ (2 ≤ op ∧ (chkRunOf c).len < crcLen (s.chkParams (chkRunOf c).unit)) := by omega
  simp only [State.chkRun, h, hop, ne_eq, not_true_eq_false, if_false, not_lt.mpr hunit, hlong, hapart, Bool.false_eq_true, hstop, if_true]
  exact ⟨_, _, rfl, fun hsrc => ⟨if_pos hsrc, if_pos hsrc⟩⟩

end Long

end Started

end Runs

section Ops
variable {s : State} {q : Fin 24} {tag : Nat}

theorem exec_chkRun (hawake : s.awake = true) {e : Instr × Nat}
    (he : e ∈ [(Instr.chkRunCompute q tag, 0), (.chkRunAppend q tag, 1), (.chkRunCheck q tag, 2), (.chkRunCheckStrip q tag, 3)]) :
    exec e.1 s = .next (s.chkRun q tag e.2) := by
  simp only [List.mem_cons, List.not_mem_nil, or_false] at he
  obtain rfl | rfl | rfl | rfl := he <;> exact congrArg _ (State.guarded_of_awake _ hawake)

end Ops

/-- Settles O32: the tests of a run in their order (`State.chkRun_internal` and its like); where it stops, what it has fed is counted by
the WIDTH that it leaves (`State.chkFed_chkProceed`). It stops before the first bad byte (log entry 48), with the statuses of R495. -/
theorem checkRuns : Obligations.CheckRuns := by
  unfold Obligations.CheckRuns
  intro s q tag hawake e he
  rw [exec_chkRun hawake he]
  refine ⟨fun hnone => by rw [State.chkRun_none hnone], fun c hc => ⟨fun hother => by rw [State.chkRun_other hc hother],
    fun hop hunit => by rw [State.chkRun_internal hc hop hunit], fun hop hunit hcheck hlen => ?_, fun hop hunit hlong => ?_⟩⟩
  · rw [State.chkRun_short hc hop hunit (hop ▸ hcheck) hlen]
  · rw [hop] at hlong ⊢
    refine ⟨fun hmeet => by rw [State.chkRun_overlaps hc hop hunit hlong hmeet], fun hapart hstop => ⟨fun hgood => ?_, fun hcheck hbad => ?_⟩,
      fun k hapart hstop => ?_, fun k hapart hstop => ?_⟩
    · rw [State.chkRun_whole hc hop hunit hlong hapart hstop, if_neg fun hfails => hgood.elim (by omega) hfails.2]
    · rw [State.chkRun_whole hc hop hunit hlong hapart hstop, if_pos ⟨hcheck, hbad⟩]
    · rw [State.chkRun_refused hc hop hunit hlong hapart hstop, State.chkFed_chkProceed]
    · obtain ⟨t, addr, hrun, hsrc⟩ := State.chkRun_uncorrectable hc hop hunit hlong hapart hstop
      exact ⟨t, addr, by rw [hrun, State.chkFed_chkProceed], hsrc⟩

end Sys2Proof.Machine

/-! THEOREMS. GPIO, and a device reset by a register write (R516, R517). -/

namespace Sys2Proof.Machine

section Gpio
variable {s : State} {p : Path} {v : Word}

theorem glb_rows : registerAt 0x88 0x88 0 = true ∧ registerAt 0x8C 0x8C 0 = true ∧ registerAt 0x18 0x18 0 = true := by decide +kernel

section Open
variable (hawake : s.awake = true) (hopen : s.pathOpen p = true)
include hawake hopen

theorem exec_gpioSet : exec (.gpioSet p v) s = .next (s.setFld GLB_GPIO_OUT.OUT (s.fld GLB_GPIO_OUT.OUT ||| v.toNat)) := by
  obtain ⟨d, hbase, hexec⟩ := exec_rowWrite (c := .gpioSet p v) hawake hopen glb_rows.1 rfl
  rw [hexec, State.writeReg, hbase]
  rfl

theorem exec_gpioClr : exec (.gpioClr p v) s =
    .next (s.setFld GLB_GPIO_OUT.OUT (s.fld GLB_GPIO_OUT.OUT - (s.fld GLB_GPIO_OUT.OUT &&& v.toNat))) := by
  obtain ⟨d, hbase, hexec⟩ := exec_rowWrite (c := .gpioClr p v) hawake hopen glb_rows.2.1 rfl
  rw [hexec, State.writeReg, hbase]
  rfl

theorem exec_glbResetWrite :
    exec (.glbResetWrite p v) s = .next (if v.toNat % 65536 = 0x7240 then s.hostReset else s) := by
  obtain ⟨d, hbase, hexec⟩ := exec_rowWrite (c := .glbResetWrite p v) hawake hopen glb_rows.2.2 rfl
  rw [hexec, State.writeReg, hbase]
  rfl

end Open

/-- A write of the output bits stores each of the 32 bits. -/
theorem testBit_setGpio (n : Nat) {i : Nat} (hi : i < 32) :
    ((s.setFld GLB_GPIO_OUT.OUT n).fld GLB_GPIO_OUT.OUT).testBit i = n.testBit i := by
  rw [State.fld_setFld_same _ _ _ _ (by decide), show GLB_GPIO_OUT.OUT.width = 32 from rfl, Nat.testBit_mod_two_pow]
  simp [hi]

end Gpio

/-- Settles O33: the three rows are writes of GLB_GPIO_SET, GLB_GPIO_CLR and GLB_RESET; the output bits stand in a register of their own. -/
theorem gpioAndReset : Obligations.GpioAndReset := by
  unfold Obligations.GpioAndReset
  intro s p v hawake hopen
  rw [exec_gpioSet hawake hopen, exec_gpioClr hawake hopen, exec_glbResetWrite hawake hopen]
  refine ⟨⟨_, rfl, fun i hi => ?_, fun a rst ha => State.word_setFld_ne s _ rst ha, rfl⟩,
    ⟨_, rfl, fun i hi => ?_, fun a rst ha => State.word_setFld_ne s _ rst ha, rfl⟩,
    fun hkey => by rw [if_pos hkey], fun hkey => by rw [if_neg hkey]⟩
  · rw [testBit_setGpio _ hi, Nat.testBit_or]
  · rw [testBit_setGpio _ hi, testBit_sub_and]

end Sys2Proof.Machine

/-! THEOREMS. Closures: held, accepted by quorum, compared after acceptance (R362, R425, R428). -/

namespace Sys2Proof.Machine

section Closures
variable {s u : State} {k i : Nat} {m : Msg} {c d : Closure} {x : Sched}

theorem onClosure_none (h : s.takeMsg 0x20 = none) : onClosure s = s := by rw [onClosure, h]

section Taken
variable (h : s.takeMsg 0x20 = some (k, m, u))
include h

theorem onClosure_foreign (hsrc : u.keyOf m.src = none) : onClosure s = u.bump RED_FOREIGN.FOREIGN := by
  rw [onClosure, h]
  simp only [hsrc]

theorem onClosure_malformed (hsrc : u.keyOf m.src = some i) (hc : closureOf i m.payload = none) : onClosure s = u := by
  rw [onClosure, h]
  simp only [hsrc, hc]

theorem onClosure_listed (hsrc : u.keyOf m.src = some i) (hc : closureOf i m.payload = some c) :
    onClosure s = u.holdClosure c := by
  rw [onClosure, h]
  simp only [hsrc, hc]

end Taken

/-! ### A closure of a listed keystone (R428) -/

theorem State.holdClosure_still (hcad : s.cadence = false) : s.holdClosure c = s := if_pos (by simp [hcad])

/-- The closures that agree with one, itself among them. -/
def State.votesFor (s : State) (c : Closure) : List Closure := (s.red.closures ++ [c]).filter c.agrees

/-- The state of a device that takes a closure with those that agree. -/
def State.closureTaken (s : State) (c : Closure) : State :=
  let votes := s.votesFor c
  let agree := votes.map (·.key)
  let s : State := { s with red := { s.red with
    closures := (s.red.closures ++ [c]).filter fun d => d.frame ≠ c.frame
    accepted := (c :: s.red.accepted).take 8
    differ := s.red.differ.filter fun k => k ∉ agree } }
  (s.setFld RED_STATUS.LEADER (leaderOf votes)).setFld RED_STATUS.AGREE (maskWhere 3 fun k => decide (k ∈ agree))

section Cadence
variable (hcad : s.cadence = true)
include hcad

theorem State.holdClosure_compared (h : s.red.accepted.find? (fun d => d.frame = c.frame) = some d) :
    s.holdClosure c = s.compareClosure c d := by
  rw [State.holdClosure, h]
  exact if_neg (by simp [hcad])

section Unaccepted
variable (h : s.red.accepted.find? (fun d => d.frame = c.frame) = none)
include h

theorem State.holdClosure_repeated (hheld : ∃ d ∈ s.red.closures, d.key = c.key ∧ d.frame = c.frame) : s.holdClosure c = s := by
  rw [State.holdClosure, h]
  exact (if_neg (by simp [hcad])).trans (if_pos (by simpa using hheld))

/-- The first closure of a keystone for a frame waits for its quorum. -/
theorem State.holdClosure_first (hfirst : ∀ d ∈ s.red.closures, d.key = c.key → d.frame ≠ c.frame) :
    s.holdClosure c = if (s.votesFor c).length < s.quorum then { s with red := { s.red with closures := s.red.closures ++ [c] } }
      else (s.closureTaken c).acceptClosure c := by
  rw [State.holdClosure, h]
  refine (if_neg (by simp [hcad])).trans ((if_neg (by simpa using hfirst)).trans ?_)
  exact if_congr (by rw [List.length_map]; rfl) rfl rfl

end Unaccepted

end Cadence

theorem State.closureTaken_accepted : (s.closureTaken c).red.accepted.head? = some c := rfl

theorem State.closureTaken_closures (hd : d ∈ (s.closureTaken c).red.closures) : d.frame ≠ c.frame :=
  of_decide_eq_true (List.mem_filter.mp hd).2

theorem State.word_closureTaken {a rst : Nat} (h : a ≠ RED_STATUS.AGREE.addr 0) : (s.closureTaken c).word a rst = s.word a rst := by
  have hleader : a ≠ RED_STATUS.LEADER.addr 0 := h
  rw [State.closureTaken, State.word_setFld_ne _ _ _ h, State.word_setFld_ne _ _ _ hleader]
  rfl

/-! ### After acceptance (R428) -/

/-- A closure that agrees ends the episode of its keystone, and shows in AGREE where it is of the last closure accepted. -/
theorem State.compareClosure_agrees (h : c.agrees d = true) : ∃ t : State, s.compareClosure c d = t ∧ c.key ∉ t.red.differ ∧
    t.cad = s.cad ∧ t.red.accepted = s.red.accepted ∧ t.red.closures = s.red.closures := by
  have hends : c.key ∉ s.red.differ.filter (· ≠ c.key) := by simp
  rw [State.compareClosure, if_pos h]
  dsimp only
  split <;> exact ⟨_, rfl, hends, rfl, rfl, rfl⟩

theorem State.compareClosure_differs (h : c.agrees d = false) : s.compareClosure c d =
    if c.key ∈ s.red.differ then s.bump RED_VOTE_CNT.DISAGREE
    else State.raise { s.bump RED_VOTE_CNT.DISAGREE with red := { s.red with differ := c.key :: s.red.differ } } 0x1401
      [(16, 1, c.key), (24, 8, c.frame)] := by
  rw [State.compareClosure, if_neg (by simp [h])]
  rfl

/-! ### Acceptance (R362) -/

theorem State.acceptClosure_ignored (h : c.frame ≤ s.frame) :
    s.acceptClosure c = { s with cad := { s.cad with accepted := some c.frame } } := if_pos h

theorem State.acceptClosure_newer (h : s.frame < c.frame) :
    let t := State.bumpPair { s with cad := { s.cad with accepted := some c.frame } } LDG_ACCEPTED.ACCEPTED
    s.acceptClosure c = if c.start < s.now then t.missClosure c else t.scheduleClosure c := if_neg (Nat.not_le.mpr h)

/-- A close, due or not, leaves what is scheduled, but that its window may be closed. -/
theorem State.next_closeWindow {P : Prop} [Decidable P] (h : s.cad.next = some x) :
    ∃ closed, (if P then s.closeWindow else s).cad.next = some { x with closed := closed } := by
  split
  · cases hclosed : x.closed with
    | true => exact ⟨x.closed, by rw [State.closeWindow_closed h hclosed, h]⟩
    | false => exact ⟨true, State.closeWindow_open h hclosed⟩
  · exact ⟨x.closed, h⟩

/-- The state with the frame of a closure scheduled at its S. -/
def State.withNext (s : State) (c : Closure) (ok closed : Bool) : State :=
  let s : State := { s with cad := { s.cad with next := some ⟨c.frame, c.start, c.gen, ok, closed, false⟩ } }
  (s.setPair TIM_NEXT.NEXT c.start).setFld TIM_CAD_STATUS.STATE 1

theorem State.scheduleClosure_closes : ∃ (u : State) (ok closed : Bool), s.scheduleClosure c =
    if c.start ≤ (u.withNext c ok closed).now + commitLead then (u.withNext c ok closed).closeWindow else u.withNext c ok closed :=
  ⟨_, _, _, rfl⟩

theorem State.next_scheduleClosure :
    ∃ ok closed, (s.scheduleClosure c).cad.next = some ⟨c.frame, c.start, c.gen, ok, closed, false⟩ := by
  obtain ⟨u, ok, closed, heq⟩ := State.scheduleClosure_closes (s := s) (c := c)
  rw [heq]
  exact ⟨ok, State.next_closeWindow (s := u.withNext c ok closed) rfl⟩

theorem exec_closure (hawake : s.awake = true) : exec .closure s = .next (onClosure s) :=
  congrArg _ (State.guarded_of_awake _ hawake)

end Closures

/-- Settles O37: a closure is held until its quorum stands (`State.holdClosure_first`), accepted by where its frame and its S lie
(`State.acceptClosure_newer`), and compared from then on; a second one of a keystone is log entry 101, an S equal to wall time is
still scheduled by log entry 102. -/
theorem closuresAccepted : Obligations.ClosuresAccepted := by
  unfold Obligations.ClosuresAccepted
  intro s hawake
  rw [exec_closure hawake]
  refine ⟨fun hnone => by rw [onClosure_none hnone], fun k m u htaken => ⟨fun hsrc => by rw [onClosure_foreign htaken hsrc],
    fun i hsrc hc => by rw [onClosure_malformed htaken hsrc hc], fun i c hsrc hc => ?_⟩,
    fun c => ⟨State.acceptClosure_ignored, fun hnewer => ⟨fun hpast => ?_, fun hahead => ?_⟩, fun _ => State.next_scheduleClosure⟩⟩
  · rw [onClosure_listed htaken hsrc hc]
    refine ⟨fun hstill => by rw [State.holdClosure_still hstill], fun hcad hfind => ⟨fun hheld => ?_,
      fun hfirst => ⟨fun hshort => ?_, fun hquorum => ?_⟩⟩,
      fun hcad d hfind => ⟨fun hagrees => ?_, fun hdiffers hepisode => ?_, fun hdiffers hnew => ?_⟩⟩
    · rw [State.holdClosure_repeated hcad hfind hheld]
    · rw [State.holdClosure_first hcad hfind hfirst]
      exact congrArg _ (if_pos hshort)
    · rw [State.holdClosure_first hcad hfind hfirst]
      exact ⟨u.closureTaken c, congrArg _ (if_neg (Nat.not_lt.mpr hquorum)), State.closureTaken_accepted,
        fun d hd => State.closureTaken_closures hd, rfl, rfl, rfl, fun a rst ha => State.word_closureTaken ha⟩
    · rw [State.holdClosure_compared hcad hfind]
      obtain ⟨t, ht, hends, hcad', haccepted, hclosures⟩ := State.compareClosure_agrees (s := u) hagrees
      exact ⟨t, congrArg _ ht, hends, hcad', haccepted, hclosures⟩
    · rw [State.holdClosure_compared hcad hfind, State.compareClosure_differs hdiffers, if_pos hepisode]
    · rw [State.holdClosure_compared hcad hfind, State.compareClosure_differs hdiffers, if_neg hnew]
  · rw [State.acceptClosure_newer hnewer, if_pos hpast]
  · rw [State.acceptClosure_newer hnewer, if_neg (Nat.not_lt.mpr hahead)]

end Sys2Proof.Machine

/-! THEOREMS. Leases: acknowledgements, expiry, claims and handovers (R431, R433 to R435, R439, R440). -/

namespace Sys2Proof.Machine

section Leases
variable {s u : State} {k n : Nat} {m : Msg} {e : Fin 16} {q : Fin 24} {tag t : Nat} {c : Cmd} {o : Handover}

/-! ### Acknowledgements (R431, R439) -/

/-- A handover of entry `n` is done: a renewal after its claim has gathered PIERS acknowledgements. -/
def State.handoverDone (s : State) (n : Nat) (x : SegSt) : Prop :=
  ∃ h f, s.red.handover = some h ∧ h.seg = n ∧ h.claim = some f ∧ f < x.named ∧ s.fld RED_SEG_PIERS.PIERS n ≤ x.acks + 1

/-- What an acknowledgement that counts does to a handover. -/
def State.ackTaken (s : State) (n : Nat) (x : SegSt) : State :=
  match s.red.handover with
  | some h => if h.seg = n ∧ h.claim.any (· < x.named) ∧ s.fld RED_SEG_PIERS.PIERS n ≤ x.acks + 1 then s.endHandover stOk else s
  | none => s

theorem State.ackTaken_done {x : SegSt} (h : s.handoverDone n x) : s.ackTaken n x = s.endHandover stOk := by
  obtain ⟨h, f, hover, hseg, hclaim, hnamed, hpiers⟩ := h
  rw [State.ackTaken, hover]
  exact if_pos ⟨hseg, by simpa [hclaim] using hnamed, hpiers⟩

theorem State.ackTaken_open {x : SegSt} (h : ¬ s.handoverDone n x) : s.ackTaken n x = s := by
  cases hover : s.red.handover with
  | none => rw [State.ackTaken, hover]
  | some o =>
    rw [State.ackTaken, hover]
    refine if_neg fun ⟨hseg, hclaim, hpiers⟩ => h ?_
    obtain ⟨f, hf, hnamed⟩ := (Option.any_eq_true _ _).mp hclaim
    exact ⟨o, f, hover, hseg, hf, of_decide_eq_true hnamed, hpiers⟩

theorem onLeaseAck_none (h : s.takeMsg 0x22 = none) : onLeaseAck s = s := by rw [onLeaseAck, h]

section Ack
variable (h : s.takeMsg 0x22 = some (k, m, u))
include h

theorem onLeaseAck_noEntry (hentry : u.endEntry (beAt m.payload 0 2) = none) : onLeaseAck s = u := by
  rw [onLeaseAck, h]
  simp only [hentry]

variable (hentry : u.endEntry (beAt m.payload 0 2) = some n)
include hentry

/-- An acknowledgement counts where it is the holder's, of its epoch and of the frame it last named. -/
theorem onLeaseAck_entry : onLeaseAck s =
    if m.payload.length ≠ 16 ∨ u.fld RED_SEG_STATUS.STATE n ≠ segHolder ∨ beAt m.payload 4 4 ≠ u.fld RED_SEG_EPOCH.EPOCH n ∨
      beAt m.payload 8 8 ≠ (u.seg n).named then u
    else (u.setSeg n { u.seg n with acks := (u.seg n).acks + 1, noAck := false }).ackTaken n (u.seg n) := by
  rw [onLeaseAck, h]
  simp only [hentry]
  rfl

end Ack

/-! ### Expiry and claims (R433 to R435, R440) -/

/-- A tracked lease has gone without renewal for GRACE (R433). -/
def State.leaseLapsed (s : State) (e : Nat) : Prop :=
  ∃ t, (s.seg e).due = some t ∧ s.flag RED_SEG_CFG.EN e = true ∧ (s.seg e).view = 1 ∧ t + s.fld RED_CFG.GRACE * us ≤ s.clock

/-- The state in which the view of an entry has expired. -/
def State.viewLapsed (s : State) (e : Nat) : State := s.setSeg e { s.seg e with
  view := 2, due := none, claimAt := if s.flag RED_SEG_STATUS.LAST e then some (s.frame + 4) else none }

theorem onLeaseExpiry_tracked (h : ¬ s.leaseLapsed e) : onLeaseExpiry e s = s := by
  unfold onLeaseExpiry
  dsimp only
  split
  · rfl
  · next t hdue =>
    refine if_pos ?_
    by_contra hno
    simp only [not_or, not_not, Bool.not_eq_true', Bool.not_eq_false, not_lt, ne_eq] at hno
    exact h ⟨t, hdue, hno⟩

theorem onLeaseExpiry_lapsed (h : s.leaseLapsed e) : onLeaseExpiry e s = ((s.viewLapsed e).showView e).raise 0x1403
    [(16, 1, e), (18, 2, (s.viewLapsed e).fld RED_SEG_STATUS.HOLDER e), (20, 4, (s.viewLapsed e).fld RED_SEG_EPOCH.EPOCH e)] := by
  obtain ⟨t, hdue, hen, hview, hgrace⟩ := h
  rw [onLeaseExpiry]
  simp only [hdue, hen, hview]
  exact if_neg (by simpa using hgrace)

/-- An end that may claim claims in HW mode, not before the frames that the last holder waits (R434). -/
def State.claims (s : State) (e : Nat) : Prop :=
  s.assist 19 = false ∧ s.mayClaim e = true ∧ ∀ f, (s.seg e).claimAt = some f → f ≤ s.frame

theorem onLeaseClaim_claims (h : s.claims e) : onLeaseClaim e s = s.claim e := by
  obtain ⟨hhw, hmay, hfrom⟩ := h
  refine if_neg ?_
  simp only [hhw, hmay, Bool.not_true, Bool.false_eq_true, false_or, Option.any_eq_true, decide_eq_true_eq, not_exists, not_and, not_lt]
  exact hfrom

theorem onLeaseClaim_stays (h : ¬ s.claims e) : onLeaseClaim e s = s := by
  refine if_pos ?_
  by_contra hno
  simp only [not_or, Bool.not_eq_true, Bool.not_eq_false', Option.any_eq_false, decide_eq_false_iff_not, not_lt] at hno
  exact h hno

theorem onClaimGapExpiry_none (h : (s.seg e).gap = none) : onClaimGapExpiry e s = s := by
  rw [onClaimGapExpiry]
  simp only [h]

theorem onClaimGapExpiry_gap (h : (s.seg e).gap = some t) : onClaimGapExpiry e s =
    if s.clock < t then s else (s.setSeg e { s.seg e with gap := none }).restartSegment e := by
  rw [onClaimGapExpiry]
  simp only [h]

/-! ### Handovers (R439) -/

theorem onCmdRedHandover_none (h : s.cmd q tag 0x1401 = none) : onCmdRedHandover q tag s = s := by rw [onCmdRedHandover, h]

section Handover
variable (hc : s.cmd q tag 0x1401 = some c)
include hc

theorem onCmdRedHandover_waits (hover : s.red.handover ≠ none) : onCmdRedHandover q tag s = s := by
  rw [onCmdRedHandover, hc]
  exact if_pos (Option.isSome_iff_ne_none.mpr hover)

/-- There is nothing to take over: the entry is not this end's, or every pier follows it. -/
def State.nothingToTake (s : State) (n : Nat) : Prop :=
  s.flag RED_SEG_CFG.EN n = false ∨ s.isEnd n = false ∨
    (s.fld RED_SEG_STATUS.STATE n = segHolder ∧ s.fld RED_SEG_PIERS.PIERS n ≤ s.fld RED_SEG_ACK.ACKS n)

variable (hover : s.red.handover = none)
include hover

theorem onCmdRedHandover_refused (hnone : s.nothingToTake (c.opnd 32 1)) : onCmdRedHandover q tag s = s.finish c 0x1401 := by
  rw [onCmdRedHandover, hc]
  refine (if_neg (by simp [hover])).trans (if_pos ?_)
  simpa only [State.nothingToTake, Bool.not_eq_true'] using hnone

theorem onCmdRedHandover_asks (hsome : ¬ s.nothingToTake (c.opnd 32 1)) :
    let n := c.opnd 32 1
    let w := (s.run c).sendMsg (.node (s.otherEnd n)) 0 0x23 0 (beBytes 2 (s.fld RED_SEG_CFG.SEG n)) false
    onCmdRedHandover q tag s = { w with red := { w.red with handover := some ⟨c.q, c.id, n, w.frame, none⟩ } } := by
  rw [onCmdRedHandover, hc]
  refine (if_neg (by simp [hover])).trans (if_neg ?_)
  simpa only [State.nothingToTake, Bool.not_eq_true'] using hsome

end Handover

theorem onHandoverReq_none (h : s.takeMsg 0x23 = none) : onHandoverReq s = s := by rw [onHandoverReq, h]

theorem onHandoverReq_other (h : s.takeMsg 0x23 = some (k, m, u))
    (hother : m.payload.length ≠ 2 ∨ u.endEntry (beAt m.payload 0 2) = none) : onHandoverReq s = u := by
  have hentry : (if m.payload.length = 2 then u.endEntry (beAt m.payload 0 2) else none) = none := by
    split
    · next hlen => exact hother.resolve_left (not_not_intro hlen)
    · rfl
  rw [onHandoverReq, h]
  simp only [hentry]

theorem onHandoverReq_entry (h : s.takeMsg 0x23 = some (k, m, u)) (hlen : m.payload.length = 2)
    (hentry : u.endEntry (beAt m.payload 0 2) = some n) : onHandoverReq s =
      if u.fld RED_SEG_STATUS.STATE n = segHolder then u.setSeg n { u.seg n with release := some m.src } else u.sendDone n m.src := by
  rw [onHandoverReq, h]
  simp only [hlen, if_true, hentry]

theorem onHandoverDone_none (h : s.takeMsg 0x24 = none) : onHandoverDone s = s := by rw [onHandoverDone, h]

theorem onHandoverDone_other (h : s.takeMsg 0x24 = some (k, m, u))
    (hother : m.payload.length ≠ 8 ∨ u.endEntry (beAt m.payload 0 2) = none) : onHandoverDone s = u := by
  have hentry : (if m.payload.length = 8 then u.endEntry (beAt m.payload 0 2) else none) = none := by
    split
    · next hlen => exact hother.resolve_left (not_not_intro hlen)
    · rfl
  rw [onHandoverDone, h]
  simp only [hentry]

theorem onHandoverDone_entry (h : s.takeMsg 0x24 = some (k, m, u)) (hlen : m.payload.length = 8)
    (hentry : u.endEntry (beAt m.payload 0 2) = some n) : onHandoverDone s =
      (u.setSeg n { u.seg n with seen := max (u.seg n).seen (beAt m.payload 4 4) }).handoverClaim n := by
  rw [onHandoverDone, h]
  simp only [hlen, if_true, hentry]

theorem onHandoverTimeout_none (h : s.red.handover = none) : onHandoverTimeout s = s := by rw [onHandoverTimeout, h]

theorem onHandoverTimeout_waits (hover : s.red.handover = some o) (hclaim : o.claim = none) :
    onHandoverTimeout s = if o.sent + 4 ≤ s.frame then s.endHandover 0x1403 else s := by
  rw [onHandoverTimeout, hover]
  simp only [hclaim]

theorem onHandoverTimeout_claimed (hover : s.red.handover = some o) (hclaim : o.claim = some t) :
    onHandoverTimeout s = if t + 8 ≤ s.frame then s.endHandover 0x1402 else s := by
  rw [onHandoverTimeout, hover]
  simp only [hclaim]

/-! ### The commands -/

section Awake
variable (hawake : s.awake = true)
include hawake

theorem exec_leaseAck : exec .leaseAck s = .next (onLeaseAck s) := congrArg _ (State.guarded_of_awake _ hawake)

theorem exec_leaseExpiry : exec (.leaseExpiry e) s = .next (onLeaseExpiry e s) := congrArg _ (State.guarded_of_awake _ hawake)

theorem exec_leaseClaim : exec (.leaseClaim e) s = .next (onLeaseClaim e s) := congrArg _ (State.guarded_of_awake _ hawake)

theorem exec_claimGapExpiry : exec (.claimGapExpiry e) s = .next (onClaimGapExpiry e s) :=
  congrArg _ (State.guarded_of_awake _ hawake)

theorem exec_cmdRedHandover : exec (.cmdRedHandover q tag) s = .next (onCmdRedHandover q tag s) :=
  congrArg _ (State.guarded_of_awake _ hawake)

theorem exec_handoverReq : exec .handoverReq s = .next (onHandoverReq s) := congrArg _ (State.guarded_of_awake _ hawake)

theorem exec_handoverDone : exec .handoverDone s = .next (onHandoverDone s) := congrArg _ (State.guarded_of_awake _ hawake)

theorem exec_handoverTimeout : exec .handoverTimeout s = .next (onHandoverTimeout s) :=
  congrArg _ (State.guarded_of_awake _ hawake)

end Awake

end Leases

/-- Settles O57: each row by what it finds: an acknowledgement of the last renewal, which may end a handover (`State.ackTaken_done`), a
lease past its GRACE (`State.leaseLapsed`), an end that may claim (`State.claims`). An entry not enabled and one without an end leave
nothing to take over (log entry 59), and a second handover waits (log entry 58). -/
theorem leases : Obligations.Leases := by
  unfold Obligations.Leases
  intro s e q tag hawake
  rw [exec_leaseAck hawake, exec_leaseExpiry hawake, exec_leaseClaim hawake, exec_claimGapExpiry hawake, exec_cmdRedHandover hawake,
    exec_handoverReq hawake, exec_handoverDone hawake, exec_handoverTimeout hawake]
  refine ⟨fun hnone => by rw [onLeaseAck_none hnone], fun k m u htaken => ⟨fun hentry => by rw [onLeaseAck_noEntry htaken hentry],
      fun n hentry => ?ack⟩, ⟨fun htracked => by rw [onLeaseExpiry_tracked htracked], fun hlapsed => congrArg _ (onLeaseExpiry_lapsed hlapsed)⟩,
    ⟨fun hclaims => by rw [onLeaseClaim_claims hclaims], fun hstays => by rw [onLeaseClaim_stays hstays]⟩,
    fun hnone => by rw [onClaimGapExpiry_none hnone], fun t hgap => by rw [onClaimGapExpiry_gap hgap],
    fun hnone => by rw [onCmdRedHandover_none hnone], fun c hc => ⟨fun hover => by rw [onCmdRedHandover_waits hc hover],
      fun hover hnothing => by rw [onCmdRedHandover_refused hc hover hnothing],
      fun hover hsome => congrArg _ (onCmdRedHandover_asks hc hover hsome)⟩,
    fun hnone => by rw [onHandoverReq_none hnone], fun k m u htaken => ⟨fun hother => by rw [onHandoverReq_other htaken hother],
      fun n hlen hentry => by rw [onHandoverReq_entry htaken hlen hentry]⟩,
    fun hnone => by rw [onHandoverDone_none hnone], fun k m u htaken => ⟨fun hother => by rw [onHandoverDone_other htaken hother],
      fun n hlen hentry => by rw [onHandoverDone_entry htaken hlen hentry]⟩,
    fun hnone => by rw [onHandoverTimeout_none hnone], fun h hover => ⟨fun hclaim => by rw [onHandoverTimeout_waits hover hclaim],
      fun t hclaim => by rw [onHandoverTimeout_claimed hover hclaim]⟩⟩
  case ack =>
    rw [onLeaseAck_entry htaken hentry]
    refine ⟨fun hidle => ?_, fun hcounts hopen => ?_, fun hcounts hended => ?_⟩
    · exact congrArg _ (if_pos (by tauto))
    · exact congrArg _ ((if_neg (by tauto)).trans (State.ackTaken_open hopen))
    · exact congrArg _ ((if_neg (by tauto)).trans (State.ackTaken_done hended))

end Sys2Proof.Machine

/-! THEOREMS. Commands of the firmware update: write, forward, activate, cancel, commit, fall back, raise the minimum (R467, R472,
R477 to R479, R481, R483). -/

namespace Sys2Proof.Machine

section Commands
variable {s : State} {q : Fin 24} {tag i : Nat} {c : Cmd}

/-! ### CMD_FWU_WRITE (R481) -/

/-- FIRST of a chunk. -/
abbrev Cmd.firstChunk (c : Cmd) : Prop := c.opnd 36 1 % 2 = 1

/-- LAST of a chunk. -/
abbrev Cmd.lastChunk (c : Cmd) : Prop := c.opnd 36 1 / 2 % 2 = 1

/-- The length of the image that a chunk belongs to: the first chunk's header names it. -/
def State.imageTotal (s : State) (c : Cmd) : Nat := if c.firstChunk then leAt (s.payload c) 8 4 else s.fwu.writing.getD 0

/-- No image is taken from the host: a peer has no slots, an image begins with RX_EN alone and never on trial. -/
abbrev State.writeShut (s : State) (c : Cmd) : Prop :=
  s.isPeer = true ∨ (c.firstChunk ∧ (s.flag FWU_CFG.RX_EN = false ∨ s.onTrial = true))

/-- A chunk that continues nothing. -/
abbrev State.writeAstray (s : State) (c : Cmd) : Prop :=
  (c.firstChunk ∧ (c.opnd 32 4 ≠ 0 ∨ (s.payload c).length < 512)) ∨
    (¬ c.firstChunk ∧ (s.fwu.writing = none ∨ c.opnd 32 4 ≠ s.fld FWU_WRITTEN.LEN))

/-- A first chunk of an image of a wrong size. -/
abbrev State.writeUnfit (s : State) (c : Cmd) : Prop :=
  c.firstChunk ∧ (s.imageTotal c < 4096 ∨ slotBytes < s.imageTotal c)

/-- A chunk past the end of its image, or a last one short of it. -/
abbrev State.writePast (s : State) (c : Cmd) : Prop :=
  s.imageTotal c < c.opnd 32 4 + (s.payload c).length ∨
    (c.lastChunk ∧ c.opnd 32 4 + (s.payload c).length ≠ s.imageTotal c)

/-- The state with a chunk stored in the slot that is not active, which a first one erases. -/
def State.chunkStored (s : State) (c : Cmd) : State :=
  (State.imagePut (if c.firstChunk then s.eraseSlot s.spareSlot else s) s.spareSlot (c.opnd 32 4) (s.payload c)).setFld FWU_WRITTEN.LEN
    (c.opnd 32 4 + (s.payload c).length)

/-- The state whose last chunk is stored. -/
def State.imageStored (s : State) (c : Cmd) : State :=
  { s.chunkStored c with fwu := { (s.chunkStored c).fwu with writing := none } }

/-- A last chunk completes by the verdict on its slot `i`. -/
def State.imageJudged (s : State) (i : Nat) (c : Cmd) (verdict : Option (Nat × Nat)) : State :=
  match verdict with
  | some f => (s.setFld FWU_WRITTEN.LEN 0).finish c f.1 (if f.1 = 0x1508 then result [(20, 2, f.2)] else [])
  | none => (s.putSlotState i slWritten).finish c stOk

theorem onCmdFwuWrite_none (h : s.cmd q tag 0x1501 = none) : onCmdFwuWrite q tag s = s := by rw [onCmdFwuWrite, h]

section Write
variable (h : s.cmd q tag 0x1501 = some c)
include h

theorem onCmdFwuWrite_held (hheld : s.flashHeld = true) : onCmdFwuWrite q tag s = s := by
  rw [onCmdFwuWrite, h]
  exact if_pos hheld

/-- The tests of a chunk in their order. -/
theorem onCmdFwuWrite_eq (hfree : s.flashHeld = false) : onCmdFwuWrite q tag s =
    if s.writeShut c then s.finish c 0x150A
    else if c.firstChunk ∧ s.fwuBusy = true then s.finish c 0x150F
    else if s.writeAstray c then s.finish c 0x1501
    else if s.writeUnfit c then s.finish c 0x1502
    else if s.writePast c then s.finish c 0x1501
    else if ¬ c.lastChunk then
      State.finish { s.chunkStored c with fwu := { (s.chunkStored c).fwu with writing := some (s.imageTotal c) } } c stOk
    else (s.imageStored c).imageJudged s.spareSlot c ((s.imageStored c).verifySlot s.spareSlot) := by
  rw [onCmdFwuWrite, h]
  refine (if_neg (by simp [hfree])).trans ?_
  rw [ite_or (P := c.firstChunk ∧ _)]
  simp only [decide_eq_true_eq, Bool.not_eq_true, Option.isNone_iff_eq_none]
  rfl

variable (hfree : s.flashHeld = false)
include hfree

theorem onCmdFwuWrite_shut (hshut : s.writeShut c) : onCmdFwuWrite q tag s = s.finish c 0x150A := by
  rw [onCmdFwuWrite_eq h hfree, if_pos hshut]

variable (hopen : ¬ s.writeShut c)
include hopen

theorem onCmdFwuWrite_busy (hbusy : c.firstChunk ∧ s.fwuBusy = true) : onCmdFwuWrite q tag s = s.finish c 0x150F := by
  rw [onCmdFwuWrite_eq h hfree, if_neg hopen, if_pos hbusy]

variable (hidle : ¬ (c.firstChunk ∧ s.fwuBusy = true))
include hidle

theorem onCmdFwuWrite_astray (hastray : s.writeAstray c) : onCmdFwuWrite q tag s = s.finish c 0x1501 := by
  rw [onCmdFwuWrite_eq h hfree, if_neg hopen, if_neg hidle, if_pos hastray]

variable (hnext : ¬ s.writeAstray c)
include hnext

theorem onCmdFwuWrite_unfit (hunfit : s.writeUnfit c) : onCmdFwuWrite q tag s = s.finish c 0x1502 := by
  rw [onCmdFwuWrite_eq h hfree, if_neg hopen, if_neg hidle, if_neg hnext, if_pos hunfit]

variable (hfits : ¬ s.writeUnfit c)
include hfits

theorem onCmdFwuWrite_past (hpast : s.writePast c) : onCmdFwuWrite q tag s = s.finish c 0x1501 := by
  rw [onCmdFwuWrite_eq h hfree, if_neg hopen, if_neg hidle, if_neg hnext, if_neg hfits, if_pos hpast]

variable (hwithin : ¬ s.writePast c)
include hwithin

theorem onCmdFwuWrite_more (hmore : ¬ c.lastChunk) : onCmdFwuWrite q tag s =
    State.finish { s.chunkStored c with fwu := { (s.chunkStored c).fwu with writing := some (s.imageTotal c) } } c stOk := by
  rw [onCmdFwuWrite_eq h hfree, if_neg hopen, if_neg hidle, if_neg hnext, if_neg hfits, if_neg hwithin, if_pos hmore]

theorem onCmdFwuWrite_last (hlast : c.lastChunk) : onCmdFwuWrite q tag s =
    (s.imageStored c).imageJudged s.spareSlot c ((s.imageStored c).verifySlot s.spareSlot) := by
  rw [onCmdFwuWrite_eq h hfree, if_neg hopen, if_neg hidle, if_neg hnext, if_neg hfits, if_neg hwithin,
    if_neg (not_not_intro hlast)]

end Write

/-! ### CMD_FWU_FORWARD (R483) -/

theorem onCmdFwuForward_none (h : s.cmd q tag 0x1502 = none) : onCmdFwuForward q tag s = s := by rw [onCmdFwuForward, h]

section Forward
variable (h : s.cmd q tag 0x1502 = some c)
include h

theorem onCmdFwuForward_empty (hslot : s.heldSlot = none) : onCmdFwuForward q tag s = s.finish c 0x150B := by
  rw [onCmdFwuForward, h]
  simp only [hslot]

theorem onCmdFwuForward_busy (hslot : s.heldSlot = some i) (hbusy : s.fwu.fwd.isSome = true ∨ s.fwu.rx.isSome = true) :
    onCmdFwuForward q tag s = s.finish c 0x150F := by
  rw [onCmdFwuForward, h]
  simp only [hslot]
  exact if_pos hbusy

theorem onCmdFwuForward_offers (hslot : s.heldSlot = some i) (hfwd : s.fwu.fwd = none) (hrx : s.fwu.rx = none) :
    onCmdFwuForward q tag s = ((portsWhere 16 fun k => bits (c.opnd 32 2) k 1 = 1).foldl (fun (s : State) k => s.offerOn i k)
      { s.run c with fwu := { s.fwu with fwd := some (c.q, c.id, 0) } }).forwardDone := by
  rw [onCmdFwuForward, h]
  simp only [hslot]
  exact if_neg (by simp [hfwd, hrx])

end Forward

/-! ### Activation (R478, R479) -/

theorem onCmdFwuActivate_none (h : s.cmd q tag 0x1503 = none) : onCmdFwuActivate q tag s = s := by rw [onCmdFwuActivate, h]

section Activate
variable (h : s.cmd q tag 0x1503 = some c)
include h

theorem onCmdFwuActivate_missing (hheld : s.holdsImage (s.payload c) = false) : onCmdFwuActivate q tag s = s.finish c 0x150B := by
  rw [onCmdFwuActivate, h]
  exact if_pos (by simp [hheld])

variable (hheld : s.holdsImage (s.payload c) = true)
include hheld

theorem onCmdFwuActivate_soon (hsoon : c.opnd 40 8 < s.now + 600000000) : onCmdFwuActivate q tag s = s.finish c 0x150C := by
  rw [onCmdFwuActivate, h]
  exact (if_neg (by simp [hheld])).trans (if_pos hsoon)

theorem onCmdFwuActivate_schedules (hahead : s.now + 600000000 ≤ c.opnd 40 8) : onCmdFwuActivate q tag s =
    State.finish (if c.opnd 32 1 % 2 = 1 then s.schedule (c.opnd 40 8)
      else (s.schedule (c.opnd 40 8)).sendMsg .all 2 0x13 0 (s.payload c ++ beBytes 8 (c.opnd 40 8)) false) c stOk := by
  rw [onCmdFwuActivate, h]
  exact (if_neg (by simp [hheld])).trans (if_neg (by omega))

end Activate

theorem onCmdFwuCancel_none (h : s.cmd q tag 0x1504 = none) : onCmdFwuCancel q tag s = s := by rw [onCmdFwuCancel, h]

theorem onCmdFwuCancel_started (h : s.cmd q tag 0x1504 = some c) :
    onCmdFwuCancel q tag s = ((s.setPair FWU_AT.AT 0).setFlag FWU_STATUS.SCHED false).finish c stOk := by rw [onCmdFwuCancel, h]

/-- An activation has fallen due without a cadence, and nothing keeps it back (R449, R479). -/
def State.activates (s : State) : Prop :=
  s.flag FWU_STATUS.SCHED = true ∧ s.pair FWU_AT.AT ≤ s.now ∧ s.flashHeld = false ∧ s.restarting = false ∧ s.cadence = false

theorem onFwuActivateAt_due (hdue : s.activates) :
    let u := (s.setPair FWU_AT.AT 0).setFlag FWU_STATUS.SCHED false
    onFwuActivateAt s = if u.slotState u.spareSlot = slWritten then (u.putTrial u.spareSlot).restartTollhouse else u := by
  obtain ⟨hsched, hat, hflash, hrun, hcad⟩ := hdue
  refine (if_neg (Bool.eq_false_iff.mp hcad)).trans ?_
  rw [State.activateDue, if_pos ⟨hsched, hat, Bool.eq_false_iff.mp hflash, Bool.eq_false_iff.mp hrun⟩]

theorem onFwuActivateAt_early (hearly : ¬ s.activates) : onFwuActivateAt s = s := by
  unfold onFwuActivateAt State.activateDue
  split
  · rfl
  · next hcad =>
    refine if_neg fun ⟨hsched, hat, hflash, hrun⟩ => hearly ?_
    exact ⟨hsched, hat, Bool.eq_false_iff.mpr hflash, Bool.eq_false_iff.mpr hrun, Bool.eq_false_iff.mpr hcad⟩

/-! ### Commit, fallback and the minimum (R472, R483) -/

/-- The firmware of slot `i` is to be committed in HW mode (R472). -/
def State.commitDue (s : State) (i : Nat) : Prop :=
  s.restarting = false ∧ s.assist 20 = false ∧ s.flashHeld = false ∧ s.slotState i = slTried ∧ s.streamInForce i = true ∧
    s.fwu.since + s.fld FWU_CFG.COMMIT_S * 1000 * ms ≤ s.clock

theorem onFwCommitTimer_none (hslot : s.activeSlot = none) : onFwCommitTimer s = s := by rw [onFwCommitTimer, hslot]

theorem onFwCommitTimer_due (hslot : s.activeSlot = some i) (hdue : s.commitDue i) : onFwCommitTimer s = s.commitSlot i := by
  obtain ⟨hrun, hhw, hflash, htried, hstream, htime⟩ := hdue
  rw [onFwCommitTimer, hslot]
  exact if_pos ⟨Bool.eq_false_iff.mp hrun, Bool.eq_false_iff.mp hhw, Bool.eq_false_iff.mp hflash, htried, htime, hstream⟩

theorem onFwCommitTimer_early (hslot : s.activeSlot = some i) (hearly : ¬ s.commitDue i) : onFwCommitTimer s = s := by
  rw [onFwCommitTimer, hslot]
  exact if_neg fun ⟨hrun, hhw, hflash, htried, htime, hstream⟩ => hearly
    ⟨Bool.eq_false_iff.mpr hrun, Bool.eq_false_iff.mpr hhw, Bool.eq_false_iff.mpr hflash, htried, hstream, htime⟩

theorem onCmdFwuCommit_none (h : s.cmd q tag 0x1505 = none) : onCmdFwuCommit q tag s = s := by rw [onCmdFwuCommit, h]

theorem onCmdFwuCommit_tried (h : s.cmd q tag 0x1505 = some c) (hslot : s.activeSlot = some i) (htried : s.slotState i = slTried) :
    onCmdFwuCommit q tag s = if s.flashHeld then s else (s.commitSlot i).finish c stOk := by
  have hsome : (some i).filter (fun i => decide (s.slotState i = slTried)) = some i := by simp [Option.filter, htried]
  rw [onCmdFwuCommit, h, hslot, hsome]

theorem onCmdFwuCommit_other (h : s.cmd q tag 0x1505 = some c) (hslot : ∀ i, s.activeSlot = some i → s.slotState i ≠ slTried) :
    onCmdFwuCommit q tag s = s.finish c 0x1501 := by
  have hnone : s.activeSlot.filter (fun i => decide (s.slotState i = slTried)) = none := by
    simpa [Option.filter_eq_none_iff] using hslot
  rw [onCmdFwuCommit, h, hnone]

theorem onCmdFwuFallback_none (h : s.cmd q tag 0x1506 = none) : onCmdFwuFallback q tag s = s := by rw [onCmdFwuFallback, h]

theorem onCmdFwuFallback_good (h : s.cmd q tag 0x1506 = some c) (hslot : s.activeSlot = some i) (hgood : s.slotState (1 - i) = slGood) :
    onCmdFwuFallback q tag s = if s.flashHeld then s
      else (((s.putSlotState i slBad).raise 0x1507 [(16, 1, i), (17, 1, 1)]).finish c stOk).restartTollhouse := by
  have hsome : (some i).filter (fun i => decide (s.slotState (1 - i) = slGood)) = some i := by simp [Option.filter, hgood]
  rw [onCmdFwuFallback, h, hslot, hsome]

theorem onCmdFwuFallback_other (h : s.cmd q tag 0x1506 = some c)
    (hslot : ∀ i, s.activeSlot = some i → s.slotState (1 - i) ≠ slGood) : onCmdFwuFallback q tag s = s.finish c 0x150D := by
  have hnone : s.activeSlot.filter (fun i => decide (s.slotState (1 - i) = slGood)) = none := by
    simpa [Option.filter_eq_none_iff] using hslot
  rw [onCmdFwuFallback, h, hnone]

theorem onCmdFwuSvnRaise_none (h : s.cmd q tag 0x1507 = none) : onCmdFwuSvnRaise q tag s = s := by rw [onCmdFwuSvnRaise, h]

theorem onCmdFwuSvnRaise_refused (h : s.cmd q tag 0x1507 = some c)
    (hout : c.opnd 32 1 < s.fuses.fwSvn ∨ s.fld FWU_SVN.CUR < c.opnd 32 1) : onCmdFwuSvnRaise q tag s = s.finish c 0x150E := by
  rw [onCmdFwuSvnRaise, h]
  exact if_pos hout

theorem onCmdFwuSvnRaise_raises (h : s.cmd q tag 0x1507 = some c) (hmin : s.fuses.fwSvn ≤ c.opnd 32 1)
    (hcur : c.opnd 32 1 ≤ s.fld FWU_SVN.CUR) : onCmdFwuSvnRaise q tag s =
      State.finish { s.setFld FWU_SVN.MIN (c.opnd 32 1) with fuses := { s.fuses with fwSvn := c.opnd 32 1 } } c stOk := by
  rw [onCmdFwuSvnRaise, h]
  exact if_neg (by omega)

/-! ### The commands -/

section Awake
variable (hawake : s.awake = true)
include hawake

theorem exec_cmdFwuWrite : exec (.cmdFwuWrite q tag) s = .next (onCmdFwuWrite q tag s) :=
  congrArg _ (State.guarded_of_awake _ hawake)

theorem exec_cmdFwuForward : exec (.cmdFwuForward q tag) s = .next (onCmdFwuForward q tag s) :=
  congrArg _ (State.guarded_of_awake _ hawake)

theorem exec_cmdFwuActivate : exec (.cmdFwuActivate q tag) s = .next (onCmdFwuActivate q tag s) :=
  congrArg _ (State.guarded_of_awake _ hawake)

theorem exec_cmdFwuCancel : exec (.cmdFwuCancel q tag) s = .next (onCmdFwuCancel q tag s) :=
  congrArg _ (State.guarded_of_awake _ hawake)

theorem exec_fwuActivateAt : exec .fwuActivateAt s = .next (onFwuActivateAt s) := congrArg _ (State.guarded_of_awake _ hawake)

theorem exec_fwCommitTimer : exec .fwCommitTimer s = .next (onFwCommitTimer s) := congrArg _ (State.guarded_of_awake _ hawake)

theorem exec_cmdFwuCommit : exec (.cmdFwuCommit q tag) s = .next (onCmdFwuCommit q tag s) :=
  congrArg _ (State.guarded_of_awake _ hawake)

theorem exec_cmdFwuFallback : exec (.cmdFwuFallback q tag) s = .next (onCmdFwuFallback q tag s) :=
  congrArg _ (State.guarded_of_awake _ hawake)

theorem exec_cmdFwuSvnRaise : exec (.cmdFwuSvnRaise q tag) s = .next (onCmdFwuSvnRaise q tag s) :=
  congrArg _ (State.guarded_of_awake _ hawake)

/-- A row of the firmware update whose command is not started changes nothing. -/
theorem exec_fwu_notStarted {r : Instr × Nat}
    (hr : r ∈ [(Instr.cmdFwuWrite q tag, 0x1501), (.cmdFwuForward q tag, 0x1502), (.cmdFwuActivate q tag, 0x1503),
      (.cmdFwuCancel q tag, 0x1504), (.cmdFwuCommit q tag, 0x1505), (.cmdFwuFallback q tag, 0x1506), (.cmdFwuSvnRaise q tag, 0x1507)])
    (hnone : s.cmd q tag r.2 = none) : exec r.1 s = .next s := by
  simp only [List.mem_cons, List.not_mem_nil, or_false] at hr
  obtain rfl | rfl | rfl | rfl | rfl | rfl | rfl := hr
  · rw [exec_cmdFwuWrite hawake, onCmdFwuWrite_none hnone]
  · rw [exec_cmdFwuForward hawake, onCmdFwuForward_none hnone]
  · rw [exec_cmdFwuActivate hawake, onCmdFwuActivate_none hnone]
  · rw [exec_cmdFwuCancel hawake, onCmdFwuCancel_none hnone]
  · rw [exec_cmdFwuCommit hawake, onCmdFwuCommit_none hnone]
  · rw [exec_cmdFwuFallback hawake, onCmdFwuFallback_none hnone]
  · rw [exec_cmdFwuSvnRaise hawake, onCmdFwuSvnRaise_none hnone]

end Awake

end Commands

/-- Settles O59: each command's tests in their order (`onCmdFwuWrite_eq`); the refusal on a peer and what counts as busy are log entries
65 and 66, and flash writes kept back by a warning log entry 68. -/
theorem firmwareCommands : Obligations.FirmwareCommands := by
  unfold Obligations.FirmwareCommands
  intro s q tag hawake
  refine ⟨fun r hr hnone => exec_fwu_notStarted hawake hr hnone, ?_⟩
  rw [exec_cmdFwuWrite hawake, exec_cmdFwuForward hawake, exec_cmdFwuActivate hawake, exec_cmdFwuCancel hawake,
    exec_fwuActivateAt hawake, exec_fwCommitTimer hawake, exec_cmdFwuCommit hawake, exec_cmdFwuFallback hawake,
    exec_cmdFwuSvnRaise hawake]
  refine ⟨fun c hc => ⟨fun hheld => by rw [onCmdFwuWrite_held hc hheld], fun hfree => ?write⟩,
    fun c hc => ⟨fun hslot => by rw [onCmdFwuForward_empty hc hslot], fun i hslot =>
      ⟨fun hbusy => by rw [onCmdFwuForward_busy hc hslot hbusy],
        fun hfwd hrx => ⟨_, rfl, by rw [onCmdFwuForward_offers hc hslot hfwd hrx]⟩⟩⟩,
    fun c hc => ⟨fun hmissing => by rw [onCmdFwuActivate_missing hc hmissing], fun hheld hsoon => by rw [onCmdFwuActivate_soon hc hheld hsoon],
      fun hheld hahead => by rw [onCmdFwuActivate_schedules hc hheld hahead]⟩,
    fun c hc => by rw [onCmdFwuCancel_started hc],
    ⟨fun hdue => by rw [onFwuActivateAt_due hdue], fun hearly => by rw [onFwuActivateAt_early hearly]⟩,
    ⟨fun i hslot => ⟨fun hdue => congrArg _ (onFwCommitTimer_due hslot hdue), fun hearly => by rw [onFwCommitTimer_early hslot hearly]⟩,
      fun hslot => by rw [onFwCommitTimer_none hslot]⟩,
    fun c hc => ⟨fun i hslot htried => congrArg _ (onCmdFwuCommit_tried hc hslot htried),
      fun hother => by rw [onCmdFwuCommit_other hc hother]⟩,
    fun c hc => ⟨fun i hslot hgood => by rw [onCmdFwuFallback_good hc hslot hgood],
      fun hother => by rw [onCmdFwuFallback_other hc hother]⟩,
    fun c hc => ⟨fun hout => by rw [onCmdFwuSvnRaise_refused hc hout],
      fun hmin hcur => ⟨_, by rw [onCmdFwuSvnRaise_raises hc hmin hcur], rfl, rfl⟩⟩⟩
  case write =>
    refine ⟨fun hshut => congrArg _ (onCmdFwuWrite_shut hc hfree hshut), fun hopen hbusy => congrArg _ (onCmdFwuWrite_busy hc hfree hopen hbusy),
      fun hopen hidle => ⟨fun hastray => congrArg _ (onCmdFwuWrite_astray hc hfree hopen hidle hastray),
        fun hnext hunfit => congrArg _ (onCmdFwuWrite_unfit hc hfree hopen hidle hnext hunfit),
        fun hnext hfits hpast => congrArg _ (onCmdFwuWrite_past hc hfree hopen hidle hnext hfits hpast),
        fun hnext hfits hwithin => ⟨fun hmore => ⟨_, rfl, congrArg _ (onCmdFwuWrite_more hc hfree hopen hidle hnext hfits hwithin hmore)⟩,
          fun hlast => ?_⟩⟩⟩
    have hjudged := onCmdFwuWrite_last hc hfree hopen hidle hnext hfits hwithin hlast
    exact ⟨fun hverified => congrArg _ (hjudged.trans (congrArg (State.imageJudged (s.imageStored c) s.spareSlot c) hverified)),
      fun f hfails => congrArg _ (hjudged.trans (congrArg (State.imageJudged (s.imageStored c) s.spareSlot c) hfails))⟩

end Sys2Proof.Machine

/-! THEOREMS. Firmware between neighbours: offers, chunks, ends, activations, recovery (R476 to R478, R480). -/

namespace Sys2Proof.Machine

/-- What a request of a neighbour in recovery gets: a slot, offered where SERVE is set and it is GOOD. -/
def State.serveImage (s : State) (port : Nat) : Option Nat → State
  | some i => if s.flag FWU_CFG.SERVE = true ∧ s.slotState i = slGood ∧ Sparse.find s.fwu.offers port = none then s.offerOn i port else s
  | none => s

section Transfers
variable {s u : State} {port k typ : Nat} {m : Msg} {r : FwuRx} {bad : Fin 3} {p : Path} {v : Word}

theorem State.onMsg_rests {f : Nat → Msg → State → State} (h : s.restarting = true ∨ s.takeMsg typ = none) : s.onMsg typ f = s :=
  h.elim State.onMsg_restarting State.onMsg_none

section Rests
variable (hawake : s.awake = true)
include hawake

theorem exec_offer : exec .offer s = .next (onOffer s) := congrArg _ (State.guarded_of_awake _ hawake)

theorem exec_chunk : exec (.chunk bad) s = .next (onChunk bad s) := congrArg _ (State.guarded_of_awake _ hawake)

theorem exec_fwuEnd : exec .fwuEnd s = .next (onFwuEnd s) := congrArg _ (State.guarded_of_awake _ hawake)

theorem exec_activate : exec .activate s = .next (onActivate s) := congrArg _ (State.guarded_of_awake _ hawake)

theorem exec_recoverReq : exec .recoverReq s = .next (onRecoverReq s) := congrArg _ (State.guarded_of_awake _ hawake)

theorem exec_offerRetry : exec .offerRetry s = .next (onOfferRetry s) := congrArg _ (State.guarded_of_awake _ hawake)

theorem exec_recoverReqSend : exec .recoverReqSend s = .next (onRecoverReqSend s) := congrArg _ (State.guarded_of_awake _ hawake)

theorem exec_fwuRecoverGo : exec (.fwuRecoverGo p v bad) s = .next (onFwuRecoverGo p v bad s) :=
  congrArg _ (State.guarded_of_awake _ hawake)

/-- A row of a message that has not come, or in a tollhouse restart, changes nothing. -/
theorem exec_transfer_rests {x : Instr × Nat}
    (hx : x ∈ [(Instr.offer, 0x10), (.chunk bad, 0x11), (.fwuEnd, 0x12), (.activate, 0x13), (.recoverReq, 0x14)])
    (hrests : s.restarting = true ∨ s.takeMsg x.2 = none) : exec x.1 s = .next s := by
  simp only [List.mem_cons, List.not_mem_nil, or_false] at hx
  obtain rfl | rfl | rfl | rfl | rfl := hx
  · rw [exec_offer hawake, onOffer, State.onMsg_rests hrests, ite_self]
  · rw [exec_chunk hawake, onChunk, State.onMsg_rests hrests, ite_self]
  · rw [exec_fwuEnd hawake, onFwuEnd, State.onMsg_rests hrests, ite_self]
  · rw [exec_activate hawake, onActivate, State.onMsg_rests hrests]
  · rw [exec_recoverReq hawake, onRecoverReq, State.onMsg_rests hrests]

end Rests

theorem onOffer_held (h : s.flashHeld = true) : onOffer s = s := if_pos h

theorem onChunk_held (h : s.flashHeld = true) : onChunk bad s = s := if_pos h

theorem onFwuEnd_held (h : s.flashHeld = true) : onFwuEnd s = s := if_pos h

section Running
variable (hrun : s.restarting = false)
include hrun

section Free
variable (hfree : s.flashHeld = false)
include hfree

/-- A row that programs flash takes its message where nothing keeps flash writes back. -/
theorem State.onMsg_free {f : Nat → Msg → State → State} (h : s.takeMsg typ = some (k, m, u)) :
    (if s.flashHeld then s else s.onMsg typ f) = f k m u :=
  (if_neg (Bool.eq_false_iff.mp hfree)).trans (State.onMsg_taken hrun h)

/-! ### OFFER (R476) -/

section Offer
variable (h : s.takeMsg 0x10 = some (port, m, u))
include h

theorem onOffer_refused (hrule : u.offerRule (beAt m.payload 0 4) (bytesAt m.payload 4 48) ≠ 0) :
    onOffer s = u.respond m (beBytes 1 (u.offerRule (beAt m.payload 0 4) (bytesAt m.payload 4 48)) ++ List.replicate 7 0) :=
  (State.onMsg_free hrun hfree h).trans (if_pos hrule)

/-- The slot that is not active holds a part of the image of a hash. -/
abbrev State.holdsPart (s : State) (hash : List Byte) : Prop := 0 < s.fld FWU_WRITTEN.LEN ∧ s.slotHash s.spareSlot = hash

/-- The state that receives the image of an OFFER, its slot erased where it holds no part of it. -/
def State.offerTaken (s : State) (port : Nat) (m : Msg) : State :=
  let hash := bytesAt m.payload 4 48
  let w := if s.holdsPart hash then s else s.eraseSlot s.spareSlot
  { w with fwu := { w.fwu with rx := some ⟨port, hash, beAt m.payload 0 4⟩ } }

theorem onOffer_accepted (hrule : u.offerRule (beAt m.payload 0 4) (bytesAt m.payload 4 48) = 0) :
    let y := (u.offerTaken port m).respond m (List.replicate 4 0 ++ beBytes 4 ((u.offerTaken port m).fld FWU_WRITTEN.LEN))
    onOffer s = State.showXfer (if u.holdsPart (bytesAt m.payload 4 48) then y.offerCut u.spareSlot port else y) := by
  refine (State.onMsg_free hrun hfree h).trans ((if_neg (not_not_intro hrule)).trans ?_)
  simp only [Bool.and_eq_true, decide_eq_true_eq]
  rfl

end Offer

/-! ### CHUNK (R476, R477) -/

section Chunk
variable (h : s.takeMsg 0x11 = some (port, m, u))
include h

theorem onChunk_noTransfer (hrx : u.fwu.rx = none) : onChunk bad s = u.respond m [1] := by
  refine (State.onMsg_free hrun hfree h).trans ?_
  simp only [hrx]

/-- A chunk is the next of its transfer and passes its CRC-32C. -/
def State.chunkFits (s : State) (r : FwuRx) (port : Nat) (m : Msg) : Prop :=
  r.port = port ∧ chunkBytes * beAt m.payload 0 4 = s.fld FWU_WRITTEN.LEN ∧ chunkBytes * beAt m.payload 0 4 < r.len ∧
    (m.payload.drop 8).length = chunkBytes ∧ beAt m.payload 4 4 = crc32c (m.payload.drop 8)

/-- The state with a chunk stored, read back and answered. -/
def State.chunkTaken (s : State) (r : FwuRx) (port : Nat) (m : Msg) : State :=
  let off := chunkBytes * beAt m.payload 0 4
  let kept := (m.payload.drop 8).take (r.len - off)
  let w := (s.imagePut s.spareSlot off kept).setFld FWU_WRITTEN.LEN (off + kept.length)
  let x := (w.respond m [0]).unitRun 1 (w.flashRead (slotBase w.spareSlot + off) kept.length)
  if beAt m.payload 0 4 = 0 then x.offerCut x.spareSlot port else x

variable (hrx : u.fwu.rx = some r)
include hrx

theorem onChunk_unfit (hfits : ¬ u.chunkFits r port m) : onChunk bad s = u.respond m [1] := by
  refine (State.onMsg_free hrun hfree h).trans ?_
  simp only [hrx]
  refine if_pos ?_
  by_contra hno
  simp only [not_or, ne_eq, not_not, not_le] at hno
  exact hfits hno

theorem onChunk_fits (hfits : u.chunkFits r port m) : onChunk bad s =
    if bad.val = 2 then (u.respond m [1]).rejectImage port 0x1509
    else (u.chunkTaken r port m).fwu.offers.foldl (fun (s : State) p => s.push p.1) (u.chunkTaken r port m) := by
  obtain ⟨hport, hoff, hlen, hsize, hcrc⟩ := hfits
  refine (State.onMsg_free hrun hfree h).trans ?_
  simp only [hrx]
  refine if_neg ?_
  simp only [hport, hoff, hsize, hcrc, ne_eq, not_true_eq_false, false_or, or_false, not_le]
  exact hoff ▸ hlen

end Chunk

/-! ### END (R476, R480) -/

section End
variable (h : s.takeMsg 0x12 = some (port, m, u))
include h

theorem onFwuEnd_noTransfer (hrx : u.fwu.rx = none) : onFwuEnd s = u.respond m (beBytes 2 0x1501) := by
  refine (State.onMsg_free hrun hfree h).trans ?_
  simp only [hrx]

/-- The status that a verdict of the checks answers. -/
def verdictStatus : Option (Nat × Nat) → Nat
  | some f => f.1
  | none => stOk

/-- The status of an END whose hash is that of its transfer. -/
def State.endStatus (s : State) (r : FwuRx) : Nat :=
  if s.slotHash s.spareSlot ≠ r.hash then 0x1505 else verdictStatus (s.verifySlot s.spareSlot)

/-- The transfer received fails with a status: the slot's own offers end too. -/
def State.endFailed (s : State) (i port st : Nat) : State :=
  (s.fwu.offers.foldl (fun (s : State) p => if p.2.slot = i then s.endOffer p.1 false else s) s).rejectImage port st

/-- The slot of a transfer received is WRITTEN, with EV_FWU_RECEIVED. -/
def State.endWritten (s : State) (i port : Nat) (r : FwuRx) : State :=
  State.raise { s.putSlotState i slWritten with fwu := { (s.putSlotState i slWritten).fwu with rx := none } } 0x1501
    [(16, 8, leAt r.hash 0 8), (24, 1, port)]

/-- The chunks that waited for the verification are pushed. -/
def State.pushAll (s : State) : State := s.fwu.offers.foldl (fun (s : State) p => s.push p.1) s

/-- The ports on which an image received on one is offered onward: UP, no footing link, not offered on yet; none with CUT. -/
def State.onwardPorts (s : State) (port : Nat) : List Nat :=
  portsWhere 16 fun j => s.portUp j && decide (j ≠ port) && !(s.binding j).footing &&
    (Sparse.find s.fwu.offers j).isNone && !s.flag FWU_CFG.CUT

/-- An image received with a good slot goes on: in recovery it runs, else it is offered onward in HW mode. -/
def State.endOnward (s : State) (i port : Nat) : State :=
  if s.flag FWU_STATUS.RECOVERY then ((s.putTrial i).setFlag FWU_STATUS.RECOVERY false).restartTollhouse
  else
    State.showXfer (if s.pushAll.assist 20 then s.pushAll
      else (s.pushAll.onwardPorts port).foldl (fun (s : State) j => s.offerOn i j) s.pushAll)

variable (hrx : u.fwu.rx = some r)
include hrx

theorem onFwuEnd_other (hother : r.port ≠ port ∨ m.payload ≠ r.hash) : onFwuEnd s = u.respond m (beBytes 2 0x1501) := by
  refine (State.onMsg_free hrun hfree h).trans ?_
  simp only [hrx]
  exact if_pos hother

theorem onFwuEnd_judged (hport : r.port = port) (hhash : m.payload = r.hash) : onFwuEnd s =
    if u.endStatus r ≠ stOk then (u.respond m (beBytes 2 (u.endStatus r))).endFailed u.spareSlot port (u.endStatus r)
    else ((u.respond m (beBytes 2 (u.endStatus r))).endWritten u.spareSlot port r).endOnward u.spareSlot port := by
  refine (State.onMsg_free hrun hfree h).trans ?_
  simp only [hrx]
  refine (if_neg (by simp [hport, hhash])).trans ?_
  unfold State.endStatus
  generalize u.verifySlot u.spareSlot = verdict
  cases verdict <;> rfl

end End
end Free

/-! ### ACTIVATE, RECOVER_REQ and the second offers (R477, R478, R480) -/

section Activate
variable (h : s.takeMsg 0x13 = some (port, m, u))
include h

theorem onActivate_peer (hpeer : u.isPeer = true) : onActivate s = u := (State.onMsg_taken hrun h).trans (if_pos hpeer)

variable (hpeer : u.isPeer = false)
include hpeer

theorem onActivate_own : onActivate s =
    if ! u.holdsImage (bytesAt m.payload 0 48) then u.raise 0x1504 [(16, 1, 0)]
    else if beAt m.payload 48 8 ≤ u.now then u.raise 0x1504 [(16, 1, 1)]
    else (u.schedule (beAt m.payload 48 8)).raise 0x1503 [(16, 8, beAt m.payload 48 8)] :=
  (State.onMsg_taken hrun h).trans (if_neg (Bool.eq_false_iff.mp hpeer))

theorem onActivate_missing (hheld : u.holdsImage (bytesAt m.payload 0 48) = false) : onActivate s = u.raise 0x1504 [(16, 1, 0)] :=
  (onActivate_own hrun h hpeer).trans (if_pos (by rw [hheld]; rfl))

variable (hheld : u.holdsImage (bytesAt m.payload 0 48) = true)
include hheld

theorem onActivate_late (hlate : beAt m.payload 48 8 ≤ u.now) : onActivate s = u.raise 0x1504 [(16, 1, 1)] :=
  (onActivate_own hrun h hpeer).trans ((if_neg (by simp [hheld])).trans (if_pos hlate))

theorem onActivate_schedules (hahead : u.now < beAt m.payload 48 8) :
    onActivate s = (u.schedule (beAt m.payload 48 8)).raise 0x1503 [(16, 8, beAt m.payload 48 8)] :=
  (onActivate_own hrun h hpeer).trans ((if_neg (by simp [hheld])).trans (if_neg hahead.not_ge))

end Activate

theorem onOfferRetry_one {o : FwuOffer} (h : s.fwu.offers = [(port, o)]) : onOfferRetry s =
    if o.retry.any (fun t => decide (t ≤ s.clock)) then
      (s.setOffer port { o with retry := none }).sendMsg (.neighbour port) 2 0x10 0 (s.offerMsg o.slot) true
    else s := by
  rw [onOfferRetry, if_neg (Bool.eq_false_iff.mp hrun), h, List.foldl_cons, List.foldl_nil]
  cases hretry : o.retry with
  | none => rfl
  | some t => simp only [Option.any_some, decide_eq_true_eq]

theorem onRecoverReq_taken (h : s.takeMsg 0x14 = some (port, m, u)) : onRecoverReq s = u.serveImage port u.activeSlot := by
  refine (State.onMsg_taken hrun h).trans ?_
  cases u.activeSlot with
  | none => rfl
  | some i => simp only [State.serveImage, Option.isNone_iff_eq_none]

end Running

theorem onOfferRetry_rests (h : s.restarting = true ∨ s.fwu.offers = []) : onOfferRetry s = s := by
  rw [onOfferRetry]
  refine h.elim (fun hrestart => if_pos hrestart) fun hnone => ?_
  rw [hnone, List.foldl_nil, ite_self]

theorem onRecoverReqSend_due (h : s.flag FWU_STATUS.RECOVERY = true ∧ s.fwu.reqAt + 1000 * ms ≤ s.clock) : onRecoverReqSend s =
    (portsWhere 16 s.portUp).foldl (fun (s : State) k => s.sendMsg (.neighbour k) 2 0x14 0 [0] false)
      { s with fwu := { s.fwu with reqAt := s.clock } } := if_pos h

theorem onRecoverReqSend_early (h : ¬ (s.flag FWU_STATUS.RECOVERY = true ∧ s.fwu.reqAt + 1000 * ms ≤ s.clock)) :
    onRecoverReqSend s = s := if_neg h

/-! ### The host path of recovery (R480) -/

theorem fwuRecover_row : registerAt 0x60040 0x60040 0 = true := by decide +kernel

theorem onFwuRecoverGo_rests (h : s.pathOpen p = false ∨ bits v.toNat 26 1 ≠ 1) : onFwuRecoverGo p v bad s = s := by
  refine if_neg fun hgo => ?_
  obtain ⟨hopen, hbit⟩ := hgo
  exact h.elim (fun hclosed => by simp [hclosed] at hopen) fun hno => hno hbit

theorem onFwuRecoverGo_go {d : RegDesc} (hreg : regAt 0x60040 = some (d, 0, false)) (hopen : s.pathOpen p = true)
    (hgo : bits v.toNat 26 1 = 1) : onFwuRecoverGo p v bad s = (s.writePlain d 0x60040 v.toNat).recoverGo bad := by
  refine (if_pos ⟨hopen, hgo⟩).trans ?_
  rw [hreg]

theorem State.recoverGo_shut (h : u.flag FWU_STATUS.RECOVERY = false ∨ u.flashHeld = true) : u.recoverGo bad = u :=
  if_pos (h.imp (Bool.eq_false_iff.mp ·) id)

section Recovering
variable (hrecovery : u.flag FWU_STATUS.RECOVERY = true) (hfree : u.flashHeld = false)
include hrecovery hfree

/-- The image that the host placed in the deck. -/
def State.hostImage (s : State) : List Byte := s.memRead false 0x400000 (s.fld FWU_RECOVER.LEN)

/-- The deck's image is longer than a slot, or not of the length its header gives. -/
abbrev State.hostImageUnfit (s : State) : Prop :=
  slotBytes < s.fld FWU_RECOVER.LEN ∨ s.fld FWU_RECOVER.LEN ≠ leAt s.hostImage 8 4

/-- Slot `k` takes the deck's image, its GEN and TRIAL, and the tollhouse restarts. -/
def State.recovered (s : State) (k : Nat) : State :=
  ((((((s.eraseSlot k).imagePut k 0 s.hostImage).unitRun 2 s.hostImage).putSlotState k slWritten).putTrial k).setFlag
    FWU_STATUS.RECOVERY false).restartTollhouse

/-- What the ROM does with the verdict on the deck's image. -/
def State.recoverJudged (s : State) (bad : Fin 3) : Option Nat → State
  | some st => s.setFld FWU_RECOVER_ERR.ERR (st % 256)
  | none =>
    if s.hostImageUnfit then s.setFld FWU_RECOVER_ERR.ERR 0x02
    else if bad.val = 2 then s.setFld FWU_RECOVER_ERR.ERR 0x09
    else s.recovered (s.fld FWU_RECOVER.SLOT)

theorem State.recoverGo_judged :
    u.recoverGo bad = u.recoverJudged bad (u.imageCheck fun o n => bytesAt u.hostImage o n) := by
  refine (if_neg (by simp [hrecovery, hfree])).trans ?_
  unfold State.hostImage
  dsimp only
  generalize (u.imageCheck fun o n => bytesAt (u.memRead false 0x400000 (u.fld FWU_RECOVER.LEN)) o n) = verdict
  cases verdict <;> rfl

end Recovering
end Transfers

/-- Settles O60: a row takes its message, then its cases in the model's order; END without a transfer, the length of an OFFER and CUT are
log entries 61 to 64, flash writes kept back by a warning log entry 68. -/
theorem firmwareTransfers : Obligations.FirmwareTransfers := by
  unfold Obligations.FirmwareTransfers
  intro s bad p v hawake
  refine ⟨fun r hr => ⟨fun hrestart => exec_transfer_rests hawake hr (.inl hrestart),
    fun hnone => exec_transfer_rests hawake hr (.inr hnone)⟩, ?_⟩
  rw [exec_offer hawake, exec_chunk hawake, exec_fwuEnd hawake, exec_activate hawake, exec_recoverReq hawake, exec_offerRetry hawake,
    exec_recoverReqSend hawake, exec_fwuRecoverGo hawake]
  refine ⟨fun hheld => ⟨by rw [onOffer_held hheld], by rw [onChunk_held hheld], by rw [onFwuEnd_held hheld]⟩,
    fun hrun => ⟨fun hfree => ⟨fun port m u h => ?offer, fun port m u h hrx => by rw [onChunk_noTransfer hrun hfree h hrx],
        fun port m u r h hrx => ?chunk,
        fun port m u h => ⟨fun hrx => by rw [onFwuEnd_noTransfer hrun hfree h hrx], fun r hrx => ?finish⟩⟩,
      fun port m u h => ⟨fun hpeer => by rw [onActivate_peer hrun h hpeer],
        fun hpeer hheld => by rw [onActivate_missing hrun h hpeer hheld],
        fun hpeer hheld hlate => by rw [onActivate_late hrun h hpeer hheld hlate],
        fun hpeer hheld hahead => by rw [onActivate_schedules hrun h hpeer hheld hahead]⟩,
      fun port o h => by rw [onOfferRetry_one hrun h],
      fun port m u h => congrArg _ ((onRecoverReq_taken hrun h).trans ?serve)⟩,
    fun hrests => by rw [onOfferRetry_rests hrests],
    ⟨fun hdue => ⟨_, rfl, by rw [onRecoverReqSend_due hdue]⟩, fun hearly => by rw [onRecoverReqSend_early hearly]⟩,
    fun hrests => by rw [onFwuRecoverGo_rests hrests], fun hopen hgo => ?recover⟩
  case offer =>
    exact ⟨fun hrule => by rw [onOffer_refused hrun hfree h hrule], fun hrule => ⟨_, rfl, congrArg _ (onOffer_accepted hrun hfree h hrule)⟩⟩
  case chunk =>
    exact ⟨fun hunfit => congrArg _ (onChunk_unfit hrun hfree h hrx hunfit),
      fun hfits hbad => congrArg _ ((onChunk_fits hrun hfree h hrx hfits).trans (if_pos hbad)),
      fun hfits hgood => congrArg _ ((onChunk_fits hrun hfree h hrx hfits).trans (if_neg hgood.ne))⟩
  case serve => cases u.activeSlot <;> rfl
  case finish =>
    intro i st w
    have hst : st = u.endStatus r := by
      unfold st i State.endStatus
      generalize u.verifySlot u.spareSlot = verdict
      cases verdict <;> rfl
    have hjudged := onFwuEnd_judged hrun hfree h hrx
    rw [← hst] at hjudged
    clear_value st
    refine ⟨fun hother => by rw [onFwuEnd_other hrun hfree h hrx hother],
      fun hport hhash hfails => congrArg _ ((hjudged hport hhash).trans (if_pos hfails)),
      fun hport hhash hok => ⟨_, rfl, ?_⟩⟩
    have htaken := (hjudged hport hhash).trans (if_neg (not_not_intro hok))
    refine ⟨fun hrecovery => congrArg _ (htaken.trans (if_pos hrecovery)),
      fun hnormal hassist => congrArg _ (htaken.trans ((if_neg (Bool.eq_false_iff.mp hnormal)).trans (congrArg _ (if_pos hassist)))),
      fun hnormal hhw => congrArg _ (htaken.trans ((if_neg (Bool.eq_false_iff.mp hnormal)).trans
        (congrArg _ (if_neg (Bool.eq_false_iff.mp hhw)))))⟩
  case recover =>
    obtain ⟨-, d, hreg, -, -⟩ := regAt_of_registerAt fwuRecover_row
    rw [onFwuRecoverGo_go hreg hopen hgo]
    refine ⟨d, hreg, fun hshut => by rw [State.recoverGo_shut hshut], fun hrecovery hfree => ?_⟩
    have hjudged := State.recoverGo_judged (bad := bad) hrecovery hfree
    refine ⟨fun st hverdict => congrArg _ (hjudged.trans (congrArg _ hverdict)), fun hverdict hunfit => ?_,
      fun hverdict hfits hbad => ?_, fun hverdict hfits hgood => ?_⟩
    · exact congrArg _ ((hjudged.trans (congrArg _ hverdict)).trans (if_pos hunfit))
    · exact congrArg _ ((hjudged.trans (congrArg _ hverdict)).trans ((if_neg hfits).trans (if_pos hbad)))
    · exact congrArg _ ((hjudged.trans (congrArg _ hverdict)).trans ((if_neg hfits).trans (if_neg hgood.ne)))

end Sys2Proof.Machine
